-- ==== Sys2Proof/Word.lean ====
section
/-!
DEFINITION. The words the manual counts in (R6, R7) and the sparse table every large array of the controller is held in.
-/
namespace Sys2Proof

/-- A 64-bit register or core word (R8, R118). -/
abbrev Word := BitVec 64

/-- A byte; memory is little-endian (R7). -/
abbrev Byte := BitVec 8

/-- A 32-bit word. -/
abbrev Word32 := BitVec 32

/-- A sparse table: (key, entry) pairs with keys strictly rising; a key that is not listed holds the table's default entry. -/
abbrev Tbl (α : Type) := List (Nat × α)

/-- The entry of key `k`; an unlisted key holds the default `d k`. -/
def Tbl.get {α : Type} (d : Nat → α) : Tbl α → Nat → α
  | [], k => d k
  | (k', v) :: t, k => if k' = k then v else Tbl.get d t k

/-- Take key `k` out of the list. -/
def Tbl.remove {α : Type} (t : Tbl α) (k : Nat) : Tbl α := t.filter (fun e => e.1 != k)

/-- List key `k` in key order. -/
def Tbl.insert {α : Type} (k : Nat) (v : α) : Tbl α → Tbl α
  | [] => [(k, v)]
  | (k', v') :: t => if k < k' then (k, v) :: (k', v') :: t else (k', v') :: Tbl.insert k v t

/-- Write entry `v` at key `k`: listed in key order, or taken out of the list when it is the default. -/
def Tbl.set {α : Type} [DecidableEq α] (d : Nat → α) (t : Tbl α) (k : Nat) (v : α) : Tbl α :=
  if v = d k then Tbl.remove t k else Tbl.insert k v (Tbl.remove t k)

/-- Change entry `k` by `f`. -/
def Tbl.upd {α : Type} [DecidableEq α] (d : Nat → α) (t : Tbl α) (k : Nat) (f : α → α) : Tbl α :=
  Tbl.set d t k (f (Tbl.get d t k))

/-- Drop every entry whose key satisfies `p`: those keys hold the default again. -/
def Tbl.clear {α : Type} (t : Tbl α) (p : Nat → Bool) : Tbl α :=
  t.filter (fun e => !p e.1)

/-- Keys all above `lo`, strictly rising, and no entry equal to its default. -/
def Tbl.wfFrom {α : Type} [DecidableEq α] (d : Nat → α) : Nat → Tbl α → Bool
  | _, [] => true
  | lo, (k, v) :: t => decide (lo ≤ k) && decide (v ≠ d k) && Tbl.wfFrom d (k + 1) t

/-- The canonical form: keys strictly rising and no entry equal to its default. -/
def Tbl.wf {α : Type} [DecidableEq α] (d : Nat → α) (t : Tbl α) : Bool := Tbl.wfFrom d 0 t

/-- The listed keys. -/
def Tbl.keys {α : Type} (t : Tbl α) : List Nat := t.map (·.1)

/-- Bits [lo + w − 1 : lo] of a number (R7). -/
def bitsOf (v lo w : Nat) : Nat := v / 2 ^ lo % 2 ^ w

/-- A number with its bits [lo + w − 1 : lo] replaced by `f` (mod 2^w). -/
def setBits (v lo w f : Nat) : Nat :=
  v / 2 ^ (lo + w) * 2 ^ (lo + w) + f % 2 ^ w * 2 ^ lo + v % 2 ^ lo

/-- Bit `i` of a number. -/
def bitOf (v i : Nat) : Bool := v / 2 ^ i % 2 == 1

/-- How many of the low `n` bits of `v` are 1. -/
def popCount (v : Nat) : Nat → Nat
  | 0 => 0
  | n + 1 => popCount v n + (if bitOf v n then 1 else 0)

/-- The lowest bit below `n` that is 1. -/
def lowestBit? (v n : Nat) : Option Nat := (List.range n).find? (bitOf v ·)

/-- Little-endian bytes of a number (R7). -/
def leBytes (v : Nat) : Nat → List Byte
  | 0 => []
  | n + 1 => BitVec.ofNat 8 v :: leBytes (v / 256) n

/-- The number that little-endian bytes spell (R7). -/
def leNat : List Byte → Nat
  | [] => 0
  | b :: t => b.toNat + 256 * leNat t

/-- Round `n` up to a multiple of `m`. -/
def roundUp (n m : Nat) : Nat := (n + m - 1) / m * m

/-- A number held at `hi` (saturating counters). -/
def satAdd (v d hi : Nat) : Nat := if v + d ≤ hi then v + d else hi

/-- Replace the first element that satisfies `p`. -/
def replaceFirst {α : Type} (p : α → Bool) (f : α → α) : List α → List α
  | [] => []
  | a :: t => if p a then f a :: t else a :: replaceFirst p f t

/-- Write element `i` of a list (no effect beyond its end). -/
def listSet {α : Type} (l : List α) (i : Nat) (v : α) : List α := l.set i v

end Sys2Proof
end

