-- ==== Sys2Proof/Machine/Amaux.lean ====
section
/-!
DEFINITION. Amaux blocks (R34 to R45) and their quantisation (R49 to R52): formats, scale words, frame offsets, groups and the check sum, as pure
integer arithmetic.
-/
namespace Sys2Proof.Machine

/-! ### Exact rounding (R50, R85) -/

/-- round_half_away(a / b) for b > 0: halves go away from zero (R50). -/
def rha (a : Int) (b : Nat) : Int :=
  if 0 ≤ a then Int.ofNat ((2 * a.toNat + b) / (2 * b)) else -Int.ofNat ((2 * (-a).toNat + b) / (2 * b))

/-- round_half_away(a × 2^s). -/
def rhaShift (a s : Int) : Int := if 0 ≤ s then a * 2 ^ s.toNat else rha a (2 ^ (-s).toNat)

def clipInt (x lo hi : Int) : Int := if x < lo then lo else if hi < x then hi else x

/-- The number of `w` bits as two's complement. -/
def signedOf (v w : Nat) : Int := if v % 2 ^ w < 2 ^ (w - 1) then Int.ofNat (v % 2 ^ w) else Int.ofNat (v % 2 ^ w) - 2 ^ w

/-- Two's complement of `w` bits as a number. -/
def unsignedOf (v : Int) (w : Nat) : Nat := (v % 2 ^ w).toNat

def sumInt (l : List Int) : Int := l.foldl (· + ·) 0

/-! ### Formats and frames (R36, R40, R41) -/

/-- Bits of an element and bytes of a group (R36). FORMAT is 8, 4, 3 or 2. -/
def fmtBits (f : Nat) : Nat := f
def fmtBytes (f : Nat) : Nat := 4 * f
def fmtOk (f : Nat) : Bool := f == 8 || f == 4 || f == 3 || f == 2
def qmaxOf (f : Nat) : Nat := if f = 8 then 127 else if f = 4 then 7 else 3
/-- Head dimension of an HDIM code (R42). -/
def dimOf (h : Nat) : Nat := 64 * 2 ^ h
/-- Frame size (R41). -/
def frameBytes (f d : Nat) : Nat := if f = 8 then 64 + 544 * d else 64 + 80 * d + 64 * f * d
/-- Offset of the element slot of group g (R40). -/
def elemOff (f d g : Nat) : Nat := (if f = 8 then 64 + 32 * d else 64 + 80 * d) + g * fmtBytes f
def scaleOff (g : Nat) : Nat := 64 + 2 * g
def outlierOff (d i : Nat) : Nat := 64 + 32 * d + 4 * i
def promOff (d p : Nat) : Nat := 64 + 64 * d + 32 * p
/-- Capacities of the outlier list and the promotion area (R40). -/
def outlierCap (d : Nat) : Nat := 8 * d
def promCap (d : Nat) : Nat := d / 2
/-- Group index (R35): s is 0 for keys and 1 for values. -/
def groupIx (d s t k : Nat) : Nat := s * 8 * d + t * (d / 32) + k
/-- Token of a group (R35). -/
def tokenOf (d g : Nat) : Nat := g % (8 * d) / (d / 32)

/-- Default threshold τ of a format (R51). -/
def tauDefault (f : Nat) : Nat := if f = 4 then 40 else if f = 3 then 72 else 120

/-! ### Scale words (R38, R39) -/

def swM (w : Nat) : Nat := bitsOf w 0 8
def swE (w : Nat) : Int := signedOf (bitsOf w 8 6) 6
def swKind (w : Nat) : Nat := bitsOf w 14 2
def scaleWord (m : Nat) (e : Int) (kind : Nat) : Nat := kind * 2 ^ 14 + unsignedOf e 6 * 2 ^ 8 + m % 256
/-- A malformed scale word (R39). -/
def swBad (w : Nat) : Bool := swKind w != 3 && swM w < 128
/-- A scale word an input record or a query record may hold (R46, R82): KIND 00 with M from 128, or KIND 11. -/
def swInput (w : Nat) : Bool := (swKind w == 0 && 128 ≤ swM w) || swKind w == 3

/-! ### Rotation (R49) -/

/-- The unnormalised Sylvester–Hadamard transform of 2^k elements. -/
def hadamard : Nat → List Int → List Int
  | 0, x => x
  | k + 1, x =>
    let a := hadamard k (x.take (2 ^ k))
    let b := hadamard k (x.drop (2 ^ k))
    List.zipWith (· + ·) a b ++ List.zipWith (· - ·) a b

/-- log2 of a head dimension. -/
def dimLog (d : Nat) : Nat := if d = 64 then 6 else if d = 128 then 7 else 8

/-! ### Quantising one group (R50 to R52) -/

/-- A group: KIND, multiplier M, shift e before its range is checked, codes (0 at an outlier), outliers by ascending element. -/
structure Group where
  kind : Nat
  m : Nat
  e : Int
  q : List Int
  outl : List (Nat × Int)
  deriving DecidableEq, Repr

def zeroGroup : Group := { kind := 3, m := 0, e := 0, q := List.replicate 32 0, outl := [] }

/-- Decoded values with the outliers substituted (R43). -/
def Group.values (g : Group) : List Int :=
  (List.range 32).map (fun i => match g.outl.find? (fun o => o.1 == i) with | some o => o.2 | none => g.q.getD i 0)

/-- Put an index in descending order of magnitude, ties to the lower index. -/
def insertMag (n : List Int) (i : Nat) : List Nat → List Nat
  | [] => [i]
  | j :: t => if (n.getD j 0).natAbs < (n.getD i 0).natAbs then i :: j :: t else j :: insertMag n i t

/-- Element indices by descending magnitude (R50). -/
def byMagnitude (n : List Int) : List Nat := (List.range n.length).foldl (fun l i => insertMag n i l) []

/-- floor(log2(a / b)) for a, b > 0. -/
def floorLog (a b : Nat) : Int :=
  if b ≤ a then Int.ofNat (Nat.log2 (a / b))
  else -Int.ofNat (((List.range 64).find? (fun l => b ≤ a * 2 ^ l)).getD 0)

/-- The procedure of R50 on exact inputs n, of which k elements may become outliers: `et` is E_t. -/
def quantise (f qmax : Nat) (outliers : Bool) (et : Int) (n : List Int) : Group :=
  let ord := byMagnitude n
  let mag (i : Nat) : Nat := (n.getD (ord.getD i 0) 0).natAbs
  let k := if outliers then ((List.range 4).filter (fun j => 2 * mag 4 < mag j)).length else 0
  let base := max (mag k) ((mag 0 * qmax + 126) / 127)
  if base = 0 then zeroGroup
  else
    let j := floorLog base qmax - 7
    let up := 2 ^ (-j).toNat
    let down := 2 ^ j.toNat
    let m := (base * up + qmax * down - 1) / (qmax * down)
    let mj : Nat × Int := if m = 256 then (128, j + 1) else (m, j)
    let D := mj.1 * 2 ^ mj.2.toNat
    let x (i : Nat) : Int := n.getD i 0 * 2 ^ (-mj.2).toNat
    let isOut (i : Nat) : Bool := (ord.take k).contains i
    let code (i : Nat) : Int :=
      if isOut i then 0
      else if f = 2 then clipInt (2 * (x i / (2 * D)) + 1) (-3) 3
      else clipInt (rha (x i) D) (-qmax) qmax
    { kind := if 0 < k then 1 else 0, m := mj.1, e := et + mj.2, q := (List.range 32).map code,
      outl := ((List.range 32).filter isOut).map (fun i => (i, rha (x i) D)) }

/-- The error bound of R51, with τ in units of 1/256. -/
def boundOk (tau : Nat) (et : Int) (n : List Int) (g : Group) : Bool :=
  let j := g.e - et
  let D := g.m * 2 ^ j.toNat
  let up : Int := 2 ^ (-j).toNat
  let res := (List.zipWith (fun v q => (v * up - q * D).natAbs) n g.values).foldl (· + ·) 0
  256 * res ≤ tau * (n.foldl (fun a v => a + (v * up).natAbs) 0)

/-- One group of a record as ingest stores it (R50, R51): a failing group is promoted. -/
def ingestGroup (f tau : Nat) (et : Int) (n : List Int) : Group :=
  let g := quantise f (qmaxOf f) (f != 8) et n
  if f = 8 ∨ g.kind = 3 ∨ boundOk tau et n g then g
  else
    let p := quantise 8 127 false et n
    if p.kind = 3 then p else { p with kind := 2 }

/-- The groups of one vector of a record: keys are rotated (R49), `w` is the input scale word. -/
def ingestVector (f d tau : Nat) (rotate : Bool) (w : Nat) (x : List Int) : List Group :=
  if swKind w = 3 then List.replicate (d / 32) zeroGroup
  else
    let v := if rotate then hadamard (dimLog d) x else x
    let n := v.map (fun y => y * Int.ofNat (swM w))
    (List.range (d / 32)).map (fun k => ingestGroup f tau (swE w) ((n.drop (32 * k)).take 32))

/-- Check 5 of R596: the shift fits (R52). -/
def Group.inRange (g : Group) : Bool := g.kind == 3 || (-32 ≤ g.e && g.e ≤ 31)

/-- The stored scale word (R38). -/
def Group.word (g : Group) : Nat := if g.kind = 3 then 3 * 2 ^ 14 else scaleWord g.m g.e g.kind

/-- The code of a decoded value in a format (R36). -/
def codeOf (f : Nat) (v : Int) : Nat := if f = 2 then unsignedOf ((v + 3) / 2) 2 else unsignedOf v (fmtBits f)

/-- The element slot's bytes: 0 for a promoted or zero group, and at an outlier (R43, R44). -/
def Group.field (f : Nat) (g : Group) : List Byte :=
  if g.kind = 2 ∨ g.kind = 3 then List.replicate (fmtBytes f) 0
  else
    let v := (List.range 32).foldl (fun a i =>
      if g.outl.any (fun o => o.1 == i) then a else a + codeOf f (g.q.getD i 0) * 2 ^ (fmtBits f * i)) 0
    leBytes v (fmtBytes f)

/-- The AX8 codes of a promoted group (R44). -/
def Group.promBytes (g : Group) : List Byte := (List.range 32).map (fun i => BitVec.ofNat 8 (unsignedOf (g.q.getD i 0) 8))

/-- An outlier-list entry (R43). -/
def outlierEntry (g : Nat) (o : Nat × Int) : Nat := unsignedOf o.2 8 + o.1 * 2 ^ 8 + g * 2 ^ 16

/-- One group's term of the check sum (R45). -/
def checkTerm (g : Nat) (sum : Int) (word : Nat) : Nat := (2 * g + 1) * unsignedOf (sum + Int.ofNat word) 16

/-- The check-sum terms of one token's vector of groups. -/
def checkTerms (d s t : Nat) (gs : List Group) : Nat :=
  (List.range gs.length).foldl (fun a k =>
    match gs[k]? with
    | none => a
    | some g => a + checkTerm (groupIx d s t k) (sumInt g.values) g.word) 0

/-! ### Reading a block (R36, R43, R44, R81, R98) -/

/-- Bytes of a frame by line offset: the lines that have been read. -/
abbrev FrameImg := List (Nat × List Byte)

def FrameImg.byte (im : FrameImg) (o : Nat) : Byte :=
  match im.find? (fun l => l.1 == o / 64) with
  | some l => l.2.getD (o % 64) 0
  | none => 0

def FrameImg.num (im : FrameImg) (o n : Nat) : Nat := leNat ((List.range n).map (fun i => im.byte (o + i)))

/-- A block header (R42). -/
structure Header where
  format : Nat
  hdim : Nat
  tokens : Nat
  layer : Nat
  head : Nat
  first : Nat
  outliers : Nat
  promoted : Nat
  checksum : Nat
  flags : Nat
  seq : Nat
  deriving DecidableEq, Repr

def headerOf (b : List Byte) : Header :=
  let n (o k : Nat) : Nat := leNat ((b.drop o).take k)
  { format := n 0 1, hdim := n 1 1, tokens := n 2 2, layer := n 4 2, head := n 6 2, first := n 8 8, outliers := n 16 2,
    promoted := n 18 2, checksum := n 20 2, flags := n 22 1, seq := n 24 4 }

def Header.bytes (h : Header) : List Byte :=
  leBytes h.format 1 ++ leBytes h.hdim 1 ++ leBytes h.tokens 2 ++ leBytes h.layer 2 ++ leBytes h.head 2 ++ leBytes h.first 8
    ++ leBytes h.outliers 2 ++ leBytes h.promoted 2 ++ leBytes h.checksum 2 ++ leBytes h.flags 1 ++ leBytes 0 1 ++ leBytes h.seq 4
    ++ leBytes 0 36

/-- Group indices of token t in ingest order: keys before values, ascending k (R43). -/
def tokenGroups (d t : Nat) : List Nat :=
  (List.range (d / 32)).map (groupIx d 0 t) ++ (List.range (d / 32)).map (groupIx d 1 t)

/-- Group indices of tokens 0 to m − 1 in ingest order. -/
def groupsBelow (d m : Nat) : List Nat := (List.range m).flatMap (tokenGroups d)

/-- Lines [a, b) of a span, as line numbers. -/
def spanLines (a b : Nat) : List Nat := if b ≤ a then [] else (List.range ((b + 63) / 64 - a / 64)).map (· + a / 64)

/-- Scale-word lines of the tokens read (R81). -/
def scaleLines (d m : Nat) : List Nat :=
  spanLines 64 (64 + 2 * (m * (d / 32))) ++ spanLines (64 + 16 * d) (64 + 16 * d + 2 * (m * (d / 32)))

/-- Element lines of the tokens read (R81). -/
def elemLines (f d m : Nat) : List Nat :=
  spanLines (elemOff f d 0) (elemOff f d (m * (d / 32))) ++ spanLines (elemOff f d (8 * d)) (elemOff f d (8 * d + m * (d / 32)))

/-- Outlier entries of the tokens read: from the list's start to the first entry of a token at or above m (R43). -/
def usedOutliers (im : FrameImg) (d m : Nat) : Nat → Nat → List (Nat × Nat × Int)
  | _, 0 => []
  | i, n + 1 =>
    let v := im.num (outlierOff d i) 4
    let g := bitsOf v 16 13
    if m ≤ tokenOf d g then [] else (g, bitsOf v 8 5, signedOf (bitsOf v 0 8) 8) :: usedOutliers im d m (i + 1) n

/-- Promotion slot of a group: the number of groups of KIND 10 before it in ingest order (R44). -/
def promSlot (im : FrameImg) (d g : Nat) : Nat :=
  let before := (groupsBelow d (tokenOf d g + 1)).takeWhile (· != g)
  (before.filter (fun x => swKind (im.num (scaleOff x) 2) == 2)).length

/-- How many of the tokens read are promoted groups. -/
def promCount (im : FrameImg) (d m : Nat) : Nat := ((groupsBelow d m).filter (fun x => swKind (im.num (scaleOff x) 2) == 2)).length

/-- The decoded value of a code (R36). -/
def decodeCode (f c : Nat) : Int := if f = 2 then 2 * Int.ofNat (c % 4) - 3 else signedOf c (fmtBits f)

/-- Decode one group of a frame (R36, R43, R44): its 32 values. -/
def decodeValues (im : FrameImg) (f d g : Nat) (outl : List (Nat × Nat × Int)) : List Int :=
  let w := im.num (scaleOff g) 2
  if swKind w = 3 then List.replicate 32 0
  else if swKind w = 2 ∧ f ≠ 8 then
    let p := promSlot im d g
    (List.range 32).map (fun i => signedOf ((im.byte (promOff d p + i)).toNat) 8)
  else
    let fld := im.num (elemOff f d g) (fmtBytes f)
    (List.range 32).map (fun i =>
      match outl.find? (fun o => o.1 == g && o.2.1 == i) with
      | some o => if swKind w = 1 then o.2.2 else decodeCode f (bitsOf fld (fmtBits f * i) (fmtBits f))
      | none => decodeCode f (bitsOf fld (fmtBits f * i) (fmtBits f)))

/-- Σ over the groups of tokens below m of the check-sum terms (R45). -/
def checkSum (im : FrameImg) (f d m : Nat) (outl : List (Nat × Nat × Int)) : Nat :=
  ((groupsBelow d m).foldl (fun a g => a + checkTerm g (sumInt (decodeValues im f d g outl)) (im.num (scaleOff g) 2)) 0) % 2 ^ 16

end Sys2Proof.Machine
end

