-- ==== Sys2Proof/Operand.lean ====
section
/-!
DEFINITION. Operands of commands that have more than one part.
-/
namespace Sys2Proof

/-- A client's answer to a snoop that an agent without a cache causes within one command (R346, R358): the client, the line's PA, the STATUS of
its SNP_RSP, and the data and poison mark of its FWD_DATA or WRITEBACK. A client that a command snoops and that has no answer here holds no copy. -/
structure SnoopAnswer where
  ep : Nat
  pa : Nat
  status : Nat
  poison : Bool
  data : List Byte
  deriving DecidableEq, Repr

/-- A burst of errors of a lane (R290, R291): so many uncorrectable codewords and corrected symbols within `us` microseconds. -/
structure LaneBurst where
  link : Fin 9
  lane : Fin 16
  uncorrectable : Nat
  corrected : Nat
  us : Nat
  deriving DecidableEq, Repr

/-- The two header words of a packet without payload (R307). -/
structure PacketHead where
  w0 : Word
  w1 : Word
  deriving DecidableEq, Repr

/-- What follows a MIRROR_WRITE's header words (R310): its payload, and each line's SUMMARY and HEAT, to which the manual's packet gives no place (log entry 93). -/
structure MirrorBody where
  payload : List Byte
  side : List (BitVec 2 × BitVec 16)
  deriving DecidableEq, Repr

/-- What a channel finds at a command slot: the errors of the line it reads (R396, R398), as (symbol, error value) pairs, and the places of the bank's
activate-count table whose parity check fails (R207). -/
structure IssueFaults where
  errors : List (Nat × Nat)
  parity : List (Fin 16)
  deriving DecidableEq, Repr

/-- What a unit reports (R541): kind 0 alarm, 1 log, 2 trace; its severity and code, the trace kind of MGMT_TRACE, the unit's cycle count, and DATA. -/
structure Report where
  kind : Fin 3
  sev : Fin 4
  code : BitVec 16
  trace : Fin 32
  cycles : BitVec 32
  data : List Byte
  deriving DecidableEq, Repr

/-- Functions of a register-register operation (R122). -/
inductive AluFn where
  | add | sub | bitAnd | bitOr | bitXor | sll | srl | sra | slt | sltu | min | max | minu | maxu
  | mul | mulh | mulhu | div | divu | rem | remu | popc | clz | ctz
  deriving DecidableEq, Repr

/-! ### Slots of a Chotaum-T bundle (R143 to R154). `bad` is a slot that R143 calls illegal. -/

/-- The S slot (R150). -/
inductive SOp where
  | nop | bad
  | sblk (sd ta tb : Fin 16)
  | slin (sd ta : Fin 16) (sram : BitVec 14)
  | swrt (sd ta : Fin 16) (sram : BitVec 14)
  | ssend (sd ta : Fin 16)
  | srecv (sd td : Fin 16)
  | swait (sd tb : Fin 16) (mode : BitVec 14)
  | scopy (sd sa : Fin 16)
  | sset (sd ta : Fin 16) (field : BitVec 14)
  deriving DecidableEq, Repr

/-- The V slot (R151). -/
inductive VOp where
  | nop | bad
  | vld (vd : Fin 32) (ta : Fin 16) (imm : BitVec 16)
  | vst (vs : Fin 32) (ta : Fin 16) (imm : BitVec 16)
  | vop (vd va vb : Fin 32) (width : Fin 4) (fn : BitVec 9)
  | vbc (vd : Fin 32) (ta : Fin 16) (width : Fin 4)
  | vrotq (td ta tb : Fin 16)
  deriving DecidableEq, Repr

/-- The M slot (R153). -/
inductive MOp where
  | nop | bad
  | mclr (ta : Fin 16) (n : BitVec 14)
  | mscore (tl tq tb : Fin 16)
  | msoft
  | macc (tl tb : Fin 16)
  | msave (ta : Fin 16) (mode : BitVec 14)
  | mload (ta : Fin 16)
  | mcomb (td ta : Fin 16)
  | mnorm (td ta : Fin 16)
  deriving DecidableEq, Repr

/-- The C slot (R154). -/
inductive COp where
  | nop | bad
  | talu (td ta tb : Fin 16) (fn : AluFn)
  | talui (td ta fn4 : Fin 16) (imm : BitVec 14)
  | tli (td : Fin 16) (imm : BitVec 21)
  | tld (td ta : Fin 16) (imm : BitVec 14)
  | tst (ts ta : Fin 16) (imm : BitVec 14)
  | br (cond ta tb : Fin 16) (imm : BitVec 14)
  | loop (ta : Fin 16) (imm : BitVec 14)
  | sget (td sa : Fin 16) (field : BitVec 14)
  | sync
  | endProgram
  | trap (imm : BitVec 14)
  deriving DecidableEq, Repr

/-- What the error code of a core's SRAM or cache finds while an instruction is fetched or run (R135, R557): nothing, an error it corrects, or one it
cannot, with its address. -/
inductive Ecc where
  | ok
  | corrected
  | ue (addr : Word)
  deriving DecidableEq, Repr

/-- An error that a Tarn finds in a bundle's cycle (R81, R104, R113): none, a corrected one, an uncorrectable one in block SRAM, or in program memory. -/
inductive TarnEcc where
  | ok
  | corrected
  | sram
  | pmem
  deriving DecidableEq, Repr

/-- A bundle: its four slots (R143), the answers of clients that a transfer out of block SRAM snoops, and the error its memories show. -/
structure Bundle where
  s : SOp := .nop
  v : VOp := .nop
  m : MOp := .nop
  c : COp := .nop
  answers : List SnoopAnswer := []
  ecc : TarnEcc := .ok
  deriving DecidableEq, Repr

end Sys2Proof
end

