-- ==== Sys2Proof/Machine/Alu.lean ====
section
/-!
DEFINITION. The register-register functions both profiles of Chotaum share (R122, R123), on words of `w` bits held as numbers below 2^w.
-/
namespace Sys2Proof.Machine

/-- Leading zeros of a number of `w` bits. -/
def leadingZeros (v : Nat) : Nat → Nat
  | 0 => 0
  | n + 1 => if bitOf v n then 0 else 1 + leadingZeros v n

/-- Trailing zeros of a number of `w` bits, from bit `i`; `n` bits are left. -/
def trailingZeros (v i : Nat) : Nat → Nat
  | 0 => 0
  | n + 1 => if bitOf v i then 0 else 1 + trailingZeros v (i + 1) n

/-- Rotate right within `w` bits. -/
def rotRight (w a n : Nat) : Nat := (a / 2 ^ (n % w) + a * 2 ^ (w - n % w)) % 2 ^ w

/-- Signed quotient rounded toward zero, and the remainder with the sign of the dividend; a divisor of 0 gives all ones and the dividend (R122, R123). -/
def divSigned (w a b : Nat) : Nat × Nat :=
  if b = 0 then (2 ^ w - 1, a)
  else
    let x := signedOf a w
    let y := signedOf b w
    (unsignedOf (Int.tdiv x y) w, unsignedOf (Int.tmod x y) w)

/-- R122. Shift amounts are the low log2 w bits of the second operand. -/
def aluFn (w : Nat) (fn : AluFn) (a b : Nat) : Nat :=
  let sh := b % w
  match fn with
  | .add => (a + b) % 2 ^ w
  | .sub => (a + 2 ^ w - b % 2 ^ w) % 2 ^ w
  | .bitAnd => a &&& b
  | .bitOr => a ||| b
  | .bitXor => a ^^^ b
  | .sll => a * 2 ^ sh % 2 ^ w
  | .srl => a / 2 ^ sh
  | .sra => unsignedOf (signedOf a w / 2 ^ sh) w
  | .slt => if signedOf a w < signedOf b w then 1 else 0
  | .sltu => if a < b then 1 else 0
  | .min => if signedOf b w < signedOf a w then b else a
  | .max => if signedOf a w < signedOf b w then b else a
  | .minu => if b < a then b else a
  | .maxu => if a < b then b else a
  | .mul => a * b % 2 ^ w
  | .mulh => unsignedOf (signedOf a w * signedOf b w / 2 ^ w) w
  | .mulhu => a * b / 2 ^ w % 2 ^ w
  | .div => (divSigned w a b).1
  | .divu => if b = 0 then 2 ^ w - 1 else a / b
  | .rem => (divSigned w a b).2
  | .remu => if b = 0 then a else a % b
  | .popc => popCount a w
  | .clz => leadingZeros a w
  | .ctz => trailingZeros a 0 w

/-- FN of a Chotaum-W ALU word (R122). -/
def aluOf (fn : Nat) : Option AluFn :=
  match fn with
  | 0x001 => some .add | 0x002 => some .sub | 0x003 => some .bitAnd | 0x004 => some .bitOr | 0x005 => some .bitXor
  | 0x006 => some .sll | 0x007 => some .srl | 0x008 => some .sra | 0x009 => some .slt | 0x00A => some .sltu
  | 0x00B => some .min | 0x00C => some .max | 0x00D => some .minu | 0x00E => some .maxu
  | 0x010 => some .mul | 0x011 => some .mulh | 0x012 => some .mulhu
  | 0x014 => some .div | 0x015 => some .divu | 0x016 => some .rem | 0x017 => some .remu
  | 0x018 => some .popc | 0x019 => some .clz | 0x01A => some .ctz
  | _ => none

/-- The functions TALU may name: 0x001 to 0x00E and 0x010 (R154). -/
def tarnFn : AluFn → Bool
  | .mulh | .mulhu | .div | .divu | .rem | .remu | .popc | .clz | .ctz => false
  | _ => true

end Sys2Proof.Machine
end

