-- ==== Sys2Proof/Config.lean ====
section
/-!
DEFINITION. What the manual leaves open, as constants with no body: nothing in Lean can evaluate one, so a statement that holds, holds
whatever they are. A constant that gives a fresh value each time takes the counter State.fresh, which the step reads and advances.
-/
namespace Sys2Proof

/-- Byte `i` of a line whose check code failed, as the channel read it (R400: "As read"). Log entry 20. -/
opaque Config.asRead : Nat → Nat → Byte
/-- Byte `i` of a line decrypted under a key other than the one it was encrypted under (R463: unpredictable). Log entry 21. -/
opaque Config.wrongKey : Nat → Nat → Byte
/-- A draw of a Pond's 32-bit generator, seeded by the security block at L1 (R207), and of the heat sampler (R223). Log entry 22. -/
opaque Config.draw : Nat → Nat
/-- SHAKE256 of a byte string, first `n` bytes (FIPS 202; R479 to R481, R467). Log entry 23. -/
opaque Config.shake256 : List Byte → Nat → List Byte
/-- The rank a Spillway line lies in, by the channel controller's own hash (R214, R398, R402). Log entry 44. -/
opaque Config.spillRank : Nat → Nat
/-- The bank and the row of a 128-byte pair of a Spillway channel, by the channel controller's fixed hash, "internal and not defined" (R214, R402). Log
entry 31. -/
opaque Config.spillBank : Nat → Nat
opaque Config.spillRow : Nat → Nat
/-- A byte of the boot ROM, at an offset (R125). Log entry 43. -/
opaque Config.bootRom : Nat → Byte
/-- Whether a signature over a message verifies under a public key (R472, R473, R483). Log entry 23. -/
opaque Config.verifies : (pubkey message signature : List Byte) → Bool
/-- An identity signature with signing index `n` over a message (R477). Log entry 23. -/
opaque Config.sign : (index : Nat) → List Byte → List Byte
/-- ML-KEM-1024 decapsulation under the KEK of this number: the shared secret (R467, FIPS 203). Log entry 23. -/
opaque Config.decapsulate : (kek : Nat) → List Byte → List Byte
/-- AES-256 key unwrap (SP 800-38F KW): none when the integrity check fails (R467, R469). Log entry 23. -/
opaque Config.unwrap : (key wrapped : List Byte) → Option (List Byte)
/-- ML-KEM-1024 encapsulation to an encapsulation key with fresh randomness: the ciphertext and the shared secret; and AES-256 key wrap (R467, R470). Log entry 23. -/
opaque Config.encapsulate : (key : List Byte) → (seed : Nat) → List Byte × List Byte
opaque Config.wrap : (key plain : List Byte) → List Byte
/-- The encapsulation key of a KEK, 1,568 B (R467). Log entry 23. -/
opaque Config.encapKey : (kek : Nat) → List Byte
/-- The controller's certificate and identity material in reports (R475, R481). Log entry 23. -/
opaque Config.certificate : List Byte
/-- The directory-cache set of a line, below 262,144: "a fixed hash of PA[47:6]" that R340 does not give. Log entry 37. -/
opaque Config.dirSet : Nat → Nat
/-- What the manual does not print of a Walsyn program image (R170, R171): the entry bundle of role 0 to 2 of an image (fields 0 to 2), and the
format, dimension and G masks of an image other than 0x0001 (fields 3 to 5), its bundles less 1 (field 6), the entry bundle of the ingest role (field 7). Log
entry 40. -/
opaque Config.walsyn : (image field : Nat) → Nat
/-- Identity public key: root, then SEED, 64 B (R475, R481). Log entry 23. -/
opaque Config.identityPub : List Byte
/-- ROM_MEAS of a stepping, 32 B (R479). Log entry 48. -/
opaque Config.romMeas : (stepping : Nat) → List Byte
/-- The measurement of a Walsyn program image, 32 B (R479). Log entry 48. -/
opaque Config.walsynMeas : (image : Nat) → List Byte
/-- The triplicated word that mirrors the identity's signing counter (R410, R477): its number, which the manual does not give. Log entry 48. -/
opaque Config.counterWord : Nat
/-- The DIMMs a Spillway channel finds when it trains (R216), and the offsets of the runs a joining partner reserves (R450), where a control core's store and not
a row's operand sets the command going. Log entry 103. -/
opaque Config.dimms : (channel : Nat) → List (Nat × Nat)
opaque Config.shadowOffsets : Nat → List Nat
/-- The program image of quadrant q's Steward within a firmware image's code (R21), whose place the manual does not give. Log entry 122. -/
opaque Config.stewardImage : (code : List Byte) → (q : Nat) → List Byte
/-- A value the manual leaves open or undefined, a fresh one for each number. Log entry 24. -/
opaque Config.freeNat : Nat → Nat

end Sys2Proof
end

