-- ==== Sys2Proof/Machine/Fields.lean ====
section
/-!
DEFINITION. The register map of BAR0 (R8 to R14): where each register stands and what its fields are, written from the register tables of the chapters.
Names are the manual's: R.<REGISTER> is a register's BAR0 offset, F.<REGISTER>_<FIELD> one of its fields.
-/
namespace Sys2Proof.Machine

/-- The access codes of R10. -/
inductive Acc where
  | rw | ro | w1c | w1s | wo | rwl
  deriving DecidableEq, Repr

/-- One field of a register table: its name, its bits, its access code, its Reset value, the range a write is held to, and
whether a write of it has a row of its own in the table of operations (R10). -/
structure Fld where
  name : String
  lo : Nat
  w : Nat
  acc : Acc
  rst : Nat := 0
  rng : Option (Nat × Nat) := none
  own : Bool := false
  deriving DecidableEq, Repr

/-- The blocks of BAR0, in the order About the GZC-9600 lists them. The PAIR registers lie in the TWIN block (R456); TWIN is number 8 of MERE (R304). -/
inductive Blk where
  | glob | rst | clk | pwr | mere | pair | shal | xlat | dir | qos | job | tarn | pond | spill | ras | sec | mgmt | well
  deriving DecidableEq, Repr

namespace R

/-- Base of the GLOB block (R556). -/
def GLOB_BASE : Nat := 0x0
def GLOB_ID : Nat := GLOB_BASE + 0x0
def GLOB_CAP : Nat := GLOB_BASE + 0x8
def GLOB_STATUS : Nat := GLOB_BASE + 0x10

/-- Base of the RST block (R519). -/
def RST_BASE : Nat := 0x100000
def RST_CAUSE : Nat := RST_BASE + 0x0
def RST_LAST : Nat := RST_BASE + 0x8
def RST_LEVELMAP : Nat := RST_BASE + 0x10
def RST_SWRESET : Nat := RST_BASE + 0x18
def RST_WDOG : Nat := RST_BASE + 0x20
def RST_UNIT : Nat := RST_BASE + 0x28
def RST_DELAY : Nat := RST_BASE + 0x30
def RST_LOCK : Nat := RST_BASE + 0x38

/-- Base of the CLK block (R521). -/
def CLK_BASE : Nat := 0x110000
def CLK_SRCSTAT : Nat := CLK_BASE + 0x0
def CLK_SEL : Nat := CLK_BASE + 0x8
def CLK_CFG : Nat := CLK_BASE + 0x10
def CLK_ERR : Nat := CLK_BASE + 0x18
def CLK_ERRMASK : Nat := CLK_BASE + 0x20
def CLK_LOCK : Nat := CLK_BASE + 0x28

/-- Base of the PWR block (R524). -/
def PWR_BASE : Nat := 0x120000
def PWR_CTRL : Nat := PWR_BASE + 0x0
def PWR_STATUS : Nat := PWR_BASE + 0x8
def PWR_CAP : Nat := PWR_BASE + 0x10
def PWR_THERM : Nat := PWR_BASE + 0x18
def PWR_ERR : Nat := PWR_BASE + 0x20
def PWR_ERRMASK : Nat := PWR_BASE + 0x28
def PWR_LOCK : Nat := PWR_BASE + 0x30
def PWR_CNTCLR : Nat := PWR_BASE + 0x38
def PWR_FEED_STATUS : Nat := PWR_BASE + 0x200
def PWR_FEED_CFG : Nat := PWR_BASE + 0x208
def PWR_FEED_CMD : Nat := PWR_BASE + 0x210
/-- ms with CAP_ACTIVE set -/
def PWR_CNT_CAP_MS : Nat := PWR_BASE + 0x100
/-- ms with THERM_ACTIVE set -/
def PWR_CNT_THERM_MS : Nat := PWR_BASE + 0x108
/-- Operating-point changes -/
def PWR_CNT_PT_CHANGES : Nat := PWR_BASE + 0x110

/-- Base of the MERE block (R298). -/
def MERE_BASE (n : Nat) : Nat := 0x200000 + n * 0x10000
def MERE_ID (n : Nat) : Nat := MERE_BASE n + 0x0
def MERE_CTRL (n : Nat) : Nat := MERE_BASE n + 0x8
def MERE_LINKSTAT (n : Nat) : Nat := MERE_BASE n + 0x10
def MERE_ERR (n : Nat) : Nat := MERE_BASE n + 0x18
def MERE_ERRMASK (n : Nat) : Nat := MERE_BASE n + 0x20
def MERE_LANECFG (n : Nat) : Nat := MERE_BASE n + 0x28
def MERE_TIMERS (n : Nat) : Nat := MERE_BASE n + 0x30
def MERE_CREDIT0 (n : Nat) : Nat := MERE_BASE n + 0x38
def MERE_CREDIT1 (n : Nat) : Nat := MERE_BASE n + 0x40
def MERE_PORTID (n : Nat) : Nat := MERE_BASE n + 0x48
def MERE_PEERID (n : Nat) : Nat := MERE_BASE n + 0x50
def MERE_LOCK (n : Nat) : Nat := MERE_BASE n + 0x58
def MERE_CNTCLR (n : Nat) : Nat := MERE_BASE n + 0x60
def MERE_LANESTAT (n : Nat) (e : Nat) : Nat := MERE_BASE n + 0x200 + 0x8 * e
/-- Route-table entry e (R297). -/
def ROUTE (e : Nat) : Nat := MERE_BASE 0 + 0x8000 + 8 * e
/-- Sequenced flits sent, replays included -/
def MERE_CNT_FLITS_TX (n : Nat) : Nat := MERE_BASE n + 0x100
/-- Flits accepted -/
def MERE_CNT_FLITS_RX (n : Nat) : Nat := MERE_BASE n + 0x108
/-- Flits dropped under R279 -/
def MERE_CNT_CRC_FAIL (n : Nat) : Nat := MERE_BASE n + 0x110
/-- NAKs sent -/
def MERE_CNT_NAKS (n : Nat) : Nat := MERE_BASE n + 0x118
/-- Replays started -/
def MERE_CNT_REPLAYS (n : Nat) : Nat := MERE_BASE n + 0x120
/-- Symbols corrected, all lanes -/
def MERE_CNT_FEC_CORR (n : Nat) : Nat := MERE_BASE n + 0x128
/-- Uncorrectable codewords, all lanes -/
def MERE_CNT_FEC_UNCORR (n : Nat) : Nat := MERE_BASE n + 0x130
/-- Retrains and width changes -/
def MERE_CNT_RETRAINS (n : Nat) : Nat := MERE_BASE n + 0x138
/-- Links declared broken -/
def MERE_CNT_BREAKS (n : Nat) : Nat := MERE_BASE n + 0x140

/-- Base of the SHAL block (R334). -/
def SHAL_BASE : Nat := 0x300000
def SHAL_CFG : Nat := SHAL_BASE + 0x0
def SHAL_STATUS : Nat := SHAL_BASE + 0x8
def SHAL_ERR : Nat := SHAL_BASE + 0x10
def SHAL_ERRMASK : Nat := SHAL_BASE + 0x18
def SHAL_PROTOLOG : Nat := SHAL_BASE + 0x20
def SHAL_LOCK : Nat := SHAL_BASE + 0x28
def SHAL_CNTCLR : Nat := SHAL_BASE + 0x30
def SHAL_PRIV_CTL (e : Nat) : Nat := SHAL_BASE + 0x1000 + 0x40 * e
def SHAL_PRIV_TEN (e v : Nat) : Nat := SHAL_BASE + 0x1008 + 0x40 * e + 8 * v
/-- Mesh packets injected -/
def SHAL_CNT_INJECTED : Nat := SHAL_BASE + 0x100
/-- Mesh packets ejected, multicast copies included -/
def SHAL_CNT_EJECTED : Nat := SHAL_BASE + 0x108
/-- Deflections under R323 -/
def SHAL_CNT_DEFLECTIONS : Nat := SHAL_BASE + 0x110
/-- Multicast packets injected -/
def SHAL_CNT_MULTICASTS : Nat := SHAL_BASE + 0x118
/-- Throttles raised -/
def SHAL_CNT_STARVE_EVENTS : Nat := SHAL_BASE + 0x120
/-- Cycles with THROTTLE set -/
def SHAL_CNT_THROTTLE_CYCLES : Nat := SHAL_BASE + 0x128
/-- Transactions discarded under R330 -/
def SHAL_CNT_PROTO_ERRORS : Nat := SHAL_BASE + 0x130
/-- Malformed fabric packets -/
def SHAL_CNT_BAD_PACKETS : Nat := SHAL_BASE + 0x138
/-- Bulk packets answered DENIED -/
def SHAL_CNT_PRIV_DENIED : Nat := SHAL_BASE + 0x140

/-- Base of the XLAT block (R263). -/
def XLAT_BASE : Nat := 0x400000
def XLAT_CFG : Nat := XLAT_BASE + 0x0
def XLAT_STATUS : Nat := XLAT_BASE + 0x8
def XLAT_ERR : Nat := XLAT_BASE + 0x10
def XLAT_ERRMASK : Nat := XLAT_BASE + 0x18
def XLAT_CMD : Nat := XLAT_BASE + 0x20
def XLAT_CMDARG0 : Nat := XLAT_BASE + 0x28
def XLAT_CMDARG1 : Nat := XLAT_BASE + 0x30
def XLAT_CMDARG2 : Nat := XLAT_BASE + 0x38
def XLAT_CMDRES : Nat := XLAT_BASE + 0x40
def XLAT_FQ_PTR : Nat := XLAT_BASE + 0x48
def XLAT_FQ_OVF : Nat := XLAT_BASE + 0x50
def XLAT_FQ_OVFADDR : Nat := XLAT_BASE + 0x58
def XLAT_TAGERR : Nat := XLAT_BASE + 0x60
def XLAT_TAGADDR : Nat := XLAT_BASE + 0x68
def XLAT_CNTCLR : Nat := XLAT_BASE + 0x70
def XLAT_FQ_ENTRY (e v : Nat) : Nat := XLAT_BASE + 0x8000 + 0x20 * e + 8 * v
/-- Faults of KIND 0 to 3, whether they took an entry or were answered FAULT_QUEUE_FULL -/
def XLAT_CNT_S1_FAULTS : Nat := XLAT_BASE + 0x100
/-- Faults of KIND 4 and 5, whether they took an entry or were answered FAULT_QUEUE_FULL -/
def XLAT_CNT_S2_FAULTS : Nat := XLAT_BASE + 0x108
/-- Faults in which some bytes passed, whether they took an entry or were answered FAULT_QUEUE_FULL -/
def XLAT_CNT_STRADDLE : Nat := XLAT_BASE + 0x110
/-- TABLE_SYNC requests answered OK -/
def XLAT_CNT_SYNCS : Nat := XLAT_BASE + 0x118
/-- TABLE_SYNC requests refused or answered RETRY_AFTER -/
def XLAT_CNT_SYNC_REFUSED : Nat := XLAT_BASE + 0x120
/-- Invalidations completed -/
def XLAT_CNT_INVALIDATIONS : Nat := XLAT_BASE + 0x128
/-- Tag mismatches -/
def XLAT_CNT_TAG_MISMATCH : Nat := XLAT_BASE + 0x130
/-- Writes performed without a tag check under R262 -/
def XLAT_CNT_TAG_UNCHECKED : Nat := XLAT_BASE + 0x138

/-- Base of the DIR block (R369). -/
def DIR_BASE : Nat := 0x480000
def DIR_CTRL : Nat := DIR_BASE + 0x0
def DIR_STATUS : Nat := DIR_BASE + 0x8
def DIR_ERR : Nat := DIR_BASE + 0x10
def DIR_ERRMASK : Nat := DIR_BASE + 0x18
def DIR_DEATH : Nat := DIR_BASE + 0x20
def DIR_MEMDIST : Nat := DIR_BASE + 0x28
def DIR_CMD : Nat := DIR_BASE + 0x30
def DIR_PROTOLOG : Nat := DIR_BASE + 0x38
def DIR_LOCK : Nat := DIR_BASE + 0x40
def DIR_CNTCLR : Nat := DIR_BASE + 0x48
def DIR_OCC (e : Nat) : Nat := DIR_BASE + 0x60 + 0x8 * e
def DIR_DEAD (e : Nat) : Nat := DIR_BASE + 0x200 + 0x8 * e
def DIR_DIST (e : Nat) : Nat := DIR_BASE + 0x8000 + 0x8 * e
/-- Requests that found an entry -/
def DIR_CNT_HITS : Nat := DIR_BASE + 0x100
/-- Requests served under R349 -/
def DIR_CNT_MISSES : Nat := DIR_BASE + 0x108
/-- Snoop packets sent, one per alias -/
def DIR_CNT_SNOOPS : Nat := DIR_BASE + 0x110
/-- Broadcasts under R352 -/
def DIR_CNT_BROADCASTS : Nat := DIR_BASE + 0x118
/-- Snoop packets sent by broadcasts -/
def DIR_CNT_BCAST_SNOOPS : Nat := DIR_BASE + 0x120
/-- Demotions under R353 -/
def DIR_CNT_DEMOTIONS : Nat := DIR_BASE + 0x128
/-- Recalls under R354 -/
def DIR_CNT_STRICT_RECALLS : Nat := DIR_BASE + 0x130
/-- Reads served by a sharer under R356 -/
def DIR_CNT_FWD_SUPPLY : Nat := DIR_BASE + 0x138
/-- Snoops held for a writeback -/
def DIR_CNT_WB_INFLIGHT : Nat := DIR_BASE + 0x140
/-- Stale writebacks discarded -/
def DIR_CNT_STALE_WB : Nat := DIR_BASE + 0x148
/-- CLAIMs answered with DATA -/
def DIR_CNT_CLAIM_DATA : Nat := DIR_BASE + 0x150
/-- Snoops answered at the port under R345 -/
def DIR_CNT_NO_ALIAS : Nat := DIR_BASE + 0x158
/-- Clients declared dead -/
def DIR_CNT_DEATHS : Nat := DIR_BASE + 0x160
/-- Lines poisoned by the home -/
def DIR_CNT_POISONED : Nat := DIR_BASE + 0x168

/-- Base of the QOS block (R389). -/
def QOS_BASE : Nat := 0x500000
def QOS_CFG : Nat := QOS_BASE + 0x0
def QOS_CLASSW : Nat := QOS_BASE + 0x8
def QOS_ERR : Nat := QOS_BASE + 0x10
def QOS_ERRMASK : Nat := QOS_BASE + 0x18
def QOS_LOCK : Nat := QOS_BASE + 0x20
def QOS_CNTCLR : Nat := QOS_BASE + 0x28
def QOS_TRATE (e : Nat) : Nat := QOS_BASE + 0x1000 + 0x8 * e
def QOS_TWEIGHT (e : Nat) : Nat := QOS_BASE + 0x1800 + 0x8 * e
def QOS_EPCLASS (e : Nat) : Nat := QOS_BASE + 0x2000 + 0x8 * e
def QOS_TCNT (e v : Nat) : Nat := QOS_BASE + 0x4000 + 0x20 * e + 8 * v
/-- RETRY_AFTER answers sent -/
def QOS_CNT_RETRY : Nat := QOS_BASE + 0x100
/-- Jobs served by Tarn dispatch -/
def QOS_CNT_DISPATCHED : Nat := QOS_BASE + 0x108
/-- Each Inlet engine adds 1 for each ineligible queue that a dispatch service passes over for lack of Tarn credit -/
def QOS_CNT_INELIGIBLE : Nat := QOS_BASE + 0x110

/-- Base of the JOB block (R186). -/
def JOB_BASE : Nat := 0x600000
def JOB_CTRL : Nat := JOB_BASE + 0x0
def JOB_STATUS : Nat := JOB_BASE + 0x8
def JOB_WDOG : Nat := JOB_BASE + 0x10
def JOB_ERR : Nat := JOB_BASE + 0x18
def JOB_ERRMASK : Nat := JOB_BASE + 0x20
def JOB_ICFG_SEL : Nat := JOB_BASE + 0x28
def JOB_ICFG0 : Nat := JOB_BASE + 0x30
def JOB_ICFG1 : Nat := JOB_BASE + 0x38
def JOB_ICFG2 : Nat := JOB_BASE + 0x40
def JOB_ICFG3 : Nat := JOB_BASE + 0x48
def JOB_ICFG_CMD : Nat := JOB_BASE + 0x50
/-- Doorbells admitted -/
def JOB_CNT_DOORBELL : Nat := JOB_BASE + 0x100
/-- Jobs taken from rings -/
def JOB_CNT_STARTED : Nat := JOB_BASE + 0x108
/-- Completions written -/
def JOB_CNT_COMPLETED : Nat := JOB_BASE + 0x110
/-- Completions with STATUS not OK -/
def JOB_CNT_FAILED : Nat := JOB_BASE + 0x118
/-- Jobs completed ABORTED -/
def JOB_CNT_ABORTED : Nat := JOB_BASE + 0x120
/-- Aborts that lost or named no job -/
def JOB_CNT_ABORT_LATE : Nat := JOB_BASE + 0x128
/-- Jobs completed JOB_TIMEOUT -/
def JOB_CNT_TIMEOUT : Nat := JOB_BASE + 0x130
/-- Notify packets dropped -/
def JOB_CNT_NOTIFY_LOST : Nat := JOB_BASE + 0x138
/-- Doorbells refused under R161 or R162 -/
def JOB_CNT_DB_REFUSED : Nat := JOB_BASE + 0x140

/-- Base of the TARN block (R109). -/
def TARN_BASE (n : Nat) : Nat := 0x800000 + n * 0x4000
def TARN_ID (n : Nat) : Nat := TARN_BASE n + 0x0
def TARN_CTRL (n : Nat) : Nat := TARN_BASE n + 0x8
def TARN_STATUS (n : Nat) : Nat := TARN_BASE n + 0x10
def TARN_ERR (n : Nat) : Nat := TARN_BASE n + 0x18
def TARN_ERRMASK (n : Nat) : Nat := TARN_BASE n + 0x20
def TARN_WDOG (n : Nat) : Nat := TARN_BASE n + 0x28
def TARN_CNTCLR (n : Nat) : Nat := TARN_BASE n + 0x30
/-- Blocks processed -/
def TARN_CNT_BLOCKS (n : Nat) : Nat := TARN_BASE n + 0x100
/-- Blocks read without a check-sum comparison, under R86 -/
def TARN_CNT_UNCHECKED (n : Nat) : Nat := TARN_BASE n + 0x108
/-- Blocks treated as poisoned, under R98 -/
def TARN_CNT_POISONED (n : Nat) : Nat := TARN_BASE n + 0x110
/-- Blocks read from Spillway -/
def TARN_CNT_SPILL (n : Nat) : Nat := TARN_BASE n + 0x118
/-- Logit saturation events -/
def TARN_CNT_SAT_SCORE (n : Nat) : Nat := TARN_BASE n + 0x120
/-- Accumulator saturation events, R90 and R93 -/
def TARN_CNT_SAT_VALUE (n : Nat) : Nat := TARN_BASE n + 0x128
/-- Sum saturation events -/
def TARN_CNT_SAT_SUM (n : Nat) : Nat := TARN_BASE n + 0x130
/-- Output clips under R95 -/
def TARN_CNT_SAT_OUT (n : Nat) : Nat := TARN_BASE n + 0x138
/-- Slices completed -/
def TARN_CNT_SLICES (n : Nat) : Nat := TARN_BASE n + 0x140
/-- Partials combined as a merge Tarn -/
def TARN_CNT_MERGED (n : Nat) : Nat := TARN_BASE n + 0x148
/-- Failed partials sent or received, under R105 -/
def TARN_CNT_FAILED (n : Nat) : Nat := TARN_BASE n + 0x150
/-- Cycles with a block in processing -/
def TARN_CNT_BUSY (n : Nat) : Nat := TARN_BASE n + 0x158
/-- Cycles with a slice open and no block ready -/
def TARN_CNT_STALL (n : Nat) : Nat := TARN_BASE n + 0x160
/-- Corrected SRAM and program-memory errors -/
def TARN_CNT_SRAM_CE (n : Nat) : Nat := TARN_BASE n + 0x168

/-- Base of the POND block (R228). -/
def POND_BASE (n : Nat) : Nat := 0x1000000 + n * 0x4000
def POND_ID (n : Nat) : Nat := POND_BASE n + 0x0
def POND_CTRL (n : Nat) : Nat := POND_BASE n + 0x8
def POND_STATUS (n : Nat) : Nat := POND_BASE n + 0x10
def POND_ERR (n : Nat) : Nat := POND_BASE n + 0x18
def POND_ERRMASK (n : Nat) : Nat := POND_BASE n + 0x20
def POND_SCHED (n : Nat) : Nat := POND_BASE n + 0x28
def POND_RETRAIN (n : Nat) : Nat := POND_BASE n + 0x30
def POND_ACT (n : Nat) : Nat := POND_BASE n + 0x38
def POND_LOCK (n : Nat) : Nat := POND_BASE n + 0x40
def POND_CNTCLR (n : Nat) : Nat := POND_BASE n + 0x48
/-- Lines read -/
def POND_CNT_READS (n : Nat) : Nat := POND_BASE n + 0x100
/-- Lines written -/
def POND_CNT_WRITES (n : Nat) : Nat := POND_BASE n + 0x108
/-- Requests served from an open row -/
def POND_CNT_ROW_HITS (n : Nat) : Nat := POND_BASE n + 0x110
/-- Row activates -/
def POND_CNT_ACTIVATES (n : Nat) : Nat := POND_BASE n + 0x118
/-- Per-bank refreshes -/
def POND_CNT_REFRESHES (n : Nat) : Nat := POND_BASE n + 0x120
/-- Neighbour refreshes under R206 -/
def POND_CNT_NBR_TARGETED (n : Nat) : Nat := POND_BASE n + 0x128
/-- Neighbour refreshes under R207 -/
def POND_CNT_NBR_RANDOM (n : Nat) : Nat := POND_BASE n + 0x130
/-- Retraining pauses -/
def POND_CNT_PAUSES (n : Nat) : Nat := POND_BASE n + 0x138
/-- Short pauses under R204 -/
def POND_CNT_PAUSE_SHORT (n : Nat) : Nat := POND_BASE n + 0x140
/-- Age promotions under R199 -/
def POND_CNT_AGED (n : Nat) : Nat := POND_BASE n + 0x148
/-- Bank-windows with OVERFLOW or UNTRUSTED set -/
def POND_CNT_OVF_WINDOWS (n : Nat) : Nat := POND_BASE n + 0x150
/-- Lines written by fills -/
def POND_CNT_FILL_LINES (n : Nat) : Nat := POND_BASE n + 0x158

/-- Base of the SPILL block (R237). -/
def SPILL_BASE (n : Nat) : Nat := 0x1800000 + n * 0x10000
def SPILL_ID (n : Nat) : Nat := SPILL_BASE n + 0x0
def SPILL_CTRL (n : Nat) : Nat := SPILL_BASE n + 0x8
def SPILL_STATUS (n : Nat) : Nat := SPILL_BASE n + 0x10
def SPILL_CFG (n : Nat) : Nat := SPILL_BASE n + 0x18
def SPILL_ERR (n : Nat) : Nat := SPILL_BASE n + 0x20
def SPILL_ERRMASK (n : Nat) : Nat := SPILL_BASE n + 0x28
def SPILL_SCHED (n : Nat) : Nat := SPILL_BASE n + 0x30
def SPILL_RETRAIN (n : Nat) : Nat := SPILL_BASE n + 0x38
def SPILL_ACT (n : Nat) : Nat := SPILL_BASE n + 0x40
def SPILL_LOCK (n : Nat) : Nat := SPILL_BASE n + 0x48
def SPILL_CNTCLR (n : Nat) : Nat := SPILL_BASE n + 0x50
/-- Lines read -/
def SPILL_CNT_READS (n : Nat) : Nat := SPILL_BASE n + 0x100
/-- Lines written -/
def SPILL_CNT_WRITES (n : Nat) : Nat := SPILL_BASE n + 0x108
/-- Requests served from an open row -/
def SPILL_CNT_ROW_HITS (n : Nat) : Nat := SPILL_BASE n + 0x110
/-- Row activates -/
def SPILL_CNT_ACTIVATES (n : Nat) : Nat := SPILL_BASE n + 0x118
/-- Per-bank refreshes -/
def SPILL_CNT_REFRESHES (n : Nat) : Nat := SPILL_BASE n + 0x120
/-- Neighbour refreshes under R206 -/
def SPILL_CNT_NBR_TARGETED (n : Nat) : Nat := SPILL_BASE n + 0x128
/-- Neighbour refreshes under R207 -/
def SPILL_CNT_NBR_RANDOM (n : Nat) : Nat := SPILL_BASE n + 0x130
/-- Retraining pauses -/
def SPILL_CNT_PAUSES (n : Nat) : Nat := SPILL_BASE n + 0x138
/-- Short pauses under R204 -/
def SPILL_CNT_PAUSE_SHORT (n : Nat) : Nat := SPILL_BASE n + 0x140
/-- Age promotions under R199 -/
def SPILL_CNT_AGED (n : Nat) : Nat := SPILL_BASE n + 0x148
/-- Bank-windows with OVERFLOW or UNTRUSTED set -/
def SPILL_CNT_OVF_WINDOWS (n : Nat) : Nat := SPILL_BASE n + 0x150
/-- Lines written by fills -/
def SPILL_CNT_FILL_LINES (n : Nat) : Nat := SPILL_BASE n + 0x158

/-- Base of the RAS block (R423). -/
def RAS_BASE : Nat := 0x1C00000
def RAS_CTRL : Nat := RAS_BASE + 0x0
def RAS_SCRUB : Nat := RAS_BASE + 0x8
def RAS_ERR : Nat := RAS_BASE + 0x10
def RAS_ERRMASK : Nat := RAS_BASE + 0x18
def RAS_REBUILD : Nat := RAS_BASE + 0x20
def RAS_CMD : Nat := RAS_BASE + 0x28
def RAS_CMDARG : Nat := RAS_BASE + 0x30
def RAS_UELOG : Nat := RAS_BASE + 0x38
def RAS_LOCK : Nat := RAS_BASE + 0x40
def RAS_CNTCLR : Nat := RAS_BASE + 0x48
def RAS_STACK (e : Nat) : Nat := RAS_BASE + 0x60 + 0x8 * e
/-- Correctable-error log entry e of unit i, word v (R423). -/
def RAS_CELOG (i e v : Nat) : Nat := RAS_BASE + 0x10000 + 0x100 * i + 16 * e + 8 * v
/-- Corrected reads -/
def RAS_CNT_CE : Nat := RAS_BASE + 0x100
/-- Uncorrectable reads -/
def RAS_CNT_UE : Nat := RAS_BASE + 0x108
/-- Lines read with POISON set -/
def RAS_CNT_POISON_READ : Nat := RAS_BASE + 0x110
/-- Lines read by patrol scrub -/
def RAS_CNT_SCRUB_LINES : Nat := RAS_BASE + 0x118
/-- Lines corrected by patrol scrub -/
def RAS_CNT_SCRUB_FIXED : Nat := RAS_BASE + 0x120
/-- Self-tests with no miscompare -/
def RAS_CNT_TEST_TRANSIENT : Nat := RAS_BASE + 0x128
/-- Lasting faults -/
def RAS_CNT_TEST_LASTING : Nat := RAS_BASE + 0x130
/-- Soft repairs -/
def RAS_CNT_SOFT_REPAIRS : Nat := RAS_BASE + 0x138
/-- Rows remapped -/
def RAS_CNT_ROW_RETIRES : Nat := RAS_BASE + 0x140
/-- Lines reconstructed from parity -/
def RAS_CNT_RECONSTRUCTED : Nat := RAS_BASE + 0x148
/-- 4 KiB units rebuilt -/
def RAS_CNT_REBUILT_UNITS : Nat := RAS_BASE + 0x150
/-- Correctable errors not logged -/
def RAS_CNT_CELOG_OVF : Nat := RAS_BASE + 0x158
/-- Spillway devices marked failed -/
def RAS_CNT_DEVICE_MARKS : Nat := RAS_BASE + 0x160

/-- Base of the PAIR block (R456). -/
def PAIR_BASE : Nat := 0x290000
def PAIR_CFG : Nat := PAIR_BASE + 0x0
def PAIR_STATUS : Nat := PAIR_BASE + 0x8
def PAIR_ERR : Nat := PAIR_BASE + 0x10
def PAIR_ERRMASK : Nat := PAIR_BASE + 0x18
def PAIR_CMD : Nat := PAIR_BASE + 0x20
def PAIR_LOCK : Nat := PAIR_BASE + 0x28
def PAIR_CNTCLR : Nat := PAIR_BASE + 0x30
/-- Lines mirrored and acknowledged -/
def PAIR_CNT_MIRROR_LINES : Nat := PAIR_BASE + 0x100
/-- Copies sent -/
def PAIR_CNT_COPIES : Nat := PAIR_BASE + 0x108
/-- Overruns under R440 -/
def PAIR_CNT_COPY_OVERRUNS : Nat := PAIR_BASE + 0x110
/-- 64 KiB units resynchronised -/
def PAIR_CNT_RESYNC_UNITS : Nat := PAIR_BASE + 0x118

/-- Base of the SEC block (R487). -/
def SEC_BASE : Nat := 0x1D00000
def SEC_CTRL : Nat := SEC_BASE + 0x0
def SEC_STATUS : Nat := SEC_BASE + 0x8
def SEC_ERR : Nat := SEC_BASE + 0x10
def SEC_ERRMASK : Nat := SEC_BASE + 0x18
def SEC_KCMD : Nat := SEC_BASE + 0x20
def SEC_KARG : Nat := SEC_BASE + 0x28
def SEC_KSTAT : Nat := SEC_BASE + 0x30
def SEC_ACMD : Nat := SEC_BASE + 0x38
def SEC_AARG : Nat := SEC_BASE + 0x40
def SEC_MEXT_CMD : Nat := SEC_BASE + 0x50
def SEC_SVN : Nat := SEC_BASE + 0x58
def SEC_LOCK : Nat := SEC_BASE + 0xE0
def SEC_CNTCLR : Nat := SEC_BASE + 0xE8
def SEC_MEXT_DATA (e : Nat) : Nat := SEC_BASE + 0x60 + 0x8 * e
def SEC_ROM_MEAS (e : Nat) : Nat := SEC_BASE + 0x80 + 0x8 * e
def SEC_FW_MEAS (e : Nat) : Nat := SEC_BASE + 0xA0 + 0x8 * e
def SEC_CONFIG_MEAS (e : Nat) : Nat := SEC_BASE + 0xC0 + 0x8 * e
def SEC_SIGNER_CTL (e : Nat) : Nat := SEC_BASE + 0x1000 + 0x40 * e
def SEC_SIGNER_HASH (e v : Nat) : Nat := SEC_BASE + 0x1008 + 0x40 * e + 8 * v
/-- Keys imported -/
def SEC_CNT_IMPORTS : Nat := SEC_BASE + 0x100
/-- Slots erased -/
def SEC_CNT_ERASES : Nat := SEC_BASE + 0x108
/-- Identity signatures made -/
def SEC_CNT_SIGNATURES : Nat := SEC_BASE + 0x110
/-- Signatures refused -/
def SEC_CNT_VERIFY_FAIL : Nat := SEC_BASE + 0x118
/-- Imports refused -/
def SEC_CNT_IMPORT_FAIL : Nat := SEC_BASE + 0x120

/-- Base of the MGMT block (R558). -/
def MGMT_BASE : Nat := 0x1E00000
def MGMT_CTRL : Nat := MGMT_BASE + 0x0
def MGMT_STATUS : Nat := MGMT_BASE + 0x8
def MGMT_CMD_PTR : Nat := MGMT_BASE + 0x10
def MGMT_EVT_PTR : Nat := MGMT_BASE + 0x18
def MGMT_SNAP : Nat := MGMT_BASE + 0x20
def MGMT_LOG : Nat := MGMT_BASE + 0x28
def MGMT_TRACE : Nat := MGMT_BASE + 0x30
def MGMT_STORM : Nat := MGMT_BASE + 0x38
def MGMT_RING_CFG : Nat := MGMT_BASE + 0x40
def MGMT_RING_STATUS : Nat := MGMT_BASE + 0x48
def MGMT_ALARM : Nat := MGMT_BASE + 0x50
def MGMT_ERR : Nat := MGMT_BASE + 0x58
def MGMT_ERRMASK : Nat := MGMT_BASE + 0x60
def MGMT_LOCK : Nat := MGMT_BASE + 0x68
def MGMT_CNTCLR : Nat := MGMT_BASE + 0x70
def MGMT_ALARMCNT (e : Nat) : Nat := MGMT_BASE + 0x1000 + 0x8 * e
/-- Unread log records overwritten -/
def MGMT_CNT_LOG_OVERWRITTEN : Nat := MGMT_BASE + 0x100
/-- Logs dropped on the event path -/
def MGMT_CNT_LOG_DROPPED : Nat := MGMT_BASE + 0x108
/-- Traces dropped -/
def MGMT_CNT_TRACE_DROPPED : Nat := MGMT_BASE + 0x110
/-- Logs and traces suppressed under R543 -/
def MGMT_CNT_STORM_SUPPRESSED : Nat := MGMT_BASE + 0x118
/-- Ring frames taken -/
def MGMT_CNT_RING_RX : Nat := MGMT_BASE + 0x120
/-- Ring frames removed for a bad CRC -/
def MGMT_CNT_RING_CRC : Nat := MGMT_BASE + 0x128
/-- Mailbox commands completed -/
def MGMT_CNT_MBX_CMDS : Nat := MGMT_BASE + 0x130
/-- Snapshots completed -/
def MGMT_CNT_SNAPSHOTS : Nat := MGMT_BASE + 0x138

/-- Base of the WELL block (R557). -/
def WELL_BASE : Nat := 0x1F00000
def WELL_CORECTL : Nat := WELL_BASE + 0x0
def WELL_CORESTAT : Nat := WELL_BASE + 0x8
def WELL_MCYCLE : Nat := WELL_BASE + 0x10
def WELL_OVERRUN : Nat := WELL_BASE + 0x18
def WELL_ERR : Nat := WELL_BASE + 0x20
def WELL_ERRMASK : Nat := WELL_BASE + 0x28

end R

namespace F

/-- The MSI-X structures (R531): message address, data, vector control and the pending bits, as the PCI Express specification lays them out. -/
def MSIX_ADDR : Fld := { name := "ADDR", lo := 0, w := 64, acc := .rw }
def MSIX_DATA : Fld := { name := "DATA", lo := 0, w := 32, acc := .rw }
def MSIX_MASK : Fld := { name := "MASK", lo := 32, w := 1, acc := .rw, rst := 1 }
def MSIX_PBA : Fld := { name := "PBA", lo := 0, w := 64, acc := .ro }

def TARN_ID_INSTANCE : Fld := { name := "INSTANCE", lo := 0, w := 7, acc := .ro }
def TARN_ID_QUADRANT : Fld := { name := "QUADRANT", lo := 7, w := 2, acc := .ro }
def TARN_ID_LOCAL : Fld := { name := "LOCAL", lo := 9, w := 5, acc := .ro }
def TARN_CTRL_ENABLE : Fld := { name := "ENABLE", lo := 0, w := 1, acc := .rw }
def TARN_CTRL_DRAIN : Fld := { name := "DRAIN", lo := 1, w := 1, acc := .rw }
def TARN_CTRL_FAULT : Fld := { name := "FAULT", lo := 2, w := 1, acc := .w1s, own := true }
def TARN_CTRL_ROLE : Fld := { name := "ROLE", lo := 8, w := 5, acc := .rw, own := true }
def TARN_CTRL_ROLE2_EN : Fld := { name := "ROLE2_EN", lo := 13, w := 1, acc := .rw, own := true }
def TARN_CTRL_ROLE2 : Fld := { name := "ROLE2", lo := 16, w := 5, acc := .rw, rst := 31, own := true }
def TARN_STATUS_STATE : Fld := { name := "STATE", lo := 0, w := 2, acc := .ro }
def TARN_STATUS_BANK0_BUSY : Fld := { name := "BANK0_BUSY", lo := 2, w := 1, acc := .ro }
def TARN_STATUS_BANK1_BUSY : Fld := { name := "BANK1_BUSY", lo := 3, w := 1, acc := .ro }
def TARN_STATUS_QUEUED : Fld := { name := "QUEUED", lo := 8, w := 6, acc := .ro }
def TARN_STATUS_PROG_ID : Fld := { name := "PROG_ID", lo := 32, w := 16, acc := .ro }
def TARN_ERR_SRAM_UE : Fld := { name := "SRAM_UE", lo := 0, w := 1, acc := .w1c, own := true }
def TARN_ERR_PMEM_UE : Fld := { name := "PMEM_UE", lo := 1, w := 1, acc := .w1c, own := true }
def TARN_ERR_SELFTEST : Fld := { name := "SELFTEST", lo := 2, w := 1, acc := .w1c, own := true }
def TARN_ERR_WATCHDOG : Fld := { name := "WATCHDOG", lo := 3, w := 1, acc := .w1c, own := true }
def TARN_ERR_PROG_EXC : Fld := { name := "PROG_EXC", lo := 4, w := 1, acc := .w1c, own := true }
def TARN_ERR_POISON_SEEN : Fld := { name := "POISON_SEEN", lo := 5, w := 1, acc := .w1c, own := true }
def TARN_ERR_SAT_SEEN : Fld := { name := "SAT_SEEN", lo := 6, w := 1, acc := .w1c, own := true }
def TARN_ERR_ROLE_CLASH : Fld := { name := "ROLE_CLASH", lo := 7, w := 1, acc := .w1c, own := true }
def TARN_WDOG_LIMIT : Fld := { name := "LIMIT", lo := 0, w := 24, acc := .rw, rst := 0x10000 }
def TARN_CNTCLR_CLEAR : Fld := { name := "CLEAR", lo := 0, w := 14, acc := .wo, own := true }
def JOB_CTRL_ENABLE : Fld := { name := "ENABLE", lo := 0, w := 1, acc := .rw, own := true }
def JOB_STATUS_IN_FLIGHT : Fld := { name := "IN_FLIGHT", lo := 0, w := 15, acc := .ro }
def JOB_STATUS_INLETS_ON : Fld := { name := "INLETS_ON", lo := 16, w := 13, acc := .ro }
def JOB_WDOG_DEFAULT_US : Fld := { name := "DEFAULT_US", lo := 0, w := 24, acc := .rw, rst := 0x2710, rng := some (1, 16777215) }
def JOB_ERR_DB_DENIED : Fld := { name := "DB_DENIED", lo := 0, w := 1, acc := .w1c, own := true }
def JOB_ERR_DB_RANGE : Fld := { name := "DB_RANGE", lo := 1, w := 1, acc := .w1c, own := true }
def JOB_ERR_DB_DISABLED : Fld := { name := "DB_DISABLED", lo := 2, w := 1, acc := .w1c, own := true }
def JOB_ERR_BAD_DESC : Fld := { name := "BAD_DESC", lo := 3, w := 1, acc := .w1c, own := true }
def JOB_ERR_NOTIFY_LOST : Fld := { name := "NOTIFY_LOST", lo := 4, w := 1, acc := .w1c, own := true }
def JOB_ERR_TIMEOUT : Fld := { name := "TIMEOUT", lo := 5, w := 1, acc := .w1c, own := true }
def JOB_ERR_ICFG_FAIL : Fld := { name := "ICFG_FAIL", lo := 6, w := 1, acc := .w1c, own := true }
def JOB_ICFG0_OWNER : Fld := { name := "OWNER", lo := 0, w := 12, acc := .rw }
def JOB_ICFG0_TENANT : Fld := { name := "TENANT", lo := 12, w := 8, acc := .rw }
def JOB_ICFG0_ASID : Fld := { name := "ASID", lo := 20, w := 16, acc := .rw }
def JOB_ICFG0_PORT : Fld := { name := "PORT", lo := 36, w := 3, acc := .rw }
def JOB_ICFG0_ENABLE : Fld := { name := "ENABLE", lo := 39, w := 1, acc := .rw }
def JOB_ICFG0_RING_LOG2 : Fld := { name := "RING_LOG2", lo := 40, w := 4, acc := .rw }
def JOB_ICFG0_SLOT_LOG2 : Fld := { name := "SLOT_LOG2", lo := 44, w := 5, acc := .rw }
def JOB_ICFG0_QOS_CLASS : Fld := { name := "QOS_CLASS", lo := 49, w := 2, acc := .rw }
def JOB_ICFG0_BOUND : Fld := { name := "BOUND", lo := 51, w := 1, acc := .ro }
def JOB_ICFG1_RING_VA : Fld := { name := "RING_VA", lo := 0, w := 52, acc := .rw }
def JOB_ICFG2_CPL_VA : Fld := { name := "CPL_VA", lo := 0, w := 52, acc := .rw }
def JOB_ICFG3_TAIL : Fld := { name := "TAIL", lo := 0, w := 16, acc := .ro }
def JOB_ICFG3_STARTED : Fld := { name := "STARTED", lo := 16, w := 16, acc := .ro }
def JOB_ICFG3_COMPLETED : Fld := { name := "COMPLETED", lo := 32, w := 16, acc := .ro }
def JOB_ICFG_CMD_OP : Fld := { name := "OP", lo := 0, w := 2, acc := .wo, own := true }
def JOB_ICFG_CMD_BUSY : Fld := { name := "BUSY", lo := 8, w := 1, acc := .ro }
def JOB_ICFG_CMD_FAIL : Fld := { name := "FAIL", lo := 9, w := 1, acc := .ro }
def POND_ID_INSTANCE : Fld := { name := "INSTANCE", lo := 0, w := 9, acc := .ro }
def POND_ID_QUADRANT : Fld := { name := "QUADRANT", lo := 9, w := 2, acc := .ro }
def POND_ID_STACK : Fld := { name := "STACK", lo := 11, w := 2, acc := .ro }
def POND_ID_CHANNEL : Fld := { name := "CHANNEL", lo := 13, w := 5, acc := .ro }
def POND_ID_CHIP_STACK : Fld := { name := "CHIP_STACK", lo := 18, w := 4, acc := .ro }
def POND_CTRL_ENABLE : Fld := { name := "ENABLE", lo := 0, w := 1, acc := .rw }
def POND_CTRL_FAULT : Fld := { name := "FAULT", lo := 1, w := 1, acc := .w1s, own := true }
def POND_CTRL_TRAIN : Fld := { name := "TRAIN", lo := 2, w := 1, acc := .w1s, own := true }
def POND_STATUS_STATE : Fld := { name := "STATE", lo := 0, w := 3, acc := .ro }
def POND_STATUS_TOKEN : Fld := { name := "TOKEN", lo := 3, w := 1, acc := .ro }
def POND_STATUS_PC0_PAUSE : Fld := { name := "PC0_PAUSE", lo := 4, w := 1, acc := .ro }
def POND_STATUS_PC1_PAUSE : Fld := { name := "PC1_PAUSE", lo := 5, w := 1, acc := .ro }
def POND_STATUS_HOT : Fld := { name := "HOT", lo := 6, w := 1, acc := .ro }
def POND_STATUS_RQ0 : Fld := { name := "RQ0", lo := 8, w := 7, acc := .ro }
def POND_STATUS_RQ1 : Fld := { name := "RQ1", lo := 16, w := 7, acc := .ro }
def POND_STATUS_ACT_FLAG : Fld := { name := "ACT_FLAG", lo := 32, w := 16, acc := .ro, rst := 0xFFFF }
def POND_ERR_RETRAIN_FAIL : Fld := { name := "RETRAIN_FAIL", lo := 0, w := 1, acc := .w1c, own := true }
def POND_ERR_TRAIN_SHORT : Fld := { name := "TRAIN_SHORT", lo := 1, w := 1, acc := .w1c, own := true }
def POND_ERR_ACT_OVERFLOW : Fld := { name := "ACT_OVERFLOW", lo := 2, w := 1, acc := .w1c, own := true }
def POND_ERR_ACT_PARITY : Fld := { name := "ACT_PARITY", lo := 3, w := 1, acc := .w1c, own := true }
def POND_ERR_QUEUE_PROTO : Fld := { name := "QUEUE_PROTO", lo := 4, w := 1, acc := .w1c, own := true }
def POND_ERR_UNMAPPED : Fld := { name := "UNMAPPED", lo := 5, w := 1, acc := .w1c, own := true }
def POND_ERR_FILL_FAIL : Fld := { name := "FILL_FAIL", lo := 6, w := 1, acc := .w1c, own := true }
def POND_SCHED_AGE_LIMIT : Fld := { name := "AGE_LIMIT", lo := 0, w := 16, acc := .rw, rst := 2500 }
def POND_SCHED_ROW_IDLE : Fld := { name := "ROW_IDLE", lo := 16, w := 8, acc := .rw, rst := 100 }
def POND_SCHED_WQ_HIGH : Fld := { name := "WQ_HIGH", lo := 24, w := 7, acc := .rw, rst := 48, rng := some (17, 64) }
def POND_RETRAIN_PERIOD_MS : Fld := { name := "PERIOD_MS", lo := 0, w := 8, acc := .rwl, rst := 10, rng := some (1, 100) }
def POND_RETRAIN_MAX_PAUSE_NS : Fld := { name := "MAX_PAUSE_NS", lo := 8, w := 10, acc := .rwl, rst := 1000, rng := some (200, 1000) }
def POND_RETRAIN_STARTER : Fld := { name := "STARTER", lo := 18, w := 1, acc := .rw }
def POND_ACT_THRESH : Fld := { name := "THRESH", lo := 0, w := 11, acc := .rwl, rst := 1024, rng := some (64, 2047) }
def POND_ACT_PROB_LOG2 : Fld := { name := "PROB_LOG2", lo := 11, w := 4, acc := .rwl, rst := 8, rng := some (4, 12) }
def POND_ACT_BLAST : Fld := { name := "BLAST", lo := 15, w := 2, acc := .rwl, rst := 2, rng := some (1, 2) }
def SPILL_ID_INSTANCE : Fld := { name := "INSTANCE", lo := 0, w := 4, acc := .ro }
def SPILL_ID_QUADRANT : Fld := { name := "QUADRANT", lo := 4, w := 2, acc := .ro }
def SPILL_CTRL_ENABLE : Fld := { name := "ENABLE", lo := 0, w := 1, acc := .rw }
def SPILL_CTRL_FAULT : Fld := { name := "FAULT", lo := 1, w := 1, acc := .w1s }
def SPILL_CTRL_TRAIN : Fld := { name := "TRAIN", lo := 2, w := 1, acc := .w1s, own := true }
def SPILL_CTRL_HOLD : Fld := { name := "HOLD", lo := 3, w := 1, acc := .rw, own := true }
def SPILL_STATUS_STATE : Fld := { name := "STATE", lo := 0, w := 3, acc := .ro }
def SPILL_STATUS_EMPTY : Fld := { name := "EMPTY", lo := 3, w := 1, acc := .ro, rst := 1 }
def SPILL_STATUS_DIMMS : Fld := { name := "DIMMS", lo := 4, w := 2, acc := .ro }
def SPILL_STATUS_CAP_GIB : Fld := { name := "CAP_GIB", lo := 16, w := 10, acc := .ro }
def SPILL_CFG_SPEED : Fld := { name := "SPEED", lo := 0, w := 2, acc := .rwl, rng := some (0, 2) }
def SPILL_ERR_RETRAIN_FAIL : Fld := { name := "RETRAIN_FAIL", lo := 0, w := 1, acc := .w1c, own := true }
def SPILL_ERR_TRAIN_SHORT : Fld := { name := "TRAIN_SHORT", lo := 1, w := 1, acc := .w1c, own := true }
def SPILL_ERR_ACT_OVERFLOW : Fld := { name := "ACT_OVERFLOW", lo := 2, w := 1, acc := .w1c, own := true }
def SPILL_ERR_ACT_PARITY : Fld := { name := "ACT_PARITY", lo := 3, w := 1, acc := .w1c, own := true }
def SPILL_ERR_HOLD_REFUSED : Fld := { name := "HOLD_REFUSED", lo := 4, w := 1, acc := .w1c, own := true }
def SPILL_ERR_DIMM_MISMATCH : Fld := { name := "DIMM_MISMATCH", lo := 5, w := 1, acc := .w1c, own := true }
def SPILL_ERR_FILL_FAIL : Fld := { name := "FILL_FAIL", lo := 6, w := 1, acc := .w1c, own := true }
def SPILL_ERR_UNPOPULATED : Fld := { name := "UNPOPULATED", lo := 7, w := 1, acc := .w1c, own := true }
def XLAT_CFG_MODE : Fld := { name := "MODE", lo := 0, w := 1, acc := .rwl }
def XLAT_CFG_LOCK : Fld := { name := "LOCK", lo := 1, w := 1, acc := .w1s, own := true }
def XLAT_STATUS_S1_USED : Fld := { name := "S1_USED", lo := 0, w := 17, acc := .ro }
def XLAT_STATUS_S2_USED : Fld := { name := "S2_USED", lo := 32, w := 17, acc := .ro }
def XLAT_STATUS_INV_INFLIGHT : Fld := { name := "INV_INFLIGHT", lo := 49, w := 5, acc := .ro }
def XLAT_CMD_OP : Fld := { name := "OP", lo := 0, w := 8, acc := .wo, own := true }
def XLAT_CMD_BUSY : Fld := { name := "BUSY", lo := 8, w := 1, acc := .ro }
def XLAT_CMD_STATUS : Fld := { name := "STATUS", lo := 12, w := 4, acc := .ro }
def XLAT_ERR_FAULT : Fld := { name := "FAULT", lo := 0, w := 1, acc := .w1c, own := true }
def XLAT_ERR_FQ_OVERFLOW : Fld := { name := "FQ_OVERFLOW", lo := 1, w := 1, acc := .w1c, own := true }
def XLAT_ERR_TAG_MISMATCH : Fld := { name := "TAG_MISMATCH", lo := 2, w := 1, acc := .w1c, own := true }
def XLAT_ERR_SYNC_REFUSED : Fld := { name := "SYNC_REFUSED", lo := 3, w := 1, acc := .w1c, own := true }
def XLAT_ERR_CMD_DONE : Fld := { name := "CMD_DONE", lo := 4, w := 1, acc := .w1c, own := true }
def XLAT_ERR_INV_SLOW : Fld := { name := "INV_SLOW", lo := 5, w := 1, acc := .w1c, own := true }
def XLAT_FQ_PTR_HEAD : Fld := { name := "HEAD", lo := 0, w := 11, acc := .rw, own := true }
def XLAT_FQ_PTR_TAIL : Fld := { name := "TAIL", lo := 16, w := 11, acc := .ro }
def XLAT_FQ_OVF_COUNT : Fld := { name := "COUNT", lo := 0, w := 32, acc := .w1c, own := true }
def XLAT_FQ_OVFADDR_VA : Fld := { name := "VA", lo := 0, w := 52, acc := .ro }
def XLAT_FQ_OVFADDR_ENDPOINT : Fld := { name := "ENDPOINT", lo := 52, w := 12, acc := .ro }
def XLAT_TAGERR_EXPECTED : Fld := { name := "EXPECTED", lo := 0, w := 8, acc := .ro }
def XLAT_TAGERR_FOUND : Fld := { name := "FOUND", lo := 8, w := 8, acc := .ro }
def XLAT_TAGERR_VALID : Fld := { name := "VALID", lo := 16, w := 1, acc := .w1c, own := true }
def XLAT_TAGADDR_PA : Fld := { name := "PA", lo := 0, w := 48, acc := .ro }
def ROUTE_PRIMARY : Fld := { name := "PRIMARY", lo := 0, w := 3, acc := .rw, own := true }
def ROUTE_ALT : Fld := { name := "ALT", lo := 3, w := 3, acc := .rw, own := true }
def ROUTE_VALID : Fld := { name := "VALID", lo := 6, w := 1, acc := .rw, own := true }
def ROUTE_ON_ALT : Fld := { name := "ON_ALT", lo := 7, w := 1, acc := .ro }
def MERE_CTRL_ENABLE : Fld := { name := "ENABLE", lo := 0, w := 1, acc := .rw, own := true }
def MERE_CTRL_RETRAIN : Fld := { name := "RETRAIN", lo := 1, w := 1, acc := .w1s, own := true }
def MERE_CTRL_WIDEN : Fld := { name := "WIDEN", lo := 2, w := 1, acc := .w1s, own := true }
def MERE_CTRL_BREAK : Fld := { name := "BREAK", lo := 3, w := 1, acc := .w1s, own := true }
def MERE_CTRL_WIDTH_MAX : Fld := { name := "WIDTH_MAX", lo := 4, w := 2, acc := .rw, rng := some (0, 2), own := true }
def MERE_CTRL_REVERT_MS : Fld := { name := "REVERT_MS", lo := 16, w := 16, acc := .rw, rst := 1000 }
def MERE_LINKSTAT_STATE : Fld := { name := "STATE", lo := 0, w := 3, acc := .ro }
def MERE_LINKSTAT_WIDTH : Fld := { name := "WIDTH", lo := 3, w := 2, acc := .ro, rst := 3 }
def MERE_LINKSTAT_GOOD_MASK : Fld := { name := "GOOD_MASK", lo := 8, w := 16, acc := .ro }
def MERE_LINKSTAT_TX_SEQ : Fld := { name := "TX_SEQ", lo := 24, w := 12, acc := .ro }
def MERE_LINKSTAT_RX_NEXT : Fld := { name := "RX_NEXT", lo := 36, w := 12, acc := .ro }
def MERE_LINKSTAT_UNACKED : Fld := { name := "UNACKED", lo := 48, w := 11, acc := .ro }
def MERE_ERR_BROKEN : Fld := { name := "BROKEN", lo := 0, w := 1, acc := .w1c, own := true }
def MERE_ERR_RETRAIN : Fld := { name := "RETRAIN", lo := 1, w := 1, acc := .w1c, own := true }
def MERE_ERR_WIDTH_DEGRADED : Fld := { name := "WIDTH_DEGRADED", lo := 2, w := 1, acc := .w1c, own := true }
def MERE_ERR_CREDIT_TIMEOUT : Fld := { name := "CREDIT_TIMEOUT", lo := 3, w := 1, acc := .w1c, own := true }
def MERE_ERR_REPLAY_LIMIT : Fld := { name := "REPLAY_LIMIT", lo := 4, w := 1, acc := .w1c, own := true }
def MERE_ERR_LANE_FAIL : Fld := { name := "LANE_FAIL", lo := 5, w := 1, acc := .w1c, own := true }
def MERE_ERR_ID_CLASH : Fld := { name := "ID_CLASH", lo := 6, w := 1, acc := .w1c, own := true }
def MERE_ERR_PEER_CHANGED : Fld := { name := "PEER_CHANGED", lo := 7, w := 1, acc := .w1c, own := true }
def MERE_ERR_ACK_RANGE : Fld := { name := "ACK_RANGE", lo := 8, w := 1, acc := .w1c, own := true }
def MERE_ERR_CREDIT_OVERFLOW : Fld := { name := "CREDIT_OVERFLOW", lo := 9, w := 1, acc := .w1c, own := true }
def MERE_ERR_CLIENT_UNREACHABLE : Fld := { name := "CLIENT_UNREACHABLE", lo := 10, w := 1, acc := .w1c, own := true }
def MERE_ERR_CONFIG_FAIL : Fld := { name := "CONFIG_FAIL", lo := 11, w := 1, acc := .w1c, own := true }
def MERE_ERR_ROUTE_REFUSED : Fld := { name := "ROUTE_REFUSED", lo := 12, w := 1, acc := .w1c, own := true }
def MERE_LANECFG_EXCLUDE : Fld := { name := "EXCLUDE", lo := 0, w := 16, acc := .rw, own := true }
def MERE_LANECFG_UNCORR_THR : Fld := { name := "UNCORR_THR", lo := 16, w := 16, acc := .rw, rst := 1, rng := some (1, 65535) }
def MERE_LANECFG_CORR_THR : Fld := { name := "CORR_THR", lo := 32, w := 16, acc := .rw, rst := 256, rng := some (1, 65535) }
def MERE_LANECFG_WINDOW_US : Fld := { name := "WINDOW_US", lo := 48, w := 16, acc := .rw, rst := 100, rng := some (10, 65535) }
def MERE_TIMERS_CREDIT : Fld := { name := "CREDIT", lo := 0, w := 10, acc := .rwl, rst := 100, rng := some (10, 1000) }
def MERE_TIMERS_REPLAY : Fld := { name := "REPLAY", lo := 10, w := 10, acc := .rwl, rst := 40, rng := some (10, 1023) }
def MERE_TIMERS_RETRAIN_LIMIT : Fld := { name := "RETRAIN_LIMIT", lo := 20, w := 8, acc := .rwl, rst := 50, rng := some (20, 255) }
def MERE_TIMERS_RETRAIN_WINDOW : Fld := { name := "RETRAIN_WINDOW", lo := 28, w := 16, acc := .rwl, rst := 1000, rng := some (1, 65535) }
def MERE_LANESTAT_GOOD : Fld := { name := "GOOD", lo := 0, w := 1, acc := .ro }
def MERE_LANESTAT_FAILED : Fld := { name := "FAILED", lo := 1, w := 1, acc := .ro }
def MERE_LANESTAT_TEST_ERR : Fld := { name := "TEST_ERR", lo := 16, w := 16, acc := .ro }
def MERE_LANESTAT_UNCORR : Fld := { name := "UNCORR", lo := 32, w := 32, acc := .ro }
def SHAL_CFG_STARVE_LIMIT : Fld := { name := "STARVE_LIMIT", lo := 0, w := 8, acc := .rwl, rst := 64, rng := some (8, 255) }
def SHAL_CFG_AGE_ALARM : Fld := { name := "AGE_ALARM", lo := 8, w := 16, acc := .rwl, rst := 0x9C40, rng := some (1024, 65535) }
def SHAL_CFG_SPRAY : Fld := { name := "SPRAY", lo := 24, w := 1, acc := .rwl, rst := 1 }
def SHAL_STATUS_THROTTLE : Fld := { name := "THROTTLE", lo := 0, w := 1, acc := .ro }
def SHAL_STATUS_MAX_AGE : Fld := { name := "MAX_AGE", lo := 16, w := 16, acc := .ro }
def SHAL_PROTOLOG_SRC_X : Fld := { name := "SRC_X", lo := 0, w := 4, acc := .ro }
def SHAL_PROTOLOG_SRC_Y : Fld := { name := "SRC_Y", lo := 4, w := 4, acc := .ro }
def SHAL_PROTOLOG_SRC_PORT : Fld := { name := "SRC_PORT", lo := 8, w := 2, acc := .ro }
def SHAL_PROTOLOG_TID : Fld := { name := "TID", lo := 10, w := 12, acc := .ro }
def SHAL_PROTOLOG_DEST_X : Fld := { name := "DEST_X", lo := 22, w := 4, acc := .ro }
def SHAL_PROTOLOG_DEST_Y : Fld := { name := "DEST_Y", lo := 26, w := 4, acc := .ro }
def SHAL_PROTOLOG_DEST_PORT : Fld := { name := "DEST_PORT", lo := 30, w := 2, acc := .ro }
def SHAL_PROTOLOG_VALID : Fld := { name := "VALID", lo := 32, w := 1, acc := .w1c, own := true }
def SHAL_LOCK_LOCK : Fld := { name := "LOCK", lo := 0, w := 1, acc := .w1s, own := true }
def SHAL_ERR_PROTO : Fld := { name := "PROTO", lo := 0, w := 1, acc := .w1c, own := true }
def SHAL_ERR_AGE : Fld := { name := "AGE", lo := 1, w := 1, acc := .w1c, own := true }
def SHAL_ERR_BAD_PACKET : Fld := { name := "BAD_PACKET", lo := 2, w := 1, acc := .w1c, own := true }
def SHAL_ERR_PRIV_DENIED : Fld := { name := "PRIV_DENIED", lo := 3, w := 1, acc := .w1c, own := true }
def SHAL_ERR_THROTTLE : Fld := { name := "THROTTLE", lo := 4, w := 1, acc := .w1c, own := true }
def SHAL_ERR_UNROUTABLE : Fld := { name := "UNROUTABLE", lo := 5, w := 1, acc := .w1c, own := true }
def SHAL_PRIV_CTL_ENDPOINT : Fld := { name := "ENDPOINT", lo := 0, w := 12, acc := .rw, own := true }
def SHAL_PRIV_CTL_VALID : Fld := { name := "VALID", lo := 12, w := 1, acc := .rw, own := true }
def SHAL_PRIV_CTL_ANY_TENANT : Fld := { name := "ANY_TENANT", lo := 13, w := 1, acc := .rw, own := true }
def SHAL_PRIV_CTL_KIND : Fld := { name := "KIND", lo := 14, w := 2, acc := .ro, rng := some (0, 2), own := true }
def SHAL_PRIV_TEN_TENANTS : Fld := { name := "TENANTS", lo := 0, w := 64, acc := .rw }
def DIR_CTRL_STRICT_BOOT : Fld := { name := "STRICT_BOOT", lo := 0, w := 1, acc := .w1c, rst := 1, own := true }
def DIR_CTRL_STRICT_TEST : Fld := { name := "STRICT_TEST", lo := 1, w := 1, acc := .rw }
def DIR_STATUS_STRICT : Fld := { name := "STRICT", lo := 0, w := 1, acc := .ro, rst := 1 }
def DIR_STATUS_BOOT : Fld := { name := "BOOT", lo := 1, w := 1, acc := .ro, rst := 1 }
def DIR_STATUS_TEST : Fld := { name := "TEST", lo := 2, w := 1, acc := .ro }
def DIR_STATUS_DEATH : Fld := { name := "DEATH", lo := 3, w := 1, acc := .ro }
def DIR_STATUS_TAKEOVER : Fld := { name := "TAKEOVER", lo := 4, w := 1, acc := .ro }
def DIR_STATUS_SWEEPS : Fld := { name := "SWEEPS", lo := 16, w := 11, acc := .ro }
def DIR_STATUS_SUSPECT : Fld := { name := "SUSPECT", lo := 32, w := 24, acc := .ro }
def DIR_OCC_VALID : Fld := { name := "VALID", lo := 0, w := 23, acc := .ro }
def DIR_OCC_TRACKERS : Fld := { name := "TRACKERS", lo := 32, w := 12, acc := .ro }
def DIR_ERR_DEATH : Fld := { name := "DEATH", lo := 0, w := 1, acc := .w1c, own := true }
def DIR_ERR_SNOOP_TIMEOUT : Fld := { name := "SNOOP_TIMEOUT", lo := 1, w := 1, acc := .w1c, own := true }
def DIR_ERR_PROTO : Fld := { name := "PROTO", lo := 2, w := 1, acc := .w1c, own := true }
def DIR_ERR_NO_ALIAS : Fld := { name := "NO_ALIAS", lo := 3, w := 1, acc := .w1c, own := true }
def DIR_ERR_SWEEP_DONE : Fld := { name := "SWEEP_DONE", lo := 4, w := 1, acc := .w1c, own := true }
def DIR_ERR_POISONED : Fld := { name := "POISONED", lo := 5, w := 1, acc := .w1c, own := true }
def DIR_DEATH_UNREACH_MS : Fld := { name := "UNREACH_MS", lo := 0, w := 16, acc := .rwl, rst := 100, rng := some (10, 65535) }
def DIR_DEATH_SNOOP_US : Fld := { name := "SNOOP_US", lo := 16, w := 16, acc := .rwl, rst := 1000, rng := some (200, 65535) }
def DIR_MEMDIST_FAST : Fld := { name := "FAST", lo := 0, w := 8, acc := .rw, rst := 28 }
def DIR_MEMDIST_SPILL : Fld := { name := "SPILL", lo := 8, w := 8, acc := .rw, rst := 50 }
def DIR_CMD_ENDPOINT : Fld := { name := "ENDPOINT", lo := 0, w := 12, acc := .rw, own := true }
def DIR_CMD_OP : Fld := { name := "OP", lo := 16, w := 2, acc := .wo, own := true }
def DIR_CMD_BUSY : Fld := { name := "BUSY", lo := 24, w := 1, acc := .ro }
def DIR_CMD_STATUS : Fld := { name := "STATUS", lo := 25, w := 3, acc := .ro }
def DIR_LOCK_LOCK : Fld := { name := "LOCK", lo := 0, w := 1, acc := .w1s, own := true }
def DIR_PROTOLOG_PA : Fld := { name := "PA", lo := 0, w := 48, acc := .ro }
def DIR_PROTOLOG_ENDPOINT : Fld := { name := "ENDPOINT", lo := 48, w := 12, acc := .ro }
def DIR_PROTOLOG_KIND : Fld := { name := "KIND", lo := 60, w := 3, acc := .ro }
def DIR_PROTOLOG_VALID : Fld := { name := "VALID", lo := 63, w := 1, acc := .w1c, own := true }
def DIR_DEAD_DEAD : Fld := { name := "DEAD", lo := 0, w := 64, acc := .ro }
def QOS_CFG_RETRY_MIN_US : Fld := { name := "RETRY_MIN_US", lo := 0, w := 8, acc := .rw, rst := 2, rng := some (1, 255) }
def QOS_CFG_YELLOW_THR : Fld := { name := "YELLOW_THR", lo := 8, w := 7, acc := .rw, rst := 50, rng := some (10, 100) }
def QOS_CFG_QLIMIT : Fld := { name := "QLIMIT", lo := 16, w := 12, acc := .rwl, rst := 256, rng := some (1, 2048) }
def QOS_CFG_BULK_QLIMIT : Fld := { name := "BULK_QLIMIT", lo := 32, w := 7, acc := .rwl, rst := 16, rng := some (1, 94) }
def QOS_LOCK_LOCK : Fld := { name := "LOCK", lo := 0, w := 1, acc := .w1s, own := true }
def QOS_TRATE_CIR : Fld := { name := "CIR", lo := 0, w := 16, acc := .rw }
def QOS_TRATE_PIR : Fld := { name := "PIR", lo := 16, w := 16, acc := .rw }
def QOS_TRATE_CBS : Fld := { name := "CBS", lo := 32, w := 16, acc := .rw, rst := 64 }
def QOS_TRATE_PBS : Fld := { name := "PBS", lo := 48, w := 16, acc := .rw, rst := 128, rng := some (1, 65535) }
def QOS_TWEIGHT_WEIGHT : Fld := { name := "WEIGHT", lo := 0, w := 8, acc := .rw, rst := 16, rng := some (1, 255) }
def QOS_TWEIGHT_BULK_WEIGHT : Fld := { name := "BULK_WEIGHT", lo := 8, w := 8, acc := .rw, rst := 16, rng := some (1, 255) }
def QOS_ERR_RED : Fld := { name := "RED", lo := 0, w := 1, acc := .w1c, own := true }
def QOS_ERR_QFULL : Fld := { name := "QFULL", lo := 1, w := 1, acc := .w1c, own := true }
def QOS_ERR_YELLOW_REFUSED : Fld := { name := "YELLOW_REFUSED", lo := 2, w := 1, acc := .w1c, own := true }
def QOS_ERR_DISPATCH_STARVED : Fld := { name := "DISPATCH_STARVED", lo := 3, w := 1, acc := .w1c, own := true }
def RAS_CTRL_SCRUB_EN : Fld := { name := "SCRUB_EN", lo := 0, w := 1, acc := .rw }
def RAS_CTRL_AUTO_REBUILD : Fld := { name := "AUTO_REBUILD", lo := 1, w := 1, acc := .rw, rst := 1 }
def RAS_SCRUB_PERIOD_H : Fld := { name := "PERIOD_H", lo := 0, w := 8, acc := .rwl, rst := 24, rng := some (1, 168) }
def RAS_REBUILD_PCT : Fld := { name := "PCT", lo := 0, w := 7, acc := .rwl, rst := 10, rng := some (1, 100) }
def RAS_REBUILD_STACK : Fld := { name := "STACK", lo := 8, w := 4, acc := .ro }
def RAS_REBUILD_ACTIVE : Fld := { name := "ACTIVE", lo := 12, w := 1, acc := .ro }
def RAS_UELOG_PA : Fld := { name := "PA", lo := 0, w := 48, acc := .ro }
def RAS_UELOG_VALID : Fld := { name := "VALID", lo := 63, w := 1, acc := .w1c, own := true }
def RAS_LOCK_LOCK : Fld := { name := "LOCK", lo := 0, w := 1, acc := .w1s, own := true }
def RAS_ERR_UE : Fld := { name := "UE", lo := 0, w := 1, acc := .w1c, own := true }
def RAS_ERR_CE_LOGGED : Fld := { name := "CE_LOGGED", lo := 1, w := 1, acc := .w1c, own := true }
def RAS_ERR_LASTING : Fld := { name := "LASTING", lo := 2, w := 1, acc := .w1c, own := true }
def RAS_ERR_REPAIR_FAIL : Fld := { name := "REPAIR_FAIL", lo := 3, w := 1, acc := .w1c, own := true }
def RAS_ERR_STACK_DEGRADED : Fld := { name := "STACK_DEGRADED", lo := 4, w := 1, acc := .w1c, own := true }
def RAS_ERR_REBUILD_DONE : Fld := { name := "REBUILD_DONE", lo := 5, w := 1, acc := .w1c, own := true }
def RAS_ERR_STRIPE_LOST : Fld := { name := "STRIPE_LOST", lo := 6, w := 1, acc := .w1c, own := true }
def RAS_ERR_EVAC_DONE : Fld := { name := "EVAC_DONE", lo := 7, w := 1, acc := .w1c, own := true }
def RAS_ERR_CELOG_OVF : Fld := { name := "CELOG_OVF", lo := 8, w := 1, acc := .w1c, own := true }
def RAS_ERR_DEVICE_MARKED : Fld := { name := "DEVICE_MARKED", lo := 9, w := 1, acc := .w1c, own := true }
def RAS_ERR_SCRUB_LATE : Fld := { name := "SCRUB_LATE", lo := 10, w := 1, acc := .w1c, own := true }
def RAS_CMD_OP : Fld := { name := "OP", lo := 0, w := 4, acc := .wo, own := true }
def RAS_CMD_TARGET : Fld := { name := "TARGET", lo := 8, w := 4, acc := .rw }
def RAS_CMD_BUSY : Fld := { name := "BUSY", lo := 12, w := 1, acc := .ro }
def RAS_CMD_STATUS : Fld := { name := "STATUS", lo := 13, w := 3, acc := .ro }
def RAS_CMDARG_PA : Fld := { name := "PA", lo := 0, w := 48, acc := .rw }
def RAS_STACK_STATE : Fld := { name := "STATE", lo := 0, w := 3, acc := .ro }
def RAS_STACK_PONDS_FAULTED : Fld := { name := "PONDS_FAULTED", lo := 8, w := 6, acc := .ro }
def RAS_STACK_WATERMARK : Fld := { name := "WATERMARK", lo := 16, w := 24, acc := .ro }
def RAS_CELOG0_PA : Fld := { name := "PA", lo := 0, w := 48, acc := .ro }
def RAS_CELOG0_SYMBOL : Fld := { name := "SYMBOL", lo := 48, w := 7, acc := .ro }
def RAS_CELOG0_VALID : Fld := { name := "VALID", lo := 63, w := 1, acc := .rw, own := true }
def RAS_CELOG1_COUNT : Fld := { name := "COUNT", lo := 0, w := 16, acc := .ro }
def RAS_CELOG1_STATE : Fld := { name := "STATE", lo := 16, w := 3, acc := .ro }
def RAS_CELOG1_MCYCLE : Fld := { name := "MCYCLE", lo := 32, w := 32, acc := .ro }
def PAIR_CFG_TWIN_GRACE_MS : Fld := { name := "TWIN_GRACE_MS", lo := 0, w := 16, acc := .rwl, rst := 100, rng := some (20, 10000) }
def PAIR_CFG_MISS_LIMIT : Fld := { name := "MISS_LIMIT", lo := 16, w := 8, acc := .rwl, rst := 5, rng := some (2, 255) }
def PAIR_CFG_RING_MISS : Fld := { name := "RING_MISS", lo := 24, w := 8, acc := .rwl, rst := 10, rng := some (2, 255) }
def PAIR_CFG_FENCE_DELAY_MS : Fld := { name := "FENCE_DELAY_MS", lo := 32, w := 8, acc := .rwl, rst := 50, rng := some (10, 255) }
def PAIR_CFG_AUTO_TAKEOVER : Fld := { name := "AUTO_TAKEOVER", lo := 40, w := 1, acc := .rwl, rst := 1 }
def PAIR_CFG_RESYNC_PCT : Fld := { name := "RESYNC_PCT", lo := 41, w := 7, acc := .rwl, rst := 25, rng := some (1, 100) }
def PAIR_STATUS_STATE : Fld := { name := "STATE", lo := 0, w := 3, acc := .ro }
def PAIR_STATUS_SIDE : Fld := { name := "SIDE", lo := 3, w := 1, acc := .ro }
def PAIR_STATUS_TWIN_OK : Fld := { name := "TWIN_OK", lo := 4, w := 1, acc := .ro }
def PAIR_STATUS_RING_OK : Fld := { name := "RING_OK", lo := 5, w := 1, acc := .ro }
def PAIR_STATUS_FENCE_OUT : Fld := { name := "FENCE_OUT", lo := 6, w := 1, acc := .ro }
def PAIR_STATUS_COPY_SEQ : Fld := { name := "COPY_SEQ", lo := 16, w := 32, acc := .ro }
def PAIR_CMD_OP : Fld := { name := "OP", lo := 0, w := 3, acc := .wo, own := true }
def PAIR_CMD_BASIN : Fld := { name := "BASIN", lo := 8, w := 10, acc := .rw }
def PAIR_CMD_BUSY : Fld := { name := "BUSY", lo := 18, w := 1, acc := .ro }
def PAIR_CMD_STATUS : Fld := { name := "STATUS", lo := 19, w := 3, acc := .ro }
def PAIR_CMD_ALL : Fld := { name := "ALL", lo := 22, w := 1, acc := .rw }
def PAIR_ERR_TWIN_LOST : Fld := { name := "TWIN_LOST", lo := 0, w := 1, acc := .w1c, own := true }
def PAIR_ERR_RING_LOST : Fld := { name := "RING_LOST", lo := 1, w := 1, acc := .w1c, own := true }
def PAIR_ERR_EXPOSED : Fld := { name := "EXPOSED", lo := 2, w := 1, acc := .w1c, own := true }
def PAIR_ERR_FENCED : Fld := { name := "FENCED", lo := 3, w := 1, acc := .w1c, own := true }
def PAIR_ERR_TAKEOVER_DONE : Fld := { name := "TAKEOVER_DONE", lo := 4, w := 1, acc := .w1c, own := true }
def PAIR_ERR_BASINS_LOST : Fld := { name := "BASINS_LOST", lo := 5, w := 1, acc := .w1c, own := true }
def PAIR_ERR_GOODBYE : Fld := { name := "GOODBYE", lo := 6, w := 1, acc := .w1c, own := true }
def PAIR_ERR_COPY_OVERRUN : Fld := { name := "COPY_OVERRUN", lo := 7, w := 1, acc := .w1c, own := true }
def PAIR_ERR_RESYNC_DONE : Fld := { name := "RESYNC_DONE", lo := 8, w := 1, acc := .w1c, own := true }
def PAIR_ERR_SWITCHED_BACK : Fld := { name := "SWITCHED_BACK", lo := 9, w := 1, acc := .w1c, own := true }
def PWR_FEED_STATUS_A_OK : Fld := { name := "A_OK", lo := 0, w := 1, acc := .ro }
def PWR_FEED_STATUS_B_OK : Fld := { name := "B_OK", lo := 1, w := 1, acc := .ro }
def PWR_FEED_STATUS_SINGLE : Fld := { name := "SINGLE", lo := 2, w := 1, acc := .ro }
def PWR_FEED_STATUS_A_LOST : Fld := { name := "A_LOST", lo := 3, w := 1, acc := .w1c, own := true }
def PWR_FEED_STATUS_B_LOST : Fld := { name := "B_LOST", lo := 4, w := 1, acc := .w1c, own := true }
def PWR_FEED_STATUS_VRM_A_FAULT : Fld := { name := "VRM_A_FAULT", lo := 5, w := 1, acc := .ro }
def PWR_FEED_STATUS_VRM_B_FAULT : Fld := { name := "VRM_B_FAULT", lo := 6, w := 1, acc := .ro }
def PWR_FEED_STATUS_POWER_W : Fld := { name := "POWER_W", lo := 16, w := 11, acc := .ro }
def PWR_FEED_CFG_CAP_W : Fld := { name := "CAP_W", lo := 0, w := 11, acc := .rwl, rst := 620, rng := some (300, 1050) }
def PWR_FEED_CFG_DEGLITCH_US : Fld := { name := "DEGLITCH_US", lo := 11, w := 10, acc := .rwl, rst := 5, rng := some (1, 1000) }
def PWR_FEED_CMD_RESTORE : Fld := { name := "RESTORE", lo := 0, w := 1, acc := .wo, own := true }
def PWR_FEED_CMD_FAIL : Fld := { name := "FAIL", lo := 1, w := 1, acc := .ro }
def SEC_CTRL_DBG_ALLOW : Fld := { name := "DBG_ALLOW", lo := 0, w := 1, acc := .rwl }
def SEC_STATUS_KEK_VALID : Fld := { name := "KEK_VALID", lo := 0, w := 1, acc := .ro }
def SEC_STATUS_ID_READY : Fld := { name := "ID_READY", lo := 1, w := 1, acc := .ro }
def SEC_STATUS_ID_EXHAUSTED : Fld := { name := "ID_EXHAUSTED", lo := 2, w := 1, acc := .ro }
def SEC_STATUS_ID_STATE_BAD : Fld := { name := "ID_STATE_BAD", lo := 3, w := 1, acc := .ro }
def SEC_STATUS_DEBUG_LATCH : Fld := { name := "DEBUG_LATCH", lo := 4, w := 1, acc := .ro }
def SEC_STATUS_DEBUG_OPEN : Fld := { name := "DEBUG_OPEN", lo := 5, w := 1, acc := .ro }
def SEC_STATUS_DBG_FUSE : Fld := { name := "DBG_FUSE", lo := 6, w := 1, acc := .ro }
def SEC_STATUS_CHUNKS : Fld := { name := "CHUNKS", lo := 8, w := 12, acc := .ro }
def SEC_STATUS_SVN_FUSED : Fld := { name := "SVN_FUSED", lo := 24, w := 7, acc := .ro }
def SEC_KCMD_OP : Fld := { name := "OP", lo := 0, w := 2, acc := .wo, own := true }
def SEC_KCMD_SLOT : Fld := { name := "SLOT", lo := 8, w := 9, acc := .rw }
def SEC_KCMD_FORCE : Fld := { name := "FORCE", lo := 17, w := 1, acc := .rw }
def SEC_KCMD_BUSY : Fld := { name := "BUSY", lo := 18, w := 1, acc := .ro }
def SEC_KCMD_STATUS : Fld := { name := "STATUS", lo := 19, w := 3, acc := .ro }
def SEC_KSTAT_STATE : Fld := { name := "STATE", lo := 0, w := 1, acc := .ro }
def SEC_KSTAT_GEN : Fld := { name := "GEN", lo := 32, w := 32, acc := .ro }
def SEC_ACMD_REPORT : Fld := { name := "REPORT", lo := 0, w := 1, acc := .wo, own := true }
def SEC_ACMD_SCOPE : Fld := { name := "SCOPE", lo := 1, w := 1, acc := .rw }
def SEC_ACMD_TENANT : Fld := { name := "TENANT", lo := 8, w := 8, acc := .rw }
def SEC_ACMD_BUSY : Fld := { name := "BUSY", lo := 16, w := 1, acc := .ro }
def SEC_ACMD_STATUS : Fld := { name := "STATUS", lo := 17, w := 3, acc := .ro }
def SEC_ACMD_LEN : Fld := { name := "LEN", lo := 32, w := 32, acc := .ro }
def SEC_SIGNER_CTL_VALID : Fld := { name := "VALID", lo := 0, w := 1, acc := .rw }
def SEC_SIGNER_CTL_KIND : Fld := { name := "KIND", lo := 1, w := 1, acc := .rw }
def SEC_SIGNER_CTL_TENANT : Fld := { name := "TENANT", lo := 8, w := 8, acc := .rw }
def SEC_ERR_IMPORT_FAIL : Fld := { name := "IMPORT_FAIL", lo := 0, w := 1, acc := .w1c, own := true }
def SEC_ERR_VERIFY_FAIL : Fld := { name := "VERIFY_FAIL", lo := 1, w := 1, acc := .w1c, own := true }
def SEC_ERR_ID_LOW : Fld := { name := "ID_LOW", lo := 2, w := 1, acc := .w1c, own := true }
def SEC_ERR_ID_EXHAUSTED : Fld := { name := "ID_EXHAUSTED", lo := 3, w := 1, acc := .w1c, own := true }
def SEC_ERR_ID_STATE_BAD : Fld := { name := "ID_STATE_BAD", lo := 4, w := 1, acc := .w1c, own := true }
def SEC_ERR_DEBUG_REQ : Fld := { name := "DEBUG_REQ", lo := 5, w := 1, acc := .w1c, own := true }
def SEC_ERR_DEBUG_REFUSED : Fld := { name := "DEBUG_REFUSED", lo := 6, w := 1, acc := .w1c, own := true }
def SEC_ERR_PARTNER_AUTH : Fld := { name := "PARTNER_AUTH", lo := 7, w := 1, acc := .w1c, own := true }
def RST_CAUSE_CAUSE : Fld := { name := "CAUSE", lo := 0, w := 12, acc := .w1c, rst := 1, own := true }
def RST_LAST_LEVEL : Fld := { name := "LEVEL", lo := 0, w := 2, acc := .ro }
def RST_LAST_SOURCE : Fld := { name := "SOURCE", lo := 2, w := 4, acc := .ro }
def RST_LAST_L2_FORCED : Fld := { name := "L2_FORCED", lo := 6, w := 1, acc := .w1c, own := true }
def RST_LAST_L1_COUNT : Fld := { name := "L1_COUNT", lo := 16, w := 16, acc := .ro }
def RST_LAST_L2_COUNT : Fld := { name := "L2_COUNT", lo := 32, w := 16, acc := .ro }
def RST_SWRESET_LEVEL : Fld := { name := "LEVEL", lo := 0, w := 2, acc := .wo, own := true }
def RST_SWRESET_CONFIRM : Fld := { name := "CONFIRM", lo := 8, w := 8, acc := .wo, own := true }
def RST_WDOG_TIMEOUT_MS : Fld := { name := "TIMEOUT_MS", lo := 0, w := 16, acc := .rwl, rst := 100, rng := some (10, 65535) }
def RST_WDOG_ENABLE : Fld := { name := "ENABLE", lo := 16, w := 1, acc := .rwl, rst := 1 }
def RST_WDOG_KICK : Fld := { name := "KICK", lo := 17, w := 1, acc := .wo, own := true }
def RST_WDOG_REMAIN_MS : Fld := { name := "REMAIN_MS", lo := 32, w := 16, acc := .ro }
def RST_UNIT_KIND : Fld := { name := "KIND", lo := 0, w := 2, acc := .rw }
def RST_UNIT_INDEX : Fld := { name := "INDEX", lo := 2, w := 9, acc := .rw }
def RST_UNIT_OP : Fld := { name := "OP", lo := 12, w := 2, acc := .wo, own := true }
def RST_UNIT_BUSY : Fld := { name := "BUSY", lo := 16, w := 1, acc := .ro }
def RST_UNIT_STATUS : Fld := { name := "STATUS", lo := 17, w := 3, acc := .ro }
def RST_DELAY_DELAYED : Fld := { name := "DELAYED", lo := 0, w := 32, acc := .ro }
def RST_DELAY_LONGEST_US : Fld := { name := "LONGEST_US", lo := 32, w := 32, acc := .ro }
def RST_LOCK_LOCK : Fld := { name := "LOCK", lo := 0, w := 1, acc := .w1s, own := true }
def CLK_SRCSTAT_READY : Fld := { name := "READY", lo := 0, w := 5, acc := .ro }
def CLK_SRCSTAT_FAILED : Fld := { name := "FAILED", lo := 8, w := 5, acc := .ro }
def CLK_SEL_WELL_SRC : Fld := { name := "WELL_SRC", lo := 0, w := 1, acc := .rw, own := true }
def CLK_SEL_SEC_SRC : Fld := { name := "SEC_SRC", lo := 1, w := 1, acc := .rw, own := true }
def CLK_SEL_TWIN_SRC : Fld := { name := "TWIN_SRC", lo := 2, w := 1, acc := .rw, own := true }
def CLK_CFG_FAIL_WAIT_MS : Fld := { name := "FAIL_WAIT_MS", lo := 0, w := 16, acc := .rwl, rst := 10, rng := some (1, 1000) }
def CLK_CFG_WELL_AUTOFALL : Fld := { name := "WELL_AUTOFALL", lo := 16, w := 1, acc := .rwl, rst := 1 }
def CLK_CFG_TWIN_AUTOFALL : Fld := { name := "TWIN_AUTOFALL", lo := 17, w := 1, acc := .rwl, rst := 1 }
def CLK_LOCK_LOCK : Fld := { name := "LOCK", lo := 0, w := 1, acc := .w1s, own := true }
def CLK_ERR_SRC_FAIL : Fld := { name := "SRC_FAIL", lo := 0, w := 5, acc := .w1c, own := true }
def CLK_ERR_SWITCH_REFUSED : Fld := { name := "SWITCH_REFUSED", lo := 5, w := 1, acc := .w1c, own := true }
def CLK_ERR_AUTOFALL : Fld := { name := "AUTOFALL", lo := 6, w := 1, acc := .w1c, own := true }
def CLK_ERR_PLL_UNLOCK : Fld := { name := "PLL_UNLOCK", lo := 7, w := 1, acc := .w1c, own := true }
def CLK_ERR_SRC_RETURN : Fld := { name := "SRC_RETURN", lo := 8, w := 1, acc := .w1c, own := true }
def PWR_CTRL_SPARE_PG : Fld := { name := "SPARE_PG", lo := 0, w := 1, acc := .rw, rst := 1 }
def PWR_CTRL_IDLE_CG : Fld := { name := "IDLE_CG", lo := 1, w := 1, acc := .rw, rst := 1 }
def PWR_CTRL_TARN_MAXPT : Fld := { name := "TARN_MAXPT", lo := 4, w := 2, acc := .rwl }
def PWR_STATUS_ISSUE_F : Fld := { name := "ISSUE_F", lo := 0, w := 5, acc := .ro, rst := 16 }
def PWR_STATUS_POINT : Fld := { name := "POINT", lo := 8, w := 2, acc := .ro }
def PWR_STATUS_CAP_ACTIVE : Fld := { name := "CAP_ACTIVE", lo := 10, w := 1, acc := .ro }
def PWR_STATUS_THERM_ACTIVE : Fld := { name := "THERM_ACTIVE", lo := 11, w := 1, acc := .ro }
def PWR_STATUS_TJ_MAX_C : Fld := { name := "TJ_MAX_C", lo := 16, w := 8, acc := .ro }
def PWR_STATUS_TSTK_MAX_C : Fld := { name := "TSTK_MAX_C", lo := 24, w := 8, acc := .ro }
def PWR_CAP_CAP2_W : Fld := { name := "CAP2_W", lo := 0, w := 11, acc := .rwl, rst := 1050, rng := some (300, 1050) }
def PWR_CAP_HYST_W : Fld := { name := "HYST_W", lo := 11, w := 10, acc := .rwl, rst := 20, rng := some (5, 200) }
def PWR_THERM_THROTTLE_C : Fld := { name := "THROTTLE_C", lo := 0, w := 8, acc := .rwl, rst := 100, rng := some (80, 105) }
def PWR_THERM_TRIP_C : Fld := { name := "TRIP_C", lo := 8, w := 8, acc := .ro, rst := 115 }
def PWR_LOCK_LOCK : Fld := { name := "LOCK", lo := 0, w := 1, acc := .w1s, own := true }
def PWR_CNTCLR_CLEAR : Fld := { name := "CLEAR", lo := 0, w := 3, acc := .wo, own := true }
def PWR_ERR_CAP_ACTIVE : Fld := { name := "CAP_ACTIVE", lo := 0, w := 1, acc := .w1c, own := true }
def PWR_ERR_THERM_THROTTLE : Fld := { name := "THERM_THROTTLE", lo := 1, w := 1, acc := .w1c, own := true }
def PWR_ERR_VMON_WARN : Fld := { name := "VMON_WARN", lo := 2, w := 1, acc := .w1c, own := true }
def PWR_ERR_VRM_FAULT : Fld := { name := "VRM_FAULT", lo := 3, w := 1, acc := .w1c, own := true }
def PWR_ERR_PMBUS_FAIL : Fld := { name := "PMBUS_FAIL", lo := 4, w := 1, acc := .w1c, own := true }
def PWR_ERR_CAP_MISSED : Fld := { name := "CAP_MISSED", lo := 5, w := 1, acc := .w1c, own := true }
def GLOB_ID_STEPPING : Fld := { name := "STEPPING", lo := 0, w := 8, acc := .ro }
def GLOB_ID_DEVICE : Fld := { name := "DEVICE", lo := 8, w := 16, acc := .ro, rst := 0x9600 }
def GLOB_ID_PCI_VENDOR : Fld := { name := "PCI_VENDOR", lo := 24, w := 16, acc := .ro }
def GLOB_CAP_TARNS : Fld := { name := "TARNS", lo := 0, w := 7, acc := .ro, rst := 100 }
def GLOB_CAP_STACKS : Fld := { name := "STACKS", lo := 8, w := 4, acc := .ro, rst := 12 }
def GLOB_CAP_MERE : Fld := { name := "MERE", lo := 12, w := 4, acc := .ro, rst := 8 }
def GLOB_CAP_SPILL_MASK : Fld := { name := "SPILL_MASK", lo := 16, w := 12, acc := .ro }
def GLOB_CAP_FULL_CONFIG : Fld := { name := "FULL_CONFIG", lo := 28, w := 1, acc := .ro }
def GLOB_STATUS_PHASE : Fld := { name := "PHASE", lo := 0, w := 3, acc := .ro }
def GLOB_STATUS_FATAL : Fld := { name := "FATAL", lo := 3, w := 1, acc := .ro }
def GLOB_STATUS_DUMP_VALID : Fld := { name := "DUMP_VALID", lo := 4, w := 1, acc := .ro }
def GLOB_STATUS_FATAL_CAUSE : Fld := { name := "FATAL_CAUSE", lo := 8, w := 8, acc := .ro }
def WELL_CORECTL_RELEASE : Fld := { name := "RELEASE", lo := 0, w := 4, acc := .w1s, rst := 1, own := true }
def WELL_CORECTL_STEWARD_RELEASE : Fld := { name := "STEWARD_RELEASE", lo := 4, w := 4, acc := .w1s, own := true }
def WELL_CORECTL_STEWARD_RESTART : Fld := { name := "STEWARD_RESTART", lo := 8, w := 4, acc := .wo, own := true }
def WELL_CORESTAT_WELL_STATE : Fld := { name := "WELL_STATE", lo := 0, w := 8, acc := .ro, rst := 1 }
def WELL_CORESTAT_STEWARD_STATE : Fld := { name := "STEWARD_STATE", lo := 8, w := 8, acc := .ro }
def WELL_CORESTAT_STEWARD_LOST : Fld := { name := "STEWARD_LOST", lo := 16, w := 4, acc := .ro }
def WELL_MCYCLE_MCYCLE : Fld := { name := "MCYCLE", lo := 0, w := 64, acc := .ro }
def WELL_OVERRUN_COUNT : Fld := { name := "COUNT", lo := 0, w := 32, acc := .ro }
def WELL_ERR_CORE_STOP : Fld := { name := "CORE_STOP", lo := 0, w := 1, acc := .w1c, own := true }
def WELL_ERR_SRAM_UE : Fld := { name := "SRAM_UE", lo := 1, w := 1, acc := .w1c, own := true }
def WELL_ERR_SRAM_CE : Fld := { name := "SRAM_CE", lo := 2, w := 1, acc := .w1c, own := true }
def WELL_ERR_STEWARD_LOST : Fld := { name := "STEWARD_LOST", lo := 3, w := 1, acc := .w1c, own := true }
def MGMT_CTRL_MBX_EN : Fld := { name := "MBX_EN", lo := 0, w := 1, acc := .rw, own := true }
def MGMT_CTRL_BYPASS_FORCE : Fld := { name := "BYPASS_FORCE", lo := 1, w := 1, acc := .rw }
def MGMT_STATUS_MBX_BUSY : Fld := { name := "MBX_BUSY", lo := 0, w := 1, acc := .ro }
def MGMT_STATUS_EVT_HELD : Fld := { name := "EVT_HELD", lo := 1, w := 1, acc := .ro }
def MGMT_STATUS_HELD : Fld := { name := "HELD", lo := 32, w := 32, acc := .ro }
def MGMT_CMD_PTR_TAIL : Fld := { name := "TAIL", lo := 0, w := 16, acc := .rw, own := true }
def MGMT_CMD_PTR_HEAD : Fld := { name := "HEAD", lo := 16, w := 16, acc := .ro }
def MGMT_CMD_PTR_DONE : Fld := { name := "DONE", lo := 32, w := 16, acc := .ro }
def MGMT_EVT_PTR_HEAD : Fld := { name := "HEAD", lo := 0, w := 16, acc := .rw, own := true }
def MGMT_EVT_PTR_TAIL : Fld := { name := "TAIL", lo := 16, w := 16, acc := .ro }
def MGMT_SNAP_START : Fld := { name := "START", lo := 0, w := 1, acc := .wo, own := true }
def MGMT_SNAP_BUSY : Fld := { name := "BUSY", lo := 1, w := 1, acc := .ro }
def MGMT_SNAP_INCOMPLETE : Fld := { name := "INCOMPLETE", lo := 2, w := 1, acc := .ro }
def MGMT_SNAP_EPOCH : Fld := { name := "EPOCH", lo := 32, w := 32, acc := .ro }
def MGMT_LOG_HEAD : Fld := { name := "HEAD", lo := 0, w := 32, acc := .ro }
def MGMT_LOG_READ : Fld := { name := "READ", lo := 32, w := 32, acc := .rw }
def MGMT_TRACE_MASK : Fld := { name := "MASK", lo := 0, w := 8, acc := .rw }
def MGMT_STORM_LIMIT : Fld := { name := "LIMIT", lo := 0, w := 8, acc := .rwl, rst := 16, rng := some (1, 255) }
def MGMT_RING_CFG_STATION : Fld := { name := "STATION", lo := 0, w := 8, acc := .rwl, rng := some (0, 254) }
def MGMT_RING_CFG_PARTNER : Fld := { name := "PARTNER", lo := 8, w := 8, acc := .rwl }
def MGMT_RING_CFG_RSTCODE : Fld := { name := "RSTCODE", lo := 16, w := 16, acc := .rwl }
def MGMT_RING_STATUS_SYNC : Fld := { name := "SYNC", lo := 0, w := 2, acc := .ro }
def MGMT_RING_STATUS_PARTNER_SEEN : Fld := { name := "PARTNER_SEEN", lo := 2, w := 2, acc := .ro }
def MGMT_ALARM_ALARM : Fld := { name := "ALARM", lo := 0, w := 64, acc := .w1c, own := true }
def MGMT_LOCK_LOCK : Fld := { name := "LOCK", lo := 0, w := 1, acc := .w1s, own := true }
def MGMT_ALARMCNT_COUNT : Fld := { name := "COUNT", lo := 0, w := 32, acc := .ro }
def MGMT_ERR_CMD_RANGE : Fld := { name := "CMD_RANGE", lo := 0, w := 1, acc := .w1c, own := true }
def MGMT_ERR_EVT_HELD : Fld := { name := "EVT_HELD", lo := 1, w := 1, acc := .w1c, own := true }
def MGMT_ERR_SNAP_REFUSED : Fld := { name := "SNAP_REFUSED", lo := 2, w := 1, acc := .w1c, own := true }
def MGMT_ERR_SNAP_INCOMPLETE : Fld := { name := "SNAP_INCOMPLETE", lo := 3, w := 1, acc := .w1c, own := true }
def MGMT_ERR_RING_RESET_REFUSED : Fld := { name := "RING_RESET_REFUSED", lo := 4, w := 1, acc := .w1c, own := true }
def MGMT_ERR_RING_SYNC_LOST : Fld := { name := "RING_SYNC_LOST", lo := 5, w := 1, acc := .w1c, own := true }
def SPILL_SCHED_AGE_LIMIT : Fld := { name := "AGE_LIMIT", lo := 0, w := 16, acc := .rw, rst := 2500 }
def SPILL_SCHED_ROW_IDLE : Fld := { name := "ROW_IDLE", lo := 16, w := 8, acc := .rw, rst := 100 }
def SPILL_SCHED_WQ_HIGH : Fld := { name := "WQ_HIGH", lo := 24, w := 7, acc := .rw, rst := 48, rng := some (17, 64) }
def SPILL_RETRAIN_PERIOD_MS : Fld := { name := "PERIOD_MS", lo := 0, w := 8, acc := .rwl, rst := 10, rng := some (1, 100) }
def SPILL_RETRAIN_MAX_PAUSE_NS : Fld := { name := "MAX_PAUSE_NS", lo := 8, w := 10, acc := .rwl, rst := 1000, rng := some (200, 1000) }
def SPILL_RETRAIN_STARTER : Fld := { name := "STARTER", lo := 18, w := 1, acc := .rw }
def SPILL_ACT_THRESH : Fld := { name := "THRESH", lo := 0, w := 11, acc := .rwl, rst := 1024, rng := some (64, 2047) }
def SPILL_ACT_PROB_LOG2 : Fld := { name := "PROB_LOG2", lo := 11, w := 4, acc := .rwl, rst := 8, rng := some (4, 12) }
def SPILL_ACT_BLAST : Fld := { name := "BLAST", lo := 15, w := 2, acc := .rwl, rst := 2, rng := some (1, 2) }
def POND_LOCK_LOCK : Fld := { name := "LOCK", lo := 0, w := 1, acc := .w1s, own := true }
def SPILL_LOCK_LOCK : Fld := { name := "LOCK", lo := 0, w := 1, acc := .w1s, own := true }
def MERE_LOCK_LOCK : Fld := { name := "LOCK", lo := 0, w := 1, acc := .w1s, own := true }
def PAIR_LOCK_LOCK : Fld := { name := "LOCK", lo := 0, w := 1, acc := .w1s, own := true }
def SEC_LOCK_LOCK : Fld := { name := "LOCK", lo := 0, w := 1, acc := .w1s, own := true }
def POND_CNTCLR_CLEAR : Fld := { name := "CLEAR", lo := 0, w := 12, acc := .wo, own := true }
def SPILL_CNTCLR_CLEAR : Fld := { name := "CLEAR", lo := 0, w := 12, acc := .wo, own := true }
def XLAT_CNTCLR_CLEAR : Fld := { name := "CLEAR", lo := 0, w := 8, acc := .wo, own := true }
def MERE_CNTCLR_CLEAR : Fld := { name := "CLEAR", lo := 0, w := 9, acc := .wo, own := true }
def SHAL_CNTCLR_CLEAR : Fld := { name := "CLEAR", lo := 0, w := 9, acc := .wo, own := true }
def DIR_CNTCLR_CLEAR : Fld := { name := "CLEAR", lo := 0, w := 14, acc := .wo, own := true }
def QOS_CNTCLR_CLEAR : Fld := { name := "CLEAR", lo := 0, w := 3, acc := .wo, own := true }
def RAS_CNTCLR_CLEAR : Fld := { name := "CLEAR", lo := 0, w := 13, acc := .wo, own := true }
def PAIR_CNTCLR_CLEAR : Fld := { name := "CLEAR", lo := 0, w := 4, acc := .wo, own := true }
def SEC_CNTCLR_CLEAR : Fld := { name := "CLEAR", lo := 0, w := 5, acc := .wo, own := true }
def MGMT_CNTCLR_CLEAR : Fld := { name := "CLEAR", lo := 0, w := 9, acc := .wo, own := true }
def JOB_ICFG_SEL_INLET : Fld := { name := "INLET", lo := 0, w := 12, acc := .rw }
def XLAT_CMDARG0_ARG : Fld := { name := "ARG", lo := 0, w := 64, acc := .rw }
def XLAT_CMDARG1_ARG : Fld := { name := "ARG", lo := 0, w := 64, acc := .rw }
def XLAT_CMDARG2_ARG : Fld := { name := "ARG", lo := 0, w := 64, acc := .rw }
def XLAT_CMDRES_RES : Fld := { name := "RES", lo := 0, w := 64, acc := .ro }
def XLAT_FQ_ENTRY_WORD : Fld := { name := "WORD", lo := 0, w := 64, acc := .ro }
def MERE_ID_INSTANCE : Fld := { name := "INSTANCE", lo := 0, w := 3, acc := .ro }
def MERE_ID_QUADRANT : Fld := { name := "QUADRANT", lo := 3, w := 2, acc := .ro }
def MERE_PORTID_PORT : Fld := { name := "PORT", lo := 0, w := 4, acc := .ro }
def MERE_PORTID_CHIP : Fld := { name := "CHIP", lo := 8, w := 56, acc := .ro }
def MERE_PEERID_PEER : Fld := { name := "PEER", lo := 0, w := 64, acc := .ro }
def MERE_CREDIT0_C0 : Fld := { name := "C0", lo := 0, w := 16, acc := .ro }
def MERE_CREDIT0_C1 : Fld := { name := "C1", lo := 16, w := 16, acc := .ro }
def MERE_CREDIT0_C2 : Fld := { name := "C2", lo := 32, w := 16, acc := .ro }
def MERE_CREDIT1_C3 : Fld := { name := "C3", lo := 0, w := 16, acc := .ro }
def MERE_CREDIT1_C4 : Fld := { name := "C4", lo := 16, w := 16, acc := .ro }
def MERE_CREDIT1_C5 : Fld := { name := "C5", lo := 32, w := 16, acc := .ro }
def QOS_CLASSW_CW_0 : Fld := { name := "CW_0", lo := 0, w := 4, acc := .rw, rst := 8, rng := some (1, 15) }
def QOS_CLASSW_CW_1 : Fld := { name := "CW_1", lo := 4, w := 4, acc := .rw, rst := 4, rng := some (1, 15) }
def QOS_CLASSW_CW_2 : Fld := { name := "CW_2", lo := 8, w := 4, acc := .rw, rst := 2, rng := some (1, 15) }
def QOS_CLASSW_CW_3 : Fld := { name := "CW_3", lo := 12, w := 4, acc := .rw, rst := 1, rng := some (1, 15) }
def QOS_TCNT_COUNT : Fld := { name := "COUNT", lo := 0, w := 64, acc := .ro }
def QOS_EPCLASS_CLASSES : Fld := { name := "CLASSES", lo := 0, w := 64, acc := .rw, rst := 0x5555555555555555 }
def DIR_DIST_DISTS : Fld := { name := "DISTS", lo := 0, w := 64, acc := .rw, rst := 0xFFFFFFFFFFFFFFFF }
def RST_LEVELMAP_MAP : Fld := { name := "MAP", lo := 0, w := 24, acc := .ro }
def SEC_KARG_BUF : Fld := { name := "BUF", lo := 0, w := 32, acc := .rw }
def SEC_AARG_BUF : Fld := { name := "BUF", lo := 0, w := 32, acc := .rw }
def SEC_MEXT_CMD_EXTEND : Fld := { name := "EXTEND", lo := 0, w := 1, acc := .wo, own := true }
def SEC_MEXT_CMD_EXTENDS : Fld := { name := "EXTENDS", lo := 32, w := 32, acc := .ro }
def SEC_SVN_COMMIT : Fld := { name := "COMMIT", lo := 0, w := 1, acc := .wo, own := true }
def SEC_SVN_RUN_SVN : Fld := { name := "RUN_SVN", lo := 8, w := 7, acc := .ro }
def SEC_ROM_MEAS_MEAS : Fld := { name := "MEAS", lo := 0, w := 64, acc := .ro }
def SEC_FW_MEAS_MEAS : Fld := { name := "MEAS", lo := 0, w := 64, acc := .ro }
def SEC_CONFIG_MEAS_MEAS : Fld := { name := "MEAS", lo := 0, w := 64, acc := .ro }
def SEC_MEXT_DATA_DATA : Fld := { name := "DATA", lo := 0, w := 64, acc := .rw }
def SEC_SIGNER_HASH_HASH : Fld := { name := "HASH", lo := 0, w := 64, acc := .rw }
def CLK_ERRMASK_MASK : Fld := { name := "MASK", lo := 0, w := 9, acc := .rw, rst := 511 }
def PWR_ERRMASK_MASK : Fld := { name := "MASK", lo := 0, w := 6, acc := .rw, rst := 63 }
/-- TWIN_ERR's bits 10 and 12 are reserved (R304): its mask bits are 0 to 9 and 11. -/
def TWIN_ERRMASK_CONFIG_FAIL : Fld := { name := "CONFIG_FAIL", lo := 11, w := 1, acc := .rw, rst := 1 }
def MERE_ERRMASK_MASK : Fld := { name := "MASK", lo := 0, w := 13, acc := .rw, rst := 8191 }
def SHAL_ERRMASK_MASK : Fld := { name := "MASK", lo := 0, w := 6, acc := .rw, rst := 63 }
def XLAT_ERRMASK_MASK : Fld := { name := "MASK", lo := 0, w := 6, acc := .rw, rst := 63 }
def DIR_ERRMASK_MASK : Fld := { name := "MASK", lo := 0, w := 6, acc := .rw, rst := 63 }
def QOS_ERRMASK_MASK : Fld := { name := "MASK", lo := 0, w := 4, acc := .rw }
def JOB_ERRMASK_MASK : Fld := { name := "MASK", lo := 0, w := 7, acc := .rw, rst := 127 }
def TARN_ERRMASK_MASK : Fld := { name := "MASK", lo := 0, w := 8, acc := .rw, rst := 255 }
def POND_ERRMASK_MASK : Fld := { name := "MASK", lo := 0, w := 7, acc := .rw, rst := 127 }
def SPILL_ERRMASK_MASK : Fld := { name := "MASK", lo := 0, w := 8, acc := .rw, rst := 255 }
def RAS_ERRMASK_MASK : Fld := { name := "MASK", lo := 0, w := 11, acc := .rw, rst := 2047 }
def PAIR_ERRMASK_MASK : Fld := { name := "MASK", lo := 0, w := 10, acc := .rw, rst := 1023 }
def SEC_ERRMASK_MASK : Fld := { name := "MASK", lo := 0, w := 8, acc := .rw, rst := 255 }
def MGMT_ERRMASK_MASK : Fld := { name := "MASK", lo := 0, w := 6, acc := .rw, rst := 63 }
def WELL_ERRMASK_MASK : Fld := { name := "MASK", lo := 0, w := 4, acc := .rw, rst := 15 }

end F

/-- Where a BAR0 offset falls: its block, its number and the offset within the block; none outside every block (R13). -/
def locate (off : Nat) : Option (Blk × Nat × Nat) :=
  if off < 0x100000 then some (.glob, 0, off)
  else if off < 0x110000 then some (.rst, 0, off - 0x100000)
  else if off < 0x120000 then some (.clk, 0, off - 0x110000)
  else if off < 0x130000 then some (.pwr, 0, off - 0x120000)
  else if off < 0x200000 then none
  else if off < 0x290000 then some (.mere, (off - 0x200000) / 0x10000, (off - 0x200000) % 0x10000)
  else if off < 0x2A0000 then some (.pair, 0, off - 0x290000)
  else if off < 0x300000 then none
  else if off < 0x400000 then some (.shal, 0, off - 0x300000)
  else if off < 0x480000 then some (.xlat, 0, off - 0x400000)
  else if off < 0x500000 then some (.dir, 0, off - 0x480000)
  else if off < 0x600000 then some (.qos, 0, off - 0x500000)
  else if off < 0x800000 then some (.job, 0, off - 0x600000)
  else if off < 0x990000 then some (.tarn, (off - 0x800000) / 0x4000, (off - 0x800000) % 0x4000)
  else if off < 0x1000000 then none
  else if off < 0x1600000 then some (.pond, (off - 0x1000000) / 0x4000, (off - 0x1000000) % 0x4000)
  else if off < 0x1800000 then none
  else if off < 0x18C0000 then some (.spill, (off - 0x1800000) / 0x10000, (off - 0x1800000) % 0x10000)
  else if off < 0x1C00000 then none
  else if off < 0x1D00000 then some (.ras, 0, off - 0x1C00000)
  else if off < 0x1E00000 then some (.sec, 0, off - 0x1D00000)
  else if off < 0x1F00000 then some (.mgmt, 0, off - 0x1E00000)
  else if off < 0x2000000 then some (.well, 0, off - 0x1F00000)
  else none

/-- A counter register: one 64-bit RO field, COUNT, reset 0. -/
def F.COUNT : Fld := { name := "COUNT", lo := 0, w := 64, acc := .ro }

/-- A field with another Reset value, for registers whose Reset column depends on the number. -/
def Fld.withRst (f : Fld) (v : Nat) : Fld := { f with rst := v }

/-- A field that the bus cannot write, in the entries of an array where the Access column says so. -/
def Fld.roIf (f : Fld) (c : Bool) : Fld := if c then { f with acc := .ro } else f

/-- The registers of the GLOB block (R556), by offset within it. -/
def fieldsGLOB (loc : Nat) : List Fld :=
  match loc with
  | 0x0 => [F.GLOB_ID_STEPPING, F.GLOB_ID_DEVICE, F.GLOB_ID_PCI_VENDOR]
  | 0x8 => [F.GLOB_CAP_TARNS, F.GLOB_CAP_STACKS, F.GLOB_CAP_MERE, F.GLOB_CAP_SPILL_MASK, F.GLOB_CAP_FULL_CONFIG]
  | 0x10 => [F.GLOB_STATUS_PHASE, F.GLOB_STATUS_FATAL, F.GLOB_STATUS_DUMP_VALID, F.GLOB_STATUS_FATAL_CAUSE]
  | _ =>
    if 0x8000 ≤ loc && loc < 0x8400 && loc % 16 == 0 then [F.MSIX_ADDR]
    else if 0x8000 ≤ loc && loc < 0x8400 && loc % 16 == 8 then [F.MSIX_DATA, F.MSIX_MASK]
    else if loc == 0x9000 then [F.MSIX_PBA]
    else []

/-- The registers of the RST block (R519), by offset within it. -/
def fieldsRST (loc : Nat) : List Fld :=
  match loc with
  | 0x0 => [F.RST_CAUSE_CAUSE]
  | 0x8 => [F.RST_LAST_LEVEL, F.RST_LAST_SOURCE, F.RST_LAST_L2_FORCED, F.RST_LAST_L1_COUNT, F.RST_LAST_L2_COUNT]
  | 0x10 => [F.RST_LEVELMAP_MAP]
  | 0x18 => [F.RST_SWRESET_LEVEL, F.RST_SWRESET_CONFIRM]
  | 0x20 => [F.RST_WDOG_TIMEOUT_MS, F.RST_WDOG_ENABLE, F.RST_WDOG_KICK, F.RST_WDOG_REMAIN_MS]
  | 0x28 => [F.RST_UNIT_KIND, F.RST_UNIT_INDEX, F.RST_UNIT_OP, F.RST_UNIT_BUSY, F.RST_UNIT_STATUS]
  | 0x30 => [F.RST_DELAY_DELAYED, F.RST_DELAY_LONGEST_US]
  | 0x38 => [F.RST_LOCK_LOCK]
  | _ => []

/-- The registers of the CLK block (R521), by offset within it. -/
def fieldsCLK (loc : Nat) : List Fld :=
  match loc with
  | 0x0 => [F.CLK_SRCSTAT_READY, F.CLK_SRCSTAT_FAILED]
  | 0x8 => [F.CLK_SEL_WELL_SRC, F.CLK_SEL_SEC_SRC, F.CLK_SEL_TWIN_SRC]
  | 0x10 => [F.CLK_CFG_FAIL_WAIT_MS, F.CLK_CFG_WELL_AUTOFALL, F.CLK_CFG_TWIN_AUTOFALL]
  | 0x18 => [F.CLK_ERR_SRC_FAIL, F.CLK_ERR_SWITCH_REFUSED, F.CLK_ERR_AUTOFALL, F.CLK_ERR_PLL_UNLOCK, F.CLK_ERR_SRC_RETURN]
  | 0x20 => [F.CLK_ERRMASK_MASK]
  | 0x28 => [F.CLK_LOCK_LOCK]
  | _ => []

/-- The registers of the PWR block (R524), by offset within it. -/
def fieldsPWR (loc : Nat) : List Fld :=
  match loc with
  | 0x0 => [F.PWR_CTRL_SPARE_PG, F.PWR_CTRL_IDLE_CG, F.PWR_CTRL_TARN_MAXPT]
  | 0x8 => [F.PWR_STATUS_ISSUE_F, F.PWR_STATUS_POINT, F.PWR_STATUS_CAP_ACTIVE, F.PWR_STATUS_THERM_ACTIVE, F.PWR_STATUS_TJ_MAX_C, F.PWR_STATUS_TSTK_MAX_C]
  | 0x10 => [F.PWR_CAP_CAP2_W, F.PWR_CAP_HYST_W]
  | 0x18 => [F.PWR_THERM_THROTTLE_C, F.PWR_THERM_TRIP_C]
  | 0x20 => [F.PWR_ERR_CAP_ACTIVE, F.PWR_ERR_THERM_THROTTLE, F.PWR_ERR_VMON_WARN, F.PWR_ERR_VRM_FAULT, F.PWR_ERR_PMBUS_FAIL, F.PWR_ERR_CAP_MISSED]
  | 0x28 => [F.PWR_ERRMASK_MASK]
  | 0x30 => [F.PWR_LOCK_LOCK]
  | 0x38 => [F.PWR_CNTCLR_CLEAR]
  | 0x200 => [F.PWR_FEED_STATUS_A_OK, F.PWR_FEED_STATUS_B_OK, F.PWR_FEED_STATUS_SINGLE, F.PWR_FEED_STATUS_A_LOST, F.PWR_FEED_STATUS_B_LOST, F.PWR_FEED_STATUS_VRM_A_FAULT, F.PWR_FEED_STATUS_VRM_B_FAULT, F.PWR_FEED_STATUS_POWER_W]
  | 0x208 => [F.PWR_FEED_CFG_CAP_W, F.PWR_FEED_CFG_DEGLITCH_US]
  | 0x210 => [F.PWR_FEED_CMD_RESTORE, F.PWR_FEED_CMD_FAIL]
  | _ =>
    if 0x100 ≤ loc && loc < 0x118 && loc % 8 == 0 then [F.COUNT]
    else []

/-- The registers of the MERE block (R298), by offset within it. -/
def fieldsMERE (n : Nat) (loc : Nat) : List Fld :=
  match loc with
  | 0x0 => [F.MERE_ID_INSTANCE.withRst (if n = 8 then 0 else n), F.MERE_ID_QUADRANT.withRst (if n = 8 then 0 else n / 2)]
  | 0x8 => [F.MERE_CTRL_ENABLE, F.MERE_CTRL_RETRAIN, F.MERE_CTRL_WIDEN, F.MERE_CTRL_BREAK, F.MERE_CTRL_WIDTH_MAX] ++ (if n = 8 then [] else [F.MERE_CTRL_REVERT_MS])
  | 0x10 => [F.MERE_LINKSTAT_STATE, F.MERE_LINKSTAT_WIDTH, F.MERE_LINKSTAT_GOOD_MASK, F.MERE_LINKSTAT_TX_SEQ, F.MERE_LINKSTAT_RX_NEXT, F.MERE_LINKSTAT_UNACKED]
  | 0x18 => [F.MERE_ERR_BROKEN, F.MERE_ERR_RETRAIN, F.MERE_ERR_WIDTH_DEGRADED, F.MERE_ERR_CREDIT_TIMEOUT, F.MERE_ERR_REPLAY_LIMIT, F.MERE_ERR_LANE_FAIL, F.MERE_ERR_ID_CLASH, F.MERE_ERR_PEER_CHANGED, F.MERE_ERR_ACK_RANGE, F.MERE_ERR_CREDIT_OVERFLOW, F.MERE_ERR_CLIENT_UNREACHABLE, F.MERE_ERR_CONFIG_FAIL, F.MERE_ERR_ROUTE_REFUSED]
  | 0x20 => if n = 8 then [{ F.MERE_ERRMASK_MASK with w := 10, rst := 1023 }, F.TWIN_ERRMASK_CONFIG_FAIL] else [F.MERE_ERRMASK_MASK]
  | 0x28 => [F.MERE_LANECFG_EXCLUDE, F.MERE_LANECFG_UNCORR_THR, F.MERE_LANECFG_CORR_THR, F.MERE_LANECFG_WINDOW_US]
  | 0x30 => [F.MERE_TIMERS_CREDIT, F.MERE_TIMERS_REPLAY, F.MERE_TIMERS_RETRAIN_LIMIT, F.MERE_TIMERS_RETRAIN_WINDOW]
  | 0x38 => [F.MERE_CREDIT0_C0, F.MERE_CREDIT0_C1, F.MERE_CREDIT0_C2]
  | 0x40 => [F.MERE_CREDIT1_C3, F.MERE_CREDIT1_C4, F.MERE_CREDIT1_C5]
  | 0x48 => [F.MERE_PORTID_PORT, F.MERE_PORTID_CHIP]
  | 0x50 => [F.MERE_PEERID_PEER]
  | 0x58 => [F.MERE_LOCK_LOCK]
  | 0x60 => [F.MERE_CNTCLR_CLEAR]
  | _ =>
    if 0x100 ≤ loc && loc < 0x148 && loc % 8 == 0 then [F.COUNT]
    else if 0x200 ≤ loc && loc < (if n = 8 then 0x280 else 0x240) && loc % 8 == 0 then [F.MERE_LANESTAT_GOOD, F.MERE_LANESTAT_FAILED, F.MERE_LANESTAT_TEST_ERR, F.MERE_LANESTAT_UNCORR]
    else if n == 0 && 0x8000 ≤ loc && loc % 8 == 0 then [F.ROUTE_PRIMARY, F.ROUTE_ALT, F.ROUTE_VALID, F.ROUTE_ON_ALT]
    else []

/-- The registers of the SHAL block (R334), by offset within it. -/
def fieldsSHAL (loc : Nat) : List Fld :=
  match loc with
  | 0x0 => [F.SHAL_CFG_STARVE_LIMIT, F.SHAL_CFG_AGE_ALARM, F.SHAL_CFG_SPRAY]
  | 0x8 => [F.SHAL_STATUS_THROTTLE, F.SHAL_STATUS_MAX_AGE]
  | 0x10 => [F.SHAL_ERR_PROTO, F.SHAL_ERR_AGE, F.SHAL_ERR_BAD_PACKET, F.SHAL_ERR_PRIV_DENIED, F.SHAL_ERR_THROTTLE, F.SHAL_ERR_UNROUTABLE]
  | 0x18 => [F.SHAL_ERRMASK_MASK]
  | 0x20 => [F.SHAL_PROTOLOG_SRC_X, F.SHAL_PROTOLOG_SRC_Y, F.SHAL_PROTOLOG_SRC_PORT, F.SHAL_PROTOLOG_TID, F.SHAL_PROTOLOG_DEST_X, F.SHAL_PROTOLOG_DEST_Y, F.SHAL_PROTOLOG_DEST_PORT, F.SHAL_PROTOLOG_VALID]
  | 0x28 => [F.SHAL_LOCK_LOCK]
  | 0x30 => [F.SHAL_CNTCLR_CLEAR]
  | _ =>
    if 0x100 ≤ loc && loc < 0x148 && loc % 8 == 0 then [F.COUNT]
    else if 0x1000 ≤ loc && loc < 0x2000 && loc % 0x40 == 0 then [F.SHAL_PRIV_CTL_ENDPOINT, F.SHAL_PRIV_CTL_VALID.withRst (if loc < 0x1080 then 1 else 0), F.SHAL_PRIV_CTL_ANY_TENANT.withRst (if loc < 0x1080 then 1 else 0), F.SHAL_PRIV_CTL_KIND.withRst (if loc < 0x1040 then 0 else if loc < 0x1080 then 1 else 2)]
    else if 0x1000 ≤ loc && loc < 0x2000 && loc % 8 == 0 && loc % 0x40 < 0x28 then [F.SHAL_PRIV_TEN_TENANTS]
    else []

/-- The registers of the XLAT block (R263), by offset within it. -/
def fieldsXLAT (loc : Nat) : List Fld :=
  match loc with
  | 0x0 => [F.XLAT_CFG_MODE, F.XLAT_CFG_LOCK]
  | 0x8 => [F.XLAT_STATUS_S1_USED, F.XLAT_STATUS_S2_USED, F.XLAT_STATUS_INV_INFLIGHT]
  | 0x10 => [F.XLAT_ERR_FAULT, F.XLAT_ERR_FQ_OVERFLOW, F.XLAT_ERR_TAG_MISMATCH, F.XLAT_ERR_SYNC_REFUSED, F.XLAT_ERR_CMD_DONE, F.XLAT_ERR_INV_SLOW]
  | 0x18 => [F.XLAT_ERRMASK_MASK]
  | 0x20 => [F.XLAT_CMD_OP, F.XLAT_CMD_BUSY, F.XLAT_CMD_STATUS]
  | 0x28 => [F.XLAT_CMDARG0_ARG]
  | 0x30 => [F.XLAT_CMDARG1_ARG]
  | 0x38 => [F.XLAT_CMDARG2_ARG]
  | 0x40 => [F.XLAT_CMDRES_RES]
  | 0x48 => [F.XLAT_FQ_PTR_HEAD, F.XLAT_FQ_PTR_TAIL]
  | 0x50 => [F.XLAT_FQ_OVF_COUNT]
  | 0x58 => [F.XLAT_FQ_OVFADDR_VA, F.XLAT_FQ_OVFADDR_ENDPOINT]
  | 0x60 => [F.XLAT_TAGERR_EXPECTED, F.XLAT_TAGERR_FOUND, F.XLAT_TAGERR_VALID]
  | 0x68 => [F.XLAT_TAGADDR_PA]
  | 0x70 => [F.XLAT_CNTCLR_CLEAR]
  | _ =>
    if 0x100 ≤ loc && loc < 0x140 && loc % 8 == 0 then [F.COUNT]
    else if 0x8000 ≤ loc && loc < 0x10000 && loc % 8 == 0 then [F.XLAT_FQ_ENTRY_WORD]
    else []

/-- The registers of the DIR block (R369), by offset within it. -/
def fieldsDIR (loc : Nat) : List Fld :=
  match loc with
  | 0x0 => [F.DIR_CTRL_STRICT_BOOT, F.DIR_CTRL_STRICT_TEST]
  | 0x8 => [F.DIR_STATUS_STRICT, F.DIR_STATUS_BOOT, F.DIR_STATUS_TEST, F.DIR_STATUS_DEATH, F.DIR_STATUS_TAKEOVER, F.DIR_STATUS_SWEEPS, F.DIR_STATUS_SUSPECT]
  | 0x10 => [F.DIR_ERR_DEATH, F.DIR_ERR_SNOOP_TIMEOUT, F.DIR_ERR_PROTO, F.DIR_ERR_NO_ALIAS, F.DIR_ERR_SWEEP_DONE, F.DIR_ERR_POISONED]
  | 0x18 => [F.DIR_ERRMASK_MASK]
  | 0x20 => [F.DIR_DEATH_UNREACH_MS, F.DIR_DEATH_SNOOP_US]
  | 0x28 => [F.DIR_MEMDIST_FAST, F.DIR_MEMDIST_SPILL]
  | 0x30 => [F.DIR_CMD_ENDPOINT, F.DIR_CMD_OP, F.DIR_CMD_BUSY, F.DIR_CMD_STATUS]
  | 0x38 => [F.DIR_PROTOLOG_PA, F.DIR_PROTOLOG_ENDPOINT, F.DIR_PROTOLOG_KIND, F.DIR_PROTOLOG_VALID]
  | 0x40 => [F.DIR_LOCK_LOCK]
  | 0x48 => [F.DIR_CNTCLR_CLEAR]
  | _ =>
    if 0x100 ≤ loc && loc < 0x170 && loc % 8 == 0 then [F.COUNT]
    else if 0x60 ≤ loc && loc < 0x80 && loc % 0x8 == 0 then [F.DIR_OCC_VALID, F.DIR_OCC_TRACKERS]
    else if 0x200 ≤ loc && loc < 0x400 && loc % 0x8 == 0 then [F.DIR_DEAD_DEAD]
    else if 0x8000 ≤ loc && loc < 0x9000 && loc % 0x8 == 0 then [F.DIR_DIST_DISTS]
    else []

/-- The registers of the QOS block (R389), by offset within it. -/
def fieldsQOS (loc : Nat) : List Fld :=
  match loc with
  | 0x0 => [F.QOS_CFG_RETRY_MIN_US, F.QOS_CFG_YELLOW_THR, F.QOS_CFG_QLIMIT, F.QOS_CFG_BULK_QLIMIT]
  | 0x8 => [F.QOS_CLASSW_CW_0, F.QOS_CLASSW_CW_1, F.QOS_CLASSW_CW_2, F.QOS_CLASSW_CW_3]
  | 0x10 => [F.QOS_ERR_RED, F.QOS_ERR_QFULL, F.QOS_ERR_YELLOW_REFUSED, F.QOS_ERR_DISPATCH_STARVED]
  | 0x18 => [F.QOS_ERRMASK_MASK]
  | 0x20 => [F.QOS_LOCK_LOCK]
  | 0x28 => [F.QOS_CNTCLR_CLEAR]
  | _ =>
    if 0x100 ≤ loc && loc < 0x118 && loc % 8 == 0 then [F.COUNT]
    else if 0x1000 ≤ loc && loc < 0x1800 && loc % 0x8 == 0 then [F.QOS_TRATE_CIR, F.QOS_TRATE_PIR, F.QOS_TRATE_CBS, F.QOS_TRATE_PBS]
    else if 0x1800 ≤ loc && loc < 0x2000 && loc % 0x8 == 0 then [F.QOS_TWEIGHT_WEIGHT, F.QOS_TWEIGHT_BULK_WEIGHT]
    else if 0x2000 ≤ loc && loc < 0x2400 && loc % 0x8 == 0 then [F.QOS_EPCLASS_CLASSES]
    else if 0x4000 ≤ loc && loc < 0x6000 && loc % 8 == 0 then [F.QOS_TCNT_COUNT]
    else []

/-- The registers of the JOB block (R186), by offset within it. -/
def fieldsJOB (loc : Nat) : List Fld :=
  match loc with
  | 0x0 => [F.JOB_CTRL_ENABLE]
  | 0x8 => [F.JOB_STATUS_IN_FLIGHT, F.JOB_STATUS_INLETS_ON]
  | 0x10 => [F.JOB_WDOG_DEFAULT_US]
  | 0x18 => [F.JOB_ERR_DB_DENIED, F.JOB_ERR_DB_RANGE, F.JOB_ERR_DB_DISABLED, F.JOB_ERR_BAD_DESC, F.JOB_ERR_NOTIFY_LOST, F.JOB_ERR_TIMEOUT, F.JOB_ERR_ICFG_FAIL]
  | 0x20 => [F.JOB_ERRMASK_MASK]
  | 0x28 => [F.JOB_ICFG_SEL_INLET]
  | 0x30 => [F.JOB_ICFG0_OWNER, F.JOB_ICFG0_TENANT, F.JOB_ICFG0_ASID, F.JOB_ICFG0_PORT, F.JOB_ICFG0_ENABLE, F.JOB_ICFG0_RING_LOG2, F.JOB_ICFG0_SLOT_LOG2, F.JOB_ICFG0_QOS_CLASS, F.JOB_ICFG0_BOUND]
  | 0x38 => [F.JOB_ICFG1_RING_VA]
  | 0x40 => [F.JOB_ICFG2_CPL_VA]
  | 0x48 => [F.JOB_ICFG3_TAIL, F.JOB_ICFG3_STARTED, F.JOB_ICFG3_COMPLETED]
  | 0x50 => [F.JOB_ICFG_CMD_OP, F.JOB_ICFG_CMD_BUSY, F.JOB_ICFG_CMD_FAIL]
  | _ =>
    if 0x100 ≤ loc && loc < 0x148 && loc % 8 == 0 then [F.COUNT]
    else []

/-- The registers of the TARN block (R109), by offset within it. -/
def fieldsTARN (n : Nat) (loc : Nat) : List Fld :=
  match loc with
  | 0x0 => [F.TARN_ID_INSTANCE.withRst (n), F.TARN_ID_QUADRANT.withRst (n / 25), F.TARN_ID_LOCAL.withRst (n % 25)]
  | 0x8 => [F.TARN_CTRL_ENABLE.withRst (if n % 25 = 24 then 0 else 1), F.TARN_CTRL_DRAIN, F.TARN_CTRL_FAULT, F.TARN_CTRL_ROLE.withRst (if n % 25 = 24 then 31 else n % 25), F.TARN_CTRL_ROLE2_EN, F.TARN_CTRL_ROLE2]
  | 0x10 => [F.TARN_STATUS_STATE, F.TARN_STATUS_BANK0_BUSY, F.TARN_STATUS_BANK1_BUSY, F.TARN_STATUS_QUEUED, F.TARN_STATUS_PROG_ID]
  | 0x18 => [F.TARN_ERR_SRAM_UE, F.TARN_ERR_PMEM_UE, F.TARN_ERR_SELFTEST, F.TARN_ERR_WATCHDOG, F.TARN_ERR_PROG_EXC, F.TARN_ERR_POISON_SEEN, F.TARN_ERR_SAT_SEEN, F.TARN_ERR_ROLE_CLASH]
  | 0x20 => [F.TARN_ERRMASK_MASK]
  | 0x28 => [F.TARN_WDOG_LIMIT]
  | 0x30 => [F.TARN_CNTCLR_CLEAR]
  | _ =>
    if 0x100 ≤ loc && loc < 0x170 && loc % 8 == 0 then [F.COUNT]
    else []

/-- The registers of the POND block (R228), by offset within it. -/
def fieldsPOND (n : Nat) (loc : Nat) : List Fld :=
  match loc with
  | 0x0 => [F.POND_ID_INSTANCE.withRst (n), F.POND_ID_QUADRANT.withRst (n / 96), F.POND_ID_STACK.withRst (n / 32 % 3), F.POND_ID_CHANNEL.withRst (n % 32), F.POND_ID_CHIP_STACK.withRst (n / 32)]
  | 0x8 => [F.POND_CTRL_ENABLE, F.POND_CTRL_FAULT, F.POND_CTRL_TRAIN]
  | 0x10 => [F.POND_STATUS_STATE, F.POND_STATUS_TOKEN, F.POND_STATUS_PC0_PAUSE, F.POND_STATUS_PC1_PAUSE, F.POND_STATUS_HOT, F.POND_STATUS_RQ0, F.POND_STATUS_RQ1, F.POND_STATUS_ACT_FLAG]
  | 0x18 => [F.POND_ERR_RETRAIN_FAIL, F.POND_ERR_TRAIN_SHORT, F.POND_ERR_ACT_OVERFLOW, F.POND_ERR_ACT_PARITY, F.POND_ERR_QUEUE_PROTO, F.POND_ERR_UNMAPPED, F.POND_ERR_FILL_FAIL]
  | 0x20 => [F.POND_ERRMASK_MASK]
  | 0x28 => [F.POND_SCHED_AGE_LIMIT, F.POND_SCHED_ROW_IDLE, F.POND_SCHED_WQ_HIGH]
  | 0x30 => [F.POND_RETRAIN_PERIOD_MS, F.POND_RETRAIN_MAX_PAUSE_NS, F.POND_RETRAIN_STARTER.withRst (if n % 32 = 0 then 1 else 0)]
  | 0x38 => [F.POND_ACT_THRESH, F.POND_ACT_PROB_LOG2, F.POND_ACT_BLAST]
  | 0x40 => [F.POND_LOCK_LOCK]
  | 0x48 => [F.POND_CNTCLR_CLEAR]
  | _ =>
    if 0x100 ≤ loc && loc < 0x160 && loc % 8 == 0 then [F.COUNT]
    else []

/-- The registers of the SPILL block (R237), by offset within it. -/
def fieldsSPILL (n : Nat) (loc : Nat) : List Fld :=
  match loc with
  | 0x0 => [F.SPILL_ID_INSTANCE.withRst (n), F.SPILL_ID_QUADRANT.withRst (n / 3)]
  | 0x8 => [F.SPILL_CTRL_ENABLE, F.SPILL_CTRL_FAULT, F.SPILL_CTRL_TRAIN, F.SPILL_CTRL_HOLD]
  | 0x10 => [F.SPILL_STATUS_STATE, F.SPILL_STATUS_EMPTY, F.SPILL_STATUS_DIMMS, F.SPILL_STATUS_CAP_GIB]
  | 0x18 => [F.SPILL_CFG_SPEED]
  | 0x20 => [F.SPILL_ERR_RETRAIN_FAIL, F.SPILL_ERR_TRAIN_SHORT, F.SPILL_ERR_ACT_OVERFLOW, F.SPILL_ERR_ACT_PARITY, F.SPILL_ERR_HOLD_REFUSED, F.SPILL_ERR_DIMM_MISMATCH, F.SPILL_ERR_FILL_FAIL, F.SPILL_ERR_UNPOPULATED]
  | 0x28 => [F.SPILL_ERRMASK_MASK]
  | 0x30 => [F.SPILL_SCHED_AGE_LIMIT, F.SPILL_SCHED_ROW_IDLE, F.SPILL_SCHED_WQ_HIGH]
  | 0x38 => [F.SPILL_RETRAIN_PERIOD_MS, F.SPILL_RETRAIN_MAX_PAUSE_NS, F.SPILL_RETRAIN_STARTER.withRst (if n % 3 = 0 then 1 else 0)]
  | 0x40 => [F.SPILL_ACT_THRESH, F.SPILL_ACT_PROB_LOG2, F.SPILL_ACT_BLAST]
  | 0x48 => [F.SPILL_LOCK_LOCK]
  | 0x50 => [F.SPILL_CNTCLR_CLEAR]
  | _ =>
    if 0x100 ≤ loc && loc < 0x160 && loc % 8 == 0 then [F.COUNT]
    else []

/-- The registers of the RAS block (R423), by offset within it. -/
def fieldsRAS (loc : Nat) : List Fld :=
  match loc with
  | 0x0 => [F.RAS_CTRL_SCRUB_EN, F.RAS_CTRL_AUTO_REBUILD]
  | 0x8 => [F.RAS_SCRUB_PERIOD_H]
  | 0x10 => [F.RAS_ERR_UE, F.RAS_ERR_CE_LOGGED, F.RAS_ERR_LASTING, F.RAS_ERR_REPAIR_FAIL, F.RAS_ERR_STACK_DEGRADED, F.RAS_ERR_REBUILD_DONE, F.RAS_ERR_STRIPE_LOST, F.RAS_ERR_EVAC_DONE, F.RAS_ERR_CELOG_OVF, F.RAS_ERR_DEVICE_MARKED, F.RAS_ERR_SCRUB_LATE]
  | 0x18 => [F.RAS_ERRMASK_MASK]
  | 0x20 => [F.RAS_REBUILD_PCT, F.RAS_REBUILD_STACK, F.RAS_REBUILD_ACTIVE]
  | 0x28 => [F.RAS_CMD_OP, F.RAS_CMD_TARGET, F.RAS_CMD_BUSY, F.RAS_CMD_STATUS]
  | 0x30 => [F.RAS_CMDARG_PA]
  | 0x38 => [F.RAS_UELOG_PA, F.RAS_UELOG_VALID]
  | 0x40 => [F.RAS_LOCK_LOCK]
  | 0x48 => [F.RAS_CNTCLR_CLEAR]
  | _ =>
    if 0x100 ≤ loc && loc < 0x168 && loc % 8 == 0 then [F.COUNT]
    else if 0x60 ≤ loc && loc < 0xC0 && loc % 0x8 == 0 then [F.RAS_STACK_STATE, F.RAS_STACK_PONDS_FAULTED, F.RAS_STACK_WATERMARK]
    else if 0x10000 ≤ loc && loc < 0x28C00 && loc % 16 == 0 then [F.RAS_CELOG0_PA, F.RAS_CELOG0_SYMBOL, F.RAS_CELOG0_VALID]
    else if 0x10000 ≤ loc && loc < 0x28C00 && loc % 16 == 8 then [F.RAS_CELOG1_COUNT, F.RAS_CELOG1_STATE, F.RAS_CELOG1_MCYCLE]
    else []

/-- The registers of the PAIR block (R456), by offset within it. -/
def fieldsPAIR (loc : Nat) : List Fld :=
  match loc with
  | 0x0 => [F.PAIR_CFG_TWIN_GRACE_MS, F.PAIR_CFG_MISS_LIMIT, F.PAIR_CFG_RING_MISS, F.PAIR_CFG_FENCE_DELAY_MS, F.PAIR_CFG_AUTO_TAKEOVER, F.PAIR_CFG_RESYNC_PCT]
  | 0x8 => [F.PAIR_STATUS_STATE, F.PAIR_STATUS_SIDE, F.PAIR_STATUS_TWIN_OK, F.PAIR_STATUS_RING_OK, F.PAIR_STATUS_FENCE_OUT, F.PAIR_STATUS_COPY_SEQ]
  | 0x10 => [F.PAIR_ERR_TWIN_LOST, F.PAIR_ERR_RING_LOST, F.PAIR_ERR_EXPOSED, F.PAIR_ERR_FENCED, F.PAIR_ERR_TAKEOVER_DONE, F.PAIR_ERR_BASINS_LOST, F.PAIR_ERR_GOODBYE, F.PAIR_ERR_COPY_OVERRUN, F.PAIR_ERR_RESYNC_DONE, F.PAIR_ERR_SWITCHED_BACK]
  | 0x18 => [F.PAIR_ERRMASK_MASK]
  | 0x20 => [F.PAIR_CMD_OP, F.PAIR_CMD_BASIN, F.PAIR_CMD_BUSY, F.PAIR_CMD_STATUS, F.PAIR_CMD_ALL]
  | 0x28 => [F.PAIR_LOCK_LOCK]
  | 0x30 => [F.PAIR_CNTCLR_CLEAR]
  | _ =>
    if 0x100 ≤ loc && loc < 0x120 && loc % 8 == 0 then [F.COUNT]
    else []

/-- The registers of the SEC block (R487), by offset within it. -/
def fieldsSEC (loc : Nat) : List Fld :=
  match loc with
  | 0x0 => [F.SEC_CTRL_DBG_ALLOW]
  | 0x8 => [F.SEC_STATUS_KEK_VALID, F.SEC_STATUS_ID_READY, F.SEC_STATUS_ID_EXHAUSTED, F.SEC_STATUS_ID_STATE_BAD, F.SEC_STATUS_DEBUG_LATCH, F.SEC_STATUS_DEBUG_OPEN, F.SEC_STATUS_DBG_FUSE, F.SEC_STATUS_CHUNKS, F.SEC_STATUS_SVN_FUSED]
  | 0x10 => [F.SEC_ERR_IMPORT_FAIL, F.SEC_ERR_VERIFY_FAIL, F.SEC_ERR_ID_LOW, F.SEC_ERR_ID_EXHAUSTED, F.SEC_ERR_ID_STATE_BAD, F.SEC_ERR_DEBUG_REQ, F.SEC_ERR_DEBUG_REFUSED, F.SEC_ERR_PARTNER_AUTH]
  | 0x18 => [F.SEC_ERRMASK_MASK]
  | 0x20 => [F.SEC_KCMD_OP, F.SEC_KCMD_SLOT, F.SEC_KCMD_FORCE, F.SEC_KCMD_BUSY, F.SEC_KCMD_STATUS]
  | 0x28 => [F.SEC_KARG_BUF]
  | 0x30 => [F.SEC_KSTAT_STATE, F.SEC_KSTAT_GEN]
  | 0x38 => [F.SEC_ACMD_REPORT, F.SEC_ACMD_SCOPE, F.SEC_ACMD_TENANT, F.SEC_ACMD_BUSY, F.SEC_ACMD_STATUS, F.SEC_ACMD_LEN]
  | 0x40 => [F.SEC_AARG_BUF]
  | 0x50 => [F.SEC_MEXT_CMD_EXTEND, F.SEC_MEXT_CMD_EXTENDS]
  | 0x58 => [F.SEC_SVN_COMMIT, F.SEC_SVN_RUN_SVN]
  | 0xE0 => [F.SEC_LOCK_LOCK]
  | 0xE8 => [F.SEC_CNTCLR_CLEAR]
  | _ =>
    if 0x100 ≤ loc && loc < 0x128 && loc % 8 == 0 then [F.COUNT]
    else if 0x60 ≤ loc && loc < 0x80 && loc % 0x8 == 0 then [F.SEC_MEXT_DATA_DATA]
    else if 0x80 ≤ loc && loc < 0xA0 && loc % 0x8 == 0 then [F.SEC_ROM_MEAS_MEAS]
    else if 0xA0 ≤ loc && loc < 0xC0 && loc % 0x8 == 0 then [F.SEC_FW_MEAS_MEAS]
    else if 0xC0 ≤ loc && loc < 0xE0 && loc % 0x8 == 0 then [F.SEC_CONFIG_MEAS_MEAS]
    else if 0x1000 ≤ loc && loc < 0x2000 && loc % 0x40 == 0 then [(F.SEC_SIGNER_CTL_VALID.withRst (if loc = 0x1000 then 1 else 0)).roIf (loc == 0x1000), F.SEC_SIGNER_CTL_KIND.roIf (loc == 0x1000), F.SEC_SIGNER_CTL_TENANT]
    else if 0x1000 ≤ loc && loc < 0x2000 && loc % 8 == 0 && loc % 0x40 < 0x28 then [F.SEC_SIGNER_HASH_HASH.roIf (loc < 0x1040)]
    else []

/-- The registers of the MGMT block (R558), by offset within it. -/
def fieldsMGMT (loc : Nat) : List Fld :=
  match loc with
  | 0x0 => [F.MGMT_CTRL_MBX_EN, F.MGMT_CTRL_BYPASS_FORCE]
  | 0x8 => [F.MGMT_STATUS_MBX_BUSY, F.MGMT_STATUS_EVT_HELD, F.MGMT_STATUS_HELD]
  | 0x10 => [F.MGMT_CMD_PTR_TAIL, F.MGMT_CMD_PTR_HEAD, F.MGMT_CMD_PTR_DONE]
  | 0x18 => [F.MGMT_EVT_PTR_HEAD, F.MGMT_EVT_PTR_TAIL]
  | 0x20 => [F.MGMT_SNAP_START, F.MGMT_SNAP_BUSY, F.MGMT_SNAP_INCOMPLETE, F.MGMT_SNAP_EPOCH]
  | 0x28 => [F.MGMT_LOG_HEAD, F.MGMT_LOG_READ]
  | 0x30 => [F.MGMT_TRACE_MASK]
  | 0x38 => [F.MGMT_STORM_LIMIT]
  | 0x40 => [F.MGMT_RING_CFG_STATION, F.MGMT_RING_CFG_PARTNER, F.MGMT_RING_CFG_RSTCODE]
  | 0x48 => [F.MGMT_RING_STATUS_SYNC, F.MGMT_RING_STATUS_PARTNER_SEEN]
  | 0x50 => [F.MGMT_ALARM_ALARM]
  | 0x58 => [F.MGMT_ERR_CMD_RANGE, F.MGMT_ERR_EVT_HELD, F.MGMT_ERR_SNAP_REFUSED, F.MGMT_ERR_SNAP_INCOMPLETE, F.MGMT_ERR_RING_RESET_REFUSED, F.MGMT_ERR_RING_SYNC_LOST]
  | 0x60 => [F.MGMT_ERRMASK_MASK]
  | 0x68 => [F.MGMT_LOCK_LOCK]
  | 0x70 => [F.MGMT_CNTCLR_CLEAR]
  | _ =>
    if 0x100 ≤ loc && loc < 0x140 && loc % 8 == 0 then [F.COUNT]
    else if 0x1000 ≤ loc && loc < 0x1200 && loc % 0x8 == 0 then [F.MGMT_ALARMCNT_COUNT]
    else []

/-- The registers of the WELL block (R557), by offset within it. -/
def fieldsWELL (loc : Nat) : List Fld :=
  match loc with
  | 0x0 => [F.WELL_CORECTL_RELEASE, F.WELL_CORECTL_STEWARD_RELEASE, F.WELL_CORECTL_STEWARD_RESTART]
  | 0x8 => [F.WELL_CORESTAT_WELL_STATE, F.WELL_CORESTAT_STEWARD_STATE, F.WELL_CORESTAT_STEWARD_LOST]
  | 0x10 => [F.WELL_MCYCLE_MCYCLE]
  | 0x18 => [F.WELL_OVERRUN_COUNT]
  | 0x20 => [F.WELL_ERR_CORE_STOP, F.WELL_ERR_SRAM_UE, F.WELL_ERR_SRAM_CE, F.WELL_ERR_STEWARD_LOST]
  | 0x28 => [F.WELL_ERRMASK_MASK]
  | _ => []

/-- The fields of the register at a BAR0 offset; none at a reserved offset (R13). -/
def fieldsAt (off : Nat) : List Fld :=
  match locate off with
  | none => []
  | some (b, n, loc) =>
    match b with
    | .glob => fieldsGLOB loc
    | .rst => fieldsRST loc
    | .clk => fieldsCLK loc
    | .pwr => fieldsPWR loc
    | .mere => fieldsMERE n loc
    | .shal => fieldsSHAL loc
    | .xlat => fieldsXLAT loc
    | .dir => fieldsDIR loc
    | .qos => fieldsQOS loc
    | .job => fieldsJOB loc
    | .tarn => fieldsTARN n loc
    | .pond => fieldsPOND n loc
    | .spill => fieldsSPILL n loc
    | .ras => fieldsRAS loc
    | .pair => fieldsPAIR loc
    | .sec => fieldsSEC loc
    | .mgmt => fieldsMGMT loc
    | .well => fieldsWELL loc

/-- The Reset value of the register at an offset: its fields' Reset values at their bits (R14). -/
def regReset (off : Nat) : BitVec 64 :=
  BitVec.ofNat 64 ((fieldsAt off).foldl (fun a f => a + f.rst * 2 ^ f.lo) 0)

/-- Offset of the lock bit that fixes a block's RWL fields, and the bit (R12): the feed registers follow PWR_LOCK, MODE follows XLAT_CFG.LOCK. -/
def lockOf (b : Blk) (n : Nat) : Option (Nat × Fld) :=
  match b with
  | .rst => some (R.RST_LOCK, F.RST_LOCK_LOCK)
  | .clk => some (R.CLK_LOCK, F.CLK_LOCK_LOCK)
  | .pwr => some (R.PWR_LOCK, F.PWR_LOCK_LOCK)
  | .mere => some (R.MERE_LOCK n, F.MERE_LOCK_LOCK)
  | .pair => some (R.PAIR_LOCK, F.PAIR_LOCK_LOCK)
  | .shal => some (R.SHAL_LOCK, F.SHAL_LOCK_LOCK)
  | .xlat => some (R.XLAT_CFG, F.XLAT_CFG_LOCK)
  | .dir => some (R.DIR_LOCK, F.DIR_LOCK_LOCK)
  | .qos => some (R.QOS_LOCK, F.QOS_LOCK_LOCK)
  | .pond => some (R.POND_LOCK n, F.POND_LOCK_LOCK)
  | .spill => some (R.SPILL_LOCK n, F.SPILL_LOCK_LOCK)
  | .ras => some (R.RAS_LOCK, F.RAS_LOCK_LOCK)
  | .sec => some (R.SEC_LOCK, F.SEC_LOCK_LOCK)
  | .mgmt => some (R.MGMT_LOCK, F.MGMT_LOCK_LOCK)
  | .glob | .job | .tarn | .well => none

end Sys2Proof.Machine
end

