-- ==== Sys2Proof/Copies.lean ====
section
/-!
DEFINITION. The objects that a control-state copy carries from one controller of a pair to the other (R439), and the copy itself: an operand of the
commands that bring it, and part of the state.
-/
namespace Sys2Proof.Machine

/-- A run of translation units in physical memory (R249): `len` units from TPA unit `start`, laid over the members `set` (stacks 0 to 11,
or 384 + j for Spillway channel j) from unit offset `base`. A striped run gives each 11 units one unit in each of the 12 stacks (R412). -/
structure Run where
  start : Nat
  len : Nat
  base : Nat
  set : List Nat
  striped : Bool
  deriving DecidableEq, Repr

/-- A tenant: its driver's endpoint and its stage-1 quota (R265). -/
structure Tenant where
  driver : Nat
  quota : Nat
  deriving DecidableEq, Repr

/-- A stage-1 mirror entry (R251): ASID, first VA unit, units, first TPA unit, and PERM's read and write bits. -/
structure S1Entry where
  asid : Nat
  va : Nat
  len : Nat
  tpa : Nat
  read : Bool
  write : Bool
  deriving DecidableEq, Repr

/-- A basin (R243, R244): kind 0 Plain, 1 Protected, 2 Mirrored; its pattern, quadrant and sizes in units; the runs of its mapped part (its
stage-2 entries), of its block pool and of its Spillway allowance; the shadow's runs on the partner; whether its stage-2 entries are gone
(destroyed, units still reserved, R246); the side that created it and whether this controller serves it after a takeover (R446). -/
structure Basin where
  tenant : Nat
  kind : Nat
  pattern : Nat
  quad : Nat
  tpa : Nat
  size : Nat
  pool : Nat
  spill : Nat
  mapped : List Run
  poolRuns : List Run
  spillRuns : List Run
  shadowMapped : List Run
  shadowPool : List Run
  shadowSpill : List Run
  closing : Bool
  destroyed : Bool
  /-- Job numbers validated before the destroy that have not written their completion record (R246). -/
  waitJobs : List Nat
  /-- The basin is the partner's, held here as a shadow (R430). -/
  shadowHere : Bool
  takenOver : Bool
  /-- A SWITCH_BACK or evacuation is moving it: requests are answered RETRY_AFTER (R451). -/
  moving : Bool
  /-- Its units are being filled: no access reaches it yet (R244). -/
  making : Bool := false
  deriving DecidableEq, Repr

/-- A block as the controller's block table holds it: its frame, what its header says (R42), and its heat (R223). -/
structure KvBlk where
  pa : Nat
  basin : Nat
  format : Nat
  hdim : Nat
  layer : Nat
  head : Nat
  first : Nat
  tokens : Nat
  outliers : Nat
  promoted : Nat
  checksum : Nat
  shut : Bool
  early : Bool
  shared : Bool
  seq : Nat
  heat : Nat
  deriving DecidableEq, Repr

/-- A sequence (R56 to R63). Lengths by layer; block numbers by 64 · layer + head, in position order. `quad` is the quadrant of a sequence that is
not spread; `base` the region version it started from (R60); `waits` the jobs validated before it was marked closing (R62). -/
structure Seq where
  tenant : Nat
  client : Nat
  basin : Nat
  asid : Nat
  layers : Nat
  heads : Nat
  hdim : Nat
  format : Nat
  hint : Nat
  tauK : Nat
  tauV : Nat
  ttl : Nat
  maxTokens : Nat
  windowVa : Nat
  windowSlots : Nat
  quad : Option Nat
  base : Option (Nat × Nat)
  windowHead : Nat := 0
  lens : Tbl Nat := []
  damaged : List Nat := []
  blocks : Tbl (List Nat) := []
  shut : Bool := false
  idle : Nat := 0
  waits : List Nat := []
  deriving DecidableEq, Repr

/-- A live or retired version of a region (R64, R71, R72): tokens, shape, basin, blocks as a sequence's; `left` the management cycles of
time-to-live left, none for no expiry; `waits` the jobs validated before it retired; `kept` the cycles its retention after a takeover still has (R74). -/
structure Version where
  number : Nat
  tokens : Nat
  layers : Nat
  heads : Nat
  hdim : Nat
  format : Nat
  basin : Nat
  blocks : Tbl (List Nat)
  left : Option Nat
  retired : Bool := false
  waits : List Nat := []
  kept : Nat := 0
  deriving DecidableEq, Repr

/-- A region: its tenant and key, the number of the last version installed, its versions, the cycles it has had no live one (R64), and the basin of the last
version installed (R73). -/
structure Region where
  tenant : Nat
  key : Nat
  current : Nat
  versions : List Version
  idle : Nat := 0
  basin : Nat := 0
  deriving DecidableEq, Repr

/-- One entry of the pin table (R68). -/
structure Pin where
  ep : Nat
  tenant : Nat
  key : Nat
  version : Nat
  count : Nat
  deriving DecidableEq, Repr

/-- What a controller holds of its partner's control state beside its shadows (R439): what the last complete copy and the synchronous changes before it
said. Block numbers are the partner's; a block's frame is named by its place in the shadow here. `cached` is the partner's cached map as (basin, 64 KiB unit), `sharers` its sharer sets, `dead` its dead
endpoints; `qos`, `priv` and `params` are its QoS registers, privileged-endpoint table and placement parameters, held and not applied (log entry 53). -/
structure Copy where
  cached : List (Nat × Nat) := []
  sharers : List (Nat × List Nat) := []
  dead : List Nat := []
  seqs : List (Nat × Seq) := []
  gens : List (Nat × Nat) := []
  blks : List (Nat × KvBlk) := []
  regions : List Region := []
  pins : List Pin := []
  qos : List (Nat × Nat) := []
  priv : List (Nat × Nat) := []
  params : List (Nat × Nat) := []
  /-- The partner's Plain and Protected basins, for R447: (basin, kind, tenant, size in units, TPA unit). -/
  others : List (Nat × Nat × Nat × Nat × Nat) := []
  deriving DecidableEq, Repr

/-- A copy as its commit record brings it: its number, the tenants, endpoint bindings, contexts and stage-1 entries that the partner created, the shadows
reserved here for its Mirrored basins and those released, the rest; `full` marks the copy of an ADMIT (R450). -/
structure CopyMsg where
  n : Nat
  full : Bool := false
  tenants : List (Nat × Tenant) := []
  bound : List (Nat × Nat) := []
  contexts : List (Nat × Nat) := []
  s1 : List S1Entry := []
  basins : List (Nat × Basin) := []
  gone : List Nat := []
  /-- Tenant keys imported on the partner, with their bytes, and slots it erased (R470, R471). -/
  keys : List (Nat × List Byte) := []
  erased : List Nat := []
  rest : Copy := {}
  deriving DecidableEq, Repr

end Sys2Proof.Machine
end

