-- ==== Sys2Proof/Syntax.lean ====
section
/-!
DEFINITION. The commands of the block: one constructor for each row of the table of operations and events (opcode_table.json). A command's operands
are what comes from outside with it (an address, a value, a packet's header words and payload), what the manual leaves to chance or to another
party within it (a physical outcome, a client's answer, a chosen number), or nothing.
-/
namespace Sys2Proof

/-- The commands the controller takes, one constructor for each row of the table of operations and events. -/
inductive Instr where
  /-- REGISTER_WRITE (R10). -/
  | registerWrite (addr : BitVec 26) (wide : Bool) (value : Word)
  /-- UNSUPPORTED_ACCESS (R8). -/
  | unsupportedAccess (requester : BitVec 16) (addr : BitVec 26) (size : Nat)
  /-- COUNTER_LOW_READ (R9). -/
  | counterLowRead (requester : BitVec 16) (addr : BitVec 26) (part : Fin 3)
  /-- W1C_CLEAR (R532). -/
  | w1cClear (addr : BitVec 26) (mask : Word)
  /-- LOCK_SET (R12). -/
  | lockSet (addr : BitVec 26)
  /-- COUNTER_CLEAR (R115). -/
  | counterClear (addr : BitVec 26) (mask : Word)
  /-- MANAGEMENT_CYCLE (R25). -/
  | managementCycle (ms : BitVec 16) (overrun copyInFlight : Bool) (stewards : BitVec 4) (ans : List SnoopAnswer)
  /-- STEWARD_LOST (R21). -/
  | stewardLost (steward : Fin 4)
  /-- HEAT_DECAY (R223). -/
  | heatDecay
  /-- HEAT_REPORT (R223). -/
  | heatReport (block : Nat)
  /-- VERSION_RETIRE (R71). -/
  | versionRetire (tenant : BitVec 8) (key : Word) (version : BitVec 32)
  /-- VERSION_BLOCKS_FREE (R72). -/
  | versionBlocksFree (tenant : BitVec 8) (key : Word) (version : BitVec 32)
  /-- REGION_KEY_FREE (R64). -/
  | regionKeyFree (tenant : BitVec 8) (key : Word)
  /-- SEQ_EXPIRY (R61). -/
  | seqExpiry (slot : BitVec 18)
  /-- SEQ_FREE (R62). -/
  | seqFree (slot : BitVec 18)
  /-- TAKEOVER_RETENTION_END (R74). -/
  | takeoverRetentionEnd (tenant : BitVec 8) (key : Word) (version : BitVec 32)
  /-- DOORBELL_RING (R161). -/
  | doorbellRing (port : Fin 8) (w0 w1 : Word) (payload : List Byte) (dt : Nat) (hold : Bool)
  /-- DOORBELL_ABORT (R181). -/
  | doorbellAbort (port : Fin 8) (w0 w1 : Word) (payload : List Byte) (dt : Nat) (hold : Bool)
  /-- JOB_VALIDATE (R166). -/
  | jobValidate (source : Fin 9) (choice : List (Fin 4 × Fin 24)) (answers : List SnoopAnswer)
  /-- START_PACKET (R175). -/
  | startPacket (job : Nat) (quad : Fin 4) (role : Fin 24)
  /-- STOP_PACKET (R181). -/
  | stopPacket (job : Nat) (tarn : Fin 100)
  /-- SLICE_START (R384). -/
  | sliceStart (tarn : Fin 100)
  /-- PARTIAL_ARRIVAL (R94). -/
  | partialArrival (index : Nat) (answers : List SnoopAnswer)
  /-- FAILED_PARTIAL (R105). -/
  | failedPartial (index : Nat)
  /-- DECODE_REVALIDATE (R167). -/
  | decodeRevalidate (job : Nat) (choice : List (Fin 4 × Fin 24)) (answers : List SnoopAnswer)
  /-- JOB_TIMEOUT (R184). -/
  | jobTimeout (job : Nat)
  /-- DECODE (R27). -/
  | decode (job : Nat) (order : List (Nat × List Nat)) (answers : List SnoopAnswer)
  /-- INGEST (R167). -/
  | ingest (job : Nat) (answers : List SnoopAnswer)
  /-- INGEST_RECORD (R596). -/
  | ingestRecord (job : Nat) (answers : List SnoopAnswer)
  /-- SEQ_CREATE (R59). -/
  | seqCreate (inlet : BitVec 12) (core : Fin 4)
  /-- SEQ_DESTROY (R62). -/
  | seqDestroy (inlet : BitVec 12)
  /-- SEQ_QUERY (R169). -/
  | seqQuery (inlet : BitVec 12) (answers : List SnoopAnswer)
  /-- REGION_PUBLISH (R65). -/
  | regionPublish (inlet : BitVec 12)
  /-- REGION_PIN (R68). -/
  | regionPin (inlet : BitVec 12)
  /-- REGION_UNPIN (R68). -/
  | regionUnpin (inlet : BitVec 12)
  /-- REGION_DROP (R71). -/
  | regionDrop (inlet : BitVec 12)
  /-- REGION_QUERY (R169). -/
  | regionQuery (inlet : BitVec 12) (answers : List SnoopAnswer)
  /-- PROG_LOAD (R171). -/
  | progLoad (inlet : BitVec 12) (core : Fin 4) (answers : List SnoopAnswer)
  /-- PROG_UNLOAD (R171). -/
  | progUnload (inlet : BitVec 12)
  /-- INLET_BIND (R172). -/
  | inletBind (inlet : BitVec 12) (choice : List (Fin 4 × Fin 24))
  /-- INLET_UNBIND (R172). -/
  | inletUnbind (inlet : BitVec 12)
  /-- INLET_CONFIG_READ (R190). -/
  | inletConfigRead
  /-- INLET_CONFIG_WRITE (R190). -/
  | inletConfigWrite
  /-- DISPATCH_CREDIT_WAIT_END (R383). -/
  | dispatchCreditWaitEnd (choice : List (Fin 4 × Fin 24))
  /-- TARN_WATCHDOG (R104). -/
  | tarnWatchdog (tarn : Fin 100)
  /-- TARN_FAULT_WRITE (R111). -/
  | tarnFaultWrite (tarn : Fin 100)
  /-- TARN_ROLE_WRITE (R111). -/
  | tarnRoleWrite (tarn : Fin 100) (value : Word)
  /-- TARN_SUBSTITUTION (R106). -/
  | tarnSubstitution (tarn : Fin 100)
  /-- ROLE_PROGRAM_LOADED (R106). -/
  | roleProgramLoaded (tarn : Fin 100) (role : Fin 24)
  /-- TARN_SELFTEST_DONE (R108). -/
  | tarnSelftestDone (tarn : Fin 100) (passed : Bool)
  /-- STREAM_TRANSFER_DONE (R146). -/
  | streamTransferDone (tarn : Fin 100) (index : Nat) (answers : List SnoopAnswer)
  /-- SBLK (R150). -/
  | sblk (tarn : Fin 100) (sd ta tb : Fin 16) (bundle : Bundle)
  /-- SLIN (R150). -/
  | slin (tarn : Fin 100) (sd ta : Fin 16) (sram : BitVec 14) (bundle : Bundle)
  /-- SWRT (R150). -/
  | swrt (tarn : Fin 100) (sd ta : Fin 16) (sram : BitVec 14) (bundle : Bundle)
  /-- SSEND (R150). -/
  | ssend (tarn : Fin 100) (sd ta : Fin 16) (bundle : Bundle)
  /-- SRECV (R150). -/
  | srecv (tarn : Fin 100) (sd td : Fin 16) (bundle : Bundle)
  /-- SWAIT (R150). -/
  | swait (tarn : Fin 100) (sd tb : Fin 16) (mode : BitVec 14) (bundle : Bundle)
  /-- SCOPY (R150). -/
  | scopy (tarn : Fin 100) (sd sa : Fin 16) (bundle : Bundle)
  /-- SSET (R149). -/
  | sset (tarn : Fin 100) (sd ta : Fin 16) (field : BitVec 14) (bundle : Bundle)
  /-- VLD (R151). -/
  | vld (tarn : Fin 100) (vd : Fin 32) (ta : Fin 16) (imm : BitVec 16) (bundle : Bundle)
  /-- VST (R151). -/
  | vst (tarn : Fin 100) (vs : Fin 32) (ta : Fin 16) (imm : BitVec 16) (bundle : Bundle)
  /-- VOP (R151). -/
  | vop (tarn : Fin 100) (vd va vb : Fin 32) (width : Fin 4) (fn : BitVec 9) (bundle : Bundle)
  /-- VBC (R151). -/
  | vbc (tarn : Fin 100) (vd : Fin 32) (ta : Fin 16) (width : Fin 4) (bundle : Bundle)
  /-- VROTQ (R152). -/
  | vrotq (tarn : Fin 100) (td ta tb : Fin 16) (bundle : Bundle)
  /-- MCLR (R153). -/
  | mclr (tarn : Fin 100) (ta : Fin 16) (n : BitVec 14) (bundle : Bundle)
  /-- MSCORE (R153). -/
  | mscore (tarn : Fin 100) (tl tq tb : Fin 16) (bundle : Bundle)
  /-- MSOFT (R87). -/
  | msoft (tarn : Fin 100) (bundle : Bundle)
  /-- MACC (R153). -/
  | macc (tarn : Fin 100) (tl tb : Fin 16) (bundle : Bundle)
  /-- MSAVE (R153). -/
  | msave (tarn : Fin 100) (ta : Fin 16) (mode : BitVec 14) (bundle : Bundle)
  /-- MLOAD (R153). -/
  | mload (tarn : Fin 100) (ta : Fin 16) (bundle : Bundle)
  /-- MCOMB (R93). -/
  | mcomb (tarn : Fin 100) (td ta : Fin 16) (bundle : Bundle)
  /-- MNORM (R95). -/
  | mnorm (tarn : Fin 100) (td ta : Fin 16) (bundle : Bundle)
  /-- TALU (R154). -/
  | talu (tarn : Fin 100) (td ta tb : Fin 16) (fn : AluFn) (bundle : Bundle)
  /-- TALUI (R154). -/
  | talui (tarn : Fin 100) (td ta fn4 : Fin 16) (imm : BitVec 14) (bundle : Bundle)
  /-- TLI (R154). -/
  | tli (tarn : Fin 100) (td : Fin 16) (imm : BitVec 21) (bundle : Bundle)
  /-- TLD (R154). -/
  | tld (tarn : Fin 100) (td ta : Fin 16) (imm : BitVec 14) (bundle : Bundle)
  /-- TST (R154). -/
  | tst (tarn : Fin 100) (ts ta : Fin 16) (imm : BitVec 14) (bundle : Bundle)
  /-- BR (R154). -/
  | br (tarn : Fin 100) (cond ta tb : Fin 16) (imm : BitVec 14) (bundle : Bundle)
  /-- LOOP (R155). -/
  | loopOp (tarn : Fin 100) (ta : Fin 16) (imm : BitVec 14) (bundle : Bundle)
  /-- SGET (R154). -/
  | sget (tarn : Fin 100) (td sa : Fin 16) (field : BitVec 14) (bundle : Bundle)
  /-- SYNC (R154). -/
  | sync (tarn : Fin 100) (bundle : Bundle)
  /-- END (R156). -/
  | endProgram (tarn : Fin 100) (bundle : Bundle)
  /-- TRAP (R154). -/
  | trap (tarn : Fin 100) (imm : BitVec 14) (bundle : Bundle)
  /-- ALU (R122). -/
  | alu (core : Fin 8) (rd ra rb : Fin 32) (fn : BitVec 11) (ecc : Ecc)
  /-- ADDI (R121). -/
  | addi (core : Fin 8) (rd ra : Fin 32) (imm : BitVec 16) (ecc : Ecc)
  /-- ANDI (R121). -/
  | andi (core : Fin 8) (rd ra : Fin 32) (imm : BitVec 16) (ecc : Ecc)
  /-- ORI (R121). -/
  | ori (core : Fin 8) (rd ra : Fin 32) (imm : BitVec 16) (ecc : Ecc)
  /-- XORI (R121). -/
  | xori (core : Fin 8) (rd ra : Fin 32) (imm : BitVec 16) (ecc : Ecc)
  /-- SLTI (R121). -/
  | slti (core : Fin 8) (rd ra : Fin 32) (imm : BitVec 16) (ecc : Ecc)
  /-- SLTIU (R121). -/
  | sltiu (core : Fin 8) (rd ra : Fin 32) (imm : BitVec 16) (ecc : Ecc)
  /-- SHI (R121). -/
  | shi (core : Fin 8) (rd ra : Fin 32) (imm : BitVec 16) (ecc : Ecc)
  /-- ORHI (R121). -/
  | orhi (core : Fin 8) (rd ra : Fin 32) (imm : BitVec 16) (ecc : Ecc)
  /-- ADDPC (R121). -/
  | addpc (core : Fin 8) (rd : Fin 32) (imm : BitVec 16) (ecc : Ecc)
  /-- LB (R121). -/
  | lb (core : Fin 8) (rd ra : Fin 32) (imm : BitVec 16) (answers : List SnoopAnswer) (ecc : Ecc)
  /-- LH (R121). -/
  | lh (core : Fin 8) (rd ra : Fin 32) (imm : BitVec 16) (answers : List SnoopAnswer) (ecc : Ecc)
  /-- LW (R121). -/
  | lw (core : Fin 8) (rd ra : Fin 32) (imm : BitVec 16) (answers : List SnoopAnswer) (ecc : Ecc)
  /-- LD (R121). -/
  | ld (core : Fin 8) (rd ra : Fin 32) (imm : BitVec 16) (answers : List SnoopAnswer) (ecc : Ecc)
  /-- LBU (R121). -/
  | lbu (core : Fin 8) (rd ra : Fin 32) (imm : BitVec 16) (answers : List SnoopAnswer) (ecc : Ecc)
  /-- LHU (R121). -/
  | lhu (core : Fin 8) (rd ra : Fin 32) (imm : BitVec 16) (answers : List SnoopAnswer) (ecc : Ecc)
  /-- LWU (R121). -/
  | lwu (core : Fin 8) (rd ra : Fin 32) (imm : BitVec 16) (answers : List SnoopAnswer) (ecc : Ecc)
  /-- SB (R121). -/
  | sb (core : Fin 8) (rb ra : Fin 32) (imm : BitVec 16) (answers : List SnoopAnswer) (ecc : Ecc)
  /-- SH (R121). -/
  | sh (core : Fin 8) (rb ra : Fin 32) (imm : BitVec 16) (answers : List SnoopAnswer) (ecc : Ecc)
  /-- SW (R121). -/
  | sw (core : Fin 8) (rb ra : Fin 32) (imm : BitVec 16) (answers : List SnoopAnswer) (ecc : Ecc)
  /-- SD (R121). -/
  | sd (core : Fin 8) (rb ra : Fin 32) (imm : BitVec 16) (answers : List SnoopAnswer) (ecc : Ecc)
  /-- BEQ (R121). -/
  | beq (core : Fin 8) (rb ra : Fin 32) (imm : BitVec 16) (ecc : Ecc)
  /-- BNE (R121). -/
  | bne (core : Fin 8) (rb ra : Fin 32) (imm : BitVec 16) (ecc : Ecc)
  /-- BLT (R121). -/
  | blt (core : Fin 8) (rb ra : Fin 32) (imm : BitVec 16) (ecc : Ecc)
  /-- BGE (R121). -/
  | bge (core : Fin 8) (rb ra : Fin 32) (imm : BitVec 16) (ecc : Ecc)
  /-- BLTU (R121). -/
  | bltu (core : Fin 8) (rb ra : Fin 32) (imm : BitVec 16) (ecc : Ecc)
  /-- BGEU (R121). -/
  | bgeu (core : Fin 8) (rb ra : Fin 32) (imm : BitVec 16) (ecc : Ecc)
  /-- JAL (R121). -/
  | jal (core : Fin 8) (rd : Fin 32) (imm : BitVec 21) (ecc : Ecc)
  /-- JALR (R121). -/
  | jalr (core : Fin 8) (rd ra : Fin 32) (imm : BitVec 16) (ecc : Ecc)
  /-- ATOM (R131). -/
  | atom (core : Fin 8) (rd ra rb : Fin 32) (fn : BitVec 11) (answers : List SnoopAnswer) (ecc : Ecc)
  /-- FENCE_RW (R130). -/
  | fenceRw (core : Fin 8) (ecc : Ecc)
  /-- FENCE_W (R130). -/
  | fenceW (core : Fin 8) (ecc : Ecc)
  /-- FENCE_IO (R130). -/
  | fenceIo (core : Fin 8) (ecc : Ecc)
  /-- FENCE_I (R130). -/
  | fenceI (core : Fin 8) (ecc : Ecc)
  /-- CSRRW (R132). -/
  | csrrw (core : Fin 8) (rd ra : Fin 32) (imm : BitVec 16) (ecc : Ecc)
  /-- CSRRS (R132). -/
  | csrrs (core : Fin 8) (rd ra : Fin 32) (imm : BitVec 16) (ecc : Ecc)
  /-- CSRRC (R132). -/
  | csrrc (core : Fin 8) (rd ra : Fin 32) (imm : BitVec 16) (ecc : Ecc)
  /-- MSEND (R139). -/
  | msend (core : Fin 8) (rd ra rb : Fin 32) (ecc : Ecc)
  /-- MRECV (R139). -/
  | mrecv (core : Fin 8) (rd ra : Fin 32) (ecc : Ecc)
  /-- MWAIT (R139). -/
  | mwait (core : Fin 8) (ecc : Ecc)
  /-- MCOUNT (R139). -/
  | mcount (core : Fin 8) (rd : Fin 32) (ecc : Ecc)
  /-- ECALL (R121). -/
  | ecall (core : Fin 8) (ecc : Ecc)
  /-- BREAK (R121). -/
  | breakOp (core : Fin 8) (ecc : Ecc)
  /-- ERET (R134). -/
  | eret (core : Fin 8) (ecc : Ecc)
  /-- WFI (R136). -/
  | wfi (core : Fin 8) (ecc : Ecc)
  /-- CORE_WAKE (R136). -/
  | coreWake (core : Fin 8)
  /-- TIMER_INTERRUPT (R133). -/
  | timerInterrupt (core : Fin 8)
  /-- INTERRUPT_ENTRY (R134). -/
  | interruptEntry (core : Fin 8)
  /-- MESSAGE_DELIVERY (R141). -/
  | messageDelivery (src : Option (Fin 8)) (index : Nat)
  /-- UNDELIVERABLE (R141). -/
  | undeliverable (src : Option (Fin 8)) (index : Nat)
  /-- WELL_CORE_RELEASE (R557). -/
  | wellCoreRelease (core : Fin 4)
  /-- STEWARD_RELEASE (R557). -/
  | stewardRelease (steward : Fin 4)
  /-- STEWARD_RESTART (R557). -/
  | stewardRestart (steward : Fin 4)
  /-- POND_REQUEST (R197). -/
  | pondRequest (id : Nat) (level : Fin 4) (write : Bool) (pa : BitVec 48) (data : List Byte) (poison : Bool) (tenant : Option (BitVec 8)) (kslot : BitVec 9) (repair : Bool) (tarn : Fin 100)
  /-- POND_ISSUE (R198). -/
  | pondIssue (unit : Fin 396) (pc : Fin 2) (faults : IssueFaults)
  /-- AGE_PROMOTION (R199). -/
  | agePromotion (unit : Fin 396) (pc : Fin 2) (id : Nat)
  /-- ROW_IDLE_CLOSE (R198). -/
  | rowIdleClose (unit : Fin 396) (pc : Fin 2) (bank : Fin 16)
  /-- REFRESH_INTERVAL (R201). -/
  | refreshInterval (unit : Fin 396) (pc : Fin 2) (postpone : Bool)
  /-- STACK_TEMPERATURE_CHANGE (R201). -/
  | stackTemperatureChange (stack : Fin 12) (hot : Bool)
  /-- REFRESH_WINDOW_END (R208). -/
  | refreshWindowEnd (unit : Fin 396)
  /-- RETRAIN_PERIOD (R202). -/
  | retrainPeriod (unit : Fin 396)
  /-- RETRAIN_TOKEN (R202). -/
  | retrainToken (unit : Fin 396)
  /-- PAUSE_LIMIT (R204). -/
  | pauseLimit (unit : Fin 396)
  /-- POND_FILL (R210). -/
  | pondFill (pond : Fin 384) (sender tag : BitVec 16) (first count : BitVec 32) (pattern : Word) (kslot : BitVec 16) (tenant pcmask : BitVec 8) (repair : Bool)
  /-- SPILL_FILL (R210). -/
  | spillFill (spill : Fin 12) (sender tag : BitVec 16) (first count : BitVec 32) (pattern : Word) (kslot : BitVec 16) (tenant : BitVec 8)
  /-- FILL_DONE (R211). -/
  | fillDone (unit : Fin 396) (done : BitVec 32)
  /-- POND_TRAIN (R229). -/
  | pondTrain (pond : Fin 384)
  /-- POND_FAULT_WRITE (R229). -/
  | pondFaultWrite (pond : Fin 384)
  /-- SPILL_TRAIN (R238). -/
  | spillTrain (spill : Fin 12) (dimms : List (Nat × Nat))
  /-- TRAINING_DONE (R580). -/
  | trainingDone (unit : Fin 396) (ok : Bool) (resources : List (Fin 16 × Nat))
  /-- SPILL_HOLD (R217). -/
  | spillHold (spill : Fin 12) (hold : Bool)
  /-- BLOCK_MOVE_SWITCH (R33). -/
  | blockMoveSwitch (block : Nat)
  /-- OLD_COPY_FREE (R33). -/
  | oldCopyFree (frame : BitVec 48)
  /-- TABLE_SYNC (R252). -/
  | tableSync (port : Fin 8) (w0 w1 : Word) (lines : List Byte) (dt : Nat) (hold : Bool)
  /-- INVALIDATION_DONE (R255). -/
  | invalidationDone (id : Nat)
  /-- INVALIDATION_SLOW (R256). -/
  | invalidationSlow (id : Nat)
  /-- FAULT_QUEUE_HEAD_WRITE (R261). -/
  | faultQueueHeadWrite (head : BitVec 11)
  /-- TENANT_CREATE (R265). -/
  | tenantCreate (partner : Fin 10)
  /-- TENANT_DESTROY (R265). -/
  | tenantDestroy (partner : Fin 10)
  /-- ENDPOINT_BIND (R265). -/
  | endpointBind (partner : Fin 10)
  /-- ENDPOINT_UNBIND (R265). -/
  | endpointUnbind (partner : Fin 10)
  /-- CONTEXT_CREATE (R265). -/
  | contextCreate (partner : Fin 10)
  /-- CONTEXT_DESTROY (R265). -/
  | contextDestroy (partner : Fin 10)
  /-- BASIN_CREATE (R595). -/
  | basinCreate (partner : Fin 10) (shadow : List Nat)
  /-- BASIN_DESTROY (R246). -/
  | basinDestroy (partner : Fin 10)
  /-- BASIN_UNITS_FREE (R246). -/
  | basinUnitsFree (basin : BitVec 10)
  /-- FLIT_RECEIVE (R279). -/
  | flitReceive (link : Fin 9) (replicated : Bool) (parts : List (Nat × List Byte)) (codewords : List (Nat × Nat))
  /-- NAK_REPEAT_TIMER (R279). -/
  | nakRepeatTimer (link : Fin 9)
  /-- ACK_HOLD_TIMER (R280). -/
  | ackHoldTimer (link : Fin 9)
  /-- REPLAY_TIMEOUT (R282). -/
  | replayTimeout (link : Fin 9)
  /-- CREDIT_TIMEOUT (R286). -/
  | creditTimeout (link : Fin 9) (cls : Fin 6)
  /-- SIGNAL_DETECT (R287). -/
  | signalDetect (link : Fin 9) (lanes : BitVec 16)
  /-- EQUALISE_DONE (R287). -/
  | equaliseDone (link : Fin 9)
  /-- LANE_TEST_DONE (R291). -/
  | laneTestDone (link : Fin 9) (results : List (Nat × Bool × Nat))
  /-- LANE_ERROR_BURST (R291). -/
  | laneErrorBurst (burst : LaneBurst)
  /-- REQ (R289). -/
  | req (link : Fin 9) (rank : Fin 4) (portId : Word)
  /-- FOLLOW (R289). -/
  | follow (link : Fin 9)
  /-- TEST_DONE (R291). -/
  | testDone (link : Fin 9) (mask : BitVec 16)
  /-- CONFIG (R288). -/
  | config (link : Fin 9) (width : Nat) (portId : Word) (mask : BitVec 16) (nextSeq : BitVec 12) (advert : List (BitVec 16))
  /-- CONFIG_ACK (R288). -/
  | configAck (link : Fin 9) (nextSeq : BitVec 12)
  /-- CONTROL_REPEAT (R288). -/
  | controlRepeat (link : Fin 9)
  /-- CONFIG_TIMEOUT (R288). -/
  | configTimeout (link : Fin 9)
  /-- RETRAIN_LIMIT (R290). -/
  | retrainLimit (link : Fin 9)
  /-- MERE_ENABLE (R299). -/
  | mereEnable (link : Fin 9) (enable : Bool)
  /-- MERE_RETRAIN (R290). -/
  | mereRetrain (link : Fin 9)
  /-- MERE_WIDEN (R290). -/
  | mereWiden (link : Fin 9)
  /-- MERE_BREAK (R290). -/
  | mereBreak (link : Fin 9)
  /-- WIDTH_CHANGE (R290). -/
  | widthChange (link : Fin 9) (widthMax : Fin 4) (exclude : BitVec 16)
  /-- ROUTE_REVERT (R295). -/
  | routeRevert (port : Fin 8)
  /-- CLIENT_UNREACHABLE (R295). -/
  | clientUnreachable (endpoint : BitVec 12)
  /-- ROUTE_WRITE (R297). -/
  | routeWrite (endpoint : BitVec 12) (value : Word)
  /-- RD_SHARED (R348). -/
  | rdShared (port : Fin 8) (w0 w1 : Word) (payload : List Byte) (dt : Nat) (hold : Bool)
  /-- RD_OWN (R348). -/
  | rdOwn (port : Fin 8) (w0 w1 : Word) (payload : List Byte) (dt : Nat) (hold : Bool)
  /-- RD_ONCE (R348). -/
  | rdOnce (port : Fin 8) (w0 w1 : Word) (payload : List Byte) (dt : Nat) (hold : Bool)
  /-- CLAIM (R348). -/
  | claim (port : Fin 8) (w0 w1 : Word) (payload : List Byte) (dt : Nat) (hold : Bool)
  /-- WR_FULL (R348). -/
  | wrFull (port : Fin 8) (w0 w1 : Word) (payload : List Byte) (dt : Nat) (hold : Bool)
  /-- WRITEBACK (R348). -/
  | writeback (port : Fin 8) (w0 w1 : Word) (payload : List Byte)
  /-- SNP_RSP (R346). -/
  | snpRsp (port : Fin 8) (w0 w1 : Word)
  /-- FWD_DATA (R346). -/
  | fwdData (port : Fin 8) (w0 w1 : Word) (payload : List Byte)
  /-- COMPLETION_ACK (R342). -/
  | completionAck (port : Fin 8) (w0 w1 : Word)
  /-- BULK_RD (R319). -/
  | bulkRd (source : Fin 9) (w0 w1 : Word) (dt : Nat) (hold : Bool) (answers : List SnoopAnswer)
  /-- BULK_WR (R319). -/
  | bulkWr (source : Fin 9) (w0 w1 : Word) (payload : List Byte) (dt : Nat) (hold : Bool) (answers : List SnoopAnswer)
  /-- MIRROR_WRITE (R434). -/
  | mirrorWrite (w0 w1 : Word) (body : MirrorBody)
  /-- MIRROR_ACK (R436). -/
  | mirrorAck (head : PacketHead)
  /-- MESH_PACKET_ARRIVAL (R328). -/
  | meshPacketArrival (sideband : BitVec 96)
  /-- STARVATION_THROTTLE (R325). -/
  | starvationThrottle (x : Fin 16) (y : Fin 12) (port : Fin 4)
  /-- AGE_ALARM (R325). -/
  | ageAlarm (sideband : BitVec 96)
  /-- PRIV_ENTRY_WRITE (R337). -/
  | privEntryWrite (entry : Fin 64) (value : Word)
  /-- SNOOP_TIMEOUT (R362). -/
  | snoopTimeout (ep : BitVec 12)
  /-- UNREACH_DEATH (R362). -/
  | unreachDeath (ep : BitVec 12)
  /-- DECLARE_DEAD (R362). -/
  | declareDead (ep : BitVec 12)
  /-- RELEASE (R365). -/
  | release (ep : BitVec 12)
  /-- SWEEP_DONE (R364). -/
  | sweepDone (kind : Fin 3) (basin : BitVec 16) (ans : List SnoopAnswer)
  /-- REQUEST_SCHEDULER_SERVE (R380). -/
  | requestSchedulerServe (port : Fin 8) (ans : List SnoopAnswer)
  /-- BULK_SCHEDULER_SERVE (R380). -/
  | bulkSchedulerServe (port : Fin 8) (ans : List SnoopAnswer)
  /-- DISPATCH_SERVE (R382). -/
  | dispatchServe (source : Fin 9)
  /-- DISPATCH_STARVED (R392). -/
  | dispatchStarved (source : Fin 9)
  /-- TARGETED_SELF_TEST (R403). -/
  | targetedSelfTest (unit : Fin 396) (pc : Fin 2)
  /-- SELF_TEST_HOLD_END (R403). -/
  | selfTestHoldEnd (unit : Fin 396) (pc : Fin 2) (miscompare : Bool)
  /-- SCRUB_READ (R406). -/
  | scrubRead (pa : BitVec 48) (errors : List (Nat × Nat))
  /-- SCRUB_LATE (R406). -/
  | scrubLate (unit : Fin 396)
  /-- UE_REWRITE (R408). -/
  | ueRewrite (pa : BitVec 48)
  /-- READ_TRIPLE (R411). -/
  | readTriple (word : BitVec 22)
  /-- WRITE_TRIPLE (R411). -/
  | writeTriple (word : BitVec 22) (value : List Byte)
  /-- STACK_FAIL (R417). -/
  | stackFail (target : Fin 16)
  /-- REBUILD (R418). -/
  | rebuild (target : Fin 16)
  /-- EVACUATE (R422). -/
  | evacuate (target : Fin 16) (ans : List SnoopAnswer)
  /-- HARD_REPAIR (R405). -/
  | hardRepair (target : Fin 16)
  /-- RETEST (R426). -/
  | retest (target : Fin 16)
  /-- REBUILD_UNIT (R418). -/
  | rebuildUnit
  /-- CELOG_CLEAR (R427). -/
  | celogClear (unit : Fin 396) (entry : Fin 16)
  /-- TWIN_PATH_LOST (R441). -/
  | twinPathLost
  /-- RING_PATH_LOST (R441). -/
  | ringPathLost
  /-- FENCE_DELAY_EXPIRY (R445). -/
  | fenceDelayExpiry
  /-- FENCE_HELD (R446). -/
  | fenceHeld
  /-- TAKEOVER (R446). -/
  | takeover
  /-- FENCE_RELEASE (R449). -/
  | fenceRelease
  /-- ADMIT (R450). -/
  | admitPartner (answer : Fin 5) (shadow : List Nat)
  /-- SWITCH_BACK (R451). -/
  | switchBack (basin : BitVec 10) (all : Bool) (ans : List SnoopAnswer)
  /-- COPY_COMMIT (R440). -/
  | copyCommit (copy : Machine.CopyMsg)
  /-- RESYNC_DONE (R444). -/
  | resyncDone
  /-- PARTNER_AUTH (R483). -/
  | partnerAuth (cert block report sig nonce theirs : List Byte) (accepted : Bool)
  /-- PAIR_FORM (R591). -/
  | pairForm (partner : Fin 7) (partnerBasins : Bool) (objects : Machine.CopyMsg)
  /-- FEED_LOSS (R453). -/
  | feedLoss (feedB vrm : Bool)
  /-- FEED_BOTH_LOST (R455). -/
  | feedBothLost
  /-- RESTORE (R454). -/
  | restore
  /-- PWR_SAMPLE (R515). -/
  | pwrSample (power : Option (BitVec 12)) (tj tstk : BitVec 8) (msEnd : Bool)
  /-- THERMTRIP (R517). -/
  | thermtrip (tj : BitVec 8) (stack : Bool)
  /-- THERMTRIP_RELEASE (R517). -/
  | thermtripRelease (tj : BitVec 8)
  /-- VMON (R518). -/
  | vmon (vpp : Bool)
  /-- VMON_WARN (R518). -/
  | vmonWarn (vpp : Bool)
  /-- IMPORT (R469). -/
  | importKey (slot : BitVec 9) (partner : Option (BitVec 32))
  /-- ERASE (R471). -/
  | erase (slot : BitVec 9) (force : Bool)
  /-- QUERY (R488). -/
  | query (slot : BitVec 9)
  /-- REPORT (R481). -/
  | report (scope : Bool) (tenant : BitVec 8)
  /-- EXTEND (R480). -/
  | extend
  /-- COMMIT (R474). -/
  | commit (burned hold : Bool)
  /-- RESERVE_CHUNK (R476). -/
  | reserveChunk (reads1 hold : Bool)
  /-- DBG_REQ (R485). -/
  | dbgReq
  /-- DEBUG_ZEROISE (R485). -/
  | debugZeroise
  /-- PWRON (R494). -/
  | pwron (railUp : Bool)
  /-- RESET_L (R494). -/
  | resetL
  /-- PERST (R494). -/
  | perst
  /-- WATCHDOG_EXPIRY (R503). -/
  | watchdogExpiry
  /-- KICK (R503). -/
  | kick
  /-- SW_CHIP (R494). -/
  | swChip (confirm : BitVec 8)
  /-- SW_DATA (R494). -/
  | swData (confirm : BitVec 8)
  /-- PARTNER_RESET_IN (R494). -/
  | partnerResetIn
  /-- CLKFAIL (R511). -/
  | clkfail (source : Fin 4)
  /-- RESET_HOLD_END (R497). -/
  | resetHoldEnd (us : BitVec 32)
  /-- L2_RESET (R498). -/
  | l2Reset
  /-- L2_QUIESCE_TIMEOUT (R499). -/
  | l2QuiesceTimeout
  /-- L2_RESET_RESUME (R498). -/
  | l2ResetResume
  /-- ENTER (R500). -/
  | enter (kind : Fin 4) (index : BitVec 9)
  /-- LEAVE (R500). -/
  | leave (kind : Fin 4) (index : BitVec 9)
  /-- PULSE (R500). -/
  | pulse (kind : Fin 4) (index : BitVec 9)
  /-- UNIT_READY (R501). -/
  | unitReady (kind : Fin 4) (index : BitVec 9)
  /-- SOURCE_STABLE (R505). -/
  | sourceStable (pll : Bool) (n : BitVec 10)
  /-- REFCLK_FAIL (R506). -/
  | refclkFail (pll : Bool) (n : BitVec 10)
  /-- CLK_SEL_WRITE (R509). -/
  | clkSelWrite (value : BitVec 3)
  /-- FLR (R530). -/
  | flr
  /-- CMD_TAIL_WRITE (R534). -/
  | cmdTailWrite (tail : BitVec 16) (staged : List (BitVec 28 × List Byte))
  /-- PARAM_SET (R536). -/
  | paramSet
  /-- PARAM_GET (R535). -/
  | paramGet
  /-- BULK_WRITE (R537). -/
  | bulkWrite (core : Fin 4) (ans : List SnoopAnswer)
  /-- BULK_READ (R537). -/
  | bulkRead (core : Fin 4) (ans : List SnoopAnswer)
  /-- FLASH_WRITE (R538). -/
  | flashWrite (readsBack hold : Bool)
  /-- PING (R535). -/
  | ping
  /-- EVT_HEAD_WRITE (R540). -/
  | evtHeadWrite (head : BitVec 16)
  /-- EVENT (R541). -/
  | event (source : BitVec 16) (what : Option Report)
  /-- START (R546). -/
  | start
  /-- MARKER (R547). -/
  | marker (unit : Fin 504) (undelivered : Bool)
  /-- HEARTBEAT_FRAME (R551). -/
  | heartbeatFrame (ring : Fin 2) (frame : List Byte)
  /-- GOODBYE (R443). -/
  | goodbye (body : List Byte) (overRing : Bool)
  /-- RESET_FRAME (R551). -/
  | resetFrame (ring : Fin 2) (frame : List Byte)
  /-- RING_FRAME_FORWARD (R550). -/
  | ringFrameForward (ring : Fin 2) (frame : List Byte)
  /-- FATAL_ERROR (R555). -/
  | fatalError (cause : BitVec 8) (info : Word)
  /-- DUMP_DONE (R555). -/
  | dumpDone (queue : BitVec 26) (cut : List (Fin 8 × BitVec 26))
  /-- BOOT_ROM_START (R580). -/
  | bootRomStart
  /-- FIRMWARE_LOAD_DONE (R584). -/
  | firmwareLoadDone (hold : Bool)
  /-- MBX_EN (R592). -/
  | mbxEn (value : Bool)
  /-- JOB_ENABLE (R593). -/
  | jobEnable (value : Bool)
  /-- ILLEGAL_INSTR (R120). -/
  | illegalInstr (core : Fin 8) (word : BitVec 32) (ecc : Ecc)
  /-- ILLEGAL_SLOT (R143). -/
  | illegalSlot (tarn : Fin 100) (word : BitVec 128)
  /-- MESH_HOP (R323). -/
  | meshHop (x : Fin 16) (y : Fin 12) (arrivals : List (BitVec 96 × Bool)) (inject : List (Fin 4 × BitVec 96))
  /-- FUSE_LOAD_DONE (R502). -/
  | fuseLoadDone
  /-- RESET_INPUT_DEASSERT (R580). -/
  | resetInputDeassert (input : Fin 4)
  /-- FEED_RETURN (R461). -/
  | feedReturn (feedB vrm : Bool)
  /-- RING_SYNC_LOST (R558). -/
  | ringSyncLost (ring : Fin 2)
  /-- RING_SYNC_ACQUIRED (R558). -/
  | ringSyncAcquired (ring : Fin 2)
  /-- VDD_AON_LOSS (R552). -/
  | vddAonLoss
  /-- DEBUG_RESET (R494). -/
  | debugReset
  deriving DecidableEq, Repr

end Sys2Proof
end

