-- ==== Sys2Proof/Machine/State.lean ====
section
/-!
DEFINITION. The state of the controller: every register, table, queue, memory and mode the manual gives it, as plain data, and the state right after
reset. Each large array is a sparse table whose unlisted entries hold their reset entry.
-/
namespace Sys2Proof.Machine

/-! ### What the block sends (the model's own record of its outputs) -/

/-- One thing the controller has sent or driven, in the order of sending. -/
inductive Out where
  /-- A read of a register completed with this value (R8, R9). -/
  | regRead (requester addr size value : Nat)
  /-- A register access completed as an Unsupported Request and was recorded through AER (R8). -/
  | unsupported (requester addr : Nat)
  /-- The message of an MSI-X vector (R531, R532). -/
  | msix (vector : Nat)
  /-- A packet to a fabric endpoint: opcode name, endpoint, transaction identity, STATUS, further fields and payload (R307, R308). -/
  | packet (op : String) (endpoint tid status : Nat) (args : List Nat) (poison : Nat) (data : List Byte)
  /-- A packet over the Twin link to the partner. -/
  | twin (op : String) (args : List Nat) (data : List Byte)
  /-- A flit of a link: striped over its logical lanes, or replicated, a whole copy on each; the lanes by number; its 256 bytes (R272, R274, R275). -/
  | flit (link : Nat) (replicated : Bool) (lanes : List Nat) (bytes : List Byte)
  /-- A hierarchy message from an address to an address (R137, R138). -/
  | hmsg (src dst : Nat) (body : List Byte)
  /-- A frame on a ring of the rack management ring (R550, R551). -/
  | ring (ring : Nat) (frame : List Byte)
  /-- A command of a channel controller to its DRAM: refresh, neighbour refresh, activate, precharge. -/
  | dram (channel : Nat) (cmd : String) (args : List Nat)
  /-- A response of a Pond, Spillway channel or isolation wrapper to a requester: request, status 0 OK or 1 error, poison mark, data. -/
  | memResp (channel id status : Nat) (poison : Bool) (data : List Byte)
  /-- A land driven to a level (R502, R570). -/
  | land (name : String) (level : Bool)
  /-- A hop of a mesh packet from a router by a port, or its delivery (R323, R328). -/
  | mesh (what : String) (args : List Nat)
  /-- A mailbox response or a block's result a requester waits for. -/
  | result (what : String) (args : List Nat)
  /-- The control state that a copy carries to the partner (R26, R439, R450). -/
  | copy (m : CopyMsg)
  deriving DecidableEq, Repr

/-! ### The pool (R193 to R196, R214, R395 to R401) -/

/-- The side storage of one 64 B line (R395, R397), and whether its check code is valid; the key slot and generation its data is
encrypted under (R462 to R466). -/
structure Side where
  poison : Bool := false
  summary : Nat := 0
  heat : Nat := 0
  tag : Nat := 0
  valid : Bool := false
  kslot : Nat := 0
  kgen : Nat := 0
  deriving DecidableEq, Repr

/-- What a fill covers (R210, R244): rows of a Pond's pseudo-channels, 64 KiB units of a Spillway channel, or the physical units of a run. -/
inductive FillRange where
  | rows (pond first count pcmask : Nat)
  | chunks (spill first count : Nat)
  | run (r : Run) (unitBytes : Nat)
  deriving DecidableEq, Repr

/-- A fill: its range, its 64-bit pattern, the key it was encrypted under and the tag it stored (R211); while it runs, and where it never finished, the
lines of its range are not valid. -/
structure Fill where
  range : FillRange
  pattern : Nat
  kslot : Nat
  kgen : Nat
  tag : Nat
  valid : Bool := true
  deriving DecidableEq, Repr

/-- The pool's memory: data bytes, side storage by line, and the fills that give an unlisted line its contents (newest first). -/
structure Pool where
  cells : List Host.Cell
  side : Tbl Side
  fills : List Fill
  deriving DecidableEq, Repr

/-! ### Channel controllers: Ponds 0 to 383 and Spillway channels 384 to 395 (R197 to R209, R215) -/

/-- A request in a channel controller's queue (R197, R200). -/
structure MemReq where
  id : Nat
  level : Nat
  write : Bool
  pa : Nat
  data : List Byte
  poison : Bool
  /-- Tenant the access carries, checked under R262; none for an access that no tenant makes. -/
  tenant : Option Nat
  kslot : Nat
  /-- The translator marked the request as a STRIPE access (R413). -/
  striped : Bool
  /-- The request comes from the rebuild and repair engines (R195). -/
  repair : Bool
  /-- Promoted by age (R199). -/
  aged : Bool
  /-- The Tarn a level-1 request of a Spillway channel comes from (R103). -/
  tarn : Nat := 0
  deriving DecidableEq, Repr

/-- One entry of an activate-count table: row, count, and whether its parity bit is good (R206, R207). -/
structure ActEntry where
  row : Nat
  count : Nat
  parity : Bool
  deriving DecidableEq, Repr

/-- One bank: its open row, hits served from it in a row, refreshes owed, and its activate-count table with the two flags, which stand set for the first window (R198, R201, R206 to R209, R230). -/
structure Bank where
  openRow : Option Nat := none
  hits : Nat := 0
  owed : Nat := 0
  table : List ActEntry := []
  overflow : Bool := true
  untrusted : Bool := true
  deriving DecidableEq, Repr

/-- One pseudo-channel (R197, R200, R201, R204): its queues in order of arrival, its banks, the bank the refresh rotation has
reached, the write drain, and the short pauses in a row. -/
structure PChan where
  rq : List MemReq := []
  wq : List MemReq := []
  banks : Tbl Bank := []
  refreshPtr : Nat := 0
  drainTo : Option Nat := none
  paused : Bool := false
  shortRow : Nat := 0
  deriving DecidableEq, Repr

/-- A fill command that runs (R210): the address that asked, its TAG, the fill, its rows or 64 KiB units, its lines; the basin when the Wellhead has it run
for a BASIN_CREATE (R244). -/
structure FillJob where
  sender : Nat
  tag : Nat
  fill : Fill
  count : Nat
  lines : Nat
  basin : Option Nat := none
  deriving DecidableEq, Repr

/-- A row under targeted self-test (R403): pseudo-channel, bank, row, and its log entry. -/
structure SeepTest where
  pc : Nat
  bank : Nat
  row : Nat
  entry : Nat
  deriving DecidableEq, Repr

/-- One channel controller. `remap` maps (pseudo-channel, bank, row) to a retirement row (R404); `soft` counts the repair
resources the stack or DIMM reported, by bank (R404); `marks` lists (rank, device) marked failed (R398); `transient` counts the
tests in a row that came out transient (R404), by row key; `order` lists the log entries that wait for a test, in order of logging (R403); `patrol` counts the
lines of the patrol's pass (R406). -/
structure Chan where
  pc0 : PChan := {}
  pc1 : PChan := {}
  test : List SeepTest := []
  remap : List (Nat × Nat × Nat × Nat) := []
  soft : Tbl Nat := []
  marks : List (Nat × Nat) := []
  transient : Tbl Nat := []
  order : List Nat := []
  /-- Entries of the correctable-error log whose errors are not confined to one device (R398). -/
  spread : List Nat := []
  patrol : Nat := 0
  /-- Tarn served last at level 1 (R103). -/
  lastTarn : Nat := 99
  /-- The fill that runs (R210). -/
  fill : Option FillJob := none
  /-- The token's pass here has reached pseudo-channel 1 (R202). -/
  tracked0 : Bool := false
  /-- The channel controller holds the retraining token (R202, R215). -/
  token : Bool := false
  /-- Its last full training succeeded (R229, R238); of a Spillway channel, since its last HOLD. -/
  trained : Bool := false
  /-- Lines served from its rows, of which the row commands are still to be issued: pseudo-channel and PA, oldest first (R198, R235). -/
  rows : List (Nat × Nat) := []
  deriving DecidableEq, Repr

/-! ### RAS (R405, R410, R411, R418) -/

/-- One entry of the repair list in the SPI flash (R405): channel controller, pseudo-channel, bank, row, and the retirement row,
or none for a soft repair; `hard` once HARD_REPAIR has made it permanent. -/
structure Repair where
  unit : Nat
  pc : Nat
  bank : Nat
  row : Nat
  spare : Option Nat
  hard : Bool
  deriving DecidableEq, Repr

/-- RAS state beside its registers: the stack each of the three copies is in (R410), an evacuation's channel and the mapped unit it is moving, as member and unit
offset (R422), the bytes rebuild has moved in this management cycle (R418), the UE lines that wait for the
Steward (R408), and the repair list in the external flash (R405). -/
structure Ras where
  copyStack : List Nat := [0, 4, 8]
  evac : Option Nat := none
  movingUnit : Option (Nat × Nat) := none
  rebuildBytes : Nat := 0
  ueLines : List Nat := []
  repairs : List Repair := []
  deriving DecidableEq, Repr

/-! ### Management plane (R533 to R555) -/

/-- An event record (R539). -/
structure EvRec where
  kind : Nat
  code : Nat
  count : Nat
  mcycle : Nat
  body : List Byte
  deriving DecidableEq, Repr

/-- The BODY of an EVENT message (R541). -/
structure EvMsg where
  kind : Nat
  sev : Nat
  code : Nat
  count : Nat
  cycles : Nat
  data : List Byte
  /-- The management cycle its Steward stamped it with (R544). -/
  stamp : Option Nat := none
  deriving DecidableEq, Repr

/-- One reporting unit's path (R542, R543): its queue, its sticky alarm counts, the drops its next log and trace carry, and this
cycle's logs and traces by code. -/
structure EvUnit where
  queue : List (Nat × EvMsg) := []
  alarms : Tbl Nat := []
  logDrops : Nat := 0
  traceDrops : Nat := 0
  storm : List (Nat × Nat) := []
  deriving DecidableEq, Repr

/-- A snapshot that is running (R546 to R549): its epoch, the units whose records are written, and the cycle of START. -/
structure Snap where
  epoch : Nat
  done : List Nat
  start : Nat
  incomplete : Bool
  deriving DecidableEq, Repr

/-- A fatal error (R553, R554): its CAUSE and INFO, the core that runs the dump, the management cycle and RST_CAUSE at the time. -/
structure Fatal where
  cause : Nat
  info : Nat
  core : Nat
  mcycle : Nat
  resets : Nat
  deriving DecidableEq, Repr

/-- Management state beside its registers. -/
structure Mgmt where
  /-- Records in the event ring not yet read, and records held in Wellhead SRAM (R540). -/
  unread : List EvRec := []
  held : List EvRec := []
  /-- Reporting paths by hierarchy address (R542). -/
  units : Tbl EvUnit := []
  snap : Option Snap := none
  /-- Management cycles since the last partner heartbeat, by ring; none heard yet is none (R551). -/
  hb0 : Option Nat := none
  hb1 : Option Nat := none
  /-- Management cycles a ring's receiver has been out of sync, by ring (R558). -/
  out0 : Nat := 0
  out1 : Nat := 0
  /-- Steward heartbeats missed in a row, by quadrant (R21), and Stewards whose next heartbeat goes unanswered. -/
  misses : Tbl Nat := []
  /-- Management cycles since the last heat decay (R223). -/
  decay : Nat := 0
  /-- Placement parameters by PARAM (R225, R536), and new values waiting for the next cycle. -/
  params : Tbl Nat := []
  newParams : List (Nat × Nat) := []
  /-- The fatal error that has been taken (R553 to R555). -/
  fatal : Option Fatal := none
  traceHead : Nat := 0
  /-- The verified firmware image that runs, of which the Stewards' program images are a part (R21, R580). -/
  fwCode : List Byte := []
  /-- MBX_EN has been written 1 since L1 (R592): the ring heartbeats run. -/
  served : Bool := false
  deriving DecidableEq, Repr

/-! ### Reset, clocks, power (R492 to R526) -/

/-- The fuse map, and so the fuse shadow: what "Fuse" in a Reset column loads (R14, R494, R502). Unless it says otherwise a fuse array holds Walsyn's level
map (R494) and land states (R575), and 0 elsewhere. DESIGN CHOICE, log entry 47. -/
structure Fuses where
  stepping : Nat := 0
  vendor : Nat := 0
  chip : Nat := 0
  levelMap : Nat := 0x555974
  lands : Tbl Nat := []
  dbg : Bool := false
  chunks : Nat := 0
  svn : Nat := 0
  signer0 : List Nat := []
  deriving DecidableEq, Repr

/-- Reset state in the always-on island. -/
structure Rst where
  /-- The level of the reset in progress and its source (R495). -/
  active : Option (Nat × Nat) := some (0, 0)
  /-- Steps of an L2 reset done: 0 none, 1 quiescing (R498 steps 1, 2), 2 in self-refresh (steps 3 to 5). -/
  l2 : Nat := 0
  /-- A fuse pulse or SPI flash page program is being driven, and the reset it holds (R497). -/
  burning : Bool := false
  heldReset : Option (Nat × Nat) := none
  /-- Units in an L3 reset: key 1024 · KIND + INDEX, 1 in reset, 2 leaving and not yet ready (R500, R501). -/
  units : Tbl Nat := []
  /-- Input lands asserted: PWRON_L, RESET_L, PERST_L, PARTNER_RST_IN_L (R494). -/
  pwronIn : Bool := true
  resetIn : Bool := false
  perstIn : Bool := false
  partnerIn : Bool := false
  /-- A thermal trip holds the controller in L1 (R517). -/
  thermHold : Bool := false
  /-- The fuse load has completed (R502). -/
  fused : Bool := false
  /-- The watchdog runs (R503). -/
  wdog : Bool := false
  /-- VDD_AON within its limits (R552). -/
  aonOk : Bool := true
  /-- The boot ROM has started since the last L0 or L1 reset (R580), and runs in recovery (R585). -/
  booted : Bool := false
  recovery : Bool := false
  /-- The PCI Express interface answers configuration requests (R582). -/
  pcie : Bool := false
  /-- PARTNER_RST_OUT_L and THERMTRIP_L are asserted: lands of the always-on island (R445, R502, R517). -/
  fenceLand : Bool := false
  tripLand : Bool := false
  /-- Reset state a land is held in, by its place in the list of R575; 4 while its owner drives it (R502). -/
  lands : Tbl Nat := []
  deriving DecidableEq, Repr

/-- Clock state: islands stopped under R507 and islands whose PLL is judged stable (R505), by island number. -/
structure Clk where
  stopped : Tbl Bool := []
  pllStable : Tbl Bool := []
  deriving DecidableEq, Repr

/-- Power-cap loop state (R515, R516): the last ten samples, newest first; the tightening steps in force, newest first (true: F,
false: operating point); samples in a row that allow relaxing; unreadable and good PMBus samples in a row. -/
structure Pwr where
  samples : List Nat := []
  steps : List Bool := []
  relax : Nat := 0
  pmbusBad : Nat := 0
  pmbusGood : Nat := 10
  background : Bool := true
  /-- Samples of 100 µs since both feeds and VRM groups were last found present (R454). -/
  bothOk : Nat := 0
  /-- The first DEGLITCH_US since the always-on rail came up have not passed: whether a feed is absent is not decided yet (R461). -/
  feedWindow : Bool := true
  deriving DecidableEq, Repr

/-! ### Tenants, basins, translation (R241 to R270) -/

/-- What waits for an invalidation (R253, R255): a TABLE_SYNC of an endpoint with its TAG, or the running XLAT command. -/
inductive InvWaiter where
  | sync (endpoint tid tag asid : Nat)
  | command
  | move
  deriving DecidableEq, Repr

/-- An access that a Mere translator has translated and that is not yet performed: its port, endpoint and transaction (R255). -/
structure Pending where
  port : Nat
  ep : Nat
  txn : Nat
  deriving DecidableEq, Repr

/-- An invalidation in flight: stage 1 (ASID and VA units) or stage 2 (tenant and TPA units), what waits for it, and the accesses its holders translated
with an entry of the range before it (R255). -/
structure Inv where
  id : Nat
  stage : Nat
  space : Nat
  lo : Nat
  len : Nat
  waiter : InvWaiter
  before : List Pending := []
  /-- The change that the partner must hold before the sync is answered (R253), by its number in the mirror queue. -/
  change : Option Nat := none
  deriving DecidableEq, Repr

/-- An entry that a Tarn's or a Steward's translation cache holds (R254): of stage 1, or of stage 2 with its tenant and basin. -/
inductive XEnt where
  | s1 (e : S1Entry)
  | s2 (tenant basin : Nat) (r : Run)
  deriving DecidableEq, Repr

/-- A TABLE_SYNC at the Wellhead, its checks 1 and 2 passed (R252). -/
structure SyncReq where
  endpoint : Nat
  tid : Nat
  asid : Nat
  rangeUnit : Nat
  rangeLen : Nat
  tag : Nat
  entries : List S1Entry
  wellFormed : Bool
  deriving DecidableEq, Repr

/-- Work that needs an invalidation (R256): a sync, a CONTEXT_DESTROY, a BASIN_DESTROY. -/
inductive InvWork where
  | sync (r : SyncReq)
  | context (asid : Nat)
  | destroy (basin : Nat)
  deriving DecidableEq, Repr

/-- What the running command has taken away, for an L2 reset, at which it changes nothing (R270): a context with its stage-1 entries; a basin with the
sequences it closed, the versions it retired and their pins. -/
structure Undo where
  context : Option (Nat × Nat) := none
  s1 : List S1Entry := []
  basin : Option Nat := none
  seqs : List (Nat × Seq) := []
  versions : List (Nat × Nat × Version) := []
  pins : List Pin := []
  deriving DecidableEq, Repr

/-- A fill of a basin's units that its channel has not yet begun (R244): rows of a Pond, or 64 KiB units of a Spillway channel. -/
structure BasinFill where
  basin : Nat
  tenant : Nat
  unit : Nat
  first : Nat
  count : Nat
  deriving DecidableEq, Repr

/-- The Wellhead's translation state: the master tables. The replicas of the eight Mere translators are equal to them (R254). Log entry 99. -/
structure Xlat where
  tenants : Tbl (Option Tenant) := []
  /-- Tenant each endpoint is bound to (R242). -/
  bound : Tbl (Option Nat) := []
  /-- Tenant each ASID belongs to (R242). -/
  contexts : Tbl (Option Nat) := []
  s1 : List S1Entry := []
  basins : Tbl (Option Basin) := []
  invs : List Inv := []
  /-- The queue of 64 (R256), and a command for which it has no place. -/
  waiting : List InvWork := []
  cmdWait : Option InvWork := none
  nextInv : Nat := 0
  /-- CMDRES of the running command, taken when its invalidation is done, and what it would have to give back (R270). -/
  cmdRes : Nat := 0
  undo : Undo := {}
  /-- The caches of the Tarns and Stewards (R254), oldest entry first: Tarn t is 8 + t, Steward q is 108 + q. -/
  caches : Tbl (List XEnt) := []
  /-- Fills of new basins' units that wait for their channels (R244). -/
  fills : List BasinFill := []
  deriving DecidableEq, Repr

/-! ### Mere and Twin links (R271 to R305) -/

/-- A packet a link has to send or has sent and not yet seen acknowledged (R278, R292): its bytes (R307), class, whom it is for, and whether it is
a transaction's final response (R293). Endpoint 4,096 stands for the partner. -/
structure LinkPkt where
  op : String
  ep : Nat
  txn : Nat
  cls : Nat
  body : List Byte
  final : Bool
  resent : Bool
  /-- It is the response whose Data credits were reserved before the snoop (R357). -/
  reserved : Bool := false
  deriving DecidableEq, Repr

/-- A flit in the replay buffer (R278): its SEQ, FIRST_PKT, credit returns and payload (R275), and the packets that have their last slot in it. -/
structure HeldFlit where
  seq : Nat
  credit : Bool
  first : Nat := 15
  returns : List (Nat × Nat) := []
  payload : List Byte := []
  ends : List LinkPkt
  deriving DecidableEq, Repr

/-- What a CONTROL flit says (R288): its CTL code, and RANK, WIDTH, LANE_MASK, NEXT_SEQ and CREDIT where the code has them, else 0. -/
structure Ctl where
  code : Nat
  rank : Nat := 0
  width : Nat := 0
  mask : Nat := 0
  nextSeq : Nat := 0
  credit : List Nat := []
  deriving DecidableEq, Repr

/-- A link end beside its registers. `expect` is E, `oldest` is O; U is the length of `held` (R279, R281). -/
structure Link where
  expect : Nat := 0
  oldest : Nat := 0
  held : List HeldFlit := []
  /-- E for which a NAK has been sent (R279). -/
  nakFor : Option Nat := none
  /-- Flits accepted since the last flit sent (R280). -/
  unreported : Nat := 0
  /-- Replays in a row without O advancing (R282). -/
  replays : Nat := 0
  /-- No O has advanced since the last retrain (R290). -/
  fresh : Bool := false
  /-- Packets that wait for credits, in order by class (R283). -/
  queue : List LinkPkt := []
  /-- Class-1 credits reserved for responses whose snoops are out (R357). -/
  reserved : Nat := 0
  /-- The peer's advertisement, none before its CONFIG (R284). -/
  advert : List Nat := []
  /-- Credits to return to the peer, by class (R285). -/
  owed : List Nat := [0, 0, 0, 0, 0, 0]
  /-- Slots of the packet whose arrival has begun, and packets delivered and not yet taken (R277, R332). -/
  partSlots : List Byte := []
  delivered : List (List Byte) := []
  /-- Training from DETECT (R287), or the rank of the retrain in progress. -/
  full : Bool := false
  rank : Nat := 0
  /-- Own REQ sent and not answered, by rank (R289); this end's request proceeded. -/
  ownReq : Option Nat := none
  proceeded : Bool := false
  /-- Every lane is tested (R290 WIDEN, R291). -/
  testAll : Bool := false
  /-- Own passing lanes and the peer's, in TEST (R291). -/
  ownPass : Option Nat := none
  peerPass : Option Nat := none
  /-- The control flit that is repeated until it is answered (R288). -/
  ctl : Option Ctl := none
  /-- Management cycles of the retrains of the last window (R290). -/
  retrains : List Nat := []
  /-- Symbols corrected by lane, which no register shows (R273). -/
  corrected : Tbl Nat := []
  deriving DecidableEq, Repr

/-- A transaction received and not yet answered to its client, or answered by a packet that is not yet acknowledged (R293). -/
structure TxnRec where
  ep : Nat
  txn : Nat
  answered : Bool
  deriving DecidableEq, Repr

/-- The fabric side: link ends by number (8 is the Twin link), transaction records, and endpoints reported unreachable (R295). -/
structure Fabric where
  links : Tbl Link := []
  records : List TxnRec := []
  unreach : List Nat := []
  deriving DecidableEq, Repr

/-! ### The home directory (R340 to R368) -/

/-- States of a directory-cache entry (R343). -/
inductive DirSt where
  | i | s | sb | ex | exi
  deriving DecidableEq, Repr

/-- A directory-cache entry (R343): client pointers (in EX the owner), the internal agents that hold a copy, and when it was last used. BUSY
is a transaction on the line. -/
structure DirEntry where
  st : DirSt := .i
  ptrs : List Nat := []
  imask : Nat := 0
  used : Nat := 0
  deriving DecidableEq, Repr

/-- What the home serves (R348), and the recalls it makes for itself (R347). -/
inductive HomeOp where
  | rdShared | rdOwn | rdOnce | claim | wrFull | writeback | recall
  deriving DecidableEq, Repr

/-- A request at a home: its line, its client and transaction, the tenant and basin translation found, the payload of a write. A recall keeps
or discards returned data, and names one endpoint or every holder. -/
structure HomeReq where
  op : HomeOp
  pa : Nat
  ep : Nat := 0
  txn : Nat := 0
  port : Nat := 0
  tenant : Nat := 0
  basin : Nat := 0
  asid : Nat := 0
  va : Nat := 0
  poison : Bool := false
  data : List Byte := []
  keep : Bool := true
  only : Option Nat := none
  /-- The suspect unit's recall of this line has been made (R368). -/
  recalled : Bool := false
  deriving DecidableEq, Repr

/-- Snoops (R309). -/
inductive SnpKind where
  | inv | shared | fwd | recall
  deriving DecidableEq, Repr

/-- One snoop packet, to one alias of one client (R345, R346): its answer's STATUS and the FWD_DATA that came with it. -/
structure SnoopRec where
  txn : Nat
  ep : Nat
  asid : Nat
  va : Nat
  answer : Option Nat := none
  data : Option (Bool × List Byte) := none
  deriving DecidableEq, Repr

/-- A transaction in progress on a line (R350): the state it acts from, its snoops, the writebacks taken as snoop data (R361), whether its
grant waits for the client's acknowledgement, and the mirror writes it waits for (R437). -/
structure DirTxn where
  req : HomeReq
  st : DirSt
  ptrs : List Nat
  kind : SnpKind
  bcast : Bool
  snooped : List Nat
  snoops : List SnoopRec
  wbs : List (Nat × Nat × Bool × List Byte)
  granted : Bool
  mirrors : List Nat
  /-- The port on which Data credits are reserved for the response (R357). -/
  reserve : Option Nat := none
  /-- Every snoop is answered and the response is formed; what remains is an acknowledgement or a mirror write. -/
  closing : Bool
  deriving DecidableEq, Repr

/-- Why a sweep runs (R364, R365, R368). -/
inductive SweepKind where
  | death | release | takeover
  deriving DecidableEq, Repr

/-- A sweep of one basin for one endpoint. -/
structure Sweep where
  kind : SweepKind
  basin : Nat
  ep : Nat
  deriving DecidableEq, Repr

/-- The four homes: entries by line number, transactions, requests that wait in order of arrival, sharer sets by basin (R351), sweeps, the
cached maps of Mirrored basins and the units suspect after a takeover, as (basin, 64 KiB unit of the mapped part) (R367, R368). -/
structure Home where
  entries : Tbl DirEntry := []
  clock : Nat := 0
  txns : List DirTxn := []
  waiting : List HomeReq := []
  nextTxn : Nat := 1
  sharers : Tbl (List Nat) := []
  sweeps : List Sweep := []
  cached : List (Nat × Nat) := []
  suspects : List (Nat × Nat) := []
  /-- Cached-map units in which no copy was found at the last cycle boundary, and none granted since (R367). -/
  quiet : List (Nat × Nat) := []
  takeover : Bool := false
  /-- Lines whose entries a forced L2 reset lost, until firmware has run its recall (R499). -/
  forced : Option (List Nat) := none
  /-- Endpoint of the RELEASE command that runs (R365). -/
  releasing : Option Nat := none
  deriving DecidableEq, Repr

/-! ### Admission (R376 to R394) -/

/-- A TABLE_SYNC that has passed checks 1 and 2 of R252, or a request that has passed its checks, on its way through a scheduler (R378). -/
inductive Ingress where
  | home (r : HomeReq)
  | sync (r : SyncReq)
  | doorbell (ep txn port word : Nat)
  | bulkRead (ep txn port tenant tpa lines : Nat)
  | bulkWrite (ep txn port tenant tpa poison : Nat) (data : List Byte)
  deriving DecidableEq, Repr

/-- An item in a queue: its finish time, its length in packets, the receive credits it holds (R379, R380, R386). -/
structure QItem where
  f : Nat
  len : Nat
  credits : Nat
  act : Ingress
  deriving DecidableEq, Repr

/-- A queue of one key: tenant and class; class 0 at the bulk scheduler (R377). -/
structure SchedQ where
  tenant : Nat
  cls : Nat
  items : List QItem
  deriving DecidableEq, Repr

/-- A scheduler: its virtual time and its queues that hold items (R380). -/
structure Sched where
  v : Nat := 0
  queues : List SchedQ := []
  deriving DecidableEq, Repr

/-- A pair of token buckets in 1/1,024 of a packet, and the port time they were last filled (R385). -/
structure Bucket where
  c : Nat := 65536
  p : Nat := 131072
  seen : Nat := 0
  deriving DecidableEq, Repr

/-- Admission at one Mere port: its time in 1/1,024 µs, its two schedulers, whose turn it is (R382), its buckets by 2 · tenant + bulk. -/
structure Admission where
  now : Nat := 0
  req : Sched := {}
  bulk : Sched := {}
  bulkTurn : Bool := false
  buckets : Tbl Bucket := []
  deriving DecidableEq, Repr

/-! ### The Shallows mesh (R322 to R331) -/

/-- A reassembly entry (R328): the source's router, port and TID, the destination, PTOTAL, and the PSEQs received. -/
structure MeshTxn where
  sx : Nat
  sy : Nat
  sport : Nat
  tid : Nat
  dx : Nat
  dy : Nat
  dport : Nat
  total : Nat
  got : List Nat
  deriving DecidableEq, Repr

/-- A transaction in the mesh (R327, R331): its source and TID, its destination, PTOTAL, the PSEQs injected so far. While it stands the destination's
reservation is held and the TID is in use. -/
structure MeshRes where
  sx : Nat
  sy : Nat
  sport : Nat
  tid : Nat
  dx : Nat
  dy : Nat
  dport : Nat
  cls : Nat
  total : Nat
  sent : List Nat
  deriving DecidableEq, Repr

/-- Mesh state: reservations held and TIDs in use, reassembly entries, units that starve (R325), and by router (16 · Y + X) the link two-way choices took last (R324) and the port
whose injection is offered first (R323). -/
structure Mesh where
  inUse : List MeshRes := []
  txns : List MeshTxn := []
  starved : List (Nat × Nat × Nat) := []
  spray : Tbl Bool := []
  turn : Tbl Nat := []
  deriving DecidableEq, Repr

/-! ### The pair (R430 to R451) -/

/-- A packet to a fabric endpoint, before it is handed to a link (R307, R309). -/
structure PktOut where
  op : String
  cls : Nat
  ep : Nat
  txn : Nat
  status : Nat := 0
  args : List Nat := []
  poison : Nat := 0
  data : List Byte := []
  final : Bool := true
  /-- TENANT, and word 1 of the header where it is not 0 (R307, R308). -/
  tenant : Nat := 0
  word1 : Nat := 0
  /-- The response's Data credits were reserved before a snoop, on this port (R357). -/
  reserved : Option Nat := none
  deriving DecidableEq, Repr

/-- A mirror write in the mirror queue, until its MIRROR_ACK arrives (R434 to R438): the line's PA here and on the partner, and what is sent. -/
structure MirrorWrite where
  id : Nat
  pa : Nat
  shadow : Nat
  poison : Bool
  summary : Nat
  heat : Nat
  tag : Nat
  data : List Byte
  sent : Bool
  /-- It is no line but a synchronous change of control state, by name and arguments, and its CMP is what it waits for (R73, R253, R367, R434). -/
  ctl : Option (String × List Nat) := none
  deriving DecidableEq, Repr

/-- What waits for mirror writes to be performed (R436): a response packet, another output, a job's completion (job, status,
result), the response of the mailbox command that runs (tag, status, result), or the key command that runs. -/
structure HeldOut where
  needs : List Nat
  pkt : Option PktOut
  out : Option Out
  job : Option (Nat × Nat × Nat) := none
  mail : Option (Nat × Nat × Nat) := none
  /-- The key command that runs waits for it (R471). -/
  key : Bool := false
  deriving DecidableEq, Repr

/-- Pair state beside its registers. -/
structure Pair where
  /-- SIDE has been fixed since L1 (R430). -/
  sideFixed : Bool := false
  /-- The mirror queue, oldest first (R434), and what waits for its acknowledgements (R436). -/
  mirror : List MirrorWrite := []
  nextMirror : Nat := 0
  held : List HeldOut := []
  /-- 64 KiB units written while EXPOSED, by PA / 65,536 (R444). -/
  resync : List Nat := []
  /-- The partner has been EXPOSED: its shadows here are not to be trusted (R444). -/
  partnerExposed : Bool := false
  /-- FENCE_DELAY runs at side 1 (R445), and the fence has been asserted for 1 ms (R445). -/
  fenceWait : Bool := false
  fenceHeld : Bool := false
  /-- Both controllers have verified each other since L1, or the exchange has failed (R483), and the partner's encapsulation key from its report (R470). -/
  authed : Bool := false
  authTried : Bool := false
  partnerKek : List Byte := []
  /-- Management cycles since the last complete copy (R441), and the partner's control state as last copied (R439, R440). -/
  sinceCopy : Nat := 0
  copy : Copy := {}
  /-- Basins that a SWITCH_BACK is handing over (R451). -/
  switching : List Nat := []
  /-- Those of them whose sequence and region state has been sent, with the number of that change (R451). -/
  handing : List (Nat × Nat) := []
  /-- An ADMIT copies every line: the number of the first mirror write that is not of its copy (R450). -/
  admitting : Option Nat := none
  /-- Mirror writes of the partner that wait while its shadows are kept unchanged: header words, payload, and each line's SUMMARY and HEAT (R444). -/
  kept : List (Nat × Nat × List Byte × List (Nat × Nat)) := []
  /-- The last copy applied in this formation, and whether the partner has said goodbye in it (R440, R443). -/
  lastCopy : Option Nat := none
  goodbye : Bool := false
  deriving DecidableEq, Repr

/-! ### Blocks, sequences and published regions (R34 to R77) -/

/-- A block move in progress (R33, R226): block, new frame. -/
structure Move where
  blk : Nat
  dst : Nat
  deriving DecidableEq, Repr

/-- A frame no longer named by its block that jobs may still read: freed once they have completed (R33, R62, R72). -/
structure OldFrame where
  pa : Nat
  bytes : Nat
  waits : List Nat
  deriving DecidableEq, Repr

/-- Blocks by number, sequences and slot generations by slot, regions, pins, moves, frames that wait to be freed, heat reports. -/
structure Kv where
  blks : Tbl (Option KvBlk) := []
  nextBlk : Nat := 0
  seqs : Tbl (Option Seq) := []
  gens : Tbl Nat := []
  regions : List Region := []
  pins : List Pin := []
  moves : List Move := []
  old : List OldFrame := []
  /-- Sampled reads of blocks that their Steward has not yet taken (R223). -/
  reports : List Nat := []
  deriving DecidableEq, Repr

/-! ### Inlets and jobs (R158 to R192) -/

/-- A binding of an Inlet (R172): its image, and its roles as (quadrant, role). -/
structure Binding where
  prog : Nat
  roles : List (Nat × Nat)
  deriving DecidableEq, Repr

/-- An Inlet (R159, R162, R189). `aborts` are the slots an abort doorbell has named whose jobs have not started (R181). -/
structure Inlet where
  owner : Nat := 0
  tenant : Nat := 0
  asid : Nat := 0
  port : Nat := 0
  enable : Bool := false
  ringLog2 : Nat := 0
  slotLog2 : Nat := 0
  qos : Nat := 0
  ringVa : Nat := 0
  cplVa : Nat := 0
  tail : Nat := 0
  started : Nat := 0
  completed : Nat := 0
  aborts : List Nat := []
  bound : Option Binding := none
  deriving DecidableEq, Repr

/-- A descriptor header (R165). `partialOut` is FLAGS[2]. -/
structure Desc where
  opcode : Nat := 0
  notify : Bool := false
  ingestFirst : Bool := false
  partialOut : Bool := false
  region : Bool := false
  lines : Nat := 0
  tag : Nat := 0
  source : Nat := 0
  version : Nat := 0
  layer : Nat := 0
  gLog2 : Nat := 0
  scale : Nat := 0
  valExp : Int := 0
  outExp : Int := 0
  wdog : Nat := 0
  prog : Nat := 0
  outVa : Nat := 0
  outLen : Nat := 0
  ingestCount : Nat := 0
  notifyEp : Nat := 0
  notifyVal : Nat := 0
  deriving DecidableEq, Repr

/-- A slice of a decode job (R91, R174): quadrant, role, key-value head, blocks in position order; whether its partial, or its failed partial, has
been sent. -/
structure Slice where
  id : Nat
  quad : Nat
  role : Nat
  head : Nat
  blocks : List Nat
  sent : Bool := false
  deriving DecidableEq, Repr

/-- A merge of a decode job (R94, R175): quadrant, role, announced slices, slices counted as their records arrive, whether it is the final one, and
whether a failed partial was among them. -/
structure Merge where
  quad : Nat
  role : Nat
  announced : Nat
  count : Nat := 0
  final : Bool
  failed : Bool := false
  /-- It has forwarded its record or its failure, or completed the job. -/
  closed : Bool := false
  deriving DecidableEq, Repr

/-- Where a job stands. -/
inductive JobSt where
  /-- Its descriptor has been taken from the ring and is being validated (R164). -/
  | taken
  /-- A command that waits its turn in the Wellhead (R164). -/
  | command
  /-- Its ingest runs (R167). -/
  | ingest
  /-- It waits at the dispatcher for Tarn credits (R383). -/
  | waiting
  /-- Its slices run. -/
  | decode
  /-- It waits for the data plane to run again, to complete with JOB_RESET (R192). -/
  | reset
  deriving DecidableEq, Repr

/-- Program exception of a job: cause, slot, bundle (R157, R178), and the code that a TRAP raises it with (R154), which no record carries. -/
structure Exc where
  cause : Nat
  slot : Nat
  bundle : Nat
  code : Nat := 0
  deriving DecidableEq, Repr

/-- A job in flight (R158, R178, R182). `fails` are the failure statuses known (R183), `heads` the query heads poisoned and empty. -/
structure Job where
  id : Nat
  inlet : Nat
  slot : Nat
  engine : Nat
  number : Nat
  st : JobSt
  desc : Desc
  body : List Byte := []
  fails : List Nat := []
  committed : Nat := 0
  length : Nat := 0
  slices : List Slice := []
  merges : List Merge := []
  /-- Roles, as (quadrant, role), whose Tarn its start packet has reached, and those that have begun its first slice. -/
  arrived : List (Nat × Nat) := []
  started : List (Nat × Nat) := []
  /-- The format, head dimension code and heads of its source. -/
  fmt : Nat := 0
  hdim : Nat := 0
  heads : Nat := 0
  satTotal : Nat := 0
  spill : Nat := 0
  unchecked : Nat := 0
  blocks : Nat := 0
  exc : Option Exc := none
  poisonHeads : List Nat := []
  emptyHeads : List Nat := []
  /-- The blocks whose frames it reads as they were when it began (R33): block number and frame. -/
  frames : List (Nat × Nat) := []
  /-- Its decision point has passed (R182). -/
  decided : Bool := false
  /-- Number of the first mirror write it can have made (R436). -/
  mark : Nat := 0
  deriving DecidableEq, Repr

/-- A resident program image (R170, R171). -/
structure Image where
  id : Nat
  tenant : Nat
  code : List Byte
  worker : Nat
  merge : Nat
  final : Nat
  ingest : Nat
  formats : Nat
  hdims : Nat
  groups : Nat
  measure : List Byte := []
  signer : List Byte := []
  deriving DecidableEq, Repr

/-- One queue of Tarn dispatch, by tenant and class (R377, R380): finish times of its items, and the Inlets they come from with their counts, in the
order of the round robin (R382). -/
structure DispQ where
  tenant : Nat
  cls : Nat
  fs : List Nat
  inlets : List (Nat × Nat)
  deriving DecidableEq, Repr

/-- Tarn dispatch of one source: virtual time, queues, job sequence count (R175, R380). -/
structure Disp where
  v : Nat := 0
  queues : List DispQ := []
  jobs : Nat := 0
  deriving DecidableEq, Repr

/-- A partial record on its way to a merge Tarn (R94): the job, the quadrant of the merge, the record, its lines that carry the poison mark (R147), and for a
part of a record sent as several the number its parts share (R322). -/
structure Flight where
  job : Nat
  quad : Nat
  bytes : List Byte
  bad : List Nat := []
  group : Option Nat := none
  deriving DecidableEq, Repr

/-- A failed partial on its way (R105, R157): the slices it stands for, its failure status, the program exception it carries. -/
structure FailFlight where
  job : Nat
  quad : Nat
  slices : Nat
  status : Nat
  exc : Option Exc
  deriving DecidableEq, Repr

/-- The job unit: Inlets by number, jobs in flight in the order in which they were taken, tenant images, the nine dispatch sources, partials on
their way. -/
structure Jobs where
  inlets : Tbl Inlet := []
  jobs : List Job := []
  nextJob : Nat := 0
  images : List Image := []
  /-- Image of each role, by 32 · quadrant + role: 0x0001 unless a binding or the dispatcher has given it another (R172, R173). -/
  roleImg : Tbl Nat := []
  sources : Tbl Disp := []
  flights : List Flight := []
  fails : List FailFlight := []
  deriving DecidableEq, Repr

/-! ### Tarns (R78 to R116, R143 to R157) -/

/-- An accumulator tile (R78, R148). -/
structure Tile where
  qhead : Nat := 0
  slices : Nat := 0
  empty : Bool := true
  poison : Bool := false
  m : Int := -2097152
  sum : Nat := 0
  sat : Nat := 0
  acc : List Int := []
  deriving DecidableEq, Repr

/-- A stream descriptor (R149): KIND, the job whose memory it names, its base VA, COUNT, and the window. -/
structure SDesc where
  kind : Nat := 0
  base : Nat := 0
  count : Nat := 0
  offset : Nat := 0
  len : Nat := 0
  deriving DecidableEq, Repr

/-- What a start packet asks of a Tarn (R148, R167, R175): worker, merge, final merge or ingest. -/
inductive Role where
  | worker | merge | final | ingest
  deriving DecidableEq, Repr

/-- A held start packet (R112, R167, R175, R383): its source, job and role index, the slices it carries, whether its role merges, finally or not, and whether it
is an ingest's. -/
structure Held where
  source : Nat
  job : Nat
  role : Nat
  slices : List Nat
  merge : Option Bool
  ingest : Bool := false
  deriving DecidableEq, Repr

/-- A loop in progress (R155): first and last bundle of its body, passes left. -/
structure LoopRec where
  first : Nat
  last : Nat
  left : Nat
  deriving DecidableEq, Repr

/-- A stream transfer into block SRAM that has not completed (R146): the descriptor register, a block for a bank, or bytes from a VA for an address. -/
inductive Xfer where
  | block (s bank blk : Nat)
  | linear (s addr va len : Nat)
  deriving DecidableEq, Repr

/-- A bank's block (R80): block number, whether it counts as poisoned (R98), tokens read, and the passes over it that MACC has still to make (R91); with none
left the Tarn has finished it. -/
structure BankBlk where
  blk : Nat
  poisoned : Bool
  tokens : Nat
  left : Nat := 0
  deriving DecidableEq, Repr

/-- The program running on a Tarn: its work, the slice, bundle index, loops, tile count of the last MCLR, m_b of the last MSCORE by tile. -/
structure TRun where
  job : Nat
  role : Nat
  what : Role
  slice : Nat
  pc : Nat
  loops : List LoopRec := []
  tiles : Nat := 0
  mb : List (Option Int) := []
  /-- What MNORM or SWRT found for the completion record, by query head: saturations, poisoned, empty. -/
  report : List (Nat × Nat × Bool × Bool) := []
  /-- It has failed, with a status and a program exception, and waits for its outstanding transfers (R157). -/
  failing : Option (Nat × Option Exc) := none
  deriving DecidableEq, Repr

/-- A partial at a merge Tarn's receive ring (R94, R150): the job, its record's bytes, its poisoned lines, and the slices it counted for on arrival. -/
structure RingRec where
  job : Nat
  bytes : List Byte
  bad : List Nat := []
  weight : Nat := 0
  deriving DecidableEq, Repr

/-- A Tarn beside its registers. -/
structure Tarn where
  /-- Start packets held, oldest first. -/
  queue : List Held := []
  /-- The jobs it has begun, one a role at most, with the work left (R107). -/
  active : List Held := []
  /-- Role whose slice ran last (R107). -/
  lastRole : Nat := 31
  /-- Source served last, for the round robin (R384). -/
  turn : Nat := 8
  run : Option TRun := none
  t : Tbl Nat := []
  v : Tbl Nat := []
  a : List Tile := []
  s : Tbl SDesc := []
  sram : List Host.Cell := []
  /-- Poison flag per 64 B line of block SRAM (R147). -/
  flags : List Nat := []
  bank0 : Option BankBlk := none
  bank1 : Option BankBlk := none
  xfers : List Xfer := []
  ring : List RingRec := []
  /-- Images of the Tarn's roles (R106, R107): role and image. -/
  progs : List (Nat × Nat) := []
  /-- A role's image that is being loaded (R106): role and image. -/
  loading : List (Nat × Nat) := []
  /-- It left an L3 reset while faulted, and its self-tests run (R108). -/
  testing : Bool := false
  /-- It has been in a reset, and ENABLE returns to 1 once its images are loaded again (R116). -/
  back : Bool := false
  /-- A self-test has failed: it stays out of service until L1 (R108). -/
  broken : Bool := false
  deriving DecidableEq, Repr

/-! ### Control cores (R118 to R142) -/

/-- A hierarchy message on its way: its sender, its destination, its 64 bytes (R137, R138). -/
structure HMsg where
  src : Nat
  dst : Nat
  body : List Byte
  deriving DecidableEq, Repr

/-- Where a core stands (R136, R142, R557). -/
inductive CoreSt where
  | held | running | wfi | mwait | stopped
  deriving DecidableEq, Repr

/-- A Chotaum-W core (R118, R133): general registers, pc, control registers, queues (R141). `irq` are the pending interrupts 3 to 5; those of the timer and the
receive queue follow from CYCLE and the queue. `mcycle` is a Steward's, carried by its last heartbeat. `sram` is a Steward's own. `stores` are the mirror
writes its pool stores have made, for FENCE.RW (R126). -/
structure WCore where
  x : Tbl Nat := []
  pc : Nat := 0x70000000
  st : CoreSt := .held
  status : Nat := 0
  estatus : Nat := 0
  epc : Nat := 0
  ecause : Nat := 0
  eval : Nat := 0
  evec : Nat := 0x70000100
  ie : Nat := 0
  irq : Nat := 0
  tcmp : Nat := 2 ^ 64 - 1
  scratch : Nat := 0
  kslot : Nat := 256
  cycle : Nat := 0
  instret : Nat := 0
  mcycle : Nat := 0
  sendq : List (Nat × List Byte) := []
  recvq : List (List Byte) := []
  sram : List Host.Cell := []
  stores : List Nat := []
  deriving DecidableEq, Repr

/-- A core after L0 or L1: core 0 starts in the boot ROM, every other is held (R142); a core's number is 0 to 3 for the Wellhead's, 4 to 7 for the Stewards'.
Of the others the manual gives no first pc: a Wellhead core 1 to 3 takes the boot ROM's, as core 0, a Steward the start of its SRAM. DESIGN CHOICE, log
entry 45. -/
def coreReset (i : Nat) : WCore := if i = 0 then { st := .running } else if i < 4 then {} else { pc := 0 }

/-! ### Security block (R465 to R486) and the SPI flash (R583) -/

/-- A key slot (R465): FULL or EMPTY, its generation, and the 64 key bytes (Key1, Key2). No register or bus reads the key. -/
structure KeySlot where
  full : Bool := false
  gen : Nat := 0
  key : List Byte := []
  deriving DecidableEq, Repr

/-- The security block beside its registers. `kek` numbers the KEK in force (R467); `next` and `limit` bound the identity's indices in its chunk (R476,
R477); `burning` is the chunk whose fuse pulse is being driven (R497); `opening` counts the steps of the debug-open sequence done (R485); `seeds` are the
identity's secret seeds, not yet zeroised. -/
structure Sec where
  slots : Tbl KeySlot := []
  kek : Nat := 0
  next : Nat := 0
  limit : Nat := 0
  burning : Option Nat := none
  /-- The pulse being driven is one of the SVN fuses (R474). -/
  pulseSvn : Bool := false
  opening : Nat := 0
  seeds : Bool := true
  deriving DecidableEq, Repr

/-- The external SPI flash: the ID_STATE record's chunk and NEXT, none while no valid record is found (R476); the boot control record (R583); the two firmware
slots. The repair list stands in Ras. -/
structure Flash where
  idState : Option (Nat × Nat) := none
  magicOk : Bool := false
  preferred : Nat := 0
  lastSlot : Nat := 0
  slot0 : List Byte := []
  slot1 : List Byte := []
  deriving DecidableEq, Repr

/-- A counter half latched by a 32-bit read (R9): the requester, the register, bits [63:32]. -/
structure Latch where
  requester : Nat
  off : Nat
  hi : Nat
  deriving DecidableEq, Repr

/-- The state of the block. -/
structure State where
  /-- The commands that are waiting, first in, first out. The model's own queue (one sender's order). -/
  pending : List Instr
  /-- The registers of BAR0 by offset (R8); an unlisted register holds its Reset value. -/
  regs : Tbl (BitVec 64)
  /-- Counter halves latched and not yet read (R9). -/
  latches : List Latch
  /-- The pool: fast tier and Spillway (R193, R214). -/
  pool : Pool
  /-- Channel controllers by number: Ponds 0 to 383, Spillway 384 to 395. -/
  chans : Tbl Chan
  /-- Tenants, basins and translation tables. -/
  xlat : Xlat
  /-- Mere and Twin links, transaction records. -/
  fab : Fabric
  /-- The pair: mirror queue, resync map, control-state copies. -/
  pair : Pair
  /-- Key-value blocks, sequences and regions. -/
  kv : Kv
  /-- Inlets, jobs, images, dispatch. -/
  jobs : Jobs
  /-- Tarns by number. -/
  tarns : Tbl Tarn
  /-- Hierarchy messages of agents on their way to a core (R141). -/
  msgs : List HMsg
  /-- Control cores by number. -/
  cores : Tbl WCore
  /-- The shared Wellhead SRAM (R125). -/
  wsram : List Host.Cell
  /-- The homes' directories. -/
  home : Home
  /-- Admission at the Mere ports, by port. -/
  ports : Tbl Admission
  /-- The Shallows mesh. -/
  mesh : Mesh
  /-- Data protection state beside its registers. -/
  ras : Ras
  /-- Security block. -/
  sec : Sec
  /-- The external SPI flash. -/
  flash : Flash
  /-- Management plane. -/
  mgmt : Mgmt
  /-- Reset state of the always-on island. -/
  rst : Rst
  /-- Clock state. -/
  clk : Clk
  /-- Power-cap loop. -/
  pwr : Pwr
  /-- The fuse array as it is burned. -/
  fuses : Fuses
  /-- The fuse shadow (R14, R492). -/
  shadow : Fuses
  /-- What the block has sent, oldest first. The model's own record. -/
  out : List Out
  /-- Number of the next free value. The model's own counter. -/
  fresh : Nat
  deriving DecidableEq, Repr

/-- Why a step stops with a fault. No command of this block does: every error of the manual is a bit, a status or an event, and the block goes on. -/
inductive Fault where
  /-- Raised by no meaning, and so safe: it is here because the type must have a constructor. -/
  | neverRaised
  deriving DecidableEq, Repr

/-- Why a step has no meaning. -/
inductive Refusal where
  /-- A command of the table whose meaning the model does not give: raised by its arm of exec alone, safe, since no statement is made of it. -/
  | notModelled (mnemonic : String)
  deriving DecidableEq, Repr

/-- The state right after reset: every register at its Reset value, every table empty, nothing waiting (R14, R492, R580). Where the manual gives no
value the log names the one taken here. -/
def State.reset : State where
  pending := []
  regs := []
  latches := []
  pool := { cells := [], side := [], fills := [] }
  chans := []
  xlat := {}
  fab := {}
  pair := {}
  kv := {}
  jobs := {}
  tarns := []
  msgs := []
  cores := []
  wsram := []
  home := {}
  ports := []
  mesh := {}
  ras := {}
  sec := {}
  flash := {}
  mgmt := {}
  rst := {}
  clk := {}
  pwr := {}
  fuses := {}
  shadow := {}
  out := []
  fresh := 0

end Sys2Proof.Machine
end

