-- ==== Sys2Proof/Machine/Ops.lean ====
section
/-!
DEFINITION. The named operations over the registers of BAR0: reading and writing a register or a field, counters, locks (R8 to R14).
-/
namespace Sys2Proof.Machine

/-- What a command answers. -/
abbrev Answer := Host.Outcome State Fault Refusal

/-- The register at a BAR0 offset. -/
def State.reg (s : State) (off : Nat) : BitVec 64 := Tbl.get regReset s.regs off

/-- Set the register at an offset. -/
def State.setReg (s : State) (off : Nat) (v : BitVec 64) : State :=
  { s with regs := Tbl.set regReset s.regs off v }

/-- A field of a register. -/
def State.get (s : State) (off : Nat) (f : Fld) : Nat := bitsOf (s.reg off).toNat f.lo f.w

/-- Set a field of a register (mod its width). -/
def State.put (s : State) (off : Nat) (f : Fld) (v : Nat) : State :=
  s.setReg off (BitVec.ofNat 64 (setBits (s.reg off).toNat f.lo f.w v))

/-- Whether a field is non-zero. -/
def State.flag (s : State) (off : Nat) (f : Fld) : Bool := s.get off f != 0

/-- Set or clear a one-bit field. -/
def State.putFlag (s : State) (off : Nat) (f : Fld) (b : Bool) : State := s.put off f (if b then 1 else 0)

/-- Add to a counter: one 64-bit field that wraps at 2^64 (R115 and its like). -/
def State.bump (s : State) (off : Nat) (n : Nat := 1) : State :=
  s.setReg off (s.reg off + BitVec.ofNat 64 n)

/-- Add to a saturating field. -/
def State.bumpSat (s : State) (off : Nat) (f : Fld) (n : Nat := 1) : State :=
  s.put off f (satAdd (s.get off f) n (2 ^ f.w - 1))

/-- Return the registers whose offset satisfies `p` to their Reset values. -/
def State.clearRegs (s : State) (p : Nat → Bool) : State := { s with regs := Tbl.clear s.regs p }

/-- Whether the RWL fields of the block at an offset are fixed (R12). -/
def State.locked (s : State) (off : Nat) : Bool :=
  match locate off with
  | none => false
  | some (b, n, _) =>
    match lockOf b n with
    | none => false
    | some (lo, f) => s.flag lo f

/-- A core: 0 to 3 the Wellhead's, 4 to 7 the Stewards'. -/
def State.core (s : State) (i : Nat) : WCore := Tbl.get coreReset s.cores i
def State.setCore (s : State) (i : Nat) (c : WCore) : State := { s with cores := Tbl.set coreReset s.cores i c }

/-- Append to the record of what the block has sent. -/
def State.send (s : State) (o : Out) : State := { s with out := s.out ++ [o] }

/-- Take the next number for a free value. -/
def State.tick (s : State) : State := { s with fresh := s.fresh + 1 }

/-- Take `n` numbers for free values. -/
def State.ticks (s : State) (n : Nat) : State := { s with fresh := s.fresh + n }

/-- Block-field write of one access (R10, R12): `mask` has a 1 in every bit the access covers, `raw` the written bits in place. A field
with a row of its own, one outside its range, and a locked RWL field keep their value. -/
def writeFld (locked : Bool) (old mask raw : Nat) (f : Fld) (acc : Nat) : Nat :=
  let m := bitsOf mask f.lo f.w
  let o := bitsOf old f.lo f.w
  let merged := (bitsOf raw f.lo f.w &&& m) ||| (o &&& (2 ^ f.w - 1 - m))
  let inRange := match f.rng with
    | none => true
    | some (a, b) => a ≤ merged && merged ≤ b
  if f.own || m = 0 then acc
  else match f.acc with
    | .rw => if inRange then setBits acc f.lo f.w merged else acc
    | .rwl => if locked || !inRange then acc else setBits acc f.lo f.w merged
    | .w1s => setBits acc f.lo f.w (o ||| (bitsOf raw f.lo f.w &&& m))
    | .ro => acc
    | .w1c => acc
    | .wo => acc

/-- The bits an aligned access of `size` bytes at `addr` covers, and its value moved into place (R8). -/
def accessMask (addr size : Nat) : Nat :=
  if size = 8 then 2 ^ 64 - 1 else if addr / 4 % 2 = 0 then 2 ^ 32 - 1 else (2 ^ 32 - 1) * 2 ^ 32

def accessRaw (addr size v : Nat) : Nat :=
  if size = 8 then v % 2 ^ 64 else if addr / 4 % 2 = 0 then v % 2 ^ 32 else v % 2 ^ 32 * 2 ^ 32

/-- Whether an access has a size and alignment the controller accepts (R8). -/
def accessOk (addr size : Nat) : Bool := (size == 4 && addr % 4 == 0) || (size == 8 && addr % 8 == 0)

/-- The register after a generic write: each of its fields takes effect by its access code (R10). -/
def State.writeReg (s : State) (addr size v : Nat) : State :=
  let off := addr / 8 * 8
  let old := (s.reg off).toNat
  let new := (fieldsAt off).foldl (fun a f => writeFld (s.locked off) old (accessMask addr size) (accessRaw addr size v) f a) old
  s.setReg off (BitVec.ofNat 64 new)

/-- Whether an offset holds a counter of the counter tables (R9). -/
def isCounter (off : Nat) : Bool := (fieldsAt off).any (fun f => f == F.COUNT || f == F.QOS_TCNT_COUNT)

/-- Release the counter latch a requester holds on a register (R9). -/
def State.release (s : State) (off : Nat) : State :=
  { s with latches := s.latches.filter (fun l => l.off != off) }

end Sys2Proof.Machine
end

