-- ==== Sys2Proof/Machine/Pool.lean ====
section
/-!
DEFINITION. The pool's memory as data: address decoding (R194, R214), fills (R211), and the canonical form that every write keeps.
-/
namespace Sys2Proof.Machine

/-- λ: the line number within the pseudo-channel (R194). -/
def lam (pa : Nat) : Nat := bitsOf pa 12 24
def fastStack (pa : Nat) : Nat := bitsOf pa 36 4
def fastChannel (pa : Nat) : Nat := bitsOf pa 7 5 ^^^ bitsOf pa 12 5
def fastPc (pa : Nat) : Nat := bitsOf pa 6 1
def fastLine (pa : Nat) : Nat := bitsOf (lam pa) 0 4
def fastBank (pa : Nat) : Nat := bitsOf (lam pa) 4 4 ^^^ bitsOf (lam pa) 8 4
def fastRow (pa : Nat) : Nat := bitsOf (lam pa) 8 16

/-- First address past the fast tier, and first address of Spillway (R194, R214). -/
def fastTop : Nat := 0xC000000000
def spillBase : Nat := 0x100000000000

/-- Spillway channel and offset within it (R214). -/
def spillChan (pa : Nat) : Nat := bitsOf (pa - spillBase) 40 4
def spillOff (pa : Nat) : Nat := bitsOf (pa - spillBase) 0 40

/-- The channel controller a PA names: POND[i] is i, SPILL[j] is 384 + j; none where no memory is (R194, R196, R214). -/
def unitOf (pa : Nat) : Option Nat :=
  if pa < fastTop then some (fastStack pa * 32 + fastChannel pa)
  else if pa < spillBase then none
  else if pa < spillBase + 12 * 2 ^ 40 then some (384 + spillChan pa)
  else none

/-- The quadrant of a line's home (R340). -/
def homeOf (pa : Nat) : Nat := if pa < fastTop then fastStack pa / 3 else spillChan pa / 3

/-- Rows 61,440 and up are the distributed spare (R195). -/
def isSpare (pa : Nat) : Bool := pa < fastTop && 61440 ≤ fastRow pa

/-- The bank and row of a line for the tables of its channel: under R194, or in Spillway as the channel controller's hash places its pair (R402), in one of 16
banks. Log entry 31. -/
def bankOf (pa : Nat) : Nat := if pa < fastTop then fastBank pa else Config.spillBank (spillOff pa / 128) % 16
def rowOf (pa : Nat) : Nat := if pa < fastTop then fastRow pa else Config.spillRow (spillOff pa / 128)
def pcOf (pa : Nat) : Nat := bitsOf pa 6 1

/-- Member position `i` of a run holds this many of its units (R249). -/
def Run.share (r : Run) (i : Nat) : Nat :=
  if r.striped then (r.len + 10) / 11 else (r.len + r.set.length - 1 - i) / r.set.length

/-- The member a PA lies in and its unit offset there, for units of `u` bytes. -/
def memberOf (u pa : Nat) : Nat × Nat :=
  if pa < fastTop then (fastStack pa, bitsOf pa 0 36 / u) else (384 + spillChan pa, spillOff pa / u)

/-- The member position and row of a run that a PA lies in (R249). -/
def Run.locate (r : Run) (u pa : Nat) : Option (Nat × Nat) :=
  let (m, o) := memberOf u pa
  match r.set.findIdx? (· == m) with
  | none => none
  | some i => if r.base ≤ o ∧ o < r.base + r.share i then some (i, o - r.base) else none

/-- Whether a fill covers the line at a PA. -/
def Fill.covers (f : Fill) (pa : Nat) : Bool :=
  match f.range with
  | .rows i first count mask =>
    unitOf pa == some i && bitOf mask (fastPc pa) && first ≤ fastRow pa && fastRow pa < first + count
  | .chunks j first count => unitOf pa == some (384 + j) && first ≤ spillOff pa / 65536 && spillOff pa / 65536 < first + count
  | .run r u => (unitOf pa).isSome && (r.locate u pa).isSome

/-- Base address of a member (R249). -/
def memberBase (m : Nat) : Nat := if m < 384 then m * 2 ^ 36 else spillBase + (m - 384) * 2 ^ 40

/-- PA of unit `n` of a run that is not striped (R249). -/
def Run.unitPa (r : Run) (u n : Nat) : Nat :=
  memberBase (r.set.getD (n % r.set.length) 0) + (r.base + n / r.set.length) * u

/-- PA of byte `b` of a striped run, counted from its first TPA byte (R412). -/
def Run.stripePa (r : Run) (u b : Nat) : Nat :=
  let g := b / (11 * u)
  let b := b % (11 * u)
  let k := b / 4096
  let s := k / 11
  let j := k % 11
  (s % 12 + 1 + j) % 12 * 2 ^ 36 + (r.base + g) * u + s * 4096 + b % 4096

/-- PA of the parity line of the stripe line at offset `o` of a stack within a striped run (R412). -/
def stripeParity (base u o : Nat) : Nat := ((o - base * u) % u / 4096) % 12 * 2 ^ 36 + o

/-- The newest fill that covers a PA. -/
def lastFill (fills : List Fill) (pa : Nat) : Option Fill := fills.find? (fun f => f.covers pa)

/-- What an unlisted byte reads as: its fill's pattern (R211); 0 where no fill has run, in a line whose check code is not valid. Log entry 19. -/
def bgByte (fills : List Fill) (a : Nat) : Byte :=
  match lastFill fills a with
  | some f => BitVec.ofNat 8 (f.pattern / 2 ^ (8 * (a % 8)))
  | none => 0

/-- The side storage of an unlisted line: as its fill left it (R211), or no valid check code (R399). The key is the line number PA / 64. -/
def bgSide (fills : List Fill) (l : Nat) : Side :=
  match lastFill fills (64 * l) with
  | some f => { tag := f.tag, valid := f.valid, kslot := f.kslot, kgen := f.kgen }
  | none => {}

def Pool.byte (p : Pool) (a : Nat) : Byte := Tbl.get (bgByte p.fills) p.cells a

def Pool.setByte (p : Pool) (a : Nat) (b : Byte) : Pool := { p with cells := Tbl.set (bgByte p.fills) p.cells a b }

/-- `n` bytes from address `a`, lowest first (R7). -/
def Pool.bytes (p : Pool) (a : Nat) : Nat → List Byte
  | 0 => []
  | n + 1 => p.byte a :: Pool.bytes p (a + 1) n

def Pool.writeBytes (p : Pool) (a : Nat) : List Byte → Pool
  | [] => p
  | b :: t => Pool.writeBytes (p.setByte a b) (a + 1) t

def Pool.line (p : Pool) (pa : Nat) : Side := Tbl.get (bgSide p.fills) p.side (pa / 64)

def Pool.setLine (p : Pool) (pa : Nat) (x : Side) : Pool := { p with side := Tbl.set (bgSide p.fills) p.side (pa / 64) x }

/-- Run a fill: every byte and line it covers takes the fill's contents (R211). -/
def Pool.fill (p : Pool) (f : Fill) : Pool :=
  { cells := Tbl.clear p.cells (fun a => f.covers a),
    side := Tbl.clear p.side (fun l => f.covers (64 * l)),
    fills := f :: p.fills }

/-- The pool's canonical form: both tables in theirs. -/
def Pool.wf (p : Pool) : Bool := Tbl.wf (bgByte p.fills) p.cells && Tbl.wf (bgSide p.fills) p.side

/-- A whole or partial write of stored lines by a control core, with no tag check (R262): the bytes, a valid check code, and the key the
data is under. The tag, summary and heat of a line that was valid are kept. -/
def Pool.sysWrite (p : Pool) (a : Nat) (bs : List Byte) (kslot kgen : Nat) : Pool :=
  let q := p.writeBytes a bs
  (List.range (bs.length / 64 + 2)).foldl (fun q i =>
    let la := a / 64 * 64 + 64 * i
    if la < a + bs.length then
      q.setLine la { q.line la with poison := false, valid := true, kslot := kslot, kgen := kgen }
    else q) q

/-! ### Clock islands (R22, R507) -/

/-- Islands: 0 to 99 Tarns, 100 to 483 Ponds, 484 to 487 Shallows, 488 to 495 Mere ports, 496 Twin link, 497 to 508 Spillway channels, 509 Wellhead, 510 to 513
Stewards, 514 PCI Express interface, 515 security block, 516 always-on island. -/
def twinIsland : Nat := 496
def wellIsland : Nat := 509
def secIsland : Nat := 515
def chIsland (u : Nat) : Nat := if u < 384 then 100 + u else 113 + u
def portIsland (n : Nat) : Nat := 488 + n
def coreIsland (i : Nat) : Nat := if i < 4 then wellIsland else 506 + i

/-- An island's clock has stopped: it waits, and what is addressed to it meets handshakes that do not complete (R507). -/
def State.islandStopped (s : State) (i : Nat) : Bool := Tbl.get (fun _ => false) s.clk.stopped i

/-! ### Channel controllers: POND[i] is i, SPILL[j] is 384 + j -/

def State.chan (s : State) (u : Nat) : Chan := Tbl.get (fun _ => {}) s.chans u
def State.setChan (s : State) (u : Nat) (c : Chan) : State := { s with chans := Tbl.set (fun _ => {}) s.chans u c }
def State.updChan (s : State) (u : Nat) (f : Chan → Chan) : State := s.setChan u (f (s.chan u))
/-- Counter `i` of R235 of channel controller u. -/
def chCnt (u i : Nat) : Nat := (if u < 384 then R.POND_BASE u else R.SPILL_BASE (u - 384)) + 0x100 + 8 * i

/-- A line is served from a row of a channel: the row command is for a command slot to issue (R198). -/
def State.noteRow (s : State) (u la : Nat) : State := s.updChan u (fun (c : Chan) => { c with rows := c.rows ++ [(pcOf la, la)] })

/-- The channel of a line has written it (R235). -/
def State.wrote (s : State) (pa : Nat) : State :=
  match unitOf pa with
  | none => s
  | some u => (s.bump (chCnt u 1)).noteRow u (pa / 64 * 64)

/-! ### Key slots (R465, R466) -/

/-- A slot that nothing has changed since its reset: tenant slots EMPTY with GEN 0, system slots FULL with a key drawn at L0 or L1 (R465). -/
def slotReset (k : Nat) : KeySlot := { full := 256 ≤ k && k < 264, gen := 0, key := [] }

def State.slot (s : State) (k : Nat) : KeySlot := Tbl.get slotReset s.sec.slots k
def State.slotGen (s : State) (k : Nat) : Nat := (s.slot k).gen
def State.slotFull (s : State) (k : Nat) : Bool := (s.slot k).full

end Sys2Proof.Machine
end

