-- ==== Sys2Proof/Machine/Flags.lean ====
section
/-!
DEFINITION. Error bits, interrupts, alarms and event records: how a block's error register raises its MSI-X vector (R531, R532) and its
alarm (R545), and how an event record reaches the node host (R539, R540). A block's flags are these bits.
-/
namespace Sys2Proof.Machine

def zeros (n : Nat) : List Byte := List.replicate n 0
/-- Pad or cut bytes to a length. -/
def padTo (n : Nat) (b : List Byte) : List Byte := (b ++ zeros n).take n

/-- The vector of the error register at an offset (R531); POND_ERR and SPILL_ERR have none. -/
def vectorOf (off : Nat) : Option Nat :=
  match locate off with
  | some (.well, _, _) => some 2
  | some (.glob, _, _) => some 2
  | some (.clk, _, _) => some 3
  | some (.pwr, _, _) => some 4
  | some (.sec, _, _) => some 5
  | some (.ras, _, _) => some 6
  | some (.shal, _, _) => some 7
  | some (.mere, n, _) => some (if n = 8 then 16 else 8 + n)
  | some (.pair, _, _) => some 16
  | some (.xlat, _, _) => some 17
  | some (.dir, _, _) => some 18
  | some (.qos, _, _) => some 19
  | some (.job, _, _) => some 20
  | some (.tarn, n, _) => some (21 + n / 25)
  | some (.mgmt, _, _) => some 25
  | _ => none

/-- The error registers that are a vector's sources; each one's mask register follows it (R531). -/
def vectorSources (v : Nat) : List Nat :=
  if v = 2 then [R.WELL_ERR]
  else if v = 3 then [R.CLK_ERR]
  else if v = 4 then [R.PWR_ERR]
  else if v = 5 then [R.SEC_ERR]
  else if v = 6 then [R.RAS_ERR]
  else if v = 7 then [R.SHAL_ERR]
  else if v < 8 then []
  else if v < 16 then [R.MERE_ERR (v - 8)]
  else if v = 16 then [R.MERE_ERR 8, R.PAIR_ERR]
  else if v = 17 then [R.XLAT_ERR]
  else if v = 18 then [R.DIR_ERR]
  else if v = 19 then [R.QOS_ERR]
  else if v = 20 then [R.JOB_ERR]
  else if v < 25 then (List.range 25).map (fun k => R.TARN_ERR (25 * (v - 21) + k))
  else if v = 25 then [R.MGMT_ERR]
  else []

/-- A vector's condition: a source holds a bit that is 1 in the error register and 1 in its mask; GLOB_STATUS.FATAL for vector 2 and the LOST
bits for vector 4 are sources with no mask (R532). -/
def State.condition (s : State) (v : Nat) : Bool :=
  (vectorSources v).any (fun off => (s.reg off &&& s.reg (off + 8)) != 0)
    || (v == 2 && s.flag R.GLOB_STATUS F.GLOB_STATUS_FATAL)
    || (v == 4 && (s.flag R.PWR_FEED_STATUS F.PWR_FEED_STATUS_A_LOST || s.flag R.PWR_FEED_STATUS F.PWR_FEED_STATUS_B_LOST))

/-- Send a vector's message: a masked vector sets its pending bit in its place (R532). -/
def State.interrupt (s : State) (v : Nat) : State :=
  if s.flag (R.GLOB_BASE + 0x8008 + 16 * v) F.MSIX_MASK then
    s.setReg (R.GLOB_BASE + 0x9000) (s.reg (R.GLOB_BASE + 0x9000) ||| BitVec.ofNat 64 (2 ^ v))
  else s.send (.msix v)

/-- Send the message when a change has made the condition true (R532). -/
def State.interruptIf (before after : State) (v : Nat) : State :=
  if !before.condition v && after.condition v then after.interrupt v else after

/-- BAR2 offset to pool physical address: the system area of stack 2 (R409, R529). -/
def bar2 (o : Nat) : Nat := 2 * 2 ^ 36 + 0xEF0000000 + o

/-- The 64 bytes of an event record with its PHASE bit (R539). -/
def EvRec.bytes (r : EvRec) (phase : Nat) : List Byte :=
  leBytes r.kind 1 ++ leBytes phase 1 ++ leBytes r.code 2 ++ leBytes r.count 4 ++ leBytes r.mcycle 8 ++ leBytes 0 16
    ++ (r.body ++ leBytes 0 32).take 32

/-- Write a record into the event ring at TAIL and send vector 1 (R533, R539). -/
def State.ringEvent (s : State) (r : EvRec) : State :=
  let tail := s.get R.MGMT_EVT_PTR F.MGMT_EVT_PTR_TAIL
  let a := bar2 (0x2006000 + 64 * (tail % 4096))
  let s := { s with pool := s.pool.sysWrite a (r.bytes (1 - tail / 4096 % 2)) 256 (s.slotGen 256),
                    mgmt := { s.mgmt with unread := s.mgmt.unread ++ [r] } }
  ((s.wrote a).put R.MGMT_EVT_PTR F.MGMT_EVT_PTR_TAIL (tail + 1)).interrupt 1

/-- HELD and EVT_HELD follow the records held (R540). -/
def State.showHeld (s : State) : State :=
  (s.putFlag R.MGMT_STATUS F.MGMT_STATUS_EVT_HELD (s.mgmt.held != [])).put R.MGMT_STATUS F.MGMT_STATUS_HELD s.mgmt.held.length

/-- Raise interrupt `code` in a core (R135). -/
def State.raiseIrq (s : State) (i code : Nat) : State :=
  let c := s.core i
  s.setCore i { c with irq := c.irq ||| 2 ^ code }

/-- Raise an interrupt in every Wellhead core (R135). -/
def State.raiseWell (s : State) (code : Nat) : State := [0, 1, 2, 3].foldl (fun s i => s.raiseIrq i code) s

/-- The core of the Steward of a quadrant. -/
def stewardCore (q : Nat) : Nat := 4 + q

/-- The quadrant whose Steward takes the interrupt of the error register at an offset: a Pond's or a Spillway channel's (R231, R239). -/
def stewardOf (off : Nat) : Option Nat :=
  match locate off with
  | some (.pond, n, _) => some (n / 96)
  | some (.spill, n, _) => some (n / 3)
  | _ => none

/-- Set bits of an error register: the vector's message when its condition becomes true; of a channel controller, whose mask has the bit, the unit interrupt to
the quadrant's Steward (R231). No alarm. -/
def State.setErrOnly (s : State) (off : Nat) (f : Fld) (v : Nat := 1) : State :=
  let b := BitVec.ofNat 64 (v * 2 ^ f.lo)
  let t := s.setReg off (s.reg off ||| b)
  match vectorOf off with
  | none =>
    match stewardOf off with
    | some q => if s.reg (off + 8) &&& b ≠ 0 then t.raiseIrq (stewardCore q) 3 else t
    | none => t
  | some vec => State.interruptIf s t vec

/-- An event record is written, or held while the ring holds 4,096 unread records or the mailbox is not enabled (R540, R530). -/
def State.writeEvent (s : State) (r : EvRec) : State :=
  if s.flag R.MGMT_CTRL F.MGMT_CTRL_MBX_EN && s.mgmt.held == [] && s.mgmt.unread.length < 4096 then s.ringEvent r
  else
    let t := State.showHeld { s with mgmt := { s.mgmt with held := s.mgmt.held ++ [r] } }
    if 4096 ≤ s.mgmt.unread.length then t.setErrOnly R.MGMT_ERR F.MGMT_ERR_EVT_HELD else t

/-- Move held records into the ring while it has room (R540); `fuel` bounds the moves. -/
def State.drainHeld (s : State) : Nat → State
  | 0 => s
  | n + 1 =>
    match s.mgmt.held with
    | [] => s
    | r :: t =>
      if s.flag R.MGMT_CTRL F.MGMT_CTRL_MBX_EN && s.mgmt.unread.length < 4096 then
        State.drainHeld (State.showHeld (State.ringEvent { s with mgmt := { s.mgmt with held := t } } r)) n
      else s

/-- The alarms' bits (R545). -/
inductive Alarm where
  | stewardLost | coreStop | tarnFault | pondFault | spillFault | stackDegraded | tripleLost | linkBroken | twinLost | clientDead
  | feedLost | thermal | vrm | clock | idLow | debug | basinsLost | cycleOverrun | faultQueueFull | scrubLate | ringLost
  deriving DecidableEq, Repr

def Alarm.bit : Alarm → Nat
  | .stewardLost => 0 | .coreStop => 1 | .tarnFault => 2 | .pondFault => 3 | .spillFault => 4 | .stackDegraded => 5
  | .tripleLost => 6 | .linkBroken => 7 | .twinLost => 8 | .clientDead => 9 | .feedLost => 10 | .thermal => 11 | .vrm => 12
  | .clock => 13 | .idLow => 14 | .debug => 15 | .basinsLost => 16 | .cycleOverrun => 17 | .faultQueueFull => 18
  | .scrubLate => 19 | .ringLost => 20

/-- The Wellhead accumulates `n` occurrences of alarm bit `a`: the count rises, and when the bit goes from 0 to 1 a notice is written, unless
one of that alarm is still unread (R540, R545). -/
def State.accumulateAlarm (s : State) (a n : Nat) : State :=
  let s := s.bumpSat (R.MGMT_ALARMCNT a) F.MGMT_ALARMCNT_COUNT n
  if bitOf (s.reg R.MGMT_ALARM).toNat a then s
  else
    let t := s.setReg R.MGMT_ALARM (s.reg R.MGMT_ALARM ||| BitVec.ofNat 64 (2 ^ a))
    if (t.mgmt.unread ++ t.mgmt.held).any (fun r => r.kind == 1 && r.code == a) then t
    else t.writeEvent { kind := 1, code := a, count := t.get (R.MGMT_ALARMCNT a) F.MGMT_ALARMCNT_COUNT,
                        mcycle := (t.reg R.WELL_MCYCLE).toNat, body := [] }

/-- The hierarchy address of a unit (R137). -/
def hierAddr (kind q idx : Nat) : Nat := kind * 4096 + q * 1024 + idx

def tarnAddr (n : Nat) : Nat := hierAddr 2 (n / 25) (n % 25)
def pondAddr (i : Nat) : Nat := hierAddr 3 (i / 96) (i % 96)
def mereAddr (n : Nat) : Nat := hierAddr 4 (n / 2) (n % 2)
def spillAddr (j : Nat) : Nat := hierAddr 5 (j / 3) (j % 3)
/-- Hierarchy address of core i: 0 to 3 the Wellhead's, 4 to 7 the Stewards'. -/
def coreAddr (i : Nat) : Nat := if i < 4 then hierAddr 0 0 i else hierAddr 1 (i - 4) 0

/-- A reporting unit's path (R542). -/
def State.evUnit (s : State) (a : Nat) : EvUnit := Tbl.get (fun _ => {}) s.mgmt.units a

def State.setEvUnit (s : State) (a : Nat) (u : EvUnit) : State :=
  { s with mgmt := { s.mgmt with units := Tbl.set (fun _ => {}) s.mgmt.units a u } }

/-- Queue the messages of a unit's sticky alarms while its queue of 8 has room; a count is zeroed only when its message is queued (R542). -/
def EvUnit.pumpAlarms (u : EvUnit) (src : Nat) : EvUnit :=
  (Tbl.keys u.alarms).foldl (fun u a =>
    let n := Tbl.get (fun _ => 0) u.alarms a
    if u.queue.length < 8 ∧ n ≠ 0 then
      { u with queue := u.queue ++ [(src, { kind := 0, sev := 2, code := a, count := n, cycles := 0, data := [] })],
               alarms := Tbl.set (fun _ => 0) u.alarms a 0 }
    else u) u

/-- An agent raises an alarm toward its Steward (R542). -/
def State.unitAlarm (s : State) (addr : Nat) (a : Alarm) : State :=
  let u := s.evUnit addr
  let u := { u with alarms := Tbl.upd (fun _ => 0) u.alarms a.bit (fun n => satAdd n 1 0xFFFFFFFF) }
  s.setEvUnit addr (u.pumpAlarms addr)

/-- Raise an alarm of a block that the Wellhead owns: no path lies between (R545). -/
def State.raiseAlarm (s : State) (a : Alarm) : State := s.accumulateAlarm a.bit 1

/-- The alarm an error bit raises, and the agent that reports it, or none for a block the Wellhead owns (R545). -/
def alarmOf (off : Nat) (f : Fld) : Option (Option Nat × Alarm) :=
  match locate off with
  | some (.spill, n, _) => if f = F.SPILL_ERR_DIMM_MISMATCH then some (some (spillAddr n), .spillFault) else none
  | some (.mere, n, _) => if f = F.MERE_ERR_BROKEN ∧ n < 8 then some (some (mereAddr n), .linkBroken) else none
  | some (.pair, _, _) =>
    if f = F.PAIR_ERR_TWIN_LOST then some (none, .twinLost)
    else if f = F.PAIR_ERR_BASINS_LOST then some (none, .basinsLost)
    else if f = F.PAIR_ERR_RING_LOST then some (none, .ringLost)
    else none
  | some (.dir, _, _) => if f = F.DIR_ERR_DEATH then some (none, .clientDead) else none
  | some (.pwr, _, _) =>
    if f = F.PWR_ERR_THERM_THROTTLE then some (none, .thermal)
    else if f = F.PWR_ERR_VRM_FAULT ∨ f = F.PWR_ERR_PMBUS_FAIL then some (none, .vrm)
    else none
  | some (.clk, _, _) => if f = F.CLK_ERR_SRC_FAIL then some (none, .clock) else none
  | some (.sec, _, _) =>
    if f = F.SEC_ERR_ID_LOW ∨ f = F.SEC_ERR_ID_EXHAUSTED then some (none, .idLow)
    else if f = F.SEC_ERR_DEBUG_REQ then some (none, .debug)
    else none
  | some (.xlat, _, _) => if f = F.XLAT_ERR_FQ_OVERFLOW then some (none, .faultQueueFull) else none
  | some (.ras, _, _) => if f = F.RAS_ERR_SCRUB_LATE then some (none, .scrubLate) else none
  | _ => none

/-- Set an error bit, with all that follows: the vector's message and the alarm. `v` is the field's bits to set, 1 for a one-bit field. -/
def State.setErr (s : State) (off : Nat) (f : Fld) (v : Nat := 1) : State :=
  let t := s.setErrOnly off f v
  match alarmOf off f with
  | none => t
  | some (none, a) => t.raiseAlarm a
  | some (some addr, a) => t.unitAlarm addr a

end Sys2Proof.Machine
end

