-- ==== Sys2Proof/Machine/Codes.lean ====
section
/-!
DEFINITION. The check codes: the Reed-Solomon codes of the fast tier (R396) and of Spillway (R397), and the CRCs of the chapters
that name one.
-/
namespace Sys2Proof.Machine

/-- Multiply by α in a field GF(2^n) whose primitive polynomial, less its leading term, is `p`. -/
def gfShift (n p a : Nat) : Nat :=
  if bitOf a (n - 1) then (2 * a % 2 ^ n) ^^^ p else 2 * a % 2 ^ n

/-- Product in GF(2^n), over the low `k` bits of `b`. -/
def gfMul (n p a b : Nat) : Nat → Nat
  | 0 => 0
  | k + 1 => gfShift n p (gfMul n p a (b / 2) k) ^^^ (if bitOf b 0 then a else 0)

/-- The fast tier's field: GF(2^16) on x^16 + x^12 + x^3 + x + 1 (R396). -/
def mul16 (a b : Nat) : Nat := gfMul 16 0x100B a b 16

/-- Spillway's field: GF(2^8) on x^8 + x^4 + x^3 + x^2 + 1 (R397). -/
def mul8 (a b : Nat) : Nat := gfMul 8 0x1D a b 8

/-- α^i in a field given by its multiplication by α. -/
def alphaPow (n p : Nat) : Nat → Nat
  | 0 => 1
  | i + 1 => gfShift n p (alphaPow n p i)

/-- The generator polynomial with roots α^0 to α^(k−1), coefficients from the constant term up. -/
def generator (n p : Nat) (mul : Nat → Nat → Nat) : Nat → List Nat
  | 0 => [1]
  | k + 1 =>
    let g := generator n p mul k
    let r := alphaPow n p k
    List.zipWith (· ^^^ ·) (0 :: g) (g.map (mul r ·) ++ [0])

/-- Feed one message symbol, highest power first, through the division by a monic generator; `rem` is the remainder, highest first. -/
def rsFeed (mul : Nat → Nat → Nat) (genTail : List Nat) (rem : List Nat) (m : Nat) : List Nat :=
  let f := rem.headD 0 ^^^ m
  List.zipWith (fun r g => r ^^^ mul f g) (rem.drop 1 ++ [0]) genTail

/-- Check symbols of a message under the code with `k` check symbols: symbol 0 is the highest power. -/
def rsCheck (n p k : Nat) (mul : Nat → Nat → Nat) (msg : List Nat) : List Nat :=
  let tail := ((generator n p mul k).take k).reverse
  msg.foldl (rsFeed mul tail) (List.replicate k 0)

/-- CHECK of a fast-tier line: three symbols of the 33 message symbols (R396). -/
def fastCheck (msg : List Nat) : List Nat := rsCheck 16 0x100B 3 mul16 msg

/-- CHECK of a Spillway line: fourteen symbols of the 66 message bytes (R397). -/
def spillCheck (msg : List Nat) : List Nat := rsCheck 8 0x1D 14 mul8 msg

/-- The side-storage bits of a line other than CHECK: POISON, SUMMARY, HEAT and TAG from bit 0, the two bits above written 0 (R395, R397). -/
def Side.marks (x : Side) : Nat := (if x.poison then 1 else 0) + x.summary * 2 + x.heat * 8 + x.tag * 64

/-- Symbols of a number's low bits, `w` bits each, least significant first. -/
def symbolsOf (w n k : Nat) : List Nat := (List.range k).map (fun i => bitsOf n (w * i) w)

/-- The message symbols of a fast-tier line whose bits as stored are `d`: data bytes 2i and 2i + 1, then side-storage bits [63:48] (R396). -/
def Side.fastMsg (x : Side) (d : List Byte) : List Nat := symbolsOf 16 (leNat d) 32 ++ [x.marks]

/-- The 64 bits of side storage of a fast-tier line (R395, R396). -/
def Side.fastWord (x : Side) (d : List Byte) : Nat :=
  (fastCheck (x.fastMsg d)).foldr (fun c n => c + n * 2 ^ 16) 0 + x.marks * 2 ^ 48

/-- The message symbols of a Spillway line: the data bytes, then side-storage bytes 14 and 15 (R397). -/
def Side.spillMsg (x : Side) (d : List Byte) : List Nat := d.map (·.toNat) ++ symbolsOf 8 x.marks 2

/-- The 128 bits of side storage of a Spillway line (R397). -/
def Side.spillWord (x : Side) (d : List Byte) : Nat :=
  (spillCheck (x.spillMsg d)).foldr (fun c n => c + n * 2 ^ 8) 0 + x.marks * 2 ^ 112

/-- What a decoder makes of a line (R400): of a corrected one the first symbol, and the DIMM device to which its errors are confined, if they are (R398). -/
inductive Decoded where
  | clean
  | corrected (symbol : Nat) (device : Option Nat)
  | uncorrectable
  deriving DecidableEq, Repr

/-- The fast-tier decoder on the error pattern of a codeword, (symbol, error value) pairs: the code is linear, so its syndromes are those
of the errors. Symbol i stands at power 35 − i. One symbol in error is corrected; two are detected (R396). -/
def fastDecode (errs : List (Nat × Nat)) : Decoded :=
  let syn (r : Nat) := errs.foldl (fun a e => a ^^^ mul16 e.2 (alphaPow 16 0x100B (r * (35 - e.1)))) 0
  let s0 := syn 0
  let s1 := syn 1
  let s2 := syn 2
  if s0 = 0 ∧ s1 = 0 ∧ s2 = 0 then .clean
  else match (List.range 36).find? (fun i =>
      let x := alphaPow 16 0x100B (35 - i)
      s0 ≠ 0 && mul16 s0 x == s1 && mul16 s1 x == s2) with
    | some i => .corrected i none
    | none => .uncorrectable

/-- The device of a line's errors, when they all lie in one device's eight symbols (R397, R398). -/
def deviceOf (errs : List (Nat × Nat)) : Option Nat :=
  match errs with
  | [] => none
  | e :: t => if t.all (fun f => f.1 / 8 == e.1 / 8) then some (e.1 / 8) else none

/-- The Spillway decoder: up to seven symbol errors, or, with the symbols of marked devices as erasures, those and up to three
further (R397, R398). `marked` lists the devices marked failed for the line's rank. -/
def spillDecode (marked : List Nat) (errs : List (Nat × Nat)) : Decoded :=
  let real := errs.filter (fun e => e.2 ≠ 0)
  let outside := real.filter (fun e => !marked.contains (e.1 / 8))
  match real with
  | [] => .clean
  | e :: _ =>
    if marked = [] then (if real.length ≤ 7 then .corrected e.1 (deviceOf real) else .uncorrectable)
    else if 2 * outside.length + 8 * marked.length ≤ 14 then .corrected ((outside.headD e).1) (deviceOf real)
    else .uncorrectable

/-- One bit of a reflected CRC. -/
def crcBit (poly crc : Nat) : Nat := if bitOf crc 0 then crc / 2 ^^^ poly else crc / 2

/-- One byte of a reflected CRC. -/
def crcByte (poly crc : Nat) (b : Byte) : Nat :=
  crcBit poly (crcBit poly (crcBit poly (crcBit poly (crcBit poly (crcBit poly (crcBit poly (crcBit poly (crc ^^^ b.toNat))))))))

/-- CRC-32 of IEEE 802.3 (R550). -/
def crc32 (bs : List Byte) : Nat := (bs.foldl (crcByte 0xEDB88320) 0xFFFFFFFF) ^^^ 0xFFFFFFFF

/-- One bit of the CRC-64 of R276, most significant bit first. -/
def crc64Bit (crc : Nat) : Nat := if bitOf crc 63 then (2 * crc % 2 ^ 64) ^^^ 0x42F0E1EBA9EA3693 else 2 * crc % 2 ^ 64

def crc64Byte (crc : Nat) (b : Byte) : Nat :=
  crc64Bit (crc64Bit (crc64Bit (crc64Bit (crc64Bit (crc64Bit (crc64Bit (crc64Bit (crc ^^^ (b.toNat * 2 ^ 56)))))))))

/-- CRC-64 of a flit's bytes 0 to 247: initial value all ones, result inverted (R276). -/
def crc64 (bs : List Byte) : Nat := (bs.foldl crc64Byte (2 ^ 64 - 1)) ^^^ (2 ^ 64 - 1)

end Sys2Proof.Machine
end

