-- ==== Sys2Proof/Machine/Packet.lean ====
section
/-!
DEFINITION. The bytes of what a link carries: packets with their header words (R307 to R310), flits with their link header and CRC (R275 to R277),
control flits (R288), and how a flit lies on the lanes (R272, R274).
-/
namespace Sys2Proof.Machine

/-! ### Packets -/

/-- Class and OP of a packet type (R309). The synchronous control changes and copies on the Twin link are Bulk writes (R434). -/
def pktCode (op : String) : Nat × Nat :=
  match op with
  | "CMP" => (0, 1) | "NOTIFY" => (0, 2) | "MIRROR_ACK" => (0, 3)
  | "DATA" => (1, 1) | "MIRROR_WRITE" => (1, 4)
  | "SNP_INV" => (3, 1) | "SNP_SHARED" => (3, 2) | "SNP_FWD" => (3, 3) | "SNP_RECALL" => (3, 4)
  | _ => (5, 2)

/-- Word 0 of a header from its fields (R307). -/
def headerWord (code : Nat × Nat) (ep txn len16 : Nat) (resent priv poison : Bool) (tenant status : Nat) : Nat :=
  code.1 + code.2 * 2 ^ 3 + ep % 2 ^ 12 * 2 ^ 8 + txn % 2 ^ 16 * 2 ^ 20 + len16 * 2 ^ 36 + (if resent then 2 ^ 45 else 0)
    + (if priv then 2 ^ 46 else 0) + (if poison then 2 ^ 47 else 0) + tenant % 2 ^ 8 * 2 ^ 48 + status % 2 ^ 8 * 2 ^ 56

/-- Bytes filled up with zeros to a multiple of `m`. -/
def padUp (m : Nat) (bs : List Byte) : List Byte := bs ++ List.replicate (roundUp bs.length m - bs.length) 0

/-- A packet as it goes out: two header words and the payload in 16 B units (R307). -/
def packetOf (code : Nat × Nat) (ep txn : Nat) (priv poison : Bool) (tenant status word1 : Nat) (payload : List Byte) : List Byte :=
  let d := padUp 16 payload
  leBytes (headerWord code ep txn (d.length / 16) false priv poison tenant status) 8 ++ leBytes word1 8 ++ d

/-- The same packet with RESENT set: bit 45 of word 0 is bit 5 of byte 5 (R292, R307). -/
def setResent (bs : List Byte) : List Byte := bs.set 5 (bs.getD 5 0 ||| 0x20)

/-- Word 1 of a packet to a client (R308): an alias in the Address form of a snoop, the hint in the Info form of RETRY_AFTER, else what the packet names. -/
def PktOut.form (p : PktOut) : Nat :=
  if p.cls = 3 then p.args.getD 0 0 % 2 ^ 16 + p.args.getD 1 0 / 64 % 2 ^ 46 * 2 ^ 16
  else if p.op = "CMP" ∧ p.status = 1 then p.args.getD 0 0 % 2 ^ 16
  else p.word1

/-- TENANT of a packet to a client: the tenant of the basin concerned, or 0 (R307). -/
def PktOut.tenantOf (p : PktOut) : Nat := if p.cls = 3 then p.args.getD 2 0 else p.tenant

def PktOut.bytes (p : PktOut) : List Byte :=
  packetOf (pktCode p.op) p.ep p.txn false (p.poison != 0) p.tenantOf p.status p.form p.data

def PktOut.link (p : PktOut) : LinkPkt :=
  { op := p.op, ep := p.ep, txn := p.txn, cls := p.cls, body := p.bytes, final := p.final, resent := false }

/-- Cut a list into chunksOf of `k`; `fuel` bounds the chunksOf. -/
def chunksOf {α : Type} (k : Nat) : Nat → List α → List (List α)
  | 0, _ => []
  | fuel + 1, l => if l = [] then [] else l.take k :: chunksOf k fuel (l.drop k)

/-- The packets of one message to the partner (R309, R434): a MIRROR_WRITE (args: TXN, shadow PA, POISON, SUMMARY, HEAT, tenant), a MIRROR_ACK (TXN, PA, STATUS), a CMP
(TXN, STATUS, hint), a DATA (TXN, STATUS, POISON_MAP, PA), or a control change: Bulk writes whose TPA and content layout the manual does not give, here
TPA 0 and the change's bytes. Log entry 93. -/
def twinPackets (op : String) (cls : Nat) (args : List Nat) (data : List Byte) : List LinkPkt :=
  let txn := args.getD 0 0
  let pkt (body : List Byte) (final : Bool) : LinkPkt :=
    { op := op, ep := 4096, txn := txn, cls := cls, body := body, final := final, resent := false }
  match op with
  | "MIRROR_WRITE" => [pkt (packetOf (1, 4) 0 txn false (args.getD 2 0 != 0) (args.getD 5 0) 0 (args.getD 1 0) data) false]
  | "MIRROR_ACK" => [pkt (packetOf (0, 3) 0 txn false false 0 (args.getD 2 0) (args.getD 1 0) []) true]
  | "CMP" => [pkt (packetOf (0, 1) 0 txn false false 0 (args.getD 1 0) (args.getD 2 0) []) true]
  | "DATA" => [pkt (packetOf (1, 1) 0 txn false (args.getD 2 0 != 0) 0 (args.getD 1 0) (args.getD 3 0) data) true]
  | _ =>
    let d := if data = [] then List.replicate 64 0 else padUp 64 data
    (chunksOf 4096 (d.length / 4096 + 1) d).map (fun c => pkt (packetOf (5, 2) 0 txn true false 0 0 0 (List.replicate 16 0 ++ c)) false)

/-! ### Flits -/

/-- FTYPE (R275). -/
def ftPayload : Nat := 0
def ftCredit : Nat := 1
def ftIdle : Nat := 2
def ftControl : Nat := 3

/-- The link header (R275): up to two credit returns, (class, count). -/
def flitHeader (seq ack : Nat) (nak : Bool) (ftype first : Nat) (returns : List (Nat × Nat)) : Nat :=
  let c0 := returns.getD 0 (0, 0)
  let c1 := returns.getD 1 (0, 0)
  seq + ack * 2 ^ 12 + (if nak then 2 ^ 24 else 0) + ftype * 2 ^ 25 + first * 2 ^ 27 + c0.1 * 2 ^ 32 + c0.2 * 2 ^ 35 + c1.1 * 2 ^ 43 + c1.2 * 2 ^ 46

/-- A flit: link header, payload filled with zeros, CRC (R275 to R277). -/
def flitOf (header : Nat) (payload : List Byte) : List Byte :=
  let b := leBytes header 8 ++ (payload ++ List.replicate (240 - payload.length) 0)
  b ++ leBytes (crc64 b) 8

/-- A flit of 256 bytes that passes its CRC (R276). -/
def flitOk (f : List Byte) : Bool := f.length == 256 && leNat (f.drop 248) == crc64 (f.take 248)

/-- CTL codes (R288). -/
def ctlReq : Nat := 1
def ctlFollow : Nat := 2
def ctlTestDone : Nat := 3
def ctlConfig : Nat := 4
def ctlConfigAck : Nat := 5

/-- The payload of a CONTROL flit (R288); its byte numbers count from the start of the flit, whose payload begins at byte 8. Every control flit carries
the sender's PORT_ID. -/
def Ctl.payload (c : Ctl) (portId : Nat) : List Byte :=
  leBytes c.code 1 ++ leBytes c.rank 1 ++ leBytes c.width 1 ++ List.replicate 5 0 ++ leBytes portId 8 ++ leBytes c.mask 2 ++ leBytes c.nextSeq 2
    ++ (List.range 6).flatMap (fun i => leBytes (c.credit.getD i 0) 2)

/-- Divide a packet's bytes over the payloads of consecutive flits: 15 slots of 16 B each (R277). -/
def slotPayloads (body : List Byte) : List (List Byte) := chunksOf 240 (body.length / 240 + 1) (padUp 16 body)

/-- Up to two credit returns of at most 255 credits, and what is still owed (R275, R285). -/
def takeReturns (owed : List Nat) : List (Nat × Nat) × List Nat :=
  let due := ((List.range 6).filter (fun c => owed.getD c 0 != 0)).take 2
  (due.map (fun c => (c, min (owed.getD c 0) 255)), due.foldl (fun o c => o.set c (o.getD c 0 - min (o.getD c 0) 255)) owed)

/-! ### Lanes -/

/-- The logical lane of byte `b` of a striped flit at width `w` (R272). -/
def laneOfByte (w b : Nat) : Nat := b / 4 % w

/-- What logical lane `i` of `w` carries of a flit: all of it when replicated, else its share (R272, R274). -/
def onLane (replicated : Bool) (w i : Nat) (flit : List Byte) : List Byte :=
  if replicated then flit else ((List.range flit.length).filter (fun b => laneOfByte w b == i)).map (fun b => flit.getD b 0)

/-- Put a striped flit together from what arrived on its lanes, in logical order (R272). -/
def joinLanes (shares : List (List Byte)) : List Byte :=
  let w := shares.length
  (List.range 256).map (fun b => (shares.getD (laneOfByte w b) []).getD (b / (4 * w) * 4 + b % 4) 0)

end Sys2Proof.Machine
end

