-- ==== Sys2Proof/Machine/Link.lean ====
section
/-!
DEFINITION. A link end (R271 to R296): its registers, its flits, acknowledgement and replay, credits, training, breaks, and the routing of
packets to clients.
-/
namespace Sys2Proof.Machine

/-! ### Registers of a link -/

def lanesOf (n : Nat) : Nat := if n = 8 then 16 else 8

/-- Lanes of a width code: 0 all, 1 half, 2 a quarter (R271, R299, R304). -/
def widthOf (n code : Nat) : Nat := lanesOf n / 2 ^ code

/-- The fewest good lanes of a working link (R271). -/
def fewestLanes (n : Nat) : Nat := widthOf n 2

def State.link (s : State) (n : Nat) : Link := Tbl.get (fun _ => {}) s.fab.links n

/-- Write a link's record, with TX_SEQ, RX_NEXT and UNACKED following it (R299). -/
def State.setLink (s : State) (n : Nat) (l : Link) : State :=
  let s := { s with fab := { s.fab with links := Tbl.set (fun _ => {}) s.fab.links n l } }
  ((s.put (R.MERE_LINKSTAT n) F.MERE_LINKSTAT_TX_SEQ (l.oldest + l.held.length)).put
    (R.MERE_LINKSTAT n) F.MERE_LINKSTAT_RX_NEXT l.expect).put (R.MERE_LINKSTAT n) F.MERE_LINKSTAT_UNACKED l.held.length

def State.updLink (s : State) (n : Nat) (f : Link → Link) : State := s.setLink n (f (s.link n))

/-- States of R287 by code. -/
def State.linkState (s : State) (n : Nat) : Nat := s.get (R.MERE_LINKSTAT n) F.MERE_LINKSTAT_STATE
def State.setLinkState (s : State) (n v : Nat) : State := s.put (R.MERE_LINKSTAT n) F.MERE_LINKSTAT_STATE v

def lsOff : Nat := 0
def lsDetect : Nat := 1
def lsEqualise : Nat := 2
def lsTest : Nat := 3
def lsConfig : Nat := 4
def lsActive : Nat := 5
def lsQuiesce : Nat := 6

def State.linkActive (s : State) (n : Nat) : Bool := s.linkState n == lsActive

/-- Where the send credits of a class stand (R302). -/
def creditAt (n c : Nat) : Nat × Fld :=
  match c with
  | 0 => (R.MERE_CREDIT0 n, F.MERE_CREDIT0_C0)
  | 1 => (R.MERE_CREDIT0 n, F.MERE_CREDIT0_C1)
  | 2 => (R.MERE_CREDIT0 n, F.MERE_CREDIT0_C2)
  | 3 => (R.MERE_CREDIT1 n, F.MERE_CREDIT1_C3)
  | 4 => (R.MERE_CREDIT1 n, F.MERE_CREDIT1_C4)
  | _ => (R.MERE_CREDIT1 n, F.MERE_CREDIT1_C5)

def State.credit (s : State) (n c : Nat) : Nat := s.get (creditAt n c).1 (creditAt n c).2
def State.setCredit (s : State) (n c v : Nat) : State := s.put (creditAt n c).1 (creditAt n c).2 v

/-- The widest width of R272 for a mask: its code, or none when the mask leaves too few lanes. -/
def State.widthFor (s : State) (n mask : Nat) : Option Nat :=
  [0, 1, 2].find? (fun c => s.get (R.MERE_CTRL n) F.MERE_CTRL_WIDTH_MAX ≤ c && widthOf n c ≤ popCount mask 16)

/-- The agreed mask: both ends' passing lanes, minus EXCLUDE (R291). -/
def State.agreedMask (s : State) (n : Nat) : Nat :=
  let l := s.link n
  ((l.ownPass.getD 0) &&& (l.peerPass.getD 0)) &&& (2 ^ 16 - 1 - s.get (R.MERE_LANECFG n) F.MERE_LANECFG_EXCLUDE)

/-- The lanes a link uses: the lowest-numbered of the agreed mask, as logical lanes 0 to W − 1 (R272). With no width agreed the model takes every
lane fitted. DESIGN CHOICE, log entry 94. -/
def State.lanesUsed (s : State) (n : Nat) : List Nat :=
  let w := s.get (R.MERE_LINKSTAT n) F.MERE_LINKSTAT_WIDTH
  if w = 3 then List.range (lanesOf n)
  else ((List.range (lanesOf n)).filter (bitOf (s.get (R.MERE_LINKSTAT n) F.MERE_LINKSTAT_GOOD_MASK))).take (widthOf n w)

/-! ### Sending flits -/

/-- ACK: E − 1 as it stands (R280). -/
def State.ackOf (s : State) (n : Nat) : Nat := ((s.link n).expect + 4095) % 4096

/-- A flit goes out: striped in ACTIVE, replicated in every other state (R274). What was accepted is reported by its ACK (R280). -/
def State.emitFlit (s : State) (n : Nat) (header : Nat) (payload : List Byte) : State :=
  (s.updLink n (fun l => { l with unreported := 0 })).send
    (.flit n (s.linkState n != lsActive) (s.lanesUsed n) (flitOf header payload))

/-- An IDLE flit, or a NAK sent as one (R280). -/
def State.sendIdle (s : State) (n : Nat) (nak : Bool) : State := s.emitFlit n (flitHeader 0 (s.ackOf n) nak ftIdle 15 []) []

/-- A CONTROL flit (R288). -/
def State.sendControl (s : State) (n : Nat) (c : Ctl) : State :=
  s.emitFlit n (flitHeader 0 (s.ackOf n) false ftControl 15 []) (c.payload (s.reg (R.MERE_PORTID n)).toNat)

/-- Send a control flit and keep it for repetition until it is answered (R288). -/
def State.sendCtl (s : State) (n : Nat) (c : Ctl) : State :=
  (s.updLink n (fun l => { l with ctl := some c })).sendControl n c

/-- A sequenced flit goes out, for the first time or again: with the ACK of the moment (R278, R280, R281). -/
def State.emitHeld (s : State) (n : Nat) (f : HeldFlit) : State :=
  (s.bump (R.MERE_CNT_FLITS_TX n)).emitFlit n
    (flitHeader f.seq (s.ackOf n) false (if f.credit then ftCredit else ftPayload) f.first f.returns) f.payload

/-- Send a new sequenced flit: the next SEQ, the credit returns owed, and a place in the replay buffer (R278, R285). -/
def State.sendSequenced (s : State) (n : Nat) (credit : Bool) (first : Nat) (payload : List Byte) (ends : List LinkPkt) : State :=
  let l := s.link n
  let f : HeldFlit := { seq := (l.oldest + l.held.length) % 4096, credit := credit, first := first, returns := (takeReturns l.owed).1,
                        payload := payload, ends := ends }
  (s.setLink n { l with held := l.held ++ [f], owed := (takeReturns l.owed).2 }).emitHeld n f

/-- Flits a packet takes (R277). Each packet starts in a fresh flit, slot 0. DESIGN CHOICE, log entry 12. -/
def flitsOf (bytes : Nat) : Nat := ((bytes + 15) / 16 + 14) / 15

/-- Credits a packet takes (R283). -/
def creditsOf (bytes : Nat) : Nat := (bytes + 63) / 64

/-- The credits of a class that a packet may spend: those reserved for other responses are not its own (R283, R357). -/
def State.creditFor (s : State) (n : Nat) (p : LinkPkt) : Nat :=
  if p.cls = 1 ∧ !p.reserved then s.credit n 1 - (s.link n).reserved else s.credit n p.cls

/-- The first packet in order that has its class's credits, behind no other packet of its class, and room in the replay buffer. A response with
reserved credits waits for no other. -/
def State.nextToSend (s : State) (n : Nat) : Option Nat :=
  let l := s.link n
  (List.range l.queue.length).find? (fun i =>
    match l.queue[i]? with
    | none => false
    | some p => (p.reserved || !((l.queue.take i).any (fun q => q.cls == p.cls))) && creditsOf p.body.length ≤ s.creditFor n p
        && l.held.length + flitsOf p.body.length ≤ 2047)

/-- Send a packet's flits: the first one starts it, the last one ends it (R275, R277, R278). -/
def State.sendSlots (s : State) (n : Nat) (p : LinkPkt) (first : Nat) : List (List Byte) → State
  | [] => s
  | [x] => s.sendSequenced n false first x [p]
  | x :: rest => State.sendSlots (s.sendSequenced n false first x []) n p 15 rest

/-- Send a packet whole: its credits are spent, those reserved for it among them (R283, R332, R357). -/
def State.sendPacket (s : State) (n : Nat) (p : LinkPkt) : State :=
  let k := creditsOf p.body.length
  let s := s.setCredit n p.cls (s.credit n p.cls - k)
  let s := if p.reserved then s.updLink n (fun l => { l with reserved := l.reserved - k }) else s
  s.sendSlots n p 0 (slotPayloads p.body)

/-- Send what may be sent: packets with credits, then CREDIT flits for returns that no payload carries (R281, R283, R285). -/
def State.pumpLink (s : State) (n : Nat) : Nat → State
  | 0 => s
  | fuel + 1 =>
    if !s.linkActive n || s.islandStopped (portIsland n) then s
    else
      let l := s.link n
      match s.nextToSend n with
      | some i =>
        match l.queue[i]? with
        | none => s
        | some p => State.pumpLink ((s.setLink n { l with queue := l.queue.eraseIdx i }).sendPacket n p) n fuel
      | none =>
        if l.owed.any (fun c => c != 0) && l.held.length < 2047 then
          State.pumpLink (s.sendSequenced n true 15 [] []) n fuel
        else s

/-- Every packet queued can be tried once, and every credit owed returned. -/
def State.flush (s : State) (n : Nat) : State :=
  s.pumpLink n ((s.link n).queue.length + (s.link n).owed.foldl (fun k c => k + (c + 254) / 255) 0 + 1)

/-! ### Routing (R295, R297) -/

def State.route (s : State) (e : Nat) (f : Fld) : Nat := s.get (R.ROUTE e) f

/-- A port that carries a client's traffic: ACTIVE, or in a retrain or width change, which reroutes nothing (R290). -/
def State.linkUp (s : State) (n : Nat) : Bool := s.linkActive n || (lsEqualise ≤ s.linkState n && !(s.link n).full)

/-- The port a packet for a client goes to; none when the endpoint is not routed. The port in use stays while it is up; when it is not, an ACTIVE
other port is taken; with neither the packet waits on the port in use (R290, R292, R295). -/
def State.routePort (s : State) (e : Nat) : Option Nat :=
  if s.route e F.ROUTE_VALID = 0 then none
  else
    let onAlt := s.route e F.ROUTE_ON_ALT = 1
    let cur := if onAlt then s.route e F.ROUTE_ALT else s.route e F.ROUTE_PRIMARY
    let other := if onAlt then s.route e F.ROUTE_PRIMARY else s.route e F.ROUTE_ALT
    if s.linkUp cur || !s.linkActive other then some cur else some other

/-- ON_ALT says whether a client's traffic uses ALT (R297). -/
def State.markRoute (s : State) (e n : Nat) : State :=
  if s.route e F.ROUTE_PRIMARY = n ∧ s.route e F.ROUTE_ON_ALT = 1 then s.put (R.ROUTE e) F.ROUTE_ON_ALT 0
  else if s.route e F.ROUTE_PRIMARY ≠ n ∧ s.route e F.ROUTE_ON_ALT = 0 then s.put (R.ROUTE e) F.ROUTE_ON_ALT 1
  else s

/-- Hand a packet to a link: it waits for credits there. -/
def State.enqueue (s : State) (n : Nat) (p : LinkPkt) : State :=
  (s.updLink n (fun l => { l with queue := l.queue ++ [p] })).flush n

/-- A transaction's record ends when its response has been acknowledged (R293). -/
def State.dropRecord (s : State) (ep txn : Nat) : State :=
  { s with fab := { s.fab with records := s.fab.records.filter (fun r => !(r.ep == ep && r.txn == txn && r.answered)) } }

/-- A final response has been formed: the transaction's record is answered (R293). -/
def State.answerRecord (s : State) (ep txn : Nat) : State :=
  { s with fab := { s.fab with records := s.fab.records.map (fun r =>
      if r.ep = ep ∧ r.txn = txn then { r with answered := true } else r) } }

/-- Whether an endpoint has been declared dead (R362, R373). -/
def State.isDead (s : State) (ep : Nat) : Bool := bitOf (s.reg (R.DIR_DEAD (ep / 64))).toNat (ep % 64)

/-- A NOTIFY that finds no way to its endpoint is dropped and counted (R180). -/
def State.notifyLost (s : State) : State := (s.bump R.JOB_CNT_NOTIFY_LOST).setErr R.JOB_ERR F.JOB_ERR_NOTIFY_LOST

/-- A packet whose endpoint is not routed goes nowhere; its transaction's record ends with it. -/
def State.noWay (s : State) (p : LinkPkt) : State :=
  if p.op = "NOTIFY" then s.notifyLost else if p.final then s.dropRecord p.ep p.txn else s

/-- Credits reserved on a port are free again (R357). -/
def State.unreserve (s : State) (n k : Nat) : State := s.updLink n (fun l => { l with reserved := l.reserved - k })

/-- Send a packet to a client: recorded as sent, its transaction answered, and handed to the client's port (R292, R293, R297). -/
def State.sendPkt (s : State) (p : PktOut) : State :=
  if p.op = "NOTIFY" ∧ s.isDead p.ep then s.notifyLost else
  let s := s.send (.packet p.op p.ep p.txn p.status p.args p.poison p.data)
  let s := if p.final then s.answerRecord p.ep p.txn else s
  let port := s.routePort p.ep
  let s := match p.reserved with
    | some m => if port = some m then s else s.unreserve m (creditsOf p.bytes.length)
    | none => s
  match port with
  | none => s.noWay p.link
  | some n => (s.markRoute p.ep n).enqueue n { p.link with reserved := p.reserved == some n }

/-- Send a message over the Twin link (R434): class 1 for mirror writes and data, class 5 for control changes, class 0 for acknowledgements. Answers end
the partner's transaction records as a client's (R293, R296). -/
def State.sendTwin (s : State) (op : String) (cls : Nat) (args : List Nat) (data : List Byte) : State :=
  (twinPackets op cls args data).foldl (fun s p => (if p.final then s.answerRecord p.ep p.txn else s).enqueue 8 p)
    (s.send (.twin op args data))

/-! ### Broken links (R292, R296) -/

/-- Route entries that name a port as primary and are valid. -/
def State.routesOf (s : State) (n : Nat) : List Nat :=
  ((Tbl.keys s.regs).filter (fun o => R.ROUTE 0 ≤ o && o < R.ROUTE 4096)).map (fun o => (o - R.ROUTE 0) / 8)
    |>.filter (fun e => s.route e F.ROUTE_VALID == 1 && s.route e F.ROUTE_PRIMARY == n)

/-- A packet is sent again: RESENT is set, and credits reserved on the port that is gone count no more (R292, R296). -/
def LinkPkt.again (p : LinkPkt) : LinkPkt := { p with resent := true, reserved := false, body := setResent p.body }

/-- Give a packet to the port its client's traffic uses now (R292, R295). -/
def State.reroute (s : State) (p : LinkPkt) : State :=
  match s.routePort p.ep with
  | none => s.noWay p
  | some m => (s.markRoute p.ep m).enqueue m p

/-- No width, no mask, no good lane (R299, R302). -/
def State.noWidth (s : State) (n : Nat) : State :=
  let s := (s.put (R.MERE_LINKSTAT n) F.MERE_LINKSTAT_WIDTH 3).put (R.MERE_LINKSTAT n) F.MERE_LINKSTAT_GOOD_MASK 0
  (List.range (lanesOf n)).foldl (fun s i => s.put (R.MERE_LANESTAT n i) F.MERE_LANESTAT_GOOD 0) s

/-- OFF: the transmitters idle, and no control flit is repeated (R287). -/
def State.goOff (s : State) (n : Nat) : State :=
  (((s.updLink n (fun l => { l with ctl := none, ownReq := none })).setLinkState n lsOff)).noWidth n

/-- The packets of a link's unacknowledged flits, to be sent again, and those that never went out. -/
def Link.left (l : Link) : List LinkPkt :=
  l.held.flatMap (fun h => h.ends.map LinkPkt.again) ++ l.queue.map (fun p => { p with reserved := false })

/-- DETECT: sequence numbers, replay buffer and credits start afresh, BREAK clears itself, and a full training follows (R287, R299). Packets that arrived
whole stand, those that arrived in part are gone (R292). What was to be sent stays queued. DESIGN CHOICE for a link that was not broken, log entry 95. -/
def State.enterDetect (s : State) (n : Nat) : State :=
  let l := s.link n
  let s := ((s.setLinkState n lsDetect).noWidth n).put (R.MERE_CTRL n) F.MERE_CTRL_BREAK 0
  let s := (List.range 6).foldl (fun s c => s.setCredit n c 0) s
  let ts := s.home.txns.map (fun (t : DirTxn) => if t.reserve = some n then { t with reserve := none } else t)
  let s := { s with home := { s.home with txns := ts } }
  s.setLink n { full := true, delivered := l.delivered, retrains := l.retrains, corrected := l.corrected, queue := l.left }

/-- The packets a port has to send are given to the ports that now carry their clients. -/
def State.rerouteAll (s : State) (n : Nat) (sel : LinkPkt → Bool) : State :=
  let q := (s.link n).queue
  (q.filter sel).foldl (fun s p => s.reroute p) (s.updLink n (fun l => { l with queue := q.filter (fun p => !sel p) }))

/-- Declare a link broken: the error, a full training from DETECT, the alternate ports, the packets sent again (R292, R296). -/
def State.breakLink (s : State) (n : Nat) : State :=
  let s := ((s.setErr (R.MERE_ERR n) F.MERE_ERR_BROKEN).bump (R.MERE_CNT_BREAKS n)).enterDetect n
  if n = 8 then s
  else ((s.routesOf n).foldl (fun s e => s.put (R.ROUTE e) F.ROUTE_ON_ALT 1) s).rerouteAll n (fun _ => true)

/-- A configuration failed (R288). -/
def State.failConfig (s : State) (n : Nat) : State := (s.setErr (R.MERE_ERR n) F.MERE_ERR_CONFIG_FAIL).breakLink n

/-! ### Retrains and width changes (R289, R290) -/

/-- Retrains of the last RETRAIN_WINDOW, by the management cycle they began in (R290). -/
def State.recentRetrains (s : State) (n : Nat) : List Nat :=
  (s.link n).retrains.filter (fun t => (s.reg R.WELL_MCYCLE).toNat < t + s.get (R.MERE_TIMERS n) F.MERE_TIMERS_RETRAIN_WINDOW)

/-- Start a retrain (rank 2 or 3) or a width change (rank 1) from ACTIVE: QUIESCE and REQ. A fourth retrain within RETRAIN_WINDOW breaks the
link instead. Milliseconds are counted in management cycles. Log entry 33. -/
def State.startRetrain (s : State) (n rank : Nat) (all : Bool) : State :=
  if !s.linkActive n then s
  else
    let l := s.link n
    if 2 ≤ rank ∧ 3 ≤ (s.recentRetrains n).length then s.breakLink n
    else
      let s := s.setLink n { l with ownReq := some rank, rank := rank, testAll := all, proceeded := false }
      (s.setLinkState n lsQuiesce).sendCtl n { code := ctlReq, rank := rank }

/-- The buffers this end advertises (R284). -/
def ownAdvert (n : Nat) : List Nat := if n = 8 then [1024, 8192, 512, 512, 2048, 8192] else [1024, 6144, 1024, 1024, 2048, 6144]

/-- Send CONFIG: width, mask, E, and the advertisement after full training (R288). -/
def State.sendConfig (s : State) (n w mask : Nat) (full : Bool) : State :=
  s.sendCtl n { code := ctlConfig, width := widthOf n w, mask := mask, nextSeq := (s.link n).expect, credit := if full then ownAdvert n else [] }

/-- Both ends have agreed whose request proceeds: a retrain goes to the fast EQUALISE, a width change to CONFIG (R287, R289). -/
def State.proceed (s : State) (n rank : Nat) (own : Bool) : State :=
  let l := (s.bump (R.MERE_CNT_RETRAINS n)).link n
  let s := (s.bump (R.MERE_CNT_RETRAINS n)).setLink n
    { l with ownReq := none, rank := rank, proceeded := own, ctl := none, testAll := l.testAll && own,
             retrains := s.recentRetrains n ++ (if 2 ≤ rank then [(s.reg R.WELL_MCYCLE).toNat] else []) }
  if rank = 1 then
    let s := s.setLinkState n lsConfig
    if own then
      let m := s.agreedMask n
      match s.widthFor n m with
      | none => s.failConfig n
      | some w => s.sendConfig n w m false
    else s
  else (s.updLink n (fun l => { l with ownPass := none, peerPass := none })).setLinkState n lsEqualise

/-- Replay every held flit (R281, R282). The third replay in a row without O advancing sets REPLAY_LIMIT and starts a retrain of rank 3, or
breaks a link that has not advanced O since its last retrain (R290). -/
def State.replay (s : State) (n : Nat) : State :=
  let l := s.link n
  if l.held = [] then s
  else
    let s := l.held.foldl (fun s f => s.emitHeld n f) (s.bump (R.MERE_CNT_REPLAYS n))
    if l.replays + 1 < 3 then s.updLink n (fun l => { l with replays := l.replays + 1 })
    else
      let s := (s.updLink n (fun l => { l with replays := 0 })).setErr (R.MERE_ERR n) F.MERE_ERR_REPLAY_LIMIT
      if l.fresh then s.breakLink n else s.startRetrain n 3 false

/-- Free `k` held flits and advance O (R281); the records of responses they carried end (R293). -/
def State.freeFlits (s : State) (n k : Nat) : State :=
  if k = 0 then s
  else
    let l := s.link n
    let gone := (l.held.take k).flatMap (·.ends)
    let s := s.setLink n { l with held := l.held.drop k, oldest := (l.oldest + k) % 4096, replays := 0, fresh := false }
    gone.foldl (fun s p => if p.final then s.dropRecord p.ep p.txn else s) s

/-- How many flits an ACK value frees: none when it is not valid (R281). -/
def Link.ackFrees (l : Link) (a : Nat) : Option Nat :=
  let k := (a + 4097 - l.oldest) % 4096
  if k ≤ l.held.length then some k else none

/-- Act on the ACK and NAK of a received flit (R281). -/
def State.takeAck (s : State) (n a : Nat) (nak : Bool) : State :=
  match (s.link n).ackFrees a with
  | none => s.setErr (R.MERE_ERR n) F.MERE_ERR_ACK_RANGE
  | some k =>
    let s := s.freeFlits n k
    if nak then s.replay n else s

/-- Send a NAK, at most one for each value of E (R279). -/
def State.nak (s : State) (n : Nat) : State :=
  let e := (s.link n).expect
  if (s.link n).nakFor = some e then s
  else ((s.updLink n (fun l => { l with nakFor := some e })).bump (R.MERE_CNT_NAKS n)).sendIdle n true

/-- Take one credit return (R285); a count above the peer's advertisement breaks the link, and a link just broken takes none. -/
def State.takeCredit (s : State) (n c k : Nat) : State :=
  if k = 0 ∨ 6 ≤ c ∨ s.linkState n ≤ lsDetect then s
  else if (s.link n).advert.getD c 0 < s.credit n c + k then
    (s.setErr (R.MERE_ERR n) F.MERE_ERR_CREDIT_OVERFLOW).breakLink n
  else s.setCredit n c (s.credit n c + k)

/-- Length in bytes of the packet whose header begins a list of slot bytes (R307). -/
def packetBytes (bs : List Byte) : Nat := 16 + 16 * bitsOf (leNat (bs.take 8)) 36 9

/-- Divide received slots into packets (R277): the packets that are whole, and the slots of one still arriving. -/
def splitPackets : Nat → List Byte → List (List Byte) × List Byte
  | 0, bs => ([], bs)
  | fuel + 1, bs =>
    if bs.length < 16 then ([], bs)
    else if (bs.take 16).all (· == 0) then ([], [])
    else
      let k := packetBytes bs
      if bs.length < k then ([], bs)
      else
        let r := splitPackets fuel (bs.drop k)
        (bs.take k :: r.1, r.2)

/-- Take a delivered packet out of its receive buffer: its credits go back to the peer (R285). A packet not found there changes nothing. -/
def State.takeDelivered (s : State) (n : Nat) (bs : List Byte) : State :=
  let l := s.link n
  if l.delivered.contains bs then
    let c := bitsOf (leNat (bs.take 8)) 0 3
    let owed := l.owed.set c (l.owed.getD c 0 + creditsOf bs.length)
    (s.setLink n { l with delivered := l.delivered.erase bs, owed := owed }).flush n
  else s

/-- The Twin link reaches ACTIVE: the first time after L1 this fixes the side, by the lower CHIP of the two PORT_IDs (R430). -/
def State.twinUp (s : State) : State :=
  if s.pair.sideFixed then s
  else
    let own := s.get (R.MERE_PORTID 8) F.MERE_PORTID_CHIP
    let peer := s.get (R.MERE_PEERID 8) F.MERE_PEERID_PEER / 256
    let s := { s with pair := { s.pair with sideFixed := true } }
    s.putFlag R.PAIR_STATUS F.PAIR_STATUS_SIDE (peer < own)

/-- Packets that wait on a port that is down, and whose client this port serves, go out here (R295). -/
def State.rescue (s : State) (n : Nat) : State :=
  ((List.range 8).filter (fun m => m != n && !s.linkUp m)).foldl (fun s m =>
    s.rerouteAll m (fun p => s.route p.ep F.ROUTE_PRIMARY == n || s.route p.ep F.ROUTE_ALT == n)) s

/-- A retrain or a training ends: ACTIVE at a width, on a mask (R272, R288, R290, R299). The peer's NEXT_SEQ frees what it accepted, and the
rest is replayed. `answered`: this end's own CONFIG, if it sent one, is answered; one that is not is repeated still. -/
def State.enterActive (s : State) (n width mask nextSeq : Nat) (answered : Bool) : State :=
  let l := s.link n
  let old := s.get (R.MERE_LINKSTAT n) F.MERE_LINKSTAT_WIDTH
  let s := ((s.setLinkState n lsActive).put (R.MERE_LINKSTAT n) F.MERE_LINKSTAT_WIDTH width).put
    (R.MERE_LINKSTAT n) F.MERE_LINKSTAT_GOOD_MASK mask
  let s := (List.range (lanesOf n)).foldl (fun s i =>
    s.putFlag (R.MERE_LANESTAT n i) F.MERE_LANESTAT_GOOD (bitOf mask i)) s
  let s := (s.put (R.MERE_CTRL n) F.MERE_CTRL_RETRAIN 0).put (R.MERE_CTRL n) F.MERE_CTRL_WIDEN 0
  let isNew : Bool := 2 ≤ l.rank
  let s := s.setLink n
    { l with full := false, rank := 0, ownReq := none, proceeded := false, testAll := false, fresh := isNew || l.fresh, replays := 0,
             ctl := if answered then none else l.ctl.filter (fun c => c.code == ctlConfig) }
  let s := if 2 ≤ l.rank then s.setErr (R.MERE_ERR n) F.MERE_ERR_RETRAIN else s
  let s := if old < width ∧ old ≠ 3 then s.setErr (R.MERE_ERR n) F.MERE_ERR_WIDTH_DEGRADED else s
  let s := match (s.link n).ackFrees ((nextSeq + 4095) % 4096) with
    | none => s.setErr (R.MERE_ERR n) F.MERE_ERR_ACK_RANGE
    | some k => s.freeFlits n k
  let held : List HeldFlit := (s.link n).held
  let s : State := if held.isEmpty then s else held.foldl (fun (s : State) f => s.emitHeld n f) (s.bump (R.MERE_CNT_REPLAYS n))
  let s := if n = 8 then s.twinUp else s
  (s.flush n).rescue n

end Sys2Proof.Machine
end

