-- ==== Sys2Proof/Machine/Basins.lean ====
section
/-!
DEFINITION. Basins as they lie in memory (R243, R249): which basin holds a physical address, the shadow of an address on the partner (R430, R435),
and the mirror queue (R434 to R438).
-/
namespace Sys2Proof.Machine

/-- The translation unit in bytes: 2 MiB, or 1 GiB in full configuration (R248). -/
def State.unitBytes (s : State) : Nat := if s.flag R.XLAT_CFG F.XLAT_CFG_MODE then 2 ^ 30 else 2 ^ 21

def State.basin (s : State) (b : Nat) : Option Basin := Tbl.get (fun _ => none) s.xlat.basins b
def State.setBasin (s : State) (b : Nat) (x : Option Basin) : State :=
  { s with xlat := { s.xlat with basins := Tbl.set (fun _ => none) s.xlat.basins b x } }

/-- The basins that exist, with their identities. -/
def State.basins (s : State) : List (Nat × Basin) :=
  s.xlat.basins.filterMap (fun e => e.2.map (fun b => (e.1, b)))

/-- The parts of a basin in which a PA may lie, each with its shadow's runs. -/
def Basin.parts (b : Basin) : List (List Run × List Run) :=
  [(b.mapped, b.shadowMapped), (b.poolRuns, b.shadowPool), (b.spillRuns, b.shadowSpill)]

/-- Whether a basin's units hold a PA. -/
def Basin.holds (b : Basin) (u pa : Nat) : Bool := b.parts.any (fun p => p.1.any (fun r => (r.locate u pa).isSome))

def State.basinAt (s : State) (pa : Nat) : Option (Nat × Basin) := s.basins.find? (fun e => e.2.holds s.unitBytes pa)

/-- The unit number a PA has within a run that is not striped. -/
def Run.unitAt (r : Run) (u pa : Nat) : Option Nat := (r.locate u pa).map (fun p => p.2 * r.set.length + p.1)

/-- The shadow PA of a PA of a Mirrored basin: the same unit of the same part (R430, R435). -/
def Basin.shadowPa (b : Basin) (u pa : Nat) : Option Nat :=
  b.parts.findSome? (fun p => p.1.findSome? (fun r =>
    match r.unitAt u pa with
    | none => none
    | some n =>
      (p.2.find? (fun q => q.start ≤ r.start + n && r.start + n < q.start + q.len)).map
        (fun q => q.unitPa u (r.start + n - q.start) + pa % u)))

/-- The pair is formed: synchronous changes go to the partner, which holds them before the change completes (R439). -/
def State.formed (s : State) : Bool := s.get R.PAIR_STATUS F.PAIR_STATUS_STATE == 2

/-- The TPA byte of a PA in a run: the inverse of unitPa and of stripePa; none for a line of parity (R249, R412). -/
def Run.tpaOf (r : Run) (u pa : Nat) : Option Nat :=
  if r.striped then
    if (r.locate u pa).isNone then none
    else
      let o := bitsOf pa 0 36 - r.base * u
      let g := o / u
      let sl := o % u / 4096
      let j := (fastStack pa + 12 - (sl % 12 + 1)) % 12
      if j = 11 then none else some (r.start * u + g * (11 * u) + (sl * 11 + j) * 4096 + o % 4096)
  else (r.unitAt u pa).map (fun n => (r.start + n) * u + pa % u)

/-- The TPA of a PA in a basin's mapped part (R345). -/
def Basin.tpaOf (b : Basin) (u pa : Nat) : Option Nat := b.mapped.findSome? (fun r => r.tpaOf u pa)

/-! ### The mirror queue -/

/-- Control state and lines go to the partner, or wait to: the pair is formed, waits to fence (R438), or an ADMIT copies the basins to a joining controller
(R450). -/
def State.mirroring (s : State) : Bool := s.formed || s.get R.PAIR_STATUS F.PAIR_STATUS_STATE == 4 || s.pair.admitting.isSome

/-- Whether writes to a basin are mirrored, or wait to be (R435, R438). -/
def State.mirrors (s : State) (b : Basin) : Bool := b.kind == 2 && !b.shadowHere && s.mirroring

/-- Put the line at a PA in the mirror queue as it now stands; the first write of a line is sent, a later one waits for its
acknowledgement (R435, R437). -/
def State.queueMirror (s : State) (pa shadow tag : Nat) : State :=
  let x := s.pool.line pa
  let w : MirrorWrite := { id := s.pair.nextMirror, pa := pa, shadow := shadow, poison := x.poison, summary := x.summary, heat := x.heat,
                           tag := tag, data := s.pool.bytes pa 64, sent := !(s.pair.mirror.any (fun w => w.pa == pa)) }
  let s := { s with pair := { s.pair with mirror := s.pair.mirror ++ [w], nextMirror := s.pair.nextMirror + 1 } }
  if w.sent then s.sendTwin "MIRROR_WRITE" 1 [w.id % 65536, shadow, (if w.poison then 1 else 0), w.summary, w.heat, tag] w.data else s

/-- What a stored line of a Mirrored basin sets going: a mirror write while the pair is formed, a mark in the resync map while EXPOSED (R435,
R444). -/
def State.mirrorLine (s : State) (pa : Nat) : State :=
  match s.basinAt pa with
  | none => s
  | some (_, b) =>
    if s.mirrors b then
      match b.shadowPa s.unitBytes pa with
      | some sh => s.queueMirror pa sh b.tenant
      | none => s
    else if b.kind = 2 ∧ !b.shadowHere ∧ s.get R.PAIR_STATUS F.PAIR_STATUS_STATE = 3 then
      let m := s.pair.resync
      { s with pair := { s.pair with resync := if m.contains (pa / 65536) then m else m ++ [pa / 65536] } }
    else s

/-- The mirror queue of a line's home has no free entry (R434). -/
def State.mirrorFull (s : State) (pa : Nat) : Bool :=
  4096 ≤ (s.pair.mirror.filter (fun w => w.ctl.isNone && homeOf w.pa == homeOf pa)).length

/-- The mirror writes queued since number `m`: those an operation begun then has made. -/
def State.mirrorsSince (s : State) (m : Nat) : List Nat :=
  (s.pair.mirror.filter (fun w => m ≤ w.id)).map (·.id)

/-- Send a synchronous change of control state to the partner (R73, R253, R367, R434, R439). It waits for its CMP with the mirror writes: while the link is not
ACTIVE, and until a controller that fences has taken over (R438). The packet's TXN is its number. -/
def State.changePartner (s : State) (what : String) (args : List Nat) : State :=
  if s.mirroring then
    let n := s.pair.nextMirror
    let w : MirrorWrite := { id := n, pa := 2 ^ 64 + n, shadow := 0, poison := false, summary := 0, heat := 0, tag := 0, data := [], sent := true,
                             ctl := some (what, args) }
    ({ s with pair := { s.pair with mirror := s.pair.mirror ++ [w], nextMirror := n + 1 } } : State).sendTwin what 5 (n % 65536 :: args) []
  else s

/-- Send a packet once the mirror writes made since number `m` are performed (R436). -/
def State.respondAfter (s : State) (m : Nat) (p : PktOut) : State :=
  if s.mirrorsSince m = [] then s.sendPkt p
  else { s with pair := { s.pair with held := s.pair.held ++ [{ needs := s.mirrorsSince m, pkt := some p, out := none }] } }

/-- Emit an output once the mirror writes made since number `m` are performed (R436). -/
def State.emitAfter (s : State) (m : Nat) (o : Out) : State :=
  if s.mirrorsSince m = [] then s.send o
  else { s with pair := { s.pair with held := s.pair.held ++ [{ needs := s.mirrorsSince m, pkt := none, out := some o }] } }

/-- Send what no longer waits for any mirror write; a job's completion and a mailbox response are left to their units. -/
def State.releaseHeld (s : State) : State :=
  let ready (h : HeldOut) : Bool := h.needs == [] && h.job.isNone && h.mail.isNone
  let go := s.pair.held.filter ready
  let s := { s with pair := { s.pair with held := s.pair.held.filter (fun h => !ready h) } }
  go.foldl (fun s h =>
    match h.pkt, h.out with
    | some p, _ => s.sendPkt p
    | none, some o => s.send o
    | none, none => if h.key then s.putFlag R.SEC_KCMD F.SEC_KCMD_BUSY false else s) s

/-- The key command that runs is BUSY until the mirror writes and changes made since number `m` are performed (R439, R471). -/
def State.keyAfter (s : State) (m : Nat) : State :=
  if s.mirrorsSince m = [] then s
  else
    let h : HeldOut := { needs := s.mirrorsSince m, pkt := none, out := none, key := true }
    State.putFlag { s with pair := { s.pair with held := s.pair.held ++ [h] } } R.SEC_KCMD F.SEC_KCMD_BUSY true

/-- Send the next mirror write of a line, now that none of it is outstanding (R437). -/
def State.sendNextMirror (s : State) (pa : Nat) : State :=
  match s.pair.mirror.find? (fun w => w.pa == pa && !w.sent) with
  | none => s
  | some w =>
    let q := s.pair.mirror.map (fun (v : MirrorWrite) => if v.id = w.id then { v with sent := true } else v)
    let s := { s with pair := { s.pair with mirror := q } }
    s.sendTwin "MIRROR_WRITE" 1 [w.id % 65536, w.shadow, (if w.poison then 1 else 0), w.summary, w.heat, w.tag] w.data

/-- A mirror write is performed, by its MIRROR_ACK or by a local acknowledgement (R436, R438). -/
def State.mirrorDone (s : State) (id : Nat) : State :=
  match s.pair.mirror.find? (fun w => w.id == id) with
  | none => s
  | some w =>
    let p := s.pair
    let hs := p.held.map (fun (h : HeldOut) => { h with needs := h.needs.filter (· != id) })
    let s := { s with pair := { p with mirror := p.mirror.filter (fun v => v.id != id), held := hs } }
    (s.sendNextMirror w.pa).releaseHeld

end Sys2Proof.Machine
end

