-- ==== Sys2Proof/Machine/Mem.lean ====
section
/-!
DEFINITION. Reading and writing one line of the pool: which channel answers, what it answers in each of its states (R195, R196, R229, R420),
the decode of the line (R400), the tag check (R262) and the key slot (R466).
-/
namespace Sys2Proof.Machine

/-- How a channel answers a line access: OK, ERROR or TAG_MISMATCH (R314). -/
inductive MemStat where
  | ok | error | tagMismatch
  deriving DecidableEq, Repr

/-- The answer to a read of a line: status, poison mark, 64 bytes. -/
structure LineRead where
  stat : MemStat
  poison : Bool
  data : List Byte
  deriving DecidableEq, Repr

/-- A line answered as zeros with the poison mark. -/
def poisonedLine (st : MemStat) : LineRead := { stat := st, poison := true, data := zeros 64 }

/-- A registers' offset for channel controller u: POND[u] below 384, SPILL[u − 384] above. -/
def chErr (u : Nat) : Nat := if u < 384 then R.POND_ERR u else R.SPILL_ERR (u - 384)
def chCtrl (u : Nat) : Nat := if u < 384 then R.POND_CTRL u else R.SPILL_CTRL (u - 384)
def chStatus (u : Nat) : Nat := if u < 384 then R.POND_STATUS u else R.SPILL_STATUS (u - 384)
def chSched (u : Nat) : Nat := if u < 384 then R.POND_SCHED u else R.SPILL_SCHED (u - 384)
def chRetrain (u : Nat) : Nat := if u < 384 then R.POND_RETRAIN u else R.SPILL_RETRAIN (u - 384)
def chAct (u : Nat) : Nat := if u < 384 then R.POND_ACT u else R.SPILL_ACT (u - 384)
def chAddr (u : Nat) : Nat := if u < 384 then pondAddr u else spillAddr (u - 384)
/-- ENABLE and FAULT stand at the same bits of POND_CTRL and SPILL_CTRL (R229, R238). -/
def State.chEnabled (s : State) (u : Nat) : Bool := s.flag (chCtrl u) F.POND_CTRL_ENABLE
def State.chFaulted (s : State) (u : Nat) : Bool := s.flag (chCtrl u) F.POND_CTRL_FAULT

/-- Key of a unit in the table of L3 resets (R520: 0 Tarn, 1 Pond, 2 Mere port, 3 Spillway channel). -/
def unitKey (kind idx : Nat) : Nat := 1024 * kind + idx
def chUnitKey (u : Nat) : Nat := if u < 384 then unitKey 1 u else unitKey 3 (u - 384)
/-- A unit in an L3 reset, or leaving one and not yet ready: its wrapper answers (R500, R501). -/
def State.inL3 (s : State) (key : Nat) : Bool := Tbl.get (fun _ => 0) s.rst.units key != 0

/-- The core at a hierarchy address. -/
def coreOf (a : Nat) : Option Nat := (List.range 8).find? (fun i => coreAddr i == a)

/-- Key of the unit reset of an agent's unit (R500), where there is one. -/
def agentUnitKey (a : Nat) : Option Nat :=
  let k := a / 4096
  let q := a / 1024 % 4
  let i := a % 1024
  if k = 2 then some (unitKey 0 (25 * q + i))
  else if k = 3 then some (unitKey 1 (96 * q + i))
  else if k = 4 then some (unitKey 2 (2 * q + i))
  else if k = 5 then some (unitKey 3 (3 * q + i))
  else none

/-- An agent that an L3 reset keeps from taking a message. -/
def State.agentDown (s : State) (a : Nat) : Bool := (agentUnitKey a).elim false (fun k => s.inL3 k)

/-- Bytes of populated capacity of a channel (R238); every Pond is whole. -/
def State.spillBytes (s : State) (j : Nat) : Nat := s.get (R.SPILL_STATUS j) F.SPILL_STATUS_CAP_GIB * 2 ^ 30

/-- Entries of a level in a pseudo-channel's read and write queues (R197). -/
def queueCap (write : Bool) (level : Nat) : Nat :=
  if write then [16, 24, 16, 8].getD level 0 else [16, 48, 12, 4].getD level 0

/-- HOLD of a Spillway channel (R217). -/
def State.chHeld (s : State) (u : Nat) : Bool := 384 ≤ u && s.flag (R.SPILL_CTRL (u - 384)) F.SPILL_CTRL_HOLD

/-- A channel controller runs: not faulted, not in a reset, and a Spillway channel trained and not held (R205, R217, R236, R238, R240). It refreshes, retrains
and fills whether or not it is enabled. -/
def State.chRuns (s : State) (u : Nat) : Bool :=
  !s.chFaulted u && !s.inL3 (chUnitKey u) && s.rst.l2 != 2 && (u < 384 || ((s.chan u).trained && !s.chHeld u))

/-- A channel serves requests: it runs, and ENABLE is 1 (R229, R238). -/
def State.chServes (s : State) (u : Nat) : Bool := s.chEnabled u && s.chRuns u

/-- Where an access to a PA goes. -/
inductive Route where
  | hole                    -- no memory there (R196); Spillway channels 12 to 15 too, which no register describes (R214, log entry 101)
  | spare (u : Nat)         -- a spare row, from a source that may not use it (R195)
  | unpopulated (u : Nat)   -- beyond a Spillway channel's capacity (R214)
  | down (u : Nat)          -- the channel is disabled, in an L3 reset or held in an L2 reset: error response (R229, R500)
  | faulted (u : Nat)       -- the channel is faulted (R420)
  | serve (u : Nat)
  deriving DecidableEq, Repr

def State.routeOf (s : State) (pa : Nat) (repair : Bool) : Route :=
  match unitOf pa with
  | none => .hole
  | some u =>
    if isSpare pa && !repair then .spare u
    else if 384 ≤ u && s.spillBytes (u - 384) ≤ spillOff pa then .unpopulated u
    else if s.chFaulted u then .faulted u
    else if !s.chServes u then .down u
    else .serve u

/-- The error bits of an access that no channel serves. -/
def State.routeErr (s : State) : Route → State
  | .spare u => s.setErr (R.POND_ERR u) F.POND_ERR_UNMAPPED
  | .unpopulated u => s.setErr (R.SPILL_ERR (u - 384)) F.SPILL_ERR_UNPOPULATED
  | _ => s

/-- 64 bytes from a free source, for line number `n` of the draws. -/
def freeLine (f : Nat → Nat → Byte) (n : Nat) : List Byte := (List.range 64).map (f n)

/-- The data bits of an access's line under a key slot: as stored when the line is under that key, else unpredictable (R463). -/
def State.decrypt (s : State) (x : Side) (kslot : Nat) (d : List Byte) : List Byte :=
  if x.kslot = kslot ∧ x.kgen = s.slotGen kslot then d else freeLine Config.wrongKey s.fresh

/-- Latch and count an uncorrectable line (R400). -/
def State.logUE (s : State) (pa : Nat) : State :=
  let s := s.bump R.RAS_CNT_UE
  let s := if s.flag R.RAS_UELOG F.RAS_UELOG_VALID then s
    else (s.put R.RAS_UELOG F.RAS_UELOG_PA pa).put R.RAS_UELOG F.RAS_UELOG_VALID 1
  let q := s.ras.ueLines
  let s := { s with ras := { s.ras with ueLines := if q.contains (pa / 64) then q else q ++ [pa / 64] } }
  s.setErr R.RAS_ERR F.RAS_ERR_UE

/-- Latch the first tag mismatch and count it (R262). -/
def State.logTag (s : State) (pa expected found : Nat) : State :=
  let s := s.bump R.XLAT_CNT_TAG_MISMATCH
  let s := if s.flag R.XLAT_TAGERR F.XLAT_TAGERR_VALID then s
    else (((s.put R.XLAT_TAGERR F.XLAT_TAGERR_EXPECTED expected).put R.XLAT_TAGERR F.XLAT_TAGERR_FOUND found).put
      R.XLAT_TAGERR F.XLAT_TAGERR_VALID 1).put R.XLAT_TAGADDR F.XLAT_TAGADDR_PA (pa / 64 * 64)
  s.setErr R.XLAT_ERR F.XLAT_ERR_TAG_MISMATCH

/-- Read the line at a PA through its channel: `tenant` is the tenant the access carries, or none where no check is taken (R262). -/
def State.readLine (s : State) (pa : Nat) (tenant : Option Nat) (kslot : Nat) (repair : Bool := false) : State × LineRead :=
  let la := pa / 64 * 64
  match s.routeOf la repair with
  | .faulted _ => (s, poisonedLine .ok)
  | .serve u =>
    let s := (s.bump (chCnt u 0)).noteRow u la
    if !s.slotFull kslot then (s, poisonedLine .error)
    else
      let x := s.pool.line la
      if !x.valid then
        (s.tick.logUE la, { stat := .ok, poison := true, data := freeLine Config.asRead s.fresh })
      else match tenant with
        | some t =>
          if x.tag ≠ t then (s.logTag la t x.tag, poisonedLine .tagMismatch)
          else
            let s := if x.poison then s.bump R.RAS_CNT_POISON_READ else s
            (s.tick, { stat := .ok, poison := x.poison, data := s.decrypt x kslot (s.pool.bytes la 64) })
        | none =>
          let s := if x.poison then s.bump R.RAS_CNT_POISON_READ else s
          (s.tick, { stat := .ok, poison := x.poison, data := s.decrypt x kslot (s.pool.bytes la 64) })
  | r => (s.routeErr r, poisonedLine .error)

/-- Store a full line, which its channel counts: data, poison from the write, a fresh check code, the tag as R262 states; the home alone changes the summary (R344). -/
def State.storeLine (s : State) (la : Nat) (x : Side) (kslot : Nat) (tag : Nat) (poison : Bool) (d : List Byte) : State :=
  let x' : Side := { x with poison := poison, valid := true, tag := tag, kslot := kslot, kgen := s.slotGen kslot }
  State.wrote { s with pool := (s.pool.writeBytes la (d.take 64)).setLine la x' } la

/-- Write a full line at a PA through its channel (R262, R401, R420, R466), mirrored when its basin is (R435). -/
def State.writeLine (s : State) (pa : Nat) (tenant : Option Nat) (kslot : Nat) (poison : Bool) (d : List Byte)
    (repair : Bool := false) : State × MemStat :=
  let la := pa / 64 * 64
  match s.routeOf la repair with
  | .serve _ =>
    if !s.slotFull kslot then (s, .error)
    else
      let x := s.pool.line la
      match tenant with
      | none => ((s.storeLine la x kslot x.tag poison d).mirrorLine la, .ok)
      | some t =>
        if !x.valid then (((s.bump R.XLAT_CNT_TAG_UNCHECKED).storeLine la x kslot t poison d).mirrorLine la, .ok)
        else if x.tag ≠ t then (s.logTag la t x.tag, .tagMismatch)
        else ((s.storeLine la x kslot x.tag poison d).mirrorLine la, .ok)
  | r => (s.routeErr r, .error)

/-- A read of a line's bits as stored, by the memory system's own engines: no tenant's check, no key (R262, R397). -/
def State.readStored (s : State) (pa : Nat) (repair : Bool := false) : State × LineRead :=
  let la := pa / 64 * 64
  match s.routeOf la repair with
  | .faulted _ => (s, poisonedLine .ok)
  | .serve u =>
    let s := (s.bump (chCnt u 0)).noteRow u la
    let x := s.pool.line la
    if x.valid then (if x.poison then s.bump R.RAS_CNT_POISON_READ else s, { stat := .ok, poison := x.poison, data := s.pool.bytes la 64 })
    else (s.tick.logUE la, { stat := .ok, poison := true, data := freeLine Config.asRead s.fresh })
  | r => (s.routeErr r, poisonedLine .error)

/-- A write of a line's bits as they are to be stored, with its side storage and a fresh check code; the key they are under is the one `x` names (R397). -/
def State.writeStored (s : State) (pa : Nat) (x : Side) (d : List Byte) (repair : Bool := false) : State × MemStat :=
  let la := pa / 64 * 64
  match s.routeOf la repair with
  | .serve _ => (State.wrote { s with pool := (s.pool.writeBytes la (d.take 64)).setLine la { x with valid := true } } la, .ok)
  | r => (s.routeErr r, .error)

/-- A partial write by an agent without a cache: read, merge, write; a poisoned line stays poisoned (R401, R358). `off` is within the line. -/
def State.mergeLine (s : State) (pa : Nat) (tenant : Option Nat) (kslot : Nat) (off : Nat) (d : List Byte) : State × MemStat :=
  let la := pa / 64 * 64
  match s.readLine la tenant kslot with
  | (s, r) =>
    match r.stat with
    | .ok =>
      let new := r.data.take off ++ d ++ r.data.drop (off + d.length)
      s.writeLine la tenant kslot r.poison (new.take 64)
    | st => (s, st)

/-- Read `n` bytes from a PA, line by line; poison if any line is; the first status that is not OK. -/
def State.readPa (s : State) (pa : Nat) (tenant : Option Nat) (kslot : Nat) : Nat → State × LineRead
  | 0 => (s, { stat := .ok, poison := false, data := [] })
  | n + 1 =>
    match s.readLine pa tenant kslot with
    | (s, r) =>
      match State.readPa s (pa + 64) tenant kslot n with
      | (s, r') => (s, { stat := if r.stat = .ok then r'.stat else r.stat, poison := r.poison || r'.poison, data := r.data ++ r'.data })

/-- Read `lines` lines of the BAR2 window from a line-aligned offset (R529). -/
def State.readBar2 (s : State) (o lines : Nat) : State × LineRead :=
  s.readPa (bar2 o) none (if o < 0x3000000 then 256 else 257) lines

/-- What the node host gets from a naturally aligned read of `n` bytes, at most 512, at BAR2 offset `o` (R529): the bytes, or none, a poisoned TLP that is reported
through AER, when a line of it is poisoned, its area's key slot EMPTY included. The command table has no row for the read itself. -/
def State.hostBar2 (s : State) (o n : Nat) : State × Option (List Byte) :=
  match s.readBar2 (o / 64 * 64) ((o % 64 + n + 63) / 64) with
  | (s, r) => (s, if r.poison || r.stat != .ok then none else some ((r.data.drop (o % 64)).take n))

/-- Write bytes at a line-aligned BAR2 offset, in whole lines padded with zeros. -/
def State.writeBar2 (s : State) (o : Nat) (bs : List Byte) : State :=
  let k := if o < 0x3000000 then 256 else 257
  (List.range ((bs.length + 63) / 64)).foldl (fun s i =>
    (s.writeLine (bar2 o + 64 * i) none k false ((bs.drop (64 * i)).take 64 ++ zeros 64)).1) s

/-! ### The response ring of the mailbox (R533, R534) -/

/-- The response of the mailbox command that runs: one 32 B write, then vector 0. -/
def State.answerMail (s : State) (tag status result : Nat) : State :=
  let k := s.get R.MGMT_CMD_PTR F.MGMT_CMD_PTR_DONE
  let b := leBytes tag 4 ++ leBytes status 1 ++ leBytes (1 - k / 256 % 2) 1 ++ leBytes 0 2 ++ leBytes result 8 ++ leBytes 0 16
  let a := bar2 (0x2004000 + 32 * (k % 256))
  let s := (s.mergeLine (a / 64 * 64) none 256 (a % 64) b).1
  let s := (s.put R.MGMT_CMD_PTR F.MGMT_CMD_PTR_DONE (k + 1)).putFlag R.MGMT_STATUS F.MGMT_STATUS_MBX_BUSY false
  (s.bump R.MGMT_CNT_MBX_CMDS).interrupt 0

end Sys2Proof.Machine
end

