-- ==== Sys2Proof/Machine/Stripe.lean ====
section
/-!
DEFINITION. Cross-stack parity (R412 to R419): reading and writing a line of a Protected basin, and the one way every agent reads or writes a line
of the pool by its PA.
-/
namespace Sys2Proof.Machine

/-- Destination of a rebuilt 4 KiB unit `n` of stack `f` (R418). -/
def spareUnit (f n : Nat) : Nat :=
  let k := n % 11
  let st := if k < f then k else k + 1
  st * 2 ^ 36 + 0xF00000000 + n / 11 * 4096

/-- A stack is degraded or has been rebuilt: its state is not healthy (R417, R418). -/
def State.stackState (s : State) (f : Nat) : Nat := s.get (R.RAS_STACK f) F.RAS_STACK_STATE
def State.watermark (s : State) (f : Nat) : Nat := s.get (R.RAS_STACK f) F.RAS_STACK_WATERMARK

/-- Where the member of a stripe line on stack `m` at stack offset `o` is: its copy in the spare once rebuilt, else its own place, while the Pond there runs; or
nowhere (R417 to R419). -/
def State.memberPa (s : State) (m o : Nat) : Option (Nat × Bool) :=
  let rebuilt : Bool := s.stackState m != 0 && o / 4096 < s.watermark m
  let pa := if rebuilt then spareUnit m (o / 4096) + o % 4096 else m * 2 ^ 36 + o
  if (unitOf pa).elim true s.chFaulted then none else some (pa, rebuilt)

/-- One member's line as stored, and whether it may be used. -/
def State.readMember (s : State) (m o : Nat) : State × Bool × List Byte :=
  match s.memberPa m o with
  | none => (s, false, zeros 64)
  | some (pa, rep) =>
    match s.readStored pa rep with
    | (s, r) => (s, r.stat == .ok && !r.poison, r.data)

def xorBytes (a b : List Byte) : List Byte := List.zipWith (· ^^^ ·) a b

/-- XOR of the same line in the given stacks, and whether all could be used (R416). -/
def State.xorMembers (s : State) (o : Nat) : List Nat → State × Bool × List Byte
  | [] => (s, true, zeros 64)
  | m :: t =>
    match s.readMember m o with
    | (s, ok, d) =>
      match State.xorMembers s o t with
      | (s, ok', d') => (s, ok && ok', xorBytes d d')

/-- Reconstruct the line of stack `m` from the other eleven, over the bits as stored; one that cannot be is a stripe line lost, and poisoned, with data that is
not stated (R412, R416). -/
def State.reconstruct (s : State) (m o : Nat) : State × Bool × List Byte :=
  match s.xorMembers o ((List.range 12).filter (· != m)) with
  | (s, ok, d) => if ok then (s, true, d) else (s.tick.setErr R.RAS_ERR F.RAS_ERR_STRIPE_LOST, false, freeLine Config.asRead s.fresh)

/-- Parity stack of the stripe line at a stack offset, in a run that begins at unit offset `base` (R412). -/
def parityStack (base u o : Nat) : Nat := ((o - base * u) % u / 4096) % 12

/-- The STRIPE run of a Protected basin that holds a PA (R413). -/
def State.stripeOf (s : State) (pa : Nat) : Option Run :=
  if pa < fastTop then
    match s.basinAt pa with
    | none => none
    | some (_, b) => b.mapped.find? (fun r => r.striped && (r.locate s.unitBytes pa).isSome)
  else none

/-- Write the parity line of a stripe line afresh, from the new line of stack `m` and the other ten data lines: poisoned when one of them cannot be used (R415,
R417), or the new line, which is not stored, carries the mark. -/
def State.recomputeParity (s : State) (p m o : Nat) (bad : Bool) (new : List Byte) : State :=
  match s.xorMembers o ((List.range 12).filter (fun i => i != m && i != p)) with
  | (s, ok, d) =>
    match s.memberPa p o with
    | none => s
    | some (pa, rep) => (s.writeStored pa { s.pool.line pa with poison := !ok || bad } (xorBytes new d) rep).1

/-- The channel of a member serves it. -/
def State.serves (s : State) (pa : Nat) (repair : Bool) : Bool :=
  match s.routeOf pa repair with
  | .serve _ => true
  | _ => false

/-- Read a line of the pool by its PA: a member lost to a faulted Pond, or uncorrectable, is reconstructed, and the reconstructed line is written
back, with the summary that makes the next access broadcast (R400, R408, R416, R417). Log entry 58. -/
def State.memRead (s : State) (pa : Nat) (tenant : Option Nat) (kslot : Nat) : State × LineRead :=
  match s.stripeOf pa with
  | none => s.readLine pa tenant kslot
  | some _ =>
    let la := pa / 64 * 64
    let m := fastStack la
    let o := bitsOf la 0 36
    let key := s.pool.line la
    let rebuilt (s : State) : State × Bool × LineRead :=
      match s.reconstruct m o with
      | (s, ok, d) => (s.bump R.RAS_CNT_RECONSTRUCTED, ok, { stat := .ok, poison := !ok, data := d })
    match s.memberPa m o with
    | none =>
      if !s.slotFull kslot then (s, poisonedLine .error)
      else match rebuilt s with
        | (s, ok, r) => (s, if ok then { r with data := s.decrypt key kslot r.data } else r)
    | some (at_, rep) =>
      let x := s.pool.line at_
      if x.valid || !s.slotFull kslot || !s.serves at_ rep then s.readLine at_ tenant kslot rep
      else
        match rebuilt (s.bump R.RAS_CNT_UE) with
        | (s, ok, r) =>
          let t := tenant.getD ((s.basinAt la).elim 0 (·.2.tenant))
          ((s.writeStored at_ { x with tag := t, poison := !ok, summary := 2, heat := 0 } r.data rep).1,
            if ok then { r with data := s.decrypt x kslot r.data } else r)

/-- Write a line of the pool by its PA. On a Protected basin the parity line takes the difference of old and new (R414); it is recomputed when the
old line is uncorrectable or poisoned (R415), the parity line is uncorrectable, or the data member is lost; a lost parity member is left (R417). Of a lost data
line only the key it is under is kept, with which its reconstruction is read. -/
def State.memWrite (s : State) (pa : Nat) (tenant : Option Nat) (kslot : Nat) (poison : Bool) (d : List Byte) : State × MemStat :=
  match s.stripeOf pa with
  | none => s.writeLine pa tenant kslot poison d
  | some r =>
    let la := pa / 64 * 64
    let m := fastStack la
    let o := bitsOf la 0 36
    let p := parityStack r.base s.unitBytes o
    match s.memberPa m o with
    | none =>
      if !s.slotFull kslot then (s, .error)
      else
        let x : Side := { s.pool.line la with kslot := kslot, kgen := s.slotGen kslot }
        (State.recomputeParity { s with pool := s.pool.setLine la x } p m o poison d, .ok)
    | some (at_, rep) =>
      let old := s.pool.line at_
      let was := s.pool.bytes at_ 64
      match s.writeLine at_ tenant kslot poison d rep with
      | (s, st) =>
        if st ≠ .ok then (s, st)
        else
          match s.memberPa p o with
          | none => (s, .ok)
          | some (pp, prep) =>
            if old.valid && !old.poison && (s.pool.line pp).valid then
              match s.readStored pp prep with
              | (s, q) => ((s.writeStored pp { s.pool.line pp with poison := q.poison } (xorBytes q.data (xorBytes was d)) prep).1, .ok)
            else (s.recomputeParity p m o false d, .ok)

/-- Where a line's data stands: a Protected line's where its member is, if that is anywhere (R417, R418). -/
def State.standsAt (s : State) (pa : Nat) : Option Nat :=
  match s.stripeOf pa with
  | none => some pa
  | some _ => (s.memberPa (fastStack pa) (bitsOf (pa / 64 * 64) 0 36)).map (·.1)

/-- Mark a line poisoned where it stands, its data kept; one that stands nowhere by its parity line, from which it is reconstructed (R415, R416). -/
def State.markPoison (s : State) (pa : Nat) : State :=
  let mark (s : State) (a : Nat) : State := State.wrote { s with pool := s.pool.setLine a { s.pool.line a with poison := true } } a
  match s.standsAt pa, s.stripeOf pa with
  | some a, _ => mark s a
  | none, some r =>
    let o := bitsOf (pa / 64 * 64) 0 36
    (s.memberPa (parityStack r.base s.unitBytes o) o).elim s (fun q => mark s q.1)
  | none, none => s

end Sys2Proof.Machine
end

