-- ==== Sys2Proof/Machine/Translate.lean ====
section
/-!
DEFINITION. Address translation (R247 to R258) with the caches of Tarns and Stewards (R254), the fault queue (R259 to R261), and the checks and answers of
a TABLE_SYNC (R252).
-/
namespace Sys2Proof.Machine

def State.tenantOf (s : State) (t : Nat) : Option Tenant := Tbl.get (fun _ => none) s.xlat.tenants t
def State.boundTo (s : State) (ep : Nat) : Option Nat := Tbl.get (fun _ => none) s.xlat.bound ep
def State.contextOf (s : State) (asid : Nat) : Option Nat := Tbl.get (fun _ => none) s.xlat.contexts asid
/-- What translation finds for a byte (R247): its PA, the basin and the tenant it belongs to, and the run when the basin is Protected (R413). -/
structure Found where
  pa : Nat
  basin : Nat
  tenant : Nat
  striped : Bool
  deriving DecidableEq, Repr

/-- Kinds of translation fault (R259). -/
inductive XFault where
  | unbound | context | s1Unmapped | s1Perm | s2Unmapped | basinClosing
  deriving DecidableEq, Repr

def XFault.code : XFault → Nat
  | .unbound => 0 | .context => 1 | .s1Unmapped => 2 | .s1Perm => 3 | .s2Unmapped => 4 | .basinClosing => 5

/-- Stage-2 lookup of one TPA byte in a run (R249, R412): the PA, and whether it is striped. -/
def Run.paOf (r : Run) (u tpa : Nat) : Option (Nat × Bool) :=
  if r.start ≤ tpa / u && tpa / u < r.start + r.len then
    (if r.striped then some (r.stripePa u (tpa - r.start * u), true) else some (r.unitPa u (tpa / u - r.start) + tpa % u, false))
  else none

/-- Stage-2 lookup of one TPA byte in a basin's mapped part. -/
def Basin.paOf (b : Basin) (u tpa : Nat) : Option (Nat × Bool) := b.mapped.findSome? (fun r => r.paOf u tpa)

/-- Whether this controller serves a basin: its own, once it has been filled (R244), or one it took over (R430, R446). -/
def Basin.servedHere (b : Basin) : Bool := (!b.shadowHere || b.takenOver) && !b.destroyed && !b.making

/-- A translation cache (R254): Tarn t is 8 + t, Steward q is 108 + q. -/
def State.cache (s : State) (h : Nat) : List XEnt := Tbl.get (fun _ => []) s.xlat.caches h
def State.setCache (s : State) (h : Nat) (l : List XEnt) : State :=
  { s with xlat := { s.xlat with caches := Tbl.set (fun _ => []) s.xlat.caches h l } }

/-- The stage-2 entry of a tenant's TPA byte, as basin and run: from a cache, else from the replica. -/
def State.find2 (s : State) (c : List XEnt) (t tpa : Nat) : Option (Nat × Run) :=
  let hit (r : Run) : Bool := r.start ≤ tpa / s.unitBytes && tpa / s.unitBytes < r.start + r.len
  (c.findSome? (fun e => match e with | .s2 t' b r => if t' = t ∧ hit r then some (b, r) else none | .s1 _ => none)).or
    (s.basins.findSome? (fun e => if e.2.tenant = t ∧ e.2.servedHere then (e.2.mapped.find? hit).map (fun r => (e.1, r)) else none))

/-- Checks 5 and 6 of R257 for one TPA byte of a tenant, with a translator's cache; a Mere translator has a replica and no cache (R254). -/
def State.stage2 (s : State) (t tpa : Nat) (c : List XEnt := []) : Except XFault Found :=
  match s.find2 c t tpa with
  | none => .error .s2Unmapped
  | some (b, r) =>
    if (s.basin b).elim false (·.closing) then .error .basinClosing
    else match r.paOf s.unitBytes tpa with
      | none => .error .s2Unmapped
      | some (pa, st) => .ok { pa := pa, basin := b, tenant := t, striped := st }

/-- The stage-1 entry of a VA byte: from a cache, else from the replica. -/
def State.find1 (s : State) (c : List XEnt) (asid va : Nat) : Option S1Entry :=
  let hit (e : S1Entry) : Bool := e.asid == asid && e.va ≤ va / s.unitBytes && va / s.unitBytes < e.va + e.len
  (c.findSome? (fun e => match e with | .s1 x => if hit x then some x else none | .s2 .. => none)).or (s.xlat.s1.find? hit)

/-- Checks 3 and 4 of R257 for one VA byte: the TPA byte. -/
def State.stage1 (s : State) (asid va : Nat) (write : Bool) (c : List XEnt := []) : Except XFault Nat :=
  let u := s.unitBytes
  match s.find1 c asid va with
  | none => .error .s1Unmapped
  | some e => if (if write then e.write else e.read) then .ok ((e.tpa + (va / u - e.va)) * u + va % u) else .error .s1Perm

/-- All six checks of R257 for one byte named by an endpoint. -/
def State.translate (s : State) (ep asid va : Nat) (write : Bool) (c : List XEnt := []) : Except XFault Found :=
  match s.boundTo ep with
  | none => .error .unbound
  | some t =>
    if s.contextOf asid ≠ some t then .error .context
    else match s.stage1 asid va write c with
      | .error f => .error f
      | .ok tpa => s.stage2 t tpa c

/-- The first bytes of the pieces of a range that lie in one translation unit each (R257). -/
def pieces (u a n : Nat) : List Nat :=
  if n = 0 then [] else a :: (List.range ((a + n - 1) / u - a / u)).map (fun i => (a / u + 1 + i) * u)

/-- Check a whole range (R257): every check is made on all of it before the next, and the first that fails refuses it: its fault, the lowest byte that fails
it, and whether other bytes passed every check. -/
def checkRange (f : Nat → Except XFault Found) (u a n : Nat) : Option (XFault × Nat × Bool) :=
  let ps := (pieces u a n).map (fun p => (p, f p))
  let bad := ps.filterMap (fun p => match p.2 with | .error x => some (x, p.1) | .ok _ => none)
  let first := bad.foldl (fun k x => min k x.1.code) 6
  (bad.find? (fun x => x.1.code == first)).map (fun x => (x.1, x.2, ps.any (fun q => q.2.toOption.isSome)))

/-- Where a faulting access came from (R259). -/
structure FaultSrc where
  endpoint : Nat
  srcKind : Nat
  srcIndex : Nat
  deriving DecidableEq, Repr

/-- Queue one fault, or count the overflow (R259, R260): true when the answer is FAULT, false when it is FAULT_QUEUE_FULL. -/
def State.takeFault (s : State) (src : FaultSrc) (tenant asid : Nat) (k : XFault) (write straddle : Bool) (va tpa : Nat) : State × Bool :=
  let s := if k.code ≤ 3 then s.bump R.XLAT_CNT_S1_FAULTS else s.bump R.XLAT_CNT_S2_FAULTS
  let s := if straddle then s.bump R.XLAT_CNT_STRADDLE else s
  let head := s.get R.XLAT_FQ_PTR F.XLAT_FQ_PTR_HEAD
  let tail := s.get R.XLAT_FQ_PTR F.XLAT_FQ_PTR_TAIL
  if (tail + 2048 - head) % 2048 = 1024 then
    let s := if s.get R.XLAT_FQ_OVF F.XLAT_FQ_OVF_COUNT = 0 then
        (s.put R.XLAT_FQ_OVFADDR F.XLAT_FQ_OVFADDR_VA va).put R.XLAT_FQ_OVFADDR F.XLAT_FQ_OVFADDR_ENDPOINT src.endpoint
      else s
    ((s.bumpSat R.XLAT_FQ_OVF F.XLAT_FQ_OVF_COUNT).setErr R.XLAT_ERR F.XLAT_ERR_FQ_OVERFLOW, false)
  else
    let w0 := src.endpoint + tenant * 2 ^ 12 + asid * 2 ^ 20 + k.code * 2 ^ 36 + (if write then 2 ^ 39 else 0)
      + (if straddle then 2 ^ 40 else 0) + src.srcIndex * 2 ^ 48 + src.srcKind * 2 ^ 55 + 2 ^ 63
    let e := tail % 1024
    let s := (((s.setReg (R.XLAT_FQ_ENTRY e 0) (BitVec.ofNat 64 w0)).setReg (R.XLAT_FQ_ENTRY e 1) (BitVec.ofNat 64 va)).setReg
      (R.XLAT_FQ_ENTRY e 2) (BitVec.ofNat 64 (if 4 ≤ k.code then tpa else 0))).setReg (R.XLAT_FQ_ENTRY e 3)
      (BitVec.ofNat 64 ((s.reg R.WELL_MCYCLE).toNat % 2 ^ 32))
    ((s.put R.XLAT_FQ_PTR F.XLAT_FQ_PTR_TAIL (tail + 1)).setErr R.XLAT_ERR F.XLAT_ERR_FAULT, true)

/-- The TPA of a VA byte for the fault record, when stage 1 maps it. -/
def State.tpaFor (s : State) (asid va : Nat) (write : Bool) : Nat := ((s.stage1 asid va write).toOption).getD 0

/-- An entry goes into a cache of `cap` places that lacks it; the oldest makes room (R254). Log entry 99. -/
def State.cacheEnt (s : State) (h cap : Nat) (e : XEnt) : State :=
  let l := s.cache h
  if l.contains e then s else s.setCache h ((l ++ [e]).drop (l.length + 1 - cap))

/-- The cache a translator of an access has: a Tarn's, with 64 entries (R254). -/
def FaultSrc.cacheOf (f : FaultSrc) : Option Nat := if f.srcKind = 1 then some (8 + f.srcIndex) else none

/-- A Tarn's cache takes the entries of an access from the nearest replica (R254). -/
def State.fillCache (s : State) (src : FaultSrc) (asid va n : Nat) : State :=
  match src.cacheOf with
  | none => s
  | some h => (pieces s.unitBytes va n).foldl (fun s a =>
    match s.find1 [] asid a, s.contextOf asid with
    | some e, some t =>
      let tpa := (e.tpa + (a / s.unitBytes - e.va)) * s.unitBytes
      let s := s.cacheEnt h 64 (.s1 e)
      match s.find2 [] t tpa with
      | some (b, r) => s.cacheEnt h 64 (.s2 t b r)
      | none => s
    | _, _ => s) s

/-- Translate a whole access of an endpoint (R257): its bytes' translations start at `va`; a fault is queued at once. The Bool is as takeFault's. -/
def State.access (s : State) (src : FaultSrc) (asid va n : Nat) (write : Bool) : State × Except Bool Found :=
  let c := src.cacheOf.elim [] s.cache
  match checkRange (fun a => s.translate src.endpoint asid a write c) s.unitBytes va n with
  | some (k, a, st) =>
    let t := match s.boundTo src.endpoint with | none => 0 | some t => t
    match s.takeFault src t asid k write st a (s.tpaFor asid a write) with
    | (s, b) => (s, .error b)
  | none =>
    match s.translate src.endpoint asid va write c with
    | .ok f => (s.fillCache src asid va n, .ok f)
    | .error _ => (s, .error true)

/-! ### Stage-1 syncs and invalidations -/

/-- Send a synchronous control change to the partner while the pair is formed: a bulk write on the Twin link (R434, R439). The model takes the
partner's acceptance at once; where the partner may refuse, its answer is the command's operand. Log entry 34. -/
def State.toPartner (s : State) (what : String) (args : List Nat) : State :=
  if s.formed || s.pair.admitting.isSome then s.sendTwin what 5 args [] else s

/-- Whether the entries of a sync are well placed (check 3 of R252): inside the range, of non-zero length, ascending, not overlapping. -/
def entriesOk (lo hi : Nat) (full : Bool) : List S1Entry → Bool
  | [] => true
  | e :: t =>
    let widths := if full then e.va < 2 ^ 22 && e.tpa < 2 ^ 16 && e.len == 1 else e.va < 2 ^ 31 && e.tpa < 2 ^ 25 && e.len < 2 ^ 25
    widths && 0 < e.len && lo ≤ e.va && e.va + e.len ≤ hi && entriesOk (e.va + e.len) hi full t

/-- How a TABLE_SYNC is answered (R252, R256). -/
inductive SyncAnswer where
  | ok | retryAfter | denied | range | full | context
  deriving DecidableEq, Repr

/-- STATUS of R311. -/
def SyncAnswer.code : SyncAnswer → Nat
  | .ok => 0x00 | .retryAfter => 0x01 | .denied => 0x0A | .range => 0x0B | .full => 0x0C | .context => 0x0D

/-- Checks 3 and 4 of R252, made by the Wellhead. -/
def State.syncStatus (s : State) (r : SyncReq) : SyncAnswer :=
  let lo := r.rangeUnit
  let hi := r.rangeUnit + r.rangeLen
  let mine := s.xlat.s1.filter (fun e => e.asid == r.asid)
  let inside (e : S1Entry) : Bool := lo ≤ e.va && e.va + e.len ≤ hi
  let crosses (e : S1Entry) : Bool := !inside e && e.va < hi && lo < e.va + e.len
  let left := s.xlat.s1.length - (mine.filter inside).length + r.entries.length
  let tenant := (s.contextOf r.asid).getD 0
  let ours := s.xlat.s1.filter (fun e => s.contextOf e.asid == some tenant && !(e.asid == r.asid && inside e))
  let quota := match s.tenantOf tenant with | none => 0 | some t => t.quota
  if !r.wellFormed || r.rangeLen = 0 || !entriesOk lo hi (s.flag R.XLAT_CFG F.XLAT_CFG_MODE) r.entries || mine.any crosses then .range
  else if 65536 < left || quota < ours.length + r.entries.length then .full
  else .ok

def State.answerSync (s : State) (ep tid tag : Nat) (a : SyncAnswer) : State :=
  let s := if a = .ok then s.bump R.XLAT_CNT_SYNCS
    else if a = .retryAfter then s.bump R.XLAT_CNT_SYNC_REFUSED
    else (s.bump R.XLAT_CNT_SYNC_REFUSED).setErr R.XLAT_ERR F.XLAT_ERR_SYNC_REFUSED
  s.sendPkt { op := "CMP", cls := 0, ep := ep, txn := tid, status := a.code, args := [tag] }

/-- The pending bits an XLAT command leaves when it completes (R264 to R267). -/
def State.xlatDone (s : State) (status res : Nat) : State :=
  let s := (s.put R.XLAT_CMD F.XLAT_CMD_STATUS status).putFlag R.XLAT_CMD F.XLAT_CMD_BUSY false
  (s.setReg R.XLAT_CMDRES (BitVec.ofNat 64 res)).setErr R.XLAT_ERR F.XLAT_ERR_CMD_DONE

end Sys2Proof.Machine
end

