-- ==== Sys2Proof/Machine/Operands.lean ====
section
/-!
DEFINITION. The forms a command's operands take: the header words of fabric packets (R307, R308), and what makes a packet malformed (R309).
-/
namespace Sys2Proof.Machine

/-! ### Word 0 (R307) -/
def pkClass (w : Nat) : Nat := bitsOf w 0 3
def pkOp (w : Nat) : Nat := bitsOf w 3 5
def pkEp (w : Nat) : Nat := bitsOf w 8 12
def pkTxn (w : Nat) : Nat := bitsOf w 20 16
def pkLen16 (w : Nat) : Nat := bitsOf w 36 9
def pkResent (w : Nat) : Bool := bitOf w 45
def pkPriv (w : Nat) : Bool := bitOf w 46
def pkPoison (w : Nat) : Bool := bitOf w 47
def pkTenant (w : Nat) : Nat := bitsOf w 48 8
def pkStatus (w : Nat) : Nat := bitsOf w 56 8

/-! ### Word 1 (R308) -/
def adAsid (w : Nat) : Nat := bitsOf w 0 16
def adVa (w : Nat) : Nat := bitsOf w 16 46 * 64
def adReserved (w : Nat) : Nat := bitsOf w 62 2
def tenTpa (w : Nat) : Nat := bitsOf w 16 40 * 64
def tenLines (w : Nat) : Nat := bitsOf w 56 6 + 1
def tenReserved (w : Nat) : Nat := bitsOf w 0 16 + bitsOf w 62 2
def phPa (w : Nat) : Nat := bitsOf w 0 48
def phReserved (w : Nat) : Nat := bitsOf w 48 16 + bitsOf w 0 6
def inReserved (w : Nat) : Nat := bitsOf w 0 64
def ptTotal (w : Nat) : Nat := bitsOf w 0 9 + 1
def ptSeq (w : Nat) : Nat := bitsOf w 9 9
def ptReserved (w : Nat) : Nat := bitsOf w 18 46

/-- Whether a packet is of a class and OP, with a payload of the length its header states and that R309 lists, and its word 1 has no reserved bit
set. -/
def pkFormed (w0 cls op reserved : Nat) (payload : List Byte) (lengths : List Nat) : Bool :=
  pkClass w0 == cls && pkOp w0 == op && payload.length == 16 * pkLen16 w0 && lengths.contains payload.length && reserved == 0

/-- The bytes of a packet as it lay in the receive buffer. -/
def pkBytes (w0 w1 : Nat) (payload : List Byte) : List Byte := leBytes w0 8 ++ leBytes w1 8 ++ payload

/-- A malformed packet: counted and flagged (R309). -/
def State.badPacket (s : State) : State := (s.bump R.SHAL_CNT_BAD_PACKETS).setErr R.SHAL_ERR F.SHAL_ERR_BAD_PACKET

/-- A CMP to a client with a status (R309, R314). -/
def cmpTo (ep txn status : Nat) : PktOut := { op := "CMP", cls := 0, ep := ep, txn := txn, status := status }

/-- A CMP about a basin: TENANT is its tenant (R307). -/
def cmpFor (tenant ep txn status : Nat) : PktOut := { cmpTo ep txn status with tenant := tenant }

/-- Status codes of R311. -/
def stOk : Nat := 0x00
def stRetryAfter : Nat := 0x01
def stFault : Nat := 0x02
def stFaultQueueFull : Nat := 0x03
def stTagMismatch : Nat := 0x04
def stError : Nat := 0x05
def stDenied : Nat := 0x06
def stDoorbellDenied : Nat := 0x07
def stInletDisabled : Nat := 0x08
def stDoorbellRange : Nat := 0x09
def stUnsupported : Nat := 0x0E

def MemStat.code : MemStat → Nat
  | .ok => stOk | .tagMismatch => stTagMismatch | .error => stError

/-- The first of TAG_MISMATCH or ERROR that any line met (R314). -/
def worse (a b : MemStat) : MemStat := if a = .ok then b else a

/-- A request's record: a RESENT request that matches one is a duplicate (R293). Endpoint 4,096 stands for the partner (R296). -/
def State.isDuplicateOf (s : State) (ep w0 : Nat) : Bool :=
  pkResent w0 && s.fab.records.any (fun r => r.ep == ep && r.txn == pkTxn w0)

def State.isDuplicate (s : State) (w0 : Nat) : Bool := s.isDuplicateOf (pkEp w0) w0

def State.record (s : State) (ep txn : Nat) : State :=
  { s with fab := { s.fab with records := s.fab.records ++ [{ ep := ep, txn := txn, answered := false }] } }

/-- A malformed packet from a client (R309): a Request or Bulk packet is answered UNSUPPORTED, any other discarded. -/
def State.malformed (s : State) (w0 : Nat) : State :=
  if pkClass w0 = 4 ∨ pkClass w0 = 5 then s.badPacket.sendPkt (cmpTo (pkEp w0) (pkTxn w0) stUnsupported) else s.badPacket

/-- The same on the Twin link. -/
def State.malformedTwin (s : State) (w0 : Nat) : State :=
  if pkClass w0 = 4 ∨ pkClass w0 = 5 then s.badPacket.sendTwin "CMP" 0 [pkTxn w0, stUnsupported] [] else s.badPacket

end Sys2Proof.Machine
end

