-- ==== Sys2Proof/Machine/Admission.lean ====
section
/-!
DEFINITION. Admission at the Mere ports (R376 to R387): token buckets, colours, finish times, and the choice of the item to serve.
-/
namespace Sys2Proof.Machine

def State.adm (s : State) (p : Nat) : Admission := Tbl.get (fun _ => {}) s.ports p
def State.setAdm (s : State) (p : Nat) (a : Admission) : State := { s with ports := Tbl.set (fun _ => {}) s.ports p a }

/-- The rates and depths of a tenant (R391): CIR, PIR, CBS, PBS. -/
def State.cir (s : State) (t : Nat) : Nat := s.get (R.QOS_TRATE t) F.QOS_TRATE_CIR
def State.pir (s : State) (t : Nat) : Nat := s.get (R.QOS_TRATE t) F.QOS_TRATE_PIR
def State.cbs (s : State) (t : Nat) : Nat := s.get (R.QOS_TRATE t) F.QOS_TRATE_CBS
def State.pbs (s : State) (t : Nat) : Nat := s.get (R.QOS_TRATE t) F.QOS_TRATE_PBS

/-- A bucket pair filled up to port time `now`, and cut to its depths (R385, R391). Contents are in 1/1,024 of a packet, time in 1/1,024 µs. -/
def State.refill (s : State) (t now : Nat) (b : Bucket) : Bucket :=
  { c := min (b.c + s.cir t * (now - b.seen)) (1024 * s.cbs t),
    p := min (b.p + s.pir t * (now - b.seen)) (1024 * s.pbs t), seen := now }

/-- The QoS class of an endpoint's requests (R377). -/
def State.epClass (s : State) (ep : Nat) : Nat := bitsOf (s.reg (R.QOS_EPCLASS (ep / 32))).toNat (2 * (ep % 32)) 2

/-- The weight of a queue (R379). -/
def State.weight (s : State) (t cls : Nat) (bulk : Bool) : Nat :=
  if bulk then s.get (R.QOS_TWEIGHT t) F.QOS_TWEIGHT_BULK_WEIGHT
  else s.get (R.QOS_TWEIGHT t) F.QOS_TWEIGHT_WEIGHT * bitsOf (s.reg R.QOS_CLASSW).toNat (4 * cls) 4

/-- The finish increment Δ of an item of length `n` (R379). -/
def State.finishStep (s : State) (t cls n : Nat) (bulk : Bool) : Nat := (2 ^ 20 + s.weight t cls bulk - 1) / s.weight t cls bulk * n

def Admission.sched (a : Admission) (bulk : Bool) : Sched := if bulk then a.bulk else a.req
def Admission.setSched (a : Admission) (bulk : Bool) (x : Sched) : Admission := if bulk then { a with bulk := x } else { a with req := x }

def Sched.queue (x : Sched) (t cls : Nat) : List QItem :=
  match x.queues.find? (fun q => q.tenant == t && q.cls == cls) with
  | some q => q.items
  | none => []

/-- Replace a key's queue; an empty queue is not kept. -/
def Sched.setQueue (x : Sched) (t cls : Nat) (items : List QItem) : Sched :=
  let rest := x.queues.filter (fun q => !(q.tenant == t && q.cls == cls))
  { x with queues := if items = [] then rest else rest ++ [{ tenant := t, cls := cls, items := items }] }

def queueLen (q : List QItem) : Nat := q.foldl (fun n i => n + i.len) 0

/-- Receive credits that a scheduler's waiting items hold (R386). -/
def Sched.occupancy (x : Sched) : Nat := x.queues.foldl (fun n q => q.items.foldl (fun n i => n + i.credits) n) 0

/-- How an arriving item fares (R386): queued, or answered RETRY_AFTER with a hint in µs (R387). -/
inductive Colour where
  | queued
  | refused (hint : Nat)
  deriving DecidableEq, Repr

/-- Colour an item of `n` packets (R386): the queue length first, then the peak bucket, then the committed
one. A red item's hint covers its deficit (R387). -/
def State.colour (s : State) (port t cls n : Nat) (bulk : Bool) : State × Colour :=
  let a := s.adm port
  let q := (a.sched bulk).queue t cls
  let limit := if bulk then s.get R.QOS_CFG F.QOS_CFG_BULK_QLIMIT else s.get R.QOS_CFG F.QOS_CFG_QLIMIT
  let least := s.get R.QOS_CFG F.QOS_CFG_RETRY_MIN_US
  if q ≠ [] ∧ limit < queueLen q + n then
    ((s.bump (R.QOS_TCNT t 3)).setErr R.QOS_ERR F.QOS_ERR_QFULL, .refused least)
  else if s.pir t = 0 then (s.bump (R.QOS_TCNT t 0), .queued)
  else
    let key := 2 * t + (if bulk then 1 else 0)
    let b := s.refill t a.now (Tbl.get (fun _ => {}) a.buckets key)
    let np := 1024 * min n (s.pbs t)
    let nc := 1024 * min n (s.cbs t)
    let keep (b : Bucket) (s : State) : State := s.setAdm port { a with buckets := Tbl.set (fun _ => {}) a.buckets key b }
    if b.p < np then
      let hint := max least ((np - b.p + 1024 * s.pir t - 1) / (1024 * s.pir t))
      (keep b ((s.bump (R.QOS_TCNT t 2)).setErr R.QOS_ERR F.QOS_ERR_RED), .refused (min hint 65535))
    else if b.c < nc then
      let own := if bulk then 6144 else 2048
      if s.get R.QOS_CFG F.QOS_CFG_YELLOW_THR * own ≤ 100 * (a.sched bulk).occupancy then
        (keep b ((s.bump (R.QOS_TCNT t 3)).setErr R.QOS_ERR F.QOS_ERR_YELLOW_REFUSED), .refused least)
      else (keep { b with p := b.p - np } (s.bump (R.QOS_TCNT t 1)), .queued)
    else (keep { b with p := b.p - np, c := b.c - nc } (s.bump (R.QOS_TCNT t 0)), .queued)

/-- Put an item in its queue with its finish time (R380): from V when the queue was empty, else from the item ahead. V and F count mod 2^40. -/
def State.putItem (s : State) (port t cls n credits : Nat) (bulk : Bool) (act : Ingress) : State :=
  let a := s.adm port
  let x := a.sched bulk
  let q := x.queue t cls
  let base := match q.getLast? with | some i => i.f | none => x.v
  let item : QItem := { f := (base + s.finishStep t cls n bulk) % 2 ^ 40, len := n, credits := credits, act := act }
  s.setAdm port (a.setSched bulk (x.setQueue t cls (q ++ [item])))

/-- Distance of a finish time ahead of V, as a signed difference mod 2^40 (R380); one behind V counts as 0 ahead of every other. -/
def ahead (v f : Nat) : Nat :=
  let d := (f + 2 ^ 40 - v % 2 ^ 40) % 2 ^ 40
  (d + 2 ^ 39) % 2 ^ 40

/-- The queue whose head has the smallest F; ties go to the lower tenant, then the lower class (R380). -/
def Sched.pick (x : Sched) : Option SchedQ :=
  x.queues.foldl (fun best q =>
    match best, q.items.head? with
    | _, none => best
    | none, _ => some q
    | some b, some i =>
      match b.items.head? with
      | none => some q
      | some j =>
        let k (q : SchedQ) (i : QItem) : Nat := (ahead x.v i.f * 256 + q.tenant) * 4 + q.cls
        if k q i < k b j then some q else best) none

/-- Serve the head item of a scheduler: it leaves its queue and V becomes its F (R380). -/
def State.takeItem (s : State) (port : Nat) (bulk : Bool) : State × Option Ingress :=
  let a := s.adm port
  let x := a.sched bulk
  match x.pick with
  | none => (s, none)
  | some q =>
    match q.items with
    | [] => (s, none)
    | i :: rest =>
      let x := ({ x with v := i.f } : Sched).setQueue q.tenant q.cls rest
      (s.setAdm port { (a.setSched bulk x) with bulkTurn := !bulk }, some i.act)

/-- A request refused by admission is answered RETRY_AFTER with the hint in INFO (R387), and counted (R393). -/
def State.retryAfter (s : State) (ep txn hint : Nat) : State :=
  (s.bump R.QOS_CNT_RETRY).sendPkt { cmpTo ep txn stRetryAfter with args := [hint] }

/-- Port time moves on by `dt` (R385). The block has no clock of its own: the time since the port's last packet comes with the packet. Log entry 36. -/
def State.portTime (s : State) (port dt : Nat) : State :=
  let a := s.adm port
  s.setAdm port { a with now := a.now + dt }

/-- A write of QOS_TRATE settles the tenant's buckets at every port at the old rates, and cuts them to the new depths (R391). -/
def State.settleBuckets (before after : State) (t : Nat) : State :=
  (List.range 8).foldl (fun s p =>
    [2 * t, 2 * t + 1].foldl (fun s key =>
      let a := s.adm p
      let b := before.refill t a.now (Tbl.get (fun _ => {}) a.buckets key)
      s.setAdm p { a with buckets := Tbl.set (fun _ => {}) a.buckets key (s.refill t a.now b) }) s) after

end Sys2Proof.Machine
end

