-- ==== Sys2Proof/Machine/Home.lean ====
section
/-!
DEFINITION. The homes (R340 to R361): directory entries, snoops by alias, the table of R348, evictions, races, and the accesses of agents without
caches (R358).
-/
namespace Sys2Proof.Machine

/-! ### Entries -/

def State.dirEntry (s : State) (pa : Nat) : DirEntry := Tbl.get (fun _ => {}) s.home.entries (pa / 64)

def State.putEntry (s : State) (pa : Nat) (e : DirEntry) : State :=
  { s with home := { s.home with entries := Tbl.set (fun _ => {}) s.home.entries (pa / 64) e } }

/-- Rewrite a line's summary (R344, R349, R353): the line is written again, so a Mirrored one is mirrored (R435). -/
def State.setSummary (s : State) (pa v : Nat) : State :=
  if (s.pool.line pa).summary = v then s
  else
    let x := s.pool.line pa
    (State.wrote { s with pool := s.pool.setLine pa { x with summary := v } } pa).mirrorLine pa

/-- A line reaches a state: the entry is made or freed; a line that reaches I has its summary made NONE (R349). One that internal agents alone still hold
stays in S, without pointers (R360). -/
def State.setDir (s : State) (pa : Nat) (st : DirSt) (ptrs : List Nat) (imask : Nat) : State :=
  if st = .i ∧ imask = 0 then (s.putEntry pa {}).setSummary pa 0
  else
    let s := { s with home := { s.home with clock := s.home.clock + 1 } }
    s.putEntry pa { st := if st = .i then .s else st, ptrs := ptrs, imask := imask, used := s.home.clock }

/-- Where a line's directory stands when a request finds it: its entry, or its summary (R344, R349). -/
def State.actState (s : State) (pa : Nat) : DirSt × List Nat :=
  let e := s.dirEntry pa
  if e.st ≠ .i then (if e.st = .exi then (.i, []) else (e.st, e.ptrs))
  else match (s.pool.line pa).summary with
    | 0 => (.i, [])
    | 1 => (.sb, [])
    | _ => (.ex, [])

/-- Poison a line in memory, its data kept (R361, R363, R364). -/
def State.poisonLine (s : State) (pa : Nat) : State :=
  let s := (s.markPoison pa).mirrorLine pa
  (s.bump R.DIR_CNT_POISONED).setErr R.DIR_ERR F.DIR_ERR_POISONED

/-- Log a protocol error; the first is latched (R361, R373). -/
def State.dirProto (s : State) (kind pa ep : Nat) : State :=
  let s := if s.flag R.DIR_PROTOLOG F.DIR_PROTOLOG_VALID then s
    else (((s.put R.DIR_PROTOLOG F.DIR_PROTOLOG_PA pa).put R.DIR_PROTOLOG F.DIR_PROTOLOG_ENDPOINT ep).put
      R.DIR_PROTOLOG F.DIR_PROTOLOG_KIND kind).put R.DIR_PROTOLOG F.DIR_PROTOLOG_VALID 1
  s.setErr R.DIR_ERR F.DIR_ERR_PROTO

/-- Strict mode is in force (R355): BOOT, TEST, DEATH while a death sweep runs, TAKEOVER while suspect units are left. -/
def State.deathSweep (s : State) : Bool := s.home.sweeps.any (fun w => w.kind == .death)
def State.strict (s : State) : Bool :=
  s.flag R.DIR_CTRL F.DIR_CTRL_STRICT_BOOT || s.flag R.DIR_CTRL F.DIR_CTRL_STRICT_TEST || s.deathSweep || s.home.takeover

/-! ### Sharer sets and aliases (R345, R351) -/

def State.sharers (s : State) (b : Nat) : List Nat := Tbl.get (fun _ => []) s.home.sharers b

def State.setSharers (s : State) (b : Nat) (l : List Nat) : State :=
  { s with home := { s.home with sharers := Tbl.set (fun _ => []) s.home.sharers b l } }

/-- An endpoint joins a basin's sharer set; for a Mirrored basin the partner learns of it first (R351, R367). -/
def State.joinSharers (s : State) (b ep : Nat) : State :=
  if (s.sharers b).contains ep then s
  else
    let s := s.setSharers b (s.sharers b ++ [ep])
    if ((s.basin b).elim 0 (·.kind)) = 2 then s.changePartner "SHARER" [b, ep] else s

/-- The 64 KiB unit of a basin's mapped part that holds a PA (R367). -/
def State.chunkOf (s : State) (b pa : Nat) : Nat :=
  match s.basin b with
  | none => 0
  | some x => ((x.tpaOf s.unitBytes pa).getD 0 - x.tpa * s.unitBytes) / 65536

/-- A grant on a line of a Mirrored basin sets its cached-map bit; the first setting reaches the partner before the grant (R367). -/
def State.markCached (s : State) (b pa : Nat) : State :=
  if ((s.basin b).elim 0 (·.kind)) ≠ 2 then s
  else
    let k := (b, s.chunkOf b pa)
    let s := { s with home := { s.home with quiet := s.home.quiet.filter (· != k) } }
    if s.home.cached.contains k then s
    else ({ s with home := { s.home with cached := s.home.cached ++ [k] } } : State).changePartner "CACHED" [k.1, k.2]

/-- The number of the first mirror write or change of control state that a response to a request waits for, all later ones with it: the addition of its endpoint
to the sharer set, where the partner does not hold it yet, or what is made from now on (R367, R436). -/
def State.grantMark (s : State) (r : HomeReq) : Nat :=
  (s.pair.mirror.find? (fun w => w.ctl == some ("SHARER", [r.basin, r.ep]))).elim s.pair.nextMirror (·.id)

/-- The names a tenant's clients have for a TPA byte: each stage-1 entry, in any ASID of the tenant, that maps it (R345). -/
def State.aliases (s : State) (tenant tpa : Nat) : List (Nat × Nat) :=
  let u := s.unitBytes
  (s.xlat.s1.filter (fun e => s.contextOf e.asid == some tenant && e.tpa ≤ tpa / u && tpa / u < e.tpa + e.len)).map
    (fun e => (e.asid, (e.va + (tpa / u - e.tpa)) * u + tpa % u))

/-- The aliases of a line of a basin. -/
def State.lineAliases (s : State) (b pa : Nat) : List (Nat × Nat) :=
  match s.basin b with
  | none => []
  | some x => match x.tpaOf s.unitBytes pa with
    | none => []
    | some tpa => s.aliases x.tenant tpa

def SnpKind.name : SnpKind → String
  | .inv => "SNP_INV" | .shared => "SNP_SHARED" | .fwd => "SNP_FWD" | .recall => "SNP_RECALL"

/-- Send one snoop packet (R308, R309). -/
def State.sendSnoop (s : State) (k : SnpKind) (bcast : Bool) (tenant : Nat) (r : SnoopRec) : State :=
  let s := s.bump R.DIR_CNT_SNOOPS
  let s := if bcast then s.bump R.DIR_CNT_BCAST_SNOOPS else s
  s.sendPkt { op := k.name, cls := 3, ep := r.ep, txn := r.txn, args := [r.asid, r.va, tenant], final := false }

/-- Snoop one client through its aliases; a line with none is answered RSP_I at the port (R345). -/
def State.snoopClient (s : State) (k : SnpKind) (bcast : Bool) (tenant : Nat) (al : List (Nat × Nat)) (ep : Nat) : State × List SnoopRec :=
  if al = [] then ((s.bump R.DIR_CNT_NO_ALIAS).setErr R.DIR_ERR F.DIR_ERR_NO_ALIAS, [])
  else al.foldl (fun acc a =>
    let t := acc.1.home.nextTxn
    let r : SnoopRec := { txn := t % 65536, ep := ep, asid := a.1, va := a.2 }
    let s := ({ acc.1 with home := { acc.1.home with nextTxn := t + 1 } } : State).sendSnoop k bcast tenant r
    (s, acc.2 ++ [r])) (s, [])

/-- The members a broadcast goes to: the sharer set, less the requester and dead endpoints (R352). -/
def State.members (s : State) (b ep : Nat) : List Nat := (s.sharers b).filter (fun e => e != ep && !s.isDead e)

/-- Internal agents that hold a copy are snooped by mesh message; they keep nothing the memory has not (R360). A line of theirs alone reaches I. Log entry 38. -/
def State.recallInternal (s : State) (pa : Nat) : State :=
  let e := s.dirEntry pa
  if e.imask = 0 then s
  else
    let s := s.send (.mesh "SNP" [pa, e.imask])
    if e.st = .exi ∨ e.ptrs = [] ∧ e.st = .s then s.setDir pa .i [] 0 else s.putEntry pa { e with imask := 0 }

/-- The internal agent that owns a line keeps a shared copy (R347, R360). -/
def State.shareInternal (s : State) (pa : Nat) : State :=
  let e := s.dirEntry pa
  if e.st = .exi then (s.send (.mesh "SNP" [pa, e.imask])).putEntry pa { e with st := .s, ptrs := [] } else s

/-! ### Data from the nearest sharer (R356) -/

def State.distance (s : State) (ep : Nat) : Nat := bitsOf (s.reg (R.DIR_DIST (ep / 8))).toNat (8 * (ep % 8)) 8

def State.memDistance (s : State) (pa : Nat) : Nat :=
  if pa < fastTop then s.get R.DIR_MEMDIST F.DIR_MEMDIST_FAST else s.get R.DIR_MEMDIST F.DIR_MEMDIST_SPILL

/-- The nearest sharer that is nearer than memory; ties go to the lower endpoint. -/
def State.nearest (s : State) (pa : Nat) (ptrs : List Nat) : Option Nat :=
  (ptrs.filter (fun e => s.distance e != 255 && s.distance e < s.memDistance pa)).foldl (fun best e =>
    match best with
    | none => some e
    | some b => if s.distance e < s.distance b ∨ (s.distance e = s.distance b ∧ e < b) then some e else some b) none

/-! ### The table of R348 -/

def HomeOp.reads : HomeOp → Bool
  | .rdShared | .rdOnce => true
  | _ => false

/-- Requests that leave the copies of internal agents where they are: reads, and the recall of one client's copy (R360, R365). A writeback invalidates nothing. -/
def HomeOp.leavesInternal (op : HomeOp) (only : Option Nat) : Bool :=
  match op with
  | .rdShared | .rdOnce | .writeback => true
  | .recall => only.isSome
  | _ => false

def HomeOp.grants : HomeOp → Bool
  | .rdShared | .rdOwn | .claim => true
  | _ => false

/-- The clients that may hold a line in a state: none of them; those named; or any of the sharer set (R352, R354). -/
def holders (st : DirSt) (ptrs : List Nat) : Option (Option (List Nat)) :=
  match st with
  | .i | .exi => none
  | .sb => some none
  | .s => some (some ptrs)
  | .ex => some (if ptrs = [] then none else some ptrs)

/-- The snoops a request sends from a state: none; a kind to some clients; or a kind broadcast (R348, R349, R352, R354). The recall that precedes
a request to a suspect unit is broadcast whatever the survivor's directory says (R368). -/
def State.plan (s : State) (r : HomeReq) (st : DirSt) (ptrs : List Nat) : Option (SnpKind × Option (List Nat)) :=
  match r.op with
  | .writeback => none
  | .recall =>
    match r.only with
    | some e => if st = .i then none else some (.recall, some [e])
    | none =>
      if r.recalled then some (.recall, none) else (holders st ptrs).map (fun who => (.recall, who))
  | op =>
    match st with
    | .i | .exi => none
    | .s =>
      if op.reads then (s.nearest r.pa ptrs).map (fun e => (.fwd, some [e]))
      else if op = .rdOwn ∨ (op = .claim ∧ ptrs.contains r.ep) then some (.inv, some (ptrs.filter (· != r.ep)))
      else some (.inv, some ptrs)
    | .sb => if op.reads then none else some (.inv, none)
    | .ex =>
      if ptrs = [r.ep] ∧ op ≠ .wrFull then none
      else some (if op.reads then .shared else .inv, if ptrs = [] then none else some ptrs)

/-- The next state of R348 after the answers: `keeps` are the clients that keep S. -/
def nextDir (r : HomeReq) (st : DirSt) (ptrs keeps : List Nat) : DirSt × List Nat :=
  match r.op with
  | .wrFull | .writeback => (.i, [])
  | .rdOwn | .claim => (.ex, [r.ep])
  | .recall =>
    match r.only with
    | none => (.i, [])
    | some e =>
      let rest := ptrs.filter (· != e)
      if st = .sb then (.sb, []) else if rest = [] then (.i, []) else (st, rest)
  | .rdShared =>
    match st with
    | .sb => (.sb, [])
    | .s =>
      let p := if ptrs.contains r.ep then ptrs else ptrs ++ [r.ep]
      if 3 < p.length then (.sb, []) else (.s, p)
    | .ex =>
      let p := keeps ++ (if keeps.contains r.ep then [] else [r.ep])
      if 3 < p.length then (.sb, []) else (.s, p)
    | _ => (.s, [r.ep])
  | .rdOnce =>
    match st with
    | .ex => if ptrs = [r.ep] then (.ex, ptrs) else if keeps = [] then (.i, []) else if 3 < keeps.length then (.sb, []) else (.s, keeps)
    | st => (st, ptrs)

/-- Take one client's pointer out of a state (R363); SB is unchanged. -/
def dropPtr (x : DirSt × List Nat) (ep : Option Nat) : DirSt × List Nat :=
  match ep with
  | none => x
  | some e =>
    let l := x.2.filter (· != e)
    if x.1 = .sb ∨ !x.2.contains e then x else if l = [] then (.i, []) else (x.1, l)

/-! ### Transactions -/

/-- The open transaction on a line: BUSY (R350). -/
def State.busyTxn (s : State) (pa : Nat) : Option DirTxn := s.home.txns.find? (fun t => t.req.pa == pa)

def State.putTxn (s : State) (t : DirTxn) : State :=
  { s with home := { s.home with txns := s.home.txns.map (fun x => if x.req.pa = t.req.pa then t else x) } }

def State.dropTxn (s : State) (pa : Nat) : State :=
  { s with home := { s.home with txns := s.home.txns.filter (fun x => x.req.pa != pa) } }

/-- Whether one snoop packet needs nothing more: its answer has come, with the data or the writeback the answer announces (R346, R361). -/
def DirTxn.recDone (t : DirTxn) (r : SnoopRec) : Bool :=
  match r.answer with
  | none => false
  | some a => if a = 2 ∨ a = 3 then r.data.isSome else if a = 4 then t.wbs.any (fun w => w.1 == r.ep) else true

def DirTxn.complete (t : DirTxn) : Bool := t.snoops.all t.recDone

/-- The data a client supplied, if any (R345, R361). -/
def DirTxn.supplyOf (t : DirTxn) (ep : Nat) : Option (Bool × List Byte) :=
  match t.wbs.find? (fun w => w.1 == ep) with
  | some w => some (w.2.2.1, w.2.2.2)
  | none => (t.snoops.filter (fun r => r.ep == ep)).findSome? (·.data)

def DirTxn.supplies (t : DirTxn) : List (Nat × Bool × List Byte) :=
  t.snooped.filterMap (fun e => (t.supplyOf e).map (fun d => (e, d)))

/-- Clients that keep an S copy (R345). -/
def DirTxn.keeps (t : DirTxn) : List Nat :=
  t.snooped.filter (fun e => t.snoops.any (fun r => r.ep == e && (r.answer == some 1 || r.answer == some 3)))

/-- Answer a client with a line (R309, R314). -/
def dataTo (r : HomeReq) (x : LineRead) : PktOut :=
  { op := "DATA", cls := 1, ep := r.ep, txn := r.txn, status := x.stat.code, args := [r.tenant],
    poison := if x.poison then 1 else 0, data := x.data, tenant := r.tenant }

/-- The line as the response carries it: a client's data when it supplied some, else memory (R348). -/
def State.responseLine (s : State) (r : HomeReq) (supplied : Option (Bool × List Byte)) : State × LineRead :=
  match supplied with
  | some d => (s, { stat := .ok, poison := d.1, data := d.2 })
  | none => s.memRead r.pa (some r.tenant) r.tenant

/-- Credits of a DATA of one line (R283). -/
def dataCredits : Nat := creditsOf 80

/-- A response without data leaves the credits reserved for it free. -/
def DirTxn.freeCredits (t : DirTxn) (s : State) : State := t.reserve.elim s (fun n => s.unreserve n dataCredits)

/-- All answers are in: write supplied data, answer the writebacks taken, respond, and move the line on (R348, R361). The transaction stays while
its grant is unacknowledged or a mirror write of it is outstanding (R350, R437). A grant goes out once the partner holds what it causes (R367). -/
def State.finishTxn (s : State) (t : DirTxn) : State :=
  let r := t.req
  let m := s.pair.nextMirror
  let g := s.grantMark r
  let two : Bool := t.bcast && 1 < t.supplies.length
  let s := if two then (s.poisonLine r.pa).dirProto 0 r.pa ((t.supplies.getD 1 (0, false, [])).1) else s
  let sup : Option (Bool × List Byte) := if two then none else (t.supplies.head?).map (·.2)
  let written : Bool := (t.kind == .shared || t.kind == .inv || t.wbs != []) && r.op != .wrFull && r.op != .recall
  let s := match sup with
    | some d => if written || (r.op == HomeOp.recall && r.keep) then (s.memWrite r.pa (some r.tenant) r.tenant d.1 d.2).1 else s
    | none => s
  let s := t.wbs.foldl (fun s w => s.respondAfter m (cmpFor r.tenant w.1 w.2.1 stOk)) s
  let nx := dropPtr (nextDir r t.st t.ptrs t.keeps) (if s.isDead r.ep then some r.ep else none)
  let imask := if r.op.leavesInternal r.only then (s.dirEntry r.pa).imask else 0
  let close (s : State) (granted : Bool) : State :=
    let granted := granted && !s.isDead r.ep
    let t := { t with granted := granted, closing := true, mirrors := s.mirrorsSince m }
    if granted || t.mirrors != [] then s.putTxn t else s.dropTxn r.pa
  match r.op with
  | .recall => close (s.setDir r.pa nx.1 nx.2 imask) false
  | .wrFull =>
    match s.memWrite r.pa (some r.tenant) r.tenant r.poison r.data with
    | (s, st) => close ((s.respondAfter m (cmpFor r.tenant r.ep r.txn st.code)).setDir r.pa .i [] 0) false
  | .writeback =>
    if t.st = .ex ∧ (t.ptrs = [r.ep] ∨ t.ptrs = []) then
      match s.memWrite r.pa (some r.tenant) r.tenant r.poison r.data with
      | (s, st) => close ((s.respondAfter m (cmpFor r.tenant r.ep r.txn st.code)).setDir r.pa .i [] 0) false
    else close ((s.bump R.DIR_CNT_STALE_WB).sendPkt (cmpFor r.tenant r.ep r.txn stOk)) false
  | op =>
    if op = .claim ∧ t.st = .s ∧ t.ptrs.contains r.ep then
      close ((((t.freeCredits s).markCached r.basin r.pa).respondAfter g (cmpFor r.tenant r.ep r.txn stOk)).setDir r.pa nx.1 nx.2 imask) true
    else
      let rl : State × LineRead := s.responseLine r sup
      let x := rl.2
      let s := if t.kind == SnpKind.fwd && sup.isSome then rl.1.bump R.DIR_CNT_FWD_SUPPLY else rl.1
      if x.stat = .error then
        let s := t.freeCredits s
        let left := nx.2.filter (· != r.ep)
        let st := if nx.1 = .sb then DirSt.sb else if left = [] then DirSt.i else nx.1
        close ((s.sendPkt (cmpFor r.tenant r.ep r.txn stError)).setDir r.pa st (if st = .sb then [] else left) imask) false
      else
        let s := if op.grants then s.markCached r.basin r.pa else s
        let s := if op = .claim then s.bump R.DIR_CNT_CLAIM_DATA else s
        close ((s.respondAfter (if op.grants then g else m) { dataTo r x with reserved := t.reserve }).setDir r.pa nx.1 nx.2 imask) op.grants

/-- Finish a transaction whose answers are all in. -/
def State.checkTxn (s : State) (pa : Nat) : State :=
  match s.busyTxn pa with
  | none => s
  | some t => if !t.closing && t.complete then s.finishTxn t else s

/-- Whether the answer to a request's snoops may be data that the home passes on (R348, R357). -/
def passesData (r : HomeReq) (st : DirSt) : Option (SnpKind × Option (List Nat)) → Bool
  | none => false
  | some (k, who) => (r.op.reads || r.op.grants) && (k == .fwd || st == .ex || who.isNone)

/-- The port on which a request must reserve the Data credits of its response before it snoops (R357). -/
def State.reservePort (s : State) (r : HomeReq) : Option Nat :=
  let a := s.actState r.pa
  if passesData r a.1 (s.plan r a.1 a.2) then s.routePort r.ep else none

/-- Those credits are there. -/
def State.reserveOk (s : State) (r : HomeReq) : Bool :=
  (s.reservePort r).elim true (fun n => (s.link n).reserved + dataCredits ≤ s.credit n 1)

/-- Begin a request on its line (R348, R349); before a snoop whose data is passed on, the Data credits of the response are reserved (R357). -/
def State.beginTxn (s : State) (r : HomeReq) : State :=
  let hit := (s.dirEntry r.pa).st != .i
  let s := if r.op = .recall then s else s.bump (if hit then R.DIR_CNT_HITS else R.DIR_CNT_MISSES)
  let s := if r.op.reads then s.shareInternal r.pa else s
  let s := if r.op.leavesInternal r.only then s else s.recallInternal r.pa
  let a := s.actState r.pa
  let port := s.reservePort r
  let s := port.elim s (fun n => s.updLink n (fun l => { l with reserved := l.reserved + dataCredits }))
  let base (k : SnpKind) (b : Bool) (who : List Nat) (recs : List SnoopRec) : DirTxn :=
    { req := r, reserve := port, st := a.1, ptrs := a.2, kind := k, bcast := b, snooped := who, snoops := recs, wbs := [], granted := false, mirrors := [],
      closing := false }
  let start (s : State) (t : DirTxn) : State :=
    (({ s with home := { s.home with txns := s.home.txns ++ [t] } } : State)).checkTxn r.pa
  match s.plan r a.1 a.2 with
  | none => start s (base .recall false [] [])
  | some (k, who) =>
    let al := s.lineAliases r.basin r.pa
    let targets := match who with | some l => l.filter (fun e => !s.isDead e) | none => s.members r.basin r.ep
    let s := if who.isNone then s.bump R.DIR_CNT_BROADCASTS else s
    let res := targets.foldl (fun acc e =>
      let x := State.snoopClient acc.1 k who.isNone r.tenant al e
      (x.1, acc.2 ++ x.2)) (s, ([] : List SnoopRec))
    start res.1 (base k who.isNone targets res.2)

/-! ### Which waiting request may begin (R340, R350, R353, R354, R368) -/

/-- What the home can do for a waiting request now. -/
inductive Go where
  | start
  /-- The entry of this line must be recalled first (strict mode). -/
  | evict (pa : Nat)
  /-- The entry of this line is demoted to make room. -/
  | demote (pa : Nat)
  /-- The line of a suspect unit is recalled first. -/
  | suspect
  | wait
  deriving DecidableEq, Repr

/-- Whether a line lies in a suspect unit (R368). -/
def State.isSuspect (s : State) (r : HomeReq) : Bool :=
  s.home.suspects != [] && s.home.suspects.contains (r.basin, s.chunkOf r.basin r.pa)

/-- The valid entries of a line's set, when there can be sixteen (R340). -/
def State.waysOf (s : State) (pa : Nat) : List (Nat × DirEntry) :=
  let mine := s.home.entries.filter (fun e => homeOf (64 * e.1) == homeOf pa)
  if mine.length + s.home.txns.length < 16 then [] else mine.filter (fun e => Config.dirSet e.1 == Config.dirSet (pa / 64))

/-- Ways of a line's set taken by transactions in flight on lines that have no entry yet (R340). -/
def State.waysTaken (s : State) (pa : Nat) : Nat :=
  (s.home.txns.filter (fun t => t.req.op.grants && (s.dirEntry t.req.pa).st == .i && homeOf t.req.pa == homeOf pa &&
    Config.dirSet (t.req.pa / 64) == Config.dirSet (pa / 64))).length

/-- The least recently used entry of a set's idle ones (R353). -/
def State.victim (s : State) (ways : List (Nat × DirEntry)) : Option (Nat × DirEntry) :=
  (ways.filter (fun e => (s.busyTxn (64 * e.1)).isNone)).foldl (fun best e =>
    match best with
    | none => some e
    | some b => if e.2.used < b.2.used then some e else some b) (none : Option (Nat × DirEntry))

/-- The Pond or Spillway channel of a line is in an L3 reset: its demotions and recalls wait until it leaves it (R375). -/
def State.unitInReset (s : State) (pa : Nat) : Bool := (unitOf pa).elim false (fun u => s.inL3 (chUnitKey u))

/-- The clock of the channel that holds a line has stopped (R507). -/
def State.unitStopped (s : State) (pa : Nat) : Bool := (unitOf pa).elim false (fun u => s.islandStopped (chIsland u))

/-- A request that writes its line: a write, or one whose snoop may bring an owner's data to memory (R348). -/
def State.mayWrite (s : State) (r : HomeReq) : Bool :=
  r.op == .wrFull || r.op == .writeback || (r.op != .recall && (s.actState r.pa).1 == .ex)

/-- What the home does about a request that waits (R340, R350, R353, R354, R357, R368, R375). -/
def State.goOf (s : State) (r : HomeReq) : Go :=
  let mirrored := (s.basin r.basin).elim false (fun b => s.mirrors b)
  if (s.busyTxn r.pa).isSome then .wait
  else if r.op == .recall && s.unitInReset r.pa || s.unitStopped r.pa then .wait
  else if 2048 ≤ (s.home.txns.filter (fun t => homeOf t.req.pa == homeOf r.pa)).length then .wait
  else if mirrored && s.mayWrite r && s.mirrorFull r.pa then .wait
  else if s.isSuspect r && !r.recalled && r.op != .recall && r.op != .writeback then .suspect
  else if !s.reserveOk r then .wait
  else if (s.dirEntry r.pa).st ≠ .i ∨ !(r.op.grants || (r.op == .rdOnce && (s.pool.line r.pa).summary != 0)) then .start
  else
    let ways := s.waysOf r.pa
    if ways.length + s.waysTaken r.pa < 16 then .start
    else
      match s.victim ways with
      | none => .wait
      | some v =>
        if s.unitInReset (64 * v.1) then .wait
        else if !s.strict then .demote (64 * v.1)
        else if ways.any (fun e => (s.busyTxn (64 * e.1)).any (fun t => t.req.op == .recall)) then .wait
        else .evict (64 * v.1)

/-- Demote an entry into its line's summary (R353): internal copies are recalled first. -/
def State.demote (s : State) (pa : Nat) : State :=
  let e := s.dirEntry pa
  let s := if e.imask = 0 then s else s.send (.mesh "SNP" [pa, e.imask])
  let v := match e.st with | .s | .sb => 1 | .ex => 2 | _ => 0
  let v := if e.st = .s ∧ e.ptrs = [] then 0 else v
  ((s.putEntry pa {}).setSummary pa v).bump R.DIR_CNT_DEMOTIONS

/-- The tenant and basin a line belongs to, for the home's own recalls. -/
def State.recallReq (s : State) (pa : Nat) (keep : Bool) (only : Option Nat) : HomeReq :=
  match s.basinAt pa with
  | some (i, b) => { op := .recall, pa := pa, ep := 65535, tenant := b.tenant, basin := i, keep := keep, only := only }
  | none => { op := .recall, pa := pa, ep := 65535, keep := keep, only := only }

/-- Let the waiting requests go on, in order of arrival by line (R350). `fuel` bounds the walk. -/
def State.pumpHome (s : State) : Nat → State
  | 0 => s
  | n + 1 =>
    let q := s.home.waiting
    match (List.range q.length).find? (fun i =>
        match q[i]? with
        | none => false
        | some r => s.goOf r != .wait && !((q.take i).any (fun p => p.pa == r.pa))) with
    | none => s
    | some i =>
      match q[i]? with
      | none => s
      | some r =>
        match s.goOf r with
        | .wait => s
        | .start => State.pumpHome (({ s with home := { s.home with waiting := q.eraseIdx i } } : State).beginTxn r) n
        | .evict pa => State.pumpHome ((s.bump R.DIR_CNT_STRICT_RECALLS).beginTxn (s.recallReq pa true none)) n
        | .demote pa => State.pumpHome (s.demote pa) n
        | .suspect =>
          let s := { s with home := { s.home with waiting := q.set i { r with recalled := true } } }
          State.pumpHome (s.beginTxn { s.recallReq r.pa true none with recalled := true }) n

def State.pumpAll (s : State) : State := s.pumpHome (4 * s.home.waiting.length + 4)

/-- A request arrives at its home (R350). A writeback whose sender is being snooped for the line is that snoop's data (R361). -/
def State.serveHome (s : State) (r : HomeReq) : State :=
  match s.busyTxn r.pa with
  | some t =>
    if r.op = .writeback ∧ !t.closing ∧ t.snoops.any (fun x => x.ep == r.ep && !t.recDone x) then
      ((s.putTxn { t with wbs := t.wbs ++ [(r.ep, r.txn, r.poison, r.data)] }).checkTxn r.pa).pumpAll
    else { s with home := { s.home with waiting := s.home.waiting ++ [r] } }
  | none => ({ s with home := { s.home with waiting := s.home.waiting ++ [r] } } : State).pumpAll

/-! ### Agents without caches (R358) -/

/-- The answer a client gives within a command: RSP_I when it has none. -/
def answerOf (ans : List SnoopAnswer) (ep pa : Nat) : SnoopAnswer :=
  (ans.find? (fun a => a.ep == ep && a.pa / 64 == pa / 64)).getD { ep := ep, pa := pa, status := 0, poison := false, data := [] }

/-- Snoop clients and take their answers at once: who keeps a copy, and the data supplied. -/
def State.snoopNow (s : State) (b tenant pa : Nat) (k : SnpKind) (who : Option (List Nat)) (ans : List SnoopAnswer) :
    State × List Nat × List (Nat × Bool × List Byte) :=
  let al := s.lineAliases b pa
  let targets := match who with | some l => l.filter (fun e => !s.isDead e) | none => s.members b 65535
  let s := if who.isNone then s.bump R.DIR_CNT_BROADCASTS else s
  let s := targets.foldl (fun s e => (State.snoopClient s k who.isNone tenant al e).1) s
  let got := if al = [] then [] else targets.map (fun e => answerOf ans e pa)
  let keeps := (got.filter (fun a => a.status == 1 || a.status == 3)).map (·.ep)
  let sup := (got.filter (fun a => 2 ≤ a.status && a.status ≤ 4)).map (fun a => (a.ep, a.poison, a.data))
  (s, keeps, sup)

/-- Two clients that supply data for one broadcast are a protocol error (R361); otherwise the data supplied. -/
def State.oneSupply (s : State) (pa : Nat) (bcast : Bool) (sup : List (Nat × Bool × List Byte)) : State × Option (Bool × List Byte) :=
  if bcast && 1 < sup.length then ((s.poisonLine pa).dirProto 0 pa ((sup.getD 1 (0, false, [])).1), none)
  else (s, (sup.head?).map (·.2))

/-- A way for a line that gains an entry within one command (R340, R353): demoted, or in strict mode recalled with the answers given. False when every way is
busy with a transaction. -/
def State.makeWay (s : State) (pa : Nat) (ans : List SnoopAnswer) : State × Bool :=
  let ways := s.waysOf pa
  if (s.dirEntry pa).st ≠ .i ∨ ways.length + s.waysTaken pa < 16 then (s, true)
  else match s.victim ways with
    | none => (s, false)
    | some v =>
      let la := 64 * v.1
      if s.unitInReset la then (s, false)
      else if !s.strict then (s.demote la, true)
      else
        let r := s.recallReq la true none
        let who := (holders v.2.st v.2.ptrs).getD (some [])
        let x := ((s.bump R.DIR_CNT_STRICT_RECALLS).recallInternal la).snoopNow r.basin r.tenant la .recall who ans
        match x.1.oneSupply la who.isNone x.2.2 with
        | (s, sup) =>
          let s := match sup with | some d => (s.memWrite la (some r.tenant) r.tenant d.1 d.2).1 | none => s
          (s.setDir la .i [] 0, true)

/-- A line reaches a state with copies; where no way is free its summary alone says SHARED. DESIGN CHOICE, log entry 98. -/
def State.setDirRoom (s : State) (pa : Nat) (st : DirSt) (ptrs : List Nat) (imask : Nat) (ans : List SnoopAnswer) : State :=
  if st = .i then s.setDir pa .i [] imask
  else match s.makeWay pa ans with
    | (s, true) => s.setDir pa st ptrs imask
    | (s, false) => s.setSummary pa 1

/-- The snoop of RD_ONCE by an agent without a cache (R348, R356, R358): an owner's data is written to memory first; what it supplied. An internal owner keeps
a shared copy (R360). -/
def State.agentPull (s : State) (la tenant : Nat) (ans : List SnoopAnswer) : State × Option (Bool × List Byte) :=
  let s := (s.bump (if (s.dirEntry la).st != .i then R.DIR_CNT_HITS else R.DIR_CNT_MISSES)).shareInternal la
  let a := s.actState la
  match a.1 with
  | .ex =>
    let b := (s.basinAt la).elim 0 (·.1)
    let x := s.snoopNow b tenant la .shared (if a.2 = [] then none else some a.2) ans
    match x.1.oneSupply la (a.2 == []) x.2.2 with
    | (s, sup) =>
      let s := match sup with | some d => (s.memWrite la (some tenant) tenant d.1 d.2).1 | none => s
      let st := if x.2.1 = [] then DirSt.i else if 3 < x.2.1.length then DirSt.sb else DirSt.s
      (s.setDirRoom la st (if st = .sb then [] else x.2.1) (s.dirEntry la).imask ans, sup)
  | _ => (s, none)

/-- RD_ONCE by an agent without a cache: an owner's data, or memory. -/
def State.agentRead (s : State) (pa tenant : Nat) (ans : List SnoopAnswer) : State × LineRead :=
  let la := pa / 64 * 64
  match s.agentPull la tenant ans with
  | (s, some d) => (s, { stat := .ok, poison := d.1, data := d.2 })
  | (s, none) => s.memRead la (some tenant) tenant

/-- Invalidate every copy of a line before an agent without a cache writes it; data returned is discarded (R348, R358). -/
def State.invalidateAll (s : State) (pa tenant : Nat) (ans : List SnoopAnswer) : State :=
  let s := s.recallInternal pa
  let a := s.actState pa
  match holders a.1 a.2 with
  | none => s
  | some who =>
    let b := (s.basinAt pa).elim 0 (·.1)
    let x := s.snoopNow b tenant pa .inv who ans
    (x.1.oneSupply pa who.isNone x.2.2).1.setDir pa .i [] 0

/-- WR_FULL by an agent without a cache (R358). -/
def State.agentWrite (s : State) (pa tenant : Nat) (poison : Bool) (d : List Byte) (ans : List SnoopAnswer) : State × MemStat :=
  let la := pa / 64 * 64
  let s := s.bump (if (s.dirEntry la).st != .i then R.DIR_CNT_HITS else R.DIR_CNT_MISSES)
  (s.invalidateAll la tenant ans).memWrite la (some tenant) tenant poison d

/-- A write of less than a line: RD_ONCE, merge, WR_FULL (R358). -/
def State.agentMerge (s : State) (pa tenant : Nat) (d : List Byte) (ans : List SnoopAnswer) : State × MemStat :=
  let la := pa / 64 * 64
  match s.agentRead la tenant ans with
  | (s, r) =>
    if r.stat = .ok then
      let o := pa - la
      s.agentWrite la tenant r.poison ((r.data.take o ++ d ++ r.data.drop (o + d.length)).take 64) ans
    else (s, r.stat)

end Sys2Proof.Machine
end

