-- ==== Sys2Proof/Machine/Kv.lean ====
section
/-!
DEFINITION. Key-value blocks in the pool: frames and placement (R219 to R226, R597), the block table, access by virtual address for jobs, and the
ingest of one window record (R46 to R54, R63, R596).
-/
namespace Sys2Proof.Machine

/-! ### Status codes of jobs (R185) -/
def jsOk : Nat := 0x00
def jsAborted : Nat := 0x01
def jsTimeout : Nat := 0x02
def jsTarnFault : Nat := 0x03
def jsProgException : Nat := 0x04
def jsBadDescriptor : Nat := 0x05
def jsBadParams : Nat := 0x06
def jsWrongInlet : Nat := 0x07
def jsNoTarns : Nat := 0x08
def jsXlatFault : Nat := 0x09
def jsPoisoned : Nat := 0x0A
def jsReset : Nat := 0x0B
def jsWriteError : Nat := 0x0C
def jsSeqNotFound : Nat := 0x20
def jsSeqLimit : Nat := 0x21
def jsNoSpace : Nat := 0x22
def jsSeqFull : Nat := 0x23
def jsIngestOrder : Nat := 0x24
def jsIngestRange : Nat := 0x25
def jsPublishConflict : Nat := 0x30
def jsPublishExhausted : Nat := 0x31
def jsPublishRange : Nat := 0x32
def jsRegionLimit : Nat := 0x33
def jsVersionLimit : Nat := 0x34
def jsRegionNotFound : Nat := 0x35
def jsVersionRetired : Nat := 0x36
def jsPinLimit : Nat := 0x37
def jsNotPinned : Nat := 0x38
def jsVersionNotPinned : Nat := 0x39
def jsProgSignature : Nat := 0x40
def jsProgFormat : Nat := 0x41
def jsProgLimit : Nat := 0x42
def jsProgNotFound : Nat := 0x43
def jsProgUnsupported : Nat := 0x44
def jsRoleBusy : Nat := 0x45
def jsInletNotFound : Nat := 0x46
def jsProgInUse : Nat := 0x47

/-! ### The tables -/

def State.blk (s : State) (b : Nat) : Option KvBlk := Tbl.get (fun _ => none) s.kv.blks b
def State.setBlk (s : State) (b : Nat) (x : Option KvBlk) : State :=
  { s with kv := { s.kv with blks := Tbl.set (fun _ => none) s.kv.blks b x } }
def State.seqAt (s : State) (slot : Nat) : Option Seq := Tbl.get (fun _ => none) s.kv.seqs slot
def State.setSeq (s : State) (slot : Nat) (x : Option Seq) : State :=
  { s with kv := { s.kv with seqs := Tbl.set (fun _ => none) s.kv.seqs slot x } }
def State.genOf (s : State) (slot : Nat) : Nat := Tbl.get (fun _ => 0) s.kv.gens slot

/-- A handle of a slot (R56): the slot in [17:0], its generation in [31:18]. -/
def State.handleOf (s : State) (slot : Nat) : Nat := slot + s.genOf slot * 2 ^ 18

/-- The slot of a handle a client of a tenant gives (R56, R62): none is SEQ_NOT_FOUND. -/
def State.findSeq (s : State) (tenant handle : Nat) : Option (Nat × Seq) :=
  let slot := handle % 2 ^ 18
  match s.seqAt slot with
  | none => none
  | some q => if s.handleOf slot = handle % 2 ^ 32 ∧ q.tenant = tenant ∧ !q.shut then some (slot, q) else none

def Seq.lenOf (q : Seq) (layer : Nat) : Nat := Tbl.get (fun _ => 0) q.lens layer
def Seq.tableOf (q : Seq) (layer head : Nat) : List Nat := Tbl.get (fun _ => []) q.blocks (64 * layer + head)
def Seq.setTable (q : Seq) (layer head : Nat) (l : List Nat) : Seq :=
  { q with blocks := Tbl.set (fun _ => []) q.blocks (64 * layer + head) l }

/-- Every block a table of blocks names. -/
def tableBlocks (t : Tbl (List Nat)) : List Nat := t.flatMap (·.2)

def State.region (s : State) (tenant key : Nat) : Option Region := s.kv.regions.find? (fun r => r.tenant == tenant && r.key == key)

/-- Replace a region; one that is not held is added. -/
def State.putRegion (s : State) (r : Region) : State :=
  let l := s.kv.regions
  let same (x : Region) : Bool := x.tenant == r.tenant && x.key == r.key
  let l := if l.any same then l.map (fun x => if same x then r else x) else l ++ [r]
  { s with kv := { s.kv with regions := l } }

def Region.live (r : Region) : List Version := r.versions.filter (fun v => !v.retired)
def Region.find (r : Region) (n : Nat) : Option Version := r.versions.find? (fun v => v.number == n && !v.retired)

/-- A client's pins on a version (R68). -/
def State.pinCount (s : State) (ep tenant key ver : Nat) : Nat :=
  match s.kv.pins.find? (fun p => p.ep == ep && p.tenant == tenant && p.key == key && p.version == ver) with
  | some p => p.count
  | none => 0

/-- Pins on a version, those of sequences with them (R60, R71). -/
def State.pinTotal (s : State) (tenant key ver : Nat) : Nat :=
  (s.kv.pins.filter (fun p => p.tenant == tenant && p.key == key && p.version == ver)).foldl (fun n p => n + p.count) 0
    + (s.kv.seqs.filter (fun e => e.2.elim false (fun q => q.tenant == tenant && q.base == some (key, ver)))).length

/-- The version a job or a SEQ_CREATE may use: live, and pinned by the client (R70). -/
def State.pinnedVersion (s : State) (ep tenant key ver : Nat) : Option Version :=
  if s.pinCount ep tenant key ver = 0 then none
  else match s.region tenant key with
    | none => none
    | some r => r.find ver

/-- Every job in flight, by number. -/
def State.inFlight (s : State) : List Nat := s.jobs.jobs.map (·.id)

/-- None of these jobs is still in flight. -/
def State.allDone (s : State) (l : List Nat) : Bool := l.all (fun j => !(s.inFlight.contains j))

/-! ### Frames (R219) -/

def frameUnit : Nat := 2 ^ 21

/-- The 2 MiB frame units of runs, in the order of their units. -/
def frameUnits (u : Nat) (rs : List Run) : List Nat :=
  rs.flatMap (fun r => (List.range r.len).flatMap (fun n => (List.range (u / frameUnit)).map (fun j => r.unitPa u n + j * frameUnit)))

/-- Frames in use: address and size. -/
def State.usedFrames (s : State) : List (Nat × Nat) :=
  s.kv.blks.filterMap (fun e => e.2.map (fun b => (b.pa, frameBytes b.format (dimOf b.hdim))))
    ++ s.kv.old.map (fun f => (f.pa, f.bytes))
    ++ s.kv.moves.filterMap (fun m => (s.blk m.blk).map (fun b => (m.dst, frameBytes b.format (dimOf b.hdim))))

/-- Free frames of a size in a frame unit: a unit holds frames of one size only (R219). -/
def freeInUnit (used : List (Nat × Nat)) (z unit : Nat) : Nat :=
  let mine := used.filter (fun f => f.1 / frameUnit == unit / frameUnit)
  if mine.all (fun f => f.2 == z) then frameUnit / z - mine.length else 0

/-- Whether a frame unit holds frames of a size, or may come to. -/
def carvable (used : List (Nat × Nat)) (z unit : Nat) : Bool :=
  (used.filter (fun f => f.1 / frameUnit == unit / frameUnit)).all (fun f => f.2 == z)

/-- Member a PA lies in: a stack 0 to 11, or 384 + a Spillway channel; and its quadrant. -/
def memberAt (pa : Nat) : Nat := (memberOf frameUnit pa).1
def quadOfMember (m : Nat) : Nat := if m < 384 then m / 3 else (m - 384) / 3
def quadOf (pa : Nat) : Nat := quadOfMember (memberAt pa)

/-- Free frames of a size on a member. -/
def freeOn (used : List (Nat × Nat)) (units : List Nat) (z m : Nat) : Nat :=
  (units.filter (fun x => memberAt x == m)).foldl (fun n x => n + freeInUnit used z x) 0

/-- The members of a quadrant that hold frame units, in ascending order. -/
def membersIn (units : List Nat) (q : Nat) : List Nat :=
  (List.range 3).filterMap (fun i =>
    if units.any (fun x => memberAt x == 3 * q + i) then some (3 * q + i)
    else if units.any (fun x => memberAt x == 384 + 3 * q + i) then some (384 + 3 * q + i) else none)

def freeIn (used : List (Nat × Nat)) (units : List Nat) (z q : Nat) : Nat :=
  (membersIn units q).foldl (fun n m => n + freeOn used units z m) 0

/-- The first of a list at which a count is highest, when that count is not 0. -/
def mostOf (l : List Nat) (f : Nat → Nat) : Option Nat :=
  l.foldl (fun best x =>
    match best with
    | none => if f x = 0 then none else some x
    | some b => if f b < f x then some x else some b) none

/-- The first free frame of a size on a member: in a unit that already holds frames of the size, else in a new one. -/
def firstFree (used : List (Nat × Nat)) (units : List Nat) (z m : Nat) : Option Nat :=
  let mine := units.filter (fun x => memberAt x == m && 0 < freeInUnit used z x)
  let begun := mine.filter (fun x => used.any (fun f => f.1 / frameUnit == x / frameUnit))
  match (begun ++ mine).head? with
  | none => none
  | some x =>
    ((List.range (frameUnit / z)).map (fun i => x + i * z)).find? (fun a => !(used.any (fun f => f.1 == a)))

/-- A frame in the quadrant's member with the most free frames, ties to the lower local index. -/
def mostFree (used : List (Nat × Nat)) (units : List Nat) (z q : Nat) : Option Nat :=
  match mostOf (membersIn units q) (freeOn used units z) with
  | none => none
  | some m => firstFree used units z m

/-- Bytes of a member's units that no frame takes. -/
def freeBytesOn (used : List (Nat × Nat)) (units : List Nat) (m : Nat) : Nat :=
  let mine := units.filter (fun x => memberAt x == m)
  mine.length * frameUnit - (used.filter (fun f => mine.any (fun x => x / frameUnit == f.1 / frameUnit))).foldl (fun n f => n + f.2) 0

/-- A frame for a block that is demoted (R224): on the quadrant's channel with the most free space in the allowance, of those with a frame of the size. -/
def mostSpace (used : List (Nat × Nat)) (units : List Nat) (z q : Nat) : Option Nat :=
  match mostOf ((membersIn units q).filter (fun m => (firstFree used units z m).isSome)) (freeBytesOn used units) with
  | none => none
  | some m => firstFree used units z m

/-- The quadrant with the most free frames of a size, ties to the lower (R220, R222). -/
def bestQuad (used : List (Nat × Nat)) (units : List Nat) (z : Nat) : Option Nat := mostOf [0, 1, 2, 3] (freeIn used units z)

/-- The members that a block's turn counts through in a quadrant: its three stacks (R221), or the channels on which the pool has units for the size (R597). -/
def turnMembers (used : List (Nat × Nat)) (units : List Nat) (z q : Nat) : List Nat :=
  if units.any (fun x => 384 ≤ memberAt x) then
    (membersIn units q).filter (fun m => units.any (fun x => memberAt x == m && carvable used z x))
  else (List.range 3).map (fun i => 3 * q + i)

/-- A frame in a quadrant by a block's stack rule: the member of this turn, else the one with the most free frames (R221, R597). -/
def frameByTurn (used : List (Nat × Nat)) (units : List Nat) (z q turn : Nat) : Option Nat :=
  let ms := turnMembers used units z q
  match ms[turn % max 1 ms.length]? with
  | some m => (firstFree used units z m).or (mostFree used units z q)
  | none => mostFree used units z q

/-- Where block b of head h of a sequence goes (R221, R222, R597). -/
def placeFrame (used : List (Nat × Nat)) (units : List Nat) (spill : Bool) (quad : Option Nat) (z b h : Nat) : Option Nat :=
  let qs := [0, 1, 2, 3].filter (fun q => units.any (fun x => quadOf x == q && (!spill || carvable used z x)))
  let q := match quad with
    | some q => if spill then qs[(b + h) % max 1 qs.length]? else some q
    | none => qs[(b + h) % max 1 qs.length]?
  match q.bind (fun q => frameByTurn used units z q (b / 4 + h)) with
  | some pa => some pa
  | none => (bestQuad used units z).bind (fun q => frameByTurn used units z q (b / 4 + h))

/-- Frame units that may take a frame: none on a channel that is being evacuated (R422). -/
def State.openUnits (s : State) (l : List Nat) : List Nat := l.filter (fun x => s.ras.evac.all (fun j => unitOf x != some (384 + j)))

/-- The frame units of a basin's block pool. -/
def State.poolUnits (s : State) (basin : Nat) : List Nat :=
  match s.basin basin with
  | some b => s.openUnits (frameUnits s.unitBytes b.poolRuns)
  | none => []

/-- The frame units of a basin's Spillway allowance. -/
def State.allowance (s : State) (basin : Nat) : List Nat :=
  match s.basin basin with
  | some b => s.openUnits (frameUnits s.unitBytes b.spillRuns)
  | none => []

def State.spillPattern (s : State) (basin : Nat) : Bool := (s.basin basin).elim false (fun b => b.pattern == 4)

/-- Whether a block is in Spillway. -/
def KvBlk.inSpill (b : KvBlk) : Bool := spillBase ≤ b.pa

/-! ### Reading and writing frames -/

/-- The header line of a block as its record stands (R42). -/
def KvBlk.header (b : KvBlk) : Header :=
  { format := b.format, hdim := b.hdim, tokens := b.tokens, layer := b.layer, head := b.head, first := b.first, outliers := b.outliers,
    promoted := b.promoted, checksum := b.checksum,
    flags := (if b.shut then 1 else 0) + (if b.early then 2 else 0) + (if b.shared then 4 else 0), seq := b.seq }

/-- Cut bytes at a frame offset into pieces within one line each. `fuel` bounds the pieces. -/
def linePieces (o : Nat) (d : List Byte) : Nat → List (Nat × List Byte)
  | 0 => []
  | n + 1 => if d = [] then [] else (o, d.take (64 - o % 64)) :: linePieces (o / 64 * 64 + 64) (d.drop (64 - o % 64)) n

/-- Write pieces of a frame in order, up to the first that is refused (R54, R262). -/
def State.writePieces (s : State) (pa tenant : Nat) : List (Nat × List Byte) → State × Bool
  | [] => (s, true)
  | (o, d) :: t =>
    match (if d.length = 64 then s.writeLine (pa + o) (some tenant) tenant false d
           else s.mergeLine (pa + o) (some tenant) tenant (o % 64) d) with
    | (s, .ok) => State.writePieces s pa tenant t
    | (s, _) => (s, false)

/-- Write a block's header line (R54). -/
def State.writeHeader (s : State) (b : KvBlk) (tenant : Nat) (check : Bool) : State × Bool :=
  match s.writeLine b.pa (if check then some tenant else none) tenant false b.header.bytes with
  | (s, .ok) => (s, true)
  | (s, _) => (s, false)

/-- Read lines of a frame: the image, and whether every line was OK and clean. -/
def State.readFrame (s : State) (pa : Nat) (tenant : Option Nat) (kslot : Nat) : List Nat → State × FrameImg × Bool
  | [] => (s, [], true)
  | l :: t =>
    match s.readLine (pa + 64 * l) tenant kslot with
    | (s, r) =>
      match State.readFrame s pa tenant kslot t with
      | (s, im, ok) => (s, (l, r.data) :: im, ok && r.stat == .ok && !r.poison)

/-- Copy lines of a frame to another: a poisoned line stays poisoned (R226); with no tag check, since a control core or a move copies (R262). -/
def State.copyLines (s : State) (src dst kslot : Nat) : List Nat → State
  | [] => s
  | l :: t =>
    match s.readLine (src + 64 * l) none kslot with
    | (s, r) => State.copyLines (s.writeLine (dst + 64 * l) none kslot (r.poison || r.stat != .ok) r.data).1 src dst kslot t

/-! ### Access by virtual address for a job (R257, R262, R358) -/

/-- Read lines at a VA that has passed the checks, as an agent without a cache. -/
def State.readVa (s : State) (ep asid tenant va : Nat) (ans : List SnoopAnswer) : Nat → State × List LineRead
  | 0 => (s, [])
  | n + 1 =>
    let x : State × LineRead := match s.translate ep asid va false with
      | .ok f => s.agentRead f.pa tenant ans
      | .error _ => (s, poisonedLine .error)
    match State.readVa x.1 ep asid tenant (va + 64) ans n with
    | (s, l) => (s, x.2 :: l)

/-- Write bytes at a VA that has passed the checks, line by line; a poison mark per line by `bad` (R99, R177). True when every line was OK. -/
def State.writeVa (s : State) (ep asid tenant va : Nat) (bad : Nat → Bool) (ans : List SnoopAnswer) (i : Nat) :
    List (Nat × List Byte) → State × Bool
  | [] => (s, true)
  | (o, d) :: t =>
    let x : State × MemStat := match s.translate ep asid (va + o) true with
      | .ok f => if d.length = 64 then s.agentWrite f.pa tenant (bad i) d ans else s.agentMerge f.pa tenant d ans
      | .error _ => (s, .error)
    match State.writeVa x.1 ep asid tenant va bad ans (i + 1) t with
    | (s, ok) => (s, ok && x.2 == .ok)

/-- The pieces of a job's output from a VA that is 64 B aligned. -/
def vaPieces (d : List Byte) : List (Nat × List Byte) := linePieces 0 d (d.length / 64 + 2)

/-! ### Ingest of one window record (R46 to R54, R596) -/

/-- Bytes of a window slot (R46). -/
def slotBytes (h d : Nat) : Nat := 64 + 64 * ((h + 15) / 16) + 2 * h * d

/-- The record's parts: POS, LAYER, TAG, and the input scale words of head h. -/
def recPos (b : List Byte) : Nat := leNat (b.take 8)
def recLayer (b : List Byte) : Nat := leNat ((b.drop 8).take 2)
def recTag (b : List Byte) : Nat := leNat ((b.drop 12).take 4)
def recWord (b : List Byte) (i : Nat) : Nat := leNat ((b.drop (64 + 2 * i)).take 2)
/-- Reserved bytes of a record that must be 0 (R46): 10 to 11, 16 to 63; those after the last head's scale words pad the area. -/
def recReserved (b : List Byte) : Bool := ((b.drop 10).take 2 ++ (b.drop 16).take 48).all (· == 0)
/-- A head's key or value elements (R46). -/
def recElems (b : List Byte) (h d s i : Nat) : List Int :=
  ((b.drop (64 + 64 * ((h + 15) / 16) + s * h * d + i * d)).take d).map (fun x => x.toInt)

/-- What one head's token needs of its block. -/
structure TokenGroups where
  keys : List Group
  vals : List Group
  deriving DecidableEq, Repr

def TokenGroups.all (g : TokenGroups) : List Group := g.keys ++ g.vals
def TokenGroups.outliers (g : TokenGroups) : Nat := g.all.foldl (fun n x => n + x.outl.length) 0
def TokenGroups.promoted (g : TokenGroups) : Nat := (g.all.filter (fun x => x.kind == 2)).length

/-- The groups of every head of a record (R53). -/
def Seq.groups (q : Seq) (bs : List Byte) : List TokenGroups :=
  let d := dimOf q.hdim
  (List.range q.heads).map (fun h =>
    { keys := ingestVector q.format d q.tauK true (recWord bs (2 * h)) (recElems bs q.heads d 0 h),
      vals := ingestVector q.format d q.tauV false (recWord bs (2 * h + 1)) (recElems bs q.heads d 1 h) })

/-- Whether an open block has room for a token (R53). -/
def KvBlk.fits (b : KvBlk) (g : TokenGroups) : Bool :=
  let d := dimOf b.hdim
  !b.shut && b.tokens < 256 && (b.format == 8 || (b.outliers + g.outliers ≤ outlierCap d && b.promoted + g.promoted ≤ promCap d))

/-- The writes of a token before its header: scale words, outlier entries, promotion slots, element slots (R54). -/
def KvBlk.tokenWrites (b : KvBlk) (g : TokenGroups) : List (Nat × List Byte) :=
  let d := dimOf b.hdim
  let f := b.format
  let t := b.tokens
  let words (l : List Group) : List Byte := l.flatMap (fun x => leBytes x.word 2)
  let fields (l : List Group) : List Byte := l.flatMap (fun x => x.field f)
  let entries (s : Nat) (l : List Group) : List Nat :=
    (List.range l.length).flatMap (fun k => match l[k]? with | none => [] | some x => x.outl.map (outlierEntry (groupIx d s t k)))
  let outl := (entries 0 g.keys ++ entries 1 g.vals).flatMap (fun e => leBytes e 4)
  let prom := (g.all.filter (fun x => x.kind == 2)).flatMap Group.promBytes
  let spans : List (Nat × List Byte) :=
    [(scaleOff (groupIx d 0 t 0), words g.keys), (scaleOff (groupIx d 1 t 0), words g.vals)]
      ++ (if f = 8 then [] else [(outlierOff d b.outliers, outl), (promOff d b.promoted, prom)])
      ++ [(elemOff f d (groupIx d 0 t 0), fields g.keys), (elemOff f d (groupIx d 1 t 0), fields g.vals)]
  spans.flatMap (fun x => linePieces x.1 x.2 (x.2.length / 64 + 2))

/-- A block with one more token (R45, R54): sealed when it is full. -/
def KvBlk.withToken (b : KvBlk) (g : TokenGroups) : KvBlk :=
  let d := dimOf b.hdim
  { b with tokens := b.tokens + 1, outliers := b.outliers + g.outliers, promoted := b.promoted + g.promoted,
           checksum := (b.checksum + checkTerms d 0 b.tokens g.keys + checkTerms d 1 b.tokens g.vals) % 2 ^ 16,
           shut := b.shut || b.tokens + 1 == 256 }

/-- One head's part of a record: its open block sealed early if the token does not fit, and the block that takes the token (R53). -/
structure HeadPlan where
  sealed : Option (Nat × KvBlk)
  blk : Nat
  before : KvBlk
  fresh : Bool
  groups : TokenGroups
  deriving DecidableEq, Repr

/-- Choose each head's block in turn; new ones take frames (check 6 of R596). `h` counts the heads done. -/
def State.planHeads (s : State) (slot : Nat) (q : Seq) (layer pos : Nat) (h : Nat) : List TokenGroups → State × Option (List HeadPlan)
  | [] => (s, some [])
  | g :: t =>
    let tbl := q.tableOf layer h
    let cur := tbl.getLast?.bind (fun b => (s.blk b).map (fun x => (b, x)))
    let room := match cur with | some (_, b) => b.fits g && !b.shared | none => false
    match cur, room with
    | some (n, b), true =>
      match State.planHeads s slot q layer pos (h + 1) t with
      | (s, none) => (s, none)
      | (s, some l) => (s, some ({ sealed := none, blk := n, before := b, fresh := false, groups := g } :: l))
    | _, _ =>
      let z := frameBytes q.format (dimOf q.hdim)
      match placeFrame s.usedFrames (s.poolUnits q.basin) (s.spillPattern q.basin) q.quad z tbl.length h with
      | none => (s, none)
      | some pa =>
        let b : KvBlk := { pa := pa, basin := q.basin, format := q.format, hdim := q.hdim, layer := layer, head := h, first := pos,
                           tokens := 0, outliers := 0, promoted := 0, checksum := 0, shut := false, early := false, shared := false,
                           seq := s.handleOf slot, heat := 0 }
        let n := s.kv.nextBlk
        let s := ({ s with kv := { s.kv with nextBlk := n + 1 } } : State).setBlk n (some b)
        let old := match cur with
          | some (m, c) => if !c.shut && !c.shared then some (m, { c with shut := true, early := true }) else none
          | none => none
        match State.planHeads s slot q layer pos (h + 1) t with
        | (s, none) => (s, none)
        | (s, some l) => (s, some ({ sealed := old, blk := n, before := b, fresh := true, groups := g } :: l))

/-- Write the lines of every head that come before the headers (R54). -/
def State.writeTokens (s : State) (tenant : Nat) : List HeadPlan → State × Bool
  | [] => (s, true)
  | p :: t =>
    match s.writePieces p.before.pa tenant (p.before.tokenWrites p.groups) with
    | (s, true) => State.writeTokens s tenant t
    | (s, false) => (s, false)

/-- Write the header of a block sealed early, and then the header that carries the new token, head by head, up to the first refused: how many heads' headers
were written (R54). -/
def State.writeHeaders (s : State) (tenant : Nat) : List HeadPlan → State × Nat × Bool
  | [] => (s, 0, true)
  | p :: t =>
    let x : State × Bool := match p.sealed with
      | none => (s, true)
      | some (n, b) =>
        match s.writeHeader b tenant true with
        | (s, true) => (s.setBlk n (some b), true)
        | (s, false) => (s, false)
    if !x.2 then (x.1, 0, false)
    else
      let nb := p.before.withToken p.groups
      match x.1.writeHeader nb tenant true with
      | (s, false) => (s, 0, false)
      | (s, true) =>
        match State.writeHeaders (s.setBlk p.blk (some nb)) tenant t with
        | (s, k, ok) => (s, k + 1, ok)

/-- Give back the new frames of heads whose header was not written. -/
def State.dropFresh (s : State) (l : List HeadPlan) : State :=
  l.foldl (fun s p => if p.fresh then s.setBlk p.blk none else s) s

/-- Put the new blocks of heads whose header was written into the sequence's tables. -/
def Seq.addBlocks (q : Seq) (layer : Nat) (h : Nat) : List HeadPlan → Seq
  | [] => q
  | p :: t =>
    Seq.addBlocks (if p.fresh then q.setTable layer h (q.tableOf layer h ++ [p.blk]) else q) layer (h + 1) t

/-- Ingest one record whose bytes have been read (checks 1 to 7 of R596): the status, and OK when it is committed. -/
def State.ingestOne (s : State) (slot : Nat) (lines : List LineRead) : State × Nat :=
  match s.seqAt slot with
  | none => (s, jsSeqNotFound)
  | some q =>
    let bs := lines.flatMap (·.data)
    let layer := recLayer bs
    let pos := recPos bs
    let words := (List.range (2 * q.heads)).map (recWord bs)
    if lines.any (fun l => l.poison || l.stat != .ok) then (s, jsPoisoned)
    else if q.layers ≤ layer || !recReserved bs || words.any (fun w => !swInput w) then (s, jsIngestRange)
    else if q.damaged.contains layer then (s, jsWriteError)
    else if pos ≠ q.lenOf layer then (s, jsIngestOrder)
    else if q.maxTokens < q.lenOf layer + 1 then (s, jsSeqFull)
    else
      let gs := q.groups bs
      if gs.any (fun g => g.all.any (fun x => !x.inRange)) then (s, jsIngestRange)
      else
        let kv := s.kv
        match s.planHeads slot q layer pos 0 gs with
        | (_, none) => ({ s with kv := kv }, jsNoSpace)
        | (s, some plan) =>
          match s.writeTokens q.tenant plan with
          | (s, false) => (s.dropFresh plan, jsWriteError)
          | (s, true) =>
            match s.writeHeaders q.tenant plan with
            | (s, k, false) =>
              let s := s.dropFresh (plan.drop k)
              if k = 0 then (s, jsWriteError)
              else (s.setSeq slot (some { q.addBlocks layer 0 (plan.take k) with damaged := q.damaged ++ [layer] }), jsWriteError)
            | (s, _, true) =>
              let q := q.addBlocks layer 0 plan
              (s.setSeq slot (some { q with lens := Tbl.set (fun _ => 0) q.lens layer (pos + 1),
                                            windowHead := (q.windowHead + 1) % 2 ^ 32 }), jsOk)

/-! ### Blocks that nothing names -/

/-- Whether a sequence or a version names a block. -/
def State.blkNamed (s : State) (b : Nat) : Bool :=
  s.kv.seqs.any (fun e => e.2.elim false (fun q => (tableBlocks q.blocks).contains b))
    || s.kv.regions.any (fun r => r.versions.any (fun v => (tableBlocks v.blocks).contains b))

/-- Free the blocks of a list that nothing names any more, abandoning their moves (R62, R72, R226). -/
def State.dropBlocks (s : State) (l : List Nat) : State :=
  l.foldl (fun s b =>
    if s.blkNamed b then s
    else
      let m := s.kv.moves.filter (fun m => m.blk != b)
      ({ s with kv := { s.kv with moves := m } } : State).setBlk b none) s

/-! ### Versions (R65 to R74) -/

/-- A sealed copy of a block's tokens below m, in a new frame with a header line of its own (step 4 of R65): OUTLIERS, PROMOTED and CHECKSUM are recomputed. -/
def State.copyPrefix (s : State) (b : KvBlk) (dst m tenant : Nat) : State × KvBlk :=
  let d := dimOf b.hdim
  let f := b.format
  match s.readFrame b.pa none tenant (scaleLines d m ++ elemLines f d m ++ (if f = 8 then [] else spanLines (64 + 32 * d) (64 + 32 * d + 4 * b.outliers)
      ++ spanLines (64 + 64 * d) (64 + 64 * d + 32 * b.promoted))) with
  | (s, im, _) =>
    let outl := if f = 8 then [] else usedOutliers im d m 0 b.outliers
    let prom := if f = 8 then 0 else promCount im d m
    let nb : KvBlk := { b with pa := dst, tokens := m, outliers := outl.length, promoted := prom, checksum := checkSum im f d m outl,
                               shut := true, early := m < 256, shared := false, heat := 0 }
    let lines := scaleLines d m ++ elemLines f d m ++ (if f = 8 then [] else spanLines (64 + 32 * d) (64 + 32 * d + 4 * outl.length)
      ++ spanLines (64 + 64 * d) (64 + 64 * d + 32 * prom))
    (((s.copyLines b.pa dst tenant lines).writeLine dst none tenant false nb.header.bytes).1, nb)

/-- The blocks of one layer and head of the version of the first n tokens: blocks that end at or below n and are sealed as they are, the last one copied
when it is open or n is not its end. None when no frame is left. -/
def State.prepareHead (s : State) (tenant n : Nat) : List Nat → State × Option (List Nat)
  | [] => (s, some [])
  | x :: t =>
    match s.blk x with
    | none => State.prepareHead s tenant n t
    | some b =>
      if n ≤ b.first then (s, some [])
      else if b.shut && b.first + b.tokens ≤ n then
        match State.prepareHead s tenant n t with
        | (s, l) => (s, l.map (x :: ·))
      else
        let z := frameBytes b.format (dimOf b.hdim)
        let units := s.poolUnits b.basin
        let used := s.usedFrames
        match (mostFree used units z (quadOf b.pa)).or ((bestQuad used units z).bind (mostFree used units z)) with
        | none => (s, none)
        | some dst =>
          match s.copyPrefix b dst (min (n - b.first) b.tokens) tenant with
          | (s, nb) =>
            let k := s.kv.nextBlk
            let s := ({ s with kv := { s.kv with nextBlk := k + 1 } } : State).setBlk k (some nb)
            match State.prepareHead s tenant n t with
            | (s, l) => (s, l.map (k :: ·))

/-- Prepare every layer and head of a version (step 4 of R65), by table key. -/
def State.prepareAll (s : State) (q : Seq) (n : Nat) : List Nat → State × Option (Tbl (List Nat))
  | [] => (s, some [])
  | k :: t =>
    match s.prepareHead q.tenant n (q.tableOf (k / 64) (k % 64)) with
    | (s, none) => (s, none)
    | (s, some l) =>
      match State.prepareAll s q n t with
      | (s, none) => (s, none)
      | (s, some r) => (s, some (if l = [] then r else (k, l) :: r))

/-- Set SHARED in a block and its header (step 5 of R65); the line's poison mark stays (R312). Nothing clears it again, also where the last published version
that holds the block has retired. DESIGN CHOICE, log entry 115. -/
def State.shareBlock (s : State) (tenant x : Nat) : State :=
  match s.blk x with
  | none => s
  | some b =>
    let nb := { b with shared := true }
    ((s.writeLine b.pa none tenant (s.pool.line b.pa).poison nb.header.bytes).1).setBlk x (some nb)

/-- Retire a version (R71, R246): no pin on it is left, and the jobs now in flight hold its blocks (R72). -/
def State.retire (s : State) (r : Region) (n : Nat) : State :=
  let live := s.inFlight
  let vs := r.versions.map (fun (v : Version) => if v.number = n then { v with retired := true, waits := live, kept := 0 } else v)
  let pins := s.kv.pins.filter (fun p => !(p.tenant == r.tenant && p.key == r.key && p.version == n))
  (({ s with kv := { s.kv with pins := pins } } : State)).putRegion { r with versions := vs }

/-- The sequence handle a job names, if it names one (R57, R61, R165, R168): a job whose descriptor is not yet
read names none. -/
def Job.handle (j : Job) : Option Nat :=
  if j.st = .taken then none
  else if j.desc.opcode = 0x10 then
    let c := j.desc.source % 2 ^ 16
    if c = 2 ∨ c = 3 then some (leNat (j.body.take 4)) else if c = 0x10 then some (leNat ((j.body.drop 8).take 4)) else none
  else if j.desc.region then none else some (j.desc.source % 2 ^ 32)

/-- Mark a sequence closing (R62): the jobs that now name it end normally. -/
def State.closeSeq (s : State) (slot : Nat) : State :=
  match s.seqAt slot with
  | none => s
  | some q =>
    if q.shut then s
    else
      let h := s.handleOf slot
      let users := (s.jobs.jobs.filter (fun j => j.handle == some h)).map (·.id)
      s.setSeq slot (some { q with shut := true, waits := users })

/-- The pins a client holds are released (R69). -/
def State.dropPins (s : State) (ep : Nat) : State := { s with kv := { s.kv with pins := s.kv.pins.filter (fun p => p.ep != ep) } }

/-! ### Heat and moves (R33, R223 to R226) -/

/-- Value of a placement parameter (R225, R536). -/
def paramDefault (p : Nat) : Nat :=
  if p = 1 then 16384 else if p = 2 then 4 else if p = 3 then 1000 else if p = 4 then 8 else if p = 5 then 12
  else if p = 6 then 1 else if p = 7 then 3 else if p = 8 then 32 * 2 ^ 20 else 0

def State.param (s : State) (p : Nat) : Nat := Tbl.get paramDefault s.mgmt.params p

/-- Change a block's heat, and with it the heat field of its header line's side storage (R223). -/
def State.setHeat (s : State) (x h : Nat) : State :=
  match s.blk x with
  | none => s
  | some b =>
    if b.heat = h then s
    else
      let l := s.pool.line b.pa
      let s := (State.wrote { s with pool := s.pool.setLine b.pa { l with heat := h } } b.pa).mirrorLine b.pa
      s.setBlk x (some { b with heat := h })

/-- Free bytes and all bytes of a basin's fast-tier block pool in a quadrant; moves that leave it count as gone. -/
def State.poolFree (s : State) (basin q : Nat) : Nat × Nat :=
  let units := (s.poolUnits basin).filter (fun x => x < fastTop && quadOf x == q)
  let total := units.length * frameUnit
  let leaving := s.kv.moves.filterMap (fun m => (s.blk m.blk).bind (fun b => if b.inSpill then none else some b.pa))
  let used := (s.usedFrames.filter (fun f => units.any (fun x => x / frameUnit == f.1 / frameUnit) && !leaving.contains f.1)).foldl
    (fun n f => n + f.2) 0
  (total - used, total)

/-- Whether a sequence that holds a block asks for the fast tier (R77, R224): the one that made it, or one that shares it. -/
def State.prefersFast (s : State) (n : Nat) : Bool :=
  s.kv.seqs.any (fun e => e.2.elim false (fun q => 128 ≤ q.hint && (tableBlocks q.blocks).contains n))

/-- Blocks of a basin in a quadrant that may move: sealed, and not moving (R75, R226). -/
def State.movable (s : State) (basin q : Nat) (spill : Bool) : List (Nat × KvBlk) :=
  s.kv.blks.filterMap (fun e => e.2.bind (fun b =>
    if b.basin = basin ∧ b.shut ∧ b.inSpill = spill ∧ quadOf b.pa = q ∧ !(s.kv.moves.any (fun m => m.blk == e.1)) then some (e.1, b) else none))

/-- Put a candidate in order by a key. -/
def insertBy {α : Type} (key : α → Nat) (x : α) : List α → List α
  | [] => [x]
  | y :: t => if key x < key y then x :: y :: t else y :: insertBy key x t

def sortBy {α : Type} (key : α → Nat) (l : List α) : List α := l.foldl (fun acc x => insertBy key x acc) []

/-- Start demotions in order while the pool's free fraction is below HIGH_FREE and the budget and the allowance last (R224). -/
def State.demoteList (s : State) (basin q : Nat) (budget : Nat) : List (Nat × KvBlk) → State × Nat
  | [] => (s, budget)
  | (n, b) :: t =>
    let z := frameBytes b.format (dimOf b.hdim)
    let fr := s.poolFree basin q
    if s.param 5 * fr.2 ≤ 100 * fr.1 || budget < z then (s, budget)
    else
      let units := (s.allowance basin).filter (fun x => quadOf x == q)
      match mostSpace s.usedFrames units z q with
      | none => (s, budget)
      | some dst => State.demoteList { s with kv := { s.kv with moves := s.kv.moves ++ [{ blk := n, dst := dst }] } } basin q (budget - z) t

/-- Start promotions in order while the free fraction stays at or above HIGH_FREE and the budget lasts (R224). -/
def State.promoteList (s : State) (basin q : Nat) (budget : Nat) : List (Nat × KvBlk) → State × Nat
  | [] => (s, budget)
  | (n, b) :: t =>
    let z := frameBytes b.format (dimOf b.hdim)
    let fr := s.poolFree basin q
    if 100 * (fr.1 - z) < s.param 5 * fr.2 || fr.1 < z || budget < z then (s, budget)
    else
      match mostFree s.usedFrames ((s.poolUnits basin).filter (fun x => x < fastTop)) z q with
      | none => (s, budget)
      | some dst => State.promoteList { s with kv := { s.kv with moves := s.kv.moves ++ [{ blk := n, dst := dst }] } } basin q (budget - z) t

/-- A Steward's decisions for a basin at the end of a management cycle (R224): the rest of the quadrant's budget. Demotions come first. -/
def State.demoteBasin (s : State) (basin q budget : Nat) : State × Nat :=
  let fr := s.poolFree basin q
  if s.spillPattern basin || s.param 4 * fr.2 ≤ 100 * fr.1 then (s, budget)
  else
    let c := (s.movable basin q false).filter (fun e => e.2.heat ≤ s.param 6)
    let key (e : Nat × KvBlk) : Nat := ((if s.prefersFast e.1 then 8 else 0) + e.2.heat) * 2 ^ 64 + e.2.first
    s.demoteList basin q budget (sortBy key c)

def State.promoteBasin (s : State) (basin q budget : Nat) : State × Nat :=
  if s.spillPattern basin then (s, budget)
  else
    let c := (s.movable basin q true).filter (fun e => s.param 7 ≤ e.2.heat)
    s.promoteList basin q budget (sortBy (fun e => 7 - e.2.heat) c)

/-- One Steward's moves of a cycle: each basin's demotions, then each one's promotions, within MIGRATE_BYTES. -/
def State.stewardMoves (s : State) (q : Nat) : State :=
  let ids := s.basins.map (·.1)
  let r := ids.foldl (fun (acc : State × Nat) b => acc.1.demoteBasin b q acc.2) (s, s.param 8)
  (ids.foldl (fun (acc : State × Nat) b => acc.1.promoteBasin b q acc.2) r).1

end Sys2Proof.Machine
end

