-- ==== Sys2Proof/Machine/TarnMath.lean ====
section
/-!
DEFINITION. The arithmetic of a Tarn (R84 to R97): rotated queries, logits, the base-2 softmax, value accumulation, combining partials, normalising,
and the layout of partial records (R92).
-/
namespace Sys2Proof.Machine

def s32Max : Int := 2 ^ 31 - 1
def s32Min : Int := -2 ^ 31
def u32Max : Nat := 2 ^ 32 - 1

/-- Saturating signed 32-bit value, and whether it clamped (R97). -/
def satS (x : Int) : Int × Nat := if x < s32Min then (s32Min, 1) else if s32Max < x then (s32Max, 1) else (x, 0)

/-- Saturating unsigned 32-bit value, and whether it clamped (R97). -/
def satU (x : Nat) : Nat × Nat := if u32Max < x then (u32Max, 1) else (x, 0)

/-- shr_round(x, s) (R87). -/
def shrRound (x : Int) (s : Nat) : Int := if s = 0 then x else if s ≤ 32 then rha x (2 ^ s) else 0

/-! ### Queries (R82, R84) -/

/-- Bytes of a query record (R82). -/
def queryBytes (qh d : Nat) : Nat := 64 * ((qh + 31) / 32) + qh * d
def qWord (b : List Byte) (j : Nat) : Nat := leNat ((b.drop (2 * j)).take 2)
def qElems (b : List Byte) (qh d j : Nat) : List Int := ((b.drop (64 * ((qh + 31) / 32) + j * d)).take d).map (fun x => x.toInt)

/-- The rotated and quantised groups of a query head (R84). -/
def rotateQuery (d w : Nat) (x : List Int) : List Group :=
  if swKind w = 3 then List.replicate (d / 32) { zeroGroup with kind := 0 }
  else
    let n := (hadamard (dimLog d) x).map (fun y => y * Int.ofNat (swM w))
    (List.range (d / 32)).map (fun k => quantise 8 127 false (swE w) ((n.drop (32 * k)).take 32))

/-- Whether a line of a query head's scale word or elements lies among the poisoned lines (R98). -/
def queryPoisoned (bad : List Nat) (qh d j : Nat) : Bool :=
  bad.contains (2 * j / 64) || (spanLines (64 * ((qh + 31) / 32) + j * d) (64 * ((qh + 31) / 32) + j * d + d)).any bad.contains

/-! ### Logits (R85) -/

/-- What MSCORE sees of a block: format, head dimension, tokens read, its lines, its outlier entries (R86). -/
structure BlockData where
  format : Nat
  d : Nat
  tokens : Nat
  image : FrameImg
  outl : List (Nat × Nat × Int)
  deriving DecidableEq, Repr

def BlockData.word (b : BlockData) (s t k : Nat) : Nat := b.image.num (scaleOff (groupIx b.d s t k)) 2
def BlockData.vals (b : BlockData) (s t k : Nat) : List Int := decodeValues b.image b.format b.d (groupIx b.d s t k) b.outl

/-- Contribution of key group k to the logit of token t (R85). -/
def keyTerm (b : BlockData) (scale t k : Nat) (g : Group) : Int :=
  let w := b.word 0 t k
  if swKind w = 3 then 0
  else
    let dot := sumInt (List.zipWith (· * ·) g.q (b.vals 0 t k))
    rhaShift (dot * Int.ofNat (swM w) * Int.ofNat g.m * Int.ofNat (swM scale)) (swE w + g.e + swE scale - 11 - Int.ofNat (dimLog b.d))

/-- A token's logit: the sum in ascending k, clamped after each addition, and how often it clamped (R85, R97). -/
def logit (b : BlockData) (scale t : Nat) (q : List Group) : Int × Nat :=
  (List.range q.length).foldl (fun acc k =>
    match q[k]? with
    | none => acc
    | some g =>
      let r := satS (acc.1 + keyTerm b scale t k g)
      (r.1, acc.2 + r.2)) (0, 0)

/-! ### Softmax (R87 to R89) -/

/-- ceil(L / 1,024). -/
def ceilK (l : Int) : Int := -((-l) / 1024)

/-- m_b of a block for a tile (R87). -/
def blockMax : List Int → Option Int
  | [] => none
  | l :: t => match blockMax t with
    | none => some (ceilK l)
    | some m => some (if m < ceilK l then ceilK l else m)

/-- The reference-exponent update (R87). -/
def Tile.raise (x : Tile) (mb : Int) : Tile :=
  if x.empty then { x with m := mb, empty := false }
  else if x.m < mb then
    let s := (mb - x.m).toNat
    { x with sum := (shrRound (Int.ofNat x.sum) s).toNat, acc := x.acc.map (fun a => shrRound a s), m := mb }
  else x

/-- T of R88: round(32,768 × 2^(i/16)). -/
def exp2Table : List Int :=
  [32768, 34219, 35734, 37316, 38968, 40693, 42495, 44376, 46341, 48393, 50535, 52773, 55109, 57549, 60097, 62757, 65536]

/-- exp2 of a logit difference (R88): (p, n), the weight p × 2^(n − 7). -/
def exp2 (x : Int) : Int × Int :=
  let n := x / 1024
  let f := x - 1024 * n
  let i := (f / 64).toNat
  let r := f % 64
  let u := exp2Table.getD i 0 + ((exp2Table.getD (i + 1) 0 - exp2Table.getD i 0) * r + 32) / 64
  let p := (u + 128) / 256
  if p = 256 then (128, n + 1) else (p, n)

/-- Add a weight to a tile's sum (R89): the tile, and whether the sum clamped. -/
def Tile.addWeight (x : Tile) (w : Int × Int) : Tile × Nat :=
  let r := satU (x.sum + (rhaShift w.1 (w.2 + 8)).toNat)
  ({ x with sum := r.1, sat := (satU (x.sat + r.2)).1 }, r.2)

/-- Accumulate one token's values (R90): the tile, and how many elements clamped. -/
def Tile.addValues (x : Tile) (b : BlockData) (t : Nat) (valExp : Int) (w : Int × Int) : Tile × Nat :=
  let vs := (List.range (b.d / 32)).flatMap (fun k =>
    let sw := b.word 1 t k
    let sh := swE sw + w.2 - 14 - valExp
    (b.vals 1 t k).map (fun v => if swKind sw = 3 then 0 else rhaShift (v * w.1 * Int.ofNat (swM sw)) sh))
  let rs := List.zipWith (fun a v => satS (a + v)) x.acc vs
  let n := rs.foldl (fun n r => n + r.2) 0
  ({ x with acc := rs.map (·.1), sat := (satU (x.sat + n)).1 }, n)

/-- Saturation events by counter of R115: score, value, sum. -/
structure SatCount where
  score : Nat := 0
  value : Nat := 0
  sum : Nat := 0
  deriving DecidableEq, Repr

def SatCount.add (a b : SatCount) : SatCount := { score := a.score + b.score, value := a.value + b.value, sum := a.sum + b.sum }

/-- Weight and accumulate a block's tokens, given its logits, in ascending t (R88 to R90). -/
def Tile.weigh (x : Tile) (b : BlockData) (valExp : Int) (ls : List Int) : Tile × SatCount :=
  (List.range b.tokens).foldl (fun acc t =>
    let w := exp2 (ls.getD t 0 - 1024 * acc.1.m)
    let r := acc.1.addWeight w
    let v := r.1.addValues b t valExp w
    (v.1, acc.2.add { value := v.2, sum := r.2 })) (x, {})

/-- One block through one tile (R85 to R90): a poisoned query head, which has no groups here, scores nothing (R99). -/
def Tile.block (x : Tile) (b : BlockData) (scale : Nat) (valExp : Int) (q : List Group) : Tile × SatCount :=
  if q = [] then (x, {})
  else
    let ls := (List.range b.tokens).map (fun t => logit b scale t q)
    let sc := ls.foldl (fun n l => n + l.2) 0
    let x := { x with sat := (satU (x.sat + sc)).1 }
    match blockMax (ls.map (·.1)) with
    | none => (x, { score := sc })
    | some mb =>
      let r := (x.raise mb).weigh b valExp (ls.map (·.1))
      (r.1, r.2.add { score := sc })

/-! ### Merging (R93, R94) -/

/-- combine(p, r) for one query head: the tile and the saturations of value and sum. -/
def Tile.combine (p r : Tile) : Tile × SatCount :=
  if r.empty then ({ p with poison := p.poison || r.poison, sat := (satU (p.sat + r.sat)).1 }, {})
  else
    let x : Tile × Nat × Nat :=
      if p.empty then ({ p with m := r.m, sum := r.sum, acc := r.acc, empty := false }, 0, 0)
      else
        let m := if p.m < r.m then r.m else p.m
        let sp := (m - p.m).toNat
        let sr := (m - r.m).toNat
        let su := satU ((shrRound (Int.ofNat p.sum) sp).toNat + (shrRound (Int.ofNat r.sum) sr).toNat)
        let as := List.zipWith (fun a b => satS (shrRound a sp + shrRound b sr)) p.acc r.acc
        ({ p with m := m, sum := su.1, acc := as.map (·.1) }, as.foldl (fun n a => n + a.2) 0, su.2)
    ({ x.1 with poison := p.poison || r.poison, sat := (satU (p.sat + r.sat + x.2.1 + x.2.2)).1 },
      { value := x.2.1, sum := x.2.2 })

/-! ### Partial records (R92) -/

/-- A partial record: its header, FLAGS from its heads, and one tile a head entry. -/
structure Partial where
  sliceId : Nat
  slices : Nat
  hdim : Nat
  valExp : Int
  tiles : List Tile
  deriving DecidableEq, Repr

def Tile.entry (x : Tile) (d : Nat) : List Byte :=
  leBytes (unsignedOf x.m 32) 4 ++ leBytes x.sum 4 ++ leBytes x.sat 4
    ++ leBytes ((if x.poison then 1 else 0) + (if x.empty then 2 else 0)) 1 ++ leBytes 0 1 ++ leBytes x.qhead 2 ++ leBytes 0 48
    ++ (List.range d).flatMap (fun i => leBytes (unsignedOf (x.acc.getD i 0) 32) 4)

def Partial.bytes (r : Partial) : List Byte :=
  let fl := (if r.tiles.any (·.poison) then 1 else 0) + (if r.tiles.any (fun x => x.sat != 0) then 2 else 0)
  leBytes r.sliceId 4 ++ leBytes r.slices 4 ++ leBytes r.tiles.length 2 ++ leBytes r.hdim 1 ++ leBytes (unsignedOf r.valExp 8) 1
    ++ leBytes fl 4 ++ leBytes 0 48 ++ r.tiles.flatMap (fun x => x.entry (dimOf r.hdim))

/-- Bytes of a record of `h` heads of dimension d (R92). -/
def partialBytes (h d : Nat) : Nat := 64 + h * (64 + 4 * d)

def tileOf (b : List Byte) (d : Nat) : Tile :=
  let n (o k : Nat) : Nat := leNat ((b.drop o).take k)
  { qhead := n 14 2, empty := bitOf (n 12 1) 1, poison := bitOf (n 12 1) 0, m := signedOf (n 0 4) 32, sum := n 4 4, sat := n 8 4,
    acc := (List.range d).map (fun i => signedOf (n (64 + 4 * i) 4) 32) }

def partialOf (b : List Byte) : Partial :=
  let n (o k : Nat) : Nat := leNat ((b.drop o).take k)
  let d := dimOf (n 10 1 % 4)
  { sliceId := n 0 4, slices := n 4 4, hdim := n 10 1 % 4, valExp := signedOf (n 11 1) 8,
    tiles := (List.range (n 8 2)).map (fun i => tileOf (b.drop (64 + i * (64 + 4 * d))) d) }

/-- Combine a record into another, matching heads by query head; into a record of no slices the first one is copied (R93, R153). -/
def Partial.combine (p r : Partial) : Partial × SatCount :=
  if p.slices = 0 then (r, {})
  else
    let step (acc : List Tile × SatCount) (x : Tile) : List Tile × SatCount :=
      match acc.1.find? (fun y => y.qhead == x.qhead) with
      | none => (acc.1 ++ [x], acc.2)
      | some y =>
        let c := y.combine x
        (acc.1.map (fun z => if z.qhead = x.qhead then c.1 else z), acc.2.add c.2)
    let res := r.tiles.foldl step (p.tiles, {})
    ({ p with sliceId := min p.sliceId r.sliceId, slices := p.slices + r.slices, tiles := res.1 }, res.2)

/-! ### Normalising (R95) -/

/-- One output element: A × 2^(VAL_EXP + 15 − OUT_EXP) / l, rounded and clipped; for l = 0, which the manual excludes, the value is `free`. -/
def normElem (a : Int) (l : Nat) (valExp outExp free : Int) : Int × Nat :=
  if l = 0 then (free, 0)
  else
    let e := valExp + 15 - outExp
    let o := if 0 ≤ e then rha (a * 2 ^ e.toNat) l else rha a (l * 2 ^ (-e).toNat)
    (clipInt o (-32767) 32767, if o < -32767 ∨ 32767 < o then 1 else 0)

/-- A head's d output elements, and how many were clipped; an EMPTY head gives zeros. -/
def Tile.normalise (x : Tile) (d : Nat) (valExp outExp : Int) (free : Nat → Int) : List Int × Nat :=
  if x.empty then (List.replicate d 0, 0)
  else
    let rs := (List.range d).map (fun i => normElem (x.acc.getD i 0) x.sum valExp outExp (free i))
    (rs.map (·.1), rs.foldl (fun n r => n + r.2) 0)

/-- An empty tile of a query head (R87, R176). -/
def emptyTile (d j : Nat) : Tile := { qhead := j, acc := List.replicate d 0 }

end Sys2Proof.Machine
end

