-- ==== Sys2Proof/Machine/Jobs.lean ====
section
/-!
DEFINITION. Jobs (R158 to R192): Inlets, roles and their Tarns (R105 to R107), dispatch queues and credits (R380 to R384), completion records (R178 to R180),
and the partials that make a decode job's result (R93 to R95, R105).
-/
namespace Sys2Proof.Machine

/-! ### Inlets -/

def State.inlet (s : State) (i : Nat) : Inlet := Tbl.get (fun _ => {}) s.jobs.inlets i
def State.setInlet (s : State) (i : Nat) (l : Inlet) : State :=
  { s with jobs := { s.jobs with inlets := Tbl.set (fun _ => {}) s.jobs.inlets i l } }
/-- S (R158). -/
def Inlet.slots (l : Inlet) : Nat := 2 ^ l.ringLog2
/-- The unit that takes an Inlet's descriptors: its home port's engine when it is bound, else the dispatcher, 8 (R166). -/
def Inlet.engine (l : Inlet) : Nat := if l.bound.isSome then l.port else 8
/-- Descriptors covered by the tail and not yet taken. -/
def Inlet.untaken (l : Inlet) : Nat := (l.tail + 65536 - l.started) % 65536
/-- Where slot i starts (R160). -/
def Inlet.slotVa (l : Inlet) (i : Nat) : Nat := l.ringVa + i * 2 ^ l.slotLog2

/-- The job unit runs: JOB_CTRL.ENABLE is 1 and has taken effect (R187, R593), and no fatal error has closed it (R555). -/
def State.jobsOn (s : State) : Bool := s.flag R.JOB_CTRL F.JOB_CTRL_ENABLE && s.get R.GLOB_STATUS F.GLOB_STATUS_PHASE == 4
/-- An Inlet accepts doorbells: enabled, and its home port in no L3 reset (R192). -/
def State.inletOn (s : State) (l : Inlet) : Bool := l.enable && !s.inL3 (unitKey 2 l.port)

def State.job (s : State) (id : Nat) : Option Job := s.jobs.jobs.find? (fun j => j.id == id)
def State.putJob (s : State) (j : Job) : State :=
  { s with jobs := { s.jobs with jobs := s.jobs.jobs.map (fun x => if x.id = j.id then j else x) } }
def State.updJob (s : State) (id : Nat) (f : Job → Job) : State :=
  match s.job id with | none => s | some j => s.putJob (f j)

/-- A failure of a job becomes known (R183). -/
def State.failJob (s : State) (id status : Nat) : State :=
  s.updJob id (fun j => { j with fails := if j.fails.contains status then j.fails else j.fails ++ [status] })

/-- The failure that STATUS names (R183). -/
def firstFail (l : List Nat) : Option Nat :=
  ([jsTarnFault, jsProgException, jsTimeout, jsAborted, jsXlatFault, jsWriteError].find? l.contains).or l.head?

/-! ### Images (R170, R171) -/

/-- What dispatch and validation need of an image: entries by role (0xFFFF: absent) and the masks. -/
structure ImageInfo where
  tenant : Option Nat
  worker : Nat
  merge : Nat
  final : Nat
  ingest : Nat
  formats : Nat
  hdims : Nat
  groups : Nat
  bundles : Nat
  deriving DecidableEq, Repr

/-- The image of a PROG_ID, if it is resident. The Walsyn images are resident from entry into service; 0x0001 supports everything. -/
def State.image (s : State) (id : Nat) : Option ImageInfo :=
  if id = 0 then none
  else if id < 256 then
    let all (f m : Nat) : Nat := if id = 1 then m else Config.walsyn id f
    some { tenant := none, worker := Config.walsyn id 0 % 4096, merge := Config.walsyn id 1 % 4096, final := Config.walsyn id 2 % 4096,
           ingest := Config.walsyn id 7 % 4096,
           formats := all 3 15, hdims := all 4 7, groups := all 5 63, bundles := Config.walsyn id 6 % 4096 + 1 }
  else match s.jobs.images.find? (fun i => i.id == id) with
    | none => none
    | some i => some { tenant := some i.tenant, worker := i.worker, merge := i.merge, final := i.final, ingest := i.ingest, formats := i.formats,
                       hdims := i.hdims, groups := i.groups, bundles := i.code.length / 16 }

/-- An image that a tenant may run (R171, check 9 of R166). -/
def State.imageFor (s : State) (tenant id : Nat) : Option ImageInfo :=
  match s.image id with
  | none => none
  | some i => if i.tenant = none ∨ i.tenant = some tenant then some i else none

/-- Bit of FORMAT_MASK for a format (R170). -/
def fmtBit (f : Nat) : Nat := if f = 8 then 0 else if f = 4 then 1 else if f = 3 then 2 else 3
def ImageInfo.runs (i : ImageInfo) (f hdim gLog2 : Nat) : Bool := bitOf i.formats (fmtBit f) && bitOf i.hdims hdim && bitOf i.groups gLog2

/-! ### Roles and Tarns (R106, R107, R111) -/

def State.tarn (s : State) (t : Nat) : Tarn := Tbl.get (fun _ => {}) s.tarns t
def State.setTarn (s : State) (t : Nat) (x : Tarn) : State := { s with tarns := Tbl.set (fun _ => {}) s.tarns t x }
def State.updTarn (s : State) (t : Nat) (f : Tarn → Tarn) : State := s.setTarn t (f (s.tarn t))
def State.tarnState (s : State) (t : Nat) : Nat := s.get (R.TARN_STATUS t) F.TARN_STATUS_STATE
def State.setTarnState (s : State) (t v : Nat) : State := s.put (R.TARN_STATUS t) F.TARN_STATUS_STATE v
def State.tarnFaulted (s : State) (t : Nat) : Bool := s.flag (R.TARN_CTRL t) F.TARN_CTRL_FAULT

/-- The roles a Tarn carries: at most two (R107, R111). -/
def State.rolesOf (s : State) (t : Nat) : List Nat :=
  let a := s.get (R.TARN_CTRL t) F.TARN_CTRL_ROLE
  let b := s.get (R.TARN_CTRL t) F.TARN_CTRL_ROLE2
  (if a < 24 then [a] else []) ++ (if s.flag (R.TARN_CTRL t) F.TARN_CTRL_ROLE2_EN && b < 24 then [b] else [])

/-- Tarns of a quadrant, ascending (R15). -/
def tarnsIn (q : Nat) : List Nat := (List.range 25).map (25 * q + ·)

/-- A Tarn runs nothing: no program, no transfer, and free banks. -/
def Tarn.idle (x : Tarn) : Tarn := { x with run := none, xfers := [], bank0 := none, bank1 := none }

/-- STATE when a Tarn's slice or merge is over (R107, R112): loading while an image of a second role still loads, else idle. -/
def State.restState (s : State) (t : Nat) : State :=
  if s.tarnState t = 1 then s.setTarnState t (if (s.tarn t).loading = [] then 0 else 2) else s

/-- A held start packet asks for nothing any more. -/
def Held.done (h : Held) : Bool := h.slices == [] && h.merge == none && !h.ingest

/-- The Tarn that carries a role: an enabled one before a disabled one. -/
def State.roleTarn (s : State) (q r : Nat) : Option Nat :=
  let l := (tarnsIn q).filter (fun t => (s.rolesOf t).contains r)
  (l.find? (fun t => s.flag (R.TARN_CTRL t) F.TARN_CTRL_ENABLE && !s.tarnFaulted t)).or l.head?

/-- A Tarn takes start packets (R105, R111, R116). -/
def State.tarnTakes (s : State) (t : Nat) : Bool :=
  s.flag (R.TARN_CTRL t) F.TARN_CTRL_ENABLE && !s.flag (R.TARN_CTRL t) F.TARN_CTRL_DRAIN && !s.tarnFaulted t && !s.inL3 (unitKey 0 t)

/-- The image a role holds (R106, R172): by assignment, and whether its Tarn has it loaded. -/
def State.roleImage (s : State) (q r : Nat) : Nat := Tbl.get (fun _ => 1) s.jobs.roleImg (32 * q + r)
def State.setRoleImage (s : State) (q r i : Nat) : State :=
  { s with jobs := { s.jobs with roleImg := Tbl.set (fun _ => 1) s.jobs.roleImg (32 * q + r) i } }
def State.roleLoaded (s : State) (q r : Nat) : Bool :=
  match s.roleTarn q r with
  | none => false
  | some t => (s.tarn t).progs.contains (r, s.roleImage q r)

/-- A role's image begins to load into its Tarn (step 4 of R106): STATE reads loading unless a slice of its other role runs (R107). -/
def State.startLoad (s : State) (q r : Nat) : State :=
  match s.roleTarn q r with
  | none => s
  | some t =>
    let x := s.tarn t
    let s := s.setTarn t { x with progs := x.progs.filter (fun p => p.1 != r),
                                  loading := x.loading.filter (fun p => p.1 != r) ++ [(r, s.roleImage q r)] }
    if s.tarnState t = 0 then s.setTarnState t 2 else s

/-- The Inlets bound to a role. -/
def State.bindingsOf (s : State) (q r : Nat) : List (Nat × Inlet) :=
  s.jobs.inlets.filter (fun e => e.2.bound.elim false (fun b => b.roles.contains (q, r)))

/-! ### Dispatch credits (R383) -/

/-- Roles at which a job still holds an entry: it has work there and the Tarn has not begun it. -/
def Job.entries (j : Job) : List (Nat × Nat) :=
  if j.st = .decode then
    ((j.slices.map (fun x => (x.quad, x.role))) ++ (j.merges.map (fun m => (m.quad, m.role)))).filter (fun p => !j.started.contains p)
  else if j.st = .ingest then j.arrived.filter (fun p => !j.started.contains p)
  else []

/-- Entries of a source in use at a Tarn. -/
def State.entriesAt (s : State) (source t : Nat) : Nat :=
  (s.jobs.jobs.filter (fun j => j.engine == source && j.entries.any (fun p => s.roleTarn p.1 p.2 == some t))).length

def creditsOfSource (source : Nat) : Nat := if source = 8 then 8 else 3

/-- A source holds a free credit at a role's Tarn; a role with no Tarn stands in nobody's way (R105). -/
def State.creditFree (s : State) (source q r : Nat) : Bool :=
  match s.roleTarn q r with
  | none => true
  | some t => s.entriesAt source t < creditsOfSource source

/-! ### Dispatch queues (R376 to R386) -/

def State.disp (s : State) (e : Nat) : Disp := Tbl.get (fun _ => {}) s.jobs.sources e
def State.setDisp (s : State) (e : Nat) (x : Disp) : State := { s with jobs := { s.jobs with sources := Tbl.set (fun _ => {}) s.jobs.sources e x } }

/-- Descriptors of an Inlet in a source's queues. -/
def Disp.queuedOf (x : Disp) (i : Nat) : Nat :=
  x.queues.foldl (fun n q => q.inlets.foldl (fun n e => if e.1 = i then n + e.2 else n) n) 0

def Disp.queue (x : Disp) (t c : Nat) : DispQ :=
  (x.queues.find? (fun q => q.tenant == t && q.cls == c)).getD { tenant := t, cls := c, fs := [], inlets := [] }

def Disp.setQueue (x : Disp) (q : DispQ) : Disp :=
  let rest := x.queues.filter (fun y => !(y.tenant == q.tenant && y.cls == q.cls))
  { x with queues := if q.fs = [] then rest else rest ++ [q] }

/-- One descriptor of an Inlet joins its queue (R380); a queue holds at most QLIMIT jobs (R386). -/
def State.joinQueue (s : State) (e i : Nat) (l : Inlet) : State :=
  let x := s.disp e
  let q := x.queue l.tenant l.qos
  if s.get R.QOS_CFG F.QOS_CFG_QLIMIT ≤ q.fs.length ∨ l.untaken ≤ x.queuedOf i then s
  else
    let base := (q.fs.getLast?).getD x.v
    let f := (base + s.finishStep l.tenant l.qos 1 false) % 2 ^ 40
    let il := if q.inlets.any (fun p => p.1 == i) then q.inlets.map (fun p => if p.1 = i then (p.1, p.2 + 1) else p) else q.inlets ++ [(i, 1)]
    s.setDisp e (x.setQueue { q with fs := q.fs ++ [f], inlets := il })

/-- Descriptors of an Inlet join its queue in ring order while it has room. `fuel` bounds the walk. -/
def State.topUp (s : State) (i : Nat) : Nat → State
  | 0 => s
  | n + 1 => State.topUp (s.joinQueue (s.inlet i).engine i (s.inlet i)) i n

/-- Every Inlet of a source tops its queue up, by ascending number. -/
def State.topUpAll (s : State) (e : Nat) : State :=
  (s.jobs.inlets.filter (fun p => p.2.engine == e && p.2.untaken != 0)).foldl (fun s p => s.topUp p.1 p.2.untaken) s

/-! ### Completion (R178 to R180) -/

/-- The bitmap of a list of query heads. -/
def headBits (l : List Nat) : List Byte := leBytes (l.foldl (fun v j => v ||| 2 ^ j) 0) 32

/-- The two lines of a completion record (R178). -/
def Job.record (j : Job) (status result phase : Nat) : List Byte × List Byte :=
  let exc : Exc := ((if status = jsProgException then j.exc else none).getD { cause := 0, slot := 0, bundle := 0 })
  let flags := phase + (if j.satTotal = 0 then 0 else 2) + (if j.poisonHeads = [] then 0 else 4) + (if j.emptyHeads = [] then 0 else 8)
  (leBytes j.slot 2 ++ leBytes status 1 ++ leBytes flags 1 ++ leBytes j.desc.tag 4 ++ leBytes result 8 ++ leBytes j.satTotal 4
      ++ leBytes j.spill 4 ++ leBytes j.unchecked 4 ++ leBytes j.blocks 4 ++ leBytes exc.cause 1 ++ leBytes exc.slot 1
      ++ leBytes exc.bundle 2 ++ leBytes j.slices.length 4 ++ zeros 24,
    headBits j.poisonHeads ++ headBits j.emptyHeads)

/-- The notify packet (R180): one that has no route, or goes to a dead client, is dropped. -/
def State.notify (s : State) (mark : Nat) (j : Job) (status : Nat) : State :=
  if !j.desc.notify then s
  else if (s.routePort j.desc.notifyEp).isNone || s.isDead j.desc.notifyEp then
    (s.bump R.JOB_CNT_NOTIFY_LOST).setErr R.JOB_ERR F.JOB_ERR_NOTIFY_LOST
  else s.respondAfter mark
    { op := "NOTIFY", cls := 0, ep := j.desc.notifyEp, txn := 0, status := status, final := false,
      data := leBytes j.inlet 2 ++ leBytes j.slot 2 ++ leBytes j.desc.tag 4 ++ leBytes j.desc.notifyVal 4 ++ leBytes 0 4 }

/-- A Tarn without the work of a job that a test picks. -/
def Tarn.without (x : Tarn) (p : Nat → Bool) : Tarn :=
  let x := { x with queue := x.queue.filter (fun h => !p h.job), active := x.active.filter (fun h => !p h.job), ring := x.ring.filter (fun r => !p r.job) }
  if x.run.elim false (fun r => p r.job) then x.idle else x

/-- What a job holds in Tarns and on the way to them goes. -/
def State.dropWork (s : State) (id : Nat) : State :=
  let s := s.tarns.foldl (fun s e =>
    let s := s.setTarn e.1 (e.2.without (· == id))
    if e.2.run.elim false (fun r => r.job == id) then s.restState e.1 else s) s
  { s with jobs := { s.jobs with flights := s.jobs.flights.filter (fun f => f.job != id),
                                 fails := s.jobs.fails.filter (fun f => f.job != id) } }

/-- A job is over: its work goes, and nothing waits for it. -/
def State.forgetJob (s : State) (id : Nat) : State :=
  let s := s.dropWork id
  let bs := s.xlat.basins.map (fun e => (e.1, e.2.map (fun (b : Basin) => { b with waitJobs := b.waitJobs.filter (· != id) })))
  { s with jobs := { s.jobs with jobs := s.jobs.jobs.filter (fun j => j.id != id) }, xlat := { s.xlat with basins := bs } }

/-- Write a job's completion record: line 1, then line 0; an access that faults is queued (R259), and writes nothing; the counts and events that follow; the notify packet; and the job is over (R179, R180, R191). The
idle count of the sequence it named restarts (R61). -/
def State.writeCompletion (s : State) (id status result : Nat) : State :=
  match s.job id with
  | none => s
  | some j =>
    let l := s.inlet j.inlet
    let k := l.completed
    let rec' := j.record status result (1 - k / l.slots % 2)
    let va := l.cplVa + 128 * (k % l.slots)
    let mark := s.pair.nextMirror
    let s := match s.access { endpoint := l.owner, srcKind := 0, srcIndex := l.port } l.asid va 128 true with
      | (s, .ok _) => (s.writeVa l.owner l.asid l.tenant va (fun _ => false) [] 0 [(64, rec'.2), (0, rec'.1)]).1
      | (s, .error _) => s
    let s := s.setInlet j.inlet { l with completed := (k + 1) % 65536 }
    let s := s.bump R.JOB_CNT_COMPLETED
    let s := if status = jsOk then s else s.bump R.JOB_CNT_FAILED
    let s := if status = jsAborted then s.bump R.JOB_CNT_ABORTED else s
    let s := if status = jsTimeout then (s.bump R.JOB_CNT_TIMEOUT).setErr R.JOB_ERR F.JOB_ERR_TIMEOUT else s
    let s := if status = jsBadDescriptor ∨ status = jsBadParams then s.setErr R.JOB_ERR F.JOB_ERR_BAD_DESC else s
    let s := s.notify mark j status
    let s := match j.handle with
      | none => s
      | some h =>
        match s.seqAt (h % 2 ^ 18) with
        | none => s
        | some q => if s.handleOf (h % 2 ^ 18) = h then s.setSeq (h % 2 ^ 18) (some { q with idle := 0 }) else s
    s.forgetJob id

/-- A job has completed, and its record waits for mirror writes alone. -/
def State.completing (s : State) (id : Nat) : Bool := s.pair.held.any (fun h => h.job.elim false (fun x => x.1 == id))

/-- A job's outcome is fixed, and its record is written once the mirror writes it has made are performed (R29, R182, R436). -/
def State.complete (s : State) (id status result : Nat) : State :=
  match s.job id with
  | none => s
  | some j =>
    let needs := s.mirrorsSince j.mark
    if s.completing id then s
    else if needs = [] then s.writeCompletion id status result
    else
      let s := s.putJob { j with decided := true }
      { s with pair := { s.pair with held := s.pair.held ++ [{ needs := needs, pkt := none, out := none, job := some (id, status, result) }] } }

/-- Write the completions, and the mailbox response, that no longer wait for a mirror write (R436). -/
def State.releaseJobs (s : State) : State :=
  let ready (h : HeldOut) : Bool := h.needs == [] && (h.job.isSome || h.mail.isSome)
  let go := s.pair.held.filter ready
  let s := { s with pair := { s.pair with held := s.pair.held.filter (fun h => !ready h) } }
  go.foldl (fun s h =>
    match h.job, h.mail with
    | some (i, st, r), _ => s.writeCompletion i st r
    | none, some (tag, st, r) => s.answerMail tag st r
    | none, none => s) s

/-- A job completes with a status: RESULT is 0, but for the records an ingest has committed (R167, R178). -/
def State.finishJob (s : State) (id status : Nat) : State := s.complete id status ((s.job id).elim 0 (·.committed))

/-! ### Slices and merges (R174, R175) -/

/-- Cut a list into n consecutive runs whose lengths differ by at most one, the longer first. -/
def cutRuns (l : List Nat) (n : Nat) : List (List Nat) :=
  (List.range n).map (fun i =>
    let a := i * (l.length / n) + min i (l.length % n)
    (l.drop a).take (l.length / n + (if i < l.length % n then 1 else 0)))

/-- The slices of a run (step 3 of R174): a run of at most 256 blocks, an empty one too, is one; `fuel` bounds them. -/
def cut256 (l : List Nat) : Nat → List (List Nat)
  | 0 => []
  | n + 1 => if l.length ≤ 256 then [l] else l.take 256 :: cut256 (l.drop 256) n

/-- The runs of one role, by its place i among R roles: (head, blocks), in run order. -/
def runsOf (heads : List (Nat × List Nat)) (R i : Nat) : List (Nat × List Nat) :=
  let h := heads.length
  if h ≤ R then
    match heads[i % h]? with
    | none => []
    | some (hd, bl) =>
      let n := (R - i % h + h - 1) / h
      [(hd, ((cutRuns bl n)[i / h]?).getD [])]
  else (List.range h).filterMap (fun k => if k % R = i then heads[k]? else none)

/-- Slices of a quadrant, in the order of SLICE_ID: (role, head, blocks). -/
def slicesIn (roles : List Nat) (heads : List (Nat × List Nat)) : List (Nat × Nat × List Nat) :=
  if heads = [] then []
  else (List.range roles.length).flatMap (fun i =>
    match roles[i]? with
    | none => []
    | some r => (runsOf heads roles.length i).flatMap (fun x => (cut256 x.2 (x.2.length / 256 + 1)).map (fun b => (r, x.1, b))))

/-- The merge role of a quadrant: J mod 24, or the next higher role in use, wrapping. -/
def mergeRole (roles : List Nat) (j : Nat) : Nat :=
  match ((List.range 24).map (fun i => (j % 24 + i) % 24)).find? roles.contains with
  | some r => r
  | none => 0

/-- Give a job its slices and merges: `use` lists the quadrants with blocks, ascending, each with its roles and its heads' blocks. -/
def Job.divide (j : Job) (home : Nat) (use : List (Nat × List Nat × List (Nat × List Nat))) : Job :=
  let raw := use.flatMap (fun u => (slicesIn u.2.1 u.2.2).map (fun x => (u.1, x)))
  let sl : List Slice := (List.range raw.length).filterMap (fun i =>
    (raw[i]?).map (fun x => { id := i, quad := x.1, role := x.2.1, head := x.2.2.1, blocks := x.2.2.2 }))
  let qs := use.map (·.1)
  let fin := if qs.contains home then home else qs.headD 0
  let ms : List Merge := use.map (fun u =>
    { quad := u.1, role := mergeRole u.2.1 j.number, final := u.1 == fin,
      announced := if u.1 = fin then sl.length else (sl.filter (fun x => x.quad == u.1)).length })
  { j with slices := sl, merges := ms }

def Job.merge? (j : Job) (q : Nat) : Option Merge := j.merges.find? (fun m => m.quad == q)
def Job.finalMerge? (j : Job) : Option Merge := j.merges.find? (·.final)
def Job.setMerge (j : Job) (m : Merge) : Job := { j with merges := j.merges.map (fun x => if x.quad = m.quad then m else x) }
/-- Query heads of a job: G × H (R166). -/
def Job.qh (j : Job) : Nat := 2 ^ j.desc.gLog2 * j.heads
/-- Bytes of its query record (R82) and of its output (R166). -/
def Job.queryLen (j : Job) : Nat := queryBytes j.qh (dimOf j.hdim)
def Job.outputLen (j : Job) : Nat := if j.desc.partialOut then partialBytes j.qh (dimOf j.hdim) else 2 * j.qh * dimOf j.hdim

/-! ### Output (R95, R99, R177) -/

/-- Write a job's output: XLAT_FAULT with nothing written, WRITE_ERROR when a line was refused, else OK. `bad` are the byte ranges of poisoned heads, `src` the
unit that writes. -/
def State.writeOutput (s : State) (j : Job) (srcKind srcIndex : Nat) (d : List Byte) (bad : List (Nat × Nat)) (ans : List SnoopAnswer) : State × Nat :=
  let l := s.inlet j.inlet
  match s.access { endpoint := l.owner, srcKind := srcKind, srcIndex := srcIndex } l.asid j.desc.outVa d.length true with
  | (s, .error _) => (s, jsXlatFault)
  | (s, .ok _) =>
    let poisoned (i : Nat) : Bool := bad.any (fun r => r.1 < 64 * i + 64 && 64 * i < r.2)
    match s.writeVa l.owner l.asid l.tenant j.desc.outVa poisoned ans 0 (vaPieces d) with
    | (s, ok) => (s, if ok then jsOk else jsWriteError)

/-- Normalise a record's tiles into the output's bytes (R95): the bytes, and how many elements each head clipped. -/
def normBytes (s : State) (tiles : List Tile) (d : Nat) (valExp outExp : Int) : List Byte × List Nat :=
  let rs := (List.range tiles.length).filterMap (fun i => (tiles[i]?).map (fun x =>
    x.normalise d valExp outExp (fun e => signedOf (Config.freeNat (s.fresh + 512 * i + e)) 16)))
  (rs.flatMap (fun r => r.1.flatMap (fun v => leBytes (unsignedOf v 16) 2)), rs.map (·.2))

/-- The final merge's record becomes the job's output and its completion (R95, R99, R177, R178). -/
def State.deliver (s : State) (j : Job) (t : Nat) (r : Partial) (ans : List SnoopAnswer) : State :=
  let d := dimOf j.hdim
  let tiles := (List.range j.qh).map (fun i => (r.tiles.find? (fun x => x.qhead == i)).getD (emptyTile d i))
  let nb := normBytes s tiles d j.desc.valExp j.desc.outExp
  let clips := if j.desc.partialOut then 0 else nb.2.foldl (· + ·) 0
  let sat := satAdd (tiles.foldl (fun n x => satAdd n x.sat u32Max) 0) clips u32Max
  let s := s.ticks (512 * tiles.length)
  let s := if clips = 0 then s else ((s.bump (R.TARN_CNT_SAT_OUT t) clips).setErr (R.TARN_ERR t) F.TARN_ERR_SAT_SEEN)
  let data := if j.desc.partialOut then ({ r with tiles := tiles } : Partial).bytes else nb.1
  let span := if j.desc.partialOut then 64 + 4 * d else 2 * d
  let base := if j.desc.partialOut then 64 else 0
  let heads := (tiles.filter (·.poison)).map (·.qhead)
  match s.writeOutput j 1 t data (heads.map (fun h => (base + h * span, base + h * span + span))) ans with
  | (s, st) =>
    let s := s.putJob { j with satTotal := sat, poisonHeads := heads, emptyHeads := (tiles.filter (·.empty)).map (·.qhead), decided := true }
    s.finishJob j.id st

/-! ### Merging (R93, R94, R105, R157) -/

/-- Records of at most 65,504 B that a longer one is sent as: whole head entries under the original header, with HEADS their number (R322). -/
def splitRecord (b : List Byte) (bad : List Nat) : List (List Byte × List Nat) :=
  if b.length ≤ 65504 then [(b, bad)]
  else
    let z := 64 + 4 * dimOf (leNat ((b.drop 10).take 1) % 4)
    let k := 65440 / z
    let heads := (b.length - 64) / z
    (List.range ((heads + k - 1) / k)).map (fun i =>
      let n := min k (heads - i * k)
      let lo := i * k * z / 64
      (b.take 8 ++ leBytes n 2 ++ (b.take 64).drop 10 ++ (b.drop (64 + i * k * z)).take (n * z),
        (if bad.contains 0 then [0] else []) ++ (bad.filter (fun l => lo < l && l ≤ lo + n * z / 64)).map (· - lo)))

/-- A record leaves for a merge (R94, R322). -/
def State.sendRecord (s : State) (id quad : Nat) (bytes : List Byte) (bad : List Nat) : State :=
  let ps := splitRecord bytes bad
  let g := if ps.length = 1 then none else some s.fresh
  let fl : List Flight := ps.map (fun p => { job := id, quad := quad, bytes := p.1, bad := p.2, group := g })
  let s : State := { s with jobs := { s.jobs with flights := s.jobs.flights ++ fl } }
  if ps.length = 1 then s else s.tick

/-- The program of a Tarn runs this merge: it takes the records from its ring itself. -/
def State.mergeRun (s : State) (t id role : Nat) : Bool :=
  (s.tarn t).run.elim false (fun r => r.job == id && r.role == role && r.what != .worker)

/-- A merge is over at its Tarn: it is closed, and its held work and its records go. -/
def State.endMerge (s : State) (t id role : Nat) : State :=
  let x := s.tarn t
  let drop (l : List Held) : List Held :=
    (l.map (fun (h : Held) => if h.job = id ∧ h.role = role then { h with merge := none } else h)).filter (fun h => !h.done)
  let y := { x with queue := drop x.queue, active := drop x.active, ring := x.ring.filter (fun r => r.job != id) }
  let s := s.updJob id (fun (j : Job) => { j with merges := j.merges.map (fun m => if m.quad = t / 25 then { m with closed := true } else m) })
  if s.mergeRun t id role then (s.setTarn t y.idle).restState t else s.setTarn t y

/-- Combine a merge's records in their order of arrival (R93, R94), counting at the Tarn. -/
def State.combineAll (s : State) (t : Nat) (acc : Partial) : List (List Byte) → State × Partial
  | [] => (s, acc)
  | b :: rest =>
    let c := acc.combine (partialOf b)
    let s := ((s.bump (R.TARN_CNT_MERGED t)).bump (R.TARN_CNT_SAT_VALUE t) c.2.value).bump (R.TARN_CNT_SAT_SUM t) c.2.sum
    let s := if c.2.value + c.2.sum = 0 then s else s.setErr (R.TARN_ERR t) F.TARN_ERR_SAT_SEEN
    State.combineAll s t c.1 rest

/-- What a merge does once its count equals the announced count (R94, R105). A failed one forwards a failed partial for all its slices, or completes the job
when it is final. One that no program runs combines its records as they arrived, and forwards the whole record or completes the job. -/
def State.mergeCheck (s : State) (id q : Nat) (ans : List SnoopAnswer) : State :=
  match s.job id with
  | none => s
  | some j =>
    match j.merge? q with
    | none => s
    | some m =>
      if m.count ≠ m.announced ∨ m.closed ∨ s.completing id then s
      else match s.roleTarn q m.role with
        | none => s.finishJob id jsTarnFault
        | some t =>
          let failed : Bool := m.failed || (m.final && j.fails != [])
          if s.tarnFaulted t then s.finishJob id jsTarnFault
          else if failed && m.final then (s.endMerge t id m.role).finishJob id ((firstFail j.fails).getD jsTarnFault)
          else if failed then
            let f : FailFlight := { job := id, quad := (j.finalMerge?.elim q (·.quad)), slices := m.announced,
                                    status := (firstFail j.fails).getD jsTarnFault, exc := j.exc }
            let s := (s.endMerge t id m.role).bump (R.TARN_CNT_FAILED t)
            { s with jobs := { s.jobs with fails := s.jobs.fails ++ [f] } }
          else if s.mergeRun t id m.role then s
          else
            let recs := ((s.tarn t).ring.filter (fun r => r.job == id)).map (·.bytes)
            let start : Partial := { sliceId := 0, slices := 0, hdim := j.hdim, valExp := j.desc.valExp, tiles := [] }
            match s.combineAll t start recs with
            | (s, r) =>
              let s := s.endMerge t id m.role
              let r : Partial := { r with slices := m.announced }
              if m.final then s.deliver ((s.job id).getD j) t r ans else s.sendRecord id (j.finalMerge?.elim q (·.quad)) r.bytes []

/-- A record reaches a merge Tarn's ring and is counted by its SLICES (R94), one that came in several parts once, with the last of them (R322). Log entry
109. -/
def State.arrivePartial (s : State) (f : Flight) (ans : List SnoopAnswer) : State :=
  match s.job f.job with
  | none => s
  | some j =>
    match j.merge? f.quad with
    | none => s
    | some m =>
      match s.roleTarn f.quad m.role with
      | none => s.finishJob f.job jsTarnFault
      | some t =>
        if s.tarnFaulted t then s.finishJob f.job jsTarnFault
        else
          let more : Bool := f.group.isSome && s.jobs.flights.any (fun g => g.job == f.job && g.group == f.group)
          let n := if more then 0 else (partialOf f.bytes).slices
          let s := s.updTarn t (fun (x : Tarn) => { x with ring := x.ring ++ [{ job := f.job, bytes := f.bytes, bad := f.bad, weight := n }] })
          (s.putJob (j.setMerge { m with count := m.count + n })).mergeCheck f.job f.quad ans

/-- A failed partial reaches a merge Tarn: it counts towards the total and carries no data (R105, R157). -/
def State.arriveFailed (s : State) (f : FailFlight) : State :=
  match (s.failJob f.job f.status).job f.job with
  | none => s
  | some j =>
    let s := s.putJob { j with exc := j.exc.or f.exc }
    match j.merge? f.quad with
    | none => s
    | some m =>
      match s.roleTarn f.quad m.role with
      | none => s.finishJob f.job jsTarnFault
      | some t =>
        if s.tarnFaulted t then s.finishJob f.job jsTarnFault
        else
          let j' := { (j.setMerge { m with count := m.count + f.slices, failed := true }) with exc := j.exc.or f.exc }
          ((s.bump (R.TARN_CNT_FAILED t)).putJob j').mergeCheck f.job f.quad []

/-- Send a failed partial for each of a job's slices in a list (R105, R157, R181), counted at a Tarn that sends it; a slice whose record has been sent is counted
by that record. -/
def State.failSlices (s : State) (id : Nat) (t : Option Nat) (status : Nat) (exc : Option Exc) (l : List Nat) : State :=
  l.foldl (fun s i =>
    match s.job id with
    | none => s
    | some j =>
      match j.slices.find? (fun x => x.id == i) with
      | none => s
      | some x =>
        let s := s.putJob { j with slices := j.slices.map (fun (y : Slice) => if y.id = i then { y with sent := true } else y) }
        let s := match t with | some t => s.bump (R.TARN_CNT_FAILED t) | none => s
        { s with jobs := { s.jobs with fails := s.jobs.fails ++ [{ job := id, quad := x.quad, slices := if x.sent then 0 else 1, status := status,
                                                                      exc := exc }] } }) s

/-- A worker's partial leaves for its merge (R91, R94). -/
def State.sendPartial (s : State) (id sliceId : Nat) (bytes : List Byte) (bad : List Nat := []) : State :=
  match s.job id with
  | none => s
  | some j =>
    match j.slices.find? (fun x => x.id == sliceId) with
    | none => s
    | some x =>
      let s := s.putJob { j with slices := j.slices.map (fun (y : Slice) => if y.id = sliceId then { y with sent := true } else y) }
      s.sendRecord id x.quad bytes bad

/-- The wrapper of a Tarn that is out of service answers a piece of work (R105): a failed partial for each slice; where the role merges or ingests, the failure
goes to the unit that started the job, which completes it. -/
def State.answerWork (s : State) (h : Held) (t : Option Nat) : State :=
  let s := s.failSlices h.job t jsTarnFault none h.slices
  if h.merge.isSome || h.ingest then s.finishJob h.job jsTarnFault else s

end Sys2Proof.Machine
end

