-- ==== Sys2Proof/Machine/Signed.lean ====
section
/-!
DEFINITION. Signed images (R472, R473): the signature block, the signer table, and the answer to a verification. The signature scheme itself is a
constant of Config.
-/
namespace Sys2Proof.Machine

/-! ### Measurements (R479, R480, R487) -/

/-- The measurement a register row of four words holds (R487). -/
def State.meas (s : State) (r : Nat → Nat) : List Byte := (List.range 4).flatMap (fun w => leBytes (s.reg (r w)).toNat 8)
def State.setMeas (s : State) (r : Nat → Nat) (b : List Byte) : State :=
  (List.range 4).foldl (fun s w => s.setReg (r w) (BitVec.ofNat 64 (leNat ((b.drop (8 * w)).take 8)))) s

/-- EXTEND (R480): CONFIG_MEAS becomes the hash of its old value and the record in SEC_MEXT_DATA. -/
def State.extend (s : State) : State :=
  let new := Config.shake256 (s.meas R.SEC_CONFIG_MEAS ++ s.meas R.SEC_MEXT_DATA) 32
  let s := s.setMeas R.SEC_CONFIG_MEAS (padTo 32 new)
  s.put R.SEC_MEXT_CMD F.SEC_MEXT_CMD_EXTENDS (s.get R.SEC_MEXT_CMD F.SEC_MEXT_CMD_EXTENDS + 1)

/-- Firmware extends CONFIG_MEAS with a change of a tenant, basin, endpoint binding or signer (R480): the record's format is not in the manual, so its bytes are
free. Log entry 128. -/
def State.recordChange (s : State) : State := ((s.setMeas R.SEC_MEXT_DATA (leBytes (Config.freeNat s.fresh) 32)).tick).extend

/-! ### Signatures (R472, R473) -/

/-- Bytes of a signature block by ALG (R472): none for an ALG the table does not list. -/
def sigBlockLen (alg : Nat) : Option Nat :=
  if alg = 1 then some 2572 else if alg = 2 then some 2764 else if alg = 3 then some 2892 else none

/-- A block is well formed: a listed ALG, its length, and the reserved bytes 0. -/
def sigFormed (b : List Byte) : Bool :=
  sigBlockLen (leNat (b.take 4)) == some b.length && (b.drop 4).take 4 == [0, 0, 0, 0]

def sigPubkey (b : List Byte) : List Byte := (b.drop 8).take 64
def sigSignature (b : List Byte) : List Byte := b.drop 72
/-- The signer's key hash (R472). -/
def signerHash (b : List Byte) : List Byte := Config.shake256 (sigPubkey b) 32

/-- The hash that an entry of the signer table holds. -/
def State.entryHash (s : State) (e : Nat) : List Byte := (List.range 4).flatMap (fun w => leBytes (s.reg (R.SEC_SIGNER_HASH e w)).toNat 8)

/-- Whether a signer may sign: entry 0 for firmware, certificates and Walsyn images (no tenant); for an image of a tenant an entry of KIND 0 with that tenant,
or one of KIND 1 (R473). -/
def State.signerOk (s : State) (tenant : Option Nat) (h : List Byte) : Bool :=
  match tenant with
  | none => s.flag (R.SEC_SIGNER_CTL 0) F.SEC_SIGNER_CTL_VALID && s.entryHash 0 == h
  | some t => ((List.range 63).map (· + 1)).any (fun e =>
      s.flag (R.SEC_SIGNER_CTL e) F.SEC_SIGNER_CTL_VALID && s.entryHash e == h &&
        (s.flag (R.SEC_SIGNER_CTL e) F.SEC_SIGNER_CTL_KIND || s.get (R.SEC_SIGNER_CTL e) F.SEC_SIGNER_CTL_TENANT == t))

/-- What a verification finds. -/
inductive Verdict where
  | good | malformed | refused
  deriving DecidableEq, Repr

def State.verdict (s : State) (tenant : Option Nat) (signed block : List Byte) : Verdict :=
  if !sigFormed block then .malformed
  else if s.signerOk tenant (signerHash block) && Config.verifies (sigPubkey block) signed (sigSignature block) then .good
  else .refused

/-- Verify an image: one that fails sets VERIFY_FAIL and counts (R472, R490). -/
def State.verifyImage (s : State) (tenant : Option Nat) (signed block : List Byte) : State × Verdict :=
  match s.verdict tenant signed block with
  | .good => (s, .good)
  | v => ((s.bump R.SEC_CNT_VERIFY_FAIL).setErr R.SEC_ERR F.SEC_ERR_VERIFY_FAIL, v)

end Sys2Proof.Machine
end

