-- ==== Sys2Proof/Machine/Seep.lean ====
section
/-!
DEFINITION. Channels that fail and lines that err (R204, R398, R400, R402, R417, R420): what a channel shows, the retraining token, fills (R210, R244), faults of
a channel controller, degraded stacks, the correctable-error logs, and a read under an error pattern.
-/
namespace Sys2Proof.Machine

/-! ### Channel controllers -/

def Chan.pc (c : Chan) (p : Nat) : PChan := if p = 0 then c.pc0 else c.pc1
def Chan.setPc (c : Chan) (p : Nat) (x : PChan) : Chan := if p = 0 then { c with pc0 := x } else { c with pc1 := x }

/-- A channel's full training runs. -/
def State.chTraining (s : State) (u : Nat) : Bool := s.flag (chCtrl u) F.POND_CTRL_TRAIN

/-- STATE of a channel (R230, R236, R238, R240): of the conditions that hold at once, a fault is shown first, then a hold or a Pond's L3 reset, then training,
then a pause, then a fill. Through an L2 reset, and a Spillway channel's L3 reset, a trained channel shows training. Log entry 99. -/
def State.chState (s : State) (u : Nat) : Nat :=
  let c := s.chan u
  if s.chFaulted u then 5
  else if s.chHeld u || (u < 384 && s.inL3 (chUnitKey u)) then 6
  else if s.chTraining u then 1
  else if !c.trained then 0
  else if s.rst.l2 == 2 || s.inL3 (chUnitKey u) then 1
  else if c.pc0.paused || c.pc1.paused then 3
  else if c.fill.isSome then 4
  else 2

/-- The stack of a Pond (R229). -/
def stackOf (u : Nat) : Nat := u / 32

/-! ### Degraded stacks (R417, R418) -/

/-- No stack is being rebuilt or has been: the distributed spare is free (R419). -/
def State.spareFree (s : State) : Bool := (List.range 12).all (fun f => s.stackState f < 2)

/-- Rebuild of a degraded stack begins (R418). -/
def State.startRebuild (s : State) (f : Nat) : State :=
  let s := (s.put (R.RAS_STACK f) F.RAS_STACK_STATE 2).put (R.RAS_STACK f) F.RAS_STACK_WATERMARK 0
  (s.put R.RAS_REBUILD F.RAS_REBUILD_STACK f).putFlag R.RAS_REBUILD F.RAS_REBUILD_ACTIVE true

/-! ### Triplicated words (R410, R411) -/

/-- Where the system area begins in a stack (R409). -/
def systemArea : Nat := 0xEF0000000

/-- PA of copy `k` of word `w`: one 64 B line at the same system-area offset in each copy stack. -/
def State.copyPa (s : State) (w k : Nat) : Nat := (s.ras.copyStack.getD k 11) * 2 ^ 36 + systemArea + 64 * w

/-- Load the three copies: whether each is bad, and its value. -/
def State.loadCopies (s : State) (w : Nat) : State × List (Bool × List Byte) :=
  [0, 1, 2].foldl (fun acc k =>
    match acc.1.readLine (acc.1.copyPa w k) none 256 with
    | (s, r) => (s, acc.2 ++ [(r.stat != .ok || r.poison, r.data)])) (s, [])

/-- The vote (R411). -/
def voteTriple (c : List (Bool × List Byte)) : Option (List Byte) :=
  let good := (c.filter (fun x => !x.1)).map (·.2)
  match good.find? (fun v => 2 ≤ (good.filter (· == v)).length) with
  | some v => some v
  | none => if good.length = 1 then good.head? else none

/-- Store a value in the copies that `p` names. -/
def State.storeCopies (s : State) (w : Nat) (v : List Byte) (l : List Nat) : State :=
  l.foldl (fun s k => (s.writeLine (s.copyPa w k) none 256 false v).1) s

/-- The words that any copy stack's system area holds otherwise than its fill left them, ascending by stack. -/
def State.changedWords (s : State) : List Nat :=
  let lines := s.pool.side.map (·.1) ++ s.pool.cells.map (fun e => e.1 / 64)
  (lines.filterMap (fun l =>
    let o := 64 * l % 2 ^ 36
    if s.ras.copyStack.contains (64 * l / 2 ^ 36) && systemArea ≤ o && o < 0xF00000000 then some ((o - systemArea) / 64) else none)).eraseDups

/-- A copy stack has failed (R410): the Wellhead writes each word's copy in stack 11 from the voted value, and uses stack 11 from then on; a word with no vote is
lost. -/
def State.moveCopies (s : State) (f : Nat) : State :=
  match s.ras.copyStack.findIdx? (· == f) with
  | none => s
  | some k =>
    let words := s.changedWords
    let res := words.foldl (fun (acc : State × List (Nat × Option (List Byte))) w =>
      match acc.1.loadCopies w with
      | (s, c) => (s, acc.2 ++ [(w, voteTriple c)])) (s, [])
    let s := res.1
    let s := { s with ras := { s.ras with copyStack := s.ras.copyStack.set k 11 } }
    res.2.foldl (fun s x => match x.2 with
      | some v => s.storeCopies x.1 v [k]
      | none => s.raiseAlarm .tripleLost) s

/-- A stack becomes degraded (R417): a triplicated word's copy there moves to stack 11 (R410), and rebuild starts when it may. -/
def State.degrade (s : State) (f : Nat) : State :=
  if s.stackState f ≠ 0 then s
  else
    let s := ((s.put (R.RAS_STACK f) F.RAS_STACK_STATE 1).setErr R.RAS_ERR F.RAS_ERR_STACK_DEGRADED).raiseAlarm .stackDegraded
    let s := s.moveCopies f
    if s.flag R.RAS_CTRL F.RAS_CTRL_AUTO_REBUILD && s.spareFree then s.startRebuild f else s

/-! ### Faults (R204, R229, R238, R420) -/

/-- What an isolation wrapper answers a queued request of a faulted channel (R420), or of one in a reset (R236). -/
def answerQueued (faulted : Bool) (u : Nat) (r : MemReq) : Out :=
  if faulted && !r.write then .memResp u r.id 0 true (zeros 64) else .memResp u r.id 1 false []

/-- Every queued request of a channel is answered by its wrapper. -/
def State.flushChan (s : State) (u : Nat) (faulted : Bool) : State :=
  let c := s.chan u
  let l := c.pc0.rq ++ c.pc0.wq ++ c.pc1.rq ++ c.pc1.wq
  let s := s.setChan u { c with pc0 := { c.pc0 with rq := [], wq := [], drainTo := none }, pc1 := { c.pc1 with rq := [], wq := [], drainTo := none } }
  l.foldl (fun s r => s.send (answerQueued faulted u r)) s

/-- The running channel controllers among which a channel's token passes, in order from the next one (R202, R205, R215). -/
def tokenRing (u : Nat) : List Nat :=
  if u < 384 then (List.range 32).map (fun i => 32 * (u / 32) + (u % 32 + 1 + i) % 32)
  else (List.range 3).map (fun i => 384 + 3 * ((u - 384) / 3) + ((u - 384) % 3 + 1 + i) % 3)

/-- The channel holds the token, which POND_STATUS shows of a Pond. -/
def State.hasToken (s : State) (u : Nat) : Bool := (s.chan u).token
def State.setToken (s : State) (u : Nat) (b : Bool) : State := s.updChan u (fun (c : Chan) => { c with token := b })

/-- The starter of a channel's ring (R202). -/
def State.isStarter (s : State) (u : Nat) : Bool := s.flag (chRetrain u) F.POND_RETRAIN_STARTER

/-- The token leaves a channel: to the next one that runs, or nowhere once it is back at the starter (R202, R205). -/
def State.passToken (s : State) (u : Nat) : State :=
  let s := (s.setToken u false).updChan u (fun (c : Chan) => { c with tracked0 := false })
  match (tokenRing u).find? (fun v => s.chRuns v || s.isStarter v) with
  | none => s
  | some v => if s.isStarter v || v = u then s else s.setToken v true

/-- A starter has faulted: the Wellhead's recovery program makes the lowest running channel of the ring the starter (R205). Log entry 100. -/
def State.moveStarter (s : State) (u : Nat) : State :=
  if !s.isStarter u then s
  else
    let s := s.putFlag (chRetrain u) F.POND_RETRAIN_STARTER false
    let base := if u < 384 then 32 * (u / 32) else 384 + 3 * ((u - 384) / 3)
    match ((List.range (if u < 384 then 32 else 3)).map (base + ·)).find? s.chRuns with
    | none => s
    | some v => s.putFlag (chRetrain v) F.POND_RETRAIN_STARTER true

/-! ### Fills (R210, R211, R244) -/

/-- A reply to a fill command (R210): TYPE 0x11 with the sender's TAG; the cycle count is the agent's own, a free value. -/
def State.fillReply (s : State) (u sender tag status done : Nat) : State :=
  let body := leBytes sender 2 ++ leBytes (chAddr u) 2 ++ leBytes 0x11 1 ++ leBytes 0 1 ++ leBytes tag 2 ++ leBytes status 1 ++ leBytes 0 3
    ++ leBytes done 4 ++ leBytes (Config.freeNat s.fresh) 8 ++ leBytes 0 40
  let s := ({ s with msgs := s.msgs ++ [{ src := chAddr u, dst := sender, body := body }] } : State).tick
  if status = 0 then s else s.setErr (chErr u) F.POND_ERR_FILL_FAIL

/-- A fill begins: its lines are not valid until it has written them (R211). -/
def State.startFill (s : State) (u : Nat) (j : FillJob) : State :=
  let s := { s with pool := s.pool.fill { j.fill with valid := false } }
  s.updChan u (fun (c : Chan) => { c with fill := some j })

/-- The range of the first `n` rows or 64 KiB units of a fill. -/
def FillRange.upTo (r : FillRange) (n : Nat) : FillRange :=
  match r with
  | .rows p f c m => .rows p f (min n c) m
  | .chunks j f c => .chunks j f (min n c)
  | .run r u => .run r u

/-- A fill has written its first `done` rows or units (R211): they are as it writes them, and its lines count (R235). -/
def State.fillWritten (s : State) (u : Nat) (j : FillJob) (done : Nat) : State :=
  let n := min done j.count
  let gone (f : Fill) : Bool := f.range == j.fill.range && !f.valid && n == j.count
  let p := { s.pool with fills := s.pool.fills.filter (fun f => !gone f) }
  State.bump { s with pool := Pool.fill p { j.fill with range := j.fill.range.upTo n } } (chCnt u 11) (j.lines / j.count * n)

/-- A basin's units have all been filled, as far as they could be: step 5 of R244, and a shadow held here counts as filled. -/
def State.settleBasins (s : State) : State :=
  s.basins.foldl (fun s e =>
    let left : Bool := s.xlat.fills.any (fun f => f.basin == e.1) || s.chans.any (fun c => c.2.fill.elim false (fun j => j.basin == some e.1))
    if !e.2.making || left then s
    else
      let s := s.setBasin e.1 (some { e.2 with making := false })
      if e.2.shadowHere then s else s.recordChange.xlatDone 0 e.1) s

/-- The fill of a basin's units on a channel (R244): pattern 0, the tenant's key slot and its tag, rows of both pseudo-channels. -/
def State.basinJob (s : State) (f : BasinFill) : FillJob :=
  let r : FillRange := if f.unit < 384 then .rows f.unit f.first f.count 3 else .chunks (f.unit - 384) f.first f.count
  { sender := coreAddr 0, tag := 0, count := f.count, lines := f.count * (if f.unit < 384 then 512 else 1024), basin := some f.basin,
    fill := { range := r, pattern := 0, kslot := f.tenant, kgen := s.slotGen f.tenant, tag := f.tenant } }

/-- A channel begins the first fill of a basin that waits for it, once it has none running. One that cannot fill, faulted or with the key slot EMPTY, refuses
those that wait, and the lines stay unwritten; one in a reset begins when it leaves it. Log entry 102. -/
def State.startBasinFill (s : State) (u : Nat) : State :=
  match s.xlat.fills.find? (fun f => f.unit == u), (s.chan u).fill with
  | some f, none =>
    if s.chRuns u && s.slotFull f.tenant then
      State.startFill { s with xlat := { s.xlat with fills := s.xlat.fills.erase f } } u (s.basinJob f)
    else if s.inL3 (chUnitKey u) || s.rst.l2 == 2 then s
    else (State.setErr { s with xlat := { s.xlat with fills := s.xlat.fills.filter (fun g => g.unit != u) } } (chErr u) F.POND_ERR_FILL_FAIL).settleBasins
  | _, _ => s

/-- A fill ends with a status and the rows or units it wrote: a command's sender has its reply, a basin's next fill begins. -/
def State.fillEnds (s : State) (u : Nat) (j : FillJob) (status done : Nat) : State :=
  let s := (s.updChan u (fun (c : Chan) => { c with fill := none })).fillWritten u j done
  match j.basin with
  | none => s.fillReply u j.sender j.tag status (min done j.count)
  | some _ =>
    let s := if status = 0 then s else s.setErr (chErr u) F.POND_ERR_FILL_FAIL
    s.settleBasins.startBasinFill u

/-! ### Faults of a channel (R204, R205, R229, R238, R420) -/

/-- A channel faults: its requests are answered, a row under test is lost, a token it holds passes on, the fills that wait for it fail, and its stack is
degraded. -/
def State.faultChan (s : State) (u : Nat) : State :=
  if s.chFaulted u then s
  else
    let held := s.hasToken u
    let s := s.putFlag (chCtrl u) F.POND_CTRL_FAULT true
    let s := s.flushChan u true
    let s := s.updChan u (fun (c : Chan) => { c with test := [], pc0 := { c.pc0 with paused := false }, pc1 := { c.pc1 with paused := false } })
    let s := if held then s.passToken u else s
    let s := (s.moveStarter u).unitAlarm (chAddr u) (if u < 384 then .pondFault else .spillFault)
    let s := if u < 384 then (s.bumpSat (R.RAS_STACK (stackOf u)) F.RAS_STACK_PONDS_FAULTED).degrade (stackOf u) else s
    s.startBasinFill u

/-! ### The correctable-error log (R398, R402, R404) -/

/-- The row of a PA within its channel controller, as a key: pseudo-channel, bank and row. -/
def rowKey (pa : Nat) : Nat := (rowOf pa * 2 + pcOf pa) * 16 + bankOf pa

def State.celogPa (s : State) (u e : Nat) : Nat := s.get (R.RAS_CELOG u e 0) F.RAS_CELOG0_PA
def State.celogState (s : State) (u e : Nat) : Nat := s.get (R.RAS_CELOG u e 1) F.RAS_CELOG1_STATE
def State.celogValid (s : State) (u e : Nat) : Bool := s.flag (R.RAS_CELOG u e 0) F.RAS_CELOG0_VALID
def State.setCelogState (s : State) (u e v : Nat) : State := s.put (R.RAS_CELOG u e 1) F.RAS_CELOG1_STATE v

/-- The entry of a row. -/
def State.celogOf (s : State) (u pa : Nat) : Option Nat :=
  (List.range 16).find? (fun e => s.celogValid u e && rowKey (s.celogPa u e) == rowKey pa)

/-- An entry in the order of tests to come (R403). -/
def State.awaitTest (s : State) (u e : Nat) : State :=
  s.updChan u (fun (c : Chan) => { c with order := c.order.filter (· != e) ++ [e] })

/-- A row enters an entry. -/
def State.enterRow (s : State) (u e pa symbol count : Nat) : State :=
  let mc := bitsOf (s.reg R.WELL_MCYCLE).toNat 0 32
  let s := s.setReg (R.RAS_CELOG u e 0) (BitVec.ofNat 64 (pa + symbol * 2 ^ 48 + 2 ^ 63))
  let s := s.setReg (R.RAS_CELOG u e 1) (BitVec.ofNat 64 (count + 1 * 2 ^ 16 + mc * 2 ^ 32))
  (s.awaitTest u e).setErr R.RAS_ERR F.RAS_ERR_CE_LOGGED

/-- The TRANSIENT entry that was logged longest ago. -/
def State.oldestTransient (s : State) (u : Nat) : Option Nat :=
  ((List.range 16).filter (fun e => s.celogState u e == 3)).foldl (fun best e =>
    match best with
    | none => some e
    | some b => if s.get (R.RAS_CELOG u e 1) F.RAS_CELOG1_MCYCLE < s.get (R.RAS_CELOG u b 1) F.RAS_CELOG1_MCYCLE then some e else some b) none

/-- The rank of the 128 B pair of a Spillway line (R214). -/
def rankOf (pa : Nat) : Nat := Config.spillRank (spillOff pa / 128)

/-- A device of a Spillway channel is marked failed for a rank once four entries show errors confined to its symbols (R398). -/
def State.markDevices (s : State) (u pa symbol : Nat) : State :=
  if u < 384 then s
  else
    let dev := symbol / 8
    let rank := rankOf pa
    let n := ((List.range 16).filter (fun e => s.celogValid u e && !(s.chan u).spread.contains e && s.get (R.RAS_CELOG u e 0) F.RAS_CELOG0_SYMBOL / 8 == dev
      && rankOf (s.celogPa u e) == rank)).length
    if n < 4 ∨ (s.chan u).marks.contains (rank, dev) then s
    else ((s.updChan u (fun (c : Chan) => { c with marks := c.marks ++ [(rank, dev)] })).bump R.RAS_CNT_DEVICE_MARKS).setErr
      R.RAS_ERR F.RAS_ERR_DEVICE_MARKED

/-- Keep whether the errors of a log entry are confined to one device (R398). -/
def State.noteSpread (s : State) (u e : Nat) (confined : Bool) : State :=
  s.updChan u (fun (c : Chan) => { c with spread := c.spread.filter (· != e) ++ (if confined then [] else [e]) })

/-- Log a corrected read (R402): `device` is the one its errors are confined to, if they are. -/
def State.logCE (s : State) (u pa symbol : Nat) (device : Option Nat) : State :=
  let s := s.bump R.RAS_CNT_CE
  let la := pa / 64 * 64
  match s.celogOf u la with
  | some e =>
    let s := (s.bumpSat (R.RAS_CELOG u e 1) F.RAS_CELOG1_COUNT).put (R.RAS_CELOG u e 1) F.RAS_CELOG1_MCYCLE (s.reg R.WELL_MCYCLE).toNat
    let same : Bool := device == some (s.get (R.RAS_CELOG u e 0) F.RAS_CELOG0_SYMBOL / 8) && !(s.chan u).spread.contains e
    let s := s.noteSpread u e same
    if s.celogState u e = 3 then s.awaitTest u e else s
  | none =>
    match ((List.range 16).find? (fun e => !s.celogValid u e)).or (s.oldestTransient u) with
    | some e => ((s.enterRow u e la symbol 1).noteSpread u e device.isSome).markDevices u la symbol
    | none => (s.bump R.RAS_CNT_CELOG_OVF).setErr R.RAS_ERR F.RAS_ERR_CELOG_OVF

/-! ### Reading under an error pattern (R396 to R400) -/

/-- What a channel's decoder makes of an error pattern on a line: (symbol, error value) pairs. -/
def State.decodeLine (s : State) (u pa : Nat) (errs : List (Nat × Nat)) : Decoded :=
  if u < 384 then fastDecode errs
  else spillDecode (((s.chan u).marks.filter (fun m => m.1 == rankOf pa)).map (·.2)) errs

/-- The stored line can no longer be read: its check fails. -/
def State.spoilLine (s : State) (pa : Nat) : State :=
  let la := pa / 64 * 64
  { s with pool := s.pool.setLine la { s.pool.line la with valid := false } }

/-- The effect of an error pattern on a line about to be read (R400): a corrected one is logged, and the Seep rewrites the line; an uncorrectable one spoils it. -/
def State.strike (s : State) (u pa : Nat) (errs : List (Nat × Nat)) : State :=
  if !(s.pool.line (pa / 64 * 64)).valid then s
  else match s.decodeLine u pa errs with
    | .clean => s
    | .corrected k d => (s.logCE u pa k d).bump (chCnt u 1)
    | .uncorrectable => s.spoilLine pa

end Sys2Proof.Machine
end

