-- ==== Sys2Proof/Machine/Ponds.lean ====
section
/-!
DEFINITION. Ponds and Spillway channel controllers (R197 to R217, R229 to R239): queues and issue, refresh, retraining, row-disturbance defence, fills,
training. Units 0 to 383 are Ponds, 384 to 395 Spillway channels.
-/
namespace Sys2Proof.Machine

/-! ### Arrival (R197) -/

/-- The channel number of an error response where no memory is (R196). -/
def noUnit : Nat := 396

/-- POND_REQUEST (R195 to R197, R214, R229, R420): a request reaches the channel its PA names: it is answered at once where no channel serves it, discarded
when its level has no free entry, else queued. A channel whose clock has stopped takes none (R507). -/
def execPondRequest (id : Nat) (level : Fin 4) (write : Bool) (pa : BitVec 48) (data : List Byte) (poison : Bool) (tenant : Option (BitVec 8))
    (kslot : BitVec 9) (repair : Bool) (tarn : Fin 100) (s : State) : Answer :=
  let la := pa.toNat / 64 * 64
  match s.routeOf la repair, unitOf la with
  | .serve u, _ =>
    let p := pcOf la
    let c := (s.chan u).pc p
    let q := if write then c.wq else c.rq
    if s.islandStopped (chIsland u) then .next s
    else if queueCap write level ≤ (q.filter (fun r => r.level == level.val)).length then
      .next (if u < 384 then s.setErr (R.POND_ERR u) F.POND_ERR_QUEUE_PROTO else s)
    else
      let r : MemReq := { id := id, level := level, write := write, pa := la, data := data, poison := poison, tenant := tenant.map (·.toNat),
                          kslot := kslot.toNat, striped := (s.stripeOf la).isSome, repair := repair, aged := false, tarn := tarn }
      let c' := if write then { c with wq := c.wq ++ [r] } else { c with rq := c.rq ++ [r] }
      .next (s.setChan u ((s.chan u).setPc p c'))
  | .faulted _, some u => .next (s.send (if write then .memResp u id 1 false [] else .memResp u id 0 true (zeros 64)))
  | r, some u => .next ((s.routeErr r).send (.memResp u id 1 false []))
  | _, none => .next (s.send (.memResp noUnit id 1 false []))

/-! ### Choice (R198 to R200, R103) -/

/-- The level a request is issued at (R199). -/
def MemReq.rank (r : MemReq) : Nat := if r.aged then 0 else r.level

/-- A request may be taken: the oldest write of its line among the writes (R200). -/
def firstOfLine (q : List MemReq) (r : MemReq) : Bool := !r.write || ((q.find? (fun x => x.pa == r.pa)).elim true (fun x => x.id == r.id))

def PChan.bank (c : PChan) (b : Nat) : Bank := Tbl.get (fun _ => {}) c.banks b
def PChan.setBank (c : PChan) (b : Nat) (x : Bank) : PChan := { c with banks := Tbl.set (fun _ => {}) c.banks b x }

/-- A request hits an open row, and may: no more than 16 in a row while an older request wants another row of the bank (R198). -/
def PChan.hits (c : PChan) (q : List MemReq) (r : MemReq) : Bool :=
  let b := c.bank (bankOf r.pa)
  b.openRow == some (rowOf r.pa) &&
    (b.hits < 16 || !((q.takeWhile (fun x => x.id != r.id)).any (fun x => bankOf x.pa == bankOf r.pa && rowOf x.pa != rowOf r.pa)))

/-- The next Tarn, after the one served last, with a level-1 read waiting at a Spillway channel (R103). -/
def nextTarn (l : List MemReq) (last : Nat) : Option Nat :=
  ((List.range 100).map (fun i => (last + 1 + i) % 100)).find? (fun t => l.any (fun r => r.tarn == t))

/-- The request a pseudo-channel issues from a queue: the highest level that waits, the oldest row hit of it, else its oldest. -/
def PChan.pick (c : PChan) (q : List MemReq) (spill : Bool) (last : Nat) : Option MemReq :=
  let can := q.filter (firstOfLine q)
  match (List.range 4).find? (fun l => can.any (fun r => r.rank == l)) with
  | none => none
  | some l =>
    let all := can.filter (fun r => r.rank == l)
    let at_ := if spill ∧ l = 1 then
        match nextTarn (all.filter (fun r => !r.write)) last with
        | some t => all.filter (fun r => !r.write && r.tarn == t)
        | none => all
      else all
    (at_.find? (c.hits q)).or at_.head?

/-- Reads come first, but for a drain of the write queue (R200): the queue to issue from, and the drain it leaves. -/
def PChan.side (c : PChan) (high : Nat) : Bool × Option Nat :=
  match c.drainTo.filter (· < c.wq.length) with
  | some n => (true, some n)
  | none => if high ≤ c.wq.length ∨ c.rq = [] then (true, some (c.wq.length - 16)) else (false, none)

/-! ### Rows, refresh and activates (R201, R206 to R209) -/

/-- Neighbour refreshes of a row (R206), those that its bank has, with the counter they count in. -/
def State.neighbours (s : State) (u row : Nat) (random : Bool) (rows : Nat) : State :=
  let blast := s.get (chAct u) F.POND_ACT_BLAST
  let near := (List.range blast).flatMap (fun i =>
    (if i < row then [row - (i + 1)] else []) ++ (if u < 384 ∧ 65535 ≤ row + i then [] else [row + (i + 1)]))
  (s.bump (chCnt u (if random then 6 else 5)) rows).send (.dram u "RFM" near)

/-- Count an activate of a row in a bank's table (R206): the table, whether the count reached the threshold, whether the table overflowed. -/
def actTable (t : List ActEntry) (row thresh : Nat) : List ActEntry × Bool × Bool :=
  if t.any (fun e => e.row == row) then
    let hit : Bool := t.any (fun e => e.row == row && thresh ≤ e.count + 1)
    (t.map (fun (e : ActEntry) => if e.row = row then { e with count := if hit then 0 else e.count + 1 } else e), hit, false)
  else if t.length < 16 then (t ++ [{ row := row, count := 1, parity := true }], false, false)
  else
    let low := t.foldl (fun m e => min m e.count) 2048
    (replaceFirst (fun e => e.count == low) (fun _ => { row := row, count := low + 1, parity := true }) t, false, true)

/-- One refresh of a bank (R201): its row closes. -/
def State.refreshBank (s : State) (u p b : Nat) : State :=
  let c := s.chan u
  let k := (c.pc p).bank b
  let c := c.setPc p ((c.pc p).setBank b { k with openRow := none, hits := 0, owed := k.owed - 1 })
  ((s.setChan u c).bump (chCnt u 4)).send (.dram u "REF" [p, b])

/-- The table of a bank once the entries at some of its places fail their parity check (R207). -/
def failParity (t : List ActEntry) (parity : List (Fin 16)) : List ActEntry :=
  parity.foldl (fun l i => l.modify i.val (fun (e : ActEntry) => { e with parity := false })) t

/-- Activate a row (R198, R201, R206, R207, R209): refreshes owed at the limit go first; the entries at the places `parity` fail their check and are discarded;
the tables count it; a neighbour refresh that it makes due is issued with it, so before any further activate of the bank; a bank with a flag set draws a random
neighbour refresh. -/
def State.activate (s : State) (u p b row : Nat) (parity : List (Fin 16)) : State :=
  let s := if 8 ≤ (((s.chan u).pc p).bank b).owed then s.refreshBank u p b else s
  let k := ((s.chan u).pc p).bank b
  let table := failParity k.table parity
  let bad := table.any (fun e => !e.parity)
  let s := if bad then s.setErr (chErr u) F.POND_ERR_ACT_PARITY else s
  let res := actTable (table.filter (·.parity)) row (s.get (chAct u) F.POND_ACT_THRESH)
  let s := if res.2.1 then s.neighbours u row false 1 else s
  let s := if res.2.2 then s.setErr (chErr u) F.POND_ERR_ACT_OVERFLOW else s
  let k := { k with openRow := some row, hits := 0, table := res.1, overflow := k.overflow || res.2.2, untrusted := k.untrusted || bad }
  let random : Bool := (k.overflow || k.untrusted) && Config.draw s.fresh % 2 ^ s.get (chAct u) F.POND_ACT_PROB_LOG2 == 0
  let s := s.tick
  let s := if random then s.neighbours u row true 1 else s
  let c := s.chan u
  ((s.setChan u (c.setPc p ((c.pc p).setBank b k))).bump (chCnt u 3)).send (.dram u "ACT" [p, b, row])

/-- Open the row of a line, or count a hit. -/
def State.openFor (s : State) (u p pa : Nat) (parity : List (Fin 16)) : State :=
  let b := bankOf pa
  let c := s.chan u
  let k := (c.pc p).bank b
  if k.openRow = some (rowOf pa) then
    (s.setChan u (c.setPc p ((c.pc p).setBank b { k with hits := k.hits + 1 }))).bump (chCnt u 2)
  else s.activate u p b (rowOf pa) parity

/-- Issue the row command of a line that a whole transaction was served from, the oldest of the pseudo-channel (R198, R235). -/
def State.issueRow (s : State) (u p : Nat) (parity : List (Fin 16)) : State :=
  match (s.chan u).rows.find? (fun e => e.1 == p) with
  | none => s
  | some e => (s.updChan u (fun (c : Chan) => { c with rows := c.rows.erase e })).openFor u p e.2 parity

/-- A request's own row command has been issued: the line it was served from asks for no other. -/
def State.rowIssued (s : State) (u p la : Nat) : State :=
  s.updChan u (fun (c : Chan) => { c with rows := (c.rows.reverse.erase (p, la)).reverse })

/-! ### Issue (R198, R200, R262, R400) -/

/-- Carry out one request. A read whose line has a write queued returns the queued data (R200). -/
def State.serveReq (s : State) (u : Nat) (wq : List MemReq) (r : MemReq) (errs : List (Nat × Nat)) : State :=
  if r.write then
    match (if r.repair then s.writeLine r.pa r.tenant r.kslot r.poison r.data true else s.memWrite r.pa r.tenant r.kslot r.poison r.data) with
    | (s, st) => s.send (.memResp u r.id (if st = .ok then 0 else st.code) false [])
  else
    match (wq.filter (fun w => w.pa == r.pa)).getLast? with
    | some w => (s.bump (chCnt u 0)).send (.memResp u r.id 0 w.poison w.data)
    | none =>
      let s := s.strike u r.pa errs
      match (if r.repair then s.readLine r.pa r.tenant r.kslot true else s.memRead r.pa r.tenant r.kslot) with
      | (s, x) => s.send (.memResp u r.id (if x.stat = .ok then 0 else x.stat.code) x.poison x.data)

/-- POND_ISSUE (R198 to R200, R204, R206, R207, R215): at a command slot a pseudo-channel issues one request; with none queued, the row command of a line
already served; nothing while it is paused. -/
def execPondIssue (unit : Fin 396) (pc : Fin 2) (faults : IssueFaults) (s : State) : Answer :=
  let u := unit.val
  let p := pc.val
  let c := (s.chan u).pc p
  if c.paused ∨ s.islandStopped (chIsland u) ∨ !s.chServes u then .next s
  else
    let sd := c.side (s.get (chSched u) F.POND_SCHED_WQ_HIGH)
    let q := if sd.1 then c.wq else c.rq
    match c.pick q (384 ≤ u) (s.chan u).lastTarn with
    | none => .next (s.issueRow u p faults.parity)
    | some r =>
      let c' : PChan := if sd.1 then { c with wq := c.wq.eraseP (fun x => x.id == r.id), drainTo := sd.2 }
                        else { c with rq := c.rq.eraseP (fun x => x.id == r.id), drainTo := sd.2 }
      let s := s.setChan u ((s.chan u).setPc p c')
      let s := if 384 ≤ u ∧ r.rank = 1 ∧ !r.write then s.updChan u (fun (c : Chan) => { c with lastTarn := r.tarn }) else s
      .next (((s.openFor u p r.pa faults.parity).serveReq u c.wq r faults.errors).rowIssued u p r.pa)

/-- AGE_PROMOTION (R199): a request below level 0 has waited AGE_LIMIT cycles. -/
def execAgePromotion (unit : Fin 396) (pc : Fin 2) (id : Nat) (s : State) : Answer :=
  let u := unit.val
  let c := (s.chan u).pc pc
  let due (r : MemReq) : Bool := r.id == id && r.level != 0 && !r.aged
  if s.get (chSched u) F.POND_SCHED_AGE_LIMIT = 0 ∨ !(c.rq ++ c.wq).any due then .next s
  else
    let up (l : List MemReq) : List MemReq := l.map (fun (r : MemReq) => if due r then { r with aged := true } else r)
    .next ((s.setChan u ((s.chan u).setPc pc { c with rq := up c.rq, wq := up c.wq })).bump (chCnt u 9))

/-- ROW_IDLE_CLOSE (R198): a row that ROW_IDLE cycles have passed without a hit closes. -/
def execRowIdleClose (unit : Fin 396) (pc : Fin 2) (bank : Fin 16) (s : State) : Answer :=
  let u := unit.val
  let c := (s.chan u).pc pc
  let k := c.bank bank
  if k.openRow.isNone then .next s
  else .next ((s.setChan u ((s.chan u).setPc pc (c.setBank bank { k with openRow := none, hits := 0 }))).send (.dram u "PRE" [pc, bank]))

/-! ### Refresh (R201, R208) -/

/-- REFRESH_INTERVAL (R201, R204, R209): whether or not the channel is enabled, the rotation reaches the next bank: its refresh is issued, or postponed while requests to it wait, at most eight owed;
a paused pseudo-channel owes it. -/
def execRefreshInterval (unit : Fin 396) (pc : Fin 2) (postpone : Bool) (s : State) : Answer :=
  let u := unit.val
  let p := pc.val
  let c := (s.chan u).pc p
  if !s.chRuns u ∨ s.islandStopped (chIsland u) then .next s
  else
    let b := c.refreshPtr % 16
    let k := c.bank b
    let waits := (c.rq ++ c.wq).any (fun r => bankOf r.pa == b)
    let s := s.setChan u ((s.chan u).setPc p ({ c with refreshPtr := (b + 1) % 16 }.setBank b { k with owed := k.owed + 1 }))
    if c.paused ∨ (postpone ∧ waits ∧ k.owed < 8) then .next s else .next (s.refreshBank u p b)

/-- STACK_TEMPERATURE_CHANGE (R201): a stack crosses 85 °C: the refresh window of its 32 Ponds changes, and HOT shows it. -/
def execStackTemperatureChange (stack : Fin 12) (hot : Bool) (s : State) : Answer :=
  .next ((List.range 32).foldl (fun s c => s.putFlag (R.POND_STATUS (32 * stack.val + c)) F.POND_STATUS_HOT hot) s)

/-- REFRESH_WINDOW_END (R208, R235): every table of the channel is emptied and every flag cleared; the windows with a flag set are counted. -/
def execRefreshWindowEnd (unit : Fin 396) (s : State) : Answer :=
  let u := unit.val
  let c := s.chan u
  let flagged (x : PChan) : Nat := ((List.range 16).filter (fun b => (x.bank b).overflow || (x.bank b).untrusted)).length
  let clean (x : PChan) : PChan :=
    (List.range 16).foldl (fun (x : PChan) b => x.setBank b { x.bank b with table := [], overflow := false, untrusted := false }) x
  .next ((s.setChan u { c with pc0 := clean c.pc0, pc1 := clean c.pc1 }).bump (chCnt u 10) (flagged c.pc0 + flagged c.pc1))

/-! ### Retraining (R202 to R205) -/

/-- A pseudo-channel pauses: rows close and every refresh already owed is issued (R202). -/
def State.pausePc (s : State) (u p : Nat) : State :=
  let s := (List.range 16).foldl (fun s b =>
    let k := ((s.chan u).pc p).bank b
    let s := (List.range k.owed).foldl (fun s _ => s.refreshBank u p b) s
    let c := s.chan u
    s.setChan u (c.setPc p ((c.pc p).setBank b { (c.pc p).bank b with openRow := none, hits := 0 }))) s
  let c := s.chan u
  (s.setChan u (c.setPc p { c.pc p with paused := true })).bump (chCnt u 7)

/-- A pause ends: the other pseudo-channel follows, or the token passes on (R202). -/
def State.resumePc (s : State) (u p : Nat) : State :=
  let c := s.chan u
  let s := s.setChan u { c.setPc p { c.pc p with paused := false } with tracked0 := p == 0 }
  if p = 0 then s.pausePc u 1 else s.passToken u

/-- The pseudo-channel of a channel that is paused. -/
def State.pausedPc (s : State) (u : Nat) : Option Nat :=
  if (s.chan u).pc0.paused then some 0 else if (s.chan u).pc1.paused then some 1 else none

/-- RETRAIN_PERIOD (R202, R205, R215): the starter's period expires, and a round begins unless one runs or the starter does not. -/
def execRetrainPeriod (unit : Fin 396) (s : State) : Answer :=
  let u := unit.val
  if !s.isStarter u ∨ !s.chRuns u ∨ (tokenRing u).any s.hasToken then .next s else .next (s.setToken u true)

/-- RETRAIN_TOKEN (R202, R205): at the channel that holds the token, tracking goes on by one stage: a pause of pseudo-channel 0 begins; its tracking completes and
pseudo-channel 1 pauses; its tracking completes and the token passes on. -/
def execRetrainToken (unit : Fin 396) (s : State) : Answer :=
  let u := unit.val
  if !s.hasToken u then .next s
  else if !s.chRuns u then .next (s.passToken u)
  else match s.pausedPc u with
    | none => .next (s.pausePc u 0)
    | some p => .next ((s.updChan u (fun (c : Chan) => c.setPc p { c.pc p with shortRow := 0 })).resumePc u p)

/-- PAUSE_LIMIT (R204): the pause limit is reached before tracking completes: a short pause; the third in a row on a pseudo-channel faults the channel. -/
def execPauseLimit (unit : Fin 396) (s : State) : Answer :=
  let u := unit.val
  match s.pausedPc u with
  | none => .next s
  | some p =>
    let n := ((s.chan u).pc p).shortRow + 1
    let s := (s.updChan u (fun (c : Chan) => c.setPc p { c.pc p with shortRow := n })).bump (chCnt u 8)
    let s := s.setErr (chErr u) F.POND_ERR_TRAIN_SHORT
    if 3 ≤ n then .next ((s.faultChan u).setErr (chErr u) F.POND_ERR_RETRAIN_FAIL) else .next (s.resumePc u p)

/-! ### Fills (R210, R211) -/

/-- POND_FILL (R210, R211): a fill command to a Pond agent. Refused with STATUS 1: an empty or reserved PCMASK, rows past the bank or, but for the rebuild and
repair engines, in the spare, an EMPTY key slot, a Pond in a reset or with a fill running; STATUS 2 from a faulted one. ENABLE may be 0 (R422). -/
def execPondFill (pond : Fin 384) (sender tag : BitVec 16) (first count : BitVec 32) (pattern : Word) (kslot : BitVec 16) (tenant : BitVec 8)
    (pcmask : BitVec 8) (repair : Bool) (s : State) : Answer :=
  let u := pond.val
  let f := if count.toNat = 0 then 0 else first.toNat
  let n := if count.toNat = 0 then 61440 else count.toNat
  let m := pcmask.toNat
  if s.chFaulted u then .next (s.fillReply u sender.toNat tag.toNat 2 0)
  else if m = 0 ∨ 3 < m ∨ 65536 < f + n ∨ (!repair ∧ 61440 < f + n) ∨ !s.slotFull kslot.toNat ∨ !s.chRuns u ∨ (s.chan u).fill.isSome then
    .next (s.fillReply u sender.toNat tag.toNat 1 0)
  else
    let fl : Fill := { range := .rows u f n m, pattern := pattern.toNat, kslot := kslot.toNat, kgen := s.slotGen kslot.toNat, tag := tenant.toNat }
    .next (s.startFill u { sender := sender.toNat, tag := tag.toNat, fill := fl, count := n, lines := n * 256 * popCount m 2 })

/-- SPILL_FILL (R210, R211): a fill command to a Spillway agent, in 64 KiB units of its populated capacity. -/
def execSpillFill (spill : Fin 12) (sender tag : BitVec 16) (first count : BitVec 32) (pattern : Word) (kslot : BitVec 16) (tenant : BitVec 8) (s : State) :
    Answer :=
  let j := spill.val
  let u := 384 + j
  let cap := s.spillBytes j / 65536
  let f := if count.toNat = 0 then 0 else first.toNat
  let n := if count.toNat = 0 then cap else count.toNat
  if s.chFaulted u then .next (s.fillReply u sender.toNat tag.toNat 2 0)
  else if cap < f + n ∨ !s.slotFull kslot.toNat ∨ !s.chRuns u ∨ (s.chan u).fill.isSome then .next (s.fillReply u sender.toNat tag.toNat 1 0)
  else
    let fl : Fill := { range := .chunks j f n, pattern := pattern.toNat, kslot := kslot.toNat, kgen := s.slotGen kslot.toNat, tag := tenant.toNat }
    .next (s.startFill u { sender := sender.toNat, tag := tag.toNat, fill := fl, count := n, lines := n * 1024 })

/-- FILL_DONE (R210, R211): a fill completes, or its channel has faulted with `done` rows or units written, and the agent replies. -/
def execFillDone (unit : Fin 396) (done : BitVec 32) (s : State) : Answer :=
  let u := unit.val
  match (s.chan u).fill with
  | none => .next s
  | some j => if s.chFaulted u then .next (s.fillEnds u j 2 done.toNat) else .next (s.fillEnds u j 0 j.count)

/-- The fills of a new basin's units (R244): over a run's members, each Pond of a stack its rows, each Spillway channel its 64 KiB units. -/
def Run.fills (r : Run) (u basin tenant : Nat) : List BasinFill :=
  (List.range r.set.length).flatMap (fun i =>
    let m := r.set.getD i 0
    let n := r.share i
    if n = 0 then []
    else if m < 384 then
      (List.range 32).map (fun c => { basin := basin, tenant := tenant, unit := 32 * m + c, first := r.base * u / 2 ^ 20, count := n * u / 2 ^ 20 })
    else [{ basin := basin, tenant := tenant, unit := m, first := r.base * u / 65536, count := n * u / 65536 }])

/-- The Wellhead has a basin's units filled, by every Pond and channel that holds some, in parallel (step 3 of R244). -/
def State.fillRuns (s : State) (basin tenant : Nat) (rs : List Run) : State :=
  let l := rs.flatMap (fun r => r.fills s.unitBytes basin tenant)
  let s : State := { s with xlat := { s.xlat with fills := s.xlat.fills ++ l } }
  if l = [] then s.settleBasins else (List.range 396).foldl (fun s u => s.startBasinFill u) s

/-! ### Training, faults, hold (R204, R212, R217, R229, R238) -/

/-- POND_TRAIN (R229): a write of POND_CTRL.TRAIN, accepted only while ENABLE is 0. -/
def execPondTrain (pond : Fin 384) (s : State) : Answer :=
  let u := pond.val
  if s.chEnabled u ∨ s.chFaulted u then .next s else .next (s.putFlag (R.POND_CTRL u) F.POND_CTRL_TRAIN true)

/-- POND_FAULT_WRITE (R229). -/
def execPondFaultWrite (pond : Fin 384) (s : State) : Answer := .next (s.faultChan pond.val)

/-- A write of TRAIN of a Spillway channel (R212, R238): it reads its DIMMs' presence data, (part, GiB) by DIMM. Two different parts are refused; none leaves it
absent. -/
def State.trainSpill (s : State) (j : Nat) (dimms : List (Nat × Nat)) : State :=
  let u := 384 + j
  if s.chEnabled u ∨ s.flag (R.SPILL_CTRL j) F.SPILL_CTRL_HOLD ∨ s.chFaulted u then s
  else
    let d := dimms.take 2
    let s := (s.put (R.SPILL_STATUS j) F.SPILL_STATUS_DIMMS d.length).updChan u (fun (c : Chan) => { c with trained := false })
    if 1 < d.length ∧ d[0]? ≠ d[1]? then (s.put (R.SPILL_STATUS j) F.SPILL_STATUS_CAP_GIB 0).setErr (R.SPILL_ERR j) F.SPILL_ERR_DIMM_MISMATCH
    else if d = [] then s.put (R.SPILL_STATUS j) F.SPILL_STATUS_CAP_GIB 0
    else
      let s := s.put (R.SPILL_STATUS j) F.SPILL_STATUS_CAP_GIB (d.foldl (fun n x => n + x.2) 0)
      s.putFlag (R.SPILL_CTRL j) F.SPILL_CTRL_TRAIN true

/-- SPILL_TRAIN (R212, R238). -/
def execSpillTrain (spill : Fin 12) (dimms : List (Nat × Nat)) (s : State) : Answer := .next (s.trainSpill spill dimms)

/-- TRAINING_DONE (R229, R238, R404, R580): training ends; the stack or DIMM reports the repair resources left by bank; a failure faults the channel. -/
def execTrainingDone (unit : Fin 396) (ok : Bool) (resources : List (Fin 16 × Nat)) (s : State) : Answer :=
  let u := unit.val
  if !s.chTraining u then .next s
  else
    let s := s.putFlag (chCtrl u) F.POND_CTRL_TRAIN false
    if !ok then .next ((s.updChan u (fun (c : Chan) => { c with trained := false })).faultChan u)
    else
      let s := s.updChan u (fun (c : Chan) => { c with soft := resources.foldl (fun t r => Tbl.set (fun _ => 0) t r.1 r.2) [], trained := true })
      if u < 384 then .next s
      else .next (s.put R.GLOB_CAP F.GLOB_CAP_SPILL_MASK (s.get R.GLOB_CAP F.GLOB_CAP_SPILL_MASK ||| 2 ^ (u - 384)))

/-- A channel holds no extent, frame or block frame (R217, R238): units reserved for block frames that hold none do not count. -/
def State.spillEmpty (s : State) (j : Nat) : Bool :=
  let on (pa : Nat) : Bool := unitOf pa == some (384 + j)
  let mapped (r : Run) : Bool := (r.set.findIdx? (· == 384 + j)).elim false (fun i => r.share i != 0)
  !(s.basins.any (fun e => e.2.mapped.any mapped))
    && !(s.kv.blks.any (fun e => e.2.elim false (fun b => on b.pa))) && !(s.kv.moves.any (fun m => on m.dst))
    && !(s.kv.old.any (fun f => on f.pa))

/-- SPILL_HOLD (R217, R238): a write of HOLD. A write of 1 is refused while the channel is not empty; held, it serves nothing; a write of 0 releases it, and it
must be trained before it serves again. -/
def execSpillHold (spill : Fin 12) (hold : Bool) (s : State) : Answer :=
  let j := spill.val
  let u := 384 + j
  if hold then
    if !s.spillEmpty j then .next (s.setErr (R.SPILL_ERR j) F.SPILL_ERR_HOLD_REFUSED)
    else
      let s := (s.flushChan u false).updChan u (fun (c : Chan) => { c with trained := false })
      let s := (s.putFlag (R.SPILL_CTRL j) F.SPILL_CTRL_HOLD true).putFlag (R.SPILL_CTRL j) F.SPILL_CTRL_ENABLE false
      .next (if s.hasToken u then s.passToken u else s)
  else .next (s.putFlag (R.SPILL_CTRL j) F.SPILL_CTRL_HOLD false)

end Sys2Proof.Machine
end

