-- ==== Sys2Proof/Machine/Regs.lean ====
section
/-!
DEFINITION. The register bus (R8 to R14): what a read returns, the counter latch, writes by access code and what follows from them, and the
rows of the table that are accesses of a register.
-/
namespace Sys2Proof.Machine

/-! ### Read-only fields that show other state -/

/-- A field's bits in place. -/
def inFld (f : Fld) (v : Nat) : Nat := v % 2 ^ f.w * 2 ^ f.lo

/-- A list of fields with the values they show, over a stored word. -/
def overlay (w : Nat) (l : List (Fld × Nat)) : Nat := l.foldl (fun w e => setBits w e.1.lo e.1.w e.2) w

def bit01 (b : Bool) : Nat := if b then 1 else 0

/-- TARN_STATUS (R112): a bank is busy while it holds a block or one is on its way to it. -/
def State.viewTarn (s : State) (n w : Nat) : Nat :=
  let t := Tbl.get (fun _ => ({} : Tarn)) s.tarns n
  let filling (b : Nat) : Bool := t.xfers.any (fun x => match x with
    | .block _ bank _ => bank == b
    | .linear .. => false)
  overlay w [(F.TARN_STATUS_BANK0_BUSY, bit01 (t.bank0.isSome || filling 0)), (F.TARN_STATUS_BANK1_BUSY, bit01 (t.bank1.isSome || filling 1)),
    (F.TARN_STATUS_QUEUED, t.queue.length)]

/-- POND_STATUS (R230): STATE, the token and the pauses, read-queue entries, and the banks with OVERFLOW or UNTRUSTED set in either pseudo-channel. -/
def State.viewPond (s : State) (n w : Nat) : Nat :=
  let c := s.chan n
  let flagged (b : Nat) : Bool := [c.pc0, c.pc1].any (fun p => let k := Tbl.get (fun _ => ({} : Bank)) p.banks b; k.overflow || k.untrusted)
  overlay w [(F.POND_STATUS_STATE, s.chState n), (F.POND_STATUS_TOKEN, bit01 c.token), (F.POND_STATUS_PC0_PAUSE, bit01 c.pc0.paused),
    (F.POND_STATUS_PC1_PAUSE, bit01 c.pc1.paused), (F.POND_STATUS_RQ0, c.pc0.rq.length), (F.POND_STATUS_RQ1, c.pc1.rq.length),
    (F.POND_STATUS_ACT_FLAG, (List.range 16).foldl (fun a b => if flagged b then a + 2 ^ b else a) 0)]

/-- Stage-2 entries of the basins whose entries stand (R248, R249, R264): an extent each in compact mode, a frame each in full mode. -/
def State.s2Used (s : State) : Nat :=
  let full := s.flag R.XLAT_CFG F.XLAT_CFG_MODE
  s.basins.foldl (fun n e =>
    if e.2.destroyed then n
    else n + (e.2.mapped.foldl (fun k r => k + (if !full then 1 else if r.striped then (r.len + 10) / 11 else r.len)) 0)) 0

/-- XLAT_STATUS (R264). -/
def State.viewXlat (s : State) (w : Nat) : Nat :=
  overlay w [(F.XLAT_STATUS_S1_USED, s.xlat.s1.length), (F.XLAT_STATUS_S2_USED, s.s2Used), (F.XLAT_STATUS_INV_INFLIGHT, s.xlat.invs.length)]

/-- DIR_STATUS (R370). -/
def State.viewDir (s : State) (w : Nat) : Nat :=
  overlay w [(F.DIR_STATUS_STRICT, bit01 s.strict), (F.DIR_STATUS_BOOT, s.get R.DIR_CTRL F.DIR_CTRL_STRICT_BOOT),
    (F.DIR_STATUS_TEST, s.get R.DIR_CTRL F.DIR_CTRL_STRICT_TEST), (F.DIR_STATUS_DEATH, bit01 s.deathSweep),
    (F.DIR_STATUS_TAKEOVER, bit01 s.home.takeover), (F.DIR_STATUS_SWEEPS, s.home.sweeps.length), (F.DIR_STATUS_SUSPECT, s.home.suspects.length)]

/-- DIR_OCC of a home (R370): its entries not in I, its transactions. -/
def State.viewOcc (s : State) (q w : Nat) : Nat :=
  overlay w [(F.DIR_OCC_VALID, (s.home.entries.filter (fun e => e.2.st != .i && quadOf (64 * e.1) == q)).length),
    (F.DIR_OCC_TRACKERS, (s.home.txns.filter (fun t => quadOf t.req.pa == q)).length)]

/-- Two bits of WELL_CORESTAT for a core (R557); a core in MWAIT is shown running. -/
def CoreSt.code : CoreSt → Nat
  | .held => 0 | .running => 1 | .mwait => 1 | .stopped => 2 | .wfi => 3

def State.viewCores (s : State) (w : Nat) : Nat :=
  let four (b : Nat) : Nat := (List.range 4).foldl (fun a i => a + (s.core (b + i)).st.code * 4 ^ i) 0
  overlay w [(F.WELL_CORESTAT_WELL_STATE, four 0), (F.WELL_CORESTAT_STEWARD_STATE, four 4)]

/-- What a read of the register at an offset returns, before the latch of R9: reserved offsets read 0 (R13). -/
def State.view (s : State) (off : Nat) : Nat :=
  let w := (s.reg off).toNat
  match locate off with
  | none => 0
  | some (b, n, loc) =>
    match b with
    | .tarn => if loc = 0x10 then s.viewTarn n w else w
    | .pond => if loc = 0x10 then s.viewPond n w else w
    | .spill => if off = R.SPILL_STATUS n then overlay w [(F.SPILL_STATUS_STATE, s.chState (384 + n)), (F.SPILL_STATUS_EMPTY, bit01 (s.spillEmpty n))] else w
    | .xlat => if off = R.XLAT_STATUS then s.viewXlat w else w
    | .dir =>
      if off = R.DIR_STATUS then s.viewDir w
      else if 0x60 ≤ loc ∧ loc < 0x80 then s.viewOcc ((loc - 0x60) / 8) w
      else w
    | .job =>
      if off = R.JOB_STATUS then
        overlay w [(F.JOB_STATUS_IN_FLIGHT, s.jobs.jobs.length), (F.JOB_STATUS_INLETS_ON, (s.jobs.inlets.filter (fun e => e.2.enable)).length)]
      else w
    | .well => if off = R.WELL_CORESTAT then s.viewCores w else w
    | .glob | .rst | .clk | .pwr | .mere | .pair | .shal | .qos | .ras | .sec | .mgmt => w

/-! ### Reading (R8, R9) -/

/-- A register read of 8 bytes, or of 4 bytes at `addr`: the value, and the counter latch as the read leaves it (R9). -/
def State.busRead (s : State) (requester addr : Nat) (wide : Bool) : State × Nat :=
  let off := addr / 8 * 8
  let v := s.view off
  let t := s.release off
  if wide then (t, v)
  else if addr / 4 % 2 = 0 then
    (if isCounter off then { t with latches := t.latches ++ [{ requester := requester, off := off, hi := v / 2 ^ 32 }] } else t, v % 2 ^ 32)
  else
    match s.latches.find? (fun l => l.off == off && l.requester == requester) with
    | some l => (t, l.hi)
    | none => (t, v / 2 ^ 32)

/-! ### Writing (R10 to R12, R115, R532) -/

/-- A field's name is CLEAR: the register is a block's CNTCLR. -/
def isCntclr (off : Nat) : Bool := (fieldsAt off).any (fun f => f.name == "CLEAR")

/-- Clear the counters of the block whose CNTCLR is at an offset: counter i for each bit i written 1 (R115 and its like). Bit 2 of QOS_CNTCLR
clears every QOS_TCNT as well (R394), bit 8 of MGMT_CNTCLR every MGMT_ALARMCNT (R559). -/
def State.clearCounters (s : State) (off v : Nat) : State :=
  match locate off with
  | none => s
  | some (b, _, loc) =>
    let base := off - loc + 0x100
    let w := (fieldsAt off).foldl (fun w f => max w f.w) 0
    let named (o : Nat) : Bool := base ≤ o && o < base + 8 * w && (o - base) % 8 == 0 && bitOf v ((o - base) / 8) && isCounter o
    let extra (o : Nat) : Bool :=
      (b == .qos && bitOf v 2 && R.QOS_BASE + 0x4000 ≤ o && o < R.QOS_BASE + 0x6000)
        || (b == .mgmt && bitOf v 8 && R.MGMT_ALARMCNT 0 ≤ o && o < R.MGMT_ALARMCNT 0 + 0x200)
    s.clearRegs (fun o => named o || extra o)

/-- Clear the W1C fields of a register whose bits are written 1 (R10, R11); XLAT_FQ_OVF.COUNT clears when all ones are written (R268). -/
def State.clearW1c (s : State) (off mask : Nat) : State :=
  (fieldsAt off).foldl (fun s f =>
    if f.acc != .w1c then s
    else
      let m := bitsOf mask f.lo f.w
      if f = F.XLAT_FQ_OVF_COUNT ∧ off = R.XLAT_FQ_OVF then (if m = 2 ^ f.w - 1 then s.put off f 0 else s)
      else s.put off f (s.get off f &&& (2 ^ f.w - 1 - m))) s

/-- The vector whose source register is at an offset, if it is one (R531, R532). -/
def sourceVector (off : Nat) : Option Nat :=
  match vectorOf off with
  | none => none
  | some v => if (vectorSources v).contains off || off == R.PWR_FEED_STATUS then some v else none

/-- A W1C write: a source register that leaves its vector's condition true has the message sent again (R532). -/
def State.w1cWrite (s : State) (off mask : Nat) : State :=
  let t := s.clearW1c off mask
  match sourceVector off with
  | none => t
  | some v => if t.condition v then t.interrupt v else t

/-- A write of 1 to a block's lock bit sets it (R12). -/
def State.lockWrite (s : State) (off : Nat) : State :=
  match locate off with
  | none => s
  | some (b, n, _) =>
    match lockOf b n with
    | none => s
    | some (lo, f) => if off = lo then s.putFlag lo f true else s

/-- Unmasking: a vector whose condition an ERRMASK write makes true sends its message (R532). -/
def State.unmasked (before after : State) (off : Nat) : State :=
  match vectorOf off with
  | none => after
  | some v => if (vectorSources v).any (fun o => o + 8 == off) then State.interruptIf before after v else after

/-- A vector unmasked in the MSI-X table while its pending bit is 1 sends its message and clears the bit (R532, PCI Express). -/
def State.msixUnmask (s : State) (off : Nat) : State :=
  let base := R.GLOB_BASE + 0x8000
  if base ≤ off ∧ off < base + 0x400 ∧ (off - base) % 16 = 8 then
    let v := (off - base) / 16
    let pba := R.GLOB_BASE + 0x9000
    if !s.flag off F.MSIX_MASK && bitOf (s.reg pba).toNat v then
      (s.setReg pba (BitVec.ofNat 64 ((s.reg pba).toNat - 2 ^ v))).send (.msix v)
    else s
  else s

/-- The Oxbow bypass switches are open (R552), as OXBOW_HOLD drives them. -/
def State.bypassOpen (s : State) : Bool :=
  s.rst.aonOk && !(s.rst.active.any (fun a => a.1 ≤ 1)) && !s.flag R.MGMT_CTRL F.MGMT_CTRL_BYPASS_FORCE

/-- Drive OXBOW_HOLD where a change moves it. -/
def State.driveOxbow (before after : State) : State :=
  if before.bypassOpen = after.bypassOpen then after else after.send (.land "OXBOW_HOLD" after.bypassOpen)

/-- What follows a write of a channel's control register (R229, R238): a FAULT it sets faults the channel; requests queued when ENABLE becomes 0 complete with
an error response. -/
def State.afterChan (before after : State) (u : Nat) : State :=
  let s := if after.chFaulted u && !before.chFaulted u then (after.putFlag (chCtrl u) F.POND_CTRL_FAULT false).faultChan u else after
  if before.chEnabled u && !after.chEnabled u then s.flushChan u (s.chFaulted u) else s

/-- A command of the register at an offset runs, and a write of the register has no effect (R426, R457, R488, R520). Log entry 107. -/
def State.cmdBusy (s : State) (off : Nat) : Bool :=
  (off == R.PAIR_CMD && s.flag off F.PAIR_CMD_BUSY) || (off == R.RAS_CMD && s.flag off F.RAS_CMD_BUSY)
    || (off == R.SEC_KCMD && s.flag off F.SEC_KCMD_BUSY) || (off == R.RST_UNIT && s.flag off F.RST_UNIT_BUSY)

/-- Two enabled Tarns of one quadrant would carry the same role (R111). -/
def State.roleClash (s : State) (t : Nat) : Bool :=
  s.flag (R.TARN_CTRL t) F.TARN_CTRL_ENABLE &&
    (tarnsIn (t / 25)).any (fun u => u != t && s.flag (R.TARN_CTRL u) F.TARN_CTRL_ENABLE && (s.rolesOf u).any (s.rolesOf t).contains)

/-- A write of TARN_CTRL that would give two enabled Tarns of a quadrant one role has no effect and sets ROLE_CLASH (R111). -/
def State.afterTarn (before after : State) (t : Nat) : State :=
  if !before.roleClash t && after.roleClash t then before.setErr (R.TARN_ERR t) F.TARN_ERR_ROLE_CLASH else after

/-- What follows a generic write (R111, R217, R391, R480, R532, R552): a write of QOS_TRATE that breaks CIR ≤ PIR or CBS ≤ PBS has no effect, another settles the
tenant's buckets; a channel's FAULT and ENABLE act on it; a role clash, or a command register whose command runs, takes no write; firmware
records a change of the signer table. -/
def State.afterWrite (before after : State) (off : Nat) : State :=
  if before.cmdBusy off then before
  else match locate off with
  | some (.qos, _, loc) =>
    if 0x1000 ≤ loc ∧ loc < 0x1800 then
      if after.get off F.QOS_TRATE_PIR < after.get off F.QOS_TRATE_CIR ∨ after.get off F.QOS_TRATE_PBS < after.get off F.QOS_TRATE_CBS then before
      else State.settleBuckets before after ((loc - 0x1000) / 8)
    else State.unmasked before after off
  | some (.tarn, n, _) => if off = R.TARN_CTRL n then State.afterTarn before after n else State.unmasked before after off
  | some (.pond, n, _) => if off = R.POND_CTRL n then State.afterChan before after n else after
  | some (.spill, n, _) => if off = R.SPILL_CTRL n then State.afterChan before after (384 + n) else after
  | some (.glob, _, _) => after.msixUnmask off
  | some (.sec, _, loc) =>
    if 0x1000 ≤ loc ∧ 0 < after.get R.GLOB_STATUS F.GLOB_STATUS_PHASE then after.recordChange else State.unmasked before after off
  | some (.mgmt, _, _) => if off = R.MGMT_CTRL then State.driveOxbow before after else State.unmasked before after off
  | _ => State.unmasked before after off

/-- A write of plain fields: no field with a row of its own changes. -/
def State.plainWrite (s : State) (addr size v : Nat) : State :=
  let off := addr / 8 * 8
  let s := s.release off
  State.afterWrite s (s.writeReg addr size v) off

/-- A write by an agent inside (R10, R125): plain fields, W1C bits, the lock bit and CNTCLR together; fields with a row of their own follow in State.ownWrite. -/
def State.busWrite (s : State) (addr size v : Nat) : State :=
  let off := addr / 8 * 8
  let raw := accessRaw addr size v
  let s := s.plainWrite addr size v
  let s := if (fieldsAt off).any (fun f => f.acc == .w1c) then s.w1cWrite off raw else s
  let s := match (locate off).bind (fun x => lockOf x.1 x.2.1) with
    | some (lo, f) => if off = lo && bitOf raw f.lo then s.lockWrite off else s
    | none => s
  if isCntclr off then s.clearCounters off raw else s

/-! ### The rows -/

/-- The requester of the node host's own writes, which the table gives no identity. Log entry 104. -/
def hostRequester : Nat := 0

/-- REGISTER_WRITE (R8, R10, R12 to R14): a write of 32 or 64 bits to the fields of a register that have no row of their own; a misaligned one
completes as an Unsupported Request. -/
def execRegisterWrite (addr : BitVec 26) (wide : Bool) (value : Word) (s : State) : Answer :=
  let size := if wide then 8 else 4
  if accessOk addr.toNat size then .next (s.plainWrite addr.toNat size value.toNat)
  else .next (s.send (.unsupported hostRequester addr.toNat))

/-- UNSUPPORTED_ACCESS (R8): an access of another size or alignment changes no register. -/
def execUnsupportedAccess (requester : BitVec 16) (addr : BitVec 26) (size : Nat) (s : State) : Answer :=
  if accessOk addr.toNat size then .next s else .next (s.send (.unsupported requester.toNat addr.toNat))

/-- COUNTER_LOW_READ (R9, R13): a read of a register. `part` 0 reads bits [31:0], which of a counter latches its upper half for the requester; 1 reads bits
[63:32]; 2 reads all 64 bits. -/
def execCounterLowRead (requester : BitVec 16) (addr : BitVec 26) (part : Fin 3) (s : State) : Answer :=
  let off := addr.toNat / 8 * 8
  let a := if part = 1 then off + 4 else off
  match s.busRead requester.toNat a (part == 2) with
  | (s, v) => .next (s.send (.regRead requester.toNat a (if part = 2 then 8 else 4) v))

/-- W1C_CLEAR (R10, R11, R532): the written bits clear, and the vector's message goes again where its condition stays true. -/
def execW1cClear (addr : BitVec 26) (mask : Word) (s : State) : Answer :=
  let off := addr.toNat / 8 * 8
  .next ((s.release off).w1cWrite off mask.toNat)

/-- LOCK_SET (R12): a block's RWL fields are fixed. -/
def execLockSet (addr : BitVec 26) (s : State) : Answer := .next (s.lockWrite (addr.toNat / 8 * 8))

/-- COUNTER_CLEAR (R115, R394, R559). -/
def execCounterClear (addr : BitVec 26) (mask : Word) (s : State) : Answer :=
  let off := addr.toNat / 8 * 8
  if isCntclr off then .next (s.clearCounters off mask.toNat) else .next s

end Sys2Proof.Machine
end

