-- ==== Sys2Proof/Machine/Cores.lean ====
section
/-!
DEFINITION. A Chotaum-W core: its registers, its address space (R125, R126), exceptions and interrupts (R134 to R136), and what every instruction does
around its own effect. Core numbers: 0 to 3 the Wellhead's, 4 to 7 the Stewards'.
-/
namespace Sys2Proof.Machine

def two64 : Nat := 2 ^ 64

/-- x0 reads as 0 (R118). -/
def WCore.get (c : WCore) (r : Fin 32) : Nat := if r = 0 then 0 else Tbl.get (fun _ => 0) c.x r

/-- Writes to x0 are discarded (R118). -/
def WCore.set (c : WCore) (r : Fin 32) (v : Nat) : WCore :=
  if r = 0 then c else { c with x := Tbl.set (fun _ => 0) c.x r (v % two64) }

/-! ### Instruction words (R119) -/

def wordA (op : Nat) (rd ra rb : Fin 32) (fn : BitVec 11) : Nat := op * 2 ^ 26 + rd * 2 ^ 21 + ra * 2 ^ 16 + rb * 2 ^ 11 + fn.toNat
def wordB (op : Nat) (rd ra : Fin 32) (imm : BitVec 16) : Nat := op * 2 ^ 26 + rd * 2 ^ 21 + ra * 2 ^ 16 + imm.toNat

/-- sext of an immediate, modulo 2^64 (R119). -/
def sext64 {n : Nat} (imm : BitVec n) : Nat := (imm.signExtend 64).toNat

/-! ### Bytes of a sparse memory whose unlisted bytes are 0 -/

def tblBytes (t : List Host.Cell) (a : Nat) : Nat → List Byte
  | 0 => []
  | n + 1 => Tbl.get (fun _ => 0) t a :: tblBytes t (a + 1) n

def tblStore (t : List Host.Cell) (a : Nat) : List Byte → List Host.Cell
  | [] => t
  | b :: bs => tblStore (Tbl.set (fun _ => 0) t a b) (a + 1) bs

/-! ### The address space (R125) -/

inductive CMem where
  | sram (a : Nat)
  | regs (off : Nat)
  | rom (off : Nat)
  | pool (pa : Nat)
  | hole
  deriving DecidableEq, Repr

def coreMap (i a : Nat) : CMem :=
  if a < (if i < 4 then 0x800000 else 0x80000) then .sram a
  else if 0x40000000 ≤ a ∧ a < 0x44000000 then .regs (a - 0x40000000)
  else if i < 4 ∧ 0x70000000 ≤ a ∧ a < 0x70010000 then .rom (a - 0x70000000)
  else if 2 ^ 48 ≤ a ∧ a < 2 ^ 49 then .pool (a - 2 ^ 48)
  else .hole

/-- An aligned address an instruction may be fetched from (R117, R127). -/
def canFetch (i a : Nat) : Bool :=
  a % 4 == 0 && match coreMap i a with
    | .sram _ => true
    | .rom _ => true
    | .regs _ => false
    | .pool _ => false
    | .hole => false

/-! ### Exceptions (R134 to R136) -/

def ecIllegal : Nat := 0x01
def ecFetch : Nat := 0x02
def ecLoad : Nat := 0x03
def ecStore : Nat := 0x04
def ecMisaligned : Nat := 0x05
def ecPoison : Nat := 0x06
def ecEcall : Nat := 0x07
def ecBreak : Nat := 0x08
def ecCsr : Nat := 0x09
def ecSramUe : Nat := 0x0A

def WCore.ieOn (c : WCore) : Bool := bitOf c.status 0
def WCore.exl (c : WCore) : Bool := bitOf c.status 1

/-- Entry (R134): one action for exceptions and interrupts. -/
def WCore.enter (c : WCore) (epc ecause eval : Nat) : WCore :=
  { c with estatus := c.status, status := 2, epc := epc, ecause := ecause, eval := eval, pc := c.evec }

/-- A core stops (R136): the core-stop event; a Steward's is an alarm (R545). -/
def State.stopCore (s : State) (i : Nat) (c : WCore) : State :=
  let s := (s.setCore i { c with st := .stopped }).setErr R.WELL_ERR F.WELL_ERR_CORE_STOP
  if i < 4 then s else s.unitAlarm (coreAddr i) .coreStop

/-- A synchronous exception: entry, or the core stops where EXL is 1 (R134, R136). -/
def State.takeExc (s : State) (i epc cause eval : Nat) : State :=
  let c := s.core i
  if c.exl then s.stopCore i { c with eval := eval } else s.setCore i (c.enter epc cause eval)

/-! ### Interrupts (R133, R135) -/

/-- IP: timer, receive queue, and the three that other units raise. -/
def WCore.ip (c : WCore) : Nat :=
  (if c.tcmp ≤ c.cycle then 2 else 0) + (if c.recvq = [] then 0 else 4) + bitsOf c.irq 3 3 * 8

/-- The lowest enabled pending code. -/
def WCore.pendingCode (c : WCore) : Option Nat := [1, 2, 3, 4, 5].find? (fun k => bitOf c.ip k && bitOf c.ie k)

/-! ### What an instruction comes to -/

/-- Outcome of an instruction: it retires with the next pc, stalls, or raises an exception with its EPC, cause and EVAL. `s` is the state around the
core, which an access may have changed (R129: the core itself and memory have not). -/
inductive WOut where
  | retire (s : State) (c : WCore) (pc : Nat)
  | stall
  | exc (s : State) (epc cause eval : Nat)
  /-- What it set going has replaced the core itself: a reset or a restart. -/
  | replaced (s : State)

/-- The state after an instruction that came to an outcome: it retires, stalls or raises (R118, R129, R133, R134). -/
def State.runWord (s : State) (i : Nat) : WOut → State
  | .stall => s
  | .replaced t => t
  | .exc s epc cause eval => s.takeExc i epc cause eval
  | .retire s c pc => s.setCore i { c with pc := pc, instret := (c.instret + 1) % two64 }

/-- Run an instruction on a core that is running and whose clock has not stopped (R507); a pc outside the executable ranges raises FETCH_FAULT (R124, R127), and an uncorrectable error of SRAM
or cache SRAM_UE (R135, R557). A corrected one is recorded. -/
def State.runOn (s : State) (i : Nat) (ecc : Ecc) (f : WCore → WOut) : Answer :=
  let c := s.core i
  if c.st ≠ .running ∨ s.islandStopped (coreIsland i) then .next s
  else if !canFetch i c.pc then .next (s.takeExc i c.pc ecFetch c.pc)
  else match ecc with
    | .ue a => .next ((s.takeExc i c.pc ecSramUe a.toNat).setErr R.WELL_ERR F.WELL_ERR_SRAM_UE)
    | .corrected => .next ((s.runWord i (f c)).setErr R.WELL_ERR F.WELL_ERR_SRAM_CE)
    | .ok => .next (s.runWord i (f c))

/-- Retire with a value in rd and the pc past the instruction. -/
def WCore.write (c : WCore) (s : State) (rd : Fin 32) (v : Nat) : WOut := .retire s (c.set rd v) ((c.pc + 4) % two64)

/-- A transfer of control (R124): to a target outside the executable ranges it raises FETCH_FAULT there. -/
def WCore.jump (c : WCore) (s : State) (i t : Nat) : WOut :=
  if canFetch i t then .retire s c t else .exc s t ecFetch t

/-! ### Loads and stores (R124 to R126, R400, R401) -/

inductive LoadRes where
  | val (v : List Byte)
  | fault
  | poison (a : Nat)
  deriving DecidableEq, Repr

def WCore.slot (c : WCore) : Nat := bitsOf c.kslot 0 9
def WCore.tag (c : WCore) : Nat := bitsOf c.kslot 16 8

/-- The core's data cache holds the line (R126, R360): bit `i` of IMASK, 0 to 3 for Wellhead cores, 4 + q for the Steward of quadrant q. -/
def State.coreHolds (s : State) (i la : Nat) : Bool := bitOf (s.dirEntry la).imask i

/-- An owner's data is written to memory, and another internal owner keeps a shared copy (R341, R348, R360). -/
def State.coreFetch (s : State) (la : Nat) (ans : List SnoopAnswer) : State :=
  match s.basinAt la with
  | none => s.shareInternal la
  | some (_, b) => (s.agentPull la b.tenant ans).1

/-- The core's cache gains a shared copy of a line (R126, R341, R360). Where no way of the directory is free it keeps none (log entry 98). -/
def State.corePull (s : State) (i la : Nat) (ans : List SnoopAnswer) : State :=
  if s.coreHolds i la then s
  else
    let s := s.coreFetch la ans
    let a := s.actState la
    match s.makeWay la ans with
    | (s, true) => s.setDir la (if a.1 = .i then .s else a.1) a.2 ((s.dirEntry la).imask ||| 2 ^ i)
    | (s, false) => s

/-- The core's cache gains a line for writing: every other copy is invalidated, and the line is EXI, this core's (R131, R341, R360). -/
def State.coreOwn (s : State) (i la : Nat) (ans : List SnoopAnswer) : State :=
  if s.coreHolds i la ∧ (s.dirEntry la).st = .exi then s
  else
    let e := s.dirEntry la
    let s := (if s.coreHolds i la then s.putEntry la { e with imask := e.imask - 2 ^ i } else s).coreFetch la ans
    let s := match s.basinAt la with
      | none => s.recallInternal la
      | some (_, b) => s.invalidateAll la b.tenant ans
    match s.makeWay la ans with
    | (s, true) => s.setDir la .exi [] (2 ^ i)
    | (s, false) => s

/-- A line of the pool as a core reads it: no tag check, the key of KSLOT (R126). -/
def State.coreLine (s : State) (i : Nat) (c : WCore) (la : Nat) (ans : List SnoopAnswer) : State × LineRead :=
  (s.corePull i la ans).memRead la none c.slot

/-- A line of the pool that a core owns, as it writes it: the line takes KSLOT.TAG (R126). -/
def State.coreStoreLine (s : State) (c : WCore) (la : Nat) (poison : Bool) (d : List Byte) : State × MemStat :=
  match s.memWrite la none c.slot poison d with
  | (s, .ok) =>
    let at_ := (s.standsAt la).getD la
    ({ s with pool := s.pool.setLine at_ { s.pool.line at_ with tag := c.tag } }, .ok)
  | r => r

/-- A register-space access is of 4 or 8 bytes (R125). -/
def regSize (n : Nat) : Bool := n == 4 || n == 8

/-- Load `n` bytes from an aligned address. -/
def State.coreLoad (s : State) (i : Nat) (c : WCore) (a n : Nat) (ans : List SnoopAnswer) : State × LoadRes :=
  match coreMap i a with
  | .sram o => (s, .val (tblBytes (if i < 4 then s.wsram else c.sram) o n))
  | .regs o =>
    if !regSize n then (s, .fault)
    else
      let r := s.busRead (65536 + i) o (n == 8)
      (r.1, .val (leBytes r.2 n))
  | .rom o => (s, .val ((List.range n).map (fun k => Config.bootRom (o + k))))
  | .pool pa =>
    let la := pa / 64 * 64
    match s.coreLine i c la ans with
    | (s, r) =>
      if r.stat ≠ .ok then (s, .fault)
      else if r.poison then (s, .poison (2 ^ 48 + la))
      else (s, .val ((r.data.drop (pa - la)).take n))
  | .hole => (s, .fault)

/-- A load instruction (R121, R124). -/
def State.loadOp (s : State) (i : Nat) (c : WCore) (n : Nat) (signed : Bool) (rd ra : Fin 32) (imm : BitVec 16) (ans : List SnoopAnswer) : WOut :=
  let a := (c.get ra + sext64 imm) % two64
  if a % n ≠ 0 then .exc s c.pc ecMisaligned a
  else match s.coreLoad i c a n ans with
    | (s, .fault) => .exc s c.pc ecLoad a
    | (s, .poison l) => .exc s c.pc ecPoison l
    | (s, .val d) =>
      let v := leNat d
      c.write s rd (if signed then unsignedOf (signedOf v (8 * n)) 64 else v)

/-- A conditional branch (R121). -/
def State.branchOp (s : State) (i : Nat) (c : WCore) (cond : Bool) (imm : BitVec 16) : WOut :=
  if cond then c.jump s i ((c.pc + sext64 imm * 4) % two64) else .retire s c ((c.pc + 4) % two64)

/-- An FN of ATOM names an operation: FN[8:4] is 0 and FN[3:0] is listed (R131). -/
def atomFnOk (fn : Nat) : Bool := bitsOf fn 4 5 == 0 && 1 ≤ fn % 16 && fn % 16 ≤ 0xA

/-! ### Control registers (R132, R133) -/

def coreId (i : Nat) : Nat := if i < 4 then i else 4 * (i - 4) + 16

/-- A control register's value; CYCLE moves on by a free count of cycles when it is read, since the block has no clock of its own. Log entry 46. -/
def State.csrRead (s : State) (i : Nat) (c : WCore) (n : Nat) : Option (State × WCore × Nat) :=
  match n with
  | 0x000 => some (s, c, coreId i)
  | 0x001 =>
    let v := (c.cycle + Config.freeNat s.fresh) % two64
    some (s.tick, { c with cycle := v }, v)
  | 0x002 => some (s, c, c.instret)
  | 0x003 => some (s, c, if i < 4 then (s.reg R.WELL_MCYCLE).toNat else c.mcycle)
  | 0x010 => some (s, c, c.status)
  | 0x011 => some (s, c, c.estatus)
  | 0x012 => some (s, c, c.epc)
  | 0x013 => some (s, c, c.ecause)
  | 0x014 => some (s, c, c.eval)
  | 0x015 => some (s, c, c.evec)
  | 0x016 => some (s, c, c.ie)
  | 0x017 => some (s, c, c.ip)
  | 0x018 => some (s, c, c.tcmp)
  | 0x019 => some (s, c, c.scratch)
  | 0x020 => some (s, c, (16 - c.sendq.length) + c.recvq.length * 256)
  | 0x021 => some (s, c, c.kslot)
  | _ => none

def csrReadOnly (n : Nat) : Bool := n < 4 || n == 0x017 || n == 0x020

/-- What a write leaves in a control register (R132, R133): of STATUS and KSLOT the bits listed, of EVEC a multiple of 4; ESTATUS, ECAUSE and IE keep all 64
bits, since the table says of their other bits nothing. DESIGN CHOICE, log entry 61. -/
def WCore.csrWrite (c : WCore) (n v : Nat) : WCore :=
  match n with
  | 0x010 => { c with status := v % 4 }
  | 0x011 => { c with estatus := v }
  | 0x012 => { c with epc := v }
  | 0x013 => { c with ecause := v }
  | 0x014 => { c with eval := v }
  | 0x015 => { c with evec := v / 4 * 4 }
  | 0x016 => { c with ie := v }
  | 0x018 => { c with tcmp := v }
  | 0x019 => { c with scratch := v }
  | 0x021 => { c with kslot := v &&& 0xFF01FF }
  | _ => c

/-- CSRRW, CSRRS, CSRRC (R132): `f` is the new value from the old; `writes` is whether the instruction writes. -/
def State.csrOp (s : State) (i : Nat) (c : WCore) (op : Nat) (rd ra : Fin 32) (imm : BitVec 16) (writes : Bool) (f : Nat → Nat → Nat) : WOut :=
  let word := wordB op rd ra imm
  let n := bitsOf imm.toNat 0 12
  if bitsOf imm.toNat 12 4 ≠ 0 then .exc s c.pc ecIllegal word
  else match s.csrRead i c n with
    | none => .exc s c.pc ecCsr word
    | some (t, d, old) =>
      if writes ∧ csrReadOnly n then .exc s c.pc ecCsr word
      else ((if writes then d.csrWrite n (f old (c.get ra)) else d).write t rd old)

/-! ### Hierarchy messages (R137 to R141) -/

/-- The units an address names: one, or for a multicast every agent of its kind in its quadrant; none where the destination does not exist (R137). -/
def hierUnits (dst : Nat) : List Nat :=
  let k := dst / 4096
  let q := dst / 1024 % 4
  let i := dst % 1024
  let count (k : Nat) : Nat := if k = 2 then 25 else if k = 3 then 96 else if k = 4 then 2 else 3
  if k = 0 then (if q = 0 ∧ i < 4 then [dst] else [])
  else if k = 1 then (if i = 0 then [dst] else [])
  else if k < 6 then (if i < count k then [dst] else [])
  else if k = 6 then (if q = 0 ∧ i < 4 then [dst] else [])
  else if 8 ≤ k ∧ k < 12 then (if i = 0 then (List.range (count (k - 6))).map (fun j => hierAddr (k - 6) q j) else [])
  else []

/-- A Steward of quadrant q may send to Wellhead cores, to agents of q and to multicasts in q (R140). -/
def stewardMay (q dst : Nat) : Bool :=
  let k := dst / 4096
  hierUnits dst != [] && (k == 0 || ((2 ≤ k && k < 6 || 8 ≤ k && k < 12) && dst / 1024 % 4 == q))

/-- The 64 bytes as delivered: DEST and SRC are written (R138). -/
def delivered (src dst : Nat) (b : List Byte) : List Byte := leBytes dst 2 ++ leBytes src 2 ++ (b.drop 4).take 60

/-- The notice of a message that was not delivered (R141): TYPE 0xF3, its TAG, the first 48 bytes of its BODY; the last 8 bytes are free. -/
def undeliverable (b : List Byte) (n : Nat) : List Byte :=
  leBytes 0 4 ++ leBytes 0xF3 1 ++ leBytes 0 1 ++ (b.drop 6).take 50 ++ leBytes (Config.freeNat n) 8

/-- Put a message on its way from a unit to a core. -/
def State.postMsg (s : State) (src dst : Nat) (b : List Byte) : State := { s with msgs := s.msgs ++ [{ src := src, dst := dst, body := b }] }

/-- Hand a message to one unit: a core takes it into its receive queue unless that holds 64; an agent that is not in an L3 reset takes it. -/
def State.deliverMsg (s : State) (src dst : Nat) (b : List Byte) : Option State :=
  match coreOf dst with
  | some i =>
    let c := s.core i
    if 64 ≤ c.recvq.length then none else some (s.setCore i { c with recvq := c.recvq ++ [delivered src dst b] })
  | none => if s.agentDown dst then none else some (s.send (.hmsg src dst (delivered src dst b)))

end Sys2Proof.Machine
end

