-- ==== Sys2Proof/Machine/Chotaum.lean ====
section
/-!
DEFINITION. The instructions of Chotaum-W (R119 to R141), each run by a core at its pc, and what happens to a core from outside: interrupts,
messages, release and restart. The block's cores fetch nothing of their own here: the sender gives each instruction.
-/
namespace Sys2Proof.Machine

/-- ALU (R122, R123: an FN that is not listed, or RB ≠ 0 where it must be 0, is illegal). -/
def execAlu (core : Fin 8) (rd ra rb : Fin 32) (fn : BitVec 11) (ecc : Ecc) (s : State) : Answer :=
  s.runOn core ecc fun c =>
    match aluOf fn.toNat with
    | none => .exc s c.pc ecIllegal (wordA 0x00 rd ra rb fn)
    | some k =>
      if (k = .popc ∨ k = .clz ∨ k = .ctz) ∧ rb ≠ 0 then .exc s c.pc ecIllegal (wordA 0x00 rd ra rb fn)
      else c.write s rd (aluFn 64 k (c.get ra) (c.get rb))

/-- ADDI (R121). -/
def execAddi (core : Fin 8) (rd ra : Fin 32) (imm : BitVec 16) (ecc : Ecc) (s : State) : Answer :=
  s.runOn core ecc fun c => c.write s rd (c.get ra + sext64 imm)

/-- ANDI (R121). -/
def execAndi (core : Fin 8) (rd ra : Fin 32) (imm : BitVec 16) (ecc : Ecc) (s : State) : Answer :=
  s.runOn core ecc fun c => c.write s rd (c.get ra &&& imm.toNat)

/-- ORI (R121). -/
def execOri (core : Fin 8) (rd ra : Fin 32) (imm : BitVec 16) (ecc : Ecc) (s : State) : Answer :=
  s.runOn core ecc fun c => c.write s rd (c.get ra ||| imm.toNat)

/-- XORI (R121). -/
def execXori (core : Fin 8) (rd ra : Fin 32) (imm : BitVec 16) (ecc : Ecc) (s : State) : Answer :=
  s.runOn core ecc fun c => c.write s rd (c.get ra ^^^ imm.toNat)

/-- SLTI (R121). -/
def execSlti (core : Fin 8) (rd ra : Fin 32) (imm : BitVec 16) (ecc : Ecc) (s : State) : Answer :=
  s.runOn core ecc fun c => c.write s rd (if signedOf (c.get ra) 64 < signedOf (sext64 imm) 64 then 1 else 0)

/-- SLTIU (R121). -/
def execSltiu (core : Fin 8) (rd ra : Fin 32) (imm : BitVec 16) (ecc : Ecc) (s : State) : Answer :=
  s.runOn core ecc fun c => c.write s rd (if c.get ra < sext64 imm then 1 else 0)

/-- SHI (R121: IMM16[7:6] selects the function, IMM16[5:0] is the amount, IMM16[15:8] must be 0). -/
def execShi (core : Fin 8) (rd ra : Fin 32) (imm : BitVec 16) (ecc : Ecc) (s : State) : Answer :=
  s.runOn core ecc fun c =>
    let n := imm.toNat
    let a := c.get ra
    let k := bitsOf n 0 6
    if bitsOf n 8 8 ≠ 0 then .exc s c.pc ecIllegal (wordB 0x07 rd ra imm)
    else c.write s rd (match bitsOf n 6 2 with
      | 0 => aluFn 64 .sll a k
      | 1 => aluFn 64 .srl a k
      | 2 => aluFn 64 .sra a k
      | _ => rotRight 64 a k)

/-- ORHI (R121). -/
def execOrhi (core : Fin 8) (rd ra : Fin 32) (imm : BitVec 16) (ecc : Ecc) (s : State) : Answer :=
  s.runOn core ecc fun c => c.write s rd (c.get ra * 65536 % two64 ||| imm.toNat)

/-- ADDPC (R121). -/
def execAddpc (core : Fin 8) (rd : Fin 32) (imm : BitVec 16) (ecc : Ecc) (s : State) : Answer :=
  s.runOn core ecc fun c => c.write s rd (c.pc + sext64 imm * 4)

/-- LB (R121, R124 to R126). -/
def execLb (core : Fin 8) (rd ra : Fin 32) (imm : BitVec 16) (answers : List SnoopAnswer) (ecc : Ecc) (s : State) : Answer :=
  s.runOn core ecc fun c => s.loadOp core c 1 true rd ra imm answers

/-- LH (R121, R124 to R126). -/
def execLh (core : Fin 8) (rd ra : Fin 32) (imm : BitVec 16) (answers : List SnoopAnswer) (ecc : Ecc) (s : State) : Answer :=
  s.runOn core ecc fun c => s.loadOp core c 2 true rd ra imm answers

/-- LW (R121, R124 to R126). -/
def execLw (core : Fin 8) (rd ra : Fin 32) (imm : BitVec 16) (answers : List SnoopAnswer) (ecc : Ecc) (s : State) : Answer :=
  s.runOn core ecc fun c => s.loadOp core c 4 true rd ra imm answers

/-- LD (R121, R124 to R126). -/
def execLd (core : Fin 8) (rd ra : Fin 32) (imm : BitVec 16) (answers : List SnoopAnswer) (ecc : Ecc) (s : State) : Answer :=
  s.runOn core ecc fun c => s.loadOp core c 8 true rd ra imm answers

/-- LBU (R121, R124 to R126). -/
def execLbu (core : Fin 8) (rd ra : Fin 32) (imm : BitVec 16) (answers : List SnoopAnswer) (ecc : Ecc) (s : State) : Answer :=
  s.runOn core ecc fun c => s.loadOp core c 1 false rd ra imm answers

/-- LHU (R121, R124 to R126). -/
def execLhu (core : Fin 8) (rd ra : Fin 32) (imm : BitVec 16) (answers : List SnoopAnswer) (ecc : Ecc) (s : State) : Answer :=
  s.runOn core ecc fun c => s.loadOp core c 2 false rd ra imm answers

/-- LWU (R121, R124 to R126). -/
def execLwu (core : Fin 8) (rd ra : Fin 32) (imm : BitVec 16) (answers : List SnoopAnswer) (ecc : Ecc) (s : State) : Answer :=
  s.runOn core ecc fun c => s.loadOp core c 4 false rd ra imm answers

/-- BEQ (R121, R124: ra compared with rb). -/
def execBeq (core : Fin 8) (rb ra : Fin 32) (imm : BitVec 16) (ecc : Ecc) (s : State) : Answer :=
  s.runOn core ecc fun c => s.branchOp core c (c.get ra == c.get rb) imm

/-- BNE (R121, R124: ra compared with rb). -/
def execBne (core : Fin 8) (rb ra : Fin 32) (imm : BitVec 16) (ecc : Ecc) (s : State) : Answer :=
  s.runOn core ecc fun c => s.branchOp core c (c.get ra != c.get rb) imm

/-- BLT (R121, R124: ra compared with rb). -/
def execBlt (core : Fin 8) (rb ra : Fin 32) (imm : BitVec 16) (ecc : Ecc) (s : State) : Answer :=
  s.runOn core ecc fun c => s.branchOp core c (signedOf (c.get ra) 64 < signedOf (c.get rb) 64) imm

/-- BGE (R121, R124: ra compared with rb). -/
def execBge (core : Fin 8) (rb ra : Fin 32) (imm : BitVec 16) (ecc : Ecc) (s : State) : Answer :=
  s.runOn core ecc fun c => s.branchOp core c (signedOf (c.get rb) 64 ≤ signedOf (c.get ra) 64) imm

/-- BLTU (R121, R124: ra compared with rb). -/
def execBltu (core : Fin 8) (rb ra : Fin 32) (imm : BitVec 16) (ecc : Ecc) (s : State) : Answer :=
  s.runOn core ecc fun c => s.branchOp core c (c.get ra < c.get rb) imm

/-- BGEU (R121, R124: ra compared with rb). -/
def execBgeu (core : Fin 8) (rb ra : Fin 32) (imm : BitVec 16) (ecc : Ecc) (s : State) : Answer :=
  s.runOn core ecc fun c => s.branchOp core c (c.get rb ≤ c.get ra) imm

/-- JAL (R121, R124). -/
def execJal (core : Fin 8) (rd : Fin 32) (imm : BitVec 21) (ecc : Ecc) (s : State) : Answer :=
  s.runOn core ecc fun c => (c.set rd (c.pc + 4)).jump s core ((c.pc + sext64 imm * 4) % two64)

/-- JALR (R121, R124: bits [1:0] of the target are cleared). -/
def execJalr (core : Fin 8) (rd ra : Fin 32) (imm : BitVec 16) (ecc : Ecc) (s : State) : Answer :=
  s.runOn core ecc fun c => (c.set rd (c.pc + 4)).jump s core ((c.get ra + sext64 imm) % two64 / 4 * 4)

/-- FENCE_RW (R126, R130: accesses of a core are performed in order here; it waits until the partner holds every earlier write). -/
def execFenceRw (core : Fin 8) (ecc : Ecc) (s : State) : Answer :=
  s.runOn core ecc fun c =>
    if c.stores.any (fun m => s.pair.mirror.any (fun w => w.id == m)) then .stall
    else .retire s { c with stores := [] } ((c.pc + 4) % two64)

/-- FENCE_W (R130: stores of a core are performed in order here). -/
def execFenceW (core : Fin 8) (ecc : Ecc) (s : State) : Answer :=
  s.runOn core ecc fun c => .retire s c ((c.pc + 4) % two64)

/-- FENCE_IO (R130: register accesses and MSENDs of a core are performed in order here). -/
def execFenceIo (core : Fin 8) (ecc : Ecc) (s : State) : Answer :=
  s.runOn core ecc fun c => .retire s c ((c.pc + 4) % two64)

/-- FENCE_I (R127, R130: the block fetches no instruction of its own, so no stale one). -/
def execFenceI (core : Fin 8) (ecc : Ecc) (s : State) : Answer :=
  s.runOn core ecc fun c => .retire s c ((c.pc + 4) % two64)

/-- CSRRW (R132). -/
def execCsrrw (core : Fin 8) (rd ra : Fin 32) (imm : BitVec 16) (ecc : Ecc) (s : State) : Answer :=
  s.runOn core ecc fun c => s.csrOp core c 0x38 rd ra imm true (fun _ v => v)

/-- CSRRS (R132: RA = 0 does not write). -/
def execCsrrs (core : Fin 8) (rd ra : Fin 32) (imm : BitVec 16) (ecc : Ecc) (s : State) : Answer :=
  s.runOn core ecc fun c => s.csrOp core c 0x39 rd ra imm (ra != 0) (fun old v => old ||| v)

/-- CSRRC (R132: RA = 0 does not write). -/
def execCsrrc (core : Fin 8) (rd ra : Fin 32) (imm : BitVec 16) (ecc : Ecc) (s : State) : Answer :=
  s.runOn core ecc fun c => s.csrOp core c 0x3A rd ra imm (ra != 0) (fun old v => old &&& (two64 - 1 - v))

/-- MSEND (R139, R140). -/
def execMsend (core : Fin 8) (rd ra rb : Fin 32) (ecc : Ecc) (s : State) : Answer :=
  s.runOn core ecc fun c =>
    let a := c.get ra
    let dst := c.get rb % 65536
    if a % 64 ≠ 0 then .exc s c.pc ecMisaligned a
    else match coreMap core a with
      | .sram o =>
        if 4 ≤ core.val ∧ !stewardMay (core.val - 4) dst then c.write s rd 2
        else if hierUnits dst = [] then c.write s rd 3
        else if 16 ≤ c.sendq.length then c.write s rd 1
        else
          let b := tblBytes (if core.val < 4 then s.wsram else c.sram) o 64
          ({ c with sendq := c.sendq ++ [(dst, b)] } : WCore).write s rd 0
      | .regs _ | .rom _ | .pool _ | .hole => .exc s c.pc ecLoad a

/-- MRECV (R139). -/
def execMrecv (core : Fin 8) (rd ra : Fin 32) (ecc : Ecc) (s : State) : Answer :=
  s.runOn core ecc fun c =>
    let a := c.get ra
    if a % 64 ≠ 0 then .exc s c.pc ecMisaligned a
    else match coreMap core a with
      | .sram o =>
        match c.recvq with
        | [] => c.write s rd 0
        | m :: t =>
          if core.val < 4 then ({ c with recvq := t } : WCore).write { s with wsram := tblStore s.wsram o m } rd 1
          else ({ c with recvq := t, sram := tblStore c.sram o m } : WCore).write s rd 1
      | .regs _ | .rom _ | .pool _ | .hole => .exc s c.pc ecStore a

/-- MWAIT (R139: it stalls until a message is received or an enabled interrupt is pending). -/
def execMwait (core : Fin 8) (ecc : Ecc) (s : State) : Answer :=
  s.runOn core ecc fun c =>
    .retire s (if c.recvq ≠ [] ∨ c.pendingCode.isSome then c else { c with st := .mwait }) ((c.pc + 4) % two64)

/-- MCOUNT (R139). -/
def execMcount (core : Fin 8) (rd : Fin 32) (ecc : Ecc) (s : State) : Answer :=
  s.runOn core ecc fun c => c.write s rd c.recvq.length

/-- ECALL (R121, R135). -/
def execEcall (core : Fin 8) (ecc : Ecc) (s : State) : Answer :=
  s.runOn core ecc fun c => .exc s c.pc ecEcall 0

/-- BREAK (R121, R135). -/
def execBreakOp (core : Fin 8) (ecc : Ecc) (s : State) : Answer :=
  s.runOn core ecc fun c => .exc s c.pc ecBreak 0

/-- ERET (R124, R134). -/
def execEret (core : Fin 8) (ecc : Ecc) (s : State) : Answer :=
  s.runOn core ecc fun c =>
    .retire s { c with status := c.estatus % 4 } c.epc

/-- WFI (R136: it stalls until an interrupt is pending). -/
def execWfi (core : Fin 8) (ecc : Ecc) (s : State) : Answer :=
  s.runOn core ecc fun c => .retire s (if c.ip ≠ 0 then c else { c with st := .wfi }) ((c.pc + 4) % two64)

/-! ### Illegal words (R120) -/

/-- Whether R120 leaves a word legal. -/
def legalWord (w : Nat) : Bool :=
  let op := bitsOf w 26 6
  let rd := bitsOf w 21 5
  let ra := bitsOf w 16 5
  let rb := bitsOf w 11 5
  let fn := bitsOf w 0 11
  if op = 0x00 then
    match aluOf fn with
    | none => false
    | some k => !(k == .popc || k == .clz || k == .ctz) || rb == 0
  else if op = 0x07 then bitsOf w 8 8 == 0
  else if op = 0x09 then ra == 0
  else if op < 0x09 ∨ 0x10 ≤ op ∧ op ≤ 0x16 ∨ 0x18 ≤ op ∧ op ≤ 0x1B ∨ 0x20 ≤ op ∧ op ≤ 0x25 ∨ op = 0x28 ∨ op = 0x29 then true
  else if op = 0x30 then atomFnOk fn
  else if op = 0x34 then rd == 0 && ra == 0 && rb == 0 && 1 ≤ fn && fn ≤ 4
  else if op = 0x38 ∨ op = 0x39 ∨ op = 0x3A then bitsOf w 12 4 == 0
  else if op = 0x3C then
    fn == 1 || (fn == 2 && rb == 0) || (fn == 3 && rd == 0 && ra == 0 && rb == 0) || (fn == 4 && ra == 0 && rb == 0)
  else if op = 0x3E then rd == 0 && ra == 0 && rb == 0 && 1 ≤ fn && fn ≤ 4
  else false

/-- ILLEGAL_INSTR (R120, R135): EVAL is the word; a legal word is a row of its own. -/
def execIllegalInstr (core : Fin 8) (word : BitVec 32) (ecc : Ecc) (s : State) : Answer :=
  if legalWord word.toNat then .next s
  else s.runOn core ecc fun c => .exc s c.pc ecIllegal word.toNat

/-! ### Interrupts and waits -/

/-- CORE_WAKE (R136, R139). -/
def execCoreWake (core : Fin 8) (s : State) : Answer :=
  let c := s.core core
  if (c.st = .wfi ∧ c.ip ≠ 0) ∨ (c.st = .mwait ∧ (c.recvq ≠ [] ∨ c.pendingCode.isSome)) then .next (s.setCore core { c with st := .running })
  else .next s

/-- TIMER_INTERRUPT (R133): CYCLE reaches TCMP. -/
def execTimerInterrupt (core : Fin 8) (s : State) : Answer :=
  let c := s.core core
  if c.cycle < c.tcmp then .next (s.setCore core { c with cycle := c.tcmp }) else .next s

/-- INTERRUPT_ENTRY (R134, R135): the lowest enabled pending code, while STATUS.IE is 1. EVAL is not stated for an interrupt: a free value. Taking an
interrupt of another unit ends its event. -/
def execInterruptEntry (core : Fin 8) (s : State) : Answer :=
  let c := s.core core
  match c.pendingCode with
  | none => .next s
  | some k =>
    if c.st ≠ .running ∨ !c.ieOn then .next s
    else
      let c := c.enter c.pc (2 ^ 63 + k) (Config.freeNat s.fresh % two64)
      let c := if 3 ≤ k ∧ bitOf c.irq k then { c with irq := c.irq - 2 ^ k } else c
      .next (s.tick.setCore core c)

/-! ### Message delivery (R141) -/

/-- The messages a core has queued, or those of units on their way: (source, destination, bytes). -/
def State.msgsFrom (s : State) (src : Option (Fin 8)) : List (Nat × Nat × List Byte) :=
  match src with
  | some i => (s.core i).sendq.map (fun m => (coreAddr i, m.1, m.2))
  | none => s.msgs.map (fun m => (m.src, m.dst, m.body))

/-- Drop message number `n` of a source. -/
def State.dropMsg (s : State) (src : Option (Fin 8)) (n : Nat) : State :=
  match src with
  | some i =>
    let c := s.core i
    s.setCore i { c with sendq := c.sendq.eraseIdx n }
  | none => { s with msgs := s.msgs.eraseIdx n }

/-- A notice on its way back to the sender of a message. -/
def State.notice (s : State) (src dst : Nat) (b : List Byte) : State := s.tick.postMsg dst src (undeliverable b s.fresh)

/-- The agents a message to an address is for: those of a multicast, or the one. -/
def receivers (dst : Nat) : List Nat := if dst / 4096 < 8 then [dst] else hierUnits dst

/-- MESSAGE_DELIVERY (R138, R141): a message reaches its receiver, in order from one sender to one receiver, multicasts with the rest. A full receive queue, or a unit in an L3
reset, leaves it where it is; a multicast reaches each agent, and one that cannot take it gives its own notice. -/
def execMessageDelivery (src : Option (Fin 8)) (index : Nat) (s : State) : Answer :=
  let l := s.msgsFrom src
  match l[index]? with
  | none => .next s
  | some m =>
    if (l.take index).any (fun x => x.1 == m.1 && (receivers x.2.1).any (receivers m.2.1).contains) then .next s
    else if m.2.1 / 4096 < 8 then
      match (s.dropMsg src index).deliverMsg m.1 m.2.1 m.2.2 with
      | none => .next s
      | some t => .next t
    else
      .next ((hierUnits m.2.1).foldl (fun s u =>
        match s.deliverMsg m.1 u m.2.2 with
        | some t => t
        | none => s.notice m.1 u m.2.2) (s.dropMsg src index))

/-- UNDELIVERABLE (R141): 1 ms has passed; the message returns to its sender as TYPE 0xF3. -/
def execUndeliverable (src : Option (Fin 8)) (index : Nat) (s : State) : Answer :=
  match (s.msgsFrom src)[index]? with
  | none => .next s
  | some m => .next ((s.dropMsg src index).notice m.1 m.2.1 m.2.2)

/-! ### Release and restart (R142, R557) -/

/-- Release a core that is held. -/
def State.releaseCore (s : State) (i : Nat) : State :=
  let c := s.core i
  if c.st = .held then s.setCore i { c with st := .running } else s

/-- WELL_CORE_RELEASE (R142, R557). -/
def execWellCoreRelease (core : Fin 4) (s : State) : Answer :=
  .next ((s.put R.WELL_CORECTL F.WELL_CORECTL_RELEASE (s.get R.WELL_CORECTL F.WELL_CORECTL_RELEASE ||| 2 ^ core.val)).releaseCore core)

/-- STEWARD_RELEASE (R142, R557). -/
def execStewardRelease (steward : Fin 4) (s : State) : Answer :=
  .next ((s.put R.WELL_CORECTL F.WELL_CORECTL_STEWARD_RELEASE (s.get R.WELL_CORECTL F.WELL_CORECTL_STEWARD_RELEASE ||| 2 ^ steward.val)).releaseCore
    (4 + steward.val))

/-- Restart a Steward (R21, R142): its core starts again as after a reset, its SRAM holding its verified program image. -/
def State.restartSteward (s : State) (q : Nat) : State :=
  s.setCore (4 + q) { coreReset (4 + q) with st := .running, sram := tblStore [] 0 (Config.stewardImage s.mgmt.fwCode q) }

/-- STEWARD_RESTART (R21, R557). -/
def execStewardRestart (steward : Fin 4) (s : State) : Answer := .next (s.restartSteward steward)

end Sys2Proof.Machine
end

