-- ==== Sys2Proof/Decode.lean ====
section
/-!
DEFINITION. Commands spelled as words. The table gives its rows no bits: a command reaches the block as a packet, a register access or an event,
each with its own operands, so no word of the table's numbering spells one. A control core's instruction has a word of its own, and the four formats of R119
take it to its command by OP.
-/
namespace Sys2Proof

/-- The command a word spells: none, since no row of the table has bits. -/
def decodeTableWord (_nbits _w : Nat) : Option Instr := none

open Machine

/-! ### Chotaum-W words (R119 to R121, R130, R132, R139) -/

/-- Bits [25:21]: RD, or in format C RB. -/
def wordRd (w : BitVec 32) : Fin 32 := Fin.ofNat 32 (bitsOf w.toNat 21 5)
def wordRa (w : BitVec 32) : Fin 32 := Fin.ofNat 32 (bitsOf w.toNat 16 5)
/-- Bits [15:11], RB of format A. -/
def wordRb (w : BitVec 32) : Fin 32 := Fin.ofNat 32 (bitsOf w.toNat 11 5)
def wordFn (w : BitVec 32) : BitVec 11 := BitVec.ofNat 11 (bitsOf w.toNat 0 11)
def wordImm16 (w : BitVec 32) : BitVec 16 := BitVec.ofNat 16 (bitsOf w.toNat 0 16)
def wordImm21 (w : BitVec 32) : BitVec 21 := BitVec.ofNat 21 (bitsOf w.toNat 0 21)

/-- The command of a word of format A whose FN selects within its OP: FENCE, MSG and SYS. -/
def decodeFn (core : Fin 8) (ecc : Ecc) (w : BitVec 32) : Instr :=
  match bitsOf w.toNat 26 6, bitsOf w.toNat 0 11 with
  | 0x34, 1 => .fenceRw core ecc
  | 0x34, 2 => .fenceW core ecc
  | 0x34, 3 => .fenceIo core ecc
  | 0x34, _ => .fenceI core ecc
  | 0x3C, 1 => .msend core (wordRd w) (wordRa w) (wordRb w) ecc
  | 0x3C, 2 => .mrecv core (wordRd w) (wordRa w) ecc
  | 0x3C, 3 => .mwait core ecc
  | 0x3C, _ => .mcount core (wordRd w) ecc
  | _, 1 => .ecall core ecc
  | _, 2 => .breakOp core ecc
  | _, 3 => .eret core ecc
  | _, _ => .wfi core ecc

/-- The command a Chotaum-W word is, on a core, with the answers its snoops get: none for a word that R120 makes illegal, which the row ILLEGAL_INSTR takes
as it is. -/
def decodeChotaum (core : Fin 8) (ans : List SnoopAnswer) (ecc : Ecc) (w : BitVec 32) : Option Instr :=
  let rd := wordRd w
  let ra := wordRa w
  let rb := wordRb w
  let imm := wordImm16 w
  if !legalWord w.toNat then none
  else some (match bitsOf w.toNat 26 6 with
    | 0x00 => .alu core rd ra rb (wordFn w) ecc
    | 0x01 => .addi core rd ra imm ecc
    | 0x02 => .andi core rd ra imm ecc
    | 0x03 => .ori core rd ra imm ecc
    | 0x04 => .xori core rd ra imm ecc
    | 0x05 => .slti core rd ra imm ecc
    | 0x06 => .sltiu core rd ra imm ecc
    | 0x07 => .shi core rd ra imm ecc
    | 0x08 => .orhi core rd ra imm ecc
    | 0x09 => .addpc core rd imm ecc
    | 0x10 => .lb core rd ra imm ans ecc
    | 0x11 => .lh core rd ra imm ans ecc
    | 0x12 => .lw core rd ra imm ans ecc
    | 0x13 => .ld core rd ra imm ans ecc
    | 0x14 => .lbu core rd ra imm ans ecc
    | 0x15 => .lhu core rd ra imm ans ecc
    | 0x16 => .lwu core rd ra imm ans ecc
    | 0x18 => .sb core rd ra imm ans ecc
    | 0x19 => .sh core rd ra imm ans ecc
    | 0x1A => .sw core rd ra imm ans ecc
    | 0x1B => .sd core rd ra imm ans ecc
    | 0x20 => .beq core rd ra imm ecc
    | 0x21 => .bne core rd ra imm ecc
    | 0x22 => .blt core rd ra imm ecc
    | 0x23 => .bge core rd ra imm ecc
    | 0x24 => .bltu core rd ra imm ecc
    | 0x25 => .bgeu core rd ra imm ecc
    | 0x28 => .jal core rd (wordImm21 w) ecc
    | 0x29 => .jalr core rd ra imm ecc
    | 0x30 => .atom core rd ra rb (wordFn w) ans ecc
    | 0x38 => .csrrw core rd ra imm ecc
    | 0x39 => .csrrs core rd ra imm ecc
    | 0x3A => .csrrc core rd ra imm ecc
    | _ => decodeFn core ecc w)

end Sys2Proof
end

