-- ==== Sys2Proof/Machine/Fabric.lean ====
section
/-!
DEFINITION. Fabric packets that name memory: coherent requests, writebacks, snoop answers, acknowledgements (R342 to R350), bulk transfers (R319),
mirror writes (R434 to R437), and the scheduler's choice of what to serve (R382).
-/
namespace Sys2Proof.Machine

/-- Why a Request or Bulk packet is turned away before it is looked at, with its hint: PHASE is below SERVICE (R588), or an L2 reset runs (R498). -/
def State.turnAway (s : State) : Option Nat :=
  if s.get R.GLOB_STATUS F.GLOB_STATUS_PHASE < 4 then some 1000
  else if s.rst.l2 ≠ 0 then some (s.get R.QOS_CFG F.QOS_CFG_RETRY_MIN_US)
  else none

/-- A Request or Bulk packet reaches a port: it leaves the receive buffer; a duplicate is not performed again (R293); every other one is recorded, and then a
dead endpoint's is DENIED (R362) and a Bulk packet's counted (R338), a malformed one UNSUPPORTED (R309), one that comes too early RETRY_AFTER (R588), one after a fatal error ERROR (R555).
True when it goes on. -/
def State.arrives (s : State) (port : Nat) (w0 w1 : Nat) (payload : List Byte) (dt : Nat) (formed : Bool) : State × Bool :=
  let s := (s.takeDelivered port (pkBytes w0 w1 payload)).portTime port dt
  let ep := pkEp w0
  let txn := pkTxn w0
  if !(pkClass w0 == 4 || pkClass w0 == 5) then (s.malformed w0, false)
  else if s.isDuplicate w0 then (s, false)
  else
    let s := s.record ep txn
    if s.isDead ep then
      ((if pkClass w0 = 5 then s.bump R.SHAL_CNT_PRIV_DENIED else s).sendPkt (cmpTo ep txn stDenied), false)
    else if !formed then (s.malformed w0, false)
    else match s.turnAway with
      | some h => (s.retryAfter ep txn h, false)
      | none =>
        if s.flag R.GLOB_STATUS F.GLOB_STATUS_FATAL then (s.sendPkt (cmpTo ep txn stError), false)
        else (s, true)

/-- A packet that is neither a Request nor a Bulk packet: a dead endpoint's or a malformed one is discarded (R309, R362). -/
def State.arrivesQuiet (s : State) (port : Nat) (w0 w1 : Nat) (payload : List Byte) (formed : Bool) : State × Bool :=
  let s := s.takeDelivered port (pkBytes w0 w1 payload)
  if s.isDead (pkEp w0) then (s, false) else if formed then (s, true) else (s.malformed w0, false)

/-- Nothing waits in either scheduler of a port. -/
def State.portIdle (s : State) (port : Nat) : Bool := (s.adm port).req.queues == [] && (s.adm port).bulk.queues == []

/-- Offer an item to a scheduler: refused, queued, or, at an idle port whose translator can inject, served at once (R380, R382, R386). -/
def State.offer (s : State) (port t cls n credits : Nat) (bulk hold : Bool) (ep txn : Nat) (act : Ingress) : State × Option Ingress :=
  match s.colour port t cls n bulk with
  | (s, .refused h) => (s.retryAfter ep txn h, none)
  | (s, .queued) =>
    let idle := s.portIdle port
    let s := s.putItem port t cls n credits bulk act
    if idle && !hold then s.takeItem port bulk else (s, none)

/-- A coherent request goes to its home; RD_SHARED, RD_OWN and CLAIM join the sharer set first (R351). -/
def State.runHome (s : State) (r : HomeReq) : State :=
  (if r.op.grants then s.joinSharers r.basin r.ep else s).serveHome r

/-- The answer to a fault (R259, R260). -/
def faultStatus (queued : Bool) : Nat := if queued then stFault else stFaultQueueFull

/-- Whether an operation needs write permission (R257): those that gain a line to write it, and those that write. Log entry 39. -/
def HomeOp.writes : HomeOp → Bool
  | .rdOwn | .claim | .wrFull | .writeback => true
  | _ => false

/-- A request as the home takes it, once translation has found its line. -/
def homeReq (op : HomeOp) (port w0 w1 : Nat) (f : Found) (payload : List Byte) : HomeReq :=
  { op := op, pa := f.pa / 64 * 64, ep := pkEp w0, txn := pkTxn w0, port := port, tenant := f.tenant, basin := f.basin,
    asid := adAsid w1, va := adVa w1, poison := pkPoison w0, data := payload }

/-- The Wellhead is moving the basin (R449) or the unit (R422) that an access names. -/
def State.onTheMove (s : State) (f : Found) : Bool :=
  (s.basin f.basin).elim false (·.moving) || s.ras.movingUnit == some (memberOf s.unitBytes f.pa)

/-- A coherent Request packet from its port to its home (R257, R309, R348, R378, R386): `dt` is the port time since its last packet, `hold` that
the port's translator cannot inject now. -/
def State.coherent (s : State) (op : HomeOp) (code : Nat) (lengths : List Nat) (port : Nat) (w0 w1 : Nat) (payload : List Byte) (dt : Nat)
    (hold : Bool) : State :=
  match s.arrives port w0 w1 payload dt (pkFormed w0 4 code (adReserved w1) payload lengths) with
  | (s, false) => s
  | (s, true) =>
    match s.access { endpoint := pkEp w0, srcKind := 0, srcIndex := port } (adAsid w1) (adVa w1) 64 op.writes with
    | (s, .error q) => s.sendPkt (cmpTo (pkEp w0) (pkTxn w0) (faultStatus q))
    | (s, .ok f) =>
      if s.onTheMove f then s.retryAfter (pkEp w0) (pkTxn w0) 1000
      else if !s.slotFull f.tenant && op != .wrFull then s.sendPkt (cmpFor f.tenant (pkEp w0) (pkTxn w0) stError)
      else
        let r := homeReq op port w0 w1 f payload
        match s.offer port f.tenant (s.epClass (pkEp w0)) 1 (creditsOf (16 + payload.length)) false hold (pkEp w0) (pkTxn w0) (.home r) with
        | (s, some (.home r)) => s.runHome r
        | (s, _) => s

/-- RD_SHARED (R348): a copy to read. -/
def execRdShared (port : Fin 8) (w0 w1 : Word) (payload : List Byte) (dt : Nat) (hold : Bool) (s : State) : Answer :=
  .next (s.coherent .rdShared 1 [0] port w0.toNat w1.toNat payload dt hold)

/-- RD_OWN (R348): the only copy. -/
def execRdOwn (port : Fin 8) (w0 w1 : Word) (payload : List Byte) (dt : Nat) (hold : Bool) (s : State) : Answer :=
  .next (s.coherent .rdOwn 2 [0] port w0.toNat w1.toNat payload dt hold)

/-- RD_ONCE (R348): a read that keeps no copy. -/
def execRdOnce (port : Fin 8) (w0 w1 : Word) (payload : List Byte) (dt : Nat) (hold : Bool) (s : State) : Answer :=
  .next (s.coherent .rdOnce 3 [0] port w0.toNat w1.toNat payload dt hold)

/-- CLAIM (R348, R361): an upgrade from S to E. -/
def execClaim (port : Fin 8) (w0 w1 : Word) (payload : List Byte) (dt : Nat) (hold : Bool) (s : State) : Answer :=
  .next (s.coherent .claim 4 [0] port w0.toNat w1.toNat payload dt hold)

/-- WR_FULL (R348): a full-line write, answered once it is performed (R436). -/
def execWrFull (port : Fin 8) (w0 w1 : Word) (payload : List Byte) (dt : Nat) (hold : Bool) (s : State) : Answer :=
  .next (s.coherent .wrFull 5 [64] port w0.toNat w1.toNat payload dt hold)

/-- WRITEBACK (R342, R348, R361): class 1, so never coloured or queued (R376). One under an alias that is gone faults, its data discarded (R345). -/
def execWriteback (port : Fin 8) (w0 w1 : Word) (payload : List Byte) (s : State) : Answer :=
  let w0 := w0.toNat
  let w1 := w1.toNat
  match s.arrivesQuiet port w0 w1 payload (pkFormed w0 1 3 (adReserved w1) payload [64]) with
  | (s, false) => .next s
  | (s, true) =>
    match s.access { endpoint := pkEp w0, srcKind := 0, srcIndex := port } (adAsid w1) (adVa w1) 64 true with
    | (s, .error q) => .next (s.sendPkt (cmpTo (pkEp w0) (pkTxn w0) (faultStatus q)))
    | (s, .ok f) => .next (s.runHome (homeReq .writeback port w0 w1 f payload))

/-- The line that an answer's address form names, for the log of protocol errors (R373). -/
def State.namedLine (s : State) (ep w1 : Nat) : Nat :=
  match s.translate ep (adAsid w1) (adVa w1) false with
  | .ok f => f.pa / 64 * 64
  | .error _ => 0

/-- The open transaction with an unfinished snoop of this number to this client. -/
def State.snoopTxn (s : State) (ep txn : Nat) : Option DirTxn :=
  s.home.txns.find? (fun t => !t.closing && t.snoops.any (fun r => r.txn == txn && r.ep == ep))

/-- Change one snoop record. -/
def DirTxn.setRec (t : DirTxn) (ep txn : Nat) (f : SnoopRec → SnoopRec) : DirTxn :=
  { t with snoops := t.snoops.map (fun r => if r.txn = txn ∧ r.ep = ep then f r else r) }

def DirTxn.rec? (t : DirTxn) (ep txn : Nat) : Option SnoopRec := t.snoops.find? (fun r => r.txn == txn && r.ep == ep)

/-- A writeback of the line that already waits at the home becomes the held snoop's data (R361). -/
def State.takeWaitingWb (s : State) (t : DirTxn) (ep : Nat) : State × DirTxn :=
  match s.home.waiting.find? (fun r => r.op == .writeback && r.pa == t.req.pa && r.ep == ep) with
  | none => (s, t)
  | some r =>
    ({ s with home := { s.home with waiting := s.home.waiting.erase r } }, { t with wbs := t.wbs ++ [(r.ep, r.txn, r.poison, r.data)] })

/-- SNP_RSP (R346, R361): a client's answer; an answer with no snoop is a protocol error (R373). -/
def execSnpRsp (port : Fin 8) (w0 w1 : Word) (s : State) : Answer :=
  let w0 := w0.toNat
  let w1 := w1.toNat
  let ep := pkEp w0
  match s.arrivesQuiet port w0 w1 [] (pkFormed w0 2 1 (adReserved w1) [] [0] && pkStatus w0 ≤ 4) with
  | (s, false) => .next s
  | (s, true) =>
    match s.snoopTxn ep (pkTxn w0) with
    | none => .next (s.dirProto 2 (s.namedLine ep w1) ep)
    | some t =>
      match t.rec? ep (pkTxn w0) with
      | none => .next (s.dirProto 2 (s.namedLine ep w1) ep)
      | some r =>
        if r.answer.isSome then .next (s.dirProto 2 t.req.pa ep)
        else
          let st := pkStatus w0
          let s := if st = 4 then s.bump R.DIR_CNT_WB_INFLIGHT else s
          let s := if r.data.isSome && !(st == 2 || st == 3) then s.dirProto 3 t.req.pa ep else s
          let x := if st = 4 then s.takeWaitingWb t ep else (s, t)
          .next (((x.1.putTxn (x.2.setRec ep (pkTxn w0) (fun r => { r with answer := some st }))).checkTxn t.req.pa).pumpAll)

/-- FWD_DATA (R346): data for a snoop, before or after its answer; with no data-bearing answer it is a protocol error (R373). -/
def execFwdData (port : Fin 8) (w0 w1 : Word) (payload : List Byte) (s : State) : Answer :=
  let w0 := w0.toNat
  let w1 := w1.toNat
  let ep := pkEp w0
  match s.arrivesQuiet port w0 w1 payload (pkFormed w0 1 2 (adReserved w1) payload [64]) with
  | (s, false) => .next s
  | (s, true) =>
    match s.snoopTxn ep (pkTxn w0) with
    | none => .next (s.dirProto 3 (s.namedLine ep w1) ep)
    | some t =>
      match t.rec? ep (pkTxn w0) with
      | none => .next (s.dirProto 3 (s.namedLine ep w1) ep)
      | some r =>
        if r.data.isSome || (r.answer.isSome && r.answer != some 2 && r.answer != some 3) then .next (s.dirProto 3 t.req.pa ep)
        else
          let t' := t.setRec ep (pkTxn w0) (fun r => { r with data := some (pkPoison w0, payload) })
          .next (((s.putTxn t').checkTxn t.req.pa).pumpAll)

/-- End a transaction that waits for nothing more, and let the line's next request begin (R350). -/
def State.endTxn (s : State) (pa : Nat) : State :=
  match s.busyTxn pa with
  | none => s
  | some t => if t.closing && !t.granted && t.mirrors == [] then (s.dropTxn pa).pumpAll else s

/-- COMPLETION_ACK (R342, R350): the line leaves BUSY; an acknowledgement with no grant is a protocol error (R373). -/
def execCompletionAck (port : Fin 8) (w0 w1 : Word) (s : State) : Answer :=
  let w0 := w0.toNat
  let w1 := w1.toNat
  match s.arrivesQuiet port w0 w1 [] (pkFormed w0 0 1 (inReserved w1) [] [0]) with
  | (s, false) => .next s
  | (s, true) =>
    match s.home.txns.find? (fun t => t.granted && t.req.ep == pkEp w0 && t.req.txn == pkTxn w0) with
    | none => .next (s.dirProto 1 0 (pkEp w0))
    | some t => .next ((s.putTxn { t with granted := false }).endTxn t.req.pa)

/-! ### Bulk transfers (R319, R320) -/

/-- The VALID entry a Bulk sender matches: entry 0 on the Twin link, else the entry of 2 to 63 that names its endpoint (R320). -/
def State.privEntry (s : State) (src ep : Nat) : Option Nat :=
  if src = 8 then (if s.flag (R.SHAL_PRIV_CTL 0) F.SHAL_PRIV_CTL_VALID then some 0 else none)
  else ((List.range 62).map (· + 2)).find? (fun e =>
    s.flag (R.SHAL_PRIV_CTL e) F.SHAL_PRIV_CTL_VALID && s.get (R.SHAL_PRIV_CTL e) F.SHAL_PRIV_CTL_ENDPOINT == ep)

/-- Whether an entry permits a tenant (R337). -/
def State.privPermits (s : State) (e t : Nat) : Bool :=
  s.flag (R.SHAL_PRIV_CTL e) F.SHAL_PRIV_CTL_ANY_TENANT || bitOf (s.reg (R.SHAL_PRIV_TEN e (t / 64))).toNat (t % 64)

def State.privDenied (s : State) : State := (s.bump R.SHAL_CNT_PRIV_DENIED).setErr R.SHAL_ERR F.SHAL_ERR_PRIV_DENIED

/-- Check a range of a tenant's addresses (R258): the fault, queued, or nothing. -/
def State.checkTpa (s : State) (ep port t tpa n : Nat) (write : Bool) : State × Option Bool :=
  match checkRange (fun a => s.stage2 t a) s.unitBytes tpa n with
  | none => (s, none)
  | some (k, a, st) =>
    match s.takeFault { endpoint := ep, srcKind := 0, srcIndex := port } t 0 k write st 0 a with
    | (s, q) => (s, some q)

/-- One line of a bulk transfer as its response brings it: its number, status, poison mark and data. -/
structure LineDone where
  idx : Nat
  stat : MemStat
  poison : Bool
  data : List Byte

/-- The channel a line of a tenant's addresses lies in, or none where it has no place. -/
def State.lineChannel (s : State) (t tpa : Nat) : Option Nat :=
  match s.stage2 t tpa with
  | .ok f => unitOf f.pa
  | .error _ => none

/-- The mesh transactions of a bulk transfer: for each destination channel, in the order in which the lines meet them, the numbers of its lines (R333). -/
def State.bulkParts (s : State) (t tpa n : Nat) : List (Option Nat × List Nat) :=
  let ch := (List.range n).map (fun i => (s.lineChannel t (tpa + 64 * i), i))
  let keys := ch.foldl (fun l c => if l.contains c.1 then l else l ++ [c.1]) []
  keys.map (fun k => (k, (ch.filter (fun c => c.1 == k)).map (·.2)))

/-- Perform one line: read it, or write the line `w` of it (R312, R314). -/
def State.bulkLine (s : State) (t tpa : Nat) (w : Option (Nat × List Byte)) (ans : List SnoopAnswer) (i : Nat) : State × LineDone :=
  match s.stage2 t (tpa + 64 * i), w with
  | .error _, _ => (s, { idx := i, stat := .error, poison := true, data := zeros 64 })
  | .ok f, none =>
    match s.agentRead f.pa t ans with
    | (s, x) =>
      let bad : Bool := x.stat != .ok
      (s, { idx := i, stat := x.stat, poison := bad || x.poison, data := if bad then zeros 64 else x.data })
  | .ok f, some (map, d) =>
    match s.agentWrite f.pa t (bitOf map i) ((d.drop (64 * i)).take 64) ans with
    | (s, st) => (s, { idx := i, stat := st, poison := false, data := [] })

/-- Perform a bulk transfer (R314, R333): one mesh transaction for each destination channel; the response entry announces `n` lines, and the response
follows once the lines that the transactions' responses cover number `n`. The lines in ascending order. -/
def State.bulkRun (s : State) (port t tpa n : Nat) (w : Option (Nat × List Byte)) (ans : List SnoopAnswer) : State × Option (List LineDone) :=
  let r := (s.bulkParts t tpa n).foldl (fun (acc : State × List LineDone) part =>
    let s := acc.1.send (.mesh "BULK" ([port, part.1.getD 999] ++ part.2))
    part.2.foldl (fun acc i => match acc.1.bulkLine t tpa w ans i with | (s, x) => (s, acc.2 ++ [x])) (s, acc.2)) (s, [])
  (r.1, if r.2.length = n then some ((List.range n).filterMap (fun i => r.2.find? (fun x => x.idx == i))) else none)

/-- The first status of a transfer's lines that is not OK (R314). -/
def linesStat (l : List LineDone) : MemStat := l.foldl (fun st x => worse st x.stat) .ok

/-- Answer a bulk transfer, on the port's client or over the Twin link; `w1` is word 1 there: the PA of a DATA's first line, the hint of a CMP (R308, R309). -/
def State.bulkReply (s : State) (port m : Nat) (p : PktOut) (w1 : Nat := 0) : State :=
  if port = 8 then s.sendTwin p.op p.cls (if p.op = "CMP" then [p.txn, p.status, w1] else [p.txn, p.status, p.poison, w1]) p.data
  else s.respondAfter m p

def State.runBulkRead (s : State) (ep txn port t tpa lines : Nat) (ans : List SnoopAnswer) : State :=
  let m := s.pair.nextMirror
  let pa := match s.stage2 t tpa with | .ok f => f.pa | .error _ => 0
  match s.bulkRun port t tpa lines none ans with
  | (s, none) => s
  | (s, some l) =>
    let map := l.foldl (fun k x => k + if x.poison then 2 ^ x.idx else 0) 0
    let d := l.flatMap (·.data)
    let payload := if lines = 1 then d else leBytes map 8 ++ zeros 8 ++ d
    s.bulkReply port m { op := "DATA", cls := 1, ep := ep, txn := txn, status := (linesStat l).code, args := [t], poison := map, data := payload,
                         tenant := t } pa

def State.runBulkWrite (s : State) (ep txn port t tpa map : Nat) (d : List Byte) (ans : List SnoopAnswer) : State :=
  let m := s.pair.nextMirror
  match s.bulkRun port t tpa (d.length / 64) (some (map, d)) ans with
  | (s, none) => s
  | (s, some l) => s.bulkReply port m (cmpFor t ep txn (linesStat l).code)

/-- Checks 1 to 4 of R319 for a Bulk packet; none when it was answered. -/
def State.bulkChecks (s : State) (src w0 tpa lines : Nat) (write : Bool) : State × Bool :=
  let ep := pkEp w0
  let txn := pkTxn w0
  let t := pkTenant w0
  let m := s.pair.nextMirror
  match s.privEntry src ep with
  | none => (s.privDenied.bulkReply src m (cmpTo ep txn stDenied), false)
  | some e =>
    if !s.privPermits e t then (s.privDenied.bulkReply src m (cmpTo ep txn stDenied), false)
    else if !pkPriv w0 then (s.badPacket.bulkReply src m (cmpTo ep txn stUnsupported), false)
    else match s.checkTpa ep src t tpa (64 * lines) write with
      | (s, some q) => (s.bulkReply src m (cmpTo ep txn (faultStatus q)), false)
      | (s, none) =>
        let on (i : Nat) : Bool := match s.stage2 t (tpa + 64 * i) with | .ok f => s.onTheMove f | .error _ => false
        let b : Bool := (List.range lines).any on
        if !b then (s, true)
        else if src = 8 then ((s.bump R.QOS_CNT_RETRY).bulkReply 8 m (cmpTo ep txn stRetryAfter) 1000, false)
        else (s.retryAfter ep txn 1000, false)

/-- A Bulk packet's arrival (R309, R319): on the Twin link there is no dead endpoint, no phase and no policing (R376, R588); R293 holds there too (R296). -/
def State.bulkArrives (s : State) (src w0 w1 : Nat) (payload : List Byte) (dt : Nat) (formed : Bool) : State × Bool :=
  if src = 8 then
    let s := s.takeDelivered 8 (pkBytes w0 w1 payload)
    if !(pkClass w0 == 5) then (s.malformedTwin w0, false)
    else if s.isDuplicateOf 4096 w0 then (s, false)
    else
      let s := s.record 4096 (pkTxn w0)
      if !formed then (s.malformedTwin w0, false)
      else if s.flag R.GLOB_STATUS F.GLOB_STATUS_FATAL then (s.sendTwin "CMP" 0 [pkTxn w0, stError] [], false)
      else (s, true)
  else s.arrives src w0 w1 payload dt formed

/-- BULK_RD (R309, R319, R320, R333). `src` 8 is the Twin link. `ans`: the answers of clients snooped by its reads (R358). -/
def execBulkRd (src : Fin 9) (w0 w1 : Word) (dt : Nat) (hold : Bool) (ans : List SnoopAnswer) (s : State) : Answer :=
  let w0 := w0.toNat
  let w1 := w1.toNat
  let n := tenLines w1
  match s.bulkArrives src w0 w1 [] dt (pkFormed w0 5 1 (tenReserved w1) [] [0]) with
  | (s, false) => .next s
  | (s, true) =>
    match s.bulkChecks src w0 (tenTpa w1) n false with
    | (s, false) => .next s
    | (s, true) =>
      let act := Ingress.bulkRead (pkEp w0) (pkTxn w0) src (pkTenant w0) (tenTpa w1) n
      if src.val = 8 then .next (s.runBulkRead (pkEp w0) (pkTxn w0) src (pkTenant w0) (tenTpa w1) n ans)
      else match s.offer src (pkTenant w0) 0 1 1 true hold (pkEp w0) (pkTxn w0) act with
        | (s, some (.bulkRead ep txn p t a k)) => .next (s.runBulkRead ep txn p t a k ans)
        | (s, _) => .next s

/-- Payload lengths of a BULK_WR (R309). -/
def bulkLengths : List Nat := (List.range 64).map (fun n => 16 + 64 * (n + 1))

/-- The lines of a BULK_WR that carry the poison mark: POISON_MAP, and POISON where the payload is a single line (R307, R310). -/
def bulkPoison (w0 n : Nat) (payload : List Byte) : Nat :=
  let map := leNat (payload.take 8)
  if n = 1 ∧ pkPoison w0 ∧ !bitOf map 0 then map + 1 else map

/-- BULK_WR (R309, R310, R312, R319, R333). -/
def execBulkWr (src : Fin 9) (w0 w1 : Word) (payload : List Byte) (dt : Nat) (hold : Bool) (ans : List SnoopAnswer) (s : State) : Answer :=
  let w0 := w0.toNat
  let w1 := w1.toNat
  let n := (payload.length - 16) / 64
  let map := bulkPoison w0 n payload
  let formed := pkFormed w0 5 2 (tenReserved w1 + bitsOf w1 56 6) payload bulkLengths && leNat ((payload.drop 8).take 8) == 0
  match s.bulkArrives src w0 w1 payload dt formed with
  | (s, false) => .next s
  | (s, true) =>
    match s.bulkChecks src w0 (tenTpa w1) n true with
    | (s, false) => .next s
    | (s, true) =>
      let d := payload.drop 16
      let act := Ingress.bulkWrite (pkEp w0) (pkTxn w0) src (pkTenant w0) (tenTpa w1) map d
      if src.val = 8 then .next (s.runBulkWrite (pkEp w0) (pkTxn w0) src (pkTenant w0) (tenTpa w1) map d ans)
      else match s.offer src (pkTenant w0) 0 1 (creditsOf (16 + payload.length)) true hold (pkEp w0) (pkTxn w0) act with
        | (s, some (.bulkWrite ep txn p t a k d)) => .next (s.runBulkWrite ep txn p t a k d ans)
        | (s, _) => .next s

/-! ### Mirror writes (R434 to R437) -/

/-- Payload lengths of a MIRROR_WRITE: one line, or a poison extension and several (R309, R310). -/
def mirrorLengths : List Nat := 64 :: (List.range 63).map (fun n => 16 + 64 * (n + 2))

/-- Store one line of a mirror write: the tenant tag is compared as for every access of the Twin link (R262); SUMMARY and HEAT are as sent (R435). -/
def State.storeMirror (s : State) (pa : Nat) (poison : Bool) (summary heat : Nat) (d : List Byte) : State × MemStat :=
  match s.basinAt pa with
  | none => (s, .error)
  | some (_, b) =>
    match s.writeLine pa (some b.tenant) b.tenant poison d with
    | (s, .ok) => ({ s with pool := s.pool.setLine pa { (s.pool.line pa) with summary := summary % 4, heat := heat % 65536 } }, .ok)
    | r => r

/-- Store the lines of a mirror write, leave its link buffer, and answer MIRROR_ACK with the first status that is not OK (R434). -/
def State.sinkMirror (s : State) (w0 w1 : Nat) (payload : List Byte) (side : List (Nat × Nat)) : State :=
  let one : Bool := payload.length = 64
  let d := if one then payload else payload.drop 16
  let map := if one then (if pkPoison w0 then 1 else 0) else leNat (payload.take 8)
  let r := (List.range (d.length / 64)).foldl (fun (acc : State × MemStat) i =>
    let x := side.getD i (0, 0)
    match acc.1.storeMirror (phPa w1 + 64 * i) (bitOf map i) x.1 x.2 ((d.drop (64 * i)).take 64) with
    | (s, st) => (s, worse acc.2 st)) (s, .ok)
  (r.1.takeDelivered 8 (pkBytes w0 w1 payload)).sendTwin "MIRROR_ACK" 0 [pkTxn w0, phPa w1, r.2.code] []

/-- In EXPOSED, until both paths are held again, the partner's shadows are kept unchanged (R444). -/
def State.keepsShadows (s : State) : Bool :=
  s.get R.PAIR_STATUS F.PAIR_STATUS_STATE == 3 && !(s.flag R.PAIR_STATUS F.PAIR_STATUS_TWIN_OK && s.flag R.PAIR_STATUS F.PAIR_STATUS_RING_OK)

/-- Store the mirror writes that waited, once both paths are held again in EXPOSED. -/
def State.serveKept (s : State) : State :=
  if s.get R.PAIR_STATUS F.PAIR_STATUS_STATE ≠ 3 ∨ s.keepsShadows then s
  else s.pair.kept.foldl (fun s w => s.sinkMirror w.1 w.2.1 w.2.2.1 w.2.2.2) { s with pair := { s.pair with kept := [] } }

/-- MIRROR_WRITE (R309, R310, R434, R435): the lines of a partner's mirror write are stored and answered. A malformed one is discarded; one sent again that is
still recorded is not performed again (R296). One that arrives while the shadows are kept unchanged (R444) stays in its link buffer until they may change:
DEDUCED, log entry 125. -/
def execMirrorWrite (w0 w1 : Word) (body : MirrorBody) (s : State) : Answer :=
  let payload := body.payload
  let w0 := w0.toNat
  let w1 := w1.toNat
  if !pkFormed w0 1 4 (phReserved w1) payload mirrorLengths then .next ((s.takeDelivered 8 (pkBytes w0 w1 payload)).malformedTwin w0)
  else if s.isDuplicateOf 4096 w0 then .next (s.takeDelivered 8 (pkBytes w0 w1 payload))
  else
    let side := body.side.map (fun x => (x.1.toNat, x.2.toNat))
    let s := s.record 4096 (pkTxn w0)
    if s.keepsShadows then .next { s with pair := { s.pair with kept := s.pair.kept ++ [(w0, w1, payload, side)] } }
    else .next (s.sinkMirror w0 w1 payload side)

/-- Release the lines that waited for a mirror write (R437). -/
def State.mirrorAcked (s : State) (id : Nat) : State :=
  let ts := s.home.txns.map (fun (t : DirTxn) => { t with mirrors := t.mirrors.filter (· != id) })
  let s := ({ s with home := { s.home with txns := ts } } : State).mirrorDone id
  let done := (s.home.txns.filter (fun t => t.closing && !t.granted && t.mirrors == [])).map (·.req.pa)
  (done.foldl (fun s pa => s.endTxn pa) s).pumpAll

/-! ### Privileged endpoints (R337) -/

/-- PRIV_ENTRY_WRITE (R337): a write of SHAL_PRIV_CTL[e]. One that would make two VALID entries from 2 to 63 name one endpoint has no effect and sets
BAD_PACKET. KIND is RO for entries 0 and 1, and 3 is reserved. -/
def execPrivEntryWrite (e : Fin 64) (v : Word) (s : State) : Answer :=
  let ep := bitsOf v.toNat 0 12
  let valid := bitOf v.toNat 12
  let dup := 2 ≤ e.val && valid && ((List.range 62).map (· + 2)).any (fun x => x != e.val &&
    s.flag (R.SHAL_PRIV_CTL x) F.SHAL_PRIV_CTL_VALID && s.get (R.SHAL_PRIV_CTL x) F.SHAL_PRIV_CTL_ENDPOINT == ep)
  if dup then .next (s.setErr R.SHAL_ERR F.SHAL_ERR_BAD_PACKET)
  else
    let off := R.SHAL_PRIV_CTL e
    let s := ((s.put off F.SHAL_PRIV_CTL_ENDPOINT ep).putFlag off F.SHAL_PRIV_CTL_VALID valid).putFlag
      off F.SHAL_PRIV_CTL_ANY_TENANT (bitOf v.toNat 13)
    let k := bitsOf v.toNat 14 2
    .next (if e.val < 2 ∨ k = 3 then s else s.put off F.SHAL_PRIV_CTL_KIND k)

end Sys2Proof.Machine
end

