-- ==== Sys2Proof/Machine/Inval.lean ====
section
/-!
DEFINITION. Work that needs an invalidation (R253 to R256): syncs, CONTEXT_DESTROY and BASIN_DESTROY; what an invalidation waits for; what a command that an
L2 reset ends gives back (R270); and the fills of a new basin's units (R244).
-/
namespace Sys2Proof.Machine

/-! ### Invalidations in flight (R255) -/

/-- The accesses of clients that are translated and not yet performed: those in a port's scheduler, and those at a home. -/
def State.unperformed (s : State) : List HomeReq :=
  let queued := s.ports.flatMap (fun p => p.2.req.queues.flatMap (fun q => q.items.filterMap (fun i => match i.act with | .home r => some r | _ => none)))
  (queued ++ s.home.waiting ++ (s.home.txns.filter (fun t => !t.closing)).map (·.req)).filter (fun r => r.op != .recall)

/-- A request was translated with an entry of a range (R255): of stage 1 by its ASID and VA, of stage 2 by its tenant and TPA. -/
def State.translatedIn (s : State) (stage space lo len : Nat) (r : HomeReq) : Bool :=
  let u := s.unitBytes
  let inside (n : Nat) : Bool := lo ≤ n / u && n / u < lo + len
  if stage = 1 then r.asid == space && inside r.va
  else r.tenant == space && (match s.basin r.basin with
    | some b => (b.tpaOf u r.pa).elim false inside
    | none => false)

/-- The accesses that the holders' acknowledgements of an invalidation wait for. -/
def State.affected (s : State) (stage space lo len : Nat) : List Pending :=
  (s.unperformed.filter (s.translatedIn stage space lo len)).map (fun r => { port := r.port, ep := r.ep, txn := r.txn })

/-- An access is still to be performed, and its port acknowledges for itself: the wrapper of a port in an L3 reset has acknowledged at once. -/
def State.stillDue (s : State) (p : Pending) : Bool :=
  !s.inL3 (unitKey 2 p.port) && s.unperformed.any (fun r => r.port == p.port && r.ep == p.ep && r.txn == p.txn)

/-- A cache's entry lies in the range of an invalidation. -/
def XEnt.meets (stage space lo len : Nat) : XEnt → Bool
  | .s1 e => stage == 1 && e.asid == space && e.va < lo + len && lo < e.va + e.len
  | .s2 t _ r => stage == 2 && t == space && r.start < lo + len && lo < r.start + r.len

/-- Send an invalidation to its 112 holders (R255): every cache drops the entries of the range, and the acknowledgements wait for the accesses of `before`. -/
def State.startInv (s : State) (stage space lo len : Nat) (w : InvWaiter) (before : List Pending) (change : Option Nat := none) :
    State :=
  let i : Inv := { id := s.xlat.nextInv, stage := stage, space := space, lo := lo, len := len, waiter := w, before := before, change := change }
  let s := (Tbl.keys s.xlat.caches).foldl (fun s h => s.setCache h ((s.cache h).filter (fun e => !e.meets stage space lo len))) s
  { s with xlat := { s.xlat with invs := s.xlat.invs ++ [i], nextInv := s.xlat.nextInv + 1 } }

/-! ### Syncs (R252, R253) -/

/-- Insert mirror entries in ascending order of ASID and VA unit. -/
def insertS1 (e : S1Entry) : List S1Entry → List S1Entry
  | [] => [e]
  | x :: t => if e.asid < x.asid ∨ (e.asid = x.asid ∧ e.va < x.va) then e :: x :: t else x :: insertS1 e t

/-- The Wellhead takes one sync: refuses it, or changes the mirror in one step and sends the invalidation of its range (R252, R253). -/
def State.applySync (s : State) (r : SyncReq) : State :=
  if s.syncStatus r = .range then s.answerSync r.endpoint r.tid r.tag .range
  else if s.syncStatus r = .full then s.answerSync r.endpoint r.tid r.tag .full
  else
    let kept := s.xlat.s1.filter (fun e => !(e.asid == r.asid && r.rangeUnit ≤ e.va && e.va + e.len ≤ r.rangeUnit + r.rangeLen))
    let before := s.affected 1 r.asid r.rangeUnit r.rangeLen
    let s := { s with xlat := { s.xlat with s1 := r.entries.foldl (fun l e => insertS1 e l) kept } }
    let n := s.pair.nextMirror
    (s.changePartner "SYNC" [r.asid, r.rangeUnit, r.rangeLen]).startInv 1 r.asid r.rangeUnit r.rangeLen (.sync r.endpoint r.tid r.tag r.asid) before (some n)

/-- Whether a sync's range overlaps one of its ASID that has not been answered (R253). -/
def State.syncBlocked (s : State) (r : SyncReq) : Bool :=
  s.xlat.invs.any (fun i => i.stage == 1 && i.space == r.asid && i.lo < r.rangeUnit + r.rangeLen && r.rangeUnit < i.lo + i.len)

/-! ### CONTEXT_DESTROY and BASIN_DESTROY (R246, R265, R366) -/

/-- A context's stage-1 entries go, and are invalidated (R265). -/
def State.beginContext (s : State) (a : Nat) : State :=
  let x := s.xlat
  let mine := x.s1.filter (fun e => e.asid == a)
  let before := s.affected 1 a 0 (2 ^ 31)
  let undo : Undo := { context := (s.contextOf a).map (fun t => (a, t)), s1 := mine }
  let s : State := { s with xlat := { x with s1 := x.s1.filter (fun e => e.asid != a), contexts := Tbl.set (fun _ => none) x.contexts a none,
                                             cmdRes := mine.length, undo := undo } }
  s.startInv 1 a 0 (2 ^ 31) .command before

/-- Open sequences of a basin, and versions of regions that live in it. -/
def State.seqsIn (s : State) (b : Nat) : List Nat :=
  s.kv.seqs.filterMap (fun e => e.2.bind (fun q => if q.basin = b ∧ !q.shut then some e.1 else none))

def State.versionsIn (s : State) (b : Nat) : List (Region × Nat) :=
  s.kv.regions.flatMap (fun r => (r.live.filter (fun v => v.basin == b)).map (fun v => (r, v.number)))

/-- Retire a region's version at once: every pin on it is void (R246). -/
def State.retireNow (s : State) (tenant key n : Nat) : State :=
  match s.region tenant key with
  | none => s
  | some r => s.retire r n

/-- Recall every directory entry of a basin's lines; data returned is discarded (R366). -/
def State.recallBasin (s : State) (id : Nat) (b : Basin) : State :=
  s.home.entries.foldl (fun s e =>
    let pa := 64 * e.1
    if !b.holds s.unitBytes pa ∨ (s.busyTxn pa).isSome then s
    else
      let s := s.recallInternal pa
      let en := s.dirEntry pa
      match holders en.st en.ptrs with
      | none => s.putEntry pa {}
      | some who => (s.snoopNow id b.tenant pa .recall who []).1.putEntry pa {}) s

/-- What a destroyed basin's clients and pins lose, for an L2 reset to give back (R270). -/
def State.basinUndo (s : State) (id : Nat) : Undo :=
  let vs := s.versionsIn id
  { basin := some id,
    seqs := (s.seqsIn id).filterMap (fun x => (s.seqAt x).map (fun q => (x, q))),
    versions := vs.filterMap (fun x => (x.1.find x.2).map (fun v => (x.1.tenant, x.1.key, v))),
    pins := s.kv.pins.filter (fun p => vs.any (fun x => x.1.tenant == p.tenant && x.1.key == p.key && x.2 == p.version)) }

/-- The steps of BASIN_DESTROY (R246): its sequences close, its versions retire, and its stage-2 entries go and are invalidated. -/
def State.beginDestroy (s : State) (id : Nat) : State :=
  match s.basin id with
  | none => s
  | some b =>
    let undo := s.basinUndo id
    let before := s.affected 2 b.tenant b.tpa b.size
    let s := (s.seqsIn id).foldl (fun s x => s.closeSeq x) s
    let s := (s.versionsIn id).foldl (fun s x => s.retireNow x.1.tenant x.1.key x.2) s
    let s := s.setBasin id (some { b with closing := true, waitJobs := s.inFlight })
    State.startInv { s with xlat := { s.xlat with cmdRes := 0, undo := undo } } 2 b.tenant b.tpa b.size .command before

/-- A basin's entries are gone everywhere, and its directory entries are recalled; what its homes still held of it goes too (R246, R366). -/
def State.basinsGone (s : State) : State :=
  s.basins.foldl (fun s e =>
    if e.2.closing ∧ !e.2.destroyed then
      let mine (pa : Nat) : Bool := e.2.holds s.unitBytes pa
      let s := s.recallBasin e.1 e.2
      let h := s.home
      let s : State := { s with home := { h with entries := Tbl.clear h.entries (fun l => mine (64 * l)), sharers := Tbl.set (fun _ => []) h.sharers e.1 [],
                                                 cached := h.cached.filter (fun k => k.1 != e.1), suspects := h.suspects.filter (fun k => k.1 != e.1) } }
      s.setBasin e.1 (some { e.2 with destroyed := true })
    else s) s

/-- The basin is being destroyed, and an L2 reset could still undo it (R270). -/
def State.inDestroy (s : State) (basin : Nat) : Bool := (s.basin basin).elim false (fun b => b.closing && !b.destroyed)

/-! ### The queue (R256) -/

/-- The work of the queue begins. -/
def State.beginWork (s : State) : InvWork → State
  | .sync r => s.applySync r
  | .context a => s.beginContext a
  | .destroy id => s.beginDestroy id

/-- Work that may begin: a sync not before those it overlaps, in order of arrival (R253). -/
def State.workReady (s : State) (q : List InvWork) (i : Nat) : InvWork → Bool
  | .sync r => !s.syncBlocked r && !((q.take i).any (fun w => match w with
      | .sync p => p.asid == r.asid && p.rangeUnit < r.rangeUnit + r.rangeLen && r.rangeUnit < p.rangeUnit + p.rangeLen
      | _ => false))
  | _ => true

/-- Work joins the queue while it has a place: of 64, none free, a command waits before it. -/
def State.joinInvs (s : State) (w : InvWork) : State :=
  if s.xlat.waiting.length < 64 then { s with xlat := { s.xlat with waiting := s.xlat.waiting ++ [w] } }
  else { s with xlat := { s.xlat with cmdWait := some w } }

/-- Take the waiting work that may begin, in order, while fewer than sixteen invalidations are in flight (R253, R256). `fuel` bounds the walk. -/
def State.pumpInvs (s : State) : Nat → State
  | 0 => s
  | n + 1 =>
    if 16 ≤ s.xlat.invs.length then s
    else
      let q := s.xlat.waiting
      match (List.range q.length).find? (fun i => (q[i]?).elim false (s.workReady q i)) with
      | none => s
      | some i =>
        match q[i]? with
        | none => s
        | some w =>
          let rest := q.eraseIdx i ++ s.xlat.cmdWait.toList
          State.pumpInvs (State.beginWork { s with xlat := { s.xlat with waiting := rest, cmdWait := none } } w) n

def State.pumpWork (s : State) : State := s.pumpInvs 66

/-! ### The running command and an L2 reset (R270) -/

/-- Give back what the running command has taken away. -/
def State.undoCommand (s : State) : State :=
  let u := s.xlat.undo
  let s := match u.context with
    | none => s
    | some (a, t) =>
      let x := s.xlat
      ({ s with xlat := { x with contexts := Tbl.set (fun _ => none) x.contexts a (some t), s1 := u.s1.foldl (fun l e => insertS1 e l) x.s1 } } : State)
  match u.basin with
  | none => s
  | some id =>
    let s := match s.basin id with
      | some b => s.setBasin id (some { b with closing := false, waitJobs := [] })
      | none => s
    let s := u.seqs.foldl (fun s e => s.setSeq e.1 ((s.seqAt e.1).map (fun q => { q with shut := e.2.shut, waits := e.2.waits }))) s
    let s := u.versions.foldl (fun s e =>
      match s.region e.1 e.2.1 with
      | none => s
      | some r => s.putRegion { r with versions := r.versions.map (fun (v : Version) => if v.number = e.2.2.number then e.2.2 else v) }) s
    { s with kv := { s.kv with pins := s.kv.pins ++ u.pins.filter (fun p => !s.kv.pins.contains p) } }

/-- A command that runs when an L2 reset begins completes with BUSY and changes nothing (R270); a basin that was being filled gives its units back. The caches
are emptied; the replicas stay those of the tables. -/
def State.endXlat (s : State) : State :=
  let x := s.xlat
  let s : State := { s with xlat := { x with caches := [] } }
  if !s.flag R.XLAT_CMD F.XLAT_CMD_BUSY then s
  else
    let running : Bool := x.invs.any (fun i => i.waiter == .command)
    let s := if running then s.undoCommand.toPartner "XLAT_UNDO" [] else s
    let y := s.xlat
    let queued (w : InvWork) : Bool := match w with | .sync _ => false | _ => true
    let s : State := { s with xlat := { y with invs := y.invs.filter (fun i => i.waiter != .command), waiting := y.waiting.filter (fun w => !queued w),
                                               cmdWait := none, undo := {} } }
    let s := (s.basins.filter (fun e => e.2.making && !e.2.shadowHere)).foldl (fun s e => s.setBasin e.1 none) s
    let s : State := { s with xlat := { s.xlat with fills := s.xlat.fills.filter (fun f => (s.basin f.basin).isSome) } }
    s.xlatDone 6 0

end Sys2Proof.Machine
end

