-- ==== Sys2Proof/Machine/JobRun.lean ====
section
/-!
DEFINITION. The commands that carry a job from its doorbell to its completion (R161 to R184, R380 to R384, R596), and the Inlet configuration commands
(R189, R190).
-/
namespace Sys2Proof.Machine

/-! ### Doorbells (R161, R162, R181) -/

def dbInlet (w : Nat) : Nat := bitsOf w 0 12
def dbOp (w : Nat) : Nat := bitsOf w 12 2
def dbReserved (w : Nat) : Nat := bitsOf w 14 2
def dbValue (w : Nat) : Nat := bitsOf w 16 16

/-- The range test of R162. -/
def Inlet.tailOk (l : Inlet) (v : Nat) : Bool :=
  (v + 65536 - l.tail) % 65536 ≤ l.slots && (v + 65536 - l.completed) % 65536 ≤ l.slots

/-- A doorbell refused by a check of R161 or R162, with its bit of JOB_ERR. -/
def State.refuseDoorbell (s : State) (ep txn : Nat) (f : Option Fld) (status : Nat) : State :=
  let s := match f with | some f => s.setErr R.JOB_ERR f | none => s
  (s.bump R.JOB_CNT_DB_REFUSED).sendPkt (cmpTo ep txn status)

/-- Check 4 of R161: the header lines of the slots that a tail would add, lowest failing byte first. -/
def State.headersFault (s : State) (l : Inlet) (v : Nat) : Option Nat :=
  let n := (v + 65536 - l.tail) % 65536
  let vas := (List.range n).map (fun i => l.slotVa ((l.tail + i) % l.slots))
  vas.foldl (fun (best : Option Nat) va =>
    match checkRange (fun a => s.translate l.owner l.asid a false) s.unitBytes va 64 with
    | none => best
    | some (_, a, _) => match best with
      | none => some a
      | some b => if a < b then some a else some b) none

/-- An abort doorbell takes effect (R181, R182). -/
def State.abortSlot (s : State) (i slot : Nat) : State :=
  let l := s.inlet i
  match s.jobs.jobs.find? (fun j => j.inlet == i && j.slot == slot) with
  | some j => if j.decided then s.bump R.JOB_CNT_ABORT_LATE else s.failJob j.id jsAborted
  | none =>
    if slot < l.slots ∧ (slot + l.slots - l.started % l.slots) % l.slots < l.untaken then
      s.setInlet i { l with aborts := if l.aborts.contains slot then l.aborts else l.aborts ++ [slot] }
    else s.bump R.JOB_CNT_ABORT_LATE

/-- A doorbell takes effect when it is served, at its Inlet's home port (R162, R387): the Inlet and the tail are looked at again. -/
def State.runDoorbell (s : State) (ep txn word : Nat) : State :=
  let i := dbInlet word
  let l := s.inlet i
  if !s.jobsOn || !s.inletOn l then s.refuseDoorbell ep txn (some F.JOB_ERR_DB_DISABLED) stInletDisabled
  else if dbOp word = 1 then ((s.bump R.JOB_CNT_DOORBELL).abortSlot i (dbValue word)).sendPkt (cmpTo ep txn stOk)
  else if !l.tailOk (dbValue word) then s.refuseDoorbell ep txn (some F.JOB_ERR_DB_RANGE) stDoorbellRange
  else
    let s := (s.bump R.JOB_CNT_DOORBELL).setInlet i { l with tail := dbValue word }
    (s.topUp i (s.inlet i).untaken).sendPkt (cmpTo ep txn stOk)

/-- A DOORBELL packet at a Mere port (R161): the packet's own checks, checks 1 to 4 in order, and admission. While the job unit is off every doorbell is
answered INLET_DISABLED (R187, R593). -/
def State.doorbell (s : State) (port w0 w1 : Nat) (payload : List Byte) (dt : Nat) (hold : Bool) : State :=
  let s := (s.takeDelivered port (pkBytes w0 w1 payload)).portTime port dt
  let ep := pkEp w0
  let txn := pkTxn w0
  let word := leNat (payload.take 4)
  let formed := pkFormed w0 4 6 (inReserved w1) payload [16] && leNat (payload.drop 4) == 0 && dbOp word ≤ 1 && dbReserved word == 0
  if s.isDead ep then s.sendPkt (cmpTo ep txn stDenied)
  else if !formed then s.badPacket.sendPkt (cmpTo ep txn stUnsupported)
  else if s.rst.l2 ≠ 0 then s.retryAfter ep txn (s.get R.QOS_CFG F.QOS_CFG_RETRY_MIN_US)
  else if s.isDuplicate w0 then s
  else
    let s := s.record ep txn
    let l := s.inlet (dbInlet word)
    if !s.jobsOn then s.refuseDoorbell ep txn (some F.JOB_ERR_DB_DISABLED) stInletDisabled
    else if ep ≠ l.owner then s.refuseDoorbell ep txn (some F.JOB_ERR_DB_DENIED) stDoorbellDenied
    else if !s.inletOn l then s.refuseDoorbell ep txn (some F.JOB_ERR_DB_DISABLED) stInletDisabled
    else if dbOp word = 0 ∧ !l.tailOk (dbValue word) then s.refuseDoorbell ep txn (some F.JOB_ERR_DB_RANGE) stDoorbellRange
    else
      match (if dbOp word = 0 then s.headersFault l (dbValue word) else none) with
      | some va =>
        match s.access { endpoint := l.owner, srcKind := 0, srcIndex := l.port } l.asid va 1 false with
        | (s, .error q) => s.refuseDoorbell ep txn none (faultStatus q)
        | (s, .ok _) => s.refuseDoorbell ep txn none stFault
      | none =>
        let refused : Bool := match (s.colour port l.tenant (s.epClass ep) 1 false).2 with | .refused _ => true | .queued => false
        let s := if refused then s.bump R.JOB_CNT_DB_REFUSED else s
        match s.offer port l.tenant (s.epClass ep) 1 (creditsOf 32) false hold ep txn (.doorbell ep txn port word) with
        | (s, some (.doorbell e t _ w)) => s.runDoorbell e t w
        | (s, _) => s

/-- DOORBELL_RING (R161): the DOORBELL packet, its field in the payload, OP 0. -/
def execDoorbellRing (port : Fin 8) (w0 w1 : Word) (payload : List Byte) (dt : Nat) (hold : Bool) (s : State) : Answer :=
  .next (s.doorbell port w0.toNat w1.toNat payload dt hold)

/-- DOORBELL_ABORT (R181): the same packet with OP 1. -/
def execDoorbellAbort (port : Fin 8) (w0 w1 : Word) (payload : List Byte) (dt : Nat) (hold : Bool) (s : State) : Answer :=
  .next (s.doorbell port w0.toNat w1.toNat payload dt hold)

/-! ### Tarn dispatch (R380 to R384) -/

/-- Whether a source may serve an Inlet now: the dispatcher any, an Inlet engine one whose roles all hold the image and have a free credit (R172, R383). -/
def State.eligible (s : State) (e i : Nat) : Bool :=
  let l := s.inlet i
  !s.inL3 (unitKey 2 l.port) && (e == 8 || l.bound.elim true (fun b => b.roles.all (fun p => s.creditFree e p.1 p.2 && s.roleLoaded p.1 p.2)))

/-- The order in which a source serves its queues: the smallest F, ties to the lower tenant, then to the lower class (R380). -/
def Disp.rank (x : Disp) (q : DispQ) : Nat := (ahead x.v (q.fs.headD 0) * 256 + q.tenant) * 4 + q.cls

/-- The queue to serve among those that have an eligible Inlet, and that Inlet: Inlets of a queue take turns (R382). -/
def State.pickDispatch (s : State) (e : Nat) : Option (DispQ × Nat) :=
  let x := s.disp e
  (x.queues.filterMap (fun q => (q.inlets.find? (fun p => s.eligible e p.1)).map (fun p => (q, p.1)))).foldl (fun best c =>
    match best with
    | none => some c
    | some b => if x.rank c.1 < x.rank b.1 then some c else some b) none

/-- A queue is ineligible for lack of Tarn credits: no Inlet of it may be served, and one of them wants a credit that is not free (R383, R393). -/
def State.lacksCredit (s : State) (e : Nat) (q : DispQ) : Bool :=
  q.inlets.all (fun p => !s.eligible e p.1) &&
    q.inlets.any (fun p => (s.inlet p.1).bound.elim false (fun b => b.roles.any (fun r => !s.creditFree e r.1 r.2)))

/-- DISPATCH_SERVE (R164, R380 to R383): a source serves the queue whose turn it is and takes the next descriptor of the chosen Inlet from its ring. It takes
one at a time, and the dispatcher none while a job waits for credits. -/
def execDispatchServe (source : Fin 9) (s : State) : Answer :=
  let e := source.val
  let busy := s.jobs.jobs.any (fun j => j.engine == e && (j.st == .taken || j.st == .waiting))
  if s.rst.l2 ≠ 0 ∨ busy ∨ 16384 ≤ s.jobs.jobs.length then .next s
  else match s.pickDispatch e with
    | none => .next s
    | some (q, i) =>
      let x := s.disp e
      let f := q.fs.headD 0
      let passed := if e = 8 then [] else x.queues.filter (fun y => x.rank y < x.rank q && s.lacksCredit e y)
      let l := s.inlet i
      let after := q.inlets.filterMap (fun p => if p.1 = i then none else some p)
      let mine := (q.inlets.filter (fun p => p.1 == i && 1 < p.2)).map (fun p => (p.1, p.2 - 1))
      let x := { (x.setQueue { q with fs := q.fs.drop 1, inlets := after ++ mine }) with v := f, jobs := x.jobs + 1 }
      let slot := l.started % l.slots
      let j : Job := { id := s.jobs.nextJob, inlet := i, slot := slot, engine := e, number := x.jobs - 1, st := .taken, desc := {},
                       mark := s.pair.nextMirror, fails := if l.aborts.contains slot then [jsAborted] else [] }
      let s := (s.setDisp e x).setInlet i { l with started := (l.started + 1) % 65536, aborts := l.aborts.filter (· != slot) }
      let s := { s with jobs := { s.jobs with jobs := s.jobs.jobs ++ [j], nextJob := s.jobs.nextJob + 1 } }
      .next ((((s.bump R.JOB_CNT_STARTED).bump R.QOS_CNT_DISPATCHED).bump R.QOS_CNT_INELIGIBLE passed.length).topUpAll e)

/-- DISPATCH_STARVED (R392): an eligible dispatch queue of a source has waited 10 ms without service. -/
def execDispatchStarved (source : Fin 9) (s : State) : Answer :=
  if (s.pickDispatch source).isSome then .next (s.setErr R.QOS_ERR F.QOS_ERR_DISPATCH_STARVED) else .next s

/-! ### Validation (R165, R166) -/

/-- A descriptor header's fields (R165). -/
def descOf (b : List Byte) : Desc :=
  let n (o k : Nat) : Nat := leNat ((b.drop o).take k)
  { opcode := n 0 1, notify := bitOf (n 1 1) 0, ingestFirst := bitOf (n 1 1) 1, partialOut := bitOf (n 1 1) 2, region := bitOf (n 1 1) 3,
    lines := n 2 2, tag := n 4 4, source := n 8 8, version := n 16 4, layer := n 20 2, gLog2 := n 22 1, scale := n 24 2,
    valExp := signedOf (n 26 1) 8, outExp := signedOf (n 27 1) 8, wdog := n 28 2, prog := n 30 2, outVa := n 32 8, outLen := n 40 4,
    ingestCount := n 44 4, notifyEp := n 48 2, notifyVal := n 52 4 }

/-- Reserved bits and bytes of a header that must be 0: FLAGS[7:4], bytes 23, 50 to 51, 56 to 63 (R165). -/
def descReserved (b : List Byte) : Bool :=
  leNat ((b.drop 1).take 1) < 16 && ((b.drop 23).take 1 ++ (b.drop 50).take 2 ++ (b.drop 56).take 8).all (· == 0)

/-- Whether a command code is one of R168. -/
def commandListed (c : Nat) : Bool := (1 ≤ c && c ≤ 3) || (0x10 ≤ c && c ≤ 0x14) || (0x20 ≤ c && c ≤ 0x23)

/-- Check 3 of R166. A COMMAND whose code R168 does not list fails here. -/
def descFormed (b : List Byte) (d : Desc) (slotLines : Nat) : Bool :=
  let cmd := d.opcode == 0x10
  let dec := d.opcode == 1
  (dec || d.opcode == 2 || cmd) && 1 ≤ d.lines && d.lines ≤ slotLines && (!cmd || 2 ≤ d.lines) && descReserved b
    && (if cmd then d.source < 2 ^ 16 && commandListed d.source else d.region || d.source < 2 ^ 32)
    && (d.region || d.version == 0) && (dec || !(d.ingestFirst || d.partialOut || d.region)) && !(d.region && d.ingestFirst)

/-- What a job reads from: shape, length and blocks by table key. -/
structure Source where
  layers : Nat
  heads : Nat
  fmt : Nat
  hdim : Nat
  slots : Nat
  length : Nat → Nat
  blocks : Tbl (List Nat)

/-- A sequence or a version as a job's source. -/
def Version.source (v : Version) : Source :=
  { layers := v.layers, heads := v.heads, fmt := v.format, hdim := v.hdim, slots := 0, length := fun _ => v.tokens, blocks := v.blocks }
def Seq.source (q : Seq) : Source :=
  { layers := q.layers, heads := q.heads, fmt := q.format, hdim := q.hdim, slots := q.windowSlots, length := q.lenOf, blocks := q.blocks }

/-- The source of a job that has passed check 8 already: a close, an unpin or a retirement since then does not fail it (R62, R70, R72). -/
def State.sourceHeld (s : State) (l : Inlet) (d : Desc) : Option Source :=
  if d.region then
    (s.region l.tenant d.source).bind (fun r => (r.versions.find? (fun v => v.number == d.version)).map Version.source)
  else
    let slot := d.source % 2 ^ 18
    (s.seqAt slot).bind (fun q => if s.handleOf slot = d.source % 2 ^ 32 then some q.source else none)

/-- Check 8 of R166 (R56, R62, R70): the source, or the status. -/
def State.sourceOf (s : State) (l : Inlet) (d : Desc) : Except Nat Source :=
  if d.region then
    match s.pinnedVersion l.owner l.tenant d.source d.version with
    | none => .error jsVersionNotPinned
    | some v => .ok v.source
  else
    match s.findSeq l.tenant d.source with
    | none => .error jsSeqNotFound
    | some (_, q) => .ok q.source

/-- The PROG_ID a job runs: its Inlet's image when it is bound, else the descriptor's, 0 naming 0x0001 (R165). -/
def Inlet.progOf (l : Inlet) (d : Desc) : Nat := match l.bound with | some b => b.prog | none => if d.prog = 0 then 1 else d.prog

/-- Checks 8 to 12 of R166 for a DECODE or INGEST. -/
def State.checkSource (s : State) (l : Inlet) (d : Desc) (body : List Byte) : Except Nat Source :=
  match s.sourceOf l d with
  | .error e => .error e
  | .ok src =>
    match s.imageFor l.tenant (l.progOf d) with
    | none => .error jsProgNotFound
    | some img =>
      let countOk : Bool := 1 ≤ d.ingestCount && d.ingestCount ≤ src.slots
      if d.opcode = 2 then (if countOk then .ok src else .error jsBadParams)
      else
        let qh := 2 ^ d.gLog2 * src.heads
        let dim := dimOf src.hdim
        let out := if d.partialOut then partialBytes qh dim else 2 * qh * dim
        if 64 * (d.lines - 1) < queryBytes qh dim then .error jsBadDescriptor
        else if src.layers ≤ d.layer || 256 < qh || (List.range qh).any (fun j => !swInput (qWord body j))
            || !img.runs src.fmt src.hdim d.gLog2 || d.outLen < out || (d.ingestFirst && !countOk) then .error jsBadParams
        else .ok src

/-- Checks 3 to 12 of R166 on the lines that were read. -/
def State.checkDesc (s : State) (l : Inlet) (head body : List Byte) : Option Nat :=
  let d := descOf head
  if !descFormed head d (2 ^ (l.slotLog2 - 6)) then some jsBadDescriptor
  else if d.notify && s.boundTo d.notifyEp != some l.tenant then some jsBadDescriptor
  else if d.opcode = 0x10 ∧ l.bound.isSome then some jsWrongInlet
  else if d.outVa % 64 ≠ 0 then some jsBadParams
  else if d.opcode = 0x10 then none
  else if d.opcode = 1 ∧ (5 < d.gLog2 ∨ swKind d.scale ≠ 0 ∨ swM d.scale < 128) then some jsBadParams
  else match s.checkSource l d body with
    | .error e => some e
    | .ok _ => none

/-- A job with no tokens to read writes its empty output and completes (R176). -/
def State.emptyJob (s : State) (j : Job) (ans : List SnoopAnswer) : State :=
  let d := dimOf j.hdim
  let tiles := (List.range j.qh).map (emptyTile d)
  let r : Partial := { sliceId := 0, slices := 0, hdim := j.hdim, valExp := j.desc.valExp, tiles := tiles }
  let data := if j.desc.partialOut then r.bytes else zeros (2 * j.qh * d)
  match s.writeOutput j (if j.engine = 8 then 3 else 0) (if j.engine = 8 then 0 else (s.inlet j.inlet).port) data [] ans with
  | (s, st) => (s.putJob { j with emptyHeads := List.range j.qh, decided := true }).finishJob j.id st

/-- A role that the dispatcher may give another image: it holds 0x0001, serves no binding, and has the fewest jobs queued (R173). -/
def State.spareRole (s : State) (q : Nat) : Option Nat :=
  let l := (List.range 24).filter (fun r => s.roleImage q r == 1 && s.bindingsOf q r == [] && (s.roleTarn q r).elim false s.tarnTakes)
  let load (r : Nat) : Nat := (s.jobs.jobs.filter (fun j => j.entries.contains (q, r))).length
  l.foldl (fun best r => match best with
    | none => some r
    | some b => if load r < load b then some r else some b) none

/-- The roles of a quadrant that a job of the dispatcher may use (R173, R383): none when the quadrant has none, an empty list when all lack a credit. -/
def State.rolesFor (s : State) (q prog : Nat) (choice : List (Nat × Nat)) : State × Option (List Nat) :=
  let have_ := (List.range 24).filter (fun r => s.roleImage q r == prog && (s.roleTarn q r).elim false s.tarnTakes)
  let res : State × List Nat :=
    if have_ ≠ [] then (s, have_)
    else match s.spareRole q with
      | none => (s, [])
      | some r => ((s.setRoleImage q r prog).startLoad q r, [r])
  if res.2 = [] then (res.1, none)
  else
    let free := res.2.filter (fun r => res.1.creditFree 8 q r)
    let pick := free.filter (fun r => choice.contains (q, r))
    (res.1, some (if pick = [] then free.take 1 else pick))

/-- The roles of a binding in a quadrant, ascending. -/
def Binding.rolesIn (b : Binding) (q : Nat) : List Nat := (List.range 24).filter (fun r => b.roles.contains (q, r))

/-- How roles are chosen for a job, quadrant by quadrant: NO_TARNS, a wait for credits, or the roles. -/
inductive Chosen where
  | noTarns
  | wait
  | roles (use : List (Nat × List Nat × List (Nat × List Nat)))
  deriving DecidableEq, Repr

def State.chooseRoles (s : State) (j : Job) (choice : List (Nat × Nat)) : List (Nat × List (Nat × List Nat)) → State × Chosen
  | [] => (s, .roles [])
  | (q, hs) :: t =>
    let l := s.inlet j.inlet
    let r : State × Option (List Nat) := match l.bound with
      | some b => (s, some (b.rolesIn q))
      | none => s.rolesFor q (l.progOf j.desc) choice
    match r with
    | (s, none) => (s, .noTarns)
    | (s, some []) => (s, .wait)
    | (s, some rs) =>
      match State.chooseRoles s j choice t with
      | (s, .roles u) => (s, .roles ((q, rs, hs) :: u))
      | x => x

/-- The blocks a decode job reads, by quadrant and key-value head (R55, R174). -/
def State.jobBlocks (s : State) (j : Job) (src : Source) : List (Nat × List (Nat × List Nat)) :=
  let blocks (h : Nat) : List Nat :=
    (Tbl.get (fun _ => []) src.blocks (64 * j.desc.layer + h)).filter (fun b => (s.blk b).elim false (fun x => x.first < j.length))
  let inQuad (q : Nat) : List (Nat × List Nat) :=
    ((List.range j.heads).map (fun h => (h, (blocks h).filter (fun b => (s.blk b).elim false (fun x => quadOf x.pa == q))))).filter (fun x => x.2 != [])
  ([0, 1, 2, 3].map (fun q => (q, inQuad q))).filter (fun x => x.2 != [])

/-- Slices that a job needs (check 13 of R166): those of its binding's roles; on an unbound Inlet, whose roles the dispatcher chooses only afterwards (R383), the
fewest that any choice makes. Log entry 108. -/
def slicesNeeded (l : Inlet) (need : List (Nat × List (Nat × List Nat))) : Nat :=
  need.foldl (fun n u =>
    n + match l.bound with
      | some b => (slicesIn (b.rolesIn u.1) u.2).length
      | none => u.2.foldl (fun k h => k + (h.2.length + 255) / 256) 0) 0

/-- Place a decode job (R173 to R175, check 13 of R166): its roles are chosen, it is divided, and it runs. `choice` is the dispatcher's choice of roles, which
R173 leaves to an estimate. A job has begun, for R33, when it is divided: a block switched before that moment is read in its new frame, one switched after it in
its old frame. Log entry 110. -/
def State.placeJob (s : State) (j : Job) (choice : List (Nat × Nat)) : State :=
  match s.sourceHeld (s.inlet j.inlet) j.desc with
  | none => s.finishJob j.id jsSeqNotFound
  | some src =>
    let need := s.jobBlocks j src
    if 4096 < slicesNeeded (s.inlet j.inlet) need then s.finishJob j.id jsBadParams
    else match s.chooseRoles j choice need with
    | (t, .noTarns) => t.finishJob j.id jsNoTarns
    | (t, .wait) =>
      let t := if j.st = .waiting then t else t.bump R.QOS_CNT_INELIGIBLE
      t.putJob { j with st := .waiting }
    | (t, .roles use) =>
      let j := j.divide ((s.inlet j.inlet).port / 2) use
      if 4096 < j.slices.length then s.finishJob j.id jsBadParams
      else
        let fr := (j.slices.flatMap (·.blocks)).filterMap (fun b => (s.blk b).map (fun x => (b, x.pa)))
        t.putJob { j with st := .decode, frames := fr }

/-- A job with what it takes from its source when its decode part is validated (R55). -/
def Job.ofSource (j : Job) (src : Source) : Job :=
  { j with length := src.length j.desc.layer, fmt := src.fmt, hdim := src.hdim, heads := src.heads }

/-- The decode part of a validated job starts (R55, R176): an ingest part's packets are done. -/
def State.launch (s : State) (j : Job) (src : Source) (choice : List (Nat × Nat)) (ans : List SnoopAnswer) : State :=
  let s := if j.st = .ingest then s.dropWork j.id else s
  let j := { j.ofSource src with arrived := [], started := [] }
  let s := s.putJob j
  if j.length = 0 then s.emptyJob j ans else s.placeJob j choice

/-- Read lines of a descriptor as the owner's reads (check 1 of R166): none when they do not translate, a fault entry taken. -/
def State.readDesc (s : State) (l : Inlet) (va n : Nat) (ans : List SnoopAnswer) : State × Option (List LineRead) :=
  if n = 0 then (s, some [])
  else match s.access { endpoint := l.owner, srcKind := 0, srcIndex := l.port } l.asid va (64 * n) false with
    | (s, .error _) => (s, none)
    | (s, .ok _) => match s.readVa l.owner l.asid l.tenant va ans n with | (s, ls) => (s, some ls)

/-! ### Tarns of an ingest (R105, R167, R173) -/

/-- Whether the Tarns of an ingest stand ready: all do, in order of quadrant; some image still loads; or the job ends with a status. -/
inductive IngestAt where
  | ready (tarns : List (Nat × Nat × Nat))
  | wait
  | fail (status : Nat)
  deriving DecidableEq, Repr

/-- The role that ingests for an image in a quadrant: the lowest that holds it (R167). -/
def State.ingestRole (s : State) (q prog : Nat) : Option Nat := (List.range 24).find? (fun r => s.roleImage q r == prog)

/-- The Tarn that ingests for a job in a quadrant: of the lowest role that holds the image; where none does, the dispatcher has the image loaded (R173). A Tarn out
of service fails the job (R105). -/
def State.ingestTarn (s : State) (j : Job) (q : Nat) : State × IngestAt :=
  let prog := (s.inlet j.inlet).progOf j.desc
  match s.ingestRole q prog with
  | some r =>
    match s.roleTarn q r with
    | none => (s, .fail jsTarnFault)
    | some t =>
      if s.tarnFaulted t || !(s.tarnTakes t || j.started.contains (q, r)) then (s, .fail jsTarnFault)
      else (s, if s.roleLoaded q r then .ready [(q, r, t)] else .wait)
  | none =>
    match (if (s.inlet j.inlet).bound.isSome then none else s.spareRole q) with
    | none => (s, .fail jsNoTarns)
    | some r => ((s.setRoleImage q r prog).startLoad q r, .wait)

/-- The Tarns that ingest for a job in some quadrants. -/
def State.ingestTarns (s : State) (j : Job) : List Nat → State × IngestAt
  | [] => (s, .ready [])
  | q :: t =>
    match s.ingestTarn j q with
    | (s, .fail st) => (s, .fail st)
    | (s, a) =>
      match State.ingestTarns s j t, a with
      | (s, .ready l), .ready m => (s, .ready (m ++ l))
      | (s, .fail st), _ => (s, .fail st)
      | (s, _), _ => (s, .wait)

/-- Quadrants that hold an open block of a sequence, of one layer or of all; without one, the quadrant its first block goes to, or the home port's. -/
def State.openQuads (s : State) (q : Seq) (layer : Option Nat) (home : Nat) : List Nat :=
  let bs := (q.blocks.filter (fun e => layer.all (fun k => e.1 / 64 == k))).filterMap (fun e => (e.2.getLast?).bind s.blk)
  let qs := [0, 1, 2, 3].filter (fun x => bs.any (fun b => !b.shut && quadOf b.pa == x))
  if qs = [] then [q.quad.getD home] else qs

/-- The ingest part of a validated job starts: its Tarns are found, or it ends at once (R105, R167, R173). -/
def State.startIngest (s : State) (j : Job) : State :=
  match s.seqAt (j.desc.source % 2 ^ 18) with
  | none => s.finishJob j.id jsSeqNotFound
  | some q =>
    match s.ingestTarns j (s.openQuads q none ((s.inlet j.inlet).port / 2)) with
    | (s, .fail st) => s.finishJob j.id st
    | (s, _) => s.putJob { j with st := .ingest }

/-- JOB_VALIDATE (R164, R166, R173 to R176): the descriptor a source has taken is read and validated as a whole, and the job starts. `choice` names the roles of
(quadrant, role) that the dispatcher's estimate favours. -/
def execJobValidate (source : Fin 9) (choice : List (Fin 4 × Fin 24)) (ans : List SnoopAnswer) (s : State) : Answer :=
  match s.jobs.jobs.find? (fun j => j.engine == source.val && j.st == .taken) with
  | none => .next s
  | some j =>
    let l := s.inlet j.inlet
    let va := l.slotVa j.slot
    if j.fails ≠ [] then .next (s.finishJob j.id ((firstFail j.fails).getD jsAborted))
    else match s.readDesc l va 1 ans with
      | (s, none) => .next (s.finishJob j.id jsXlatFault)
      | (s, some hd) =>
        let head := hd.flatMap (·.data)
        let d := descOf head
        let j := { j with desc := d }
        match s.readDesc l (va + 64) (min d.lines (2 ^ (l.slotLog2 - 6)) - 1) ans with
        | (s, none) => .next ((s.putJob j).finishJob j.id jsXlatFault)
        | (s, some bd) =>
          let j := { j with body := bd.flatMap (·.data) }
          let s := s.putJob j
          if (hd ++ bd).any (fun r => r.poison) then .next (s.finishJob j.id jsPoisoned)
          else match s.checkDesc l head j.body with
            | some st => .next (s.finishJob j.id st)
            | none =>
              if d.opcode = 0x10 then .next (s.putJob { j with st := .command })
              else match s.sourceOf l d with
                | .error e => .next (s.finishJob j.id e)
                | .ok src =>
                  if d.opcode = 1 ∧ 4096 < slicesNeeded l (s.jobBlocks (j.ofSource src) src) then .next (s.finishJob j.id jsBadParams)
                  else if d.opcode = 2 ∨ d.ingestFirst then .next (s.startIngest j)
                  else .next (s.launch j src (choice.map (fun c => (c.1.val, c.2.val))) ans)

/-- DISPATCH_CREDIT_WAIT_END (R383): the job that waits at the dispatcher looks for roles again. -/
def execDispatchCreditWaitEnd (choice : List (Fin 4 × Fin 24)) (s : State) : Answer :=
  match s.jobs.jobs.find? (fun j => j.st == .waiting) with
  | none => .next s
  | some j =>
    if j.fails ≠ [] then .next (s.finishJob j.id ((firstFail j.fails).getD jsAborted))
    else .next (s.placeJob j (choice.map (fun c => (c.1.val, c.2.val))))

/-- DECODE_REVALIDATE (R167): the ingest part has committed all its records; checks 8 to 13 are made afresh and the decode part starts. -/
def execDecodeRevalidate (job : Nat) (choice : List (Fin 4 × Fin 24)) (ans : List SnoopAnswer) (s : State) : Answer :=
  match s.job job with
  | none => .next s
  | some j =>
    if j.st ≠ .ingest ∨ !j.desc.ingestFirst ∨ j.committed < j.desc.ingestCount then .next s
    else if j.fails ≠ [] then .next (s.finishJob job ((firstFail j.fails).getD jsAborted))
    else match s.checkSource (s.inlet j.inlet) j.desc j.body with
      | .error e => .next (s.finishJob job e)
      | .ok src => .next (s.launch j src (choice.map (fun c => (c.1.val, c.2.val))) ans)

/-! ### Ingest (R167, R596) -/

/-- A record read by its Tarns is ingested: the state and the status, or the old state when a Tarn it needs is not ready (R167, R596). -/
def State.ingestRead (s : State) (j : Job) (slot : Nat) (q : Seq) (ls : List LineRead) : State × Option Nat :=
  match s.ingestOne slot ls with
  | (t, st) =>
    if st ≠ jsOk then (t, some st)
    else
      let layer := recLayer (ls.flatMap (·.data))
      let now := t.openQuads ((t.seqAt slot).getD q) (some layer) 0
      match s.ingestTarns j now with
      | (s, .fail f) => (s, some f)
      | (s, .wait) => (s, none)
      | (_, .ready l) =>
        let at_ := l.map (fun x => (x.1, x.2.1))
        let add (m : List (Nat × Nat)) : List (Nat × Nat) := m ++ at_.filter (fun x => !m.contains x)
        (t.updJob j.id (fun j => { j with arrived := add j.arrived, started := add j.started }), some jsOk)

/-- Ingest the next record of a job, or stop it where an abort or the watchdog has come first (R182, R596). Each record is a decision point: a job that has ended
reads none. The record's read is its Tarn's, for the Inlet's owner (R259). -/
def State.ingestNext (s : State) (id : Nat) (ans : List SnoopAnswer) : State :=
  match s.job id with
  | none => s
  | some j =>
    if j.st ≠ .ingest ∨ j.decided ∨ j.desc.ingestCount ≤ j.committed then s
    else if j.fails ≠ [] then s.finishJob id ((firstFail j.fails).getD jsAborted)
    else
      let slot := j.desc.source % 2 ^ 18
      let l := s.inlet j.inlet
      match s.seqAt slot with
      | none => s.finishJob id jsSeqNotFound
      | some q =>
        match s.ingestTarns j (s.openQuads q none (l.port / 2)) with
        | (s, .fail st) => s.finishJob id st
        | (s, .wait) => s
        | (s, .ready ts) =>
          let t := (ts.head?).elim 0 (·.2.2)
          let n := slotBytes q.heads (dimOf q.hdim)
          let va := q.windowVa + q.windowHead % (max 1 q.windowSlots) * n
          match s.access { endpoint := l.owner, srcKind := 1, srcIndex := t } q.asid va n false with
          | (s, .error _) => s.finishJob id jsXlatFault
          | (s, .ok _) =>
            match s.readVa l.owner q.asid q.tenant va ans (n / 64) with
            | (s, ls) =>
              match s.ingestRead j slot q ls with
              | (s, none) => s
              | (s, some st) =>
                if st = jsOk then
                  let s := s.updJob id (fun j => { j with committed := j.committed + 1 })
                  if j.desc.opcode = 2 ∧ j.committed + 1 = j.desc.ingestCount then s.finishJob id jsOk else s
                else
                  let bad := (ls.headD (poisonedLine .ok)).poison
                  (s.send (.result "INGEST_TAG" [id, if bad then 0 else recTag (ls.flatMap (·.data))])).finishJob id st

/-- INGEST_RECORD (R46 to R54, R596): one window record, checked, quantised and written for all heads. -/
def execIngestRecord (job : Nat) (ans : List SnoopAnswer) (s : State) : Answer := .next (s.ingestNext job ans)

/-- Records in a row; `fuel` is how many. -/
def State.ingestMany (s : State) (id : Nat) (ans : List SnoopAnswer) : Nat → State
  | 0 => s
  | n + 1 => State.ingestMany (s.ingestNext id ans) id ans n

/-- INGEST (R167): the job's records that are left, in ring order, to its end or to the first that is rejected. -/
def execIngest (job : Nat) (ans : List SnoopAnswer) (s : State) : Answer :=
  match s.job job with
  | none => .next s
  | some j => .next (s.ingestMany job ans (j.desc.ingestCount - j.committed))

/-! ### Start and stop packets, slices (R107, R148, R175, R181, R384) -/

/-- The slices a job has at a role, and whether the role merges for it (R175); of a job whose ingest runs, its ingest (R167). -/
def Job.workAt (j : Job) (q r : Nat) : Held :=
  { source := j.engine, job := j.id, role := r, slices := (j.slices.filter (fun x => x.quad == q && x.role == r)).map (·.id),
    merge := (j.merges.find? (fun m => m.quad == q && m.role == r)).map (·.final), ingest := j.st == .ingest }

/-- START_PACKET (R105, R106, R175): a start packet of a job reaches the Tarn of one of its roles, which queues the work; a role with no Tarn, or a Tarn that
takes none, or has no entry left, is answered for at once. An ingest's goes to the lowest role of a quadrant that holds the image (R167). -/
def execStartPacket (job : Nat) (quad : Fin 4) (role : Fin 24) (s : State) : Answer :=
  match s.job job with
  | none => .next s
  | some j =>
    let w := j.workAt quad role
    let ingests : Bool := j.st == .ingest && s.ingestRole quad ((s.inlet j.inlet).progOf j.desc) == some role.val
    if !(j.st == .decode || ingests) ∨ j.decided ∨ j.arrived.contains (quad.val, role.val) ∨ w.done then .next s
    else
      let s := s.putJob { j with arrived := j.arrived ++ [(quad.val, role.val)] }
      match s.roleTarn quad role with
      | none => .next (s.answerWork w none)
      | some t =>
        if s.tarnTakes t ∧ (s.tarn t).queue.length < 32 then .next (s.updTarn t (fun x => { x with queue := x.queue ++ [w] }))
        else .next (s.answerWork w (some t))

/-- STOP_PACKET (R181): a stop packet of a job that an abort or its watchdog stops reaches a Tarn, which ends the job's slices and sends failed partials. -/
def execStopPacket (job : Nat) (tarn : Fin 100) (s : State) : Answer :=
  match s.job job with
  | none => .next s
  | some j =>
    if j.decided ∨ !(j.fails.contains jsAborted || j.fails.contains jsTimeout) then .next s
    else
      let t := tarn.val
      let x := s.tarn t
      let mine (h : Held) : Bool := h.job == job
      let running := (x.run.filter (fun r => r.job == job && r.what == .worker)).toList.map (·.slice)
      let ids := running ++ ((x.queue ++ x.active).filter mine).flatMap (·.slices)
      let strip (l : List Held) : List Held :=
        (l.map (fun (h : Held) => if h.job = job then { h with slices := [], ingest := false } else h)).filter (fun h => !h.done)
      let ending : Bool := x.run.elim false (fun r => r.job == job && (r.what == .worker || r.what == .ingest))
      let y := { x with queue := strip x.queue, active := strip x.active }
      let s := if ending then (s.setTarn t y.idle).restState t else s.setTarn t y
      .next (s.failSlices job (some t) (if j.fails.contains jsTimeout then jsTimeout else jsAborted) none ids)

/-- The next work of a role at a Tarn: the job it has begun, else the oldest of the source whose turn it is (R107, R384). -/
def Tarn.nextWork (x : Tarn) (r : Nat) : Option Held :=
  match x.active.find? (fun h => h.role == r) with
  | some h => some h
  | none =>
    ((List.range 9).map (fun i => (x.turn + 1 + i) % 9)).findSome? (fun e => x.queue.find? (fun h => h.role == r && h.source == e))

/-- Where a role's image stands in a Tarn's program memory, in bundles (R107): after the first image when it is another. -/
def State.imageBase (s : State) (x : Tarn) (r : Nat) : Nat :=
  match x.progs with
  | (r0, i0) :: (r1, i1) :: _ => if r = r1 ∧ r0 ≠ r1 ∧ i0 ≠ i1 then (s.image i0).elim 0 (·.bundles) else 0
  | _ => 0

/-- The registers of R148 at the start of a slice, a merge or an ingest. At a merge or an ingest t1, t3 and t5, which tell of a slice, are 0. DESIGN CHOICE, log
entry 111. -/
def startRegs (j : Job) (what : Role) (sl : Option Slice) (m : Option Merge) : Tbl Nat :=
  let put (t : Tbl Nat) (r v : Nat) : Tbl Nat := Tbl.set (fun _ => 0) t r (v % 2 ^ 32)
  let t := put [] 1 (sl.elim 0 (·.blocks.length))
  let t := put t 2 (2 ^ j.desc.gLog2)
  let t := put t 3 (sl.elim 0 (fun x => x.head * 2 ^ j.desc.gLog2))
  let t := put t 4 (if what = .merge ∨ what = .final then m.elim 0 (·.announced) else 0)
  let t := put t 5 (sl.elim 0 (·.id))
  let t := put t 6 j.hdim
  put t 7 (match what with | .worker => 1 | .merge => 2 | .final => 4 | .ingest => 8)

/-- The stream descriptors of R148 and R177. -/
def startDescs (j : Job) (l : Inlet) (what : Role) (sl : Option Slice) : Tbl SDesc :=
  let put (t : Tbl SDesc) (r : Nat) (d : SDesc) : Tbl SDesc := Tbl.set (fun _ => {}) t r d
  let mem (kind base n : Nat) : SDesc := { kind := kind, base := base, count := n, len := n }
  let va := l.slotVa j.slot
  let t := match sl with | some x => put [] 0 { kind := 1, base := x.id, count := x.blocks.length, len := x.blocks.length } | none => []
  let t := if what = .ingest then t else put t 1 (mem 2 (va + 64) j.queryLen)
  let t := if what = .ingest then t else if what = .final then put t 2 (mem 3 j.desc.outVa j.desc.outLen) else put t 3 (mem 4 0 (partialBytes j.qh (dimOf j.hdim)))
  let t := if what = .worker ∨ what = .ingest then t else put t 4 (mem 5 0 (partialBytes j.qh (dimOf j.hdim)))
  put t 5 (mem 6 va 64)

/-- SLICE_START (R107, R148, R383, R384): a free Tarn takes its next work, returns the job's credit, and sets its registers for the slice, or the merge once the
job's slices here are done. -/
def execSliceStart (tarn : Fin 100) (s : State) : Answer :=
  let t := tarn.val
  let x := s.tarn t
  if x.run.isSome ∨ s.tarnFaulted t ∨ s.inL3 (unitKey 0 t) ∨ s.rst.l2 ≠ 0 then .next s
  else
    let ready := (s.rolesOf t).filterMap (fun r => if x.progs.any (fun p => p.1 == r) then x.nextWork r else none)
    match (ready.find? (fun h => h.role != x.lastRole)).or ready.head? with
    | none => .next s
    | some h =>
      match s.job h.job with
      | none => .next s
      | some j =>
        let sl := h.slices.head?.bind (fun i => j.slices.find? (fun y => y.id == i))
        let m := j.merges.find? (fun m => m.quad == t / 25 && m.role == h.role)
        let what := if h.ingest then Role.ingest else if sl.isSome then Role.worker else if h.merge = some true then Role.final else Role.merge
        let img := (x.progs.find? (fun p => p.1 == h.role)).bind (fun p => s.image p.2)
        let entry := match img with
          | none => 0
          | some i => match what with | .worker => i.worker | .merge => i.merge | .final => i.final | .ingest => i.ingest
        let rest : Held := { h with slices := h.slices.drop 1, merge := if sl.isSome then h.merge else none, ingest := false }
        let act := (x.active.filter (fun a => a.role != h.role)) ++ (if rest.done then [] else [rest])
        let s := s.putJob { j with started := if j.started.contains (t / 25, h.role) then j.started else j.started ++ [(t / 25, h.role)] }
        let tiles := (List.range 8).map (fun _ => emptyTile (dimOf j.hdim) 0)
        let s := s.setTarn t { x.idle with
          queue := x.queue.filter (fun y => y != h), active := act, lastRole := h.role, turn := if x.queue.contains h then h.source else x.turn,
          run := some { job := h.job, role := h.role, what := what, slice := sl.elim 0 (·.id), pc := s.imageBase x h.role + entry },
          t := startRegs j what sl m, v := [], a := tiles, s := startDescs j (s.inlet j.inlet) what sl }
        .next ((s.setTarnState t 1).put (R.TARN_STATUS t) F.TARN_STATUS_PROG_ID ((x.progs.find? (fun p => p.1 == h.role)).elim 0 (·.2)))

/-- PARTIAL_ARRIVAL (R28, R94, R178 to R180): the partial record at an index of those on their way reaches its merge Tarn's receive ring. -/
def execPartialArrival (index : Nat) (ans : List SnoopAnswer) (s : State) : Answer :=
  match s.jobs.flights[index]? with
  | none => .next s
  | some f => .next (State.arrivePartial { s with jobs := { s.jobs with flights := s.jobs.flights.eraseIdx index } } f ans)

/-- FAILED_PARTIAL (R105, R157): the failed partial at an index of those on their way reaches its merge Tarn. -/
def execFailedPartial (index : Nat) (s : State) : Answer :=
  match s.jobs.fails[index]? with
  | none => .next s
  | some f => .next (State.arriveFailed { s with jobs := { s.jobs with fails := s.jobs.fails.eraseIdx index } } f)

/-- JOB_TIMEOUT (R184): the watchdog of a job that has started expires before its decision point; it is stopped as an abort stops it. -/
def execJobTimeout (job : Nat) (s : State) : Answer :=
  match s.job job with
  | none => .next s
  | some j => if (j.st = .decode ∨ j.st = .ingest) ∧ !j.decided then .next (s.failJob job jsTimeout) else .next s

/-! ### Reading blocks (R81, R86, R98) -/

/-- A block as a Tarn has read it: its lines, what MSCORE needs, whether it counts as poisoned, and whether its check sum was not compared. -/
structure BlockRead where
  lines : List (Nat × LineRead)
  data : BlockData
  poisoned : Bool
  unchecked : Bool

/-- Read lines of a frame as a Tarn does, at its job's tenant (R262). -/
def State.readTarnLines (s : State) (pa tenant : Nat) : List Nat → State × List (Nat × LineRead)
  | [] => (s, [])
  | o :: t =>
    match s.memRead (pa + 64 * o) (some tenant) tenant with
    | (s, r) =>
      match State.readTarnLines s pa tenant t with
      | (s, l) => (s, (o, r) :: l)

def imageOf (l : List (Nat × LineRead)) : FrameImg := l.map (fun x => (x.1, x.2.data))

/-- The outlier entries of the tokens read, with the lines that hold them (R43, R81): entry by entry to the first of a token not read. -/
def State.readOutliers (s : State) (pa tenant d m : Nat) (have_ : List (Nat × LineRead)) (i : Nat) : Nat → State × List (Nat × LineRead)
  | 0 => (s, have_)
  | n + 1 =>
    let o := outlierOff d i / 64
    let r : State × List (Nat × LineRead) :=
      if have_.any (fun x => x.1 == o) then (s, have_)
      else match s.readTarnLines pa tenant [o] with | (s, l) => (s, have_ ++ l)
    let v := (imageOf r.2).num (outlierOff d i) 4
    if m ≤ tokenOf d (bitsOf v 16 13) then r else State.readOutliers r.1 pa tenant d m r.2 (i + 1) n

/-- Read a block for a job (R43 to R45, R81, R86, R98): its header once, and then the lines that carry data of the tokens below the job's length. -/
def State.readBlock (s : State) (j : Job) (b : Nat) : State × BlockRead :=
  let tenant := (s.inlet j.inlet).tenant
  let pa := match j.frames.find? (fun f => f.1 == b) with | some f => f.2 | none => (s.blk b).elim 0 (·.pa)
  match s.readTarnLines pa tenant [0] with
  | (s, hl) =>
    let h := headerOf (hl.flatMap (·.2.data))
    let d := dimOf j.hdim
    let f := j.fmt
    let m := min (min h.tokens 256) (j.length - h.first)
    let bad0 := hl.any (fun x => x.2.poison) || h.format != j.fmt || h.hdim != j.hdim
    let empty : BlockData := { format := f, d := d, tokens := 0, image := imageOf hl, outl := [] }
    if bad0 then (s, { lines := hl, data := empty, poisoned := true, unchecked := m != h.tokens })
    else
      match s.readTarnLines pa tenant (scaleLines d m ++ elemLines f d m) with
      | (s, l1) =>
        let r2 : State × List (Nat × LineRead) := if f = 8 then (s, hl ++ l1) else s.readOutliers pa tenant d m (hl ++ l1) 0 (min h.outliers (outlierCap d))
        let n := min (promCount (imageOf r2.2) d m) (promCap d)
        let r3 : State × List (Nat × LineRead) := if f = 8 ∨ n = 0 then (r2.1, []) else r2.1.readTarnLines pa tenant (spanLines (64 + 64 * d) (64 + 64 * d + 32 * n))
        let ls := r2.2 ++ r3.2
        let im := imageOf ls
        let outl := if f = 8 then [] else usedOutliers im d m 0 (min h.outliers (outlierCap d))
        let whole : Bool := m == h.tokens
        let bad := ls.any (fun x => x.2.poison) || (groupsBelow d m).any (fun g => swBad (im.num (scaleOff g) 2))
          || (whole && checkSum im f d m outl != h.checksum)
        (r3.1, { lines := ls, data := { format := f, d := d, tokens := m, image := im, outl := outl }, poisoned := bad, unchecked := !whole })

/-- A Tarn's stream engine reports one read of a sealed block in 2^SAMPLE_LOG2 to its Steward, by a draw (R223). -/
def State.sampleRead (s : State) (b : Nat) : State :=
  let shut : Bool := (s.blk b).elim false (·.shut)
  let r := s.kv.reports
  let kv : Kv := { s.kv with reports := if shut && Config.draw s.fresh % 2 ^ s.param 2 == 0 then r ++ [b] else r }
  State.tick { s with kv := kv }

/-- Count a block that a Tarn has taken (R103, R115, R223), at the Tarn and in the job. -/
def State.countBlock (s : State) (t : Nat) (id b : Nat) (r : BlockRead) : State :=
  let spill : Bool := match s.job id with
    | none => false
    | some j => match j.frames.find? (fun f => f.1 == b) with | some f => spillBase ≤ f.2 | none => false
  let s := (s.sampleRead b).bump (R.TARN_CNT_BLOCKS t)
  let s := if r.poisoned then (s.bump (R.TARN_CNT_POISONED t)).setErr (R.TARN_ERR t) F.TARN_ERR_POISON_SEEN else s
  let s := if r.unchecked then s.bump (R.TARN_CNT_UNCHECKED t) else s
  let s := if spill then s.bump (R.TARN_CNT_SPILL t) else s
  s.updJob id (fun j => { j with blocks := satAdd j.blocks 1 u32Max, unchecked := satAdd j.unchecked (if r.unchecked then 1 else 0) u32Max,
                                 spill := satAdd j.spill (if spill then 1 else 0) u32Max })

/-- Count saturation events at a Tarn (R97, R115). -/
def State.countSat (s : State) (t : Nat) (c : SatCount) : State :=
  if c.score + c.value + c.sum = 0 then s
  else (((s.bump (R.TARN_CNT_SAT_SCORE t) c.score).bump (R.TARN_CNT_SAT_VALUE t) c.value).bump (R.TARN_CNT_SAT_SUM t) c.sum).setErr
    (R.TARN_ERR t) F.TARN_ERR_SAT_SEEN

/-! ### A decode job as a whole (R27, R84 to R99) -/

/-- One block through every tile of a slice (R99): a poisoned block marks them. -/
def blockTiles (r : BlockRead) (scale : Nat) (valExp : Int) (qs : List (List Group)) (tiles : List Tile) : List Tile × SatCount :=
  if r.poisoned then (tiles.map (fun x => { x with poison := true }), {})
  else (List.range tiles.length).foldl (fun acc i =>
    match acc.1[i]?, qs[i]? with
    | some x, some q =>
      let y := x.block r.data scale valExp q
      (acc.1.set i y.1, acc.2.add y.2)
    | _, _ => acc) (tiles, {})

/-- The blocks of a slice in the order in which they are taken. -/
def State.runBlocks (s : State) (t id : Nat) (qs : List (List Group)) (tiles : List Tile) : List Nat → State × List Tile
  | [] => (s, tiles)
  | b :: rest =>
    match s.job id with
    | none => (s, tiles)
    | some j =>
      match s.readBlock j b with
      | (s, r) =>
        let y := blockTiles r j.desc.scale j.desc.valExp qs tiles
        State.runBlocks ((s.countBlock t id b r).countSat t y.2) t id qs y.1 rest

/-- A list of positions put first, in their order, then the rest (R96 leaves the order open). -/
def inOrder {α : Type} (l : List α) (order : List Nat) : List α :=
  let n := l.length
  let o := order.foldl (fun acc i => if i < n && !acc.contains i then acc ++ [i] else acc) []
  ((o ++ (List.range n).filter (fun i => !o.contains i)).filterMap (fun i => l[i]?))

/-- Run one slice on its Tarn: the query heads read and rotated, every block scored and accumulated, and the partial sent and received by its merge. -/
def State.runSlice (s : State) (id : Nat) (sl : Slice) (order : List Nat) (ans : List SnoopAnswer) : State :=
  match s.job id with
  | none => s
  | some j =>
    match s.roleTarn sl.quad sl.role with
    | none => s.arriveFailed { job := id, quad := sl.quad, slices := 1, status := jsTarnFault, exc := none }
    | some t =>
      if !s.tarnTakes t then (s.bump (R.TARN_CNT_FAILED t)).arriveFailed { job := id, quad := sl.quad, slices := 1, status := jsTarnFault, exc := none }
      else
        let l := s.inlet j.inlet
        let d := dimOf j.hdim
        let g := 2 ^ j.desc.gLog2
        match s.access { endpoint := l.owner, srcKind := 1, srcIndex := t } l.asid (l.slotVa j.slot + 64) j.queryLen false with
        | (s, .error _) => s.arriveFailed { job := id, quad := sl.quad, slices := 1, status := jsXlatFault, exc := none }
        | (s, .ok _) =>
          match s.readVa l.owner l.asid l.tenant (l.slotVa j.slot + 64) ans ((j.queryLen + 63) / 64) with
          | (s, ls) =>
            let q := ls.flatMap (·.data)
            let bad := (List.range ls.length).filter (fun i => (ls[i]?).elim false (·.poison))
            let heads := (List.range g).map (fun k => sl.head * g + k)
            let hurt (h : Nat) : Bool := queryPoisoned bad j.qh d h
            let qs := heads.map (fun h => if hurt h then [] else rotateQuery d (qWord q h) (qElems q j.qh d h))
            let tiles := heads.map (fun h => { emptyTile d h with poison := hurt h })
            let s := if heads.any hurt then s.setErr (R.TARN_ERR t) F.TARN_ERR_POISON_SEEN else s
            match s.runBlocks t id qs tiles (inOrder sl.blocks order) with
            | (s, tl) =>
              let r : Partial := { sliceId := sl.id, slices := 1, hdim := j.hdim, valExp := j.desc.valExp, tiles := tl }
              let s := s.bump (R.TARN_CNT_SLICES t)
              let s := s.updJob id (fun j => { j with slices := j.slices.map (fun (y : Slice) => if y.id = sl.id then { y with sent := true } else y) })
              s.arrivePartial { job := id, quad := sl.quad, bytes := r.bytes } ans

/-- Deliver every record and failed partial of a job that is on its way, oldest first; `fuel` bounds them. -/
def State.drainJob (s : State) (id : Nat) (ans : List SnoopAnswer) : Nat → State
  | 0 => s
  | n + 1 =>
    match s.jobs.flights.find? (fun f => f.job == id) with
    | some f => State.drainJob (State.arrivePartial { s with jobs := { s.jobs with flights := s.jobs.flights.erase f } } f ans) id ans n
    | none =>
      match s.jobs.fails.find? (fun f => f.job == id) with
      | none => s
      | some f => State.drainJob (State.arriveFailed { s with jobs := { s.jobs with fails := s.jobs.fails.erase f } } f) id ans n

/-- DECODE (R27 to R29, R84 to R95): a validated decode job of which nothing has begun runs whole: its slices in an order, each one's blocks in an order, as the
network delivers them (R96), its merges, its output, its completion record and its notify packet. -/
def execDecode (job : Nat) (order : List (Nat × List Nat)) (ans : List SnoopAnswer) (s : State) : Answer :=
  match s.job job with
  | none => .next s
  | some j =>
    if j.st ≠ .decode ∨ j.decided ∨ j.started ≠ [] ∨ j.arrived ≠ [] then .next s
    else
      let sl := inOrder j.slices (order.map (·.1))
      .next (sl.foldl (fun s x =>
        (s.runSlice job x (((order.find? (fun o => o.1 == x.id)).map (·.2)).getD []) ans).drainJob job ans 8) s)

/-! ### Inlet configuration (R159, R189, R190) -/

/-- Show an Inlet in the staging registers. -/
def State.showInlet (s : State) (i : Nat) : State :=
  let l := s.inlet i
  let w0 := l.owner + l.tenant * 2 ^ 12 + l.asid * 2 ^ 20 + l.port * 2 ^ 36 + (if l.enable then 2 ^ 39 else 0) + l.ringLog2 * 2 ^ 40
    + l.slotLog2 * 2 ^ 44 + l.qos * 2 ^ 49 + (if l.bound.isSome then 2 ^ 51 else 0)
  (((s.setReg R.JOB_ICFG0 (BitVec.ofNat 64 w0)).setReg R.JOB_ICFG1 (BitVec.ofNat 64 l.ringVa)).setReg R.JOB_ICFG2 (BitVec.ofNat 64 l.cplVa)).setReg
    R.JOB_ICFG3 (BitVec.ofNat 64 (l.tail + l.started * 2 ^ 16 + l.completed * 2 ^ 32))

/-- INLET_CONFIG_READ (R190): JOB_ICFG_CMD OP 1. -/
def execInletConfigRead (s : State) : Answer := .next (s.showInlet (s.get R.JOB_ICFG_SEL F.JOB_ICFG_SEL_INLET))

/-- The staging registers as an Inlet's configuration; counts and binding are the Inlet's own. -/
def State.stagedInlet (s : State) (l : Inlet) : Inlet :=
  { l with owner := s.get R.JOB_ICFG0 F.JOB_ICFG0_OWNER, tenant := s.get R.JOB_ICFG0 F.JOB_ICFG0_TENANT, asid := s.get R.JOB_ICFG0 F.JOB_ICFG0_ASID,
           port := s.get R.JOB_ICFG0 F.JOB_ICFG0_PORT, enable := s.flag R.JOB_ICFG0 F.JOB_ICFG0_ENABLE,
           ringLog2 := s.get R.JOB_ICFG0 F.JOB_ICFG0_RING_LOG2, slotLog2 := s.get R.JOB_ICFG0 F.JOB_ICFG0_SLOT_LOG2,
           qos := s.get R.JOB_ICFG0 F.JOB_ICFG0_QOS_CLASS, ringVa := s.get R.JOB_ICFG1 F.JOB_ICFG1_RING_VA,
           cplVa := s.get R.JOB_ICFG2 F.JOB_ICFG2_CPL_VA }

/-- Whether every field of a configuration lies in its range (R189). -/
def Inlet.inRange (l : Inlet) : Bool :=
  1 ≤ l.ringLog2 && l.ringLog2 ≤ 12 && 8 ≤ l.slotLog2 && l.slotLog2 ≤ 16 && l.ringVa % 4096 == 0 && l.cplVa % 4096 == 0

/-- INLET_CONFIG_WRITE (R159, R190): JOB_ICFG_CMD OP 2. Refused: a change of an enabled Inlet other than clearing ENABLE, an enable while TAIL and COMPLETED
differ, a field out of range. Enabling zeroes the counts. -/
def execInletConfigWrite (s : State) : Answer :=
  let i := s.get R.JOB_ICFG_SEL F.JOB_ICFG_SEL_INLET
  let l := s.inlet i
  let n := s.stagedInlet l
  let same : Bool := { n with enable := l.enable } == l
  if (l.enable && !same) || (!l.enable && n.enable && l.tail != l.completed) || !n.inRange then
    .next ((s.putFlag R.JOB_ICFG_CMD F.JOB_ICFG_CMD_FAIL true).setErr R.JOB_ERR F.JOB_ERR_ICFG_FAIL)
  else
    let n := if !l.enable && n.enable then { n with tail := 0, started := 0, completed := 0, aborts := [] } else n
    .next ((s.putFlag R.JOB_ICFG_CMD F.JOB_ICFG_CMD_FAIL false).setInlet i n)

/-! ### Mirrored writes performed (R436) -/

/-- The partner's CMP for a change of control state has arrived over the Twin link: the partner holds the change (R73, R253, R367, R434). -/
def State.changeHeld (s : State) (bs : List Byte) : State :=
  let w0 := leNat (bs.take 8)
  if pkClass w0 = 0 ∧ pkOp w0 = 1 then
    let s := s.takeDelivered 8 bs
    match s.pair.mirror.find? (fun w => w.ctl.isSome && w.id % 65536 == pkTxn w0) with
    | none => s
    | some w => (s.mirrorAcked w.id).releaseJobs
  else s

/-- Take every CMP that the Twin link has delivered. -/
def State.changesHeld (s : State) : State := (s.link 8).delivered.foldl State.changeHeld s

/-- MIRROR_ACK (R309, R436): the mirrored write counts as performed; what waited for it is sent, and completions that waited are written. -/
def execMirrorAck (head : PacketHead) (s : State) : Answer :=
  let w0 := head.w0.toNat
  let s := s.takeDelivered 8 (pkBytes w0 head.w1.toNat [])
  if !pkFormed w0 0 3 (phReserved head.w1.toNat) [] [0] then .next (s.malformedTwin w0)
  else match s.pair.mirror.find? (fun w => w.sent && w.ctl.isNone && w.id % 65536 == pkTxn w0) with
    | none => .next s
    | some w => .next (((s.bump R.PAIR_CNT_MIRROR_LINES).mirrorAcked w.id).releaseJobs)

end Sys2Proof.Machine
end

