-- ==== Sys2Proof/Machine/Deaths.lean ====
section
/-!
DEFINITION. Clients that die or let go (R362 to R368), the sweeps of basins, and what a port's schedulers serve (R380, R382).
-/
namespace Sys2Proof.Machine

/-! ### A client is declared dead (R362, R363) -/

/-- Step 2 of R363: held snoops of a client are answered RSP_I, and acknowledgements it owes are taken as given. -/
def DirTxn.excuse (t : DirTxn) (e : Nat) : DirTxn :=
  let owed (r : SnoopRec) : Bool := r.ep == e && !t.recDone r
  { t with snoops := t.snoops.map (fun (r : SnoopRec) => if owed r then { r with answer := some 0, data := none } else r),
           ptrs := (dropPtr (t.st, t.ptrs) (some e)).2,
           granted := t.granted && t.req.ep != e }

/-- Step 3: each line the client held in EX is poisoned and goes to I; its pointers go; SB is unchanged. -/
def State.dropClient (s : State) (e : Nat) : State :=
  s.home.entries.foldl (fun s x =>
    let pa := 64 * x.1
    let en := s.dirEntry pa
    if en.st = .sb ∨ !en.ptrs.contains e then s
    else if en.st = .ex ∨ en.st = .exi then (s.poisonLine pa).setDir pa .i [] 0
    else
      let l := en.ptrs.filter (· != e)
      if l = [] ∧ en.imask = 0 then s.setDir pa .i [] 0 else s.putEntry pa { en with ptrs := l }) s

/-- Step 5: the client leaves every sharer set, and a death sweep starts for each basin it was in. -/
def State.leaveSharers (s : State) (e : Nat) (kind : SweepKind) : State :=
  let mine := (s.home.sharers.filter (fun x => x.2.contains e)).map (·.1)
  mine.foldl (fun s b =>
    let s := if kind = .death then s.setSharers b ((s.sharers b).filter (· != e)) else s
    { s with home := { s.home with sweeps := s.home.sweeps ++ [{ kind := kind, basin := b, ep := e }] } }) s

/-- Let every line whose transaction has become complete go on. -/
def State.settleTxns (s : State) : State :=
  let pas := s.home.txns.map (·.req.pa)
  let s := pas.foldl (fun s pa => s.checkTxn pa) s
  ((s.home.txns.map (·.req.pa)).foldl (fun s pa => s.endTxn pa) s).pumpAll

/-- Notify packets that wait on a link for a dead client cannot be delivered (R180). -/
def State.dropNotifies (s : State) (e : Nat) : State :=
  let theirs (p : LinkPkt) : Bool := p.op == "NOTIFY" && p.ep == e
  (List.range 8).foldl (fun s n =>
    let q := (s.link n).queue
    if q.any theirs then
      (q.filter theirs).foldl (fun s _ => s.notifyLost) (s.updLink n (fun l => { l with queue := q.filter (fun p => !theirs p) }))
    else s) s

/-- A client is declared dead (R362, R363). Its requests that wait are answered DENIED as those that arrive. -/
def State.declareDead (s : State) (e : Nat) : State :=
  if s.isDead e then s
  else
    let off := R.DIR_DEAD (e / 64)
    let s := s.setReg off (s.reg off ||| BitVec.ofNat 64 (2 ^ (e % 64)))
    let s := (s.setErr R.DIR_ERR F.DIR_ERR_DEATH).bump R.DIR_CNT_DEATHS
    let h := s.home
    let theirs (r : HomeReq) : Bool := r.ep == e && r.op != HomeOp.recall
    let gone := h.waiting.filter theirs
    let s : State := { s with home := { h with waiting := h.waiting.filter (fun r => !theirs r), txns := h.txns.map (fun (t : DirTxn) => t.excuse e) } }
    let s := gone.foldl (fun s r => s.sendPkt (cmpTo e r.txn stDenied)) s
    let s := ((s.dropClient e).dropPins e).dropNotifies e
    let mine := s.jobs.inlets.filter (fun x => x.2.owner == e)
    let s := mine.foldl (fun (s : State) (x : Nat × Inlet) => s.setInlet x.1 { x.2 with enable := false }) s
    (s.leaveSharers e .death).settleTxns

/-- SNOOP_TIMEOUT (R362): a snoop or an acknowledgement a client owes has gone unanswered for SNOOP_US. -/
def execSnoopTimeout (ep : BitVec 12) (s : State) : Answer :=
  let e := ep.toNat
  let owes : Bool := s.home.txns.any (fun t => (t.granted && t.req.ep == e) || t.snoops.any (fun r => r.ep == e && !t.recDone r))
  if owes && !s.isDead e then .next ((s.setErr R.DIR_ERR F.DIR_ERR_SNOOP_TIMEOUT).declareDead e) else .next s

/-- UNREACH_DEATH (R295, R362). -/
def execUnreachDeath (ep : BitVec 12) (s : State) : Answer :=
  if s.fab.unreach.contains ep.toNat then .next (s.declareDead ep.toNat) else .next s

def State.dirStatus (s : State) (ep v : Nat) : State :=
  (s.put R.DIR_CMD F.DIR_CMD_ENDPOINT ep).put R.DIR_CMD F.DIR_CMD_STATUS v

/-- DECLARE_DEAD (R362, R372). -/
def execDeclareDead (ep : BitVec 12) (s : State) : Answer :=
  let e := ep.toNat
  if s.flag R.DIR_CMD F.DIR_CMD_BUSY then .next s
  else if s.boundTo e = none then .next (s.dirStatus e 1)
  else if s.isDead e then .next (s.dirStatus e 2)
  else .next ((s.declareDead e).dirStatus e 0)

/-! ### Release (R364, R365) -/

/-- The last release sweep has ended: the endpoint leaves the sharer sets and the command completes. -/
def State.releaseDone (s : State) : State :=
  match s.home.releasing with
  | none => s
  | some e =>
    if s.home.sweeps.any (fun w => w.kind == .release && w.ep == e) then s
    else
      let mine := (s.home.sharers.filter (fun x => x.2.contains e)).map (·.1)
      let s := mine.foldl (fun s b => s.setSharers b ((s.sharers b).filter (· != e))) s
      let s := { s with home := { s.home with releasing := none } }
      (s.putFlag R.DIR_CMD F.DIR_CMD_BUSY false).dirStatus e 0

/-- RELEASE (R365, R372): every entry that names the endpoint is recalled from it, and a release sweep starts for each basin it is in. -/
def execRelease (ep : BitVec 12) (s : State) : Answer :=
  let e := ep.toNat
  if s.flag R.DIR_CMD F.DIR_CMD_BUSY then .next s
  else if s.boundTo e = none then .next (s.dirStatus e 1)
  else if s.isDead e then .next (s.dirStatus e 2)
  else
    let s := (s.putFlag R.DIR_CMD F.DIR_CMD_BUSY true).put R.DIR_CMD F.DIR_CMD_ENDPOINT e
    let l := (s.home.entries.filter (fun x => x.2.ptrs.contains e)).map (fun x => s.recallReq (64 * x.1) true (some e))
    let h := s.home
    let s := { s with home := { h with waiting := h.waiting ++ l, releasing := some e } }
    .next ((s.leaveSharers e .release).pumpAll.releaseDone)

/-! ### Sweeps (R364, R368) -/

/-- The lines of a basin's mapped part whose summary is OWNED, with no entry and no transaction. -/
def State.ownedLines (s : State) (b : Basin) : List Nat :=
  (s.pool.side.filter (fun x => x.2.summary == 2 && b.mapped.any (fun r => (r.locate s.unitBytes (64 * x.1)).isSome)
    && (s.dirEntry (64 * x.1)).st == .i && (s.busyTxn (64 * x.1)).isNone)).map (fun x => 64 * x.1)

/-- A sweep's recall of one line: SNP_RECALL to every member or to one client; data returned is kept. Whether any client supplied data. -/
def State.sweepLine (s : State) (basin tenant pa : Nat) (who : Option (List Nat)) (ans : List SnoopAnswer) : State × Bool :=
  let x := s.snoopNow basin tenant pa .recall who ans
  match x.1.oneSupply pa who.isNone x.2.2 with
  | (s, some d) => (((s.memWrite pa (some tenant) tenant d.1 d.2).1).setSummary pa 0, true)
  | (s, none) => (s, false)

/-- The lines of a 64 KiB unit of a basin's mapped part (R367). -/
def State.chunkLines (s : State) (b : Basin) (chunk : Nat) : List Nat :=
  (List.range 1024).filterMap (fun k => (b.paOf s.unitBytes (b.tpa * s.unitBytes + chunk * 65536 + 64 * k)).map (·.1))

/-- What a sweep does to the lines it meets. -/
def State.runSweep (s : State) (w : Sweep) (ans : List SnoopAnswer) : State :=
  match s.basin w.basin with
  | none => s
  | some b =>
    match w.kind with
    | .death =>
      (s.ownedLines b).foldl (fun s pa =>
        match s.sweepLine w.basin b.tenant pa none ans with
        | (s, true) => s
        | (s, false) => (s.poisonLine pa).setSummary pa 0) s
    | .release => (s.ownedLines b).foldl (fun s pa => (s.sweepLine w.basin b.tenant pa (some [w.ep]) ans).1) s
    | .takeover =>
      let mine := (s.home.suspects.filter (fun x => x.1 == w.basin)).map (·.2)
      let s := (mine.flatMap (s.chunkLines b)).foldl (fun s pa =>
        if (s.dirEntry pa).st != .i || (s.busyTxn pa).isSome then s
        else (((s.sweepLine w.basin b.tenant pa none ans).1).setSummary pa 0)) s
      let h := s.home
      let left := h.suspects.filter (fun x => x.1 != w.basin)
      { s with home := { h with suspects := left, takeover := h.takeover && left != [] } }

/-- A sweep's recalls still wait for a Pond or channel in reset (R375). -/
def State.sweepWaits (s : State) (w : Sweep) : Bool :=
  match s.basin w.basin with
  | none => false
  | some b =>
    let lines := if w.kind = .takeover then ((s.home.suspects.filter (fun x => x.1 == w.basin)).map (·.2)).flatMap (s.chunkLines b) else s.ownedLines b
    lines.any s.unitInReset

/-- SWEEP_DONE (R364, R368, R375): the oldest sweep of this kind of a basin reaches its end, unless it still waits for a unit in reset. Its recalls and their
answers come with it. -/
def execSweepDone (kind : Fin 3) (basin : BitVec 16) (ans : List SnoopAnswer) (s : State) : Answer :=
  let k : SweepKind := if kind = 0 then .death else if kind = 1 then .release else .takeover
  match s.home.sweeps.find? (fun w => w.kind == k && w.basin == basin.toNat) with
  | none => .next s
  | some w =>
    if s.sweepWaits w then .next s else
    let s := s.runSweep w ans
    let s := { s with home := { s.home with sweeps := s.home.sweeps.erase w } }
    .next ((s.setErr R.DIR_ERR F.DIR_ERR_SWEEP_DONE).releaseDone.pumpAll)

/-! ### Schedulers (R380, R382) -/

/-- An item that a port's scheduler serves goes on its way. A client declared dead since is answered DENIED (R362). -/
def State.runIngress (s : State) (ans : List SnoopAnswer) : Ingress → State
  | .home r => if s.isDead r.ep then s.sendPkt (cmpTo r.ep r.txn stDenied) else s.runHome r
  | .sync r =>
    if s.isDead r.endpoint then s.sendPkt (cmpTo r.endpoint r.tid stDenied)
    else if 64 ≤ s.xlat.waiting.length then s.answerSync r.endpoint r.tid r.tag .retryAfter
    else (s.joinInvs (.sync r)).pumpWork
  | .doorbell ep txn _ word => if s.isDead ep then s.sendPkt (cmpTo ep txn stDenied) else s.runDoorbell ep txn word
  | .bulkRead ep txn p t a n => if s.isDead ep then s.sendPkt (cmpTo ep txn stDenied) else s.runBulkRead ep txn p t a n ans
  | .bulkWrite ep txn p t a k d => if s.isDead ep then s.sendPkt (cmpTo ep txn stDenied) else s.runBulkWrite ep txn p t a k d ans

/-- A scheduler serves its head item; while both hold items they take opportunities in turn (R382). -/
def State.serve (s : State) (port : Nat) (bulk : Bool) (ans : List SnoopAnswer) : State :=
  let a := s.adm port
  if a.bulkTurn != bulk && (a.sched (!bulk)).queues != [] then s
  else
    match s.takeItem port bulk with
    | (s, none) => s
    | (s, some i) => s.runIngress ans i

/-- REQUEST_SCHEDULER_SERVE (R380, R382). -/
def execRequestSchedulerServe (port : Fin 8) (ans : List SnoopAnswer) (s : State) : Answer := .next (s.serve port false ans)

/-- BULK_SCHEDULER_SERVE (R380, R382). -/
def execBulkSchedulerServe (port : Fin 8) (ans : List SnoopAnswer) (s : State) : Answer := .next (s.serve port true ans)

end Sys2Proof.Machine
end

