-- ==== Sys2Proof/Machine/Ras.lean ====
section
/-!
DEFINITION. Self-tests and repair of rows (R403 to R405), patrol scrub (R406, R407), uncorrectable lines (R408), triplicated words (R410, R411),
rebuild of a degraded stack (R417, R418), and the commands of RAS_CMD but EVACUATE (R426).
-/
namespace Sys2Proof.Machine

/-- The Steward of a quadrant is not lost (R21). -/
def State.stewardUp (s : State) (q : Nat) : Bool := !bitOf (s.get R.WELL_CORESTAT F.WELL_CORESTAT_STEWARD_LOST) q

def unitQuad (u : Nat) : Nat := if u < 384 then u / 96 else (u - 384) / 3

/-! ### Targeted self-test (R403, R404) -/

def Chan.testOf (c : Chan) (pc : Nat) : Option SeepTest := c.test.find? (fun t => t.pc == pc)

/-- TARGETED_SELF_TEST (R403): the first row that waits in a pseudo-channel is copied into the Seep's row buffer, one test there at a time; a paused
pseudo-channel makes it wait. Accesses of the row go on as before, from the buffer. -/
def execTargetedSelfTest (unit : Fin 396) (pc : Fin 2) (s : State) : Answer :=
  let u := unit.val
  let c := s.chan u
  if !s.chServes u ∨ (c.pc pc).paused ∨ (c.testOf pc).isSome then .next s
  else match c.order.find? (fun e => s.celogValid u e && pcOf (s.celogPa u e) == pc.val) with
    | none => .next s
    | some e =>
      let pa := s.celogPa u e
      let c := { c with order := c.order.filter (· != e), test := c.test ++ [{ pc := pc, bank := bankOf pa, row := rowOf pa, entry := e }] }
      .next ((s.setChan u c).setCelogState u e 2)

/-- A row's remap (R404): a free retirement row of its bank, while the pseudo-channel's table of 64 has room. -/
def Chan.retireRow (c : Chan) (pc bank row : Nat) : Option Chan :=
  let mine := c.remap.filter (fun m => m.1 == pc)
  if 64 ≤ mine.length then none
  else ([65532, 65533, 65534, 65535].find? (fun r => !(mine.any (fun m => m.2.1 == bank && m.2.2.2 == r)))).map
    (fun r => { c with remap := (pc, bank, row, r) :: c.remap })

/-- A lasting fault is repaired in the first way available (R404, R405). -/
def State.repairRow (s : State) (u : Nat) (t : SeepTest) : State :=
  let s := (s.bump R.RAS_CNT_TEST_LASTING).setErr R.RAS_ERR F.RAS_ERR_LASTING
  let c := s.chan u
  let left := Tbl.get (fun _ => 0) c.soft t.bank
  let listed (s : State) (spare : Option Nat) : State :=
    { s with ras := { s.ras with repairs := s.ras.repairs ++ [{ unit := u, pc := t.pc, bank := t.bank, row := t.row, spare := spare, hard := false }] } }
  if 0 < left then
    let s := listed (s.setChan u { c with soft := Tbl.set (fun _ => 0) c.soft t.bank (left - 1) }) none
    (s.setCelogState u t.entry 4).bump R.RAS_CNT_SOFT_REPAIRS
  else
    match if u < 384 then c.retireRow t.pc t.bank t.row else none with
    | some d =>
      let s := listed (s.setChan u d) ((d.remap.head?).map (·.2.2.2))
      (s.setCelogState u t.entry 5).bump R.RAS_CNT_ROW_RETIRES
    | none => (s.setCelogState u t.entry 6).setErr R.RAS_ERR F.RAS_ERR_REPAIR_FAIL

/-- SELF_TEST_HOLD_END (R403 steps 4 and 5, R404): the row is compared; a third test in a row that comes out transient counts as a lasting fault. -/
def execSelfTestHoldEnd (unit : Fin 396) (pc : Fin 2) (miscompare : Bool) (s : State) : Answer :=
  let u := unit.val
  let c := s.chan u
  match c.testOf pc with
  | none => .next s
  | some t =>
    if (c.pc pc).paused then .next s
    else
      let key := rowKey (s.celogPa u t.entry)
      let n := if miscompare then 0 else Tbl.get (fun _ => 0) c.transient key + 1
      let lasting : Bool := miscompare || 3 ≤ n
      let c := { c with test := c.test.filter (fun x => x.pc != pc.val),
                        transient := Tbl.set (fun _ => 0) c.transient key (if lasting then 0 else n) }
      let s := s.setChan u c
      let s := if miscompare then s else s.bump R.RAS_CNT_TEST_TRANSIENT
      .next (if lasting then s.repairRow u t else s.setCelogState u t.entry 3)

/-! ### Scrub (R406, R407) -/

/-- The lines a patrol covers: rows 0 to 61,439, and spare rows that hold rebuilt data or a retired row; in Spillway the populated capacity. -/
def State.patrols (s : State) (u pa : Nat) : Bool :=
  if 384 ≤ u then spillOff pa < s.spillBytes (u - 384)
  else if !isSpare pa then true
  else
    (s.chan u).remap.any (fun m => m.1 == pcOf pa && m.2.1 == bankOf pa && m.2.2.2 == rowOf pa)
      || (List.range 12).any (fun f => s.stackState f != 0 && (List.range 11).any (fun k =>
          let n := (bitsOf pa 0 36 - 0xF00000000) / 4096 * 11 + k
          n < s.watermark f && spareUnit f n / 4096 == pa / 4096))

/-- Lines that one patrol pass of a channel reads: those of rows 0 to 61,439, or of the populated capacity; those of its retirement rows in use, and of the spare
rows that hold rebuilt data (R406). -/
def State.patrolLines (s : State) (u : Nat) : Nat :=
  if 384 ≤ u then max 1 (s.spillBytes (u - 384) / 64)
  else
    let rebuilt := ((List.range 12).filter (fun f => s.stackState f != 0)).foldl (fun n f => n + s.watermark f / 11 * 64 / 32) 0
    61440 * 16 * 16 * 2 + 16 * (s.chan u).remap.length + rebuilt

/-- SCRUB_READ (R400, R406, R407): the patrol reads a line, under the error pattern it finds. A correctable line is written back and its row logged; an
uncorrectable one goes to the Steward. Scrub stops while the quadrant's Steward is lost (R21) and while background work is stopped (R454). -/
def execScrubRead (pa : BitVec 48) (errors : List (Nat × Nat)) (s : State) : Answer :=
  let la := pa.toNat / 64 * 64
  match unitOf la with
  | none => .next s
  | some u =>
    if !s.flag R.RAS_CTRL F.RAS_CTRL_SCRUB_EN ∨ !s.chServes u ∨ !s.patrols u la ∨ !s.stewardUp (unitQuad u) ∨ !s.pwr.background then .next s
    else
      let s := ((s.updChan u (fun (c : Chan) => { c with patrol := (c.patrol + 1) % s.patrolLines u })).bump R.RAS_CNT_SCRUB_LINES).bump (chCnt u 0)
      let x := s.pool.line la
      if !x.valid then .next (s.logUE la)
      else match s.decodeLine u la errors with
        | .clean => .next (if x.poison then s.bump R.RAS_CNT_POISON_READ else s)
        | .corrected k d => .next (((s.logCE u la k d).bump R.RAS_CNT_SCRUB_FIXED).bump (chCnt u 1))
        | .uncorrectable => .next ((s.spoilLine la).logUE la)

/-- SCRUB_LATE (R406): the pass cannot finish in its period; the next starts at once. -/
def execScrubLate (unit : Fin 396) (s : State) : Answer :=
  if !s.flag R.RAS_CTRL F.RAS_CTRL_SCRUB_EN then .next s
  else .next ((s.updChan unit (fun (c : Chan) => { c with patrol := 0 })).setErr R.RAS_ERR F.RAS_ERR_SCRUB_LATE)

/-! ### Uncorrectable lines (R408) -/

/-- Reconstruct a Protected line and write it where its member stands (R408, R416). -/
def State.rebuildLine (s : State) (la tenant : Nat) : State :=
  match s.memberPa (fastStack la) (bitsOf la 0 36) with
  | none => s
  | some (at_, _) =>
    match s.reconstruct (fastStack la) (bitsOf la 0 36) with
    | (s, ok, d) =>
      (((s.bump R.RAS_CNT_RECONSTRUCTED).writeStored at_ { s.pool.line at_ with summary := 2, heat := 0, tag := tenant, poison := !ok } d true).1)

/-- UE_REWRITE (R408): the Steward, or while it is lost the Wellhead in its place (R21), rewrites an uncorrectable line, unless a write has made it good again
(R407). -/
def execUeRewrite (pa : BitVec 48) (s : State) : Answer :=
  let la := pa.toNat / 64 * 64
  match unitOf la with
  | none => .next s
  | some u =>
    if !(s.ras.ueLines.contains (la / 64)) ∨ !s.chServes u then .next s
    else
      let s := { s with ras := { s.ras with ueLines := s.ras.ueLines.filter (· != la / 64) } }
      let x := s.pool.line la
      if x.valid then .next s
      else
        let owner := (s.basinAt la).map (·.2.tenant)
        match s.stripeOf la, owner with
        | some _, some t => .next (s.rebuildLine la t)
        | _, _ =>
          let read := freeLine Config.asRead s.fresh
          let x' : Side := { x with poison := true, summary := 2, heat := 0, tag := owner.getD 0, valid := true }
          .next (State.wrote { s.tick with pool := (s.pool.writeBytes la read).setLine la x' } la)

/-! ### Triplicated words (R411) -/

/-- READ_TRIPLE (R411): the voted value is returned, and bad or differing copies are repaired; with none the word is lost. -/
def execReadTriple (word : BitVec 22) (s : State) : Answer :=
  match s.loadCopies word.toNat with
  | (s, c) =>
    match voteTriple c with
    | none => .next ((s.raiseAlarm .tripleLost).send (.result "READ_TRIPLE_LOST" [word.toNat]))
    | some v =>
      let wrong := [0, 1, 2].filter (fun k => (c.drop k).head?.elim false (fun x => x.1 || x.2 != v))
      .next ((s.storeCopies word.toNat v wrong).send (.result "READ_TRIPLE" (word.toNat :: v.map (·.toNat))))

/-- WRITE_TRIPLE (R411): all three copies under the word's lock. -/
def execWriteTriple (word : BitVec 22) (value : List Byte) (s : State) : Answer :=
  .next (s.storeCopies word.toNat ((value ++ zeros 64).take 64) [0, 1, 2])

/-! ### RAS_CMD (R426) -/

def State.rasStatus (s : State) (target v : Nat) : State :=
  (s.put R.RAS_CMD F.RAS_CMD_TARGET target).put R.RAS_CMD F.RAS_CMD_STATUS v

def State.rasBusy (s : State) : Bool := s.flag R.RAS_CMD F.RAS_CMD_BUSY

/-- STACK_FAIL (R417): the stack is degraded, and each of its Ponds that has not faulted is faulted. -/
def execStackFail (target : Fin 16) (s : State) : Answer :=
  if s.rasBusy then .next s
  else if 12 ≤ target.val then .next (s.rasStatus target 1)
  else
    let s := s.degrade target
    .next (((List.range 32).foldl (fun s c => s.faultChan (32 * target.val + c)) s).rasStatus target 0)

/-- REBUILD (R418, R419, R426): of a degraded stack, while no rebuild runs; the distributed spare holds the rebuild of one stack. -/
def execRebuild (target : Fin 16) (s : State) : Answer :=
  if s.rasBusy then .next s
  else if s.flag R.RAS_REBUILD F.RAS_REBUILD_ACTIVE then .next (s.rasStatus target 2)
  else if 12 ≤ target.val ∨ s.stackState target ≠ 1 ∨ !s.spareFree then .next (s.rasStatus target 1)
  else .next ((s.startRebuild target).rasStatus target 0)

/-- HARD_REPAIR (R405, R426): the soft repairs of a stack become permanent, while every Pond of it has ENABLE 0. -/
def execHardRepair (target : Fin 16) (s : State) : Answer :=
  if s.rasBusy then .next s
  else if 12 ≤ target.val ∨ (List.range 32).any (fun c => s.chEnabled (32 * target.val + c)) then .next (s.rasStatus target 1)
  else
    let l := s.ras.repairs.map (fun (r : Repair) => if r.unit / 32 = target.val ∧ r.unit < 384 ∧ r.spare = none then { r with hard := true } else r)
    .next ({ s with ras := { s.ras with repairs := l } }.rasStatus target 0)

/-- RETEST (R403, R426): the row that holds RAS_CMDARG.PA is tested; one with no entry takes an entry, with no error counted. -/
def execRetest (target : Fin 16) (s : State) : Answer :=
  if s.rasBusy then .next s
  else
    let pa := s.get R.RAS_CMDARG F.RAS_CMDARG_PA / 64 * 64
    match unitOf pa with
    | none => .next (s.rasStatus target 1)
    | some u =>
      match s.celogOf u pa with
      | some e => .next (if s.celogState u e = 2 then s.rasStatus target 0 else (s.awaitTest u e).rasStatus target 0)
      | none =>
        match ((List.range 16).find? (fun e => !s.celogValid u e)).or (s.oldestTransient u) with
        | some e => .next ((s.enterRow u e pa 0 0).rasStatus target 0)
        | none => .next (s.rasStatus target 3)

/-! ### Rebuild (R418, R419) -/

/-- First STRIPE unit of 4 KiB of a stack at or beyond unit `n` (R412, R418): every striped run lies at the same offsets in every stack. -/
def State.nextStripeUnit (s : State) (n : Nat) : Option Nat :=
  let u := s.unitBytes
  let ranges := s.basins.flatMap (fun e => (e.2.mapped.filter (·.striped)).map (fun r => (r.base * u / 4096, (r.base + r.share 0) * u / 4096)))
  ranges.foldl (fun best r =>
    if r.2 ≤ n then best
    else
      let c := max n r.1
      match best with
      | none => some c
      | some b => some (min b c)) none

/-- The Pond of a line has not faulted. -/
def State.unitRuns (s : State) (la : Nat) : Bool := (unitOf la).elim false (fun u => !s.chFaulted u)

/-- Bytes that the rebuild of a unit reads and writes: the unit and its copy where its Pond runs, else twelve units (R418). -/
def State.rebuildCost (s : State) (f n : Nat) : Nat := if s.unitRuns (f * 2 ^ 36 + n * 4096) then 2 * 4096 else 12 * 4096

/-- Copy or reconstruct one line of a unit into the spare, its bits as stored: rebuild needs no key (R397, R418). -/
def State.rebuildOne (s : State) (f n k : Nat) : State :=
  let o := n * 4096 + 64 * k
  let la := f * 2 ^ 36 + o
  let dst := spareUnit f n + 64 * k
  match s.basinAt la with
  | none => s
  | some (_, b) =>
    if s.unitRuns la && (s.pool.line la).valid then
      match s.readStored la with
      | (s, r) => (s.writeStored dst { s.pool.line la with poison := r.poison || r.stat != .ok } r.data true).1
    else
      match s.reconstruct f o with
      | (s, ok, d) =>
        ((s.bump R.RAS_CNT_RECONSTRUCTED).writeStored dst { s.pool.line la with summary := 2, heat := 0, tag := b.tenant, poison := !ok } d true).1

/-- REBUILD_UNIT (R418): the next STRIPE unit goes into the spare and WATERMARK passes it; with none left the stack is rebuilt. Rebuild waits through an
L2 reset, while background work is stopped, and once it has moved PCT percent of 32 MiB in a management cycle. -/
def execRebuildUnit (s : State) : Answer :=
  if !s.flag R.RAS_REBUILD F.RAS_REBUILD_ACTIVE ∨ s.rst.l2 ≠ 0 ∨ !s.pwr.background then .next s
  else
    let f := s.get R.RAS_REBUILD F.RAS_REBUILD_STACK
    match s.nextStripeUnit (s.watermark f) with
    | none =>
      .next (((s.putFlag R.RAS_REBUILD F.RAS_REBUILD_ACTIVE false).put (R.RAS_STACK f) F.RAS_STACK_STATE 3).setErr R.RAS_ERR F.RAS_ERR_REBUILD_DONE)
    | some n =>
      let moved := s.ras.rebuildBytes + s.rebuildCost f n
      if s.get R.RAS_REBUILD F.RAS_REBUILD_PCT * 2 ^ 25 < 100 * moved then .next s else
      let s := (List.range 64).foldl (fun s k => s.rebuildOne f n k) { s with ras := { s.ras with rebuildBytes := moved } }
      .next ((s.put (R.RAS_STACK f) F.RAS_STACK_WATERMARK (n + 1)).bump R.RAS_CNT_REBUILT_UNITS)

/-- CELOG_CLEAR (R402, R427): a write of 0 to VALID frees an entry, unless it is TESTING. -/
def execCelogClear (unit : Fin 396) (entry : Fin 16) (s : State) : Answer :=
  let u := unit.val
  let e := entry.val
  if s.celogState u e = 2 ∨ !s.celogValid u e then .next s
  else
    let s := (s.setReg (R.RAS_CELOG u e 0) 0).setReg (R.RAS_CELOG u e 1) 0
    .next (s.updChan u (fun (c : Chan) => { c with order := c.order.filter (· != e) }))

end Sys2Proof.Machine
end

