-- ==== Sys2Proof/Machine/Tables.lean ====
section
/-!
DEFINITION. TABLE_SYNC and invalidations (R250 to R256), the fault queue's head (R261), and the commands of XLAT_CMD (R265, R266, R595): tenants,
endpoints, contexts and basins.
-/
namespace Sys2Proof.Machine

/-! ### Syncs (R250 to R253) -/

/-- A stage-1 entry of 16 bytes; its reserved bits are clean, and its PERM (R251). -/
def syncEntry (asid : Nat) (b : List Byte) : S1Entry × Bool :=
  let n (o k : Nat) : Nat := leNat ((b.drop o).take k)
  let perm := n 12 1
  ({ asid := asid, va := n 0 4, len := n 4 4, tpa := n 8 4, read := bitOf perm 0, write := bitOf perm 1 }, perm < 4 && n 13 3 == 0)

/-- A sync as its lines give it (R250, R251): `packets` lines of 64 B, the header first. -/
def syncReq (ep txn packets : Nat) (lines : List Byte) : SyncReq :=
  let n (o k : Nat) : Nat := leNat ((lines.drop o).take k)
  let count := n 2 2
  let es := (List.range (min count 252)).map (fun i => syncEntry (n 0 2) ((lines.drop (64 + 16 * i)).take 16))
  { endpoint := ep, tid := txn, asid := n 0 2, rangeUnit := n 4 4, rangeLen := n 8 4, tag := n 12 4, entries := es.map (·.1),
    wellFormed := ((lines.drop 16).take 48).all (· == 0) && es.all (·.2) && count ≤ 252 && packets == 1 + (count + 3) / 4 }

/-- Take every packet of a sync out of the receive buffer (R333). -/
def State.takeSync (s : State) (port w0 w1 : Nat) (lines : List Byte) (k : Nat) : State :=
  (List.range k).foldl (fun s i => s.takeDelivered port (pkBytes w0 (w1 + i * 512) ((lines.drop (64 * i)).take 64))) s

/-- A sync that its port refuses, or answers RETRY_AFTER, counts (R269); a refusal is an event (R268). -/
def State.syncRefused (s : State) (retry : Bool) : State :=
  let s := s.bump R.XLAT_CNT_SYNC_REFUSED
  if retry then s else s.setErr R.XLAT_ERR F.XLAT_ERR_SYNC_REFUSED

/-- TABLE_SYNC (R250 to R253, R309, R378): all packets of one sync. Checks 1 and 2 are made at the port; then it is an item of the ASID's tenant. -/
def execTableSync (port : Fin 8) (w0 w1 : Word) (lines : List Byte) (dt : Nat) (hold : Bool) (s : State) : Answer :=
  let w0 := w0.toNat
  let w1 := w1.toNat
  let k := ptTotal w1
  let ep := pkEp w0
  let formed : Bool := pkClass w0 == 4 && pkOp w0 == 7 && pkLen16 w0 == 4 && ptReserved w1 == 0 && ptSeq w1 == 0 && lines.length == 64 * k && k ≤ 64
  let first := lines.take 64
  let s := s.takeSync port w0 w1 lines k
  let known : Bool := pkClass w0 != 4 || s.isDuplicate w0
  let retry : Bool := !s.isDead ep && formed && s.turnAway.isSome
  match s.arrives port w0 w1 first dt formed with
  | (s, false) => .next (if known then s else s.syncRefused retry)
  | (s, true) =>
    let r := syncReq ep (pkTxn w0) k lines
    let drives (t : Nat) : Bool := (s.tenantOf t).elim false (fun x => x.driver == ep)
    if !(s.xlat.tenants.any (fun e => drives e.1)) then .next (s.answerSync ep r.tid r.tag .denied)
    else match s.contextOf r.asid with
      | none => .next (s.answerSync ep r.tid r.tag .context)
      | some t =>
        if !drives t then .next (s.answerSync ep r.tid r.tag .context)
        else match s.colour port t (s.epClass ep) k false with
          | (s, .refused h) => .next ((s.bump R.XLAT_CNT_SYNC_REFUSED).retryAfter ep r.tid h)
          | (s, .queued) =>
            let idle := s.portIdle port
            let s := s.putItem port t (s.epClass ep) k (2 * k) false (.sync r)
            if !idle || hold then .next s
            else match s.takeItem port false with
              | (s, some i) => .next (s.runIngress [] i)
              | (s, none) => .next s

/-! ### Status codes of XLAT_CMD (R266) -/
def xsOk : Nat := 0
def xsBadArg : Nat := 1
def xsExists : Nat := 2
def xsNotFound : Nat := 3
def xsLimit : Nat := 4
def xsNoSpace : Nat := 5
def xsBusy : Nat := 6
def xsKeyAbsent : Nat := 7
def xsPartner : Nat := 8
def xsOverlap : Nat := 9

/-! ### Invalidations (R255, R256) -/

/-- A command waits for its invalidation, in the queue with the syncs (R256). -/
def State.commandWork (s : State) (w : InvWork) : State :=
  ((s.putFlag R.XLAT_CMD F.XLAT_CMD_BUSY true).joinInvs w).pumpWork

/-- INVALIDATION_DONE (R253, R255): the 112 holders have acknowledged, which none does before the accesses it translated with an entry of the range are
performed. -/
def execInvalidationDone (id : Nat) (s : State) : Answer :=
  match s.xlat.invs.find? (fun i => i.id == id) with
  | none => .next s
  | some i =>
    if i.before.any s.stillDue || i.change.elim false (fun n => s.pair.mirror.any (fun w => w.id == n)) then .next s
    else
      let s := { s with xlat := { s.xlat with invs := s.xlat.invs.filter (fun x => x.id != id) } }
      let s := s.bump R.XLAT_CNT_INVALIDATIONS
      let s := match i.waiter with
        | .sync ep tid tag _ => s.answerSync ep tid tag .ok
        | .command =>
          let t := s.basinsGone
          let t : State := { t with xlat := { t.xlat with undo := {} } }
          (if i.stage = 2 then t.recordChange else t).xlatDone xsOk s.xlat.cmdRes
        | .move => s
      .next s.pumpWork

/-- INVALIDATION_SLOW (R256): 100 µs have passed; it keeps waiting. -/
def execInvalidationSlow (id : Nat) (s : State) : Answer :=
  if s.xlat.invs.any (fun i => i.id == id) then .next (s.setErr R.XLAT_ERR F.XLAT_ERR_INV_SLOW) else .next s

/-- FAULT_QUEUE_HEAD_WRITE (R261, R268): HEAD moves, but never beyond TAIL. -/
def execFaultQueueHeadWrite (head : BitVec 11) (s : State) : Answer :=
  let h := s.get R.XLAT_FQ_PTR F.XLAT_FQ_PTR_HEAD
  let t := s.get R.XLAT_FQ_PTR F.XLAT_FQ_PTR_TAIL
  if (t + 2048 - h) % 2048 < (head.toNat + 2048 - h) % 2048 then .next s
  else .next (s.put R.XLAT_FQ_PTR F.XLAT_FQ_PTR_HEAD head.toNat)

/-! ### XLAT_CMD (R264 to R266) -/

def State.arg (s : State) (i : Nat) : Nat :=
  (s.reg (if i = 0 then R.XLAT_CMDARG0 else if i = 1 then R.XLAT_CMDARG1 else R.XLAT_CMDARG2)).toNat

/-- A command that does not complete with OK changes nothing but STATUS (R266). -/
def State.xlatFail (s : State) (status : Nat) : State :=
  (s.put R.XLAT_CMD F.XLAT_CMD_STATUS status).setErr R.XLAT_ERR F.XLAT_ERR_CMD_DONE

/-- Run a command unless one runs (R264). `fields` are the bits of ARG0 that the command names; the others and, but for BASIN_CREATE, ARG1 and ARG2
must be 0. -/
def State.xlatCmd (s : State) (fields : Nat) (f : State → State) : State :=
  if s.flag R.XLAT_CMD F.XLAT_CMD_BUSY then s
  else if s.arg 0 &&& (2 ^ 64 - 1 - fields) ≠ 0 ∨ s.arg 1 ≠ 0 ∨ s.arg 2 ≠ 0 then s.xlatFail xsBadArg
  else f s

/-- While the pair is formed, the partner's refusal is the command's status (R431); `partner` is its answer. -/
def State.withPartner (s : State) (partner : Nat) (what : String) (args : List Nat) (f : State → State) : State :=
  if s.formed ∧ partner ≠ 0 then s.xlatFail partner else f (s.toPartner what args)

/-- TENANT_CREATE (R242, R265). -/
def execTenantCreate (partner : Fin 10) (s : State) : Answer :=
  .next (s.xlatCmd (2 ^ 37 - 1) fun s =>
    let t := bitsOf (s.arg 0) 0 8
    let d := bitsOf (s.arg 0) 8 12
    let q := bitsOf (s.arg 0) 20 17
    if q = 0 ∨ 65536 < q then s.xlatFail xsBadArg
    else if (s.tenantOf t).isSome then s.xlatFail xsExists
    else if !s.slotFull t then s.xlatFail xsKeyAbsent
    else s.withPartner partner "TENANT_CREATE" [t, d, q] fun s =>
      (State.recordChange { s with xlat := { s.xlat with tenants := Tbl.set (fun _ => none) s.xlat.tenants t (some { driver := d, quota := q }) } }).xlatDone xsOk 0)

/-- TENANT_DESTROY (R265): BUSY while the tenant has an endpoint, a context or a basin. -/
def execTenantDestroy (partner : Fin 10) (s : State) : Answer :=
  .next (s.xlatCmd (2 ^ 8 - 1) fun s =>
    let t := bitsOf (s.arg 0) 0 8
    if (s.tenantOf t).isNone then s.xlatFail xsNotFound
    else if s.xlat.bound.any (fun e => e.2 == some t) || s.xlat.contexts.any (fun e => e.2 == some t)
        || s.basins.any (fun e => e.2.tenant == t && !e.2.destroyed) then s.xlatFail xsBusy
    else s.withPartner partner "TENANT_DESTROY" [t] fun s =>
      (State.recordChange { s with xlat := { s.xlat with tenants := Tbl.set (fun _ => none) s.xlat.tenants t none } }).xlatDone xsOk 0)

/-- ENDPOINT_BIND (R242, R265). -/
def execEndpointBind (partner : Fin 10) (s : State) : Answer :=
  .next (s.xlatCmd (2 ^ 20 - 1) fun s =>
    let e := bitsOf (s.arg 0) 0 12
    let t := bitsOf (s.arg 0) 12 8
    if (s.tenantOf t).isNone then s.xlatFail xsNotFound
    else if (s.boundTo e).isSome then s.xlatFail xsExists
    else s.withPartner partner "ENDPOINT_BIND" [e, t] fun s =>
      (State.recordChange { s with xlat := { s.xlat with bound := Tbl.set (fun _ => none) s.xlat.bound e (some t) } }).xlatDone xsOk 0)

/-- An endpoint holds coherent lines, pins or an Inlet: one that is enabled or has a job in flight, which it is from its doorbell to its completion (R190,
R265, R365). -/
def State.endpointHolds (s : State) (e : Nat) : Bool :=
  s.home.sharers.any (fun x => x.2.contains e) || s.kv.pins.any (fun p => p.ep == e)
    || s.jobs.inlets.any (fun x => x.2.owner == e && (x.2.enable || x.2.tail != x.2.completed))

/-- ENDPOINT_UNBIND (R265, R362): with FORCE the endpoint is declared dead first; its DIR_DEAD bit clears. -/
def execEndpointUnbind (partner : Fin 10) (s : State) : Answer :=
  .next (s.xlatCmd (2 ^ 12 - 1 + 2 ^ 63) fun s =>
    let e := bitsOf (s.arg 0) 0 12
    let force := bitOf (s.arg 0) 63
    if (s.boundTo e).isNone then s.xlatFail xsNotFound
    else if !force && s.endpointHolds e then s.xlatFail xsBusy
    else s.withPartner partner "ENDPOINT_UNBIND" [e] fun s =>
      let s := if force then s.declareDead e else s
      let off := R.DIR_DEAD (e / 64)
      let s := s.setReg off (s.reg off &&& BitVec.ofNat 64 (2 ^ 64 - 1 - 2 ^ (e % 64)))
      (State.recordChange { s with xlat := { s.xlat with bound := Tbl.set (fun _ => none) s.xlat.bound e none } }).xlatDone xsOk 0)

/-- CONTEXT_CREATE (R242, R265). -/
def execContextCreate (partner : Fin 10) (s : State) : Answer :=
  .next (s.xlatCmd (2 ^ 24 - 1) fun s =>
    let a := bitsOf (s.arg 0) 0 16
    let t := bitsOf (s.arg 0) 16 8
    if (s.tenantOf t).isNone then s.xlatFail xsNotFound
    else if (s.contextOf a).isSome then s.xlatFail xsExists
    else s.withPartner partner "CONTEXT_CREATE" [a, t] fun s =>
      State.xlatDone { s with xlat := { s.xlat with contexts := Tbl.set (fun _ => none) s.xlat.contexts a (some t) } } xsOk 0)

/-- CONTEXT_DESTROY (R265): its stage-1 entries go, and it completes once they are invalidated everywhere. -/
def execContextDestroy (partner : Fin 10) (s : State) : Answer :=
  .next (s.xlatCmd (2 ^ 16 - 1) fun s =>
    let a := bitsOf (s.arg 0) 0 16
    if (s.contextOf a).isNone then s.xlatFail xsNotFound
    else s.withPartner partner "CONTEXT_DESTROY" [a] fun s => s.commandWork (.context a))

/-! ### Physical units (R195, R214, R248, R249, R409, R413) -/

/-- The order L of R249. -/
def orderL : List Nat := [0, 3, 6, 9, 1, 4, 7, 10, 2, 5, 8, 11]

/-- Spillway channels that may take units: populated, and not being evacuated (R218, R422). -/
def State.spillSet (s : State) : List Nat :=
  (orderL.filter (fun j => s.spillBytes j != 0 && s.ras.evac != some j)).map (384 + ·)

/-- The members of a part, by pattern (R218, R249): STRIPE takes all twelve stacks at one offset. -/
def State.memberSet (s : State) (pattern quad : Nat) : List Nat :=
  if pattern = 1 then [3 * quad, 3 * quad + 1, 3 * quad + 2]
  else if pattern = 4 then s.spillSet
  else if pattern = 3 then List.range 12
  else orderL

/-- Units of a member that may be allocated: below the system area (R409), for STRIPE below 43 GiB (R413), in Spillway the populated capacity, in
compact mode at most an equal share of 1 TiB (R248). -/
def State.unitsOf (s : State) (pattern m : Nat) : Nat :=
  let u := s.unitBytes
  if m < 384 then (if pattern = 3 then 0xAC0000000 else 0xEF0000000) / u
  else
    let cap := s.spillBytes (m - 384)
    let n := (orderL.filter (fun j => s.spillBytes j != 0)).length
    (if s.flag R.XLAT_CFG F.XLAT_CFG_MODE then cap else min cap (2 ^ 40 / max 1 n)) / u

/-- Every run that reserves units here. -/
def State.allRuns (s : State) : List Run := s.basins.flatMap (fun e => e.2.mapped ++ e.2.poolRuns ++ e.2.spillRuns)

/-- Unit offset `o` of a member is reserved. -/
def unitUsed (rs : List Run) (m o : Nat) : Bool :=
  rs.any (fun r => match r.set.findIdx? (· == m) with
    | some i => r.base ≤ o && o < r.base + r.share i
    | none => false)

/-- The offsets free in every member of a set, ascending (R249). -/
def State.freeRows (s : State) (rs : List Run) (pattern : Nat) (set : List Nat) : List Nat :=
  let top := set.foldl (fun n m => min n (s.unitsOf pattern m)) (if set = [] then 0 else 2 ^ 20)
  (List.range top).filter (fun o => set.all (fun m => !unitUsed rs m o))

/-- Group rising offsets into runs of consecutive ones: (first, length). -/
def groupRows : List Nat → List (Nat × Nat)
  | [] => []
  | o :: t =>
    match groupRows t with
    | [] => [(o, 1)]
    | (a, n) :: rest => if a = o + 1 then (o, n + 1) :: rest else (o, 1) :: (a, n) :: rest

/-- Rows for a part: one range when one is long enough, else several (R249). -/
def takeRows (groups : List (Nat × Nat)) (k : Nat) : Option (List (Nat × Nat)) :=
  match groups.find? (fun g => k ≤ g.2) with
  | some g => some [(g.1, k)]
  | none =>
    let r := groups.foldl (fun (acc : List (Nat × Nat) × Nat) g => (if acc.2 = 0 then acc.1 else acc.1 ++ [(g.1, min g.2 acc.2)], acc.2 - g.2)) ([], k)
    if r.2 = 0 then some r.1 else none

/-- Lay `len` units from TPA unit `start` over a set, in rows of `per` units. -/
def layRuns (set : List Nat) (striped : Bool) (per : Nat) : Nat → Nat → List (Nat × Nat) → List Run
  | _, _, [] => []
  | start, len, (o, n) :: t =>
    let here := min len (n * per)
    { start := start, len := here, base := o, set := set, striped := striped } :: layRuns set striped per (start + here) (len - here) t

/-- Frames of one unit each, in full configuration (R249): the next unit goes to the next member in turn, at an offset free there. `n` counts the units left. -/
def State.layFrames (s : State) (rs : List Run) (pattern : Nat) (set : List Nat) (start i : Nat) : Nat → Option (List Run)
  | 0 => some []
  | n + 1 =>
    let m := set.getD (i % set.length) 0
    match (List.range (s.unitsOf pattern m)).find? (fun o => !unitUsed rs m o) with
    | none => none
    | some o =>
      let r : Run := { start := start + i, len := 1, base := o, set := [m], striped := false }
      (State.layFrames s (r :: rs) pattern set start (i + 1) n).map (r :: ·)

/-- Reserve units for a part (step 1 of R244): its runs, or none when the members lack free units. -/
def State.reserve (s : State) (rs : List Run) (pattern quad start len : Nat) : Option (List Run) :=
  let full := s.flag R.XLAT_CFG F.XLAT_CFG_MODE
  let set := s.memberSet pattern quad
  let striped : Bool := pattern == 3
  let per := if striped then 11 else set.length
  if len = 0 then some []
  else if per = 0 then none
  else if full && !striped then s.layFrames rs pattern set start 0 len
  else
    let k := (len + per - 1) / per
    let groups := groupRows (s.freeRows rs pattern set)
    let rows := if full then takeRows (groups.flatMap (fun g => (List.range g.2).map (fun i => (g.1 + i, 1)))) k else takeRows groups k
    rows.map (layRuns set striped per start len)

/-- Stage-2 entries that runs take (R248). -/
def State.entriesOf (s : State) (rs : List Run) : Nat :=
  if s.flag R.XLAT_CFG F.XLAT_CFG_MODE then rs.foldl (fun n r => n + (if r.striped then (r.len + 10) / 11 else r.len)) 0 else rs.length

/-! ### BASIN_CREATE (R244, R245, R595) -/

/-- The arguments of BASIN_CREATE (R265). -/
structure BasinArgs where
  tenant : Nat
  kind : Nat
  pattern : Nat
  quad : Nat
  tpa : Nat
  size : Nat
  pool : Nat
  spill : Nat
  reserved : Nat

def State.basinArgs (s : State) : BasinArgs :=
  let a := s.arg 0
  let b := s.arg 1
  let c := s.arg 2
  { tenant := bitsOf a 0 8, kind := bitsOf a 8 2, pattern := bitsOf a 10 3, quad := bitsOf a 13 2, tpa := bitsOf b 0 25, size := bitsOf b 25 25,
    pool := bitsOf c 0 25, spill := bitsOf c 25 25, reserved := bitsOf a 15 49 + bitsOf b 50 14 + bitsOf c 50 14 }

/-- The pattern in force: AUTO is STRIPE for a Protected basin and CHIP for the others (R218). -/
def BasinArgs.real (a : BasinArgs) : Nat := if a.pattern = 0 then (if a.kind = 1 then 3 else 2) else a.pattern

/-- Check 1 of R595, but for the lock. -/
def BasinArgs.ok (a : BasinArgs) (unit : Nat) : Bool :=
  a.reserved == 0 && a.kind ≤ 2 && a.pattern ≤ 4
    && (if a.kind = 1 then a.pattern == 0 || a.pattern == 3 else a.pattern != 3)
    && (a.pattern == 1 || a.quad == 0)
    && (a.kind != 1 || (a.size % 11 == 0 && a.pool == 0 && a.spill == 0))
    && (a.pattern != 4 || a.spill == 0)
    && a.tpa + a.size ≤ 2 ^ 46 / unit

/-- The mapped part meets one of the tenant's basins (R245); of the partner's, whose shadows are held here, only while the pair is formed (R595). -/
def State.overlaps (s : State) (a : BasinArgs) : Bool :=
  s.basins.any (fun e => e.2.tenant == a.tenant && !e.2.destroyed && (!e.2.shadowHere || s.formed) && a.tpa < e.2.tpa + e.2.size && e.2.tpa < a.tpa + a.size)

/-- The lowest free basin identity of this side (R241, R431). -/
def State.freeBasin (s : State) : Option Nat :=
  let side := s.get R.PAIR_STATUS F.PAIR_STATUS_SIDE
  let l := if s.formed then (List.range 512).map (· + 512 * side) else List.range 1024
  l.find? (fun b => (s.basin b).isNone)

/-- The partner's shadow of runs: the same units over the partner's members, at the offsets it names. -/
def shadowOf (rs : List Run) (bases : List Nat) : List Run :=
  (List.range rs.length).filterMap (fun i => (rs[i]?).map (fun (r : Run) => { r with base := bases.getD i r.base }))

/-- Checks 2 to 8 of R595 and the steps of R244. -/
def State.basinCreate (s : State) (a : BasinArgs) (partner : Nat) (shadow : List Nat) : State :=
  let mirrored : Bool := a.kind == 2
  if (s.tenantOf a.tenant).isNone then s.xlatFail xsNotFound
  else if s.overlaps a || (s.formed && partner == xsOverlap) then s.xlatFail xsOverlap
  else if 1024 ≤ s.basins.length ∨ (s.formed ∧ 512 ≤ (s.basins.filter (fun e => !e.2.shadowHere)).length) then s.xlatFail xsLimit
  else if mirrored && (!s.formed || partner == xsPartner) then s.xlatFail xsPartner
  else if mirrored && partner == xsKeyAbsent then s.xlatFail xsKeyAbsent
  else
    let rs := s.allRuns
    let p := a.real
    match s.reserve rs p a.quad a.tpa a.size with
    | none => s.xlatFail xsNoSpace
    | some m =>
      match s.reserve (rs ++ m) p a.quad 0 a.pool with
      | none => s.xlatFail xsNoSpace
      | some k =>
        match s.reserve (rs ++ m ++ k) 4 0 0 a.spill with
        | none => s.xlatFail xsNoSpace
        | some f =>
          if 65536 < s.s2Used + s.entriesOf m then s.xlatFail xsLimit
          else if mirrored && partner != 0 then s.xlatFail xsNoSpace
          else
            match s.freeBasin with
            | none => s.xlatFail xsLimit
            | some id =>
              let off : Nat → List Nat := fun n => shadow.drop n
              let sm := if mirrored then shadowOf m shadow else []
              let sp := if mirrored then shadowOf k (off m.length) else []
              let ss := if mirrored then shadowOf f (off (m.length + k.length)) else []
              let b : Basin := {
                tenant := a.tenant, kind := a.kind, pattern := p, quad := a.quad, tpa := a.tpa, size := a.size, pool := a.pool, spill := a.spill,
                mapped := m, poolRuns := k, spillRuns := f, shadowMapped := sm, shadowPool := sp, shadowSpill := ss,
                closing := false, destroyed := false, waitJobs := [], shadowHere := false, takenOver := false, moving := false, making := true }
              let s := (s.putFlag R.XLAT_CMD F.XLAT_CMD_BUSY true).toPartner "BASIN_CREATE" [id, a.tenant, a.kind]
              (s.setBasin id (some b)).fillRuns id a.tenant (m ++ k ++ f)

/-- BASIN_CREATE (R244, R245, R595). `partner` is the partner's answer, 0 for none against it; `shadow` the offsets at which it reserved the shadow of
each run in turn. -/
def execBasinCreate (partner : Fin 10) (shadow : List Nat) (s : State) : Answer :=
  if s.flag R.XLAT_CMD F.XLAT_CMD_BUSY then .next s
  else
    let a := s.basinArgs
    if !s.flag R.XLAT_CFG F.XLAT_CFG_LOCK || !a.ok s.unitBytes then .next (s.xlatFail xsBadArg)
    else .next (s.basinCreate a partner shadow)

/-! ### BASIN_DESTROY (R246, R366) -/

/-- BASIN_DESTROY (R246). -/
def execBasinDestroy (partner : Fin 10) (s : State) : Answer :=
  .next (s.xlatCmd (2 ^ 10 - 1 + 2 ^ 63) fun s =>
    let id := bitsOf (s.arg 0) 0 10
    let force := bitOf (s.arg 0) 63
    match s.basin id with
    | none => s.xlatFail xsNotFound
    | some b =>
      if b.destroyed ∨ b.closing ∨ !b.servedHere then s.xlatFail xsNotFound
      else if !force && (s.seqsIn id != [] || s.versionsIn id != []) then s.xlatFail xsBusy
      else s.withPartner partner "BASIN_DESTROY" [id] fun s => s.commandWork (.destroy id))

/-- BASIN_UNITS_FREE (R246): the last job validated before the destroy has written its completion record. -/
def execBasinUnitsFree (basin : BitVec 10) (s : State) : Answer :=
  let id := basin.toNat
  match s.basin id with
  | none => .next s
  | some b =>
    if !b.destroyed ∨ !s.allDone b.waitJobs then .next s
    else
      let k := s.kv
      let gone (x : Nat × Option KvBlk) : Bool := x.2.elim false (fun y => y.basin == id)
      let left (x : Nat × Option Seq) : Bool := !(x.2.elim false (fun q => q.basin == id))
      let gens := (k.seqs.filter (fun x => !left x)).foldl (fun g x => Tbl.upd (fun _ => 0) g x.1 (fun n => (n + 1) % 2 ^ 14)) k.gens
      let kv : Kv := { k with blks := k.blks.filter (fun x => !gone x), seqs := k.seqs.filter left, gens := gens,
                              old := k.old.filter (fun o => !b.holds s.unitBytes o.pa), moves := k.moves.filter (fun m => !b.holds s.unitBytes m.dst) }
      .next (State.setBasin { s with kv := kv } id none)

end Sys2Proof.Machine
end

