-- ==== Sys2Proof/Machine/Evac.lean ====
section
/-!
DEFINITION. Evacuation of a Spillway channel (R422): its mapped units and block frames move, and the command completes once nothing refers to it.
-/
namespace Sys2Proof.Machine

/-- The single units of a run, each as an entry of length 1 (R422). -/
def Run.singles (r : Run) : List Run :=
  (List.range r.len).map (fun n =>
    { start := r.start + n, len := 1, base := r.base + n / r.set.length, set := [r.set.getD (n % r.set.length) 0], striped := false })

/-- Split the run that holds unit (m, o) of a list of runs, and its shadow with it. -/
def splitAt (m o : Nat) : List Run → List Run → List Run × List Run
  | [], sh => ([], sh)
  | r :: t, sh =>
    let s1 := sh.take 1
    let here : Bool := !r.striped && 1 < r.len && unitUsed [r] m o
    match splitAt m o t (sh.drop 1) with
    | (a, b) => if here then (r.singles ++ a, s1.flatMap Run.singles ++ b) else (r :: a, s1 ++ b)

/-- Replace a unit that stands alone by one at a new place. -/
def replaceUnit (m o m' o' : Nat) (rs : List Run) : List Run :=
  rs.map (fun (r : Run) => if r.set = [m] ∧ r.base = o ∧ r.len = 1 then { r with set := [m'], base := o' } else r)

/-- The first mapped unit on a channel: basin, member, unit offset. -/
def State.unitOn (s : State) (m : Nat) : Option (Nat × Nat) :=
  s.basins.findSome? (fun e => e.2.mapped.findSome? (fun r =>
    match r.set.findIdx? (· == m) with
    | some i => if 0 < r.share i then some (e.1, r.base) else none
    | none => none))

/-- A free unit on another channel (R422 step 3), the lowest-numbered first. -/
def State.freeUnit (s : State) (rs : List Run) : Option (Nat × Nat) :=
  s.spillSet.findSome? (fun m => ((List.range (s.unitsOf 4 m)).find? (fun o => !unitUsed rs m o)).map (fun o => (m, o)))

/-- Copy one line to its new place, its side storage with it. -/
def State.moveLine (s : State) (src dst kslot : Nat) : State :=
  let x := s.pool.line src
  match s.readLine src none kslot with
  | (s, r) => s.storeLine dst x kslot x.tag (r.poison || r.stat != .ok) r.data

/-- Recall the lines of a unit that have an entry; data returned is kept (R366, R422). -/
def State.recallUnit (s : State) (basin tenant pa u : Nat) (ans : List SnoopAnswer) : State :=
  s.home.entries.foldl (fun s e =>
    let la := 64 * e.1
    if la < pa ∨ pa + u ≤ la then s
    else
      let s := s.recallInternal la
      let en := s.dirEntry la
      match holders en.st en.ptrs with
      | none => s
      | some who => ((s.sweepLine basin tenant la who ans).1).setDir la .i [] 0) s

/-- Requests that name a mapped unit and are not yet performed. -/
def State.unitInUse (s : State) (m o : Nat) : Bool := s.unperformed.any (fun r => memberOf s.unitBytes r.pa == (m, o))

/-- Move one mapped unit off a channel, its lines recalled first: its status when it cannot be moved, else none. -/
def State.evacUnit (s : State) (id : Nat) (b : Basin) (m o : Nat) (ans : List SnoopAnswer) : State × Option Nat :=
  let u := s.unitBytes
  let x := splitAt m o b.mapped b.shadowMapped
  match s.freeUnit s.allRuns with
  | none => (s, some 3)
  | some (m', o') =>
    if 65536 < s.s2Used + s.entriesOf x.1 - s.entriesOf b.mapped then (s, some 4)
    else
      let tpa := (x.1.find? (fun r => r.set == [m] && r.base == o)).elim 0 (·.start)
      let src := memberBase m + o * u
      let dst := memberBase m' + o' * u
      let s := s.recallUnit id b.tenant src u ans
      let before := s.affected 2 b.tenant tpa 1
      let s := (List.range (u / 64)).foldl (fun s k => s.moveLine (src + 64 * k) (dst + 64 * k) b.tenant) s
      let s := s.setBasin id (some { b with mapped := replaceUnit m o m' o' x.1, shadowMapped := x.2 })
      ((s.toPartner "MOVE_UNIT" [id, tpa]).startInv 2 b.tenant tpa 1 .move before, none)

/-- The next mapped unit of a channel begins to move: new requests to it are answered RETRY_AFTER from now on. -/
def State.nextUnit (s : State) (j : Nat) : State :=
  { s with ras := { s.ras with movingUnit := (s.unitOn (384 + j)).map (fun e => (384 + j, e.2)) } }

/-- The basin whose mapped part holds unit `o` of member `m`. -/
def State.unitBasin (s : State) (m o : Nat) : Option (Nat × Basin) := s.basins.find? (fun e => unitUsed e.2.mapped m o)

/-- The mapped units of a channel move in turn, one in a management cycle: the unit is copied once the requests that came before are performed and an
invalidation is free for it (R256, R422). The status when it cannot be moved. -/
def State.evacUnits (s : State) (j : Nat) (ans : List SnoopAnswer) : State × Option Nat :=
  match s.ras.movingUnit with
  | none => (s.nextUnit j, none)
  | some (m, o) =>
    if s.unitInUse m o || 16 ≤ s.xlat.invs.length || s.xlat.waiting != [] then (s, none)
    else match s.unitBasin m o with
      | none => (s.nextUnit j, none)
      | some (id, b) =>
        match s.evacUnit id b m o ans with
        | (s, none) => (s.nextUnit j, none)
        | r => r

/-- Start the moves of block frames off a channel (R226, R422 step 2): to another channel of the quadrant, else to its fast tier. -/
def State.evacBlocks (s : State) (j : Nat) : List (Nat × KvBlk) → Nat → State × Option Nat
  | [], _ => (s, none)
  | (n, b) :: t, budget =>
    let z := frameBytes b.format (dimOf b.hdim)
    if budget < z then (s, none)
    else
      let q := j / 3
      let fast := (s.poolUnits b.basin).filter (fun x => x < fastTop)
      let slow := s.allowance b.basin ++ (s.poolUnits b.basin).filter (fun x => spillBase ≤ x)
      match (mostFree s.usedFrames (slow.filter (fun x => quadOf x == q)) z q).or (mostFree s.usedFrames fast z q) with
      | none => (s, some 3)
      | some dst => State.evacBlocks { s with kv := { s.kv with moves := s.kv.moves ++ [{ blk := n, dst := dst }] } } j t (budget - z)

/-- EVACUATE ends. -/
def State.evacEnd (s : State) (j status : Nat) : State :=
  let s := { s with ras := { s.ras with evac := none, movingUnit := none } }
  let s := (s.putFlag R.RAS_CMD F.RAS_CMD_BUSY false).rasStatus j status
  if status = 0 then s.setErr R.RAS_ERR F.RAS_ERR_EVAC_DONE else s

/-- Units reserved for block frames on a channel leave their basins' parts (R422: the channel's capacity is free once it is empty). -/
def dropMember (m : Nat) (rs sh : List Run) : List Run × List Run :=
  let l := (List.range rs.length).map (fun i =>
    match rs[i]? with
    | none => ([], [])
    | some r =>
      if !r.set.contains m then ([r], (sh[i]?).toList)
      else
        let a := r.singles
        let b := ((sh[i]?).toList).flatMap Run.singles
        let keep := (List.range a.length).filter (fun k => (a[k]?).all (fun (x : Run) => x.set != [m]))
        (keep.filterMap (a[·]?), keep.filterMap (b[·]?)))
  (l.flatMap (·.1), l.flatMap (·.2))

/-- One cycle's work of an evacuation that runs, and its end once the channel is empty. An unsealed block stays in place until it is sealed (R75, R226). -/
def State.evacPass (s : State) (ans : List SnoopAnswer) : State :=
  match s.ras.evac with
  | none => s
  | some j =>
    match s.evacUnits j ans with
    | (s, some st) => s.evacEnd j st
    | (s, none) =>
      let on := s.kv.blks.filterMap (fun e => e.2.bind (fun b =>
        if unitOf b.pa = some (384 + j) ∧ b.shut ∧ !(s.kv.moves.any (fun m => m.blk == e.1)) then some (e.1, b) else none))
      match if s.pwr.background && s.stewardUp (j / 3) then s.evacBlocks j on (s.param 8) else (s, none) with
      | (s, some st) => s.evacEnd j st
      | (s, none) =>
        if !s.spillEmpty j then s
        else
          let s := s.basins.foldl (fun s e =>
            let p := dropMember (384 + j) e.2.poolRuns e.2.shadowPool
            let a := dropMember (384 + j) e.2.spillRuns e.2.shadowSpill
            s.setBasin e.1 (some { e.2 with poolRuns := p.1, shadowPool := p.2, spillRuns := a.1, shadowSpill := a.2 })) s
          s.evacEnd j 0

/-- EVACUATE (R422, R426): accepted for a channel that exists. The first cycle's work follows at once; MANAGEMENT_CYCLE goes on with it. -/
def execEvacuate (target : Fin 16) (ans : List SnoopAnswer) (s : State) : Answer :=
  if s.rasBusy then .next s
  else if 12 ≤ target.val ∨ s.spillBytes target = 0 then .next (s.rasStatus target 1)
  else
    let s := { s with ras := { s.ras with evac := some target.val } }
    .next (((s.putFlag R.RAS_CMD F.RAS_CMD_BUSY true).put R.RAS_CMD F.RAS_CMD_TARGET target).evacPass ans)

end Sys2Proof.Machine
end

