-- ==== Sys2Proof/Machine/Ring.lean ====
section
/-!
DEFINITION. What the controller sends on the rack management ring and to its partner's firmware: heartbeats (R551) and the goodbye notice (R443).
-/
namespace Sys2Proof.Machine

/-- A frame's 64 bytes (R550): destination, the sender's station, type, hops, 56 bytes of payload, the CRC over bytes 0 to 59. -/
def frameBytesOf (dest src type hops : Nat) (payload : List Byte) : List Byte :=
  let b := leBytes dest 1 ++ leBytes src 1 ++ leBytes type 1 ++ leBytes hops 1 ++ padTo 56 payload
  b ++ leBytes (crc32 b) 4

/-- Send a frame on both rings; none leaves while the bypass switches are closed (R551, R552). -/
def State.sendRing (s : State) (dest type : Nat) (payload : List Byte) : State :=
  if !s.bypassOpen then s
  else
    let f := frameBytesOf dest (s.get R.MGMT_RING_CFG F.MGMT_RING_CFG_STATION) type 255 payload
    (s.send (.ring 0 f)).send (.ring 1 f)

/-- The heartbeat, once each management cycle (R551). -/
def State.sendHeartbeat (s : State) : State :=
  s.sendRing 255 1 (leBytes s.shadow.chip 7 ++ leBytes (s.get R.PAIR_STATUS F.PAIR_STATUS_SIDE) 1 ++ leBytes (s.get R.PAIR_STATUS F.PAIR_STATUS_STATE) 1
    ++ leBytes (s.get R.GLOB_STATUS F.GLOB_STATUS_PHASE) 1 ++ leBytes 0 2 ++ leBytes (s.reg R.WELL_MCYCLE).toNat 8 ++ leBytes (s.reg R.MGMT_ALARM).toNat 8)

/-- Bytes 4 to 35 of a goodbye frame (R551): reason 1 fatal, 2 both feeds lost, 3 debug port opening. -/
def State.goodbyeBody (s : State) (reason cause info : Nat) : List Byte :=
  leBytes s.shadow.chip 7 ++ leBytes reason 1 ++ leBytes cause 4 ++ leBytes (s.reg R.WELL_MCYCLE).toNat 8 ++ leBytes info 8
    ++ leBytes (s.reg R.RST_CAUSE).toNat 4

/-- The goodbye notice on both paths (R443): over the Twin link, and three frames to the partner's station on each ring. -/
def State.sendGoodbye (s : State) (reason cause info : Nat) : State :=
  let b := s.goodbyeBody reason cause info
  let s := s.sendTwin "GOODBYE" 5 [reason, cause] b
  let p := s.get R.MGMT_RING_CFG F.MGMT_RING_CFG_PARTNER
  ((s.sendRing p 2 b).sendRing p 2 b).sendRing p 2 b

end Sys2Proof.Machine
end

