-- ==== Sys2Proof/Machine/Sec.lean ====
section
/-!
DEFINITION. The security block: tenant keys (R465 to R471), the device identity (R475 to R478), measurements and reports (R479 to R482), the partner's
verification (R483), and the debug port (R484 to R486).
-/
namespace Sys2Proof.Machine

/-! ### The mailbox area (R529) -/

/-- Whether bytes lie inside the 16 MiB mailbox area. -/
def inMailbox (off n : Nat) : Bool := off + n ≤ 0x1000000

/-- Read bytes of the mailbox area at any offset. -/
def State.readMail (s : State) (off n : Nat) : State × Bool × List Byte :=
  match s.readBar2 (0x2000000 + off / 64 * 64) ((off % 64 + n + 63) / 64) with
  | (s, r) => (s, r.stat == .ok && !r.poison, (r.data.drop (off % 64)).take n)

/-- Write bytes of the mailbox area at any offset: the lines' other bytes stay. -/
def State.writeMail (s : State) (off : Nat) (b : List Byte) : State :=
  let first := off / 64 * 64
  let span := (off % 64 + b.length + 63) / 64
  match s.readMail first (64 * span) with
  | (s, _, old) => s.writeBar2 (0x2000000 + first) (old.take (off % 64) ++ b ++ old.drop (off % 64 + b.length))

def State.secFlag (s : State) (f : Fld) : Bool := s.flag R.SEC_STATUS f
def State.setSlot (s : State) (k : Nat) (x : KeySlot) : State :=
  { s with sec := { s.sec with slots := Tbl.set slotReset s.sec.slots k x } }

/-! ### Key commands (R469 to R471, R488) -/

/-- A key command's status: 0 OK, 1 BAD_ARG, 2 AUTH, 3 STALE, 4 PRESENT, 5 IN_USE, 6 LOCKED, 7 PARTNER_UNAVAILABLE. -/
def State.keyStatus (s : State) (slot v : Nat) : State :=
  (s.put R.SEC_KCMD F.SEC_KCMD_SLOT slot).put R.SEC_KCMD F.SEC_KCMD_STATUS v

/-- The 64 key bytes of a blob under the KEK in force (R467): none when decapsulation or the unwrap's integrity check fails. -/
def State.unwrapBlob (s : State) (b : List Byte) : Option (List Byte) :=
  if !s.secFlag F.SEC_STATUS_KEK_VALID then none
  else
    let shared := Config.decapsulate s.sec.kek ((b.drop 24).take 1568)
    Config.unwrap (Config.shake256 (shared ++ b.take 24) 32) ((b.drop 1592).take 72)

/-- The checks of R469 in order: the status of the first that fails, or the key. -/
def State.importCheck (s : State) (slot : Nat) (partner readable : Bool) (b : List Byte) : Except Nat (List Byte) :=
  let field (o n : Nat) : Nat := leNat ((b.drop o).take n)
  let x := s.slot slot
  if s.secFlag F.SEC_STATUS_DEBUG_LATCH then .error 6
  else if !readable ∨ 256 ≤ slot ∨ field 0 4 ≠ 0x59504B57 ∨ field 4 2 ≠ slot ∨ field 6 2 ≠ 0 ∨ field 20 4 ≠ 0 then .error 1
  else if x.full then .error 4
  else if field 8 8 ≠ s.shadow.chip % 2 ^ 56 ∨ field 16 4 ≠ x.gen then .error 3
  else match s.unwrapBlob b with
    | none => .error 2
    | some k => if k.take 32 = k.drop 32 then .error 2 else if s.formed && !partner then .error 7 else .ok k

/-- The copy of a key for the partner (R467, R468, R470): a blob for its CHIP and the GEN of its own slot, wrapped under the key that its report carried. -/
def State.copyBlob (s : State) (slot gen : Nat) (key : List Byte) : List Byte :=
  let head := leBytes 0x59504B57 4 ++ leBytes slot 2 ++ leBytes 0 2 ++ leBytes (s.get (R.MERE_PEERID 8) F.MERE_PEERID_PEER / 256) 8 ++ leBytes gen 4 ++ leBytes 0 4
  let kem := Config.encapsulate s.pair.partnerKek s.fresh
  head ++ padTo 1568 kem.1 ++ padTo 72 (Config.wrap (Config.shake256 (kem.2 ++ head) 32) key)

/-- Send a slot's key to the partner (R470). -/
def State.sendKey (s : State) (slot gen : Nat) (key : List Byte) : State :=
  (s.sendTwin "KEY_IMPORT" 5 [slot] (s.copyBlob slot gen key)).tick

/-- IMPORT (R467 to R470). `partner` is a formed partner's acceptance of the copy, with the GEN of its own slot, or none when it does not accept it. -/
def execImport (slot : BitVec 9) (partner : Option (BitVec 32)) (s : State) : Answer :=
  if s.flag R.SEC_KCMD F.SEC_KCMD_BUSY ∨ s.islandStopped secIsland then .next s
  else
    let n := slot.toNat
    let buf := s.get R.SEC_KARG F.SEC_KARG_BUF
    let inside : Bool := inMailbox buf 1664
    match if inside then s.readMail buf 1664 else (s, false, []) with
    | (s, ok, b) =>
      match s.importCheck n partner.isSome ok b with
      | .error st => .next (((s.bump R.SEC_CNT_IMPORT_FAIL).setErr R.SEC_ERR F.SEC_ERR_IMPORT_FAIL).keyStatus n st)
      | .ok k =>
        let s := if s.formed then s.sendKey n (partner.elim 0 (·.toNat)) k else s
        let s := s.setSlot n { full := true, gen := ((s.slot n).gen + 1) % 2 ^ 32, key := k }
        .next (((s.writeMail buf (zeros 1664)).bump R.SEC_CNT_IMPORTS).keyStatus n 0)

/-- ERASE (R471): the slot's key is zeroised here and in every engine, and on the partner, for which the command waits while the pair is formed; IN_USE while the
tenant exists, unless FORCE is 1. -/
def execErase (slot : BitVec 9) (force : Bool) (s : State) : Answer :=
  if s.flag R.SEC_KCMD F.SEC_KCMD_BUSY ∨ s.islandStopped secIsland then .next s
  else
    let n := slot.toNat
    let s := s.putFlag R.SEC_KCMD F.SEC_KCMD_FORCE force
    if 256 ≤ n then .next (s.keyStatus n 1)
    else if (s.tenantOf n).isSome && !force then .next (s.keyStatus n 5)
    else
      let m := s.pair.nextMirror
      let s := (s.changePartner "KEY_ERASE" [n]).setSlot n { full := false, gen := ((s.slot n).gen + 1) % 2 ^ 32, key := [] }
      .next (((s.bump R.SEC_CNT_ERASES).keyStatus n 0).keyAfter m)

/-- QUERY (R488): SEC_KSTAT shows the slot's state and GEN. -/
def execQuery (slot : BitVec 9) (s : State) : Answer :=
  if s.flag R.SEC_KCMD F.SEC_KCMD_BUSY ∨ s.islandStopped secIsland then .next s
  else
    let n := slot.toNat
    if 256 ≤ n then .next (s.keyStatus n 1)
    else .next ((((s.putFlag R.SEC_KSTAT F.SEC_KSTAT_STATE (s.slot n).full).put R.SEC_KSTAT F.SEC_KSTAT_GEN (s.slot n).gen)).keyStatus n 0)

/-! ### The identity (R475 to R478) -/

/-- Sign with the next index (R477): the flash record's NEXT is raised before it is reached, the counter mirror follows, and a chunk whose indices are spent
is no longer ready. -/
def State.signNext (s : State) (msg : List Byte) : State × List Byte :=
  let sig := padTo 9893 (Config.sign s.sec.next msg)
  let n := s.sec.next + 1
  let fl := match s.flash.idState with
    | some (c, v) => some (c, if n = v ∧ v < s.sec.limit then v + 1024 else v)
    | none => none
  let s := { s with sec := { s.sec with next := n }, flash := { s.flash with idState := fl } }
  let s := (s.bump R.SEC_CNT_SIGNATURES).storeCopies (Config.counterWord % 2 ^ 22) (padTo 64 (leBytes n 8)) [0, 1, 2]
  (if n = s.sec.limit then s.putFlag R.SEC_STATUS F.SEC_STATUS_ID_READY false else s, sig)

/-- Image entries of a report (R481, R482): PROG_ID, tenant, origin, measurement, signer key hash. -/
def State.imageEntries (s : State) (scope : Option Nat) : List (List Byte) :=
  let walsyn := leBytes 1 2 ++ leBytes 0 14 ++ padTo 32 (Config.walsynMeas 1) ++ padTo 32 (s.entryHash 0)
  let mine := s.jobs.images.filter (fun i => scope.elim true (fun t => i.tenant == t))
  walsyn :: mine.map (fun i => leBytes i.id 2 ++ leBytes i.tenant 1 ++ leBytes 1 1 ++ leBytes 0 12 ++ padTo 32 i.measure ++ padTo 32 i.signer)

/-- A report before its signature (R481); `scope` is the tenant of a report of tenant scope. -/
def State.reportBody (s : State) (scope : Option Nat) (nonce : List Byte) : List Byte :=
  let flags := bit01 s.formed + 2 * s.get R.PWR_FEED_STATUS F.PWR_FEED_STATUS_SINGLE + 4 * bit01 s.strict + 8 * bit01 scope.isSome
  let x := scope.elim ({} : KeySlot) s.slot
  let im := s.imageEntries scope
  leBytes 0x54415357 4 ++ leBytes 1 2 ++ leBytes flags 2 ++ leBytes s.shadow.chip 8 ++ leBytes s.shadow.stepping 2
    ++ leBytes (s.get R.PAIR_STATUS F.PAIR_STATUS_SIDE) 1 ++ leBytes (scope.getD 0) 1 ++ leBytes (s.get R.SEC_STATUS F.SEC_STATUS_CHUNKS) 4
    ++ leBytes (s.reg R.WELL_MCYCLE).toNat 8 ++ padTo 32 nonce ++ s.meas R.SEC_ROM_MEAS ++ s.meas R.SEC_FW_MEAS ++ s.meas R.SEC_CONFIG_MEAS
    ++ leBytes (s.get R.SEC_MEXT_CMD F.SEC_MEXT_CMD_EXTENDS) 4 ++ leBytes (s.get R.SEC_SVN F.SEC_SVN_RUN_SVN) 4 ++ leBytes x.gen 4
    ++ leBytes (bit01 x.full) 1 ++ zeros 11 ++ leBytes im.length 2 ++ zeros 6 ++ padTo 64 Config.identityPub ++ padTo 1568 (Config.encapKey s.sec.kek)
    ++ im.flatten

def State.reportStatus (s : State) (len v : Nat) : State :=
  (s.put R.SEC_ACMD F.SEC_ACMD_LEN len).put R.SEC_ACMD F.SEC_ACMD_STATUS v

/-- Make the report SEC_ACMD names: 1 BAD_ARG, 2 LOCKED, 3 EXHAUSTED, 4 STATE_BAD; with no chunk reserved it waits for one (R476). -/
def State.runReport (s : State) : State :=
  let buf := s.get R.SEC_AARG F.SEC_AARG_BUF
  let scope := if s.flag R.SEC_ACMD F.SEC_ACMD_SCOPE then some (s.get R.SEC_ACMD F.SEC_ACMD_TENANT) else none
  let len := 1824 + 80 * (s.imageEntries scope).length + 9893
  let done := s.putFlag R.SEC_ACMD F.SEC_ACMD_BUSY false
  if s.secFlag F.SEC_STATUS_DEBUG_LATCH then done.reportStatus 0 2
  else if s.secFlag F.SEC_STATUS_ID_EXHAUSTED then done.reportStatus 0 3
  else if s.secFlag F.SEC_STATUS_ID_STATE_BAD then done.reportStatus 0 4
  else if !inMailbox buf len then done.reportStatus 0 1
  else if !s.secFlag F.SEC_STATUS_ID_READY then s.putFlag R.SEC_ACMD F.SEC_ACMD_BUSY true
  else
    match done.readMail buf 32 with
    | (s, _, nonce) =>
      let body := s.reportBody scope nonce
      match s.signNext body with
      | (s, sig) => (s.writeMail buf (body ++ sig)).reportStatus (body ++ sig).length 0

/-- REPORT (R481, R482, R488). -/
def execReport (scope : Bool) (tenant : BitVec 8) (s : State) : Answer :=
  if s.flag R.SEC_ACMD F.SEC_ACMD_BUSY ∨ s.islandStopped secIsland then .next s
  else .next (((s.putFlag R.SEC_ACMD F.SEC_ACMD_SCOPE scope).put R.SEC_ACMD F.SEC_ACMD_TENANT tenant.toNat).runReport)

/-- EXTEND (R480). -/
def execExtend (s : State) : Answer := .next s.extend

/-! ### Fuses (R474, R476, R478, R497, R518) -/

def State.idBad (s : State) : State :=
  (s.putFlag R.SEC_STATUS F.SEC_STATUS_ID_STATE_BAD true).setErr R.SEC_ERR F.SEC_ERR_ID_STATE_BAD

/-- COMMIT (R474): the SVN fuses are burned up to the running image's SVN. `burned` is false where a pulse ended unburned (R518); `hold` tells that the last
pulse is still being driven as the command ends (R497). -/
def execCommit (burned hold : Bool) (s : State) : Answer :=
  let v := s.get R.SEC_SVN F.SEC_SVN_RUN_SVN
  if v ≤ s.fuses.svn then .next s
  else if !burned then .next s.idBad
  else
    let s := { s with fuses := { s.fuses with svn := v }, shadow := { s.shadow with svn := v }, rst := { s.rst with burning := s.rst.burning || hold },
                         sec := { s.sec with pulseSvn := hold } }
    .next (s.put R.SEC_STATUS F.SEC_STATUS_SVN_FUSED v)

/-- The chunk's flash record is written ahead and the identity is ready (R476); a report that waited is made. -/
def State.chunkReady (s : State) (k : Nat) : State :=
  let s : State := { s with sec := { s.sec with next := k * 2 ^ 20, limit := (k + 1) * 2 ^ 20, burning := none },
                            flash := { s.flash with idState := some (k, k * 2 ^ 20 + 1024) } }
  let s := s.putFlag R.SEC_STATUS F.SEC_STATUS_ID_READY true
  if s.flag R.SEC_ACMD F.SEC_ACMD_BUSY then s.runReport else s

/-- RESERVE_CHUNK (R476, R478): the routine runs when no chunk is reserved. `reads1` tells whether the fuse reads 1 after its pulse; `hold` that the pulse is
still being driven as the command ends (R497), and the flash record then follows at its end. -/
def execReserveChunk (reads1 hold : Bool) (s : State) : Answer :=
  let k := s.fuses.chunks
  let stuck := s.secFlag F.SEC_STATUS_ID_READY || s.secFlag F.SEC_STATUS_DEBUG_LATCH || s.secFlag F.SEC_STATUS_ID_STATE_BAD || s.rst.burning
  let retry (s : State) : State := if s.flag R.SEC_ACMD F.SEC_ACMD_BUSY then s.runReport else s
  if stuck || !s.rst.booted || s.islandStopped secIsland then .next s
  else if s.flash.idState.elim false (fun r => k ≤ r.1) then .next (retry s.idBad)
  else if 2048 ≤ k then
    .next (retry ((s.putFlag R.SEC_STATUS F.SEC_STATUS_ID_EXHAUSTED true).setErr R.SEC_ERR F.SEC_ERR_ID_EXHAUSTED))
  else if !reads1 then .next (retry s.idBad)
  else
    let s := { s with fuses := { s.fuses with chunks := k + 1 }, shadow := { s.shadow with chunks := k + 1 } }
    let s := s.put R.SEC_STATUS F.SEC_STATUS_CHUNKS (k + 1)
    let s := if 2048 - (k + 1) < 64 then s.setErr R.SEC_ERR F.SEC_ERR_ID_LOW else s
    if hold then .next { s with sec := { s.sec with burning := some k }, rst := { s.rst with burning := true } }
    else .next (s.chunkReady k)

/-! ### The partner's verification (R483) -/

/-- A partner's report, as this controller checks it: the certificate under the root, the report under the certificate's identity key, over the nonce chosen here,
of node scope. -/
def State.partnerOk (s : State) (cert block report sig nonce : List Byte) : Bool :=
  s.verdict none cert block == .good && Config.verifies (cert.take 64) report sig && (report.drop 192).take 64 == cert.take 64
    && leNat (report.take 4) == 0x54415357 && (report.drop 32).take 32 == padTo 32 nonce && !bitOf (leNat ((report.drop 6).take 2)) 3

/-- PARTNER_AUTH (R483): on the first ACTIVE of the Twin link after L1 each controller sends the other its certificate and a report over the other's nonce, and
verifies what it receives. `cert` and `block` are the partner's certificate and its signature block, `report` and `sig` its report, `nonce` the one chosen here,
`theirs` the partner's, `accepted` whether the partner verified this controller. A certificate that fails sets VERIFY_FAIL too (R472). -/
def execPartnerAuth (cert block report sig nonce theirs : List Byte) (accepted : Bool) (s : State) : Answer :=
  if !s.linkActive 8 || s.pair.authTried then .next s
  else
    let s := { s with pair := { s.pair with authTried := true } }
    let can := s.secFlag F.SEC_STATUS_ID_READY && !s.secFlag F.SEC_STATUS_DEBUG_LATCH
    let sent := if can then
        let body := s.reportBody none theirs
        match s.signNext body with
        | (s, g) => s.sendTwin "AUTH" 5 [] (Config.certificate ++ body ++ g)
      else s
    if can && accepted && s.partnerOk cert block report sig nonce then
      .next { sent with pair := { sent.pair with authed := true, partnerKek := (report.drop 256).take 1568 } }
    else .next ((sent.verifyImage none cert block).1.setErr R.SEC_ERR F.SEC_ERR_PARTNER_AUTH)

/-! ### Debug access (R484 to R486) -/

/-- Instructions of the JTAG port (R484, R494): `chain` stands for every debug and scan chain. -/
inductive Jtag where
  | bypass | idcode | samplePreload | extest | dbgReq | debugReset | chain
  deriving DecidableEq, Repr

/-- Whether the port accepts an instruction now (R484). -/
def State.jtagAccepts (s : State) : Jtag → Bool
  | .bypass | .idcode | .samplePreload => true
  | .extest => s.rst.resetIn
  | .dbgReq => s.secFlag F.SEC_STATUS_DBG_FUSE && s.flag R.SEC_CTRL F.SEC_CTRL_DBG_ALLOW
  | .debugReset | .chain => s.secFlag F.SEC_STATUS_DEBUG_OPEN

/-- DBG_REQ (R484, R485): refused unless the fuse and DBG_ALLOW permit it. Accepted, it sets DEBUG_LATCH, and firmware sends the goodbye notice and closes the
Inlets. -/
def execDbgReq (s : State) : Answer :=
  if !s.jtagAccepts .dbgReq then .next (s.setErr R.SEC_ERR F.SEC_ERR_DEBUG_REFUSED)
  else
    let first : Bool := s.sec.opening == 0
    let s := (s.putFlag R.SEC_STATUS F.SEC_STATUS_DEBUG_LATCH true).setErr R.SEC_ERR F.SEC_ERR_DEBUG_REQ
    if !first then .next s
    else
      let s := { s with sec := { s.sec with opening := 1 } }
      let s := s.sendGoodbye 3 0 0
      let off := s.jobs.inlets.map (·.1)
      .next (off.foldl (fun s i => s.setInlet i { s.inlet i with enable := false }) s)

/-- Every slot, the KEK, the partner's KEK and the identity seeds are zeroised (step 3 of R485). -/
def State.zeroise (s : State) : State :=
  let t := (List.range 264).foldl (fun t k =>
    let x := Tbl.get slotReset t k
    Tbl.set slotReset t k { x with full := false, key := [] }) s.sec.slots
  let s : State := { s with sec := { s.sec with slots := t, kek := 0, seeds := false }, pair := { s.pair with partnerKek := [] } }
  s.putFlag R.SEC_STATUS F.SEC_STATUS_KEK_VALID false

/-- DEBUG_ZEROISE (R485): the goodbye's wait is over: every key is zeroised and reads back zero, and the chains open. -/
def execDebugZeroise (s : State) : Answer :=
  if s.sec.opening ≠ 1 then .next s
  else
    let s := { s.zeroise with sec := { s.zeroise.sec with opening := 2 } }
    .next (s.putFlag R.SEC_STATUS F.SEC_STATUS_DEBUG_OPEN true)

end Sys2Proof.Machine
end

