-- ==== Sys2Proof/Machine/Pair.lean ====
section
/-!
DEFINITION. The pair (R430 to R451, R591): forming, copies of control state, the two paths and their loss, the fence, takeover, and switching back.
-/
namespace Sys2Proof.Machine

/-! ### States and paths -/

/-- PAIR_STATUS.STATE: 0 SOLO, 1 JOINING, 2 FORMED, 3 EXPOSED, 4 FENCING, 5 TAKING_OVER, 6 SURVIVOR. -/
def State.pairState (s : State) : Nat := s.get R.PAIR_STATUS F.PAIR_STATUS_STATE
def State.setPairState (s : State) (v : Nat) : State := s.put R.PAIR_STATUS F.PAIR_STATUS_STATE v
def State.twinOk (s : State) : Bool := s.flag R.PAIR_STATUS F.PAIR_STATUS_TWIN_OK
def State.ringOk (s : State) : Bool := s.flag R.PAIR_STATUS F.PAIR_STATUS_RING_OK
def State.setTwinOk (s : State) (b : Bool) : State := (s.putFlag R.PAIR_STATUS F.PAIR_STATUS_TWIN_OK b).serveKept
def State.setRingOk (s : State) (b : Bool) : State := (s.putFlag R.PAIR_STATUS F.PAIR_STATUS_RING_OK b).serveKept

/-- A heartbeat of the partner has arrived on a ring within RING_MISS cycles (R551). -/
def State.seenOn (s : State) (h : Option Nat) : Bool := h.elim false (fun n => n < s.get R.PAIR_CFG F.PAIR_CFG_RING_MISS)

/-- Acknowledge every queued mirror write locally (R438, R444, R446). -/
def State.ackLocally (s : State) : State :=
  let ids := s.pair.mirror.map (·.id)
  let q := s.pair.mirror.map (fun (w : MirrorWrite) => { w with sent := true })
  let s := { s with pair := { s.pair with mirror := q } }
  (ids.foldl (fun s i => s.mirrorAcked i) s).releaseJobs

/-- EXPOSED (R444): queued mirror writes are acknowledged locally, and their units are marked for the resync. -/
def State.enterExposed (s : State) : State :=
  let s := (s.setPairState 3).setErr R.PAIR_ERR F.PAIR_ERR_EXPOSED
  let marks := s.pair.mirror.foldl (fun m (w : MirrorWrite) => if w.ctl.isSome || m.contains (w.pa / 65536) then m else m ++ [w.pa / 65536]) s.pair.resync
  State.ackLocally { s with pair := { s.pair with resync := marks } }

/-- PARTNER_RST_OUT_L is asserted (R445). -/
def State.assertFence (s : State) : State :=
  let s := { s with pair := { s.pair with fenceWait := false, fenceHeld := false }, rst := { s.rst with fenceLand := true } }
  ((s.putFlag R.PAIR_STATUS F.PAIR_STATUS_FENCE_OUT true).send (.land "PARTNER_RST_OUT_L" false)).setErr R.PAIR_ERR F.PAIR_ERR_FENCED

/-- Both paths are lost (R442, R445): side 0, or any side after a goodbye, fences at once; side 1 waits FENCE_DELAY first. -/
def State.beginFence (s : State) (delay : Bool) : State :=
  let s := s.setPairState 4
  if delay && s.flag R.PAIR_STATUS F.PAIR_STATUS_SIDE then { s with pair := { s.pair with fenceWait := true } } else s.assertFence

/-- The pair watches its partner: FORMED or EXPOSED. -/
def State.paired (s : State) : Bool := s.pairState == 2 || s.pairState == 3

/-- TWIN_PATH_LOST (R441, R442): the link has been broken for TWIN_GRACE_MS, or is ACTIVE and no complete copy has arrived for MISS_LIMIT cycles. -/
def execTwinPathLost (s : State) : Answer :=
  if !s.twinOk || (s.linkActive 8 && s.pair.sinceCopy < s.get R.PAIR_CFG F.PAIR_CFG_MISS_LIMIT) then .next s
  else
    let s := (s.setTwinOk false).setErr R.PAIR_ERR F.PAIR_ERR_TWIN_LOST
    if !s.paired then .next s
    else if !s.ringOk then .next (s.beginFence true)
    else if s.pairState = 2 then .next s.enterExposed
    else .next s

/-- RING_PATH_LOST (R441, R442). -/
def execRingPathLost (s : State) : Answer :=
  if !s.ringOk || s.seenOn s.mgmt.hb0 || s.seenOn s.mgmt.hb1 then .next s
  else
    let s := (s.setRingOk false).setErr R.PAIR_ERR F.PAIR_ERR_RING_LOST
    if s.paired && !s.twinOk then .next (s.beginFence true) else .next s

/-- GOODBYE (R443, R550, R551): a partner's notice, bytes 4 to 35 of its frame, over the Twin link or as a frame taken from a ring. Both paths count lost, and a
formed controller fences with no delay. It raises interrupt 4 in the Wellhead cores (R135; log entry 121). -/
def execGoodbye (body : List Byte) (overRing : Bool) (s : State) : Answer :=
  if overRing && !s.bypassOpen then .next s else
  let s := if overRing then s.bump R.MGMT_CNT_RING_RX else s
  let s := s.setErr R.PAIR_ERR F.PAIR_ERR_GOODBYE
  if s.pair.goodbye then .next s
  else
    let paired := s.paired
    let s := (s.writeEvent { kind := 3, code := 0, count := 0, mcycle := (s.reg R.WELL_MCYCLE).toNat, body := padTo 32 body }).raiseWell 4
    let s := { s with pair := { s.pair with goodbye := true } }
    let s := if s.twinOk then s.setErr R.PAIR_ERR F.PAIR_ERR_TWIN_LOST else s
    let s := if s.ringOk then s.setErr R.PAIR_ERR F.PAIR_ERR_RING_LOST else s
    let s := (s.setTwinOk false).setRingOk false
    if paired then .next (s.beginFence false)
    else if s.pair.fenceWait then .next s.assertFence
    else .next s

/-- FENCE_DELAY_EXPIRY (R445). -/
def execFenceDelayExpiry (s : State) : Answer := if s.pair.fenceWait then .next s.assertFence else .next s

/-! ### Takeover (R446, R447, R74, R368) -/

/-- The record of a lost object (R447): REASON 0 Plain, 1 Protected, 2 Mirrored and EXPOSED, 3 region key clash. -/
def State.lostObject (s : State) (reason tenant basin size tpa key : Nat) : State :=
  let body := leBytes reason 1 ++ leBytes tenant 1 ++ leBytes basin 2 ++ leBytes size 4 ++ leBytes (tpa * s.unitBytes) 8 ++ leBytes key 8
  let s := s.writeEvent { kind := 2, code := 0, count := 0, mcycle := (s.reg R.WELL_MCYCLE).toNat, body := padTo 32 body }
  s.setErr R.PAIR_ERR F.PAIR_ERR_BASINS_LOST

/-- A block as its header in memory says it is (R74): the copy's entry may be a cycle old. Where the header line is poisoned or cannot be read, the copy's entry
stands. DESIGN CHOICE, log entry 118. -/
def State.rereadBlock (s : State) (tenant : Nat) (b : KvBlk) : State × KvBlk :=
  match s.memRead b.pa (some tenant) tenant with
  | (s, r) =>
    if r.stat = .ok ∧ !r.poison then
      let h := headerOf r.data
      (s, { b with first := h.first, tokens := h.tokens, outliers := h.outliers, promoted := h.promoted, checksum := h.checksum,
                   shut := bitOf h.flags 0, early := bitOf h.flags 1, shared := bitOf h.flags 2 })
    else (s, b)

/-- The block headers that stand in a basin's frames in memory, by frame address: its block tables live there (R439). DEDUCED, log entry 116: the manual gives
the tables no layout, and a header says all that an entry of one does. -/
def State.headersOf (s : State) (basin : Nat) (b : Basin) : List (Nat × Header) :=
  let units := s.poolUnits basin ++ s.allowance basin
  s.pool.side.filterMap (fun e =>
    let pa := 64 * e.1
    if units.any (fun u => u / frameUnit == pa / frameUnit) then
      let r := (s.memRead pa (some b.tenant) b.tenant).2
      let h := headerOf r.data
      if r.stat = .ok ∧ !r.poison ∧ h.tokens ≠ 0 ∧ h.tokens ≤ 256 ∧ pa % frameUnit % (max 1 (frameBytes h.format (dimOf h.hdim))) = 0 then some (pa, h) else none
    else none)

/-- The block that a header tells of. -/
def Header.block (h : Header) (pa basin : Nat) : KvBlk :=
  { pa := pa, basin := basin, format := h.format, hdim := h.hdim, layer := h.layer, head := h.head, first := h.first, tokens := h.tokens,
    outliers := h.outliers, promoted := h.promoted, checksum := h.checksum, shut := bitOf h.flags 0, early := bitOf h.flags 1,
    shared := bitOf h.flags 2, seq := h.seq, heat := 0 }

/-- The header of the block that follows position `at_` in a head of a sequence: the one with the most tokens, an unsealed one before a sealed one, since a
published version's copy holds no more tokens and is sealed (R65). -/
def nextHeader (hs : List (Nat × Header)) (q : Seq) (handle layer head at_ : Nat) : Option (Nat × Header) :=
  (sortBy (fun e => 2 * (256 - e.2.tokens) + e.2.flags % 2) (hs.filter (fun e => e.2.seq == handle && e.2.layer == layer && e.2.head == head &&
    e.2.first == at_ && e.2.format == q.format && e.2.hdim == q.hdim))).head?

/-- Add the blocks opened in a head since the copy: each follows the end of one that is sealed. `fuel` bounds them. -/
def State.extendHead (s : State) (hs : List (Nat × Header)) (handle layer head : Nat) (q : Seq) : Nat → State × Seq
  | 0 => (s, q)
  | fuel + 1 =>
    let t := q.tableOf layer head
    let last := t.getLast?.bind s.blk
    if last.elim false (fun b => !b.shut) then (s, q)
    else match nextHeader hs q handle layer head (last.elim 0 (fun b => b.first + b.tokens)) with
      | none => (s, q)
      | some (pa, h) =>
        let k := s.kv.nextBlk
        let s := ({ s with kv := { s.kv with nextBlk := k + 1 } } : State).setBlk k (some (h.block pa q.basin))
        s.extendHead hs handle layer head (q.setTable layer head (t ++ [k])) fuel

/-- The block tables of an adopted sequence, as its basin's memory has them (R74, R439). -/
def State.extendSeq (s : State) (hs : List (Nat × Header)) (handle : Nat) (q : Seq) : State × Seq :=
  (List.range (q.layers * q.heads)).foldl (fun acc i => acc.1.extendHead hs handle (i / max 1 q.heads) (i % max 1 q.heads) acc.2 hs.length) (s, q)

/-- Advance WINDOW_HEAD past the window records that were committed before the failure, those whose POS is below the rebuilt length of their LAYER (R48);
`fuel` bounds them. A record that cannot be read stops it. -/
def State.skipWindow (s : State) (q : Seq) : Nat → State × Seq
  | 0 => (s, q)
  | fuel + 1 =>
    let n := slotBytes q.heads (dimOf q.hdim)
    match s.readVa q.client q.asid q.tenant (q.windowVa + q.windowHead % (max 1 q.windowSlots) * n) [] 1 with
    | (s, ls) =>
      let bs := ls.flatMap (·.data)
      if ls.all (fun l => l.stat == .ok && !l.poison) ∧ recLayer bs < q.layers ∧ recPos bs < q.lenOf (recLayer bs) then
        s.skipWindow { q with windowHead := (q.windowHead + 1) % 2 ^ 32 } fuel
      else (s, q)

/-- Committed lengths of a rebuilt sequence: for each layer the smallest FIRST_POS + TOKENS over its heads' last blocks (R74). -/
def State.rebuiltLens (s : State) (q : Seq) : Tbl Nat :=
  (List.range q.layers).foldl (fun t y =>
    let ends := (List.range q.heads).map (fun h => match (q.tableOf y h).getLast? with
      | some x => (s.blk x).elim 0 (fun b => b.first + b.tokens)
      | none => 0)
    Tbl.set (fun _ => 0) t y (ends.foldl min (ends.headD 0))) []

/-- Give block numbers of the copy the numbers they take here. -/
def shiftTable (n : Nat) (t : Tbl (List Nat)) : Tbl (List Nat) := t.map (fun e => (e.1, e.2.map (· + n)))

/-- A sequence of a taken-over basin: its tables and lengths as memory has them, its window past what was committed (R48, R74). -/
def State.adoptSeq (s : State) (hs : List (Nat × Header)) (n slot gen : Nat) (q : Seq) : State :=
  let s := { s with kv := { s.kv with gens := Tbl.set (fun _ => 0) s.kv.gens slot gen } }
  match s.extendSeq hs (slot + gen * 2 ^ 18) { q with blocks := shiftTable n q.blocks, waits := [] } with
  | (s, q) =>
    match s.skipWindow { q with lens := s.rebuiltLens q } (max 1 q.windowSlots) with
    | (s, q) => s.setSeq slot (some q)

/-- Steps 2 and 4: sequences, regions and blocks of the taken-over basins come in from the last copy; versions stay 10,000 cycles. Every pin that a client held
through the failed controller is void; a sequence's own pin on the version it started from (R60) stands with the sequence. DESIGN CHOICE, log entry 119. A
region without a live version brings its counter (R73). -/
def State.adoptKv (s : State) (mine : List Nat) : State :=
  let c := s.pair.copy
  let n := s.kv.nextBlk
  let blks := c.blks.filter (fun e => mine.contains e.2.basin)
  let s := blks.foldl (fun s e =>
    match s.rereadBlock ((s.basin e.2.basin).elim 0 (·.tenant)) e.2 with
    | (s, b) => s.setBlk (n + e.1) (some b)) s
  let top := blks.foldl (fun m e => max m (n + e.1 + 1)) n
  let s := { s with kv := { s.kv with nextBlk := top } }
  let hs := mine.flatMap (fun id => (s.basin id).elim [] (s.headersOf id))
  let s := (c.seqs.filter (fun e => mine.contains e.2.basin)).foldl (fun s e =>
    s.adoptSeq hs n e.1 ((c.gens.find? (fun g => g.1 == e.1)).elim (s.genOf e.1) (·.2)) e.2) s
  c.regions.foldl (fun s r =>
    let vs := (r.versions.filter (fun v => !v.retired && mine.contains v.basin)).map (fun (v : Version) =>
      { v with blocks := shiftTable n v.blocks, waits := [], kept := 10001 })
    match vs with
    | [] => if mine.contains r.basin && (s.region r.tenant r.key).isNone then s.putRegion { r with versions := [] } else s
    | v :: _ =>
      if (s.region r.tenant r.key).isSome then
        match s.basin v.basin with
        | some b => s.lostObject 3 r.tenant v.basin b.size b.tpa r.key
        | none => s
      else s.putRegion { r with versions := vs, idle := 0 }) s

/-- Step 2: this controller becomes home of the partner's Mirrored basins; one that was EXPOSED is lost. -/
def State.adoptBasins (s : State) : State × List Nat :=
  let theirs := s.basins.filter (fun e => e.2.shadowHere && !e.2.takenOver)
  if s.pair.partnerExposed then (theirs.foldl (fun s e => s.setBasin e.1 none) s, [])
  else (theirs.foldl (fun s e => s.setBasin e.1 (some { e.2 with shadowHere := false, takenOver := true })) s, theirs.map (·.1))

/-- Step 3: no directory entries, the copy's sharer sets and dead endpoints, and suspect units with a takeover sweep of each basin that has any. -/
def State.adoptHome (s : State) (mine : List Nat) : State :=
  let c := s.pair.copy
  let sus := c.cached.filter (fun k => mine.contains k.1)
  let h := s.home
  let sweeps := (mine.filter (fun b => sus.any (fun k => k.1 == b))).map (fun b => ({ kind := SweepKind.takeover, basin := b, ep := 0 } : Sweep))
  let s := { s with home := { h with suspects := h.suspects ++ sus, cached := h.cached ++ sus, takeover := h.takeover || sus != [],
                                     sweeps := h.sweeps ++ sweeps } }
  let s := c.dead.foldl (fun s e => s.setReg (R.DIR_DEAD (e / 64)) (s.reg (R.DIR_DEAD (e / 64)) ||| BitVec.ofNat 64 (2 ^ (e % 64)))) s
  (c.sharers.filter (fun e => mine.contains e.1)).foldl (fun s e => s.setSharers e.1 (e.2.filter (fun x => !s.isDead x))) s

/-- Step 5: what the partner held and the survivor cannot serve (R447). -/
def State.reportLost (s : State) (lost : List (Nat × Basin)) : State :=
  let s := s.pair.copy.others.foldl (fun s o => s.lostObject o.2.1 o.2.2.1 o.1 o.2.2.2.1 o.2.2.2.2 0) s
  lost.foldl (fun s e => s.lostObject 2 e.2.tenant e.1 e.2.size e.2.tpa 0) s

/-- The steps of R446 in order. -/
def State.takeover (s : State) : State :=
  let s := (s.setPairState 5).ackLocally
  let l := s.link 8
  let s := s.setLink 8 { l with queue := l.queue.filter (fun p => p.op != "MIRROR_WRITE") }
  let lost := if s.pair.partnerExposed then s.basins.filter (fun e => e.2.shadowHere && !e.2.takenOver) else []
  match s.adoptBasins with
  | (s, mine) =>
    let s := ((s.adoptHome mine).adoptKv mine).reportLost lost
    let s := { s with pair := { s.pair with authed := false, authTried := false, partnerKek := [], resync := [], copy := {}, partnerExposed := false, kept := [] } }
    (s.pumpAll.setPairState 6).setErr R.PAIR_ERR F.PAIR_ERR_TAKEOVER_DONE

/-- PAIR_CMD's status: 0 OK, 1 BAD_ARG, 2 NOT_ALLOWED, 3 PARTNER_UNAVAILABLE, 4 NO_SPACE. -/
def State.pairStatus (s : State) (v : Nat) : State :=
  (s.putFlag R.PAIR_CMD F.PAIR_CMD_BUSY false).put R.PAIR_CMD F.PAIR_CMD_STATUS v
def State.pairBusy (s : State) : Bool := s.flag R.PAIR_CMD F.PAIR_CMD_BUSY

/-- FENCE_HELD (R445, R446): the fence has been asserted for 1 ms: an automatic takeover runs, or the command that waits for it. -/
def execFenceHeld (s : State) : Answer :=
  if s.pairState ≠ 4 ∨ !s.rst.fenceLand ∨ s.pair.fenceHeld then .next s
  else
    let s := { s with pair := { s.pair with fenceHeld := true } }
    if s.pairBusy then .next (s.takeover.pairStatus 0)
    else if s.flag R.PAIR_CFG F.PAIR_CFG_AUTO_TAKEOVER then .next s.takeover
    else .next s

/-- TAKEOVER (R445, R446): only a fencing controller takes over, and not before its fence has been held for 1 ms. -/
def execTakeover (s : State) : Answer :=
  if s.pairBusy then .next s
  else if s.pairState ≠ 4 then .next (s.pairStatus 2)
  else if s.pair.fenceHeld then .next (s.takeover.pairStatus 0)
  else .next (s.putFlag R.PAIR_CMD F.PAIR_CMD_BUSY true)

/-- FENCE_RELEASE (R445, R449). -/
def execFenceRelease (s : State) : Answer :=
  if s.pairBusy then .next s
  else if !s.rst.fenceLand then .next (s.pairStatus 2)
  else
    let s := { s with rst := { s.rst with fenceLand := false }, pair := { s.pair with fenceHeld := false } }
    .next (((s.putFlag R.PAIR_STATUS F.PAIR_STATUS_FENCE_OUT false).send (.land "PARTNER_RST_OUT_L" true)).pairStatus 0)

/-! ### Forming and joining (R450, R591) -/

/-- FORMED is entered: a new formation's copies start afresh. -/
def State.enterFormed (s : State) : State :=
  let s := { s with pair := { s.pair with resync := [], partnerExposed := false, sinceCopy := 0, lastCopy := none, goodbye := false } }
  (s.setTwinOk true).setPairState 2

/-- Registers of the QoS block that software sets, and the privileged-endpoint table, as they are copied (R439). -/
def State.regsIn (s : State) (lo hi : Nat) : List (Nat × Nat) :=
  (s.regs.filter (fun e => lo ≤ e.1 && e.1 < hi && !isCounter e.1)).map (fun e => (e.1, e.2.toNat))

/-- The control state committed at a cycle boundary, for the partner (R26, R439): what belongs to the Mirrored basins served here, and what is copied whole. -/
def State.ownCopy (s : State) : Copy :=
  let serves (e : Nat × Basin) : Bool := e.2.kind == 2 && !e.2.shadowHere && !e.2.destroyed
  let ids := (s.basins.filter serves).map (·.1)
  let k := s.kv
  let seqs := k.seqs.filterMap (fun e => e.2.bind (fun q => if ids.contains q.basin then some (e.1, q) else none))
  let regions := k.regions.filter (fun r => ids.contains r.basin || r.versions.any (fun v => ids.contains v.basin))
  { cached := s.home.cached.filter (fun x => ids.contains x.1)
    sharers := s.home.sharers.filter (fun e => ids.contains e.1)
    dead := (List.range 4096).filter s.isDead
    seqs := seqs
    gens := seqs.map (fun e => (e.1, s.genOf e.1))
    blks := k.blks.filterMap (fun e => e.2.bind (fun x => if ids.contains x.basin then some (e.1, x) else none))
    regions := regions
    pins := k.pins.filter (fun p => regions.any (fun r => r.tenant == p.tenant && r.key == p.key))
    qos := s.regsIn R.QOS_BASE (R.QOS_BASE + 0x10000)
    priv := s.regsIn (R.SHAL_PRIV_CTL 0) (R.SHAL_PRIV_CTL 64)
    params := s.mgmt.params
    others := (s.basins.filter (fun e => e.2.kind != 2 && !e.2.shadowHere && !e.2.destroyed)).map
      (fun e => (e.1, e.2.kind, e.2.tenant, e.2.size, e.2.tpa)) }

/-- Send a copy, its commit record last (R440). -/
def State.sendCopy (s : State) (m : CopyMsg) : State :=
  ((s.sendTwin (if m.full then "FULL_COPY" else "COPY") 5 [m.n] []).send (.copy m)).bump R.PAIR_CNT_COPIES

/-- Full tenant key slots go to the partner in the form of R470; the GEN of each of its slots is not known here, a free value. -/
def State.sendKeys (s : State) : State :=
  ((List.range 256).filter (fun k => s.slotFull k)).foldl (fun s k => s.sendKey k (Config.freeNat s.fresh % 2 ^ 32) (s.slot k).key) s

/-- Take in tenants, endpoint bindings, contexts and keys that this controller lacks (R431, R439, R591). -/
def State.takeObjects (s : State) (m : CopyMsg) : State :=
  let x : Xlat := s.xlat
  let none' {α : Type} : Nat → Option α := fun _ => none
  let tn := m.tenants.foldl (fun t (e : Nat × Tenant) => Tbl.set none' t e.1 (some e.2)) x.tenants
  let bd := m.bound.foldl (fun t (e : Nat × Nat) => Tbl.set none' t e.1 (some e.2)) x.bound
  let ct := m.contexts.foldl (fun t (e : Nat × Nat) => Tbl.set none' t e.1 (some e.2)) x.contexts
  let asids := m.s1.map (·.asid)
  let x : Xlat := { x with tenants := tn, bound := bd, contexts := ct, s1 := x.s1.filter (fun (e : S1Entry) => !asids.contains e.asid) ++ m.s1 }
  let s := { s with xlat := x }
  let s := m.keys.foldl (fun s e => if s.slotFull e.1 then s else s.setSlot e.1 { full := true, gen := ((s.slot e.1).gen + 1) % 2 ^ 32, key := e.2 }) s
  m.erased.foldl (fun s k => s.setSlot k { full := false, gen := ((s.slot k).gen + 1) % 2 ^ 32, key := [] }) s

/-- Two controllers hold one identity with different arguments, or one slot with different keys (R591). -/
def State.clashes (s : State) (m : CopyMsg) : Bool :=
  m.tenants.any (fun e => (s.tenantOf e.1).elim false (fun t => t != e.2))
    || m.bound.any (fun e => (s.boundTo e.1).elim false (fun t => t != e.2))
    || m.contexts.any (fun e => (s.contextOf e.1).elim false (fun t => t != e.2))
    || m.keys.any (fun e => s.slotFull e.1 && (s.slot e.1).key != e.2)

/-- PAIR_FORM (R591): what a SOLO controller does, once both have verified, by the partner's state, whether the partner holds a basin, and the objects the partner
holds. -/
def execPairForm (partner : Fin 7) (partnerBasins : Bool) (objects : CopyMsg) (s : State) : Answer :=
  if s.pairState ≠ 0 ∨ !s.pair.authed ∨ !s.linkActive 8 then .next s
  else if partner = 0 then
    if partnerBasins || s.basins != [] || s.clashes objects then .next (s.setErr R.PAIR_ERR F.PAIR_ERR_TWIN_LOST)
    else
      let s := s.sendTwin "OBJECTS" 5 [s.xlat.tenants.length, s.xlat.bound.length, s.xlat.contexts.length] []
      .next ((s.sendKeys.takeObjects objects).enterFormed)
  else if partner = 6 then .next (s.setPairState 1)
  else .next s

/-- The shadow that a joining controller has reserved for a basin's runs: the same units, at the offsets it names. -/
def Basin.withShadow (b : Basin) (bases : List Nat) : Basin × List Nat :=
  let n := b.mapped.length
  let k := b.poolRuns.length
  ({ b with shadowMapped := shadowOf b.mapped bases, shadowPool := shadowOf b.poolRuns (bases.drop n),
            shadowSpill := shadowOf b.spillRuns (bases.drop (n + k)) }, bases.drop (n + k + b.spillRuns.length))

/-- Copy the lines of a basin to its new shadow: those that its fill and the shadow's have not left alike (R244, R450). Log entry 126. -/
def State.copyBasin (s : State) (b : Basin) : State :=
  ((s.pool.side.map (fun e => 64 * e.1)).filter (b.holds s.unitBytes)).foldl (fun s pa =>
    match b.shadowPa s.unitBytes pa with
    | some sh => s.queueMirror pa sh b.tenant
    | none => s) s

/-- The survivor's part of an ADMIT ends: both controllers enter FORMED once the partner holds every line copied; a link that is lost ends it with
PARTNER_UNAVAILABLE. Log entry 126. -/
def State.pumpAdmit (s : State) : State :=
  match s.pair.admitting with
  | none => s
  | some n =>
    let ended (s : State) : State := { s with pair := { s.pair with admitting := none } }
    if !s.linkActive 8 then (ended s).ackLocally.pairStatus 3
    else if s.pair.mirror.any (fun w => w.id < n) then s
    else (ended s).enterFormed.pairStatus 0

/-- ADMIT (R450): a full copy goes to the joining controller, which reserves and fills a shadow for every Mirrored basin homed here; every line is copied to it,
and then both enter FORMED. `answer` is its answer, 0 for OK, `shadow` the offsets of the runs it reserved. -/
def execAdmit (answer : Fin 5) (shadow : List Nat) (s : State) : Answer :=
  if s.pairBusy then .next s
  else if s.pairState ≠ 6 then .next (s.pairStatus 2)
  else if !s.linkActive 8 || !s.pair.authed then .next (s.pairStatus 3)
  else if answer ≠ 0 then .next (s.pairStatus answer)
  else
    let x : Xlat := s.xlat
    let held {α : Type} (t : Tbl (Option α)) : List (Nat × α) := t.filterMap (fun e => e.2.map (fun v => (e.1, v)))
    let s := s.sendKeys.sendCopy { n := (s.reg R.WELL_MCYCLE).toNat, full := true, tenants := held x.tenants, bound := held x.bound,
                                   contexts := held x.contexts, s1 := x.s1, rest := s.ownCopy }
    let mine := s.basins.filter (fun e => e.2.kind == 2 && !e.2.shadowHere && !e.2.destroyed)
    let r := mine.foldl (fun (acc : State × List Nat) e =>
      let x := e.2.withShadow acc.2
      ((acc.1.setBasin e.1 (some x.1)).copyBasin x.1, x.2)) (s, shadow)
    let s : State := r.1
    .next (State.putFlag { s with pair := { s.pair with admitting := some s.pair.nextMirror } } R.PAIR_CMD F.PAIR_CMD_BUSY true)

/-! ### Copies (R439, R440) -/

/-- Shadows the partner's basins have here: a new one is filled with 0 under the tenant's key (R244). -/
def State.takeBasins (s : State) (m : CopyMsg) : State :=
  let s := m.gone.foldl (fun s b => if (s.basin b).elim false (·.shadowHere) then s.setBasin b none else s) s
  m.basins.foldl (fun s e =>
    let b : Basin := { e.2 with shadowHere := true, takenOver := false, moving := false, making := (s.basin e.1).elim true (·.making) }
    match s.basin e.1 with
    | some old => if old.shadowHere then s.setBasin e.1 (some b) else s
    | none => (s.setBasin e.1 (some b)).fillRuns e.1 b.tenant (b.mapped ++ b.poolRuns ++ b.spillRuns)) s

/-- COPY_COMMIT (R440): the copy of the partner's cycle n is applied whole, in ascending n. The full copy of an ADMIT brings a joining controller its shadows; the
first copy of a cycle after it, which a survivor sends only once it is FORMED, takes the joining controller to FORMED too (R450; log entry 126). It raises
interrupt 4 in the Wellhead cores (R135; log entry 121). -/
def execCopyCommit (m : CopyMsg) (s : State) : Answer :=
  let st := s.pairState
  let admitted : Bool := st == 1 && s.pair.lastCopy.isSome && !m.full
  let due : Bool := s.linkActive 8 && s.pair.authed && (if st == 1 then m.full || admitted else st == 2 || st == 3) && s.pair.lastCopy.elim true (fun n => n < m.n)
  if !due then .next s
  else
    let s := ((s.takeObjects m).takeBasins m).put R.PAIR_STATUS F.PAIR_STATUS_COPY_SEQ m.n
    let s := if admitted then s.enterFormed else s.setTwinOk true
    .next (State.raiseWell { s with pair := { s.pair with copy := m.rest, sinceCopy := 0, lastCopy := some m.n } } 4)

/-! ### Resync (R444) -/

/-- Send the lines of one marked unit to the partner's shadow. -/
def State.resyncUnit (s : State) (k : Nat) : State :=
  let s := (List.range 1024).foldl (fun s i =>
    let pa := k * 65536 + 64 * i
    match s.basinAt pa with
    | none => s
    | some (_, b) => match b.shadowPa s.unitBytes pa with
      | none => s
      | some sh => s.queueMirror pa sh b.tenant) s
  s.bump R.PAIR_CNT_RESYNC_UNITS

/-- RESYNC_DONE (R444): both paths are held again, and the marked units have been sent. -/
def execResyncDone (s : State) : Answer :=
  if s.pairState ≠ 3 ∨ !s.twinOk ∨ !s.ringOk then .next s
  else
    let marks := s.pair.resync
    let s := { s with pair := { s.pair with resync := [] } }
    .next (((marks.foldl State.resyncUnit s).setPairState 2).setErr R.PAIR_ERR F.PAIR_ERR_RESYNC_DONE)

/-! ### Switching back (R451) -/

/-- Recall every directory entry of a basin, keeping the data returned. -/
def State.recallKeep (s : State) (id : Nat) (b : Basin) (ans : List SnoopAnswer) : State :=
  s.home.entries.foldl (fun s e =>
    let la := 64 * e.1
    if !b.holds s.unitBytes la then s
    else
      let s := s.recallInternal la
      match holders (s.dirEntry la).st (s.dirEntry la).ptrs with
      | none => s.setDir la .i [] 0
      | some who => (s.sweepLine id b.tenant la who ans).1.setDir la .i [] 0) s

/-- Step 4, once the partner holds the basin's sequences and regions: the home is handed over, and the basin's own copy here becomes the shadow. -/
def State.handOver (s : State) (id : Nat) (b : Basin) : State :=
  let s := s.toPartner "SWITCH_BACK" [id]
  let k := s.kv
  let seqs := k.seqs.filterMap (fun e => e.2.bind (fun q => if q.basin = id then some (e.1, q) else none))
  let blks := k.blks.filterMap (fun e => e.2.bind (fun x => if x.basin = id then some (e.1, x) else none))
  let inId (r : Region) : Bool := r.basin == id || r.versions.any (fun v => v.basin == id)
  let c := s.pair.copy
  let c : Copy := { c with seqs := c.seqs ++ seqs, blks := c.blks ++ blks, regions := c.regions ++ k.regions.filter inId,
                           gens := c.gens ++ seqs.map (fun e => (e.1, s.genOf e.1)), sharers := c.sharers ++ [(id, s.sharers id)],
                           cached := c.cached ++ s.home.cached.filter (fun x => x.1 == id) }
  let kv : Kv := { k with seqs := k.seqs.filter (fun e => e.2.elim true (fun q => q.basin != id)),
                          blks := k.blks.filter (fun e => e.2.elim true (fun x => x.basin != id)),
                          regions := k.regions.filter (fun r => !inId r),
                          pins := k.pins.filter (fun p => !(k.regions.any (fun r => inId r && r.tenant == p.tenant && r.key == p.key))) }
  let h := s.home
  let home : Home := { h with sharers := Tbl.set (fun _ => []) h.sharers id [], cached := h.cached.filter (fun x => x.1 != id),
                              suspects := h.suspects.filter (fun x => x.1 != id) }
  State.setBasin { s with kv := kv, home := home, pair := { s.pair with copy := c } } id
    (some { b with shadowHere := true, takenOver := false, moving := false, waitJobs := [] })

/-- A basin's lines that the partner does not hold as they stand here yet. -/
def State.unmirrored (s : State) (b : Basin) : Bool := s.pair.mirror.any (fun w => b.holds s.unitBytes w.pa)

/-- No request to a basin taken in earlier is unperformed, no transaction of it is open, and the jobs that ran when its switch began have completed. -/
def State.basinQuiet (s : State) (b : Basin) : Bool :=
  let mine (pa : Nat) : Bool := b.holds s.unitBytes pa
  !(s.home.txns.any (fun t => mine t.req.pa)) && !(s.unperformed.any (fun r => mine r.pa)) && !s.unmirrored b && s.allDone b.waitJobs

/-- Take a basin off a SWITCH_BACK. -/
def State.endSwitch (s : State) (id : Nat) : State :=
  { s with pair := { s.pair with switching := s.pair.switching.filter (· != id), handing := s.pair.handing.filter (fun e => e.1 != id) } }

/-- The next steps of one basin's switch (R451): recalled once it is quiet, and its sequences and regions sent; handed over once the partner holds them. -/
def State.switchBasin (ans : List SnoopAnswer) (s : State) (id : Nat) : State :=
  match s.basin id with
  | none => s.endSwitch id
  | some b =>
    match s.pair.handing.find? (fun e => e.1 == id) with
    | none =>
      if !s.basinQuiet b then s
      else
        let s := s.recallKeep id b ans
        let n := s.pair.nextMirror
        let s := s.changePartner "KV_STATE" [id]
        { s with pair := { s.pair with handing := s.pair.handing ++ [(id, n)] } }
    | some e => if s.unmirrored b || s.pair.mirror.any (fun w => w.id == e.2) then s else (s.handOver id b).endSwitch id

/-- Each basin's switch goes on; the command ends when none is left, or with PARTNER_UNAVAILABLE when the pair is no longer FORMED: DESIGN CHOICE, log entry
124. -/
def State.pumpSwitch (s : State) (ans : List SnoopAnswer) : State :=
  if s.pair.switching = [] then s
  else if s.pairState ≠ 2 then
    (s.pair.switching.foldl (fun s id => (match s.basin id with
      | some b => s.setBasin id (some { b with moving := false, waitJobs := [] })
      | none => s).endSwitch id) s).pairStatus 3
  else
    let s := s.pair.switching.foldl (State.switchBasin ans) s
    if s.pair.switching = [] then (s.pairStatus 0).setErr R.PAIR_ERR F.PAIR_ERR_SWITCHED_BACK else s

/-- SWITCH_BACK (R451, R457): from now on new requests of the basins named are answered RETRY_AFTER, and each is handed over when nothing of it is in progress. -/
def execSwitchBack (basin : BitVec 10) (all : Bool) (ans : List SnoopAnswer) (s : State) : Answer :=
  if s.pairBusy then .next s
  else
    let s := (s.put R.PAIR_CMD F.PAIR_CMD_BASIN basin.toNat).putFlag R.PAIR_CMD F.PAIR_CMD_ALL all
    if s.pairState ≠ 2 then .next (s.pairStatus 2)
    else
      let taken := (s.basins.filter (fun e => e.2.takenOver && !e.2.destroyed)).map (·.1)
      let l := if all then taken else taken.filter (· == basin.toNat)
      if l = [] then .next (s.pairStatus (if all then 0 else 1))
      else
        let s := l.foldl (fun s id => match s.basin id with
          | some b => s.setBasin id (some { b with moving := true, waitJobs := s.inFlight })
          | none => s) s
        let s := { s with pair := { s.pair with switching := l } }
        .next ((s.putFlag R.PAIR_CMD F.PAIR_CMD_BUSY true).pumpSwitch ans)

end Sys2Proof.Machine
end

