-- ==== Sys2Proof/Machine/Shallows.lean ====
section
/-!
DEFINITION. The Shallows mesh (R321 to R331): where units attach, the routing sideband, hops, multicasts, reassembly by count, and the starvation
throttle.
-/
namespace Sys2Proof.Machine

/-! ### The sideband (R322) -/
def sbDestX (w : Nat) : Nat := bitsOf w 0 4
def sbDestY (w : Nat) : Nat := bitsOf w 4 4
def sbDestPort (w : Nat) : Nat := bitsOf w 8 2
def sbMc (w : Nat) : Nat := bitsOf w 10 2
def sbTarget (w : Nat) : Nat := bitsOf w 12 16
def sbSrcX (w : Nat) : Nat := bitsOf w 28 4
def sbSrcY (w : Nat) : Nat := bitsOf w 32 4
def sbSrcPort (w : Nat) : Nat := bitsOf w 36 2
def sbTid (w : Nat) : Nat := bitsOf w 38 12
def sbPseq (w : Nat) : Nat := bitsOf w 50 9
def sbTotal (w : Nat) : Nat := bitsOf w 59 9 + 1
def sbLast (w : Nat) : Bool := bitOf w 68
/-- Class of R306, or 6 for a hierarchy message. -/
def sbClass (w : Nat) : Nat := bitsOf w 69 3
def sbAge (w : Nat) : Nat := bitsOf w 72 16
def sbKind (w : Nat) : Nat := bitsOf w 88 3 + 2
def sbSetAge (w a : Nat) : Nat := setBits w 72 16 (min a 65535)
def sbSetTarget (w t : Nat) : Nat := setBits w 12 16 t

/-! ### Attachments (R321) -/

/-- The kind (R137) and address of the unit at a router's port, or nothing. -/
def unitAtPort (x y port : Nat) : Option (Nat × Nat) :=
  if 16 ≤ x ∨ 12 ≤ y ∨ 4 ≤ port then none
  else
    let q := x / 8 + 2 * (y / 6)
    let lx := x % 8
    let ly := y % 6
    match port with
    | 0 | 1 => some (3, hierAddr 3 q (32 * (ly / 2) + 16 * (ly % 2) + 2 * lx + port))
    | 2 =>
      if 2 ≤ lx ∧ lx ≤ 5 then some (2, hierAddr 2 q (4 * ly + (lx - 2)))
      else if lx = 0 ∧ ly = 0 then some (2, hierAddr 2 q 24)
      else none
    | _ =>
      if lx = 0 ∧ ly = 2 then some (4, hierAddr 4 q 0)
      else if lx = 7 ∧ ly = 3 then some (4, hierAddr 4 q 1)
      else if lx = 1 ∧ ly % 2 = 1 then some (5, hierAddr 5 q (ly / 2))
      else if lx = 6 ∧ ly = 0 then some (1, hierAddr 1 q 0)
      else if q = 0 ∧ ly = 0 ∧ 2 ≤ lx ∧ lx ≤ 5 then some (0, hierAddr 0 0 (lx - 2))
      else if q = 0 ∧ lx = 7 ∧ ly ≤ 1 then some (6, hierAddr 6 0 0)
      else if q = 0 ∧ ly = 5 ∧ (lx = 0 ∨ lx = 6 ∨ lx = 7) then some (6, hierAddr 6 0 (if lx = 0 then 1 else lx - 4))
      else none

/-- A router's links: 0 to the next column, 1 to the one before, 2 to the next row, 3 to the one before. -/
def linkAt (x y l : Nat) : Option (Nat × Nat) :=
  match l with
  | 0 => if x + 1 < 16 then some (x + 1, y) else none
  | 1 => if 0 < x then some (x - 1, y) else none
  | 2 => if y + 1 < 12 then some (x, y + 1) else none
  | _ => if 0 < y then some (x, y - 1) else none

def dist (a b : Nat) : Nat := (a - b) + (b - a)

/-- The router a packet heads for (R326): its destination, or the nearest router whose TARGET bit is set, ties to the lower index. -/
def heading (w x y : Nat) : Nat × Nat :=
  let mc := sbMc w
  if mc = 0 then (sbDestX w, sbDestY w)
  else
    let at_ (i : Nat) : Nat × Nat := if mc = 1 then (i, sbDestY w) else (sbDestX w, i)
    let far (i : Nat) : Nat := dist (at_ i).1 x + dist (at_ i).2 y
    match ((List.range 16).filter (fun i => bitOf (sbTarget w) i)).foldl (fun best i =>
        match best with
        | none => some i
        | some b => if far i < far b then some i else some b) (none : Option Nat) with
    | none => (x, y)
    | some i => at_ i

/-- Links that bring a packet nearer its goal. -/
def productive (w x y : Nat) : List Nat :=
  let g := heading w x y
  (if x < g.1 then [0] else if g.1 < x then [1] else []) ++ (if y < g.2 then [2] else if g.2 < y then [3] else [])

/-- The order of R323: AGE highest first; ties to the lower SRC_Y, SRC_X, SRC_PORT, TID. -/
def ranks (a b : Nat) : Bool :=
  let k (w : Nat) : Nat := (((65535 - sbAge w) * 16 + sbSrcY w) * 16 + sbSrcX w) * 4 * 4096 + sbSrcPort w * 4096 + sbTid w
  k a < k b

def insertByAge (w : Nat) : List Nat → List Nat
  | [] => [w]
  | v :: t => if ranks w v then w :: v :: t else v :: insertByAge w t

/-- A packet is delivered at a port: counted, and MAX_AGE follows (R335, R338). One addressed to no unit is discarded (R330). -/
def State.ejectAt (s : State) (w x y port : Nat) : State :=
  if (unitAtPort x y port).isNone then
    let s := s.setErr R.SHAL_ERR F.SHAL_ERR_UNROUTABLE
    { s with mesh := { s.mesh with inUse := s.mesh.inUse.filter (fun r => !(r.sx == sbSrcX w && r.sy == sbSrcY w && r.sport == sbSrcPort w && r.tid == sbTid w)) } }
  else
    let s := s.bump R.SHAL_CNT_EJECTED
    let s := if s.get R.SHAL_STATUS F.SHAL_STATUS_MAX_AGE < sbAge w then s.put R.SHAL_STATUS F.SHAL_STATUS_MAX_AGE (sbAge w) else s
    s.send (.mesh "EJECT" [x, y, port, w])

/-- A multicast leaves a copy with every attached unit of its kind at a router of its target (R326): the packet with that bit cleared. -/
def State.visit (s : State) (w x y : Nat) : State × Nat :=
  let mc := sbMc w
  let i := if mc = 1 then x else y
  let here := (if mc = 1 then y == sbDestY w else x == sbDestX w) && bitOf (sbTarget w) i
  if mc = 0 ∨ mc = 3 ∨ !here then (s, w)
  else
    let ports := (List.range 4).filter (fun p => (unitAtPort x y p).elim false (fun u => u.1 == sbKind w))
    (ports.foldl (fun s p => s.ejectAt w x y p) s, sbSetTarget w (sbTarget w - 2 ^ i))

/-- Which free link a packet takes (R323, R324): one that brings it nearer, turn about when both do (the column link first with SPRAY 0), else any
free link, a deflection. True when deflected. -/
def State.chooseLink (s : State) (w x y : Nat) (free : List Nat) : State × Option (Nat × Bool) :=
  match (productive w x y).filter (free.contains ·) with
  | [a, b] =>
    if s.flag R.SHAL_CFG F.SHAL_CFG_SPRAY then
      let k := 16 * y + x
      let t := Tbl.get (fun _ => false) s.mesh.spray k
      ({ s with mesh := { s.mesh with spray := Tbl.set (fun _ => false) s.mesh.spray k (!t) } }, some (if t then a else b, false))
    else (s, some (b, false))
  | a :: _ => (s, some (a, false))
  | [] => match free with
    | [] => (s, none)
    | a :: _ => (s, some (a, true))

/-- Whether a mesh transaction is the packet's: same source attachment and TID. -/
def MeshRes.of (w : Nat) (r : MeshRes) : Bool := r.sx == sbSrcX w && r.sy == sbSrcY w && r.sport == sbSrcPort w && r.tid == sbTid w

/-- A destination returns a reservation: the TID may be used again (R327, R331). -/
def State.returnReservation (s : State) (w : Nat) : State :=
  { s with mesh := { s.mesh with inUse := s.mesh.inUse.filter (fun r => !r.of w) } }

/-- Routers a packet names that do not exist: a destination row, or target bits of a column multicast, beyond the last (R321, R330). -/
def sbNowhere (w : Nat) : Bool := if sbMc w = 2 then 2 ^ 12 ≤ sbTarget w else 12 ≤ sbDestY w

/-- Route one packet at a router: eject it, absorb it, or send it by a link (R323, R326). The links still free. One that names no router is discarded; a
column multicast goes on to the routers that exist (R330). -/
def State.routeOne (s : State) (w x y : Nat) (free : List Nat) : State × List Nat :=
  let lost : Bool := sbMc w = 3 ∨ (sbNowhere w ∧ sbMc w ≠ 2)
  if lost then ((s.setErr R.SHAL_ERR F.SHAL_ERR_UNROUTABLE).returnReservation w, free)
  else if sbMc w = 0 ∧ sbDestX w = x ∧ sbDestY w = y then (s.ejectAt w x y (sbDestPort w), free)
  else
    let s := if sbNowhere w then s.setErr R.SHAL_ERR F.SHAL_ERR_UNROUTABLE else s
    match s.visit (if sbNowhere w then sbSetTarget w (sbTarget w % 2 ^ 12) else w) x y with
    | (s, w) =>
      if sbMc w ≠ 0 ∧ sbTarget w = 0 then (s.returnReservation w, free)
      else
        match s.chooseLink w x y free with
        | (s, none) => (s, free)
        | (s, some (l, defl)) =>
          let s := if defl then s.bump R.SHAL_CNT_DEFLECTIONS else s
          (s.send (.mesh "LINK" [x, y, l, w]), free.filter (· != l))

/-- Entries of both queues of both pseudo-channels of a channel controller (R197). -/
def channelEntries : Nat := 2 * ((List.range 4).foldl (fun n l => n + queueCap false l + queueCap true l) 0)

/-- Whether a transaction's whole space can be reserved at its destination (R327): a channel's queue entries for a Request or Bulk transaction, places in a
core's receive queue for a message; a response's space was reserved with its request. The sideband does not say which entries. DESIGN CHOICE, log entry 96. -/
def State.meshRoom (s : State) (w : Nat) : Bool :=
  let held := (s.mesh.inUse.filter (fun r => r.dx == sbDestX w && r.dy == sbDestY w && r.dport == sbDestPort w && r.cls == sbClass w)).length
  match unitAtPort (sbDestX w) (sbDestY w) (sbDestPort w) with
  | none => true
  | some (k, a) =>
    if (k = 3 ∨ k = 5) ∧ 4 ≤ sbClass w then held < channelEntries
    else if k ≤ 1 ∧ sbClass w = 6 then
      held + (coreOf a).elim 0 (fun i => (Tbl.get coreReset s.cores i).recvq.length) < 64
    else true

/-- Whether a packet may be injected (R327, R331): it is a further packet of its transaction, not yet sent, or it begins one whose TID is free and whose
space is reserved. -/
def State.mayBegin (s : State) (w : Nat) : Bool :=
  match s.mesh.inUse.find? (MeshRes.of w) with
  | some r => r.dx == sbDestX w && r.dy == sbDestY w && r.dport == sbDestPort w && r.total == sbTotal w && !r.sent.contains (sbPseq w)
  | none => sbMc w != 0 || s.meshRoom w

/-- The packet is injected: its transaction holds its reservation and its TID (R327, R331). -/
def State.noteInjected (s : State) (w : Nat) : State :=
  let r := (s.mesh.inUse.find? (MeshRes.of w)).getD
    { sx := sbSrcX w, sy := sbSrcY w, sport := sbSrcPort w, tid := sbTid w, dx := sbDestX w, dy := sbDestY w, dport := sbDestPort w,
      cls := sbClass w, total := sbTotal w, sent := [] }
  let rest := s.mesh.inUse.filter (fun r => !r.of w)
  { s with mesh := { s.mesh with inUse := rest ++ [{ r with sent := r.sent ++ [sbPseq w] }] } }

/-- Whether a unit may inject: all may, or only those that starve while the throttle is raised (R325). -/
def State.mayInject (s : State) (x y port : Nat) : Bool :=
  !s.flag R.SHAL_STATUS F.SHAL_STATUS_THROTTLE || s.mesh.starved.contains (x, y, port)

/-- A starved unit that has injected drops its request; the throttle falls with the last (R325). -/
def State.unstarve (s : State) (x y port : Nat) : State :=
  let l := s.mesh.starved.filter (· != (x, y, port))
  let s := { s with mesh := { s.mesh with starved := l } }
  if l = [] then s.put R.SHAL_STATUS F.SHAL_STATUS_THROTTLE 0 else s

/-- Offer the free links to the waiting injections, one packet a port, in round robin of the ports (R323). -/
def State.inject (s : State) (x y : Nat) (free : List Nat) (inj : List (Nat × Nat)) : State :=
  let k := 16 * y + x
  let first := Tbl.get (fun _ => 0) s.mesh.turn k
  let res := ((List.range 4).map (fun i => (first + i) % 4)).foldl (fun acc p =>
    match inj.find? (fun q => q.1 == p) with
    | none => acc
    | some (_, w) =>
      let s := acc.1
      if acc.2 = [] ∨ !s.mayInject x y p ∨ !s.mayBegin w then acc
      else
        let s := (s.noteInjected w).bump R.SHAL_CNT_INJECTED
        let s := if sbMc w = 1 ∨ sbMc w = 2 then s.bump R.SHAL_CNT_MULTICASTS else s
        let s := (s.unstarve x y p)
        let s := { s with mesh := { s.mesh with turn := Tbl.set (fun _ => 0) s.mesh.turn k ((p + 1) % 4) } }
        State.routeOne s w x y acc.2) (s, free)
  res.1

/-- A cycle of the Shallows island of Q0 is marked by the hop of its router (0, 0), each cycle one (R323): THROTTLE_CYCLES counts there (R338). DESIGN
CHOICE, log entry 97. -/
def State.countCycleAt (s : State) (x y : Nat) : State :=
  if x = 0 ∧ y = 0 ∧ s.flag R.SHAL_STATUS F.SHAL_STATUS_THROTTLE then s.bump R.SHAL_CNT_THROTTLE_CYCLES else s

/-- MESH_HOP (R323, R324, R326, R327, R331): the packets that arrived on a router's links this cycle, each with whether it has just crossed between quadrant
islands, and the injections that wait, one a port. -/
def execMeshHop (x : Fin 16) (y : Fin 12) (arrivals : List (BitVec 96 × Bool)) (inject : List (Fin 4 × BitVec 96)) (s : State) : Answer :=
  let aged := (arrivals.take 4).map (fun a => sbSetAge a.1.toNat (sbAge a.1.toNat + (if a.2 then 3 else 1)))
  let order := aged.foldl (fun l w => insertByAge w l) []
  let links := (List.range 4).filter (fun l => (linkAt x y l).isSome)
  let r := order.foldl (fun acc w => State.routeOne acc.1 w x y acc.2) (s.countCycleAt x y, links)
  .next (r.1.inject x y r.2 (inject.map (fun i => (i.1.val, i.2.toNat))))

/-- A protocol error of a mesh transaction (R330): it is discarded, its reservation returned, its source answered as by a wrapper, and the first one
logged. -/
def State.meshError (s : State) (w x y port : Nat) : State :=
  let same (t : MeshTxn) : Bool := t.sx == sbSrcX w && t.sy == sbSrcY w && t.sport == sbSrcPort w && t.tid == sbTid w
  let s : State := { s with mesh := { s.mesh with txns := s.mesh.txns.filter (fun t => !same t) } }
  let s := (s.returnReservation w).bump R.SHAL_CNT_PROTO_ERRORS
  let put (s : State) (f : Fld) (v : Nat) : State := s.put R.SHAL_PROTOLOG f v
  let s := if s.flag R.SHAL_PROTOLOG F.SHAL_PROTOLOG_VALID then s
    else put (put (put (put (put (put (put (put s F.SHAL_PROTOLOG_SRC_X (sbSrcX w)) F.SHAL_PROTOLOG_SRC_Y (sbSrcY w))
      F.SHAL_PROTOLOG_SRC_PORT (sbSrcPort w)) F.SHAL_PROTOLOG_TID (sbTid w)) F.SHAL_PROTOLOG_DEST_X x) F.SHAL_PROTOLOG_DEST_Y y)
      F.SHAL_PROTOLOG_DEST_PORT port) F.SHAL_PROTOLOG_VALID 1
  (s.setErr R.SHAL_ERR F.SHAL_ERR_PROTO).send (.mesh "WRAPPER_ERROR" [sbSrcX w, sbSrcY w, sbSrcPort w, sbTid w])

/-- Whether the isolation wrapper of a destination answers in its place: its unit is in an L3 reset, or the data plane in an L2 reset (R339). -/
def State.meshHeld (s : State) (u : Nat × Nat) : Bool := s.agentDown u.2 || (s.rst.l2 == 2 && (2 ≤ u.1 && u.1 ≤ 5 || u == (6, hierAddr 6 0 0)))

/-- MESH_PACKET_ARRIVAL (R328 to R331, R339): a packet reaches its destination port, is placed by its PSEQ, and completes its transaction when the count
reaches PTOTAL; LAST completes nothing. A wrapper that holds the unit places nothing and answers the source without logging. -/
def execMeshPacketArrival (sideband : BitVec 96) (s : State) : Answer :=
  let w := sideband.toNat
  let x := sbDestX w
  let y := sbDestY w
  let port := sbDestPort w
  if (unitAtPort x y port).isNone then .next ((s.setErr R.SHAL_ERR F.SHAL_ERR_UNROUTABLE).returnReservation w)
  else if (unitAtPort x y port).elim false (fun u => s.meshHeld u) then
    .next ((s.returnReservation w).send (.mesh "WRAPPER_ERROR" [sbSrcX w, sbSrcY w, sbSrcPort w, sbTid w]))
  else
    let same (t : MeshTxn) : Bool := t.sx == sbSrcX w && t.sy == sbSrcY w && t.sport == sbSrcPort w && t.tid == sbTid w
    let t : MeshTxn := (s.mesh.txns.find? same).getD
      { sx := sbSrcX w, sy := sbSrcY w, sport := sbSrcPort w, tid := sbTid w, dx := x, dy := y, dport := port, total := sbTotal w, got := [] }
    let bad := t.total ≤ sbPseq w || t.got.contains (sbPseq w) || t.total != sbTotal w || (sbLast w && sbPseq w + 1 != t.total)
    if bad then .next (s.meshError w x y port)
    else
      let t := { t with got := t.got ++ [sbPseq w] }
      let rest := s.mesh.txns.filter (fun t => !same t)
      if t.got.length = t.total then
        .next ((({ s with mesh := { s.mesh with txns := rest } } : State).returnReservation w).send (.mesh "COMPLETE" [x, y, port, t.sx, t.sy, t.sport, t.tid, t.total]))
      else .next { s with mesh := { s.mesh with txns := rest ++ [t] } }

/-- STARVATION_THROTTLE (R325): an injection at a port has waited STARVE_LIMIT cycles. -/
def execStarvationThrottle (x : Fin 16) (y : Fin 12) (port : Fin 4) (s : State) : Answer :=
  let l := s.mesh.starved
  let u := (x.val, y.val, port.val)
  let s' := { s with mesh := { s.mesh with starved := if l.contains u then l else l ++ [u] } }
  if s.flag R.SHAL_STATUS F.SHAL_STATUS_THROTTLE then .next s'
  else .next (((s'.put R.SHAL_STATUS F.SHAL_STATUS_THROTTLE 1).bump R.SHAL_CNT_STARVE_EVENTS).setErr R.SHAL_ERR F.SHAL_ERR_THROTTLE)

/-- AGE_ALARM (R325): a packet's AGE reaches SHAL_CFG.AGE_ALARM. -/
def execAgeAlarm (sideband : BitVec 96) (s : State) : Answer :=
  if s.get R.SHAL_CFG F.SHAL_CFG_AGE_ALARM ≤ sbAge sideband.toNat then .next (s.setErr R.SHAL_ERR F.SHAL_ERR_AGE) else .next s

end Sys2Proof.Machine
end

