-- ==== Sys2Proof/Machine/Snap.lean ====
section
/-!
DEFINITION. The marker wave (R546 to R549): a snapshot's epoch, its records and its end; and writes of BAR2 areas.
-/
namespace Sys2Proof.Machine

/-- Store bytes at any BAR2 offset, under its area's key slot (R529): a piece of a line is merged into it. -/
def State.pokeBar2 (s : State) (o : Nat) (bs : List Byte) : State :=
  let k := if o < 0x3000000 then 256 else 257
  (linePieces o bs (bs.length / 64 + 2)).foldl (fun s p =>
    let a := bar2 p.1
    if p.2.length = 64 then (s.writeLine a none k false p.2).1 else (s.mergeLine (a / 64 * 64) none k (a % 64) p.2).1) s

/-- The counters of the block at a base, in the index order of its table. -/
def countersAt (base : Nat) : List Nat := ((List.range 64).map (fun i => base + 0x100 + 8 * i)).filter isCounter

/-- The counters of unit u (R548). -/
def unitCounters (u : Nat) : List Nat :=
  if u < 100 then countersAt (R.TARN_BASE u)
  else if u < 484 then countersAt (R.POND_BASE (u - 100))
  else if u < 496 then countersAt (R.SPILL_BASE (u - 484))
  else if u < 504 then countersAt (R.MERE_BASE (u - 496))
  else if u = 504 then countersAt (R.MERE_BASE 8) ++ countersAt R.PAIR_BASE
  else if u = 505 then countersAt R.SHAL_BASE
  else if u = 506 then countersAt R.XLAT_BASE
  else if u = 507 then countersAt R.DIR_BASE
  else if u = 508 then countersAt R.QOS_BASE
  else if u = 509 then countersAt R.JOB_BASE
  else if u = 510 then countersAt R.RAS_BASE
  else if u = 511 then countersAt R.SEC_BASE
  else if u = 512 then countersAt R.PWR_BASE
  else countersAt R.MGMT_BASE

/-- A unit in an L3 reset, or faulted (R549). -/
def State.unitAbsent (s : State) (u : Nat) : Bool :=
  if u < 100 then s.flag (R.TARN_CTRL u) F.TARN_CTRL_FAULT || s.inL3 (unitKey 0 u)
  else if u < 496 then s.chFaulted (u - 100) || s.inL3 (chUnitKey (u - 100))
  else if u < 504 then s.inL3 (unitKey 2 (u - 496))
  else false

/-- BAR2 offset of the snapshot bank of an epoch (R548). -/
def snapBank (n : Nat) : Nat := 0x3000000 + n % 2 * 0x800000

/-- The record of a unit (R548, R549): FLAGS 1 VALID, 2 ABSENT, 4 TIMEOUT with no values; its cycle count is the unit's own, a free value. -/
def State.writeRecord (s : State) (n u flags : Nat) : State :=
  let l := if flags = 4 then [] else unitCounters u
  let b := leBytes n 4 ++ leBytes flags 1 ++ leBytes l.length 1 ++ leBytes 0 2 ++ leBytes (Config.freeNat s.fresh) 8 ++ leBytes 0 48
    ++ l.flatMap (fun o => leBytes (s.reg o).toNat 8)
  (s.tick).writeBar2 (snapBank n + 0x1000 + 0x200 * u) ((b ++ zeros 512).take 512)

/-- The header of an epoch's bank (R548). -/
def State.writeSnapHeader (s : State) (n flags start finish : Nat) : State :=
  s.writeBar2 (snapBank n) (leBytes n 4 ++ leBytes flags 1 ++ leBytes 0 3 ++ leBytes start 8 ++ leBytes finish 8 ++ leBytes 0 40)

/-- The snapshot completes once every unit's record is written: DONE is written last (R548, R549). -/
def State.checkSnap (s : State) : State :=
  match s.mgmt.snap with
  | none => s
  | some x =>
    if x.done.length < 504 then s
    else
      let s := s.writeSnapHeader x.epoch (if x.incomplete then 3 else 1) x.start (s.reg R.WELL_MCYCLE).toNat
      let s : State := { s with mgmt := { s.mgmt with snap := none } }
      let s := (s.putFlag R.MGMT_SNAP F.MGMT_SNAP_BUSY false).put R.MGMT_SNAP F.MGMT_SNAP_EPOCH x.epoch
      let s := (s.putFlag R.MGMT_SNAP F.MGMT_SNAP_INCOMPLETE x.incomplete).bump R.MGMT_CNT_SNAPSHOTS
      if x.incomplete then s.setErr R.MGMT_ERR F.MGMT_ERR_SNAP_INCOMPLETE else s

/-- Write one unit's record and count it done. -/
def State.latchUnit (s : State) (u : Nat) (lost : Bool) : State :=
  match s.mgmt.snap with
  | none => s
  | some x =>
    if x.done.contains u then s
    else
      let s := s.writeRecord x.epoch u (if lost then 4 else if s.unitAbsent u then 2 else 1)
      let x : Snap := { x with done := x.done ++ [u], incomplete := x.incomplete || lost }
      State.checkSnap { s with mgmt := { s.mgmt with snap := some x } }

/-- START (R546): an epoch begins: the Wellhead latches its own blocks, the QOS extension first, and sends MARKER to each Steward; in a
quadrant whose Steward is lost, to the agents' multicasts itself (R21). -/
def execStart (s : State) : Answer :=
  if s.mgmt.snap.isSome then .next (s.setErr R.MGMT_ERR F.MGMT_ERR_SNAP_REFUSED)
  else
    let n := (s.get R.MGMT_SNAP F.MGMT_SNAP_EPOCH + 1) % 2 ^ 32
    let c := (s.reg R.WELL_MCYCLE).toNat
    let s := (s.putFlag R.MGMT_SNAP F.MGMT_SNAP_BUSY true).writeSnapHeader n 0 c 0
    let s := s.writeBar2 (snapBank n + 0x80000) ((List.range 1024).flatMap (fun i => leBytes (s.reg (R.QOS_TCNT (i / 4) (i % 4))).toNat 8))
    let s := ((List.range 10).map (· + 504)).foldl (fun s u => s.writeRecord n u 1) s
    let body := leBytes 0xF0 1 ++ leBytes 1 1 ++ leBytes 0 2 ++ leBytes n 4 ++ leBytes 0 52
    let tell (s : State) (dst : Nat) : State := s.send (.hmsg (coreAddr 0) dst (leBytes dst 2 ++ leBytes (coreAddr 0) 2 ++ body))
    let s := (List.range 4).foldl (fun s q => if s.stewardUp q then tell s (coreAddr (4 + q)) else [8, 9, 10, 11].foldl (fun s k => tell s (hierAddr k q 0)) s) s
    .next { s with mgmt := { s.mgmt with snap := some { epoch := n, done := [], start := c, incomplete := false } } }

/-- MARKER (R546, R547, R549): the marker of the running epoch reaches a unit, by a MARKER or by what a unit that has latched sends; or its MARKER comes back
undeliverable. -/
def execMarker (unit : Fin 504) (undelivered : Bool) (s : State) : Answer :=
  match s.mgmt.snap with
  | none => .next s
  | some x => .next ((s.latchUnit unit undelivered).send (.result "MARKER" [unit, x.epoch]))

/-- An L2 reset ends a running snapshot (R560): units not yet latched are marked TIMEOUT. -/
def State.endSnap (s : State) : State := (List.range 504).foldl (fun s u => s.latchUnit u true) s

end Sys2Proof.Machine
end

