-- ==== Sys2Proof/Machine/Tarns.lean ====
section
/-!
DEFINITION. Tarns in and out of service (R104 to R108, R111, R116): faults, roles, substitution, and the loading of role images.
-/
namespace Sys2Proof.Machine

/-! ### Faults (R104, R105) -/

/-- The work a running program stands for. -/
def TRun.held (r : TRun) : Held :=
  { source := 8, job := r.job, role := r.role, slices := if r.what = .worker then [r.slice] else [], ingest := r.what == .ingest,
    merge := match r.what with | .worker => none | .ingest => none | .merge => some false | .final => some true }

/-- Everything a Tarn holds is answered under R105, and it holds nothing. -/
def State.answerAll (s : State) (t : Nat) : State :=
  let x := s.tarn t
  let work := (x.run.map TRun.held).toList ++ x.active ++ x.queue
  let s := s.setTarn t { x.idle with queue := [], active := [], ring := [] }
  work.foldl (fun s h => s.answerWork h (some t)) s

/-- A Tarn is taken out of service (R104, R105): FAULT and STATE are set, its transfers end, its work is answered, and its fault event goes to its Steward. -/
def State.faultTarn (s : State) (t : Nat) : State :=
  if s.tarnFaulted t then s
  else
    let s := s.putFlag (R.TARN_CTRL t) F.TARN_CTRL_FAULT true
    let s := s.setTarnState t 3
    s.answerAll t

/-- TARN_WATCHDOG (R104, R114): the block watchdog, unless LIMIT is 0, expires while a program runs. -/
def execTarnWatchdog (tarn : Fin 100) (s : State) : Answer :=
  let t := tarn.val
  if s.get (R.TARN_WDOG t) F.TARN_WDOG_LIMIT = 0 ∨ (s.tarn t).run.isNone ∨ s.tarnFaulted t then .next s
  else .next ((s.faultTarn t).setErr (R.TARN_ERR t) F.TARN_ERR_WATCHDOG)

/-- TARN_FAULT_WRITE (R104, R111). -/
def execTarnFaultWrite (tarn : Fin 100) (s : State) : Answer := .next (s.faultTarn tarn.val)

/-! ### Roles (R106, R107, R111) -/

/-- Give a Tarn role fields. -/
def State.putRoles (s : State) (t role en2 role2 : Nat) : State :=
  ((s.put (R.TARN_CTRL t) F.TARN_CTRL_ROLE role).put (R.TARN_CTRL t) F.TARN_CTRL_ROLE2_EN en2).put (R.TARN_CTRL t) F.TARN_CTRL_ROLE2 role2

/-- TARN_ROLE_WRITE (R10, R111): the written ROLE, ROLE2_EN and ROLE2, each out-of-range one left as it was; all are refused when two enabled Tarns of the
quadrant would carry one role. -/
def execTarnRoleWrite (tarn : Fin 100) (value : Word) (s : State) : Answer :=
  let t := tarn.val
  let field (f : Fld) : Nat := bitsOf value.toNat f.lo f.w
  let r1 := field F.TARN_CTRL_ROLE
  let r2 := field F.TARN_CTRL_ROLE2
  let role := if r1 < 24 ∨ r1 = 31 then r1 else s.get (R.TARN_CTRL t) F.TARN_CTRL_ROLE
  let role2 := if r2 < 24 then r2 else s.get (R.TARN_CTRL t) F.TARN_CTRL_ROLE2
  let n := s.putRoles t role (field F.TARN_CTRL_ROLE2_EN) role2
  if n.roleClash t then .next (s.setErr (R.TARN_ERR t) F.TARN_ERR_ROLE_CLASH) else .next n

/-- A spare of a quadrant: no role, no fault, in no reset. -/
def State.spareOf (s : State) (q : Nat) : Option Nat :=
  (tarnsIn q).find? (fun t => s.get (R.TARN_CTRL t) F.TARN_CTRL_ROLE == 31 && (s.rolesOf t) == [] && !s.tarnFaulted t && !s.inL3 (unitKey 0 t))

/-- Bundles of an image. -/
def State.bundlesOf (s : State) (i : Nat) : Nat := (s.image i).elim 0 (·.bundles)

/-- The active Tarn that takes a second role (R107): one role, program memory for both images, fewest bound Inlets, ties to the lower index. -/
def State.partnerOf (s : State) (q role : Nat) : Option Nat :=
  let img := s.roleImage q role
  let one (t : Nat) : Bool :=
    s.tarnTakes t && match s.rolesOf t with
      | [r] => s.roleImage q r == img || s.bundlesOf (s.roleImage q r) + s.bundlesOf img ≤ 4096
      | _ => false
  let load (t : Nat) : Nat := ((s.rolesOf t).map (fun r => (s.bindingsOf q r).length)).foldl (· + ·) 0
  ((tarnsIn q).filter one).foldl (fun best t =>
    match best with
    | none => some t
    | some b => if load t < load b then some t else some b) none

/-- Step 6 of R106 for the failed Tarns of a quadrant once a role of theirs has a new Tarn, or none can have it. -/
def State.retireRole (s : State) (q role : Nat) : State :=
  ((tarnsIn q).filter (fun t => s.tarnFaulted t && (s.rolesOf t).contains role)).foldl (fun s t =>
    let s := if s.get (R.TARN_CTRL t) F.TARN_CTRL_ROLE = role then s.put (R.TARN_CTRL t) F.TARN_CTRL_ROLE 31 else s
    let s := if s.get (R.TARN_CTRL t) F.TARN_CTRL_ROLE2 = role then s.put (R.TARN_CTRL t) F.TARN_CTRL_ROLE2_EN 0 else s
    if s.rolesOf t = [] then (s.putFlag (R.TARN_CTRL t) F.TARN_CTRL_ENABLE false).raiseAlarm .tarnFault else s) s

/-- Give one role of a failed Tarn another Tarn (R106, R107), and begin to load its image; without one the role has none. A spare's ENABLE becomes 1 with its ROLE, at
step 3; while it loads, start packets are held in its queue. DESIGN CHOICE, log entry 106. -/
def State.substitute (s : State) (q role : Nat) : State :=
  match s.spareOf q with
  | some t =>
    ((s.put (R.TARN_CTRL t) F.TARN_CTRL_ROLE role).putFlag (R.TARN_CTRL t) F.TARN_CTRL_ENABLE true).startLoad q role
  | none =>
    match s.partnerOf q role with
    | some t => ((s.put (R.TARN_CTRL t) F.TARN_CTRL_ROLE2 role).put (R.TARN_CTRL t) F.TARN_CTRL_ROLE2_EN 1).startLoad q role
    | none => s.retireRole q role

/-- TARN_SUBSTITUTION (R106, R107): the forwarded event of a failed Tarn; each role of it that no working Tarn carries is given to one. -/
def execTarnSubstitution (tarn : Fin 100) (s : State) : Answer :=
  let t := tarn.val
  if !s.tarnFaulted t then .next s
  else .next ((s.rolesOf t).foldl (fun s r =>
    if (tarnsIn (t / 25)).any (fun u => u != t && (s.rolesOf u).contains r && !s.tarnFaulted u) then s else s.substitute (t / 25) r) s)

/-- ROLE_PROGRAM_LOADED (R106, R107, R116): a role's image has been loaded; once no image is left to load, STATE is idle, a Tarn that was in a reset is enabled
again, and held jobs can begin. -/
def execRoleProgramLoaded (tarn : Fin 100) (role : Fin 24) (s : State) : Answer :=
  let t := tarn.val
  let x := s.tarn t
  match x.loading.find? (fun p => p.1 == role.val) with
  | none => .next s
  | some p =>
    if s.tarnFaulted t then .next s
    else
      let rest := x.loading.filter (fun p => p.1 != role.val)
      let s := s.setTarn t { x with loading := rest, progs := x.progs.filter (fun p => p.1 != role.val) ++ [p], back := x.back && rest != [] }
      let s := if rest = [] ∧ s.tarnState t = 2 then s.setTarnState t 0 else s
      let s := if x.back && rest == [] && s.rolesOf t != [] then s.putFlag (R.TARN_CTRL t) F.TARN_CTRL_ENABLE true else s
      .next ((s.put (R.TARN_STATUS t) F.TARN_STATUS_PROG_ID p.2).retireRole (t / 25) role)

/-- TARN_SELFTEST_DONE (R104, R108, R580, R587): a Tarn's self-tests end: those of bring-up, or of a failed Tarn after its L3 reset, which then becomes the
quadrant's spare. `passed` is of both tests, the MAC self-test and the SRAM pattern test, and SELFTEST is set for either (DESIGN CHOICE, log entry 114). A Tarn that has
failed stays out of service until L1. -/
def execTarnSelftestDone (tarn : Fin 100) (passed : Bool) (s : State) : Answer :=
  let t := tarn.val
  if !(s.tarn t).testing then .next s
  else
    let s := s.updTarn t (fun (x : Tarn) => { x with testing := false })
    if passed && !s.tarnFaulted t then .next s
    else if passed then
      let s := s.updTarn t (fun (x : Tarn) => { x with progs := [], loading := [], back := false })
      let s := s.putRoles t 31 0 (s.get (R.TARN_CTRL t) F.TARN_CTRL_ROLE2)
      .next (((s.putFlag (R.TARN_CTRL t) F.TARN_CTRL_FAULT false).putFlag (R.TARN_CTRL t) F.TARN_CTRL_ENABLE false).setTarnState t 0)
    else .next (((s.faultTarn t).setErr (R.TARN_ERR t) F.TARN_ERR_SELFTEST).updTarn t (fun (x : Tarn) => { x with broken := true }))

end Sys2Proof.Machine
end

