-- ==== Sys2Proof/Machine/Resets.lean ====
section
/-!
DEFINITION. Resets (R492 to R503): how a source's request is mapped, held, absorbed or taken; what a power-on, chip, data-plane and unit reset do; the lands;
the watchdog.
-/
namespace Sys2Proof.Machine

/-! ### Sources and the level map (R494 to R496, R520) -/

/-- RST_LEVELMAP as it reads: the sources whose level is fixed read 0, 2 or 1 whatever the fuses hold (R520). -/
def fixedMap (v : Nat) : Nat :=
  [(0, 0), (4, 1), (5, 2), (7, 1), (9, 1)].foldl (fun w (e : Nat × Nat) => setBits w (2 * e.1) 2 e.2) (v % 2 ^ 24)

/-- The level a source's request asks for, or none when it is only recorded (R494). -/
def State.levelFor (s : State) (src : Nat) : Option Nat :=
  if src = 0 then some 0
  else match bitsOf (s.reg R.RST_LEVELMAP).toNat (2 * src) 2 with
    | 1 => some 1
    | 2 => some 2
    | _ => none

/-! ### Lands (R502, R575) -/

/-- Reset states that Walsyn's fuse map gives the sideband lands, in the order of R575's table from PWRON_L, 0, to TEST_EN, 30. -/
def walsynLand (i : Nat) : Nat :=
  if i = 18 ∨ i = 20 then 1 else if i = 19 then 2 else if (21 ≤ i ∧ i ≤ 28) ∨ i = 30 then 3 else 0

/-- Where the weak pull of a land in reset state 3 draws it: true up, the SPI data lands, TCK, TMS and TDI; false down, TRST_L (R572) and TEST_EN (R575). -/
def landPull (i : Nat) : Option Bool :=
  if 21 ≤ i ∧ i ≤ 27 then some true else if i = 28 ∨ i = 30 then some false else none

/-- IDCODE, the JTAG port's identification register (R572): VERSION from GLOB_ID.STEPPING[7:4], PART 0x9600, MANUFACTURER 0x2CB, and bit 0 at 1. -/
def State.idcode (s : State) : BitVec 32 :=
  let version : BitVec 4 := BitVec.ofNat 4 (s.get R.GLOB_ID F.GLOB_ID_STEPPING / 16)
  version ++ (0x9600 : BitVec 16) ++ (0x2CB : BitVec 11) ++ (1 : BitVec 1)

/-- What a land that nothing outside drives reads as while the controller holds it at its reset state: driven 0 or 1, the weak pull's level, or nothing stated
while it floats or its owner uses it (R502, R572, R575). -/
def State.landLevel (s : State) (i : Nat) : Option Bool :=
  match Tbl.get (fun _ => 0) s.rst.lands i with
  | 1 => some false
  | 2 => some true
  | 3 => landPull i
  | _ => none

/-- Lands of the security block: VPP_FUSE_EN and the SPI flash's (R575). -/
def secLands : List Nat := [18, 19, 20, 21, 22, 23, 24]

/-- The state a land is held in; 4 while its owner drives it. -/
def State.setLand (s : State) (i v : Nat) : State :=
  { s with rst := { s.rst with lands := Tbl.set (fun _ => 0) s.rst.lands i v } }

/-- Lands take the reset state the fuse map gives them. -/
def State.fuseLands (s : State) (l : List Nat) : State := l.foldl (fun s i => s.setLand i (Tbl.get walsynLand s.shadow.lands i)) s

/-! ### Power-on and chip resets (R492, R493, R496) -/

/-- Registers that keep their values through an L1 reset (R492, R496, R522, R526). -/
def keepsL1 (off : Nat) : Bool :=
  off == R.RST_CAUSE || off == R.RST_LAST || off == R.RST_DELAY || off == R.PWR_FEED_STATUS || off == R.CLK_SRCSTAT

/-- Fields whose Reset is Fuse take their values from the fuse shadow (R14, R492, R502). -/
def State.loadShadow (s : State) : State :=
  let f := s.shadow
  let s := (s.put R.GLOB_ID F.GLOB_ID_STEPPING f.stepping).put R.GLOB_ID F.GLOB_ID_PCI_VENDOR f.vendor
  let s := s.setReg R.RST_LEVELMAP (BitVec.ofNat 64 (fixedMap f.levelMap))
  let s := (s.putFlag R.SEC_STATUS F.SEC_STATUS_ID_EXHAUSTED (f.chunks == 2048)).putFlag R.SEC_STATUS F.SEC_STATUS_DBG_FUSE f.dbg
  let s := (s.put R.SEC_STATUS F.SEC_STATUS_CHUNKS f.chunks).put R.SEC_STATUS F.SEC_STATUS_SVN_FUSED f.svn
  let s := (List.range 4).foldl (fun s w => s.setReg (R.SEC_SIGNER_HASH 0 w) (BitVec.ofNat 64 (f.signer0.getD w 0))) s
  (List.range 9).foldl (fun s n => (s.put (R.MERE_PORTID n) F.MERE_PORTID_PORT n).put (R.MERE_PORTID n) F.MERE_PORTID_CHIP f.chip) s

/-- Slots 256 to 263 stay EMPTY while DEBUG_LATCH stands (R486). -/
def emptySystemSlots : Tbl KeySlot :=
  (List.range 8).foldl (fun t k => Tbl.set slotReset t (256 + k) { slotReset (256 + k) with full := false, key := [] }) []

/-- A chip reset (R492): every island but the always-on one takes its reset state, and so does the pool's content. -/
def State.chipReset (s : State) : State :=
  let latched : Bool := s.flag R.SEC_STATUS F.SEC_STATUS_DEBUG_LATCH
  let opened : Bool := s.flag R.SEC_STATUS F.SEC_STATUS_DEBUG_OPEN
  let r0 : State := State.reset
  let clk : Clk := { s.clk with pllStable := [] }
  let rst : Rst := { s.rst with l2 := 0, burning := false, heldReset := none, units := [], wdog := false, booted := false, recovery := false, pcie := false }
  let sec : Sec := { slots := if latched then emptySystemSlots else [], opening := s.sec.opening, seeds := !latched || s.sec.seeds }
  let ras : Ras := { repairs := s.ras.repairs }
  let t : State := { r0 with pending := s.pending, out := s.out, fresh := s.fresh, fuses := s.fuses, shadow := s.shadow, flash := s.flash,
                             regs := Tbl.clear s.regs (fun o => !keepsL1 o), ras := ras, sec := sec, rst := rst, clk := clk, pwr := s.pwr }
  let ready := s.get R.CLK_SRCSTAT F.CLK_SRCSTAT_READY
  let t := t.put R.CLK_SRCSTAT F.CLK_SRCSTAT_READY (ready &&& 0x11)
  let t := (t.putFlag R.SEC_STATUS F.SEC_STATUS_DEBUG_LATCH latched).putFlag R.SEC_STATUS F.SEC_STATUS_DEBUG_OPEN opened
  let t := t.putFlag R.PAIR_STATUS F.PAIR_STATUS_FENCE_OUT s.rst.fenceLand
  (t.loadShadow).fuseLands secLands

/-- The power-cap loop after an L0 or L1 reset (R453, R526): SINGLE stands from the start while a feed is absent, and then F starts at 8. Before the first window
since the always-on rail came up has ended, nothing is decided (R461). -/
def State.restartLoop (s : State) : State :=
  let both : Bool := s.flag R.PWR_FEED_STATUS F.PWR_FEED_STATUS_A_OK && s.flag R.PWR_FEED_STATUS F.PWR_FEED_STATUS_B_OK
  let s := if both || s.pwr.feedWindow then s else s.putFlag R.PWR_FEED_STATUS F.PWR_FEED_STATUS_SINGLE true
  let one : Bool := s.flag R.PWR_FEED_STATUS F.PWR_FEED_STATUS_SINGLE
  let s : State := { s with pwr := { s.pwr with steps := if one then List.replicate 8 true else [], relax := 0, background := !one } }
  if one then (s.put R.PWR_STATUS F.PWR_STATUS_ISSUE_F 8).putFlag R.PWR_STATUS F.PWR_STATUS_CAP_ACTIVE true else s

/-- A power-on reset while the always-on rail stays up (R492, R496): the fuse shadow too, until the fuses are read again. -/
def State.powerReset (s : State) : State :=
  let a := s.get R.PWR_FEED_STATUS F.PWR_FEED_STATUS_A_OK
  let b := s.get R.PWR_FEED_STATUS F.PWR_FEED_STATUS_B_OK
  let opening := if s.sec.opening = 1 then 1 else 0
  let s : State := { s with shadow := {}, rst := { s.rst with fenceLand := false } }
  let s := (s.putFlag R.SEC_STATUS F.SEC_STATUS_DEBUG_LATCH false).putFlag R.SEC_STATUS F.SEC_STATUS_DEBUG_OPEN false
  let t := s.chipReset
  let rst : Rst := { t.rst with fused := false, lands := [], fenceLand := false, tripLand := false, thermHold := false }
  let t : State := { t with sec := { t.sec with opening := opening, seeds := true }, rst := rst, pwr := { feedWindow := s.pwr.feedWindow } }
  let t := t.clearRegs (fun o => o == R.PWR_FEED_STATUS || o == R.RST_LEVELMAP || (List.range 9).any (fun n => o == R.MERE_PORTID n))
  ((t.put R.PWR_FEED_STATUS F.PWR_FEED_STATUS_A_OK a).put R.PWR_FEED_STATUS F.PWR_FEED_STATUS_B_OK b).restartLoop

/-- Jobs that wait for a data plane in which to complete with JOB_RESET (R192): those in flight that have not completed. -/
def State.haltJobs (s : State) (p : Job → Bool) : State :=
  let hit (j : Job) : Bool := p j && !s.completing j.id
  let l := s.jobs.jobs.map (fun (j : Job) => if hit j then { j with st := .reset, slices := [], merges := [], decided := false } else j)
  let t := ((s.jobs.jobs.filter hit).map (·.id)).foldl (fun s i => s.dropWork i) s
  { t with jobs := { t.jobs with jobs := l } }

/-- A data-plane reset begins (R116, R192): every Tarn's held start packets are answered under R105 and its ENABLE is cleared; the jobs in flight wait to complete
with JOB_RESET, and so no failed partial completes one. Log entry 79. -/
def State.beginL2 (s : State) : State :=
  let s := (List.range 100).foldl (fun s t =>
    let n := (s.tarn t).queue.foldl (fun n h => n + h.slices.length) 0
    let s := if n = 0 then s else s.bump (R.TARN_CNT_FAILED t) n
    s.putFlag (R.TARN_CTRL t) F.TARN_CTRL_ENABLE false) s
  s.haltJobs (fun _ => true)

/-- A reset takes effect (R492, R495, R496, R520): RST_LAST records it, and a data-plane reset begins its steps. -/
def State.takeReset (s : State) (l src : Nat) : State :=
  let t := if l = 0 then s.powerReset else if l = 1 then s.chipReset.restartLoop else if l = 2 then s.beginL2 else s
  let t := (t.put R.RST_LAST F.RST_LAST_LEVEL l).put R.RST_LAST F.RST_LAST_SOURCE src
  let t := if l = 1 then t.bumpSat R.RST_LAST F.RST_LAST_L1_COUNT else if l = 2 then t.bumpSat R.RST_LAST F.RST_LAST_L2_COUNT else t
  State.driveOxbow s { t with rst := { t.rst with active := some (l, src), l2 := if l = 2 then 1 else 0 } }

/-- Record a source in RST_CAUSE (R496). -/
def State.recordCause (s : State) (src : Nat) : State :=
  s.put R.RST_CAUSE F.RST_CAUSE_CAUSE (s.get R.RST_CAUSE F.RST_CAUSE_CAUSE ||| 2 ^ src)

/-- A source requests a reset of a level (R494 to R497): recorded; absorbed by one as severe; held while a fuse pulse or a page program is driven; else taken. -/
def State.raiseAt (s : State) (src : Nat) (level : Option Nat) : State :=
  let s := s.recordCause src
  match level with
  | none => s
  | some l =>
    if s.rst.active.any (fun a => a.1 ≤ l) then s
    else if s.rst.burning then
      let worst := match s.rst.heldReset with
        | none => (l, src)
        | some h => if l < h.1 then (l, src) else h
      State.bumpSat { s with rst := { s.rst with heldReset := some worst } } R.RST_DELAY F.RST_DELAY_DELAYED
    else s.takeReset l src

/-- A source requests the reset its map entry gives it. -/
def State.raiseReset (s : State) (src : Nat) : State := s.raiseAt src (s.levelFor src)

/-! ### The rows of the sources (R494, R503) -/

/-- PWRON (R494, R496): PWRON_L asserts, or the always-on rail comes up, and then everything it holds resets too, A_OK and B_OK reading 0 (R461). -/
def execPwron (railUp : Bool) (s : State) : Answer :=
  if railUp then
    let r := s.rst
    let r0 : State := State.reset
    let rst : Rst := { ({} : Rst) with resetIn := r.resetIn, perstIn := r.perstIn, partnerIn := r.partnerIn }
    let t : State := { r0 with pending := s.pending, out := s.out, fresh := s.fresh, fuses := s.fuses, flash := s.flash, shadow := {}, rst := rst,
                               ras := { repairs := s.ras.repairs } }
    .next (State.driveOxbow s t)
  else .next (State.raiseReset { s with rst := { s.rst with pwronIn := true } } 0)

/-- RESET_L (R494). -/
def execResetL (s : State) : Answer := .next (State.raiseReset { s with rst := { s.rst with resetIn := true } } 1)

/-- The PCI Express interface's link and configuration space reset (R494): the MSI-X table and pending bits with them. -/
def State.resetPcie (s : State) : State :=
  let base := R.GLOB_BASE + 0x8000
  let s := s.clearRegs (fun o => base ≤ o && o < base + 0x1008)
  { s with rst := { s.rst with pcie := false } }

/-- PERST (R494): whatever its map entry, the PCI Express interface resets. -/
def execPerst (s : State) : Answer := .next (State.raiseReset (State.resetPcie { s with rst := { s.rst with perstIn := true } }) 2)

/-- WATCHDOG_EXPIRY (R503): the Wellhead watchdog runs down. -/
def execWatchdogExpiry (s : State) : Answer :=
  if s.rst.wdog && s.flag R.RST_WDOG F.RST_WDOG_ENABLE then .next ((s.put R.RST_WDOG F.RST_WDOG_REMAIN_MS 0).raiseReset 3) else .next s

/-- The watchdog's count restarts, once it has started (R503). -/
def State.kick (s : State) : State :=
  if s.rst.wdog then s.put R.RST_WDOG F.RST_WDOG_REMAIN_MS (s.get R.RST_WDOG F.RST_WDOG_TIMEOUT_MS) else s

/-- KICK (R503). -/
def execKick (s : State) : Answer := .next s.kick

/-- SW_CHIP (R494, R520): RST_SWRESET with LEVEL 1 and the confirm code. -/
def execSwChip (confirm : BitVec 8) (s : State) : Answer := if confirm = 0x5A then .next (s.raiseReset 4) else .next s

/-- SW_DATA (R494, R520). -/
def execSwData (confirm : BitVec 8) (s : State) : Answer := if confirm = 0x5A then .next (s.raiseReset 5) else .next s

/-- PARTNER_RESET_IN (R445, R494). -/
def execPartnerResetIn (s : State) : Answer := .next (State.raiseReset { s with rst := { s.rst with partnerIn := true } } 6)

/-- CLKFAIL (R511): an external reference that serves any island has stayed failed for FAIL_WAIT_MS. -/
def execClkfail (source : Fin 4) (s : State) : Answer :=
  if bitOf (s.get R.CLK_SRCSTAT F.CLK_SRCSTAT_FAILED) source.val then .next (s.raiseReset 8) else .next s

/-- DEBUG_RESET (R494): the JTAG reset instruction, while DEBUG_OPEN is 1. -/
def execDebugReset (s : State) : Answer := if s.jtagAccepts .debugReset then .next (s.raiseReset 11) else .next s

/-- RESET_HOLD_END (R476, R497): the pulse or page program ends, `us` after the held request arrived; the request takes effect, and then no flash record is
written for the chunk whose fuse was burned if the reset is L1 or L0. -/
def execResetHoldEnd (us : BitVec 32) (s : State) : Answer :=
  if !s.rst.burning then .next s
  else
    let held := s.rst.heldReset
    let s : State := { s with rst := { s.rst with burning := false, heldReset := none }, sec := { s.sec with pulseSvn := false } }
    let s := if held.isSome ∧ s.get R.RST_DELAY F.RST_DELAY_LONGEST_US < us.toNat then s.put R.RST_DELAY F.RST_DELAY_LONGEST_US us.toNat else s
    match held with
    | some (l, src) =>
      if l ≤ 1 then .next (s.takeReset l src)
      else .next ((s.sec.burning.elim s s.chunkReady).takeReset l src)
    | none => .next (s.sec.burning.elim s s.chunkReady)

/-! ### The data-plane reset (R498, R499) -/

/-- What waits in a port's scheduler is turned back (R394): RETRY_AFTER with hint RETRY_MIN_US; a doorbell takes no tail. -/
def State.turnBack (s : State) (x : Ingress) : State :=
  let hint := s.get R.QOS_CFG F.QOS_CFG_RETRY_MIN_US
  match x with
  | .home r => s.retryAfter r.ep r.txn hint
  | .sync r => (s.bump R.XLAT_CNT_SYNC_REFUSED).retryAfter r.endpoint r.tid hint
  | .doorbell ep txn _ _ => s.retryAfter ep txn hint
  | .bulkRead ep txn _ _ _ _ => s.retryAfter ep txn hint
  | .bulkWrite ep txn _ _ _ _ _ => s.retryAfter ep txn hint

/-- A port's schedulers and buckets restart (R394): every V at 0, every bucket full. -/
def State.restartPort (s : State) (p : Nat) : State :=
  let a := s.adm p
  let items := (a.req.queues ++ a.bulk.queues).flatMap (fun q => q.items.map (·.act))
  let s := items.foldl (fun s x => s.turnBack x) s
  s.setAdm p { ({} : Admission) with now := a.now, buckets := a.buckets.map (fun e => (e.1, { e.2 with c := 1024 * s.cbs (e.1 / 2), p := 1024 * s.pbs (e.1 / 2), seen := a.now })) }

/-- The homes' held transactions are answered as isolation wrappers answer them (R375, R498): those whose response is still owed, and the requests that wait,
with ERROR; the homes' own recalls end. -/
def State.answerHomes (s : State) : State :=
  let h := s.home
  let fromTxn (t : DirTxn) : List (Nat × Nat) :=
    t.wbs.map (fun w => (w.1, w.2.1)) ++ (if t.closing || t.req.op == HomeOp.recall then [] else [(t.req.ep, t.req.txn)])
  let owed := h.txns.flatMap fromTxn ++ (h.waiting.filter (fun r => r.op != HomeOp.recall)).map (fun r => (r.ep, r.txn))
  let s : State := { s with home := { h with txns := [], waiting := [] } }
  owed.foldl (fun s e => s.sendPkt (cmpTo e.1 e.2 stError)) s

/-- The rows under test go back to their place (step 5 of R403) and wait for their test again. -/
def State.endTests (s : State) (u : Nat) : State :=
  let l := (s.chan u).test
  l.foldl (fun s t => (s.setCelogState u t.entry 1).awaitTest u t.entry) (s.updChan u (fun (c : Chan) => { c with test := [] }))

/-- A fill that a reset ends is answered by the wrapper: STATUS 2; how much it wrote is not stated, a free value. One of a basin begins again when the channel
leaves the reset. Log entry 102. -/
def State.endFill (s : State) (u : Nat) : State :=
  match (s.chan u).fill with
  | none => s
  | some j =>
    let done := Config.freeNat s.fresh % (j.count + 1)
    let s := ((s.tick).updChan u (fun (c : Chan) => { c with fill := none })).fillWritten u j done
    match j.basin with
    | none => s.fillReply u j.sender j.tag 2 done
    | some b =>
      let first := match j.fill.range with
        | .rows _ f _ _ => f
        | .chunks _ f _ => f
        | .run .. => 0
      let again : BasinFill := { basin := b, tenant := j.fill.tag, unit := u, first := first, count := j.count }
      if (s.basin b).isSome then { s with xlat := { s.xlat with fills := again :: s.xlat.fills } } else s

/-- A channel controller is held in reset (R208, R236, R240, R403): its tests end, its queued requests are answered with errors, and its queues, banks and
activate-count tables restart. -/
def State.holdChan (s : State) (u : Nat) : State :=
  let s := ((s.endTests u).endFill u).flushChan u (s.chFaulted u)
  s.updChan u (fun (c : Chan) => { c with pc0 := {}, pc1 := {}, tracked0 := false, lastTarn := 99, rows := [] })

/-- A Tarn is held in reset (R116): ENABLE and its program memory are cleared, and STATE is idle, or faulted while FAULT is 1. -/
def State.holdTarn (s : State) (t : Nat) : State :=
  let x := s.tarn t
  let s := (s.setTarn t { ({} : Tarn) with back := true, testing := x.testing, broken := x.broken }).setCache (8 + t) []
  let s := (s.putFlag (R.TARN_CTRL t) F.TARN_CTRL_ENABLE false).put (R.TARN_STATUS t) F.TARN_STATUS_PROG_ID 0
  s.setTarnState t (if s.tarnFaulted t then 3 else 0)

/-- A Mere port or the Twin link stops (R305): declared broken unless it is OFF, then OFF, its link state and credits at their reset values; what a Mere
port still has to send takes the ports that remain. -/
def State.holdLink (s : State) (n : Nat) : State :=
  let s := if s.linkState n = lsOff then s else s.breakLink n
  let s := s.goOff n
  let s := s.clearRegs (fun o => o == R.MERE_LINKSTAT n || o == R.MERE_CREDIT0 n || o == R.MERE_CREDIT1 n)
  let l := s.link n
  let s := s.setLink n { ({} : Link) with retrains := l.retrains, corrected := l.corrected, queue := l.left }
  if n = 8 then s else s.rerouteAll n (fun _ => true)

/-- Mesh transactions to a place that satisfies `p` are discarded, their reservations returned, and their sources answered without logging (R339). -/
def State.dropMesh (s : State) (p : Nat → Nat → Nat → Bool) : State :=
  let gone := s.mesh.txns.filter (fun t => p t.dx t.dy t.dport)
  let s : State := { s with mesh := { s.mesh with txns := s.mesh.txns.filter (fun t => !p t.dx t.dy t.dport),
                                                  inUse := s.mesh.inUse.filter (fun r => !p r.dx r.dy r.dport) } }
  gone.foldl (fun s t => s.send (.mesh "WRAPPER_ERROR" [t.sx, t.sy, t.sport, t.tid])) s

/-- Steps 1, 4 and 5 of R498 for everything but the homes; a command of XLAT_CMD that runs ends (R270). -/
def State.stopData (s : State) : State :=
  let s := s.endXlat
  let s := (List.range 8).foldl (fun s p => s.restartPort p) s
  let s := s.haltJobs (fun _ => true)
  let s : State := { s with jobs := { s.jobs with sources := [], flights := [], fails := [] } }
  let s := (List.range 100).foldl (fun s t => s.holdTarn t) s
  let s := (List.range 396).foldl (fun s u =>
    (s.holdChan u).setToken u false) s
  let s := (List.range 9).foldl (fun s n => s.holdLink n) s
  let s := s.endSnap.dropMesh (fun _ _ _ => true)
  { s with rst := { s.rst with l2 := 2 } }

/-- Every queued mirror write is acknowledged (R460). -/
def State.ackMirror (s : State) : State :=
  (s.pair.mirror.foldl (fun s w => if w.ctl.isSome then s.mirrorAcked w.id else (s.mirrorAcked w.id).bump R.PAIR_CNT_MIRROR_LINES) s).releaseJobs

/-- L2_RESET (R375, R498): steps 1 to 5. Mirror writes are acknowledged, held transactions answered, and every valid directory entry is demoted. -/
def execL2Reset (s : State) : Answer :=
  if s.rst.l2 ≠ 1 then .next s
  else
    let s := s.ackMirror.answerHomes
    let s := s.home.entries.foldl (fun s e => s.demote (64 * e.1)) s
    .next s.stopData

/-- L2_QUIESCE_TIMEOUT (R499): steps 1 to 3 are not complete 10 ms after the request: step 4 follows regardless. Entries not yet demoted are lost, and
STRICT_TEST stands until firmware has recalled their lines. -/
def execL2QuiesceTimeout (s : State) : Answer :=
  if s.rst.l2 ≠ 1 then .next s
  else
    let s := s.answerHomes
    let l := s.home.entries.map (fun e => 64 * e.1)
    let s : State := { s with home := { s.home with entries := [], forced := some l } }
    let s := (s.putFlag R.DIR_CTRL F.DIR_CTRL_STRICT_TEST true).putFlag R.RST_LAST F.RST_LAST_L2_FORCED true
    .next s.stopData

/-- The Wellhead loads the images of a Tarn's roles again (R116). -/
def State.reloadTarn (s : State) (t : Nat) : State :=
  if s.tarnFaulted t then s else (s.rolesOf t).foldl (fun s r => s.startLoad (t / 25) r) s

/-- A port or the Twin link trains from DETECT, if it is enabled (R305). -/
def State.releaseLink (s : State) (n : Nat) : State :=
  if s.flag (R.MERE_CTRL n) F.MERE_CTRL_ENABLE && s.linkState n == lsOff then
    s.enterDetect n
  else s

/-- Jobs that wait for it complete with JOB_RESET (R192). -/
def State.finishReset (s : State) (p : Job → Bool) : State :=
  ((s.jobs.jobs.filter (fun j => j.st == .reset && p j)).map (·.id)).foldl (fun s i => s.finishJob i jsReset) s

/-- L2_RESET_RESUME (R192, R498): steps 6 to 8: memory leaves self-refresh, jobs complete with JOB_RESET, the Tarns' images load, the links train. -/
def execL2ResetResume (s : State) : Answer :=
  if s.rst.l2 ≠ 2 then .next s
  else
    let s : State := { s with rst := { s.rst with l2 := 0, active := none } }
    let s := (List.range 396).foldl (fun s u => if s.inL3 (chUnitKey u) then s else s.startBasinFill u) s
    let s := s.finishReset (fun j => !s.inL3 (unitKey 2 (s.inlet j.inlet).port))
    let s := (List.range 100).foldl (fun s t => if s.inL3 (unitKey 0 t) then s else s.reloadTarn t) s
    let s := (List.range 9).foldl (fun s n => if s.inL3 (unitKey 2 n) then s else s.releaseLink n) s
    .next ((List.range 9).foldl (fun s e => s.topUpAll e) s)

/-! ### Single-unit resets (R500, R501) -/

/-- Units of a kind: Tarns, Ponds, Mere ports, Spillway channels. -/
def unitCount (kind : Nat) : Nat := if kind = 0 then 100 else if kind = 1 then 384 else if kind = 2 then 8 else 12

/-- The hierarchy address of a unit of RST_UNIT. -/
def unitAddr (kind i : Nat) : Nat := if kind = 0 then tarnAddr i else if kind = 1 then pondAddr i else if kind = 2 then mereAddr i else spillAddr i

def State.setUnit (s : State) (kind i v : Nat) : State :=
  { s with rst := { s.rst with units := Tbl.set (fun _ => 0) s.rst.units (unitKey kind i) v } }

/-- The wrapper closes a unit (R500, R116, R205, R236, R305, R339, R394): what is outstanding is answered, and the unit is held. -/
def State.closeUnit (s : State) (kind i : Nat) : State :=
  let s := s.dropMesh (fun x y p => (unitAtPort x y p).elim false (fun u => u.2 == unitAddr kind i))
  if kind = 0 then (s.answerAll i).holdTarn i
  else if kind = 2 then
    let s := (s.restartPort i).holdLink i
    s.haltJobs (fun j => (s.inlet j.inlet).port == i)
  else
    let u := if kind = 1 then i else 384 + i
    let tok := s.hasToken u
    let s := s.holdChan u
    if tok then s.passToken u else s

/-- A unit that has reported ready rejoins (R108, R116, R192, R236, R240, R305, R501). -/
def State.openUnit (s : State) (kind i : Nat) : State :=
  if kind = 0 then
    (if s.tarnFaulted i then s.updTarn i (fun (x : Tarn) => { x with testing := !x.broken }) else s.reloadTarn i)
  else if kind = 2 then
    let s := s.finishReset (fun j => (s.inlet j.inlet).port == i)
    (s.releaseLink i).topUpAll i
  else s.startBasinFill (if kind = 1 then i else 384 + i)

/-- RST_UNIT's STATUS: 0 OK, 1 BAD_ARG, 2 NOT_ALLOWED, 3 ALREADY. -/
def State.unitStatus (s : State) (v : Nat) : State := s.put R.RST_UNIT F.RST_UNIT_STATUS v

/-- A write of RST_UNIT: the operands, and the checks every operation makes (R495, R520). None when one fails. -/
def State.unitCommand (s : State) (kind i : Nat) : State × Bool :=
  let s := (s.put R.RST_UNIT F.RST_UNIT_KIND kind).put R.RST_UNIT F.RST_UNIT_INDEX i
  if unitCount kind ≤ i then (s.unitStatus 1, false)
  else if s.rst.active.isSome then (s.unitStatus 2, false)
  else (s, true)

def State.unitHeld (s : State) (kind i : Nat) : Bool := Tbl.get (fun _ => 0) s.rst.units (unitKey kind i) == 1

/-- ENTER (R500). -/
def execEnter (kind : Fin 4) (index : BitVec 9) (s : State) : Answer :=
  if s.flag R.RST_UNIT F.RST_UNIT_BUSY then .next s
  else match s.unitCommand kind index.toNat with
    | (s, false) => .next s
    | (s, true) =>
      if s.unitHeld kind index.toNat then .next (s.unitStatus 3)
      else .next (((s.setUnit kind index.toNat 1).closeUnit kind index.toNat).unitStatus 0)

/-- LEAVE (R500): the unit is released; its wrapper answers for it until it reports ready. -/
def execLeave (kind : Fin 4) (index : BitVec 9) (s : State) : Answer :=
  if s.flag R.RST_UNIT F.RST_UNIT_BUSY then .next s
  else match s.unitCommand kind index.toNat with
    | (s, false) => .next s
    | (s, true) => if s.unitHeld kind index.toNat then .next ((s.setUnit kind index.toNat 2).unitStatus 0) else .next (s.unitStatus 3)

/-- PULSE (R500): both, with the shortest hold. -/
def execPulse (kind : Fin 4) (index : BitVec 9) (s : State) : Answer :=
  if s.flag R.RST_UNIT F.RST_UNIT_BUSY then .next s
  else match s.unitCommand kind index.toNat with
    | (s, false) => .next s
    | (s, true) =>
      if s.unitHeld kind index.toNat then .next (s.unitStatus 3)
      else .next (((s.setUnit kind index.toNat 2).closeUnit kind index.toNat).unitStatus 0)

/-- UNIT_READY (R375, R501): a unit that has left its reset reports ready, and what its homes held back for it goes on. -/
def execUnitReady (kind : Fin 4) (index : BitVec 9) (s : State) : Answer :=
  if Tbl.get (fun _ => 0) s.rst.units (unitKey kind index.toNat) ≠ 2 then .next s
  else .next ((s.setUnit kind index.toNat 0).openUnit kind index.toNat).pumpAll

/-! ### Leaving a reset (R502, R517, R580) -/

/-- FUSE_LOAD_DONE (R492, R494, R502): the fuse shadow is loaded, fields whose Reset is Fuse take their values, and every land takes its fused state. The feeds'
first window has ended by then, and a feed that is absent counts from here (R453, R461; log entry 105). -/
def execFuseLoadDone (s : State) : Answer :=
  if s.rst.fused then .next s
  else
    let s : State := { s with shadow := s.fuses, rst := { s.rst with fused := true } }
    let s := s.loadShadow.fuseLands (List.range 31)
    let both : Bool := s.flag R.PWR_FEED_STATUS F.PWR_FEED_STATUS_A_OK && s.flag R.PWR_FEED_STATUS F.PWR_FEED_STATUS_B_OK
    let t : State := { s with pwr := { s.pwr with feedWindow := false } }
    .next (if s.pwr.feedWindow && !both then t.restartLoop else t)


/-- An input that holds the controller in reset at the level its map entry gives. -/
def State.inputHolds (s : State) (asserted : Bool) (src : Nat) : Bool := asserted && (s.levelFor src).elim false (fun l => l ≤ 1)

/-- Something holds the controller in an L0 or L1 reset (R494, R517). -/
def State.heldInReset (s : State) : Bool :=
  s.rst.pwronIn || s.inputHolds s.rst.resetIn 1 || s.inputHolds s.rst.perstIn 2 || s.inputHolds s.rst.partnerIn 6 || s.rst.thermHold

/-- RESET_INPUT_DEASSERT (R580, R582): an input deasserts: 0 PWRON_L, 1 RESET_L, 2 PERST_L, 3 PARTNER_RST_IN_L. The PCI Express interface answers
configuration requests once neither PWRON_L nor PERST_L is asserted. -/
def execResetInputDeassert (input : Fin 4) (s : State) : Answer :=
  let r := s.rst
  let r : Rst := match input.val with
    | 0 => { r with pwronIn := false }
    | 1 => { r with resetIn := false }
    | 2 => { r with perstIn := false }
    | _ => { r with partnerIn := false }
  let answers : Bool := r.pcie || (r.booted && !r.pwronIn && !r.perstIn)
  .next { s with rst := { r with pcie := answers } }

end Sys2Proof.Machine
end

