-- ==== Sys2Proof/Machine/Clocks.lean ====
section
/-!
DEFINITION. Clock sources and islands (R504 to R511): stability, failure and safe stop, automatic fallback, and switching.
-/
namespace Sys2Proof.Machine

/-- Source of an island (R504, R509): 0 SYS, 1 MERE_A, 2 MERE_B, 3 DDR, 4 RING. -/
def State.clkSourceOf (s : State) (i : Nat) : Nat :=
  if i = wellIsland then (if s.flag R.CLK_SEL F.CLK_SEL_WELL_SRC then 4 else 0)
  else if i = secIsland then (if s.flag R.CLK_SEL F.CLK_SEL_SEC_SRC then 4 else 0)
  else if i = twinIsland then 1 + s.get R.CLK_SEL F.CLK_SEL_TWIN_SRC
  else if 488 ≤ i ∧ i < 492 then 1
  else if 492 ≤ i ∧ i < 496 then 2
  else if 497 ≤ i ∧ i < 509 then 3
  else if i = 516 then 4
  else 0

def State.srcReady (s : State) (n : Nat) : Bool := bitOf (s.get R.CLK_SRCSTAT F.CLK_SRCSTAT_READY) n
def State.srcFailed (s : State) (n : Nat) : Bool := bitOf (s.get R.CLK_SRCSTAT F.CLK_SRCSTAT_FAILED) n
def State.pllStable (s : State) (i : Nat) : Bool := Tbl.get (fun _ => false) s.clk.pllStable i

def State.setReady (s : State) (n : Nat) (b : Bool) : State := s.put R.CLK_SRCSTAT F.CLK_SRCSTAT_READY (setBits (s.get R.CLK_SRCSTAT F.CLK_SRCSTAT_READY) n 1 (if b then 1 else 0))
def State.setFailed (s : State) (n : Nat) (b : Bool) : State := s.put R.CLK_SRCSTAT F.CLK_SRCSTAT_FAILED (setBits (s.get R.CLK_SRCSTAT F.CLK_SRCSTAT_FAILED) n 1 (if b then 1 else 0))
def State.setPll (s : State) (i : Nat) (b : Bool) : State := { s with clk := { s.clk with pllStable := Tbl.set (fun _ => false) s.clk.pllStable i b } }
def State.setStopped (s : State) (i : Nat) (b : Bool) : State := { s with clk := { s.clk with stopped := Tbl.set (fun _ => false) s.clk.stopped i b } }

/-- A running island stops within 50 ns (R507): its outputs idle, its lands take their reset state, its clock stops. -/
def State.stopIsland (s : State) (i : Nat) : State :=
  let s := s.setStopped i true
  if i = secIsland then s.fuseLands secLands else s

/-- A stopped island resumes where it stopped (R508): what a link or a home held back for it goes on. -/
def State.resumeIsland (s : State) (i : Nat) : State :=
  let s := s.setStopped i false
  if i = secIsland then secLands.foldl (fun s l => s.setLand l 4) s
  else if 488 ≤ i ∧ i ≤ twinIsland then s.flush (i - 488)
  else s.pumpAll

/-- SOURCE_STABLE (R505, R508): a source's count completes and READY sets, a failed one returning with it; or an island's PLL is judged stable, and a stopped island
whose source has not failed resumes. -/
def execSourceStable (pll : Bool) (n : BitVec 10) (s : State) : Answer :=
  let i := n.toNat
  if pll then
    if 517 ≤ i ∨ s.srcFailed (s.clkSourceOf i) then .next s
    else
      let s := s.setPll i true
      .next (if s.islandStopped i then s.resumeIsland i else s)
  else if 5 ≤ i then .next s
  else
    let back := s.srcFailed i
    let s := (s.setReady i true).setFailed i false
    .next (if back then s.setErr R.CLK_ERR F.CLK_ERR_SRC_RETURN else s)

/-- The Wellhead or the security block falls back to RING when its PLL fails (R510). -/
def State.fallBack (s : State) (i : Nat) (f : Fld) : State × Bool :=
  if s.flag R.CLK_CFG F.CLK_CFG_WELL_AUTOFALL && s.srcReady 4 && !s.flag R.CLK_SEL f then
    (((s.putFlag R.CLK_SEL f true).setPll i false).setErr R.CLK_ERR F.CLK_ERR_AUTOFALL, true)
  else (s, false)

/-- An island's PLL, or the reference behind it, has failed (R506, R507, R510). -/
def State.failIsland (s : State) (i : Nat) : State :=
  let running : Bool := s.pllStable i
  let s' := s.setPll i false
  if !running then s'
  else if i = wellIsland ∨ i = secIsland then
    match s.fallBack i (if i = wellIsland then F.CLK_SEL_WELL_SRC else F.CLK_SEL_SEC_SRC) with
    | (t, true) => t
    | (_, false) => s'.stopIsland i
  else s'.stopIsland i

/-- REFCLK_FAIL (R506, R507, R510): an external reference fails, with every island it serves; or an island's PLL loses lock. A Wellhead or security block that runs
from RING does not depend on its PLL. -/
def execRefclkFail (pll : Bool) (n : BitVec 10) (s : State) : Answer :=
  let i := n.toNat
  if pll then
    if 516 ≤ i ∨ s.clkSourceOf i = 4 then .next s else .next ((s.setErr R.CLK_ERR F.CLK_ERR_PLL_UNLOCK).failIsland i)
  else if 4 ≤ i then .next s
  else
    let s := ((s.setReady i false).setFailed i true).setErr R.CLK_ERR F.CLK_ERR_SRC_FAIL (2 ^ i)
    let twin : Bool := i == 1 && s.flag R.CLK_CFG F.CLK_CFG_TWIN_AUTOFALL && s.srcReady 2 && !s.flag R.CLK_SEL F.CLK_SEL_TWIN_SRC
    let s := if twin then ((s.putFlag R.CLK_SEL F.CLK_SEL_TWIN_SRC true).setErr R.CLK_ERR F.CLK_ERR_AUTOFALL).startRetrain 8 3 false else s
    .next ((List.range 516).foldl (fun s k => if s.clkSourceOf k = i then s.failIsland k else s) s)

/-- CLK_SEL_WRITE (R509): each field that names a source that is READY takes effect, a PLL with its own flag; another keeps its value and is refused. A switch of
the Twin link's source retrains it. -/
def execClkSelWrite (value : BitVec 3) (s : State) : Answer :=
  let one (s : State) (bit : Nat) (f : Fld) (ok : Bool) : State :=
    if ok then s.putFlag R.CLK_SEL f (bitOf value.toNat bit) else s.setErr R.CLK_ERR F.CLK_ERR_SWITCH_REFUSED
  let ring (bit i : Nat) : Bool := if bitOf value.toNat bit then s.srcReady 4 else s.srcReady 0 && s.pllStable i
  let t := one (one s 0 F.CLK_SEL_WELL_SRC (ring 0 wellIsland)) 1 F.CLK_SEL_SEC_SRC (ring 1 secIsland)
  let t := one t 2 F.CLK_SEL_TWIN_SRC (s.srcReady (if bitOf value.toNat 2 then 2 else 1))
  .next (if t.get R.CLK_SEL F.CLK_SEL_TWIN_SRC = s.get R.CLK_SEL F.CLK_SEL_TWIN_SRC then t else t.startRetrain 8 3 false)

/-- VDD_AON_LOSS (R552): the on-die Oxbow switches close. -/
def execVddAonLoss (s : State) : Answer := .next (State.driveOxbow s { s with rst := { s.rst with aonOk := false } })

end Sys2Proof.Machine
end

