-- ==== Sys2Proof/Machine/Power.lean ====
section
/-!
DEFINITION. The feeds (R452 to R455, R461), the power-cap loop (R514 to R516), and the thermal and voltage limits (R517, R518).
-/
namespace Sys2Proof.Machine

/-! ### Gating and operating points (R513, R514) -/

/-- How an island is gated. -/
inductive Gate where
  | none | clock | power
  deriving DecidableEq, Repr

/-- A spare Tarn is power-gated, one with no job queued and no slice open clock-gated, as PWR_CTRL permits (R513). -/
def State.tarnGate (s : State) (t : Nat) : Gate :=
  if s.get (R.TARN_CTRL t) F.TARN_CTRL_ROLE = 31 ∧ !s.flag (R.TARN_CTRL t) F.TARN_CTRL_ENABLE then
    (if s.flag R.PWR_CTRL F.PWR_CTRL_SPARE_PG then .power else .none)
  else if (s.tarn t).queue = [] ∧ (s.tarn t).run = none ∧ s.flag R.PWR_CTRL F.PWR_CTRL_IDLE_CG then .clock
  else .none

/-- A Mere port or the Twin link with ENABLE 0, and a Spillway channel absent or held, are power-gated (R513). -/
def State.portGate (s : State) (n : Nat) : Gate := if s.flag (R.MERE_CTRL n) F.MERE_CTRL_ENABLE then .none else .power
def State.spillGate (s : State) (j : Nat) : Gate :=
  if s.get (R.SPILL_STATUS j) F.SPILL_STATUS_DIMMS = 0 ∨ s.chHeld (384 + j) then .power else .none

/-- Tarn clock in MHz and VDD_TARN in mV at operating points P0 to P3 (R514). -/
def pointMhz (p : Nat) : Nat := [1000, 850, 700, 500].getD p 500
def pointMillivolts (p : Nat) : Nat := [750, 700, 650, 600].getD p 600

/-- The array time of R100 and R101 at an operating point and an issue fraction, from its time at P0 and full issue, in the same unit, rounded down (R514). -/
def arrayTime (full p f : Nat) : Nat := full * 1000 * 16 / (pointMhz p * f)

/-! ### The loop's levers (R515) -/

def pointSteps (l : List Bool) : Nat := (l.filter (!·)).length
/-- F: 16 less the steps of it in force. -/
def issueF (l : List Bool) : Nat := 16 - (l.filter (·)).length
/-- The operating point: the steps in force, but no point above TARN_MAXPT in performance (R514). -/
def State.pointOf (s : State) (l : List Bool) : Nat := max (s.get R.PWR_CTRL F.PWR_CTRL_TARN_MAXPT) (min 3 (pointSteps l))

/-- The cap in force (R515). -/
def State.capW (s : State) : Nat :=
  if s.flag R.PWR_FEED_STATUS F.PWR_FEED_STATUS_SINGLE then s.get R.PWR_FEED_CFG F.PWR_FEED_CFG_CAP_W else s.get R.PWR_CAP F.PWR_CAP_CAP2_W

/-- Put tightening steps in force: F, the point and CAP_ACTIVE show them, a change of point is counted, background work follows. -/
def State.putSteps (s : State) (l : List Bool) : State :=
  let f := issueF l
  let p := s.pointOf l
  let moved : Bool := s.get R.PWR_STATUS F.PWR_STATUS_POINT != p
  let s := if moved then s.bump R.PWR_CNT_PT_CHANGES else s
  let s := (s.put R.PWR_STATUS F.PWR_STATUS_ISSUE_F f).put R.PWR_STATUS F.PWR_STATUS_POINT p
  let s := s.putFlag R.PWR_STATUS F.PWR_STATUS_CAP_ACTIVE (f < 16 || 0 < p)
  { s with pwr := { s.pwr with steps := l, background := f == 16 && p == 0 } }

/-- Bring F down to 8, step by step; `n` bounds the steps. -/
def holdEight (l : List Bool) : Nat → List Bool
  | 0 => l
  | n + 1 => if 8 < issueF l then holdEight (true :: l) n else l

/-- One tightening step, or none when every lever is at its end (R515). -/
def State.tighten (s : State) (l : List Bool) : Option (List Bool) :=
  let f := issueF l
  let p := s.pointOf l
  if 8 < f then some (true :: l)
  else if p < 3 then some (List.replicate (p + 1 - pointSteps l) false ++ l)
  else if 1 < f then some (true :: l)
  else none

/-! ### Samples (R515, R516) -/

/-- The telemetry of a sample (R516): the third unreadable one in a row sets PMBUS_FAIL, and F is then held at 8 or lower under a cap below 1,050 W. -/
def State.telemetry (s : State) (readable : Bool) : State :=
  if readable then { s with pwr := { s.pwr with pmbusBad := 0, pmbusGood := min 10 (s.pwr.pmbusGood + 1) } }
  else
    let bad := min 3 (s.pwr.pmbusBad + 1)
    let first : Bool := bad == 3 && s.pwr.pmbusBad != 3
    let s : State := { s with pwr := { s.pwr with pmbusBad := bad, pmbusGood := if bad = 3 ∨ s.pwr.pmbusGood < 10 then 0 else 10 } }
    if first then s.setErr R.PWR_ERR F.PWR_ERR_PMBUS_FAIL else s

/-- Telemetry has failed, and ten good samples in a row have not yet followed. -/
def State.blind (s : State) : Bool := s.pwr.pmbusGood < 10

/-- What a sample shows besides the levers: POWER_W, the temperatures, and how long both feeds and VRM groups have been present (R454). -/
def State.showSample (s : State) (p : Option Nat) (tj tstk : Nat) : State :=
  let l := match p with | some w => (w :: s.pwr.samples).take 10 | none => s.pwr.samples
  let avg := if l = [] then 0 else l.foldl (· + ·) 0 / l.length
  let whole : Bool := s.flag R.PWR_FEED_STATUS F.PWR_FEED_STATUS_A_OK && s.flag R.PWR_FEED_STATUS F.PWR_FEED_STATUS_B_OK
    && !s.flag R.PWR_FEED_STATUS F.PWR_FEED_STATUS_VRM_A_FAULT && !s.flag R.PWR_FEED_STATUS F.PWR_FEED_STATUS_VRM_B_FAULT
  let s : State := { s with pwr := { s.pwr with samples := l, bothOk := if whole then min 1000 (s.pwr.bothOk + 1) else 0 } }
  let s := (s.put R.PWR_FEED_STATUS F.PWR_FEED_STATUS_POWER_W (min avg 2047)).put R.PWR_STATUS F.PWR_STATUS_TJ_MAX_C (min tj 255)
  (s.put R.PWR_STATUS F.PWR_STATUS_TSTK_MAX_C (min tstk 255)).putFlag R.PWR_STATUS F.PWR_STATUS_THERM_ACTIVE
    (s.get R.PWR_THERM F.PWR_THERM_THROTTLE_C ≤ tj)

/-- PWR_SAMPLE (R515, R516, R526): `power` is what both groups and the stacks report, none when a group cannot be read; `tj` and `tstk` the hottest die and
stack, in °C; `msEnd` tells that a millisecond ends with the sample. A sample that cannot be read moves neither A nor the power half of the tests. -/
def execPwrSample (power : Option (BitVec 12)) (tj tstk : BitVec 8) (msEnd : Bool) (s : State) : Answer :=
  let p := power.map (·.toNat)
  let s := (s.telemetry p.isSome).showSample p tj.toNat tstk.toNat
  let cap := s.capW
  let lim := s.get R.PWR_THERM F.PWR_THERM_THROTTLE_C
  let hot : Bool := lim ≤ tj.toNat
  let s := if hot then s.setErr R.PWR_ERR F.PWR_ERR_THERM_THROTTLE else s
  let above : Bool := p.elim false (fun w => cap < w) || hot
  let sum := s.pwr.samples.foldl (· + ·) 0
  let low : Bool := p.isSome && s.pwr.samples != [] && sum + s.get R.PWR_CAP F.PWR_CAP_HYST_W * s.pwr.samples.length < cap * s.pwr.samples.length
    && tj.toNat + 5 < lim
  let was : Bool := s.flag R.PWR_STATUS F.PWR_STATUS_CAP_ACTIVE
  let l := s.pwr.steps
  let n := if above || !low then 0 else s.pwr.relax + 1
  let s : State := { s with pwr := { s.pwr with relax := n % 10 } }
  let s := if above then
      match s.tighten l with
      | some l => let s := s.putSteps l
                  if was then s else s.setErr R.PWR_ERR F.PWR_ERR_CAP_ACTIVE
      | none => s.setErr R.PWR_ERR F.PWR_ERR_CAP_MISSED
    else if n = 10 ∧ !s.blind then s.putSteps (l.drop 1)
    else s.putSteps l
  let s := if s.blind && cap < 1050 then s.putSteps (holdEight s.pwr.steps 16) else s
  let count (s : State) (f : Fld) (c : Nat) : State := if msEnd && s.flag R.PWR_STATUS f then s.bump c else s
  .next (count (count s F.PWR_STATUS_CAP_ACTIVE R.PWR_CNT_CAP_MS) F.PWR_STATUS_THERM_ACTIVE R.PWR_CNT_THERM_MS)

/-! ### Feeds (R452 to R455, R461) -/

def okFld (b : Bool) : Fld := if b then F.PWR_FEED_STATUS_B_OK else F.PWR_FEED_STATUS_A_OK
def lostFld (b : Bool) : Fld := if b then F.PWR_FEED_STATUS_B_LOST else F.PWR_FEED_STATUS_A_LOST
def vrmFld (b : Bool) : Fld := if b then F.PWR_FEED_STATUS_VRM_B_FAULT else F.PWR_FEED_STATUS_VRM_A_FAULT

/-- A feed is present, and its VRM group reports no fault (R452). -/
def State.feedGood (s : State) (b : Bool) : Bool := s.flag R.PWR_FEED_STATUS (okFld b) && !s.flag R.PWR_FEED_STATUS (vrmFld b)

/-- Half issue rate and no background work, at the loss of a feed (R453, R515): with CAP_W at 1,050 neither follows. -/
def State.throttle (s : State) : State :=
  if s.get R.PWR_FEED_CFG F.PWR_FEED_CFG_CAP_W = 1050 then s
  else
    let s := s.putSteps (holdEight s.pwr.steps 16)
    { s with pwr := { s.pwr with background := false, relax := 0 } }

/-- FEED_LOSS (R452, R453): a feed's OK falls for DEGLITCH_US, or its VRM group reports a fault. A feed that was absent from the start sets SINGLE alone, and not
before the first window has ended (R461). With the other feed lost too R455 governs: the goodbye notice, and nothing but the feed's own bit changes. -/
def execFeedLoss (feedB vrm : Bool) (s : State) : Answer :=
  let other := s.feedGood (!feedB)
  let was := s.feedGood feedB
  let s := if vrm then (s.putFlag R.PWR_FEED_STATUS (vrmFld feedB) true).setErr R.PWR_ERR F.PWR_ERR_VRM_FAULT
           else s.putFlag R.PWR_FEED_STATUS (okFld feedB) false
  let s : State := { s with pwr := { s.pwr with bothOk := 0 } }
  if s.pwr.feedWindow then .next s
  else if !other then .next (if was then s.sendGoodbye 2 0 0 else s)
  else if was then
    let t := (s.putFlag R.PWR_FEED_STATUS F.PWR_FEED_STATUS_SINGLE true).putFlag R.PWR_FEED_STATUS (lostFld feedB) true
    .next ((State.interruptIf s t 4).raiseAlarm .feedLost).throttle
  else if s.flag R.PWR_FEED_STATUS F.PWR_FEED_STATUS_SINGLE then .next s
  else .next (s.putFlag R.PWR_FEED_STATUS F.PWR_FEED_STATUS_SINGLE true).throttle

/-- FEED_BOTH_LOST (R443, R455): the goodbye notice, and no other action. -/
def execFeedBothLost (s : State) : Answer :=
  let s := (s.putFlag R.PWR_FEED_STATUS F.PWR_FEED_STATUS_A_OK false).putFlag R.PWR_FEED_STATUS F.PWR_FEED_STATUS_B_OK false
  .next (State.sendGoodbye { s with pwr := { s.pwr with bothOk := 0 } } 2 0 0)

/-- FEED_RETURN (R454, R461): the land has been high for DEGLITCH_US, or the VRM group clears its fault; SINGLE stays. -/
def execFeedReturn (feedB vrm : Bool) (s : State) : Answer :=
  let s := if vrm then s.putFlag R.PWR_FEED_STATUS (vrmFld feedB) false else s.putFlag R.PWR_FEED_STATUS (okFld feedB) true
  .next { s with pwr := { s.pwr with bothOk := 0 } }

/-- RESTORE (R454): 100 ms are 1,000 samples. -/
def execRestore (s : State) : Answer :=
  if s.feedGood false && s.feedGood true && 1000 ≤ s.pwr.bothOk then
    .next ((s.putFlag R.PWR_FEED_STATUS F.PWR_FEED_STATUS_SINGLE false).putFlag R.PWR_FEED_CMD F.PWR_FEED_CMD_FAIL false)
  else .next (s.putFlag R.PWR_FEED_CMD F.PWR_FEED_CMD_FAIL true)

/-! ### Temperature and voltage (R517, R518) -/

/-- THERMTRIP (R517): a die sensor at 115 °C, or a stack that reports its catastrophic temperature. -/
def execThermtrip (tj : BitVec 8) (stack : Bool) (s : State) : Answer :=
  if tj.toNat < s.get R.PWR_THERM F.PWR_THERM_TRIP_C ∧ !stack then .next s
  else
    let s : State := { s with rst := { s.rst with thermHold := true, tripLand := true } }
    .next ((s.send (.land "THERMTRIP_L" false)).raiseReset 7)

/-- THERMTRIP_RELEASE (R517): the hottest die sensor reads below 100 °C. -/
def execThermtripRelease (tj : BitVec 8) (s : State) : Answer :=
  if !s.rst.thermHold ∨ 100 ≤ tj.toNat then .next s
  else .next (State.send { s with rst := { s.rst with thermHold := false, tripLand := false } } (.land "THERMTRIP_L" true))

/-- A fuse pulse is being driven: VPP_FUSE is monitored (R518). -/
def State.pulsing (s : State) : Bool := s.sec.burning.isSome || s.sec.pulseSvn

/-- A pulse ends unburned, and its bit is treated as one that does not read 1 (R476, R518). -/
def State.abortPulse (s : State) : State :=
  let undo (f : Fuses) : Fuses := match s.sec.burning with
    | some k => { f with chunks := k }
    | none => { f with svn := f.svn - 1 }
  let s' : State := { s with fuses := undo s.fuses, shadow := undo s.shadow, sec := { s.sec with burning := none, pulseSvn := false },
                             rst := { s.rst with burning := false } }
  ((s'.put R.SEC_STATUS F.SEC_STATUS_CHUNKS s'.fuses.chunks).put R.SEC_STATUS F.SEC_STATUS_SVN_FUSED s'.fuses.svn).idBad

/-- VMON (R518): a rail stays outside ±8 % for 2 µs; `vpp` names VPP_FUSE, monitored during a pulse alone. -/
def execVmon (vpp : Bool) (s : State) : Answer :=
  if !vpp then .next (s.raiseReset 9)
  else if s.pulsing then .next (s.abortPulse.raiseReset 9)
  else .next s

/-- VMON_WARN (R518): a rail stays outside ±5 % for 1 µs. -/
def execVmonWarn (vpp : Bool) (s : State) : Answer :=
  if vpp && !s.pulsing then .next s else .next (s.setErr R.PWR_ERR F.PWR_ERR_VMON_WARN)

end Sys2Proof.Machine
end

