-- ==== Sys2Proof/Machine/Mgmt.lean ====
section
/-!
DEFINITION. The management plane (R21, R25, R26, R530 to R555): the mailbox, event records, reports on their way to the Wellhead, the rack management ring,
fatal errors and the dump.
-/
namespace Sys2Proof.Machine

def State.phase (s : State) : Nat := s.get R.GLOB_STATUS F.GLOB_STATUS_PHASE
def State.setPhase (s : State) (v : Nat) : State := s.put R.GLOB_STATUS F.GLOB_STATUS_PHASE v
def State.isFatal (s : State) : Bool := s.flag R.GLOB_STATUS F.GLOB_STATUS_FATAL

/-- The Wellhead runs: the boot ROM has started, no L0 or L1 reset is in progress, and its island has its clock. -/
def State.wellRuns (s : State) : Bool := s.rst.booted && !(s.rst.active.any (fun a => a.1 ≤ 1)) && !s.islandStopped wellIsland

/-! ### The mailbox (R533 to R538, R585) -/

/-- A function level reset (R530): configuration space, the MSI-X table and pending bits, MBX_EN, the mailbox pointers; the response of a command that runs is
discarded, and held event records stay. -/
def execFlr (s : State) : Answer :=
  let base := R.GLOB_BASE + 0x8000
  let s := s.clearRegs (fun o => (base ≤ o && o < base + 0x1008) || o == R.MGMT_CMD_PTR || o == R.MGMT_EVT_PTR)
  let s : State := { s with mgmt := { s.mgmt with unread := [] }, pair := { s.pair with held := s.pair.held.filter (fun h => h.mail.isNone) } }
  .next ((s.putFlag R.MGMT_CTRL F.MGMT_CTRL_MBX_EN false).putFlag R.MGMT_STATUS F.MGMT_STATUS_MBX_BUSY false)

/-- CMD_TAIL_WRITE (R529, R534): what the node host has written through BAR2 since its last command, by offset and bytes, and the new TAIL, refused when it
lies more than 256 ahead of DONE. Accepted, it raises interrupt 5 in the Wellhead cores (R135; log entry 121). -/
def execCmdTailWrite (tail : BitVec 16) (staged : List (BitVec 28 × List Byte)) (s : State) : Answer :=
  let s := staged.foldl (fun s e => s.pokeBar2 e.1.toNat e.2) s
  if 256 < (tail.toNat + 65536 - s.get R.MGMT_CMD_PTR F.MGMT_CMD_PTR_DONE) % 65536 then .next (s.setErr R.MGMT_ERR F.MGMT_ERR_CMD_RANGE)
  else .next ((s.put R.MGMT_CMD_PTR F.MGMT_CMD_PTR_TAIL tail.toNat).raiseWell 5)

/-- The mailbox is served, by firmware or in recovery by the boot ROM, and no command runs. -/
def State.mailRuns (s : State) : Bool :=
  s.flag R.MGMT_CTRL F.MGMT_CTRL_MBX_EN && s.wellRuns && (s.rst.recovery || 1 ≤ s.phase) && !s.flag R.MGMT_STATUS F.MGMT_STATUS_MBX_BUSY

/-- A command's response (R436, R534): at once, or when the mirror writes it made since number `m` are performed. -/
def State.respondMail (s : State) (m tag status result : Nat) : State :=
  if s.mirrorsSince m = [] then s.answerMail tag status result
  else { s with pair := { s.pair with held := s.pair.held ++ [{ needs := s.mirrorsSince m, pkt := none, out := none, mail := some (tag, status, result) }] } }

/-- Opcodes of R535. -/
def mailOps : List Nat := [1, 2, 3, 4, 5, 6]

/-- Take the command at HEAD and run it as `run` says: state, STATUS and RESULT, or none while it must wait. A command of another listed opcode is left to its
own row; one of no listed opcode is answered BAD_OPCODE, one whose slot reads as poisoned ERROR. After a fatal error all but PING give ERROR (R555); in
recovery PING answers all ones, FLASH_WRITE works, and the rest give BAD_OPCODE (R585). -/
def State.mailRow (s : State) (op : Nat) (run : List Byte → State → Option (State × Nat × Nat)) : Answer :=
  let head := s.get R.MGMT_CMD_PTR F.MGMT_CMD_PTR_HEAD
  if !s.mailRuns ∨ head = s.get R.MGMT_CMD_PTR F.MGMT_CMD_PTR_TAIL then .next s
  else
    match s.readMail (64 * (head % 256)) 64 with
    | (t, ok, e) =>
      let code := (e.getD 0 0).toNat
      if ok && mailOps.contains code && code != op then .next s
      else
        let t := (t.put R.MGMT_CMD_PTR F.MGMT_CMD_PTR_HEAD (head + 1)).putFlag R.MGMT_STATUS F.MGMT_STATUS_MBX_BUSY true
        let m := t.pair.nextMirror
        let r : Option (State × Nat × Nat) :=
          if !ok then some (t, 6, 0)
          else if code ≠ op then some (t, 1, 0)
          else if s.isFatal then (if op = 6 then run e t else some (t, 6, 0))
          else if s.rst.recovery then (if op = 6 then some (t, 0, 2 ^ 64 - 1) else if op = 5 then run e t else some (t, 1, 0))
          else run e t
        match r with
        | none => .next s
        | some (t, status, result) => .next (t.respondMail m (leNat ((e.drop 4).take 4)) status result)

/-- Bytes a to a + n − 1 of a command. -/
def cmdArg (e : List Byte) (a n : Nat) : Nat := leNat ((e.drop a).take n)

/-- A placement parameter as last set (R225): the value waiting for the next cycle, if one is. -/
def State.paramSet (s : State) (p : Nat) : Nat := ((s.mgmt.newParams.find? (fun e => e.1 == p)).map (·.2)).getD (s.param p)

/-- A value lies in a parameter's range (R225, R536). -/
def State.paramOk (s : State) (p v : Nat) : Bool :=
  match p with
  | 1 => 1 ≤ v && v ≤ 4194304
  | 2 => v ≤ 8
  | 3 => 1 ≤ v && v ≤ 65535
  | 4 => 1 ≤ v && v ≤ 50 && v ≤ s.paramSet 5
  | 5 => s.paramSet 4 ≤ v && v ≤ 60
  | 6 => v ≤ 7
  | 7 => 1 ≤ v && v ≤ 7
  | 8 => v ≤ 256 * 2 ^ 20
  | _ => false

/-- PARAM_SET (R536): the value takes effect at the next management cycle. -/
def execParamSet (s : State) : Answer :=
  s.mailRow 1 (fun e t =>
    let p := cmdArg e 8 2
    let v := cmdArg e 16 8
    if t.paramOk p v then
      some ({ t with mgmt := { t.mgmt with newParams := (p, v) :: t.mgmt.newParams.filter (fun x => x.1 != p) } }, 0, 0)
    else some (t, 2, 0))

/-- PARAM_GET (R535): the value in effect. -/
def execParamGet (s : State) : Answer :=
  s.mailRow 2 (fun e t => let p := cmdArg e 8 2; if 1 ≤ p ∧ p ≤ 8 then some (t, 0, t.param p) else some (t, 2, 0))

/-- STATUS of the mailbox for what a packet's lines met (R534, R537). -/
def mailStat (st : MemStat) : Nat := if st = .ok then 0 else if st = .tagMismatch then 5 else 6

/-- One packet of a bulk transfer of the node host (R319, R320, R333, R537): entry 1 is checked, then the range; then its lines are moved. The answer is a STATUS. -/
def State.hostPacket (s : State) (write : Bool) (core t tpa buf lines : Nat) (ans : List SnoopAnswer) : State × Nat :=
  if !s.flag (R.SHAL_PRIV_CTL 1) F.SHAL_PRIV_CTL_VALID || !s.privPermits 1 t then (s.privDenied, 4)
  else
    let src : FaultSrc := { endpoint := s.get (R.SHAL_PRIV_CTL 1) F.SHAL_PRIV_CTL_ENDPOINT, srcKind := 3, srcIndex := core }
    match checkRange (fun a => s.stage2 t a) s.unitBytes tpa (64 * lines) with
    | some (k, a, st) => ((s.takeFault src t 0 k write st 0 a).1, 3)
    | none =>
      if write then
        let got := (List.range lines).foldl (fun (acc : State × Nat × List Byte) i =>
          match acc.1.readBar2 (0x2000000 + buf + 64 * i) 1 with
          | (s, r) => (s, acc.2.1 + (if r.poison || r.stat != .ok then 2 ^ i else 0), acc.2.2 ++ padTo 64 r.data)) (s, 0, [])
        match got.1.bulkRun 9 t tpa lines (some got.2) ans with
        | (s, l) => (s, mailStat (linesStat (l.getD [])))
      else
        match s.bulkRun 9 t tpa lines none ans with
        | (s, l) =>
          let l := l.getD []
          let st := linesStat l
          if st ≠ .ok then (s, mailStat st)
          else (l.foldl (fun s x => (s.writeLine (bar2 (0x2000000 + buf + 64 * x.idx)) none 256 x.poison x.data).1) s, 0)

/-- The packets of a bulk transfer, at most 4 KiB each, in ascending order; the first to fail ends it (R537). `done` counts bytes performed. -/
def State.hostBulk (s : State) (write : Bool) (core t tpa buf done left : Nat) (ans : List SnoopAnswer) : Nat → State × Nat × Nat
  | 0 => (s, 0, done)
  | n + 1 =>
    if left = 0 then (s, 0, done)
    else
      let k := min 4096 left
      match s.hostPacket write core t (tpa + done) (buf + done) (k / 64) ans with
      | (s, 0) => State.hostBulk s write core t tpa buf (done + k) (left - k) ans n
      | (s, st) => (s, st, done)

/-- A bulk transfer with its arguments (R537). It waits while a basin or a unit that it reaches is being moved (R422, R451). -/
def State.mailBulk (write : Bool) (core : Nat) (ans : List SnoopAnswer) (e : List Byte) (s : State) : Option (State × Nat × Nat) :=
  let t := cmdArg e 8 1
  let tpa := cmdArg e 16 8
  let buf := cmdArg e 24 4
  let len := cmdArg e 28 4
  if tpa % 64 ≠ 0 ∨ buf % 64 ≠ 0 ∨ buf < 0x100000 ∨ len % 64 ≠ 0 ∨ len < 64 ∨ 2 ^ 20 < len ∨ !inMailbox buf len then some (s, 2, 0)
  else
    let moving : Bool := s.basins.any (fun b => b.2.moving && b.2.tenant == t && tpa < (b.2.tpa + b.2.size) * s.unitBytes && b.2.tpa * s.unitBytes < tpa + len)
    let unitMoves : Bool := [tpa, tpa + len - 1].any (fun a => match s.stage2 t a with | .ok f => s.onTheMove f | .error _ => false)
    if moving || unitMoves then none else some (s.hostBulk write core t tpa buf 0 len ans 257)

/-- BULK_WRITE (R537). -/
def execBulkWrite (core : Fin 4) (ans : List SnoopAnswer) (s : State) : Answer := s.mailRow 3 (State.mailBulk true core ans)

/-- BULK_READ (R537). -/
def execBulkRead (core : Fin 4) (ans : List SnoopAnswer) (s : State) : Answer := s.mailRow 4 (State.mailBulk false core ans)

/-- PING (R535). -/
def execPing (s : State) : Answer := s.mailRow 6 (fun _ t => some (t, 0, (t.reg R.WELL_MCYCLE).toNat))

/-! ### Firmware images (R474, R538, R583, R584) -/

/-- The parts of a firmware image. -/
structure FwImage where
  svn : Nat
  code : List Byte
  entry : Nat
  signed : List Byte
  block : List Byte
  deriving DecidableEq, Repr

/-- A firmware image's header and parts: none when the header is malformed. -/
def fwImage (b : List Byte) : Option FwImage :=
  let f (o n : Nat) : Nat := leNat ((b.drop o).take n)
  let len := f 12 4
  let sig := f 24 4
  if b.length < 64 ∨ f 0 4 ≠ 0x57464C57 ∨ f 4 2 ≠ 1 ∨ f 6 2 ≠ 0 ∨ 64 < f 8 4 ∨ len % 64 ≠ 0 ∨ 6 * 2 ^ 20 < len ∨ 8 * 2 ^ 20 ≤ f 16 8 ∨ f 28 36 ≠ 0
      ∨ b.length < 64 + len + sig then none
  else some { svn := f 8 4, code := (b.drop 64).take len, entry := f 16 8, signed := b.take (64 + len), block := (b.drop (64 + len)).take sig }

/-- Verify a firmware image: its parts when it is accepted; a refused one sets VERIFY_FAIL (R472 to R474, R584). -/
def State.verifyFw (s : State) (b : List Byte) : State × Option FwImage :=
  match fwImage b with
  | none => (s.setErr R.SEC_ERR F.SEC_ERR_VERIFY_FAIL, none)
  | some x =>
    match s.verifyImage none x.signed x.block with
    | (s, .good) =>
      if x.svn < s.get R.SEC_STATUS F.SEC_STATUS_SVN_FUSED then (s.setErr R.SEC_ERR F.SEC_ERR_VERIFY_FAIL, none) else (s, some x)
    | (s, _) => (s, none)

/-- Bytes of the external flash's firmware slot. -/
def Flash.slot (f : Flash) (n : Nat) : List Byte := if n = 0 then f.slot0 else f.slot1
def Flash.setSlot (f : Flash) (n : Nat) (b : List Byte) : Flash := if n = 0 then { f with slot0 := b } else { f with slot1 := b }

/-- FLASH_WRITE (R538, R583): verified, written and read back. A slot that reads back otherwise holds what the flash holds: free bytes. `hold` tells that a page
program is still being driven as the command ends (R497). -/
def State.flashWrite (readsBack hold : Bool) (e : List Byte) (s : State) : Option (State × Nat × Nat) :=
  let slot := cmdArg e 8 1
  let buf := cmdArg e 24 4
  let len := cmdArg e 28 4
  if 2 ≤ slot ∨ 32 * 2 ^ 20 < buf + len ∨ 8 * 2 ^ 20 < len then some (s, 2, 0)
  else
    match s.readBar2 (buf / 64 * 64) ((buf % 64 + len + 63) / 64) with
    | (s, r) =>
      let img := (r.data.drop (buf % 64)).take len
      match if r.poison || r.stat != .ok then (s.setErr R.SEC_ERR F.SEC_ERR_VERIFY_FAIL, none) else s.verifyFw img with
      | (s, none) => some (s, 7, 0)
      | (s, some _) =>
        let s : State := { s with rst := { s.rst with burning := s.rst.burning || hold } }
        if readsBack then
          let last := if s.flash.magicOk then s.flash.lastSlot else 0
          let fl : Flash := s.flash.setSlot slot img
          some ({ s with flash := { fl with preferred := slot, magicOk := true, lastSlot := last } }, 0, 0)
        else some ({ s.tick with flash := s.flash.setSlot slot (leBytes (Config.freeNat s.fresh) len) }, 8, 0)

def execFlashWrite (readsBack hold : Bool) (s : State) : Answer := s.mailRow 5 (State.flashWrite readsBack hold)

/-! ### Event records and reports (R539 to R544) -/

/-- EVT_HEAD_WRITE (R540, R558): a HEAD beyond TAIL has no effect; another frees the slots of the records read, and held records move in. -/
def execEvtHeadWrite (head : BitVec 16) (s : State) : Answer :=
  let d := (head.toNat + 65536 - s.get R.MGMT_EVT_PTR F.MGMT_EVT_PTR_HEAD) % 65536
  if s.mgmt.unread.length < d then .next s
  else
    let s := s.put R.MGMT_EVT_PTR F.MGMT_EVT_PTR_HEAD head.toNat
    let s : State := { s with mgmt := { s.mgmt with unread := s.mgmt.unread.drop d } }
    .next (s.drainHeld s.mgmt.held.length)

/-- Bytes 8 to 63 of an EVENT BODY (R541). -/
def EvMsg.bytes (m : EvMsg) : List Byte :=
  leBytes m.kind 1 ++ leBytes m.sev 1 ++ leBytes m.code 2 ++ leBytes m.count 4 ++ leBytes m.cycles 4 ++ padTo 44 m.data

/-- Write a log or storm summary to the log ring (R544). -/
def State.logRecord (s : State) (src mcycle : Nat) (m : EvMsg) : State :=
  let n := s.get R.MGMT_LOG F.MGMT_LOG_HEAD
  let s := if 65536 ≤ (n + 2 ^ 32 - s.get R.MGMT_LOG F.MGMT_LOG_READ) % 2 ^ 32 then s.bump R.MGMT_CNT_LOG_OVERWRITTEN else s
  let s := s.pokeBar2 (0x4100000 + 64 * (n % 65536)) (leBytes mcycle 8 ++ leBytes src 2 ++ m.bytes.take 54)
  s.put R.MGMT_LOG F.MGMT_LOG_HEAD (n + 1)

/-- Write a trace to the trace ring (R544). -/
def State.traceRecord (s : State) (src mcycle : Nat) (m : EvMsg) : State :=
  let n := s.mgmt.traceHead
  let s := s.pokeBar2 (0x4500000 + 32 * (n % 262144)) (leBytes mcycle 4 ++ leBytes src 2 ++ m.bytes.take 26)
  { s with mgmt := { s.mgmt with traceHead := n + 1 } }

/-- A report reaches the Wellhead. -/
def State.takeReport (s : State) (src : Nat) (m : EvMsg) : State :=
  let c := m.stamp.getD (s.reg R.WELL_MCYCLE).toNat
  if m.kind = 0 then (if m.code < 64 then s.accumulateAlarm m.code m.count else s)
  else if m.kind = 2 then s.traceRecord src c m
  else s.logRecord src c m

/-- Put a message into a queue of 8 (R542): alarms coalesce in the sticky counts; a log, or a storm summary, that finds it full is dropped and counted; a trace
that finds two queued likewise. The count of those lost goes with the next. -/
def State.queueReport (s : State) (at' src : Nat) (m : EvMsg) : State :=
  let u := s.evUnit at'
  if m.kind = 0 then
    let u : EvUnit := { u with alarms := Tbl.upd (fun _ => 0) u.alarms m.code (fun n => satAdd n m.count 0xFFFFFFFF) }
    s.setEvUnit at' (u.pumpAlarms at')
  else if m.kind = 2 then
    if 2 ≤ u.queue.length then (s.setEvUnit at' { u with traceDrops := u.traceDrops + 1 + m.count }).bump R.MGMT_CNT_TRACE_DROPPED
    else s.setEvUnit at' { u with queue := u.queue ++ [(src, { m with count := m.count + u.traceDrops })], traceDrops := 0 }
  else if 8 ≤ u.queue.length then
    (s.setEvUnit at' { u with logDrops := u.logDrops + 1 + (if m.kind = 1 then m.count else 0) }).bump R.MGMT_CNT_LOG_DROPPED
  else if m.kind = 1 then s.setEvUnit at' { u with queue := u.queue ++ [(src, { m with count := m.count + u.logDrops })], logDrops := 0 }
  else s.setEvUnit at' { u with queue := u.queue ++ [(src, m)] }

/-- The quadrant of a hierarchy address, and whether the address is a Steward's (R137). -/
def quadOfAddr (a : Nat) : Nat := a / 1024 % 4
def isSteward (a : Nat) : Bool := a / 4096 == 1 && a % 1024 == 0
/-- A Steward or an agent has a reporting path. -/
def reports (a : Nat) : Bool := isSteward a || (2 ≤ a / 4096 && a / 4096 ≤ 5)

/-- Count a log or trace of a code in this cycle; true while it may be sent (R543). -/
def State.stormPass (s : State) (a code : Nat) : State × Bool :=
  let u := s.evUnit a
  let n := ((u.storm.find? (fun e => e.1 == code)).map (·.2)).getD 0
  let s := s.setEvUnit a { u with storm := (code, n + 1) :: u.storm.filter (fun e => e.1 != code) }
  if n < s.get R.MGMT_STORM F.MGMT_STORM_LIMIT then (s, true) else (s.bump R.MGMT_CNT_STORM_SUPPRESSED, false)

/-- EVENT (R541 to R544): a unit makes a report; or, with none, the oldest message of a unit's queue goes its next hop, to its Steward, from a Steward or while
the Steward is lost to the Wellhead, where it raises interrupt 3 (R135; log entry 121). -/
def execEvent (source : BitVec 16) (report : Option Report) (s : State) : Answer :=
  let a := source.toNat
  let q := quadOfAddr a
  if !reports a then .next s
  else
    match report with
    | some r =>
      let m : EvMsg := { kind := r.kind, sev := r.sev, code := r.code.toNat, count := if r.kind.val = 0 then 1 else 0, cycles := r.cycles.toNat, data := r.data }
      if r.kind.val = 0 then (if r.code.toNat < 64 then .next (s.queueReport a a m) else .next s)
      else if r.kind.val = 2 ∧ !bitOf (s.get R.MGMT_TRACE F.MGMT_TRACE_MASK) r.trace then .next s
      else match s.stormPass a r.code.toNat with
        | (s, false) => .next s
        | (s, true) => .next (s.queueReport a a m)
    | none =>
      let u := s.evUnit a
      match u.queue with
      | [] => .next s
      | (src, m) :: rest =>
        let s := s.setEvUnit a ({ u with queue := rest }.pumpAlarms a)
        if isSteward a || !s.stewardUp q then
          .next (State.raiseWell (s.takeReport src { m with stamp := m.stamp.or (if isSteward a then some (s.core (4 + q)).mcycle else none) }) 3)
        else .next ((s.queueReport (coreAddr (4 + q)) src m).raiseIrq (stewardCore q) 3)

/-- At the end of a cycle each unit sends one summary for each code it suppressed (R543), and alarms that wait for room are queued. -/
def State.endStorms (s : State) : State :=
  let lim := s.get R.MGMT_STORM F.MGMT_STORM_LIMIT
  (Tbl.keys s.mgmt.units).foldl (fun s a =>
    let u := s.evUnit a
    let s := s.setEvUnit a ({ u with storm := [] }.pumpAlarms a)
    (u.storm.filter (fun e => lim < e.2)).foldl (fun s e =>
      s.queueReport a a { kind := 3, sev := 1, code := e.1, count := e.2 - lim, cycles := 0, data := [] }) s) s

/-! ### The rack management ring (R550 to R552) -/

def frameAt (f : List Byte) (i : Nat) : Nat := (f.getD i 0).toNat
/-- A whole frame with a good CRC. -/
def frameOk (f : List Byte) : Bool := f.length == 64 && leNat ((f.drop 60).take 4) == crc32 (f.take 60)
def State.station (s : State) : Nat := s.get R.MGMT_RING_CFG F.MGMT_RING_CFG_STATION

/-- A station takes a frame whose DEST is its own or 0xFF (R550); it sees none while the bypass is closed (R552). -/
def State.takes (s : State) (f : List Byte) : Bool := s.bypassOpen && frameOk f && (frameAt f 0 == s.station || frameAt f 0 == 0xFF)

/-- PARTNER_SEEN shows the rings on which a partner heartbeat has arrived within RING_MISS cycles (R558). -/
def State.showSeen (s : State) : State :=
  s.put R.MGMT_RING_STATUS F.MGMT_RING_STATUS_PARTNER_SEEN ((if s.seenOn s.mgmt.hb0 then 1 else 0) + (if s.seenOn s.mgmt.hb1 then 2 else 0))

/-- HEARTBEAT_FRAME (R441, R444, R551): one from the partner's station keeps the ring path, unless the partner has said goodbye in this formation (R443); its STATE
byte tells whether the partner is EXPOSED. -/
def execHeartbeatFrame (ring : Fin 2) (frame : List Byte) (s : State) : Answer :=
  if !s.takes frame ∨ frameAt frame 2 ≠ 1 then .next s
  else
    let s := s.bump R.MGMT_CNT_RING_RX
    if frameAt frame 1 ≠ s.get R.MGMT_RING_CFG F.MGMT_RING_CFG_PARTNER then .next s
    else
      let g : Mgmt := if ring = 0 then { s.mgmt with hb0 := some 0 } else { s.mgmt with hb1 := some 0 }
      let s := State.showSeen { s with mgmt := g }
      let st := frameAt frame 12
      let s : State := if st = 2 ∨ st = 3 then { s with pair := { s.pair with partnerExposed := st == 3 } } else s
      .next (if s.pair.goodbye then s else s.setRingOk true)

/-- RESET_FRAME (R494, R551): addressed here, with the code set here and not 0, it raises source 10, at L2 when it asks for that and the map gives L1. Any other
that is taken is refused. -/
def execResetFrame (_ring : Fin 2) (frame : List Byte) (s : State) : Answer :=
  if !s.takes frame ∨ frameAt frame 2 ≠ 3 then .next s
  else
    let s := s.bump R.MGMT_CNT_RING_RX
    let code := s.get R.MGMT_RING_CFG F.MGMT_RING_CFG_RSTCODE
    if frameAt frame 0 = s.station ∧ leNat ((frame.drop 4).take 2) = code ∧ code ≠ 0 then
      let l := s.levelFor 10
      .next (s.raiseAt 10 (if frameAt frame 6 = 2 ∧ l = some 1 then some 2 else l))
    else .next (s.setErr R.MGMT_ERR F.MGMT_ERR_RING_RESET_REFUSED)

/-- RING_FRAME_FORWARD (R550): a frame with a bad CRC is removed and counted; a station's own, one addressed to it alone, and one whose HOPS reaches 0 go no
further; every other is sent on, HOPS lowered and the CRC made again. A frame of unknown type that is addressed here is taken. -/
def execRingFrameForward (ring : Fin 2) (frame : List Byte) (s : State) : Answer :=
  if !s.bypassOpen then .next s
  else if !frameOk frame then .next (s.bump R.MGMT_CNT_RING_CRC)
  else
    let s := if s.takes frame ∧ !([1, 2, 3].contains (frameAt frame 2)) then s.bump R.MGMT_CNT_RING_RX else s
    let hops := frameAt frame 3
    if frameAt frame 1 = s.station ∨ frameAt frame 0 = s.station ∨ hops ≤ 1 then .next s
    else
      let b := frame.take 3 ++ leBytes (hops - 1) 1 ++ (frame.drop 4).take 56
      .next (s.send (.ring ring (b ++ leBytes (crc32 b) 4)))

/-- A ring's receiver is in sync, or not (R558). -/
def State.setSync (s : State) (ring : Fin 2) (on : Bool) : State :=
  s.put R.MGMT_RING_STATUS F.MGMT_RING_STATUS_SYNC (setBits (s.get R.MGMT_RING_STATUS F.MGMT_RING_STATUS_SYNC) ring 1 (if on then 1 else 0))

def State.inSync (s : State) (ring : Nat) : Bool := bitOf (s.get R.MGMT_RING_STATUS F.MGMT_RING_STATUS_SYNC) ring

/-- The count of cycles out of sync restarts. -/
def State.restartOut (s : State) (ring : Fin 2) : State :=
  if ring = 0 then { s with mgmt := { s.mgmt with out0 := 0 } } else { s with mgmt := { s.mgmt with out1 := 0 } }

/-- RING_SYNC_LOST (R558). -/
def execRingSyncLost (ring : Fin 2) (s : State) : Answer :=
  if s.inSync ring then .next (((s.setSync ring false).restartOut ring).setErr R.MGMT_ERR F.MGMT_ERR_RING_SYNC_LOST) else .next s

/-- RING_SYNC_ACQUIRED (R558). -/
def execRingSyncAcquired (ring : Fin 2) (s : State) : Answer := .next ((s.setSync ring true).restartOut ring)

/-! ### Fatal errors and the dump (R553 to R555) -/

/-- The lowest Wellhead core that still runs (R553). -/
def State.dumpCore (s : State) : Option Nat :=
  (List.range 4).find? (fun i => let st := (s.core i).st; st == .running || st == .mwait || st == .wfi)

/-- A cause's condition holds (R553): a stopped Wellhead core; a lost triplicated word; SHAL_ERR.AGE. Causes 2 and 5 are the command itself. -/
def State.fatalCause (s : State) (c : Nat) : Bool :=
  match c with
  | 1 => (List.range 4).any (fun i => (s.core i).st == .stopped)
  | 2 => true
  | 3 => s.get (R.MGMT_ALARMCNT 6) F.MGMT_ALARMCNT_COUNT != 0
  | 4 => s.flag R.SHAL_ERR F.SHAL_ERR_AGE
  | 5 => true
  | _ => false

/-- Sections of the dump (R554): TYPE, BAR2 offset, bytes. Sections 1 to 5 follow one another from 0x0500_0000. -/
def dumpSections (queue : Nat) : List (Nat × Nat × Nat) :=
  [(1, 0x5000000, 0x2000000), (2, 0x7000000, 0x800000), (3, 0x7800000, 0x200000), (4, 0x7A00000, 0x1F80000), (5, 0x9980000, queue),
   (6, 0x4100000, 0x400000), (7, 0x4500000, 0x800000)]

/-- The dump's header (R554): `cut` gives the bytes written of a section that was cut short. -/
def State.dumpHeader (s : State) (flags : Nat) (queue : Nat) (cut : List (Nat × Nat)) : State :=
  match s.mgmt.fatal with
  | none => s
  | some f =>
    let entry (e : Nat × Nat × Nat) : List Byte :=
      match cut.find? (fun c => c.1 == e.1) with
      | some c => leBytes e.1 4 ++ leBytes 1 4 ++ leBytes e.2.1 8 ++ leBytes (min c.2 e.2.2) 8 ++ leBytes 0 8
      | none => leBytes e.1 4 ++ leBytes 0 4 ++ leBytes e.2.1 8 ++ leBytes e.2.2 8 ++ leBytes 0 8
    s.writeBar2 0x4000000 (leBytes 0x504D4457 4 ++ leBytes 1 2 ++ leBytes 0 2 ++ leBytes flags 1 ++ leBytes 0 3 ++ leBytes f.cause 4
      ++ leBytes f.mcycle 8 ++ leBytes f.info 8 ++ leBytes f.resets 8 ++ leBytes (coreAddr f.core) 2 ++ leBytes 0 6
      ++ leBytes 7 2 ++ leBytes 0 14 ++ (dumpSections queue).flatMap entry)

/-- Every Inlet is closed (R555). -/
def State.closeInlets (s : State) : State :=
  { s with jobs := { s.jobs with inlets := s.jobs.inlets.map (fun (e : Nat × Inlet) => (e.1, { e.2 with enable := false })) } }

/-- FATAL_ERROR (R553, R555): the goodbye notice goes out, steps 1 and 2 of R498 are taken, and the dump is begun. Without a core that runs nothing follows but
the watchdog. `info` is INFO for causes 2, 3 and 5. -/
def execFatalError (cause : BitVec 8) (info : Word) (s : State) : Answer :=
  let c := cause.toNat
  match s.dumpCore with
  | none => .next s
  | some core =>
    if s.isFatal ∨ !s.fatalCause c ∨ !s.wellRuns then .next s
    else
      let dead := (List.range 4).find? (fun i => (s.core i).st == .stopped)
      let i := if c = 1 then dead.elim 0 (fun k => (s.core k).eval) else info.toNat
      let before := s
      let s := if c = 2 then s.setErr R.WELL_ERR F.WELL_ERR_SRAM_UE else s
      let s := (s.putFlag R.GLOB_STATUS F.GLOB_STATUS_FATAL true).put R.GLOB_STATUS F.GLOB_STATUS_FATAL_CAUSE c
      let s := (State.interruptIf before s 2).setPhase 5
      let s := s.sendGoodbye 1 c i
      let f : Fatal := { cause := c, info := i, core := core, mcycle := (s.reg R.WELL_MCYCLE).toNat, resets := (s.reg R.RST_CAUSE).toNat }
      let s := ((List.range 8).foldl (fun s p => s.restartPort p) s).closeInlets
      let s := (s.ackMirror).answerHomes
      let s := (List.range 396).foldl (fun s u => s.endTests u) s
      let s : State := { s with mgmt := { s.mgmt with fatal := some f } }
      .next (s.dumpHeader 0 0 [])

/-- Bytes of the BAR0 image, read as the node host would read it (R554). -/
def State.bar0Image (s : State) : List Byte := (List.range 0x400000).flatMap (fun i => leBytes (s.view (8 * i)) 8)

/-- Contents of the sections of the dump's body (R554): what the manual does not lay out, the trace buffers and the queue state, is free. -/
def State.dumpBody (s : State) (queue : Nat) (t : Nat) : List Byte :=
  match t with
  | 1 => s.bar0Image
  | 2 => tblBytes s.wsram 0 0x800000
  | 3 => (List.range 4).flatMap (fun q => tblBytes (s.core (4 + q)).sram 0 0x80000)
  | 4 => leBytes (Config.freeNat s.fresh) 0x1F80000
  | 5 => leBytes (Config.freeNat (s.fresh + 1)) queue
  | _ => []

/-- DUMP_DONE (R554, R555): the sections are written, `queue` bytes of queue state among them, and those of `cut` only up to the length given; VALID is set,
DUMP_VALID too, and vector 2 is sent. -/
def execDumpDone (queue : BitVec 26) (cut : List (Fin 8 × BitVec 26)) (s : State) : Answer :=
  if s.mgmt.fatal.isNone ∨ s.flag R.GLOB_STATUS F.GLOB_STATUS_DUMP_VALID ∨ s.dumpCore.isNone then .next s
  else
    let n := min queue.toNat 0x2000000
    let cut : List (Nat × Nat) := cut.map (fun e => (e.1.val, e.2.toNat))
    let lenOf (t len : Nat) : Nat := ((cut.find? (fun c => c.1 == t)).map (fun c => min c.2 len)).getD len
    let whole := s
    let s := ((dumpSections n).take 5).foldl (fun s e => s.pokeBar2 e.2.1 ((whole.dumpBody n e.1).take (lenOf e.1 e.2.2))) s
    let s := (s.ticks 2).dumpHeader (if cut = [] then 1 else 3) n cut
    .next ((s.putFlag R.GLOB_STATUS F.GLOB_STATUS_DUMP_VALID true).interrupt 2)

/-! ### The management cycle (R21, R25, R26) -/

/-- STEWARD_LOST (R21): three heartbeats missed in a row: the alarm, and the Steward starts again from its verified image; what it schedules stops until it
answers. -/
def execStewardLost (steward : Fin 4) (s : State) : Answer :=
  let q := steward.val
  if Tbl.get (fun _ => 0) s.mgmt.misses q < 3 ∨ !s.stewardUp q then .next s
  else
    let lost := s.get R.WELL_CORESTAT F.WELL_CORESTAT_STEWARD_LOST
    let s := (s.put R.WELL_CORESTAT F.WELL_CORESTAT_STEWARD_LOST (setBits lost q 1 1)).setErr R.WELL_ERR F.WELL_ERR_STEWARD_LOST
    .next ((s.raiseAlarm .stewardLost).restartSteward q)

/-- One Steward's heartbeat (R21): answered, its misses end and it counts as returned; a Steward that is held exchanges none. -/
def State.heartbeat (s : State) (q : Nat) (answered : Bool) : State :=
  let c := s.core (4 + q)
  if c.st = .held then s
  else if answered && c.st != .stopped then
    let lost := s.get R.WELL_CORESTAT F.WELL_CORESTAT_STEWARD_LOST
    let s := (s.put R.WELL_CORESTAT F.WELL_CORESTAT_STEWARD_LOST (setBits lost q 1 0)).setCore (4 + q) { c with mcycle := (s.reg R.WELL_MCYCLE).toNat }
    { s with mgmt := { s.mgmt with misses := Tbl.set (fun _ => 0) s.mgmt.misses q 0 } }
  else { s with mgmt := { s.mgmt with misses := Tbl.upd (fun _ => 0) s.mgmt.misses q (· + 1) } }

/-- What counts in management cycles (R61, R64, R71, R74, R223, R225, R441, R551): idle sequences, times to live, retention, regions without a live version,
heat decay, the partner's copies and heartbeats. -/
def State.countCycle (s : State) : State :=
  let named (slot : Nat) : Bool := s.jobs.jobs.any (fun j => j.handle == some (s.handleOf slot))
  let seqs := s.kv.seqs.map (fun (e : Nat × Option Seq) => (e.1, e.2.map (fun (q : Seq) => if named e.1 then q else { q with idle := q.idle + 1 })))
  let age (v : Version) : Version := { v with left := v.left.map (· - 1), kept := if 1 < v.kept then v.kept - 1 else v.kept }
  let regions := s.kv.regions.map (fun (r : Region) => { r with versions := r.versions.map age, idle := if r.live = [] then r.idle + 1 else 0 })
  let params := s.mgmt.newParams.foldl (fun t e => Tbl.set paramDefault t e.1 e.2) s.mgmt.params
  let g : Mgmt := { s.mgmt with decay := s.mgmt.decay + 1, params := params, newParams := [], hb0 := s.mgmt.hb0.map (· + 1), hb1 := s.mgmt.hb1.map (· + 1) }
  { s with kv := { s.kv with seqs := seqs, regions := regions }, mgmt := g, pair := { s.pair with sinceCopy := s.pair.sinceCopy + 1 },
           ras := { s.ras with rebuildBytes := 0 } }

/-- 64 KiB units of Mirrored basins of which a client or an internal agent may hold a copy. -/
def State.heldChunks (s : State) : List (Nat × Nat) :=
  let lines := (s.home.entries.filter (fun e => e.2.st != .i)).map (fun e => 64 * e.1) ++ s.home.txns.map (·.req.pa)
    ++ (s.pool.side.filter (fun e => e.2.summary != 0)).map (fun e => 64 * e.1)
  lines.filterMap (fun la => (s.basinAt la).map (fun b => (b.1, s.chunkOf b.1 la)))

/-- A cached-map bit clears when no copy has been found in its unit for a whole cycle (R367). -/
def State.clearCached (s : State) : State :=
  let held := s.heldChunks
  let h := s.home
  let free := h.cached.filter (fun k => !held.contains k)
  let gone := free.filter h.quiet.contains
  { s with home := { h with cached := h.cached.filter (fun k => !gone.contains k), quiet := free.filter (fun k => !gone.contains k) } }

/-- The copy to the partner (R26, R439, R440); `inFlight` tells that the last one still is. -/
def State.cycleCopy (s : State) (inFlight : Bool) : State :=
  if !s.paired || !s.linkActive 8 then s
  else
    let s := s.sendCopy { n := (s.reg R.WELL_MCYCLE).toNat, rest := s.ownCopy }
    if inFlight then (s.bump R.PAIR_CNT_COPY_OVERRUNS).setErr R.PAIR_ERR F.PAIR_ERR_COPY_OVERRUN else s

/-- A ring that has been out of sync for 1 ms, a whole cycle at least, raises RING_LOST (R545). -/
def State.countOut (s : State) : State :=
  let step (ring n : Nat) : Nat := if s.inSync ring || !s.bypassOpen then 0 else n + 1
  let a := step 0 s.mgmt.out0
  let b := step 1 s.mgmt.out1
  let s : State := { s with mgmt := { s.mgmt with out0 := a, out1 := b } }
  let s := if a = 2 then s.raiseAlarm .ringLost else s
  if b = 2 then s.raiseAlarm .ringLost else s

/-- The watchdog's count after `ms` milliseconds (R503); a core that has dumped kicks it each cycle (R555). -/
def State.runWatchdog (s : State) (ms : Nat) : State :=
  if !s.rst.wdog || !s.flag R.RST_WDOG F.RST_WDOG_ENABLE then s
  else if s.mgmt.fatal.isSome && s.dumpCore.isSome then s.put R.RST_WDOG F.RST_WDOG_REMAIN_MS (s.get R.RST_WDOG F.RST_WDOG_TIMEOUT_MS)
  else s.put R.RST_WDOG F.RST_WDOG_REMAIN_MS (s.get R.RST_WDOG F.RST_WDOG_REMAIN_MS - ms)

/-- The recall that firmware runs over the homes after a forced L2 reset (R499): it goes to every line, by broadcast; a line whose entry was not lost has no copy to
return. STRICT_TEST clears at its end. Log entry 129. -/
def State.forcedRecall (s : State) (ans : List SnoopAnswer) : State :=
  match s.home.forced with
  | none => s
  | some l =>
    if s.rst.l2 ≠ 0 then s
    else
      let s := l.foldl (fun s pa =>
        if (s.dirEntry pa).st != .i || (s.busyTxn pa).isSome then s
        else match s.basinAt pa with
          | some (id, b) => (s.sweepLine id b.tenant pa none ans).1
          | none => s) s
      ({ s with home := { s.home with forced := none } } : State).putFlag R.DIR_CTRL F.DIR_CTRL_STRICT_TEST false

/-- What firmware does each cycle (R21, R26, R224, R422, R439, R451, R499, R503, R551). -/
def State.firmwareCycle (s : State) (copyInFlight : Bool) (stewards : BitVec 4) (ans : List SnoopAnswer) : State :=
  let s := (List.range 4).foldl (fun s q => s.heartbeat q (stewards.getLsbD q)) (s.kick.forcedRecall ans).countCycle
  let s := (List.range 4).foldl (fun s q => if s.stewardUp q && s.pwr.background then s.stewardMoves q else s) s
  let s := (((s.evacPass ans).pumpSwitch ans).pumpAdmit.clearCached).cycleCopy copyInFlight
  let s := (s.showSeen.countOut).endStorms
  if s.mgmt.served then s.sendHeartbeat else s

end Sys2Proof.Machine
end

