-- ==== Sys2Proof/Machine/Boot.lean ====
section
/-!
DEFINITION. From power-on to service (R142, R580 to R593): the boot ROM, the firmware image, what the Wellhead brings up phase by phase, recovery, and the
writes that enter service.
-/
namespace Sys2Proof.Machine

/-! ### The boot ROM (R142, R580 steps 1 to 3) -/

/-- An island of the Wellhead or security block has a stable clock (R505, R509). -/
def State.clockOk (s : State) (i : Nat) : Bool :=
  if s.clkSourceOf i = 4 then s.srcReady 4 else s.srcReady 0 && s.pllStable i

/-- BOOT_ROM_START (R142, R467, R479, R580, R582): nothing holds the controller in reset, the fuses are loaded, and the Wellhead and security-block PLLs are
stable: the reset ends, the bypass opens, core 0 starts, a KEK is drawn unless DEBUG_LATCH stands, and the PCI Express interface answers. -/
def execBootRomStart (s : State) : Answer :=
  if s.rst.booted || !s.rst.fused || s.heldInReset || !s.clockOk wellIsland || !s.clockOk secIsland then .next s
  else
    let before := s
    let rst : Rst := { s.rst with active := none, booted := true, pcie := !s.rst.perstIn }
    let s := (List.range 31).foldl (fun s i => s.setLand i 4) ({ s with rst := rst }.setCore 0 (coreReset 0))
    let s := s.setMeas R.SEC_ROM_MEAS (padTo 32 (Config.romMeas s.shadow.stepping))
    let s := if s.secFlag F.SEC_STATUS_DEBUG_LATCH then s
      else State.putFlag ({ s with sec := { s.sec with kek := s.fresh + 1 } }.tick) R.SEC_STATUS F.SEC_STATUS_KEK_VALID true
    .next (State.driveOxbow before s)

/-! ### The firmware image (R580 steps 4 to 7, R584, R585) -/

/-- The slot the boot ROM tries first (R583, R584). -/
def State.firstSlot (s : State) : Nat :=
  let f := s.flash
  if s.get R.RST_LAST F.RST_LAST_SOURCE = 3 then 1 - (if f.magicOk then f.lastSlot else 0) else if f.magicOk then f.preferred else 0

/-- Repairs of the list reapplied to a channel's remap table (R405). -/
def State.applyRepairs (s : State) : State :=
  s.ras.repairs.foldl (fun s r =>
    match r.spare with
    | none => s
    | some row => s.updChan r.unit (fun (c : Chan) => { c with remap := (r.pc, r.bank, r.row, row) :: c.remap })) s

/-- Control passes to an image (R479, R503, R580 steps 5 to 7): it is measured and loaded, the watchdog starts, PHASE is TRAINING, the other cores are released, each Steward's
SRAM holding its program image, every Spillway channel with DIMMs and every Pond is given TRAIN, and every Tarn runs its self-tests. -/
def State.runFw (s : State) (slot : Nat) (x : FwImage) (hold : Bool) : State :=
  let fl : Flash := s.flash
  let pref := if fl.magicOk then fl.preferred else 0
  let s : State := { s with flash := { fl with lastSlot := slot, preferred := pref, magicOk := true }, wsram := tblStore s.wsram 0 x.code,
                            rst := { s.rst with wdog := true, burning := s.rst.burning || hold } }
  let s := (s.setMeas R.SEC_FW_MEAS (padTo 32 (Config.shake256 x.signed 32))).put R.SEC_SVN F.SEC_SVN_RUN_SVN x.svn
  let s := s.put R.RST_WDOG F.RST_WDOG_REMAIN_MS (s.get R.RST_WDOG F.RST_WDOG_TIMEOUT_MS)
  let s := (s.setCore 0 { s.core 0 with pc := x.entry }).setPhase 1
  let s := (s.put R.WELL_CORECTL F.WELL_CORECTL_RELEASE 15).put R.WELL_CORECTL F.WELL_CORECTL_STEWARD_RELEASE 15
  let s : State := { s with mgmt := { s.mgmt with fwCode := x.code } }
  let s := [0, 1, 2, 3].foldl (fun s q => s.setCore (4 + q) { s.core (4 + q) with sram := tblStore [] 0 (Config.stewardImage x.code q) }) s
  let s := ([1, 2, 3, 4, 5, 6, 7].foldl (fun s i => s.releaseCore i) s).applyRepairs
  let s := (List.range 12).foldl (fun s j => if Config.dimms j = [] then s else s.trainSpill j (Config.dimms j)) s
  let s := (List.range 384).foldl (fun s u =>
    if s.chEnabled u || s.chFaulted u then s else s.putFlag (R.POND_CTRL u) F.POND_CTRL_TRAIN true) s
  (List.range 100).foldl (fun s t => s.updTarn t (fun (t : Tarn) => { t with testing := true })) s

/-- Recovery (R585): the Ponds of stack 2 are trained and enabled, and the rows of its system area filled under key slot 256, with a pattern the manual does not
state. -/
def State.enterRecovery (s : State) : State :=
  let s : State := { s with rst := { s.rst with recovery := true } }
  let p := Config.freeNat s.fresh % 2 ^ 64
  ((List.range 32).map (· + 64)).foldl (fun s u =>
    if s.chFaulted u then s
    else
      let s := (s.putFlag (R.POND_CTRL u) F.POND_CTRL_ENABLE true).updChan u (fun (c : Chan) => { c with trained := true })
      if !s.slotFull 256 then s
      else { s with pool := s.pool.fill { range := .rows u 61184 256 3, pattern := p, kslot := 256, kgen := s.slotGen 256, tag := 0 } }) s.tick

/-- FIRMWARE_LOAD_DONE (R580, R584, R585): the image in the slot tried first is read and verified; a refused one gives way to the other, and two refused to
recovery. `hold` tells that the page program of LAST_SLOT is still being driven (R497). -/
def execFirmwareLoadDone (hold : Bool) (s : State) : Answer :=
  if !s.wellRuns || s.rst.recovery || s.phase != 0 || (s.core 0).st != .running then .next s
  else
    let n := s.firstSlot
    match s.verifyFw (s.flash.slot n) with
    | (s, some x) => .next (s.runFw n x hold)
    | (s, none) =>
      match s.verifyFw (s.flash.slot (1 - n)) with
      | (s, some x) => .next (s.runFw (1 - n) x hold)
      | (s, none) => .next s.enterRecovery

/-! ### The phases (R580 steps 7 to 13, R586 to R588, R592) -/

/-- The fill of bring-up, commanded by core 0: a channel that serves nothing, or an EMPTY slot 256, is answered STATUS 1 (R211). -/
def State.bootFill (s : State) (u : Nat) (range : FillRange) (count lines : Nat) : State :=
  if s.chRuns u && s.slotFull 256 then
    s.startFill u { sender := coreAddr 0, tag := 0, count := count, lines := lines,
                    fill := { range := range, pattern := 0, kslot := 256, kgen := s.slotGen 256, tag := 0 } }
  else s.fillReply u (coreAddr 0) 0 1 0

/-- Steps 7 to 9: training and self-tests are over. -/
def State.toFill (s : State) : State :=
  let busy : Bool := (List.range 384).any (fun u => s.flag (R.POND_CTRL u) F.POND_CTRL_TRAIN) || (List.range 100).any (fun t => (s.tarn t).testing)
  if busy then s
  else
    let s := (List.range 384).foldl (fun s u => if s.chFaulted u then s else s.putFlag (R.POND_CTRL u) F.POND_CTRL_ENABLE true) s
    let s := (List.range 384).foldl (fun s u => if s.chFaulted u then s else s.bootFill u (.rows u 0 61440 3) 61440 (61440 * 256 * 2)) (s.setPhase 2)
    (List.range 100).foldl (fun s t => s.reloadTarn t) s

/-- Step 11: MODE from the capacity of the channels trained, its lock, ENABLE and the fill of each such channel. -/
def State.toSpill (s : State) : State :=
  let mask := s.get R.GLOB_CAP F.GLOB_CAP_SPILL_MASK
  let good := (List.range 12).filter (fun j => bitOf mask j && !s.chFaulted (384 + j))
  let cap := good.foldl (fun n j => n + s.get (R.SPILL_STATUS j) F.SPILL_STATUS_CAP_GIB) 0
  let full : Bool := 1024 < cap
  let s := ((s.putFlag R.XLAT_CFG F.XLAT_CFG_MODE full).putFlag R.GLOB_CAP F.GLOB_CAP_FULL_CONFIG full).putFlag R.XLAT_CFG F.XLAT_CFG_LOCK true
  good.foldl (fun s j =>
    let s := s.putFlag (R.SPILL_CTRL j) F.SPILL_CTRL_ENABLE true
    let n := s.spillBytes j / 65536
    s.bootFill (384 + j) (.chunks j 0 n) n (n * 1024)) s

/-- What the first write of 1 to MBX_EN after an L1 reset makes the Wellhead do (R592). What CONFIG_MEAS is extended with is not in the manual: its new value and
the count of extensions are free, and the last record. Log entry 128. -/
def State.enterService (s : State) : State :=
  let lock (s : State) (b : Blk) (n : Nat) : State := (lockOf b n).elim s (fun l => s.putFlag l.1 l.2 true)
  let s := (List.range 384).foldl (fun s n => lock s .pond n) s
  let s := (List.range 12).foldl (fun s n => lock s .spill n) s
  let s := (List.range 9).foldl (fun s n => lock s .mere n) s
  let s := [Blk.pair, .shal, .dir, .qos, .ras, .sec, .rst, .clk, .pwr, .mgmt].foldl (fun s b => lock s b 0) s
  let s := s.setMeas R.SEC_CONFIG_MEAS (leBytes (Config.freeNat s.fresh) 32)
  let s := s.setMeas R.SEC_MEXT_DATA (leBytes (Config.freeNat (s.fresh + 2)) 32)
  let s := (s.put R.SEC_MEXT_CMD F.SEC_MEXT_CMD_EXTENDS (Config.freeNat (s.fresh + 1))).ticks 3
  let s := s.putFlag R.DIR_CTRL F.DIR_CTRL_STRICT_BOOT false
  State.setPhase { s with mgmt := { s.mgmt with served := true } } 4

/-- Step 13: patrol scrub starts, PHASE is CONFIG, and ports whose ENABLE was stored train (R588). -/
def State.toConfig (s : State) : State :=
  let s := (s.putFlag R.RAS_CTRL F.RAS_CTRL_SCRUB_EN true).setPhase 3
  let s := (List.range 9).foldl (fun s n => if s.inL3 (unitKey 2 n) then s else s.releaseLink n) s
  if s.flag R.MGMT_CTRL F.MGMT_CTRL_MBX_EN then s.enterService else s

/-- What the Wellhead does next in the automatic half, once what it waits for is done. -/
def State.bringUp (s : State) : State :=
  let filling (l : List Nat) : Bool := l.any (fun u => (s.chan u).fill.isSome)
  if s.phase = 1 then s.toFill
  else if s.phase ≠ 2 then s
  else if !s.flag R.XLAT_CFG F.XLAT_CFG_LOCK then
    let waits : Bool := filling (List.range 384) || (List.range 12).any (fun j => s.flag (R.SPILL_CTRL j) F.SPILL_CTRL_TRAIN)
    if waits then s else s.toSpill
  else
    let waits : Bool := filling ((List.range 12).map (· + 384)) || (List.range 100).any (fun t => (s.tarn t).loading != [] && !s.tarnFaulted t)
    if waits then s else s.toConfig

/-! ### The rows -/

/-- MANAGEMENT_CYCLE (R21, R25, R26, R503): the cycle count, the watchdog after `ms` milliseconds of its own clock, an overrun, what firmware does each cycle,
and the next steps of bring-up. The boot ROM, and a core that has dumped, do nothing more (R555, R585). `stewards` tells which Stewards answered. -/
def execManagementCycle (ms : BitVec 16) (overrun copyInFlight : Bool) (stewards : BitVec 4) (ans : List SnoopAnswer) (s : State) : Answer :=
  if !s.wellRuns then .next s
  else
    let s := (s.bump R.WELL_MCYCLE).runWatchdog ms.toNat
    if s.phase = 0 ∨ s.isFatal then .next s
    else
      let s := if overrun then (s.bumpSat R.WELL_OVERRUN F.WELL_OVERRUN_COUNT).raiseAlarm .cycleOverrun else s
      .next (s.firmwareCycle copyInFlight stewards ans).bringUp

/-- MBX_EN (R530, R592): a write of MGMT_CTRL.MBX_EN; held event records move in; the first write of 1 after an L1 reset enters service, once PHASE is CONFIG. -/
def execMbxEn (value : Bool) (s : State) : Answer :=
  let s := s.putFlag R.MGMT_CTRL F.MGMT_CTRL_MBX_EN value
  if !value then .next s
  else
    let s := if s.phase = 3 ∧ !s.isFatal then s.enterService else s
    .next (s.drainHeld s.mgmt.held.length)

/-- JOB_ENABLE (R187, R593): stored, and in effect while PHASE is SERVICE. -/
def execJobEnable (value : Bool) (s : State) : Answer := .next (s.putFlag R.JOB_CTRL F.JOB_CTRL_ENABLE value)

end Sys2Proof.Machine
end

