-- ==== Sys2Proof/Machine/JobCmds.lean ====
section
/-!
DEFINITION. The commands of COMMAND descriptors (R56 to R73, R168 to R172): each acts on the oldest command job of an Inlet whose turn has come in the Wellhead.
-/
namespace Sys2Proof.Machine

/-- What a command answers: STATUS, RESULT, and the bytes of its result area. -/
structure CmdResult where
  status : Nat
  result : Nat := 0
  out : List Byte := []
  deriving DecidableEq, Repr

def CmdResult.fail (st : Nat) : CmdResult := { status := st }

/-- Run the oldest command job of an Inlet when it is the one named (R164, R168, R182): aborted, it changes nothing. A result area too small gives BAD_PARAMS with
nothing written (R169). -/
def State.runCommand (s : State) (inlet code : Nat) (ans : List SnoopAnswer) (f : State → Job → Inlet → State × CmdResult) : State :=
  match s.jobs.jobs.find? (fun j => j.inlet == inlet && j.st == .command) with
  | none => s
  | some j =>
    if j.desc.source ≠ code ∨ j.decided then s
    else if j.fails ≠ [] then s.finishJob j.id ((firstFail j.fails).getD jsAborted)
    else
      let j := { j with decided := true }
      match f (s.putJob j) j (s.inlet inlet) with
      | (s, r) =>
        if r.out = [] then s.complete j.id r.status r.result
        else if j.desc.outLen < r.out.length then s.complete j.id jsBadParams 0
        else match s.writeOutput j 3 0 r.out [] ans with
          | (s, st) => if st = jsOk then s.complete j.id r.status r.result else s.complete j.id st 0

/-- A field of a command's parameter block, line 1 of its descriptor (R168). -/
def Job.param (j : Job) (o n : Nat) : Nat := leNat ((j.body.drop o).take n)

/-! ### Sequences (R58 to R62, R169) -/

/-- The lowest number from `cur` that is not in an ascending list. -/
def firstGap : List Nat → Nat → Nat
  | [], cur => cur
  | k :: t, cur => if k < cur then firstGap t cur else if k = cur then firstGap t (cur + 1) else cur

/-- A slot for a new sequence: the lowest free one, of this controller's own half while the pair is formed (R56, R431). -/
def State.freeSeqSlot (s : State) : Option Nat :=
  let side := s.get R.PAIR_STATUS F.PAIR_STATUS_SIDE
  let lo := if s.formed then side * 2 ^ 17 else 0
  let hi := if s.formed then lo + 2 ^ 17 else 2 ^ 18
  let k := firstGap (Tbl.keys s.kv.seqs) lo
  if k < hi then some k else none

/-- The basin that a whole range of VA lies in, when it is one (check 3 of R59). -/
def State.oneBasin (s : State) (ep asid va n : Nat) : Option Nat :=
  let bs := (pieces s.unitBytes va n).map (fun a => (s.translate ep asid a true).toOption.map (·.basin))
  match bs with
  | some b :: t => if t.all (· == some b) then some b else none
  | _ => none

/-- The quadrant of a sequence that is not spread: the one with the most free frames, ties to the lower (R220, R597). -/
def State.seqQuad (s : State) (basin hint maxTokens z : Nat) : Option Nat :=
  let one : Bool := hint % 4 == 2 || (hint % 4 != 1 && maxTokens < s.param 1)
  if s.spillPattern basin || !one then none else some ((bestQuad s.usedFrames (s.poolUnits basin) z).getD 0)

/-- SEQ_CREATE (R58 to R60, R219, R220): the checks in order, and the new sequence; `core` is the Wellhead core that makes check 2. -/
def State.seqCreate (core : Nat) (s : State) (j : Job) (l : Inlet) : State × CmdResult :=
  let p := j.param
  let layers := p 0 2
  let heads := p 2 2
  let hdim := p 4 1
  let fmt := p 5 1
  let hint := p 6 1
  let maxT := p 16 8
  let va := p 24 8
  let slots := p 32 4
  let key := p 40 8
  let ver := p 48 4
  let reserved := p 7 1 + p 10 2 + p 36 4 + p 52 12 + bitsOf hint 2 5
  let rangesOk : Bool := 1 ≤ layers && layers ≤ 256 && 1 ≤ heads && heads ≤ 64 && 1 ≤ maxT && maxT ≤ 4194304 && 1 ≤ slots && slots ≤ 65536
    && hdim ≤ 2 && fmtOk fmt && va % 64 == 0
  if reserved ≠ 0 || !rangesOk then (s, .fail jsBadParams)
  else
    let bytes := slots * slotBytes heads (dimOf hdim)
    match s.access { endpoint := l.owner, srcKind := 3, srcIndex := core } l.asid va bytes true with
    | (s, .error _) => (s, .fail jsXlatFault)
    | (s, .ok _) =>
      match s.oneBasin l.owner l.asid va bytes with
      | none => (s, .fail jsBadParams)
      | some b =>
        let base := if key = 0 then none else s.pinnedVersion l.owner l.tenant key ver
        if key ≠ 0 ∧ base = none then (s, .fail jsVersionNotPinned)
        else if base.elim false (fun v => v.layers != layers || v.heads != heads || v.hdim != hdim || v.format != fmt || decide (maxT < v.tokens)) then
          (s, .fail jsBadParams)
        else match s.freeSeqSlot with
          | none => (s, .fail jsSeqLimit)
          | some slot =>
            if ((s.basin b).elim 0 (·.kind)) = 1 then (s, .fail jsNoSpace)
            else
              let lens := match base with
                | none => []
                | some v => (List.range layers).map (fun i => (i, v.tokens))
              let q : Seq := { tenant := l.tenant, client := l.owner, basin := b, asid := l.asid, layers := layers, heads := heads, hdim := hdim, format := fmt,
                               hint := hint, tauK := if p 8 1 = 0 then tauDefault fmt else p 8 1, tauV := if p 9 1 = 0 then tauDefault fmt else p 9 1,
                               ttl := p 12 4, maxTokens := maxT, windowVa := va, windowSlots := slots,
                               quad := s.seqQuad b hint maxT (frameBytes fmt (dimOf hdim)), base := base.map (fun v => (key, v.number)),
                               lens := lens, blocks := base.elim [] (·.blocks) }
              let s := s.setSeq slot (some q)
              (s, { status := jsOk, result := s.handleOf slot })

/-- SEQ_CREATE (R59). -/
def execSeqCreate (inlet : BitVec 12) (core : Fin 4) (s : State) : Answer := .next (s.runCommand inlet.toNat 1 [] (State.seqCreate core.val))

/-- SEQ_DESTROY (R62): the sequence is marked closing. -/
def execSeqDestroy (inlet : BitVec 12) (s : State) : Answer :=
  .next (s.runCommand inlet.toNat 2 [] (fun s j l =>
    match s.findSeq l.tenant (j.param 0 4) with
    | none => (s, .fail jsSeqNotFound)
    | some (slot, _) => (s.closeSeq slot, { status := jsOk })))

/-- The result of SEQ_QUERY (R169). -/
def State.seqReport (s : State) (q : Seq) : List Byte :=
  let bs := (tableBlocks q.blocks).filterMap s.blk
  leBytes (bs.filter (fun b => !b.inSpill)).length 8 ++ leBytes (bs.filter (fun b => b.inSpill)).length 8 ++ leBytes (bs.filter (·.early)).length 8
    ++ leBytes (bs.foldl (fun n b => n + b.promoted) 0) 8 ++ leBytes q.windowHead 4 ++ zeros 28
    ++ (List.range q.layers).flatMap (fun i => leBytes (q.lenOf i) 8)

/-- SEQ_QUERY (R169). -/
def execSeqQuery (inlet : BitVec 12) (ans : List SnoopAnswer) (s : State) : Answer :=
  .next (s.runCommand inlet.toNat 3 ans (fun s j l =>
    match s.findSeq l.tenant (j.param 0 4) with
    | none => (s, .fail jsSeqNotFound)
    | some (_, q) => (s, { status := jsOk, result := 64 + 8 * q.layers, out := s.seqReport q })))

/-! ### Regions (R64 to R73, R169) -/

/-- Whether a basin is Mirrored: its installs and drops reach the partner before they complete (R73). -/
def State.mirroredBasin (s : State) (b : Nat) : Bool := (s.basin b).elim 0 (·.kind) == 2

/-- REGION_PUBLISH (R65 to R67). -/
def State.regionPublish (s : State) (j : Job) (l : Inlet) : State × CmdResult :=
  let key := j.param 0 8
  let x := j.param 12 4
  let n := j.param 16 8
  let ttl := j.param 24 4
  if key = 0 then (s, .fail jsBadParams)
  else match s.findSeq l.tenant (j.param 8 4) with
    | none => (s, .fail jsSeqNotFound)
    | some (_, q) =>
      if n = 0 || (List.range q.layers).any (fun i => q.lenOf i < n) then (s, .fail jsPublishRange)
      else
        let kv := s.kv
        match s.prepareAll q n (Tbl.keys q.blocks) with
        | (s, none) => ({ s with kv := kv }, .fail jsNoSpace)
        | (s, some tbl) =>
          let r := (s.region l.tenant key).getD { tenant := l.tenant, key := key, current := 0, versions := [] }
          let undo : State := { s with kv := kv }
          if x ≠ r.current then (undo, { status := jsPublishConflict, result := r.current })
          else if (s.region l.tenant key).isNone && 65536 ≤ s.kv.regions.length then (undo, .fail jsRegionLimit)
          else if r.current = 0xFFFFFFFF then (undo, .fail jsPublishExhausted)
          else if 8 ≤ r.live.length then (undo, .fail jsVersionLimit)
          else
            let v : Version := { number := x + 1, tokens := n, layers := q.layers, heads := q.heads, hdim := q.hdim, format := q.format, basin := q.basin,
                                 blocks := tbl, left := if ttl = 0 then none else some ttl }
            let s := s.putRegion { r with current := x + 1, versions := r.versions ++ [v], idle := 0, basin := q.basin }
            let s := (tableBlocks tbl).foldl (fun s b => s.shareBlock l.tenant b) s
            let s := if s.mirroredBasin q.basin then s.changePartner "INSTALL" [l.tenant, key, x + 1] else s
            (s, { status := jsOk, result := x + 1 })

/-- REGION_PUBLISH (R65). -/
def execRegionPublish (inlet : BitVec 12) (s : State) : Answer := .next (s.runCommand inlet.toNat 0x10 [] State.regionPublish)

/-- A live version that a command names (R68, R71): the region and the version, or the status. Version 0, to which R68 gives a meaning for REGION_PIN alone,
is never installed: REGION_DROP of it is REGION_NOT_FOUND. DESIGN CHOICE, log entry 117. -/
def State.liveVersion (s : State) (tenant key ver : Nat) : Except Nat (Region × Version) :=
  if key = 0 then .error jsBadParams
  else match s.region tenant key with
    | none => .error jsRegionNotFound
    | some r =>
      if ver = 0 ∨ r.current < ver then .error jsRegionNotFound
      else match r.find ver with
        | none => .error jsVersionRetired
        | some v => .ok (r, v)

/-- Change a client's count of pins on a version; a count of 0 is not kept (R68). -/
def State.setPin (s : State) (ep tenant key ver n : Nat) : State :=
  let rest := s.kv.pins.filter (fun p => !(p.ep == ep && p.tenant == tenant && p.key == key && p.version == ver))
  { s with kv := { s.kv with pins := if n = 0 then rest else rest ++ [{ ep := ep, tenant := tenant, key := key, version := ver, count := n }] } }

/-- REGION_PIN (R68). -/
def State.regionPin (s : State) (j : Job) (l : Inlet) : State × CmdResult :=
  let key := j.param 0 8
  let asked := j.param 8 4
  let ver := if asked = 0 then (s.region l.tenant key).elim 0 (·.current) else asked
  match s.liveVersion l.tenant key ver with
  | .error e => (s, .fail e)
  | .ok _ =>
    let n := s.pinCount l.owner l.tenant key ver
    if 65535 ≤ n ∨ (n = 0 ∧ 262144 ≤ s.kv.pins.length) then (s, .fail jsPinLimit)
    else (s.setPin l.owner l.tenant key ver (n + 1), { status := jsOk, result := ver })

/-- REGION_PIN (R68). -/
def execRegionPin (inlet : BitVec 12) (s : State) : Answer := .next (s.runCommand inlet.toNat 0x11 [] State.regionPin)

/-- REGION_UNPIN (R68). -/
def execRegionUnpin (inlet : BitVec 12) (s : State) : Answer :=
  .next (s.runCommand inlet.toNat 0x12 [] (fun s j l =>
    let key := j.param 0 8
    let ver := j.param 8 4
    let n := s.pinCount l.owner l.tenant key ver
    if key = 0 then (s, .fail jsBadParams)
    else if n = 0 then (s, .fail jsNotPinned)
    else (s.setPin l.owner l.tenant key ver (n - 1), { status := jsOk })))

/-- REGION_DROP (R71, R73): the version's time-to-live is over at once. -/
def State.regionDrop (s : State) (j : Job) (l : Inlet) : State × CmdResult :=
  match s.liveVersion l.tenant (j.param 0 8) (j.param 8 4) with
  | .error e => (s, .fail e)
  | .ok (r, v) =>
    let vs := r.versions.map (fun (w : Version) => if w.number = v.number then { w with left := some 0 } else w)
    let s := s.putRegion { r with versions := vs }
    let s := if s.mirroredBasin v.basin then s.changePartner "DROP" [l.tenant, r.key, v.number] else s
    (s, { status := jsOk })

/-- REGION_DROP (R71). -/
def execRegionDrop (inlet : BitVec 12) (s : State) : Answer := .next (s.runCommand inlet.toNat 0x13 [] State.regionDrop)

/-- The blocks of a region's live versions in the fast tier and in Spillway (R77). -/
def State.regionTiers (s : State) (r : Region) : List Nat :=
  let bs := s.kv.blks.filterMap (fun e => if r.live.any (fun v => (tableBlocks v.blocks).contains e.1) then e.2 else none)
  [(bs.filter (fun b => !b.inSpill)).length, (bs.filter (fun b => b.inSpill)).length]

/-- The result of REGION_QUERY (R169). -/
def State.regionReport (s : State) (r : Region) : List Byte :=
  let line (v : Version) : List Byte :=
    let left := match v.left with | none => 0xFFFFFFFF | some k => min k 0xFFFFFFFE
    leBytes v.number 4 ++ leBytes v.tokens 8 ++ leBytes (s.pinTotal r.tenant r.key v.number) 4 ++ leBytes left 4 ++ zeros 12
  leBytes r.current 4 ++ leBytes r.live.length 4 ++ zeros 56 ++ (sortBy (fun v => v.number) r.live).flatMap line

/-- REGION_QUERY (R77, R169). The blocks of each tier, to which R169 gives no bytes, are reported beside the result. DESIGN CHOICE, log entry 120. -/
def execRegionQuery (inlet : BitVec 12) (ans : List SnoopAnswer) (s : State) : Answer :=
  .next (s.runCommand inlet.toNat 0x14 ans (fun s j l =>
    if j.param 0 8 = 0 then (s, .fail jsBadParams)
    else match s.region l.tenant (j.param 0 8) with
      | none => (s, .fail jsRegionNotFound)
      | some r =>
        let n := 64 + 32 * r.live.length
        (if j.desc.outLen < n then s else s.send (.result "REGION_TIERS" (s.regionTiers r)), { status := jsOk, result := n, out := s.regionReport r })))

/-! ### Program images and binding (R170 to R172) -/

/-- A program image's header fields (R170), when each is in its range. -/
def imageOf? (b : List Byte) : Option (Image × Nat) :=
  let n (o k : Nat) : Nat := leNat ((b.drop o).take k)
  let bundles := n 6 2
  let entryOk (e : Nat) : Bool := e == 0xFFFF || e < bundles
  if n 0 4 = 0x4D495443 && n 4 2 == 1 && 1 ≤ bundles && bundles ≤ 4096 && [n 8 2, n 10 2, n 12 2, n 14 2].all entryOk
      && n 16 1 < 16 && n 17 1 < 8 && n 18 1 < 64 && [2572, 2764, 2892].contains (n 20 4) && b.length == 64 + 16 * bundles + n 20 4 then
    some ({ id := 0, tenant := 0, code := (b.drop 64).take (16 * bundles), worker := n 8 2, merge := n 10 2, final := n 12 2, ingest := n 14 2,
            formats := n 16 1, hdims := n 17 1, groups := n 18 1 }, n 20 4)
  else none

/-- PROG_LOAD (R171, R472, R473): the image is read, its header and signature are checked, and it takes the lowest free PROG_ID from 0x0100. -/
def State.progLoad (core : Nat) (ans : List SnoopAnswer) (s : State) (j : Job) (l : Inlet) : State × CmdResult :=
  let va := j.param 0 8
  let n := j.param 8 4
  if n = 0 then (s, .fail jsProgFormat)
  else match s.access { endpoint := l.owner, srcKind := 3, srcIndex := core } l.asid va n false with
    | (s, .error _) => (s, .fail jsXlatFault)
    | (s, .ok _) =>
      match s.readVa l.owner l.asid l.tenant (va / 64 * 64) ans ((va % 64 + n + 63) / 64) with
      | (s, ls) =>
        let b := ((ls.flatMap (·.data)).drop (va % 64)).take n
        if ls.any (·.poison) then (s, .fail jsPoisoned)
        else match imageOf? b with
          | none => (s, .fail jsProgFormat)
          | some (img, sig) =>
            match s.verifyImage (some l.tenant) (b.take (n - sig)) (b.drop (n - sig)) with
            | (s, .malformed) => (s, .fail jsProgFormat)
            | (s, .refused) => (s, .fail jsProgSignature)
            | (s, .good) =>
              if 32 ≤ s.jobs.images.length then (s, .fail jsProgLimit)
              else
                let id := firstGap (sortBy (fun k => k) (s.jobs.images.map (·.id))) 256
                let img := { img with id := id, tenant := l.tenant, measure := Config.shake256 (b.take (n - sig)) 32, signer := signerHash (b.drop (n - sig)) }
                ({ s with jobs := { s.jobs with images := s.jobs.images ++ [img] } }, { status := jsOk, result := id })

/-- PROG_LOAD (R171). -/
def execProgLoad (inlet : BitVec 12) (core : Fin 4) (ans : List SnoopAnswer) (s : State) : Answer :=
  .next (s.runCommand inlet.toNat 0x20 ans (State.progLoad core.val ans))

/-- Roles as (quadrant, role). -/
def allRoles : List (Nat × Nat) := (List.range 4).flatMap (fun q => (List.range 24).map (fun r => (q, r)))

/-- A role returns to image 0x0001, which is loaded (R172). -/
def State.resetRole (s : State) (p : Nat × Nat) : State := (s.setRoleImage p.1 p.2 1).startLoad p.1 p.2

/-- PROG_UNLOAD (R171): roles that held the image return to 0x0001. -/
def State.progUnload (s : State) (j : Job) (l : Inlet) : State × CmdResult :=
  let id := j.param 0 2
  if 1 ≤ id ∧ id ≤ 255 then (s, .fail jsProgInUse)
  else if !(s.jobs.images.any (fun i => i.id == id && i.tenant == l.tenant)) then (s, .fail jsProgNotFound)
  else if s.jobs.inlets.any (fun e => e.2.bound.elim false (fun b => b.prog == id)) then (s, .fail jsProgInUse)
  else
    let s := (allRoles.filter (fun p => s.roleImage p.1 p.2 == id)).foldl State.resetRole s
    ({ s with jobs := { s.jobs with images := s.jobs.images.filter (fun i => i.id != id) } }, { status := jsOk })

/-- PROG_UNLOAD (R171). -/
def execProgUnload (inlet : BitVec 12) (s : State) : Answer := .next (s.runCommand inlet.toNat 0x21 [] State.progUnload)

/-- An Inlet's descriptors leave a source's queues; the newest finish times of each queue go with them. -/
def State.leaveQueue (s : State) (e i : Nat) : State :=
  let x := s.disp e
  s.setDisp e (x.queues.foldl (fun x q =>
    let k := q.inlets.foldl (fun n p => if p.1 = i then n + p.2 else n) 0
    x.setQueue { q with fs := q.fs.take (q.fs.length - k), inlets := q.inlets.filter (fun p => p.1 != i) }) x)

/-- Bind or unbind an Inlet: what waits in its old source's queue waits in the new one's. -/
def State.rebind (s : State) (i : Nat) (b : Option Binding) : State :=
  let l := s.inlet i
  let s := (s.leaveQueue l.engine i).setInlet i { l with bound := b }
  s.topUp i (s.inlet i).untaken

/-- Roles of an Inlet's old binding that nothing is bound to any more and that hold a tenant image return to 0x0001 (R172). -/
def State.releaseRoles (s : State) (l : List (Nat × Nat)) : State :=
  (l.filter (fun p => s.bindingsOf p.1 p.2 == [] && 256 ≤ s.roleImage p.1 p.2)).foldl State.resetRole s

/-- The Inlet a bind or unbind names: enabled, and the tenant's (R172). -/
def State.bindTarget (s : State) (tenant i : Nat) : Bool := i < 4096 && (s.inlet i).enable && (s.inlet i).tenant == tenant

/-- Roles of a quadrant that may be bound to an image: free of other images and of bindings to another (R172). -/
def State.bindable (s : State) (q prog target : Nat) : List Nat :=
  (List.range 24).filter (fun r =>
    (s.roleImage q r == prog || s.roleImage q r == 1) && (s.bindingsOf q r).all (fun e => e.1 == target || e.2.bound.elim true (fun b => b.prog == prog)))

/-- INLET_BIND (R172): `choice` names roles the Wellhead prefers; the rest are the lowest that may be bound. -/
def State.inletBind (choice : List (Nat × Nat)) (s : State) (j : Job) (l : Inlet) : State × CmdResult :=
  let i := j.param 0 2
  let prog := j.param 2 2
  let n := j.param 4 1
  if !s.bindTarget l.tenant i then (s, .fail jsInletNotFound)
  else match s.imageFor l.tenant prog with
    | none => (s, .fail jsProgNotFound)
    | some img =>
      if img.worker = 0xFFFF ∨ img.merge = 0xFFFF ∨ img.final = 0xFFFF then (s, .fail jsProgUnsupported)
      else if n = 0 ∨ 24 < n then (s, .fail jsBadParams)
      else
        let pick (q : Nat) : List (Nat × Nat) :=
          let c := s.bindable q prog i
          ((c.filter (fun r => choice.contains (q, r)) ++ c.filter (fun r => !choice.contains (q, r))).take n).map (fun r => (q, r))
        let roles := [0, 1, 2, 3].flatMap pick
        if roles.length < 4 * n then (s, .fail jsRoleBusy)
        else
          let old := (s.inlet i).bound.elim [] (·.roles)
          let s := s.rebind i (some { prog := prog, roles := roles })
          let s := (roles.filter (fun p => s.roleImage p.1 p.2 != prog)).foldl (fun s p => (s.setRoleImage p.1 p.2 prog).startLoad p.1 p.2) s
          (s.releaseRoles (old.filter (fun p => !roles.contains p)), { status := jsOk, result := 4 * n })

/-- INLET_BIND (R172). -/
def execInletBind (inlet : BitVec 12) (choice : List (Fin 4 × Fin 24)) (s : State) : Answer :=
  .next (s.runCommand inlet.toNat 0x22 [] (State.inletBind (choice.map (fun c => (c.1.val, c.2.val)))))

/-- INLET_UNBIND (R172). -/
def execInletUnbind (inlet : BitVec 12) (s : State) : Answer :=
  .next (s.runCommand inlet.toNat 0x23 [] (fun s j l =>
    let i := j.param 0 2
    if !s.bindTarget l.tenant i then (s, .fail jsInletNotFound)
    else
      let old := (s.inlet i).bound.elim [] (·.roles)
      ((s.rebind i none).releaseRoles old, { status := jsOk })))

end Sys2Proof.Machine
end

