-- ==== Sys2Proof/Machine/Mere.lean ====
section
/-!
DEFINITION. The commands of the Mere and Twin links: flits and control flits that arrive, timers, training, and the writes that drive a link.
-/
namespace Sys2Proof.Machine

/-- What the Reed-Solomon decoder of each lane makes of the codewords under a flit, (lane, symbols in error): up to 15 are corrected and counted, more are
uncorrectable (R273, R302, R303). -/
def State.countFec (s : State) (n : Nat) (codewords : List (Nat × Nat)) : State :=
  codewords.foldl (fun s c =>
    if lanesOf n ≤ c.1 then s
    else if c.2 ≤ 15 then
      (s.bump (R.MERE_CNT_FEC_CORR n) c.2).updLink n (fun l => { l with corrected := Tbl.upd (fun _ => 0) l.corrected c.1 (· + c.2) })
    else (s.bump (R.MERE_CNT_FEC_UNCORR n)).bumpSat (R.MERE_LANESTAT n c.1) F.MERE_LANESTAT_UNCORR) s

/-- A link end that is exchanging flits (R287): in OFF and DETECT nothing is received. -/
def State.linkHears (s : State) (n : Nat) : Bool := lsEqualise ≤ s.linkState n

/-- Lanes with an uncorrectable codeword. -/
def lanesLost (codewords : List (Nat × Nat)) : List Nat := (codewords.filter (fun c => 15 < c.2)).map (·.1)

/-- The flit that arrived, by lane: of copies the first that passes its CRC, of a striped flit its shares put together; a lane's uncorrectable codeword
takes what it carried (R273, R274, R276). -/
def State.flitIn (s : State) (n : Nat) (replicated : Bool) (parts : List (Nat × List Byte)) (codewords : List (Nat × Nat)) : Option (List Byte) :=
  let lost := lanesLost codewords
  if replicated then ((parts.filter (fun p => !lost.contains p.1)).map (·.2)).find? flitOk
  else
    let lanes := s.lanesUsed n
    let f := joinLanes (lanes.map (fun i => (parts.find? (fun p => p.1 == i)).elim [] (·.2)))
    if lanes.any lost.contains || !flitOk f then none else some f

/-- Accept a sequenced flit: its packets are delivered in order, E advances, its credit returns are taken (R277, R279, R285); an idle flit
carries the acknowledgement once 64 are unreported (R280). -/
def State.acceptFlit (s : State) (n hdr : Nat) (payload : List Byte) : State :=
  let l := s.link n
  let r := if bitsOf hdr 25 2 = 0 then splitPackets 16 (l.partSlots ++ payload) else ([], l.partSlots)
  let s := s.setLink n { l with expect := (l.expect + 1) % 4096, nakFor := none, unreported := l.unreported + 1,
                                delivered := l.delivered ++ r.1, partSlots := r.2 }
  let s := s.bump (R.MERE_CNT_FLITS_RX n)
  let s := (s.takeCredit n (bitsOf hdr 32 3) (bitsOf hdr 35 8)).takeCredit n (bitsOf hdr 43 3) (bitsOf hdr 46 8)
  let s := s.flush n
  if 64 ≤ (s.link n).unreported ∧ s.linkHears n then s.sendIdle n false else s

/-- The peer's request proceeds: FOLLOW, then the retrain or width change (R289). A fourth retrain of the window breaks the link (R290). -/
def State.followReq (s : State) (n rank : Nat) : State :=
  if 2 ≤ rank ∧ 3 ≤ (s.recentRetrains n).length then s.breakLink n
  else
    let s := (s.setLinkState n lsQuiesce).sendControl n { code := ctlFollow }
    s.proceed n rank false

/-- The peer's REQ with its rank and PORT_ID (R289); one that finds the link in TEST or CONFIG is ignored. -/
def State.takeReq (s : State) (n rank portId : Nat) : State :=
  let l := s.link n
  if rank = 0 then s
  else if s.linkState n = lsActive then s.followReq n rank
  else if s.linkState n = lsQuiesce then
    match l.ownReq with
    | none => s
    | some own =>
      if rank < own ∨ (rank = own ∧ (s.reg (R.MERE_PORTID n)).toNat < portId) then s else s.followReq n rank
  else if s.linkState n = lsEqualise ∧ !l.full ∧ !l.proceeded then s.sendControl n { code := ctlFollow }
  else s

/-- The peer's FOLLOW: the requester proceeds (R289). -/
def State.takeFollow (s : State) (n : Nat) : State :=
  match (s.link n).ownReq with
  | some rank => if s.linkState n = lsQuiesce then s.proceed n rank true else s
  | none => s

/-- Form the agreed mask once both TEST_DONE reports are in, and go on to CONFIG (R288, R291). -/
def State.formMask (s : State) (n : Nat) : State :=
  let l := s.link n
  if l.ownPass.isSome && l.peerPass.isSome then
    let s := (s.setLinkState n lsConfig).updLink n (fun l => { l with ctl := none })
    match s.widthFor n (s.agreedMask n) with
    | none => s.failConfig n
    | some w => if l.full || l.proceeded then s.sendConfig n w (s.agreedMask n) l.full else s
  else s

/-- The peer's TEST_DONE (R291). -/
def State.takeTestDone (s : State) (n mask : Nat) : State :=
  if s.linkState n = lsTest ∨ s.linkState n = lsEqualise then
    let s := s.updLink n (fun l => { l with peerPass := some mask })
    if s.linkState n = lsTest then s.formMask n else s
  else s

/-- Whether a peer's advertisement is refused (R284). -/
def creditsRefused (adv : List Nat) : Bool :=
  (List.range 6).any (fun c => adv.getD c 0 < (if c = 1 ∨ c = 5 then 65 else 2))

/-- Take the peer's advertisement as send credits, in a full training only (R284). -/
def State.takeAdvert (s : State) (n : Nat) (adv : List Nat) : State :=
  (List.range 6).foldl (fun s c => s.setCredit n c (adv.getD c 0)) (s.updLink n (fun l => { l with advert := adv }))

/-- The width a CONFIG brings: the peer's, no wider than this end's mask and WIDTH_MAX allow (R272). -/
def State.configWidth (s : State) (n width mask : Nat) : Option Nat :=
  (s.widthFor n mask).map (fun own => max own (([0, 1, 2].find? (fun c => widthOf n c == width)).getD own))

/-- PEER_CHANGED and PEERID of a CONFIG (R288, R298). -/
def State.meetPeer (s : State) (n : Nat) (full : Bool) (portId : Word) : State :=
  let s := if full && s.reg (R.MERE_PEERID n) != portId then s.setErr (R.MERE_ERR n) F.MERE_ERR_PEER_CHANGED else s
  s.setReg (R.MERE_PEERID n) portId

/-- The peer's CONFIG (R284, R288): checked, and answered CONFIG_ACK, or the configuration fails. In ACTIVE it is the peer's own CONFIG of a full training
whose CONFIG_ACK this end has had, or one repeated because the answer was lost: it is answered. -/
def State.takeConfig (s : State) (n width : Nat) (portId : Word) (mask nextSeq : Nat) (adv : List Nat) : State :=
  let l := s.link n
  let late := s.linkState n == lsActive && l.advert == []
  if s.linkState n == lsActive && !late then s.sendControl n { code := ctlConfigAck, nextSeq := l.expect }
  else if !(s.linkState n == lsConfig) && !late then s
  else
    let full := l.full || late
    if s.reg (R.MERE_PORTID n) = portId then ((s.meetPeer n full portId).setErr (R.MERE_ERR n) F.MERE_ERR_ID_CLASH).failConfig n
    else
      let s := s.meetPeer n full portId
      match s.configWidth n width mask with
      | none => s.failConfig n
      | some w =>
        if full && creditsRefused adv then s.failConfig n
        else
          let s := if full then s.takeAdvert n adv else s
          let s := s.sendControl n { code := ctlConfigAck, nextSeq := (s.link n).expect }
          if late then s.flush n else s.enterActive n w mask nextSeq (!full)

/-- The peer's CONFIG_ACK (R288): the end enters ACTIVE and resumes from the peer's NEXT_SEQ; an end that is ACTIVE already has its CONFIG answered. -/
def State.takeConfigAck (s : State) (n nextSeq : Nat) : State :=
  match (s.link n).ctl with
  | none => s
  | some c =>
    if c.code ≠ ctlConfig then s
    else if s.linkState n = lsConfig then
      s.enterActive n (([0, 1, 2].find? (fun k => widthOf n k == c.width)).getD 2) c.mask nextSeq true
    else if s.linkState n = lsActive then s.updLink n (fun l => { l with ctl := none })
    else s

/-- A CONTROL flit that has arrived does what its CTL code says (R288). -/
def State.takeControl (s : State) (n : Nat) (f : List Byte) : State :=
  let at' (i k : Nat) : Nat := leNat ((f.drop i).take k)
  let code := at' 8 1
  if code = ctlReq then s.takeReq n (at' 9 1 % 4) (at' 16 8)
  else if code = ctlFollow then s.takeFollow n
  else if code = ctlTestDone then s.takeTestDone n (at' 24 2)
  else if code = ctlConfig then
    s.takeConfig n (at' 10 1) (BitVec.ofNat 64 (at' 16 8)) (at' 24 2) (at' 26 2 % 4096) ((List.range 6).map (fun i => at' (28 + 2 * i) 2))
  else if code = ctlConfigAck then s.takeConfigAck n (at' 26 2 % 4096)
  else s

/-- Act on a flit that passed its CRC (R278 to R281, R285, R288). -/
def State.takeFlit (s : State) (n : Nat) (flit : List Byte) : State :=
  let hdr := leNat (flit.take 8)
  let ftype := bitsOf hdr 25 2
  let s := (s.takeAck n (bitsOf hdr 12 12) (bitOf hdr 24)).flush n
  if !s.linkHears n then s
  else if ftype = ftControl then s.takeControl n flit
  else if ftype = ftIdle then s
  else
    let d := ((s.link n).expect + 4096 - bitsOf hdr 0 12) % 4096
    if d = 0 then s.acceptFlit n hdr ((flit.drop 8).take 240)
    else if d ≤ 2047 then s
    else s.nak n

/-- FLIT_RECEIVE (R272 to R274, R276, R278 to R281, R285, R288): a flit arrives on link `n`, replicated or striped as its codewords' mode bit says: what
each lane brought, in order of arrival, and the codewords under it. Requests at a home that wait for a response's credits may go on (R357); a CMP of the Twin link
ends a wait for the partner (R434). -/
def execFlitReceive (n : Fin 9) (replicated : Bool) (parts : List (Nat × List Byte)) (codewords : List (Nat × Nat)) (s : State) : Answer :=
  if !s.linkHears n ∨ s.islandStopped (portIsland n) then .next s
  else
    let s := s.countFec n codewords
    match s.flitIn n replicated parts codewords with
    | none => .next ((s.bump (R.MERE_CNT_CRC_FAIL n)).nak n)
    | some f =>
      let s := s.takeFlit n f
      .next (if n = 8 then s.changesHeld else s).pumpAll

/-- NAK_REPEAT_TIMER (R279): REPLAY has passed with E where the NAK left it, and another NAK goes out. -/
def execNakRepeatTimer (n : Fin 9) (s : State) : Answer :=
  if s.linkHears n ∧ (s.link n).nakFor = some (s.link n).expect then
    .next ((s.bump (R.MERE_CNT_NAKS n)).sendIdle n true)
  else .next s

/-- ACK_HOLD_TIMER (R280). -/
def execAckHoldTimer (n : Fin 9) (s : State) : Answer :=
  if s.linkHears n ∧ (s.link n).unreported ≠ 0 then .next (s.sendIdle n false) else .next s

/-- REPLAY_TIMEOUT (R282): the oldest held flit is unacknowledged for REPLAY. -/
def execReplayTimeout (n : Fin 9) (s : State) : Answer :=
  if s.linkActive n then .next (s.replay n) else .next s

/-- Whether a class waits on a link for lack of its credits (R286). -/
def State.creditStarved (s : State) (n c : Nat) : Bool :=
  match (s.link n).queue.find? (fun p => p.cls == c) with
  | none => false
  | some p => s.linkActive n && s.creditFor n p < creditsOf p.body.length

/-- CREDIT_TIMEOUT (R286): class `c` has waited MERE_TIMERS.CREDIT for credits. -/
def execCreditTimeout (n : Fin 9) (c : Fin 6) (s : State) : Answer :=
  if s.creditStarved n c then .next ((s.setErr (R.MERE_ERR n) F.MERE_ERR_CREDIT_TIMEOUT).breakLink n) else .next s

/-- SIGNAL_DETECT (R287): `lanes` is the mask of the lanes that show signal. -/
def execSignalDetect (n : Fin 9) (lanes : BitVec 16) (s : State) : Answer :=
  if s.linkState n = lsDetect ∧ fewestLanes n ≤ popCount lanes.toNat (lanesOf n) then .next (s.setLinkState n lsEqualise) else .next s

/-- EQUALISE_DONE (R287). -/
def execEqualiseDone (n : Fin 9) (s : State) : Answer :=
  if s.linkState n = lsEqualise then .next (s.setLinkState n lsTest) else .next s

/-- The lanes under test (R290, R291): every lane in a full training or a WIDEN, else those that have not failed and are not excluded. -/
def State.lanesTested (s : State) (n : Nat) : List Nat :=
  let l := s.link n
  (List.range (lanesOf n)).filter (fun i => l.full || l.testAll ||
    (!s.flag (R.MERE_LANESTAT n i) F.MERE_LANESTAT_FAILED && !bitOf (s.get (R.MERE_LANECFG n) F.MERE_LANECFG_EXCLUDE) i))

/-- LANE_TEST_DONE (R291): the PRBS31 check ends with one result a lane: (lane, locked, bit errors). A lane that does not lock or shows more
than 16 bit errors fails. -/
def execLaneTestDone (n : Fin 9) (results : List (Nat × Bool × Nat)) (s : State) : Answer :=
  if s.linkState n = lsTest ∧ (s.link n).ownPass = none then
    let tested := s.lanesTested n
    let res (i : Nat) : Bool × Nat := (results.find? (fun r => r.1 == i)).elim (false, 0) (·.2)
    let bad (i : Nat) : Bool := !(res i).1 || 16 < (res i).2
    let s' := tested.foldl (fun s i =>
      (s.put (R.MERE_LANESTAT n i) F.MERE_LANESTAT_TEST_ERR (satAdd 0 (min (res i).2 65535) 65535)).putFlag
        (R.MERE_LANESTAT n i) F.MERE_LANESTAT_FAILED (bad i)) s
    let s' := if tested.any bad then s'.setErr (R.MERE_ERR n) F.MERE_ERR_LANE_FAIL else s'
    let mask := (tested.filter (fun i => !bad i)).foldl (fun m i => m + 2 ^ i) 0
    let s' := (s'.updLink n (fun l => { l with ownPass := some mask })).sendCtl n { code := ctlTestDone, mask := mask }
    .next (s'.formMask n)
  else .next s

/-- LANE_ERROR_BURST (R290, R291): a burst of errors of a lane, if WINDOW_US covers its time and either threshold is reached, starts a retrain of rank 3. -/
def execLaneErrorBurst (b : LaneBurst) (s : State) : Answer :=
  let g (f : Fld) : Nat := s.get (R.MERE_LANECFG b.link) f
  if b.lane.val < lanesOf b.link ∧ b.us ≤ g F.MERE_LANECFG_WINDOW_US ∧
      (g F.MERE_LANECFG_UNCORR_THR ≤ b.uncorrectable ∨ 16 * g F.MERE_LANECFG_CORR_THR ≤ b.corrected) then .next (s.startRetrain b.link 3 false)
  else .next s

/-- REQ (R289): the peer's request has arrived, with its rank and PORT_ID. -/
def execReq (n : Fin 9) (rank : Fin 4) (portId : Word) (s : State) : Answer := .next (s.takeReq n rank portId.toNat)

/-- FOLLOW (R289): the peer follows. -/
def execFollow (n : Fin 9) (s : State) : Answer := .next (s.takeFollow n)

/-- TEST_DONE (R291): the peer's passing lanes. -/
def execTestDone (n : Fin 9) (mask : BitVec 16) (s : State) : Answer := .next (s.takeTestDone n mask.toNat)

/-- CONFIG (R284, R288, R357): width in lanes, the peer's PORT_ID, the agreed mask, its E, and its advertisement after full training. -/
def execConfig (n : Fin 9) (width : Nat) (portId : Word) (mask : BitVec 16) (nextSeq : BitVec 12) (adv : List (BitVec 16)) (s : State) : Answer :=
  .next (s.takeConfig n width portId mask.toNat nextSeq.toNat (adv.map (·.toNat))).pumpAll

/-- CONFIG_ACK (R288). -/
def execConfigAck (n : Fin 9) (nextSeq : BitVec 12) (s : State) : Answer := .next (s.takeConfigAck n nextSeq.toNat)

/-- CONTROL_REPEAT (R288): an unanswered control flit is repeated. -/
def execControlRepeat (n : Fin 9) (s : State) : Answer :=
  match (s.link n).ctl with
  | some c => .next (s.sendControl n c)
  | none => .next s

/-- CONFIG_TIMEOUT (R288): a REQ or CONFIG goes unanswered for 10 µs. -/
def execConfigTimeout (n : Fin 9) (s : State) : Answer :=
  match (s.link n).ctl with
  | some c => if c.code = ctlReq ∨ c.code = ctlConfig then .next (s.failConfig n) else .next s
  | none => .next s

/-- RETRAIN_LIMIT (R290): a retrain is not back in ACTIVE in time. -/
def execRetrainLimit (n : Fin 9) (s : State) : Answer :=
  if lsEqualise ≤ s.linkState n ∧ !s.linkActive n ∧ !(s.link n).full ∧ 2 ≤ (s.link n).rank then .next (s.breakLink n) else .next s

/-- Whether an OFF link may leave OFF: PHASE has reached CONFIG, and no reset holds the port (R305, R588). -/
def State.linkFree (s : State) (n : Nat) : Bool :=
  3 ≤ s.get R.GLOB_STATUS F.GLOB_STATUS_PHASE && s.rst.l2 == 0 && !s.inL3 (unitKey 2 n)

/-- MERE_ENABLE (R287, R299, R588): 1 trains an OFF link from DETECT; 0 declares an ACTIVE link broken and goes to OFF. -/
def execMereEnable (n : Fin 9) (v : Bool) (s : State) : Answer :=
  let s := s.putFlag (R.MERE_CTRL n) F.MERE_CTRL_ENABLE v
  if v then .next (if s.linkState n = lsOff ∧ s.linkFree n then s.enterDetect n else s)
  else .next ((if s.linkActive n then s.breakLink n else s).goOff n)

/-- MERE_RETRAIN (R290, R299): a retrain of rank 3; the bit clears itself in ACTIVE. -/
def execMereRetrain (n : Fin 9) (s : State) : Answer :=
  .next ((s.putFlag (R.MERE_CTRL n) F.MERE_CTRL_RETRAIN true).startRetrain n 3 false)

/-- MERE_WIDEN (R290): as MERE_RETRAIN, testing every lane. -/
def execMereWiden (n : Fin 9) (s : State) : Answer :=
  .next ((s.putFlag (R.MERE_CTRL n) F.MERE_CTRL_WIDEN true).startRetrain n 3 true)

/-- MERE_BREAK (R290, R299): declares the link broken; the bit clears itself in DETECT. A link in OFF has nothing to break. -/
def execMereBreak (n : Fin 9) (s : State) : Answer :=
  let s := s.putFlag (R.MERE_CTRL n) F.MERE_CTRL_BREAK true
  if s.linkState n = lsOff then .next s else .next (s.breakLink n)

/-- WIDTH_CHANGE (R290, R299, R301): a write of WIDTH_MAX and EXCLUDE; a change starts a width change of rank 1. WIDTH_MAX 3 has no effect. -/
def execWidthChange (n : Fin 9) (widthMax : Fin 4) (exclude : BitVec 16) (s : State) : Answer :=
  let w := if widthMax.val = 3 then s.get (R.MERE_CTRL n) F.MERE_CTRL_WIDTH_MAX else widthMax.val
  let changed := w != s.get (R.MERE_CTRL n) F.MERE_CTRL_WIDTH_MAX || exclude.toNat != s.get (R.MERE_LANECFG n) F.MERE_LANECFG_EXCLUDE
  let s := (s.put (R.MERE_CTRL n) F.MERE_CTRL_WIDTH_MAX w).put (R.MERE_LANECFG n) F.MERE_LANECFG_EXCLUDE exclude.toNat
  if changed then .next (s.startRetrain n 1 false) else .next s

/-- ROUTE_REVERT (R295): the primary port has been ACTIVE for REVERT_MS, and the entries that name it go back to it. -/
def execRouteRevert (n : Fin 8) (s : State) : Answer :=
  if s.linkActive n ∧ s.get (R.MERE_CTRL n) F.MERE_CTRL_REVERT_MS ≠ 0 then
    .next ((s.routesOf n).foldl (fun s e => s.put (R.ROUTE e) F.ROUTE_ON_ALT 0) s)
  else .next s

/-- CLIENT_UNREACHABLE (R295): neither port of the client's entry has been ACTIVE while its packets waited 100 µs. -/
def execClientUnreachable (ep : BitVec 12) (s : State) : Answer :=
  let e := ep.toNat
  let p := s.route e F.ROUTE_PRIMARY
  let a := s.route e F.ROUTE_ALT
  if s.route e F.ROUTE_VALID = 1 ∧ !s.linkActive p ∧ !s.linkActive a ∧
      ((s.link p).queue ++ (s.link a).queue).any (fun q => q.ep == e) then
    let u := s.fab.unreach
    let s := { s with fab := { s.fab with unreach := if u.contains e then u else u ++ [e] } }
    .next (s.setErr (R.MERE_ERR p) F.MERE_ERR_CLIENT_UNREACHABLE)
  else .next s

/-- ROUTE_WRITE (R297): a write of a route entry; VALID with PRIMARY equal to ALT is refused. The write clears ON_ALT. -/
def execRouteWrite (ep : BitVec 12) (v : Word) (s : State) : Answer :=
  let e := ep.toNat
  let p := bitsOf v.toNat 0 3
  let a := bitsOf v.toNat 3 3
  let valid := bitOf v.toNat 6
  if valid ∧ p = a then .next (s.setErr (R.MERE_ERR 0) F.MERE_ERR_ROUTE_REFUSED)
  else .next ((((s.put (R.ROUTE e) F.ROUTE_PRIMARY p).put (R.ROUTE e) F.ROUTE_ALT a).putFlag (R.ROUTE e) F.ROUTE_VALID valid).put
    (R.ROUTE e) F.ROUTE_ON_ALT 0)

end Sys2Proof.Machine
end

