-- ==== Sys2Proof/Machine/Shelf.lean ====
section
/-!
DEFINITION. What becomes of blocks, sequences and versions with time (R33, R61, R62, R64, R71 to R74, R223 to R226): each of these commands is the moment
at which the controller does it, and changes nothing while its condition does not hold.
-/
namespace Sys2Proof.Machine

/-- HEAT_REPORT (R223): a Steward takes a Tarn's report of a sampled read of a sealed block, and raises its heat, to at most 7. -/
def execHeatReport (block : Nat) (s : State) : Answer :=
  if !s.kv.reports.contains block then .next s
  else
    let s : State := { s with kv := { s.kv with reports := s.kv.reports.erase block } }
    match s.blk block with
    | none => .next s
    | some b => if b.shut then .next (s.setHeat block (min 7 (b.heat + 1))) else .next s

/-- HEAT_DECAY (R223): after DECAY_CYCLES management cycles every block's heat is halved. -/
def execHeatDecay (s : State) : Answer :=
  if s.mgmt.decay < s.param 3 then .next s
  else
    let s := s.kv.blks.foldl (fun s e => match e.2 with | some b => s.setHeat e.1 (b.heat / 2) | none => s) s
    .next { s with mgmt := { s.mgmt with decay := 0 } }

/-- VERSION_RETIRE (R71): a version whose time-to-live has run out, with no pin, and past its retention after a takeover. -/
def execVersionRetire (tenant : BitVec 8) (key : Word) (version : BitVec 32) (s : State) : Answer :=
  match s.region tenant.toNat key.toNat with
  | none => .next s
  | some r =>
    match r.find version.toNat with
    | none => .next s
    | some v =>
      if v.left = some 0 ∧ v.kept = 0 ∧ s.pinTotal tenant.toNat key.toNat version.toNat = 0 then .next (s.retire r version.toNat)
      else .next s

/-- VERSION_BLOCKS_FREE (R72): a retired version's blocks, once every earlier job has completed; those another version or a sequence names stay. -/
def execVersionBlocksFree (tenant : BitVec 8) (key : Word) (version : BitVec 32) (s : State) : Answer :=
  match s.region tenant.toNat key.toNat with
  | none => .next s
  | some r =>
    match r.versions.find? (fun v => v.number == version.toNat) with
    | none => .next s
    | some v =>
      if v.retired && s.allDone v.waits && !s.inDestroy v.basin then
        .next ((s.putRegion { r with versions := r.versions.filter (fun x => x.number != v.number) }).dropBlocks (tableBlocks v.blocks))
      else .next s

/-- REGION_KEY_FREE (R64): a key with no live version for 65,536 cycles is freed with its counter. -/
def execRegionKeyFree (tenant : BitVec 8) (key : Word) (s : State) : Answer :=
  match s.region tenant.toNat key.toNat with
  | none => .next s
  | some r =>
    if r.versions = [] ∧ 65536 ≤ r.idle then
      .next { s with kv := { s.kv with regions := s.kv.regions.filter (fun x => !(x.tenant == r.tenant && x.key == r.key)) } }
    else .next s

/-- SEQ_EXPIRY (R61): the idle time-to-live has run out and no job that names the sequence runs. -/
def execSeqExpiry (slot : BitVec 18) (s : State) : Answer :=
  match s.seqAt slot.toNat with
  | none => .next s
  | some q =>
    let h := s.handleOf slot.toNat
    if q.ttl ≠ 0 ∧ q.ttl ≤ q.idle ∧ !(s.jobs.jobs.any (fun j => j.handle == some h)) then .next (s.closeSeq slot.toNat) else .next s

/-- SEQ_FREE (R62): the last earlier job of a closing sequence has completed: its pin and its unshared blocks go, and the slot's generation advances. While the
destroy that closed it could still change nothing (R270), it waits. -/
def execSeqFree (slot : BitVec 18) (s : State) : Answer :=
  match s.seqAt slot.toNat with
  | none => .next s
  | some q =>
    if q.shut && s.allDone q.waits && !s.inDestroy q.basin then
      let s := (s.setSeq slot.toNat none).dropBlocks (tableBlocks q.blocks)
      .next { s with kv := { s.kv with gens := Tbl.set (fun _ => 0) s.kv.gens slot.toNat ((s.genOf slot.toNat + 1) % 2 ^ 14) } }
    else .next s

/-- TAKEOVER_RETENTION_END (R74): the 10,000 cycles are over, and ordinary retirement applies again. -/
def execTakeoverRetentionEnd (tenant : BitVec 8) (key : Word) (version : BitVec 32) (s : State) : Answer :=
  match s.region tenant.toNat key.toNat with
  | none => .next s
  | some r =>
    let vs := r.versions.map (fun (v : Version) => if v.number = version.toNat ∧ v.kept = 1 then { v with kept := 0 } else v)
    .next (s.putRegion { r with versions := vs })

/-- BLOCK_MOVE_SWITCH (R33, R226): the block's lines have been copied, and its table entry names the new copy; jobs that began before read the old one. A
move of a block that nothing live names any more is abandoned. -/
def execBlockMoveSwitch (block : Nat) (s : State) : Answer :=
  match s.kv.moves.find? (fun m => m.blk == block), s.blk block with
  | some m, some b =>
    let rest := s.kv.moves.filter (fun m => m.blk != block)
    let live := s.kv.seqs.any (fun e => e.2.elim false (fun q => !q.shut && (tableBlocks q.blocks).contains block))
      || s.kv.regions.any (fun r => r.live.any (fun v => (tableBlocks v.blocks).contains block))
    let s := ({ s with kv := { s.kv with moves := rest } } : State)
    if !live then .next s
    else
      let z := frameBytes b.format (dimOf b.hdim)
      let kslot := (s.basin b.basin).elim 0 (·.tenant)
      let s := s.copyLines b.pa m.dst kslot (List.range (z / 64))
      let l := s.pool.line m.dst
      let s := ({ s with pool := s.pool.setLine m.dst { l with heat := b.heat } } : State).mirrorLine m.dst
      let o : OldFrame := { pa := b.pa, bytes := z, waits := s.inFlight }
      let s := { s with kv := { s.kv with old := s.kv.old ++ [o] } }
      .next (s.setBlk block (some { b with pa := m.dst }))
  | _, _ => .next s

/-- OLD_COPY_FREE (R33): every job begun before the switch has written its completion record. -/
def execOldCopyFree (frame : BitVec 48) (s : State) : Answer :=
  .next { s with kv := { s.kv with old := s.kv.old.filter (fun f => !(f.pa == frame.toNat && s.allDone f.waits)) } }

end Sys2Proof.Machine
end

