-- ==== Sys2Proof/Machine/Bus.lean ====
section
/-!
DEFINITION. A register write by a control core (R10, R125): what its fields that have a row of their own set going, by calling that row. Where a row's operand
tells another's answer, a free value stands for it (log entry 103).
-/
namespace Sys2Proof.Machine

/-- The state a row leads to. -/
def State.andThen (s : State) (f : State → Answer) : State :=
  match f s with
  | .next t => t
  | .fault _ | .refused _ => s

/-- Run a row where a condition holds. -/
def State.runIf (s : State) (b : Bool) (f : State → Answer) : State := if b then s.andThen f else s

/-- A free number below a bound, for a row that a core's store sets going. -/
def State.free (s : State) (n : Nat) : Nat := Config.freeNat s.fresh % n

/-- One write: the register's offset, the bits it covers, its value in place. -/
structure BusWrite where
  off : Nat
  mask : Nat
  raw : Nat

/-- The write covers a field, the bits it gives it, and the field as it becomes. -/
def BusWrite.covers (w : BusWrite) (f : Fld) : Bool := bitsOf w.mask f.lo f.w != 0
def BusWrite.bits (w : BusWrite) (f : Fld) : Nat := bitsOf w.raw f.lo f.w
def BusWrite.sets (w : BusWrite) (f : Fld) : Bool := w.bits f != 0
def BusWrite.merged (w : BusWrite) (s : State) (f : Fld) : Nat := if w.covers f then w.bits f else s.get w.off f
/-- The whole register as the write leaves it. -/
def BusWrite.word (w : BusWrite) (s : State) : Nat := w.raw ||| ((s.reg w.off).toNat &&& (2 ^ 64 - 1 - w.mask))

/-! ### By block -/

def State.ownTarn (s : State) (w : BusWrite) (n : Fin 100) : State :=
  if w.off ≠ R.TARN_CTRL n then s
  else
    let roles : Bool := w.covers F.TARN_CTRL_ROLE || w.covers F.TARN_CTRL_ROLE2_EN || w.covers F.TARN_CTRL_ROLE2
    let v := BitVec.ofNat 64 (w.word s)
    (s.runIf roles (execTarnRoleWrite n v)).runIf (w.sets F.TARN_CTRL_FAULT) (execTarnFaultWrite n)

def State.ownJob (s : State) (w : BusWrite) : State :=
  if w.off = R.JOB_CTRL then s.runIf (w.covers F.JOB_CTRL_ENABLE) (execJobEnable (w.sets F.JOB_CTRL_ENABLE))
  else if w.off = R.JOB_ICFG_CMD then
    (s.runIf (w.bits F.JOB_ICFG_CMD_OP == 1) execInletConfigRead).runIf (w.bits F.JOB_ICFG_CMD_OP == 2) execInletConfigWrite
  else s

def State.ownPond (s : State) (w : BusWrite) (n : Fin 384) : State :=
  if w.off ≠ R.POND_CTRL n then s
  else (s.runIf (w.sets F.POND_CTRL_FAULT) (execPondFaultWrite n)).runIf (w.sets F.POND_CTRL_TRAIN) (execPondTrain n)

def State.ownSpill (s : State) (w : BusWrite) (n : Fin 12) : State :=
  if w.off ≠ R.SPILL_CTRL n then s
  else (s.runIf (w.covers F.SPILL_CTRL_HOLD) (execSpillHold n (w.sets F.SPILL_CTRL_HOLD))).runIf (w.sets F.SPILL_CTRL_TRAIN)
    (execSpillTrain n (Config.dimms n))

/-- XLAT_CMD by its OP (R265). -/
def State.ownXlat (s : State) (w : BusWrite) : State :=
  if w.off = R.XLAT_FQ_PTR then s.runIf (w.covers F.XLAT_FQ_PTR_HEAD) (execFaultQueueHeadWrite (BitVec.ofNat 11 (w.bits F.XLAT_FQ_PTR_HEAD)))
  else if w.off = R.XLAT_CMD then
    let p : Fin 10 := Fin.ofNat 10 (s.free 10)
    let s := s.tick
    match w.bits F.XLAT_CMD_OP with
    | 0x01 => s.andThen (execTenantCreate p)
    | 0x02 => s.andThen (execTenantDestroy p)
    | 0x03 => s.andThen (execEndpointBind p)
    | 0x04 => s.andThen (execEndpointUnbind p)
    | 0x05 => s.andThen (execContextCreate p)
    | 0x06 => s.andThen (execContextDestroy p)
    | 0x07 => s.tick.andThen (execBasinCreate p (Config.shadowOffsets s.fresh))
    | 0x08 => s.andThen (execBasinDestroy p)
    | _ => s
  else s

def State.ownMere (s : State) (w : BusWrite) (n : Fin 9) : State :=
  let e := (w.off - R.ROUTE 0) / 8
  if w.off = R.MERE_CTRL n then
    let ex := BitVec.ofNat 16 (s.get (R.MERE_LANECFG n) F.MERE_LANECFG_EXCLUDE)
    let wm : Fin 4 := Fin.ofNat 4 (w.bits F.MERE_CTRL_WIDTH_MAX)
    let s := s.runIf (w.covers F.MERE_CTRL_WIDTH_MAX) (execWidthChange n wm ex)
    let s := s.runIf (w.sets F.MERE_CTRL_BREAK) (execMereBreak n)
    let s := s.runIf (w.covers F.MERE_CTRL_ENABLE) (execMereEnable n (w.sets F.MERE_CTRL_ENABLE))
    (s.runIf (w.sets F.MERE_CTRL_RETRAIN) (execMereRetrain n)).runIf (w.sets F.MERE_CTRL_WIDEN) (execMereWiden n)
  else if w.off = R.MERE_LANECFG n then
    let wm : Fin 4 := Fin.ofNat 4 (s.get (R.MERE_CTRL n) F.MERE_CTRL_WIDTH_MAX)
    s.runIf (w.covers F.MERE_LANECFG_EXCLUDE) (execWidthChange n wm (BitVec.ofNat 16 (w.bits F.MERE_LANECFG_EXCLUDE)))
  else if R.ROUTE 0 ≤ w.off ∧ e < 4096 then s.runIf (w.covers F.ROUTE_VALID) (execRouteWrite (BitVec.ofNat 12 e) (BitVec.ofNat 64 (w.word s)))
  else s

def State.ownShal (s : State) (w : BusWrite) : State :=
  let e := (w.off - R.SHAL_PRIV_CTL 0) / 64
  if h : e < 64 then
    if w.off = R.SHAL_PRIV_CTL e then s.runIf (w.covers F.SHAL_PRIV_CTL_ENDPOINT) (execPrivEntryWrite ⟨e, h⟩ (BitVec.ofNat 64 (w.word s))) else s
  else s

def State.ownDir (s : State) (w : BusWrite) : State :=
  if w.off ≠ R.DIR_CMD then s
  else
    let ep := BitVec.ofNat 12 (w.merged s F.DIR_CMD_ENDPOINT)
    (s.runIf (w.bits F.DIR_CMD_OP == 1) (execDeclareDead ep)).runIf (w.bits F.DIR_CMD_OP == 2) (execRelease ep)

def State.ownRas (s : State) (w : BusWrite) (ans : List SnoopAnswer) : State :=
  let log := w.off - R.RAS_CELOG 0 0 0
  if w.off = R.RAS_CMD then
    let t : Fin 16 := Fin.ofNat 16 (w.merged s F.RAS_CMD_TARGET)
    match w.bits F.RAS_CMD_OP with
    | 1 => s.andThen (execStackFail t)
    | 2 => s.andThen (execRebuild t)
    | 3 => s.andThen (execEvacuate t ans)
    | 4 => s.andThen (execHardRepair t)
    | 5 => s.andThen (execRetest t)
    | _ => s
  else if R.RAS_CELOG 0 0 0 ≤ w.off ∧ log < 396 * 256 ∧ log % 16 = 0 ∧ w.covers F.RAS_CELOG0_VALID ∧ !w.sets F.RAS_CELOG0_VALID then
    s.andThen (execCelogClear (Fin.ofNat 396 (log / 256)) (Fin.ofNat 16 (log / 16)))
  else s

def State.ownPair (s : State) (w : BusWrite) (ans : List SnoopAnswer) : State :=
  if w.off ≠ R.PAIR_CMD then s
  else match w.bits F.PAIR_CMD_OP with
    | 1 => s.andThen execTakeover
    | 2 => s.andThen execFenceRelease
    | 3 => (s.tick.tick).andThen (execAdmit (Fin.ofNat 5 (s.free 5)) (Config.shadowOffsets (s.fresh + 1)))
    | 4 => s.andThen (execSwitchBack (BitVec.ofNat 10 (w.merged s F.PAIR_CMD_BASIN)) (w.merged s F.PAIR_CMD_ALL == 1) ans)
    | _ => s

def State.ownSec (s : State) (w : BusWrite) : State :=
  if w.off = R.SEC_KCMD then
    let k := BitVec.ofNat 9 (w.merged s F.SEC_KCMD_SLOT)
    match w.bits F.SEC_KCMD_OP with
    | 1 => (s.tick.tick).andThen (execImport k (if s.free 2 = 1 then some (BitVec.ofNat 32 (Config.freeNat (s.fresh + 1))) else none))
    | 2 => s.andThen (execErase k (w.merged s F.SEC_KCMD_FORCE == 1))
    | 3 => s.andThen (execQuery k)
    | _ => s
  else if w.off = R.SEC_ACMD then
    s.runIf (w.sets F.SEC_ACMD_REPORT) (execReport (w.merged s F.SEC_ACMD_SCOPE == 1) (BitVec.ofNat 8 (w.merged s F.SEC_ACMD_TENANT)))
  else if w.off = R.SEC_MEXT_CMD then s.runIf (w.sets F.SEC_MEXT_CMD_EXTEND) execExtend
  else if w.off = R.SEC_SVN ∧ w.sets F.SEC_SVN_COMMIT then s.tick.tick.andThen (execCommit (s.free 2 == 1) (s.tick.free 2 == 1))
  else s

def State.ownRst (s : State) (w : BusWrite) : State :=
  if w.off = R.RST_SWRESET then
    let c := BitVec.ofNat 8 (w.bits F.RST_SWRESET_CONFIRM)
    (s.runIf (w.bits F.RST_SWRESET_LEVEL == 1) (execSwChip c)).runIf (w.bits F.RST_SWRESET_LEVEL == 2) (execSwData c)
  else if w.off = R.RST_WDOG then s.runIf (w.sets F.RST_WDOG_KICK) execKick
  else if w.off = R.RST_UNIT then
    let k : Fin 4 := Fin.ofNat 4 (w.merged s F.RST_UNIT_KIND)
    let i := BitVec.ofNat 9 (w.merged s F.RST_UNIT_INDEX)
    match w.bits F.RST_UNIT_OP with
    | 1 => s.andThen (execEnter k i)
    | 2 => s.andThen (execLeave k i)
    | 3 => s.andThen (execPulse k i)
    | _ => s
  else s

/-- WELL_CORECTL (R142, R557): each bit written 1. -/
def State.ownWell (s : State) (w : BusWrite) : State :=
  if w.off ≠ R.WELL_CORECTL then s
  else [0, 1, 2, 3].foldl (fun s (i : Fin 4) =>
    ((s.runIf (bitOf (w.bits F.WELL_CORECTL_RELEASE) i) (execWellCoreRelease i)).runIf (bitOf (w.bits F.WELL_CORECTL_STEWARD_RELEASE) i)
      (execStewardRelease i)).runIf (bitOf (w.bits F.WELL_CORECTL_STEWARD_RESTART) i) (execStewardRestart i)) s

def State.ownMgmt (s : State) (w : BusWrite) : State :=
  if w.off = R.MGMT_CTRL then s.runIf (w.covers F.MGMT_CTRL_MBX_EN) (execMbxEn (w.sets F.MGMT_CTRL_MBX_EN))
  else if w.off = R.MGMT_CMD_PTR then s.runIf (w.covers F.MGMT_CMD_PTR_TAIL) (execCmdTailWrite (BitVec.ofNat 16 (w.bits F.MGMT_CMD_PTR_TAIL)) [])
  else if w.off = R.MGMT_EVT_PTR then s.runIf (w.covers F.MGMT_EVT_PTR_HEAD) (execEvtHeadWrite (BitVec.ofNat 16 (w.bits F.MGMT_EVT_PTR_HEAD)))
  else if w.off = R.MGMT_SNAP then s.runIf (w.sets F.MGMT_SNAP_START) execStart
  else s

/-- A write by a control core, with what each field it writes sets going (R10, R125). -/
def State.ownWrite (s : State) (addr size v : Nat) (ans : List SnoopAnswer) : State :=
  let off := addr / 8 * 8
  let w : BusWrite := { off := off, mask := accessMask addr size, raw := accessRaw addr size v }
  let busy := s.cmdBusy off
  let s := s.busWrite addr size v
  if busy then s
  else match locate off with
    | none => s
    | some (b, n, _) =>
      match b with
      | .tarn => s.ownTarn w (Fin.ofNat 100 n)
      | .job => s.ownJob w
      | .pond => s.ownPond w (Fin.ofNat 384 n)
      | .spill => s.ownSpill w (Fin.ofNat 12 n)
      | .xlat => s.ownXlat w
      | .mere => s.ownMere w (Fin.ofNat 9 n)
      | .shal => s.ownShal w
      | .dir => s.ownDir w
      | .ras => s.ownRas w ans
      | .pair => s.ownPair w ans
      | .sec => s.ownSec w
      | .rst => s.ownRst w
      | .well => s.ownWell w
      | .mgmt => s.ownMgmt w
      | .pwr => if off = R.PWR_FEED_CMD then s.runIf (w.sets F.PWR_FEED_CMD_RESTORE) execRestore else s
      | .clk => if off = R.CLK_SEL then s.runIf (w.covers F.CLK_SEL_WELL_SRC) (execClkSelWrite (BitVec.ofNat 3 (w.raw % 8))) else s
      | .glob | .qos => s

end Sys2Proof.Machine
end

