-- ==== Sys2Proof/Machine/Stores.lean ====
section
/-!
DEFINITION. What a control core stores (R121, R125, R126, R131): to SRAM, to a register, to a line of the pool; and the atomics.
-/
namespace Sys2Proof.Machine

/-- Store bytes at an aligned address: the state and the core, or nothing where the access faults. A register takes the write, with all that it sets going; a
line of the pool is gained for writing first (R125, R126). -/
def State.coreStore (s : State) (i : Nat) (c : WCore) (a : Nat) (d : List Byte) (ans : List SnoopAnswer) : State × Option WCore :=
  match coreMap i a with
  | .sram o =>
    if i < 4 then ({ s with wsram := tblStore s.wsram o d }, some c) else (s, some { c with sram := tblStore c.sram o d })
  | .regs o =>
    if regSize d.length then
      let t := s.ownWrite o d.length (leNat d) ans
      (t, some (t.core i))
    else (s, none)
  | .rom _ => (s, none)
  | .pool pa =>
    let la := pa / 64 * 64
    let m := s.pair.nextMirror
    match (s.coreOwn i la ans).memRead la none c.slot with
    | (s, r) =>
      if r.stat ≠ .ok then (s, none)
      else
        match s.coreStoreLine c la r.poison ((r.data.take (pa - la) ++ d ++ r.data.drop (pa - la + d.length)).take 64) with
        | (s, .ok) => (s, some { c with stores := c.stores ++ s.mirrorsSince m })
        | (s, _) => (s, none)
  | .hole => (s, none)

/-- The core is still the one that ran the store: what the store set going has not reset it, restarted it or stopped it. -/
def State.sameCore (s t : State) (c d : WCore) : Bool := d.st == c.st && d.pc == c.pc && s.rst.booted == t.rst.booted

/-- A store instruction (R121, R124). -/
def State.storeOp (s : State) (i : Nat) (c : WCore) (n : Nat) (rb ra : Fin 32) (imm : BitVec 16) (ans : List SnoopAnswer) : WOut :=
  let a := (c.get ra + sext64 imm) % two64
  if a % n ≠ 0 then .exc s c.pc ecMisaligned a
  else match s.coreStore i c a (leBytes (c.get rb) n) ans with
    | (t, none) => .exc t c.pc ecStore a
    | (t, some d) => if s.sameCore t c d then .retire t d ((c.pc + 4) % two64) else .replaced t

/-! ### Atomics (R131) -/

/-- What memory becomes. -/
def atomNew (k old rb rd : Nat) : Nat :=
  match k with
  | 0x1 => rb
  | 0x2 => aluFn 64 .add old rb
  | 0x3 => aluFn 64 .bitAnd old rb
  | 0x4 => aluFn 64 .bitOr old rb
  | 0x5 => aluFn 64 .bitXor old rb
  | 0x6 => aluFn 64 .max old rb
  | 0x7 => aluFn 64 .min old rb
  | 0x8 => aluFn 64 .maxu old rb
  | 0x9 => aluFn 64 .minu old rb
  | _ => if old = rd then rb else old

/-- An atomic on pool memory first gains exclusive ownership of the line (R131). -/
def State.gainFor (s : State) (i a : Nat) (ans : List SnoopAnswer) : State :=
  match coreMap i a with
  | .pool pa => s.coreOwn i (pa / 64 * 64) ans
  | .sram _ | .regs _ | .rom _ | .hole => s

/-- ATOM (R131): a compare that fails stores nothing. -/
def State.atomOp (s : State) (i : Nat) (c : WCore) (rd ra rb : Fin 32) (fn : BitVec 11) (ans : List SnoopAnswer) : WOut :=
  let a := c.get ra
  if !atomFnOk fn.toNat then .exc s c.pc ecIllegal (wordA 0x30 rd ra rb fn)
  else if a % 8 ≠ 0 then .exc s c.pc ecMisaligned a
  else
    let open_ : Bool := match coreMap i a with
      | .sram _ => true
      | .pool _ => true
      | .regs _ => false
      | .rom _ => false
      | .hole => false
    if !open_ then .exc s c.pc ecStore a
    else match (s.gainFor i a ans).coreLoad i c a 8 ans with
      | (s, .fault) => .exc s c.pc ecStore a
      | (s, .poison l) => .exc s c.pc ecPoison l
      | (s, .val d) =>
        let old := leNat d
        if fn.toNat % 16 = 0xA ∧ old ≠ c.get rd then c.write s rd old
        else match s.coreStore i c a (leBytes (atomNew (fn.toNat % 16) old (c.get rb) (c.get rd)) 8) ans with
        | (s, none) => .exc s c.pc ecStore a
        | (s, some c) => c.write s rd old

/-! ### The rows -/

/-- SB (R121, R124 to R126). -/
def execSb (core : Fin 8) (rb ra : Fin 32) (imm : BitVec 16) (answers : List SnoopAnswer) (ecc : Ecc) (s : State) : Answer :=
  s.runOn core ecc fun c => s.storeOp core c 1 rb ra imm answers

/-- SH (R121, R124 to R126). -/
def execSh (core : Fin 8) (rb ra : Fin 32) (imm : BitVec 16) (answers : List SnoopAnswer) (ecc : Ecc) (s : State) : Answer :=
  s.runOn core ecc fun c => s.storeOp core c 2 rb ra imm answers

/-- SW (R121, R124 to R126). -/
def execSw (core : Fin 8) (rb ra : Fin 32) (imm : BitVec 16) (answers : List SnoopAnswer) (ecc : Ecc) (s : State) : Answer :=
  s.runOn core ecc fun c => s.storeOp core c 4 rb ra imm answers

/-- SD (R121, R124 to R126). -/
def execSd (core : Fin 8) (rb ra : Fin 32) (imm : BitVec 16) (answers : List SnoopAnswer) (ecc : Ecc) (s : State) : Answer :=
  s.runOn core ecc fun c => s.storeOp core c 8 rb ra imm answers

/-- ATOM (R131). -/
def execAtom (core : Fin 8) (rd ra rb : Fin 32) (fn : BitVec 11) (answers : List SnoopAnswer) (ecc : Ecc) (s : State) : Answer :=
  s.runOn core ecc fun c => s.atomOp core c rd ra rb fn answers

end Sys2Proof.Machine
end

