-- ==== Sys2Proof/Machine/TarnProg.lean ====
section
/-!
DEFINITION. Chotaum-T programs (R143 to R157): what each slot of a bundle does, how a bundle issues, loops and branches, program exceptions, and the end of a
slice or a merge. A command brings the bundle that stands at the program counter of the Tarn's program.
-/
namespace Sys2Proof.Machine

/-! ### Causes (R157) -/
def xcIllegal : Nat := 0x01
def xcConflict : Nat := 0x02
def xcPcRange : Nat := 0x03
def xcSramRange : Nat := 0x04
def xcSramAlign : Nat := 0x05
def xcStreamRange : Nat := 0x06
def xcDescKind : Nat := 0x07
def xcLoopDepth : Nat := 0x08
def xcMergeMismatch : Nat := 0x09
def xcTrap : Nat := 0x0A

/-! ### Registers and block SRAM (R147, R148) -/

/-- t register; t0 reads as 0. -/
def Tarn.treg (x : Tarn) (r : Fin 16) : Nat := if r.val = 0 then 0 else Tbl.get (fun _ => 0) x.t r
def Tarn.vreg (x : Tarn) (r : Fin 32) : Nat := Tbl.get (fun _ => 0) x.v r
def Tarn.sdesc (x : Tarn) (r : Fin 16) : SDesc := Tbl.get (fun _ => {}) x.s r
/-- Block SRAM that nothing has written reads as 0. Log entry 41. -/
def Tarn.sramBytes (x : Tarn) (a : Nat) (n : Nat) : List Byte := (List.range n).map (fun i => Tbl.get (fun _ => 0) x.sram (a + i))
def Tarn.sramNum (x : Tarn) (a n : Nat) : Nat := leNat (x.sramBytes a n)
def sramWrite (m : List Host.Cell) (a : Nat) : List Byte → List Host.Cell
  | [] => m
  | b :: t => sramWrite (Tbl.set (fun _ => 0) m a b) (a + 1) t

/-- Set or clear the poison flag of a line of block SRAM (R147). -/
def setLineFlag (l : List Nat) (i : Nat) (b : Bool) : List Nat :=
  if b then (if l.contains i then l else l ++ [i]) else l.filter (· != i)

/-- Some byte of a range lies past block SRAM. -/
def sramOut (a n : Nat) : Bool := 0x200000 < a + n
/-- Some byte of a range lies in the block area of a bank (R80, R147). -/
def sramBlock (a n : Nat) : Bool := n != 0 && (a < 196608 || (0x100000 < a + n && a < 0x100000 + 196608))
/-- A flag among the lines a range touches. -/
def Tarn.flagged (x : Tarn) (a n : Nat) : Bool := (spanLines a (a + n)).any x.flags.contains
/-- Transfers outstanding on a descriptor register (R149). -/
def Tarn.outstanding (x : Tarn) (r : Nat) : Nat :=
  (x.xfers.filter (fun f => match f with | .block s _ _ => s == r | .linear s _ _ _ => s == r)).length
def Tarn.filling (x : Tarn) (bank : Nat) : Bool := x.xfers.any (fun f => match f with | .block _ b _ => b == bank | .linear _ _ _ _ => false)
def Tarn.bank (x : Tarn) (b : Nat) : Option BankBlk := if b = 0 then x.bank0 else x.bank1
def sextN (v w : Nat) : Int := signedOf v w
/-- An SRAM address formed from a t register and an offset, modulo 2^32. -/
def addrOff (t : Nat) (o : Int) : Nat := unsignedOf (Int.ofNat t + o) 32

/-- QSTRIDE (R152). -/
def qstride (d : Nat) : Nat := roundUp (d + d / 8) 64

/-! ### Effects of a slot -/

/-- What a slot asks of the stream engine or of the program's end. -/
inductive TAct where
  | none
  | fetch (f : Xfer)
  | write (sd off : Nat) (sram len : Nat)
  | send (bytes : List Byte) (bad : List Nat)
  | claim (addr : Nat)
  | finish
  deriving DecidableEq, Repr

/-- Where control goes after the bundle. -/
inductive TCtl where
  | seq
  | branch (target : Nat)
  | loop (n count : Nat)
  deriving DecidableEq, Repr

/-- The effect of one slot: registers and memory it writes, tiles, saturations and clips it counts, records it has combined, what it found for the completion
record, free values it has drawn, its action, and control. -/
structure TEff where
  tw : List (Nat × Nat) := []
  vw : List (Nat × Nat) := []
  sw : List (Nat × SDesc) := []
  mem : List (Nat × List Byte) := []
  flg : List (Nat × Bool) := []
  tiles : Option (List Tile) := none
  count : Option Nat := none
  mb : Option (List (Option Int)) := none
  sat : SatCount := {}
  clips : Nat := 0
  merged : Nat := 0
  sawPoison : Bool := false
  /-- Bank over whose block MACC has made a pass. -/
  pass : Option Nat := none
  report : List (Nat × Nat × Bool × Bool) := []
  draws : Nat := 0
  act : TAct := .none
  ctl : TCtl := .seq
  deriving DecidableEq, Repr

/-- A slot cannot issue yet, raises an exception, with a TRAP's code, or has an effect. -/
inductive TRes where
  | stall
  | exc (cause : Nat) (code : Nat := 0)
  | eff (e : TEff)
  deriving DecidableEq, Repr

/-- What a slot sees: the Tarn and its quadrant, its program, the job, and a number for free values. -/
structure TEnv where
  x : Tarn
  quad : Nat
  r : TRun
  j : Job
  fresh : Nat

def TEnv.d (e : TEnv) : Nat := dimOf e.j.hdim

/-- Slices of the records that a merge's program has taken from its ring: those counted on arrival less those still in the ring (R94). -/
def Tarn.combined (x : Tarn) (m : Merge) (id : Nat) : Nat :=
  m.count - (x.ring.filter (fun y => y.job == id)).foldl (fun n y => n + y.weight) 0

/-- A merge may forward its result, write the output, or complete the job (R28, R94, R182): its count equals the announced count. A worker's program is held by no
count. -/
def TEnv.closes (e : TEnv) : Bool :=
  match e.r.what with
  | .worker => true
  | .ingest => true
  | .merge => (e.j.merge? e.quad).elim true (fun m => e.x.combined m e.r.job == m.announced)
  | .final => (e.j.merge? e.quad).elim true (fun m => e.x.combined m e.r.job == m.announced)

/-- What a record's tiles say for the completion record, with clips counted by tile (R97, R99, R178). -/
def notesOf (ts : List (Tile × Nat)) : List (Nat × Nat × Bool × Bool) :=
  ts.map (fun p => (p.1.qhead, satAdd p.1.sat p.2 u32Max, p.1.poison, p.1.empty))

/-! ### S slot (R149, R150) -/

/-- A range SLIN may write: inside block SRAM and no block area (R147: only SBLK writes block areas). -/
def sramWriteOk (a n : Nat) : Bool := !sramOut a n && !sramBlock a n

/-- The address of the ring slot SRECV claims: the manual does not place it, so it is a free line of the work areas. Log entry 42. -/
def ringSlot (n len : Nat) : Nat :=
  let f := Config.freeNat n
  let a := min (64 * (f % 13312)) (851968 - roundUp len 64)
  (f / 13312 % 2) * 0x100000 + 196608 + a

def evalS (e : TEnv) : SOp → TRes
  | .nop => .eff {}
  | .bad => .exc xcIllegal
  | .sblk sd ta tb =>
    let d := e.x.sdesc sd
    if d.kind ≠ 1 then .exc xcDescKind
    else if d.count ≤ e.x.treg ta then .eff {}
    else match e.j.slices.find? (fun y => y.id == d.base) with
      | none => .eff {}
      | some sl => .eff { act := .fetch (.block sd (e.x.treg tb % 2) (sl.blocks.getD (e.x.treg ta) 0)) }
  | .slin sd ta sram =>
    let d := e.x.sdesc sd
    let a := sram.toNat * 128
    if d.kind ≠ 2 ∧ d.kind ≠ 6 then .exc xcDescKind
    else if d.offset + d.len < e.x.treg ta + d.len then .exc xcStreamRange
    else if !sramWriteOk a d.len then .exc xcSramRange
    else .eff { act := .fetch (.linear sd a (d.base + e.x.treg ta) d.len) }
  | .swrt sd ta sram =>
    let d := e.x.sdesc sd
    let a := sram.toNat * 128
    if d.kind ≠ 3 then .exc xcDescKind
    else if d.offset + d.len < e.x.treg ta + d.len then .exc xcStreamRange
    else if sramOut a d.len then .exc xcSramRange
    else if !e.closes then .stall
    else
      .eff { act := .write sd (e.x.treg ta) a d.len,
             report := if e.j.desc.partialOut then notesOf ((partialOf (e.x.sramBytes a d.len)).tiles.map (fun y => (y, 0))) else [] }
  | .ssend sd ta =>
    let a := e.x.treg ta
    if (e.x.sdesc sd).kind ≠ 4 then .exc xcDescKind
    else if sramOut a 64 then .exc xcSramRange
    else
      let n := partialBytes (e.x.sramNum (a + 8) 2) (dimOf (e.x.sramNum (a + 10) 1 % 4))
      if sramOut a n then .exc xcSramRange
      else if !e.closes then .stall
      else .eff { act := .send (e.x.sramBytes a n) ((List.range ((n + 63) / 64)).filter (fun i => e.x.flagged (a + 64 * i) (min 64 (n - 64 * i)))) }
  | .srecv sd td =>
    if (e.x.sdesc sd).kind ≠ 5 then .exc xcDescKind
    else match e.x.ring.find? (fun y => y.job == e.r.job) with
      | none => .stall
      | some y =>
        let a := ringSlot e.fresh y.bytes.length
        .eff { tw := [(td.val, a)], mem := [(a, y.bytes)], act := .claim a, draws := 1,
               flg := (spanLines a (a + y.bytes.length)).map (fun l => (l, y.bad.contains (l - a / 64))) }
  | .swait sd tb mode =>
    if mode.toNat = 0 then (if e.x.outstanding sd = 0 then .eff {} else .stall)
    else if mode.toNat = 1 ∧ sd.val = 0 then (if e.x.filling (e.x.treg tb % 2) then .stall else .eff {})
    else .exc xcIllegal
  | .scopy sd sa => .eff { sw := [(sd.val, e.x.sdesc sa)] }
  | .sset sd ta field =>
    let d := e.x.sdesc sd
    let v := e.x.treg ta
    if field.toNat = 2 then
      (if v < d.offset ∨ d.count < v + d.len then .exc xcStreamRange else .eff { sw := [(sd.val, { d with offset := v })] })
    else if field.toNat = 3 then
      (if d.len < v then .exc xcStreamRange else .eff { sw := [(sd.val, { d with len := v })] })
    else .exc xcIllegal

/-! ### V slot (R151, R152) -/

/-- A lane of `w` bits. -/
def lane (v w i : Nat) : Nat := bitsOf v (w * i) w
/-- A register from its lanes. -/
def ofLanes (w : Nat) : List Nat → Nat
  | [] => 0
  | a :: t => a % 2 ^ w + 2 ^ w * ofLanes w t

/-- One lane of VOP; ADD, SUB and SHL saturate as signed values. -/
def laneOp (w fn a b : Nat) : Option Nat :=
  let sat (x : Int) : Nat := unsignedOf (clipInt x (-(2 ^ (w - 1))) (2 ^ (w - 1) - 1)) w
  let x := signedOf a w
  let y := signedOf b w
  match fn with
  | 0x01 => some (sat (x + y))
  | 0x02 => some (sat (x - y))
  | 0x03 => some (if x < y then b else a)
  | 0x04 => some (if y < x then b else a)
  | 0x05 => some (a &&& b)
  | 0x06 => some (a ||| b)
  | 0x07 => some (a ^^^ b)
  | 0x08 => some (unsignedOf (shrRound x b) w)
  | 0x09 => some (sat (x * 2 ^ (min b w)))
  | _ => none

/-- Lane width of IMM11[10:9]. -/
def laneWidth (f : Nat) : Option Nat := if f = 0 then some 8 else if f = 1 then some 16 else if f = 2 then some 32 else none

/-- The rotated-query record of query head j of a query record (R84, R152), and whether a line of the head is flagged (R98). -/
def rotated (e : TEnv) (a j : Nat) : List Byte × Bool :=
  let d := e.d
  let qh := e.j.qh
  let area := 64 * ((qh + 31) / 32)
  let b := e.x.sramBytes a (queryBytes qh d)
  let gs := rotateQuery d (qWord b j) (qElems b qh d j)
  let codes := gs.flatMap (fun g => g.q.map (fun c => BitVec.ofNat 8 (unsignedOf c 8)))
  let ents := gs.flatMap (fun g => leBytes (g.m % 256) 2 ++ leBytes (unsignedOf g.e 16) 2)
  (codes ++ ents, e.x.flagged (a + 2 * j) 2 || e.x.flagged (a + area + j * d) d)

def evalV (e : TEnv) : VOp → TRes
  | .nop => .eff {}
  | .bad => .exc xcIllegal
  | .vld vd ta imm =>
    let a := addrOff (e.x.treg ta) (Int.ofNat (imm.toNat * 128))
    if a % 128 ≠ 0 then .exc xcSramAlign
    else if sramOut a 128 then .exc xcSramRange
    else .eff { vw := [(vd.val, e.x.sramNum a 128)] }
  | .vst vs ta imm =>
    let a := addrOff (e.x.treg ta) (Int.ofNat (imm.toNat * 128))
    if a % 128 ≠ 0 then .exc xcSramAlign
    else if !sramWriteOk a 128 then .exc xcSramRange
    else .eff { mem := [(a, leBytes (e.x.vreg vs) 128)] }
  | .vop vd va vb width fn =>
    match laneWidth width.val with
    | none => .exc xcIllegal
    | some w =>
      match laneOp w fn.toNat 0 0 with
      | none => .exc xcIllegal
      | some _ =>
        let a := e.x.vreg va
        let b := e.x.vreg vb
        .eff { vw := [(vd.val, ofLanes w ((List.range (1024 / w)).map (fun i => (laneOp w fn.toNat (lane a w i) (lane b w i)).getD 0)))] }
  | .vbc vd ta width =>
    match laneWidth width.val with
    | none => .exc xcIllegal
    | some w => .eff { vw := [(vd.val, ofLanes w ((List.range (1024 / w)).map (fun _ => e.x.treg ta % 2 ^ w)))] }
  | .vrotq td ta tb =>
    let a := e.x.treg ta
    let j := e.x.treg tb
    let n := qstride e.d
    if sramOut (a + 2 * j) 2 ∨ sramOut (a + 64 * ((e.j.qh + 31) / 32) + j * e.d) e.d ∨ !sramWriteOk (e.x.treg td) n then .exc xcSramRange
    else
      let r := rotated e a j
      .eff { mem := [(e.x.treg td, r.1)], sawPoison := r.2,
             flg := (spanLines (e.x.treg td) (e.x.treg td + n)).map (fun l => (l, r.2)) }

/-! ### M slot (R153) -/

/-- The first n tiles. -/
def TEnv.tiles (e : TEnv) : List Tile := e.x.a.take e.r.tiles

/-- Replace the first tiles. -/
def TEnv.putTiles (e : TEnv) (l : List Tile) : List Tile := l ++ e.x.a.drop l.length

/-- The rotated query of tile k: its groups, or none when a line of its record is flagged (R99). -/
def TEnv.query (e : TEnv) (tq k : Nat) : List Group :=
  let d := e.d
  let a := tq + k * qstride d
  if e.x.flagged a (qstride d) then []
  else
    let b := e.x.sramBytes a (d + d / 8)
    (List.range (d / 32)).map (fun g =>
      { kind := 0, m := leNat ((b.drop (d + 4 * g)).take 1), e := signedOf (leNat ((b.drop (d + 4 * g + 2)).take 2)) 16,
        q := ((b.drop (32 * g)).take 32).map (fun c => c.toInt), outl := [] })

/-- The block a bank holds, as MSCORE and MACC see it. -/
def TEnv.block (e : TEnv) (bank tokens : Nat) : BlockData :=
  let d := e.d
  let f := e.j.fmt
  let base := bank * 0x100000
  let im : FrameImg := (List.range ((frameBytes f d + 63) / 64)).map (fun o => (o, e.x.sramBytes (base + 64 * o) 64))
  let h := headerOf (e.x.sramBytes base 64)
  { format := f, d := d, tokens := tokens, image := im,
    outl := if f = 8 then [] else usedOutliers im d tokens 0 (min h.outliers (outlierCap d)) }

/-- The record at an SRAM address, if it lies within block SRAM. -/
def Tarn.recordAt (x : Tarn) (a : Nat) : Option Partial :=
  if sramOut a 64 then none
  else
    let n := partialBytes (x.sramNum (a + 8) 2) (dimOf (x.sramNum (a + 10) 1 % 4))
    if sramOut a n then none else some (partialOf (x.sramBytes a n))

def evalM (e : TEnv) : MOp → TRes
  | .nop => .eff {}
  | .bad => .exc xcIllegal
  | .mclr ta n =>
    if n.toNat = 0 ∨ 8 < n.toNat then .exc xcIllegal
    else
      let l := (List.range n.toNat).map (fun k => emptyTile e.d ((e.x.treg ta + k) % 65536))
      .eff { tiles := some (e.putTiles l), count := some n.toNat }
  | .mscore tl tq tb =>
    let bank := e.x.treg tb % 2
    let n := e.r.tiles
    match e.x.bank bank with
    | none => .eff { mb := some (List.replicate n none) }
    | some bb =>
      let a := e.x.treg tl
      if bb.poisoned then .eff { mb := some (List.replicate n none), tiles := some (e.putTiles (e.tiles.map (fun y => { y with poison := true }))) }
      else if sramOut (e.x.treg tq) (n * qstride e.d) ∨ (n ≠ 0 ∧ !sramWriteOk a (1024 * (n - 1) + 4 * bb.tokens)) then .exc xcSramRange
      else
        let b := e.block bank bb.tokens
        let rs := (List.range n).map (fun k =>
          let q := e.query (e.x.treg tq) k
          (q, if q = [] then [] else (List.range bb.tokens).map (fun t => logit b e.j.desc.scale t q)))
        let tl' := (List.range n).map (fun k =>
          let y := e.tiles.getD k (emptyTile e.d 0)
          let r := rs.getD k ([], [])
          let sc := r.2.foldl (fun m z => m + z.2) 0
          { y with poison := y.poison || r.1 == [], sat := (satU (y.sat + sc)).1 })
        .eff { mb := some (rs.map (fun r => blockMax (r.2.map (·.1)))), tiles := some (e.putTiles tl'),
               sat := { score := rs.foldl (fun m r => r.2.foldl (fun m z => m + z.2) m) 0 },
               mem := (List.range n).map (fun k => (a + 1024 * k, (rs.getD k ([], [])).2.flatMap (fun z => leBytes (unsignedOf z.1 32) 4))) }
  | .msoft =>
    .eff { tiles := some (e.putTiles ((List.range e.tiles.length).map (fun k =>
      let y := e.tiles.getD k (emptyTile e.d 0)
      match e.r.mb.getD k none with
      | none => y
      | some m => y.raise m))) }
  | .macc tl tb =>
    let bank := e.x.treg tb % 2
    match e.x.bank bank with
    | none => .eff {}
    | some bb =>
      if bb.poisoned then .eff { tiles := some (e.putTiles (e.tiles.map (fun y => { y with poison := true }))), pass := some bank }
      else if e.r.tiles ≠ 0 ∧ sramOut (e.x.treg tl) (1024 * (e.r.tiles - 1) + 4 * bb.tokens) then .exc xcSramRange
      else
        let b := e.block bank bb.tokens
        let rs := (List.range e.tiles.length).map (fun k =>
          let y := e.tiles.getD k (emptyTile e.d 0)
          if y.empty then (y, ({} : SatCount))
          else y.weigh b e.j.desc.valExp ((List.range bb.tokens).map (fun t => signedOf (e.x.sramNum (e.x.treg tl + 4 * (256 * k + t)) 4) 32)))
        .eff { tiles := some (e.putTiles (rs.map (·.1))), sat := rs.foldl (fun c r => c.add r.2) {}, pass := some bank }
  | .msave ta mode =>
    let a := e.x.treg ta
    let ents := e.tiles.flatMap (fun y => y.entry e.d)
    if 1 < mode.toNat then .exc xcIllegal
    else
      let b := if mode.toNat = 1 then ents
        else ({ sliceId := e.x.treg 5, slices := 1, hdim := e.j.hdim, valExp := e.j.desc.valExp, tiles := e.tiles } : Partial).bytes
      if !sramWriteOk a b.length then .exc xcSramRange else .eff { mem := [(a, b)] }
  | .mload ta =>
    let a := e.x.treg ta
    let n := 64 + 4 * e.d
    if sramOut a (e.r.tiles * n) then .exc xcSramRange
    else .eff { tiles := some (e.putTiles ((List.range e.r.tiles).map (fun k => tileOf (e.x.sramBytes (a + k * n) n) e.d))) }
  | .mcomb td ta =>
    match e.x.recordAt (e.x.treg td), e.x.recordAt (e.x.treg ta) with
    | some p, some r =>
      if p.slices ≠ 0 ∧ (p.valExp ≠ r.valExp ∨ p.hdim ≠ r.hdim) then .exc xcMergeMismatch
      else
        let c := p.combine r
        let b := c.1.bytes
        if !sramWriteOk (e.x.treg td) b.length then .exc xcSramRange
        else .eff { mem := [(e.x.treg td, b)], sat := c.2, merged := 1 }
    | _, _ => .exc xcSramRange
  | .mnorm td ta =>
    match e.x.recordAt (e.x.treg ta) with
    | none => .exc xcSramRange
    | some r =>
      let d := dimOf r.hdim
      let o := e.x.treg td
      if r.tiles.any (fun y => !sramWriteOk (o + 2 * y.qhead * d) (2 * d)) then .exc xcSramRange
      else
        let free (k i : Nat) : Int := signedOf (Config.freeNat (e.fresh + 1 + 512 * k + i)) 16
        let ns := r.tiles.zipIdx.map (fun p => (p.1, p.1.normalise d r.valExp e.j.desc.outExp (free p.2)))
        let clips := ns.foldl (fun n z => n + z.2.2) 0
        .eff { mem := ns.map (fun z => (o + 2 * z.1.qhead * d, z.2.1.flatMap (fun v => leBytes (unsignedOf v 16) 2))),
               flg := (ns.flatMap (fun z => (spanLines (o + 2 * z.1.qhead * d) (o + 2 * z.1.qhead * d + 2 * d)).map (fun l => (l, false))))
                 ++ ((ns.filter (fun z => z.1.poison)).flatMap (fun z =>
                   (spanLines (o + 2 * z.1.qhead * d) (o + 2 * z.1.qhead * d + 2 * d)).map (fun l => (l, true)))),
               clips := clips, draws := 512 * r.tiles.length,
               report := notesOf (ns.map (fun z => (z.1, z.2.2))) }

/-! ### C slot (R154, R155) -/

def brHolds (cond a b : Nat) : Option Bool :=
  match cond with
  | 0 => some true
  | 1 => some (a == b)
  | 2 => some (a != b)
  | 3 => some (decide (signedOf a 32 < signedOf b 32))
  | 4 => some (decide (signedOf b 32 ≤ signedOf a 32))
  | 5 => some (decide (a < b))
  | 6 => some (decide (b ≤ a))
  | _ => none

/-- TALUI (R154). -/
def taluImm (fn4 a imm : Nat) : Option Nat :=
  let se := unsignedOf (sextN imm 14) 32
  match fn4 with
  | 0 => some (aluFn 32 .add a se)
  | 1 => some (aluFn 32 .bitAnd a imm)
  | 2 => some (aluFn 32 .bitOr a imm)
  | 3 => some (aluFn 32 .bitXor a imm)
  | 4 => some (aluFn 32 .sll a imm)
  | 5 => some (aluFn 32 .srl a imm)
  | 6 => some (aluFn 32 .sra a imm)
  | 7 => some (aluFn 32 .slt a se)
  | _ => none

def evalC (e : TEnv) : COp → TRes
  | .nop => .eff {}
  | .bad => .exc xcIllegal
  | .talu td ta tb fn => if tarnFn fn then .eff { tw := [(td.val, aluFn 32 fn (e.x.treg ta) (e.x.treg tb))] } else .exc xcIllegal
  | .talui td ta fn4 imm =>
    match taluImm fn4.val (e.x.treg ta) imm.toNat with
    | none => .exc xcIllegal
    | some v => .eff { tw := [(td.val, v)] }
  | .tli td imm => .eff { tw := [(td.val, imm.toNat)] }
  | .tld td ta imm =>
    let a := addrOff (e.x.treg ta) (sextN imm.toNat 14)
    if a % 4 ≠ 0 then .exc xcSramAlign
    else if sramOut a 4 then .exc xcSramRange
    else .eff { tw := [(td.val, e.x.sramNum a 4)] }
  | .tst ts ta imm =>
    let a := addrOff (e.x.treg ta) (sextN imm.toNat 14)
    if a % 4 ≠ 0 then .exc xcSramAlign
    else if !sramWriteOk a 4 then .exc xcSramRange
    else .eff { mem := [(a, leBytes (e.x.treg ts) 4)] }
  | .br cond ta tb imm =>
    match brHolds cond.val (e.x.treg ta) (e.x.treg tb) with
    | none => .exc xcIllegal
    | some true => .eff { ctl := .branch (unsignedOf (Int.ofNat e.r.pc + sextN imm.toNat 14) 16) }
    | some false => .eff {}
  | .loop ta imm =>
    if imm.toNat = 0 ∨ 4096 < imm.toNat then .exc xcIllegal
    else if e.x.treg ta ≠ 0 ∧ 4 ≤ e.r.loops.length then .exc xcLoopDepth
    else .eff { ctl := .loop imm.toNat (e.x.treg ta) }
  | .sget td sa field =>
    let d := e.x.sdesc sa
    match field.toNat with
    | 0 => .eff { tw := [(td.val, d.kind)] }
    | 1 => .eff { tw := [(td.val, d.count)] }
    | 2 => .eff { tw := [(td.val, d.offset)] }
    | 3 => .eff { tw := [(td.val, d.len)] }
    | 4 => .eff { tw := [(td.val, e.x.outstanding sa)] }
    | _ => .exc xcIllegal
  | .sync => if e.x.xfers = [] then .eff {} else .stall
  | .endProgram => if e.x.xfers = [] && e.closes then .eff { act := .finish } else .stall
  | .trap imm => .exc xcTrap imm.toNat

/-! ### A program's end (R156, R157) -/

/-- The program on a Tarn is over: it is idle again. -/
def State.stopRun (s : State) (t : Nat) : State := (s.updTarn t Tarn.idle).restState t

/-- A failure of a job becomes known, with its program exception (R157, R183). -/
def Job.known (j : Job) (status : Nat) (exc : Option Exc) : Job :=
  { j with fails := if j.fails.contains status then j.fails else j.fails ++ [status], exc := j.exc.or exc }

/-- A merge has failed at its Tarn: it ends once its count is reached. -/
def State.failMerge (s : State) (t id status : Nat) (exc : Option Exc) : State :=
  let fail (m : Merge) : Merge := if m.quad = t / 25 then { m with failed := true } else m
  (s.updJob id (fun j => Job.known { j with merges := j.merges.map fail } status exc)).mergeCheck id (t / 25) []

/-- The program ends with a failure (R157): a slice is answered by a failed partial; a merge fails once its count is reached, so that a failed partial that
reports TARN_FAULT is still heard; an ingest's job completes. -/
def State.failNow (s : State) (t : Nat) (r : TRun) (status : Nat) (exc : Option Exc) : State :=
  let s := if exc.isSome then s.setErr (R.TARN_ERR t) F.TARN_ERR_PROG_EXC else s
  let s := s.stopRun t
  match r.what with
  | .worker => s.failSlices r.job (some t) status exc [r.slice]
  | .ingest => (s.updJob r.job (fun j => j.known status exc)).finishJob r.job status
  | .merge => s.failMerge t r.job status exc
  | .final => s.failMerge t r.job status exc

/-- The program fails with a status (R157): outstanding transfers come first. -/
def State.failRun (s : State) (t : Nat) (r : TRun) (status : Nat) (exc : Option Exc) : State :=
  if (s.tarn t).xfers = [] then s.failNow t r status exc
  else s.updTarn t (fun (x : Tarn) => { x with run := some { r with failing := some (status, exc) } })

/-- A Chotaum-T exception (R157). -/
def State.progExc (s : State) (t : Nat) (r : TRun) (cause slot : Nat) (code : Nat := 0) : State :=
  s.failRun t r jsProgException (some { cause := cause, slot := slot, bundle := r.pc, code := code })

/-- END (R156): the slice is over; the merge is over; or the final merge's Tarn writes the completion record. -/
def State.endRun (s : State) (t : Nat) (r : TRun) : State :=
  match r.what with
  | .worker => (s.stopRun t).bump (R.TARN_CNT_SLICES t)
  | .ingest => s.stopRun t
  | .merge => (s.stopRun t).endMerge t r.job r.role
  | .final =>
    let s := (s.stopRun t).endMerge t r.job r.role
    let s := s.updJob r.job (fun (j : Job) =>
      { j with decided := true, satTotal := r.report.foldl (fun n p => satAdd n p.2.1 u32Max) 0,
               poisonHeads := (r.report.filter (·.2.2.1)).map (·.1), emptyHeads := (r.report.filter (·.2.2.2)).map (·.1) })
    s.finishJob r.job (((s.job r.job).bind (fun j => firstFail j.fails)).getD jsOk)

/-! ### Issue (R145, R155) -/

/-- Where control goes after bundle `last`, by the loops in progress, outermost first: back to the first bundle of a body that has passes left. -/
def afterBundle (last : Nat) : List LoopRec → Nat × List LoopRec
  | [] => (last + 1, [])
  | l :: t =>
    match afterBundle last t with
    | (p, []) =>
      if p = last + 1 ∧ l.last = last then (if 1 < l.left then (l.first, [{ l with left := l.left - 1 }]) else (last + 1, []))
      else (p, [l])
    | (p, t') => (p, l :: t')

/-- Loops whose body holds a branch's target, with everything outside them; a taken branch out of a body ends that loop and those inside it. -/
def loopsAround (target : Nat) : List LoopRec → List LoopRec
  | [] => []
  | l :: t => if l.first ≤ target ∧ target ≤ l.last then l :: loopsAround target t else []

/-- The program counter and loops after a bundle. -/
def TRun.advance (r : TRun) : TCtl → TRun
  | .seq => let a := afterBundle r.pc r.loops; { r with pc := a.1, loops := a.2 }
  | .branch p => { r with pc := p, loops := loopsAround p r.loops }
  | .loop n c =>
    if c = 0 then let a := afterBundle (r.pc + n) r.loops; { r with pc := a.1, loops := a.2 }
    else { r with pc := r.pc + 1, loops := r.loops ++ [{ first := r.pc + 1, last := r.pc + n, left := c }] }

/-- A pass over a bank's block has been made (R80, R91). -/
def BankBlk.passed (b : BankBlk) : BankBlk := { b with left := b.left - 1 }

/-- The register, memory and tile writes of one slot. -/
def TEff.onTarn (f : TEff) (x : Tarn) : Tarn :=
  { x with
    t := f.tw.foldl (fun t w => if w.1 = 0 then t else Tbl.set (fun _ => 0) t w.1 (w.2 % 2 ^ 32)) x.t,
    v := f.vw.foldl (fun v w => Tbl.set (fun _ => 0) v w.1 (w.2 % 2 ^ 1024)) x.v,
    s := f.sw.foldl (fun m w => Tbl.set (fun _ => ({} : SDesc)) m w.1 w.2) x.s,
    sram := f.mem.foldl (fun m w => sramWrite m w.1 w.2) x.sram,
    flags := f.flg.foldl (fun l w => setLineFlag l w.1 w.2) x.flags,
    bank0 := if f.pass = some 0 then x.bank0.map BankBlk.passed else x.bank0,
    bank1 := if f.pass = some 1 then x.bank1.map BankBlk.passed else x.bank1,
    a := f.tiles.getD x.a }

/-- What one slot leaves in the program's own record. -/
def TEff.onRun (f : TEff) (r : TRun) : TRun :=
  { r with tiles := f.count.getD r.tiles, mb := f.mb.getD r.mb,
           report := r.report.filter (fun p => !(f.report.any (fun n => n.1 == p.1))) ++ f.report }

/-- A transfer out of block SRAM to the output area (R177): poisoned lines carry the mark, and in PARTIAL mode so do the lines of a poisoned head's entry (R99). -/
def State.streamOut (s : State) (t : Nat) (j : Job) (x : Tarn) (off sram len : Nat) (ans : List SnoopAnswer) : State :=
  let l := s.inlet j.inlet
  let d := x.sramBytes sram len
  let va := j.desc.outVa + off
  let span := 64 + 4 * dimOf j.hdim
  let heads := if j.desc.partialOut then
      let r := partialOf d
      (List.range r.tiles.length).filter (fun i => (r.tiles[i]?).elim false (·.poison))
    else []
  match s.access { endpoint := l.owner, srcKind := 1, srcIndex := t } l.asid va len true with
  | (s, .error _) => s.failJob j.id jsXlatFault
  | (s, .ok _) =>
    let ps := linePieces (va % 64) d (d.length / 64 + 2)
    let lo (i : Nat) : Nat := ((ps[i]?).elim 0 (·.1)) - va % 64
    let n (i : Nat) : Nat := (ps[i]?).elim 0 (·.2.length)
    let bad (i : Nat) : Bool := x.flagged (sram + lo i) (n i)
      || heads.any (fun h => lo i < 64 + (h + 1) * span && 64 + h * span < lo i + n i)
    match s.writeVa l.owner l.asid l.tenant (va / 64 * 64) bad ans 0 ps with
    | (s, ok) => if ok then s else s.failJob j.id jsWriteError

/-- Carry out a slot's action once the bundle has issued. -/
def State.tAct (s : State) (t : Nat) (r : TRun) (j : Job) (x : Tarn) (ans : List SnoopAnswer) : TAct → State
  | .none => s
  | .fetch f => s.updTarn t (fun (x : Tarn) => { x with xfers := x.xfers ++ [f] })
  | .write _ off sram len => s.streamOut t j x off sram len ans
  | .send bytes bad =>
    if r.what = .worker then s.sendPartial r.job r.slice bytes bad
    else s.sendRecord r.job (j.finalMerge?.elim (t / 25) (·.quad)) bytes bad
  | .claim _ =>
    let s := s.updTarn t (fun (x : Tarn) => { x with ring := (x.ring.eraseP (fun y => y.job == r.job)) })
    if r.what = .final ∧ (j.merge? (t / 25)).elim false (fun m => (s.tarn t).combined m r.job == m.announced) then
      s.updJob r.job (fun j => { j with decided := true })
    else s
  | .finish => s.endRun t r

/-- The first slot that raises an exception. -/
def firstExc : List (Nat × TRes) → Option (Nat × Nat × Nat)
  | [] => none
  | (i, .exc c k) :: _ => some (i, c, k)
  | _ :: t => firstExc t

/-- Two slots write one register: only SRECV and the C slot can (R145). -/
def conflict (a b : TEff) : Bool := a.tw.any (fun w => b.tw.any (fun z => z.1 == w.1))

/-- Effects of the slots of a bundle that issues, S to C. -/
def effects (l : List (Nat × TRes)) : List TEff := l.filterMap (fun p => match p.2 with | .eff e => some e | _ => none)

/-- Counts of one slot (R97, R115). -/
def TEff.counted (f : TEff) (t : Nat) (s : State) : State :=
  let s := s.countSat t f.sat
  let s := if f.clips = 0 then s else (s.bump (R.TARN_CNT_SAT_OUT t) f.clips).setErr (R.TARN_ERR t) F.TARN_ERR_SAT_SEEN
  let s := if f.merged = 0 then s else s.bump (R.TARN_CNT_MERGED t) f.merged
  if f.sawPoison then s.setErr (R.TARN_ERR t) F.TARN_ERR_POISON_SEEN else s

/-- A bundle that issues: every slot has read its operands; all write, then the actions follow and control moves. -/
def State.issued (s : State) (t : Nat) (r : TRun) (j : Job) (x : Tarn) (ans : List SnoopAnswer) (l : List TEff) : State :=
  let x1 := l.foldl (fun x f => f.onTarn x) x
  let ctl := (l.find? (fun f => f.ctl != .seq)).elim TCtl.seq (·.ctl)
  let r1 := (l.foldl (fun r f => f.onRun r) r).advance ctl
  let s := s.setTarn t { x1 with run := some r1 }
  let s := l.foldl (fun s f => f.counted t s) s
  l.foldl (fun s f => s.tAct t r1 j x ans f.act) (s.ticks (l.foldl (fun n f => n + f.draws) 0))

/-- A bundle that its memories gave without an uncorrectable error (R143 to R157): it waits, raises an exception that leaves it without effect, or issues. -/
def State.issueOk (s : State) (t : Nat) (r : TRun) (j : Job) (x : Tarn) (b : Bundle) : State :=
  let e : TEnv := { x := x, quad := t / 25, r := r, j := j, fresh := s.fresh }
  let l : List (Nat × TRes) := [(0, evalS e b.s), (1, evalV e b.v), (2, evalM e b.m), (3, evalC e b.c)]
  let bad : Bool := b.s == .bad || b.v == .bad || b.m == .bad || b.c == .bad
  if r.failing.isSome then s
  else if 4096 ≤ r.pc then s.progExc t r xcPcRange 3
  else if !bad && l.any (fun p => p.2 == .stall) then s
  else match firstExc l with
    | some (i, c, k) => s.progExc t r c i k
    | none =>
      match evalS e b.s, evalC e b.c with
      | .eff f, .eff g => if conflict f g then s.progExc t r xcConflict 3 else s.issued t r j x b.answers (effects l)
      | _, _ => s.issued t r j x b.answers (effects l)

/-- A bundle at a Tarn, which waits while the Tarn's clock has stopped (R507). An uncorrectable error of block SRAM or program memory takes the Tarn out of service (R104, R113); a corrected one is counted (R81). -/
def State.issue (s : State) (t : Nat) (b : Bundle) : State :=
  let x := s.tarn t
  match if s.islandStopped t then none else x.run with
  | none => s
  | some r =>
    match s.job r.job with
    | none => s
    | some j =>
      match b.ecc with
      | .sram => (s.faultTarn t).setErr (R.TARN_ERR t) F.TARN_ERR_SRAM_UE
      | .pmem => (s.faultTarn t).setErr (R.TARN_ERR t) F.TARN_ERR_PMEM_UE
      | .corrected => (s.bump (R.TARN_CNT_SRAM_CE t)).issueOk t r j x b
      | .ok => s.issueOk t r j x b

/-! ### The rows: the named slot of a bundle, with the bundle's other slots -/

def execSblk (tarn : Fin 100) (sd ta tb : Fin 16) (b : Bundle) (s : State) : Answer := .next (s.issue tarn { b with s := .sblk sd ta tb })
def execSlin (tarn : Fin 100) (sd ta : Fin 16) (sram : BitVec 14) (b : Bundle) (s : State) : Answer := .next (s.issue tarn { b with s := .slin sd ta sram })
def execSwrt (tarn : Fin 100) (sd ta : Fin 16) (sram : BitVec 14) (b : Bundle) (s : State) : Answer := .next (s.issue tarn { b with s := .swrt sd ta sram })
def execSsend (tarn : Fin 100) (sd ta : Fin 16) (b : Bundle) (s : State) : Answer := .next (s.issue tarn { b with s := .ssend sd ta })
def execSrecv (tarn : Fin 100) (sd td : Fin 16) (b : Bundle) (s : State) : Answer := .next (s.issue tarn { b with s := .srecv sd td })
def execSwait (tarn : Fin 100) (sd tb : Fin 16) (mode : BitVec 14) (b : Bundle) (s : State) : Answer := .next (s.issue tarn { b with s := .swait sd tb mode })
def execScopy (tarn : Fin 100) (sd sa : Fin 16) (b : Bundle) (s : State) : Answer := .next (s.issue tarn { b with s := .scopy sd sa })
def execSset (tarn : Fin 100) (sd ta : Fin 16) (field : BitVec 14) (b : Bundle) (s : State) : Answer := .next (s.issue tarn { b with s := .sset sd ta field })
def execVld (tarn : Fin 100) (vd : Fin 32) (ta : Fin 16) (imm : BitVec 16) (b : Bundle) (s : State) : Answer := .next (s.issue tarn { b with v := .vld vd ta imm })
def execVst (tarn : Fin 100) (vs : Fin 32) (ta : Fin 16) (imm : BitVec 16) (b : Bundle) (s : State) : Answer := .next (s.issue tarn { b with v := .vst vs ta imm })
def execVop (tarn : Fin 100) (vd va vb : Fin 32) (width : Fin 4) (fn : BitVec 9) (b : Bundle) (s : State) : Answer :=
  .next (s.issue tarn { b with v := .vop vd va vb width fn })
def execVbc (tarn : Fin 100) (vd : Fin 32) (ta : Fin 16) (width : Fin 4) (b : Bundle) (s : State) : Answer := .next (s.issue tarn { b with v := .vbc vd ta width })
def execVrotq (tarn : Fin 100) (td ta tb : Fin 16) (b : Bundle) (s : State) : Answer := .next (s.issue tarn { b with v := .vrotq td ta tb })
def execMclr (tarn : Fin 100) (ta : Fin 16) (n : BitVec 14) (b : Bundle) (s : State) : Answer := .next (s.issue tarn { b with m := .mclr ta n })
def execMscore (tarn : Fin 100) (tl tq tb : Fin 16) (b : Bundle) (s : State) : Answer := .next (s.issue tarn { b with m := .mscore tl tq tb })
def execMsoft (tarn : Fin 100) (b : Bundle) (s : State) : Answer := .next (s.issue tarn { b with m := .msoft })
def execMacc (tarn : Fin 100) (tl tb : Fin 16) (b : Bundle) (s : State) : Answer := .next (s.issue tarn { b with m := .macc tl tb })
def execMsave (tarn : Fin 100) (ta : Fin 16) (mode : BitVec 14) (b : Bundle) (s : State) : Answer := .next (s.issue tarn { b with m := .msave ta mode })
def execMload (tarn : Fin 100) (ta : Fin 16) (b : Bundle) (s : State) : Answer := .next (s.issue tarn { b with m := .mload ta })
def execMcomb (tarn : Fin 100) (td ta : Fin 16) (b : Bundle) (s : State) : Answer := .next (s.issue tarn { b with m := .mcomb td ta })
def execMnorm (tarn : Fin 100) (td ta : Fin 16) (b : Bundle) (s : State) : Answer := .next (s.issue tarn { b with m := .mnorm td ta })
def execTalu (tarn : Fin 100) (td ta tb : Fin 16) (fn : AluFn) (b : Bundle) (s : State) : Answer := .next (s.issue tarn { b with c := .talu td ta tb fn })
def execTalui (tarn : Fin 100) (td ta fn4 : Fin 16) (imm : BitVec 14) (b : Bundle) (s : State) : Answer := .next (s.issue tarn { b with c := .talui td ta fn4 imm })
def execTli (tarn : Fin 100) (td : Fin 16) (imm : BitVec 21) (b : Bundle) (s : State) : Answer := .next (s.issue tarn { b with c := .tli td imm })
def execTld (tarn : Fin 100) (td ta : Fin 16) (imm : BitVec 14) (b : Bundle) (s : State) : Answer := .next (s.issue tarn { b with c := .tld td ta imm })
def execTst (tarn : Fin 100) (ts ta : Fin 16) (imm : BitVec 14) (b : Bundle) (s : State) : Answer := .next (s.issue tarn { b with c := .tst ts ta imm })
def execBr (tarn : Fin 100) (cond ta tb : Fin 16) (imm : BitVec 14) (b : Bundle) (s : State) : Answer := .next (s.issue tarn { b with c := .br cond ta tb imm })
def execLoop (tarn : Fin 100) (ta : Fin 16) (imm : BitVec 14) (b : Bundle) (s : State) : Answer := .next (s.issue tarn { b with c := .loop ta imm })
def execSget (tarn : Fin 100) (td sa : Fin 16) (field : BitVec 14) (b : Bundle) (s : State) : Answer := .next (s.issue tarn { b with c := .sget td sa field })
def execSync (tarn : Fin 100) (b : Bundle) (s : State) : Answer := .next (s.issue tarn { b with c := .sync })
def execEnd (tarn : Fin 100) (b : Bundle) (s : State) : Answer := .next (s.issue tarn { b with c := .endProgram })
def execTrap (tarn : Fin 100) (imm : BitVec 14) (b : Bundle) (s : State) : Answer := .next (s.issue tarn { b with c := .trap imm })

/-! ### Encodings (R143, R144): a bundle from its 128 bits -/

/-- A field of a 32-bit slot that names an s or t register in five bits: bit 4 must be 0. -/
def reg4 (v : Nat) : Option (Fin 16) := if v < 16 then some (Fin.ofNat 16 v) else none
def f1T (w : Nat) : Fin 16 := Fin.ofNat 16 (bitsOf w 22 4)
def f2T (w : Nat) : Fin 16 := Fin.ofNat 16 (bitsOf w 18 4)
def f3T (w : Nat) : Fin 16 := Fin.ofNat 16 (bitsOf w 14 4)
def immT (w : Nat) : BitVec 14 := BitVec.ofNat 14 w
def f1V (w : Nat) : Fin 32 := Fin.ofNat 32 (bitsOf w 21 5)
def f2V (w : Nat) : Nat := bitsOf w 16 5
def f3V (w : Nat) : Nat := bitsOf w 11 5

/-- The S slot (R150). A field that R150, R151 or R153 show as 0 or a dash is not looked at, here and in the V and M slots. DESIGN CHOICE, log entry 113. -/
def decodeS (w : Nat) : SOp :=
  match bitsOf w 26 6 with
  | 0x00 => if w = 0 then .nop else .bad
  | 0x01 => .sblk (f1T w) (f2T w) (f3T w)
  | 0x02 => .slin (f1T w) (f2T w) (immT w)
  | 0x03 => .swrt (f1T w) (f2T w) (immT w)
  | 0x04 => .ssend (f1T w) (f2T w)
  | 0x05 => .srecv (f1T w) (f2T w)
  | 0x06 => .swait (f1T w) (f3T w) (immT w)
  | 0x07 => .scopy (f1T w) (f2T w)
  | 0x08 => .sset (f1T w) (f2T w) (immT w)
  | _ => .bad

def decodeV (w : Nat) : VOp :=
  match bitsOf w 26 6 with
  | 0x00 => if w = 0 then .nop else .bad
  | 0x01 => match reg4 (f2V w) with | some a => .vld (f1V w) a (BitVec.ofNat 16 w) | none => .bad
  | 0x02 => match reg4 (f2V w) with | some a => .vst (f1V w) a (BitVec.ofNat 16 w) | none => .bad
  | 0x03 => .vop (f1V w) (Fin.ofNat 32 (f2V w)) (Fin.ofNat 32 (f3V w)) (Fin.ofNat 4 (bitsOf w 9 2)) (BitVec.ofNat 9 (bitsOf w 0 9))
  | 0x04 => match reg4 (f2V w) with | some a => .vbc (f1V w) a (Fin.ofNat 4 (bitsOf w 9 2)) | none => .bad
  | 0x05 => match reg4 (bitsOf w 21 5), reg4 (f2V w), reg4 (f3V w) with
    | some d, some a, some b => .vrotq d a b
    | _, _, _ => .bad
  | _ => .bad

def decodeM (w : Nat) : MOp :=
  match bitsOf w 26 6 with
  | 0x00 => if w = 0 then .nop else .bad
  | 0x01 => .mclr (f2T w) (immT w)
  | 0x02 => .mscore (f1T w) (f2T w) (f3T w)
  | 0x03 => .msoft
  | 0x04 => .macc (f2T w) (f3T w)
  | 0x05 => .msave (f2T w) (immT w)
  | 0x06 => .mload (f2T w)
  | 0x07 => .mcomb (f1T w) (f2T w)
  | 0x08 => .mnorm (f1T w) (f2T w)
  | _ => .bad

def decodeC (w : Nat) : COp :=
  match bitsOf w 26 6 with
  | 0x00 => if w = 0 then .nop else .bad
  | 0x01 => match aluOf (bitsOf w 0 11) with | some f => .talu (f1T w) (f2T w) (f3T w) f | none => .bad
  | 0x02 => .talui (f1T w) (f2T w) (f3T w) (immT w)
  | 0x03 => if bitOf w 21 then .bad else .tli (f1T w) (BitVec.ofNat 21 w)
  | 0x04 => .tld (f1T w) (f2T w) (immT w)
  | 0x05 => .tst (f1T w) (f2T w) (immT w)
  | 0x06 => .br (f1T w) (f2T w) (f3T w) (immT w)
  | 0x07 => .loop (f2T w) (immT w)
  | 0x08 => .sget (f1T w) (f2T w) (immT w)
  | 0x09 => .sync
  | 0x0A => .endProgram
  | 0x0B => .trap (immT w)
  | _ => .bad

/-- A bundle from its bits (R143). -/
def decodeBundle (w : Nat) : Bundle :=
  { s := decodeS (bitsOf w 0 32), v := decodeV (bitsOf w 32 32), m := decodeM (bitsOf w 64 32), c := decodeC (bitsOf w 96 32) }

/-- ILLEGAL_SLOT (R143, R157): a bundle with an unlisted OP, or OP 0 with other bits set, in some slot raises ILLEGAL; a bundle without one is none. -/
def execIllegalSlot (tarn : Fin 100) (word : BitVec 128) (s : State) : Answer :=
  let b := decodeBundle word.toNat
  if b.s = .bad ∨ b.v = .bad ∨ b.m = .bad ∨ b.c = .bad then .next (s.issue tarn b) else .next s

/-! ### Transfers into block SRAM (R146) -/

/-- Bytes of a range of lines as read, with a flag per line of block SRAM that a poisoned one reaches. -/
def Tarn.fillLinear (x : Tarn) (addr va len : Nat) (ls : List LineRead) : Tarn :=
  let d := ((ls.flatMap (·.data)).drop (va % 64)).take len
  let bad (l : Nat) : Bool := (List.range ls.length).any (fun i =>
    let lo := addr + 64 * i - va % 64
    ((ls[i]?).elim false (·.poison)) && lo < 64 * l + 64 && 64 * l < lo + 64)
  { x with sram := sramWrite x.sram addr d,
           flags := (spanLines addr (addr + len)).foldl (fun f l => setLineFlag f l (bad l)) x.flags }

/-- A block read into a bank (R80, R147): `passes` are the passes over it that will finish it (R91). -/
def Tarn.fillBlock (x : Tarn) (bank blk passes : Nat) (r : BlockRead) : Tarn :=
  let base := bank * 0x100000
  let y : Tarn := { x with
    sram := r.lines.foldl (fun m l => sramWrite m (base + 64 * l.1) l.2.data) x.sram,
    flags := r.lines.foldl (fun f l => setLineFlag f (base / 64 + l.1) l.2.poison) x.flags }
  let bb : BankBlk := { blk := blk, poisoned := r.poisoned, tokens := r.data.tokens, left := passes }
  if bank = 0 then { y with bank0 := some bb } else { y with bank1 := some bb }

/-- Whether a transfer of the list may complete (R80): a block waits for the one its bank holds to be finished, and for the blocks fetched to the bank before it. Log
entry 112. -/
def Tarn.mayFill (x : Tarn) (index : Nat) : Xfer → Bool
  | .linear .. => true
  | .block _ bank _ => (x.bank bank).all (fun b => b.left == 0)
    && !(x.xfers.take index).any (fun f => match f with | .block _ b _ => b == bank | .linear .. => false)

/-- STREAM_TRANSFER_DONE (R80, R81, R86, R146, R157, R177): a transfer into block SRAM completes with what it has read; a translation fault ends the slice. Of a
program that has failed the data is discarded, and with the last transfer it ends. -/
def execStreamTransferDone (tarn : Fin 100) (index : Nat) (ans : List SnoopAnswer) (s : State) : Answer :=
  let t := tarn.val
  let x := s.tarn t
  match x.xfers[index]?, x.run with
  | some f, some r =>
    match s.job r.job with
    | none => .next s
    | some j =>
      let rest := x.xfers.eraseIdx index
      let s := if r.failing.isSome ∨ x.mayFill index f then s.setTarn t { x with xfers := rest } else s
      match r.failing, f with
      | some e, _ => .next (if rest = [] then s.failNow t r e.1 e.2 else s)
      | none, .block _ bank blk =>
        if !x.mayFill index f then .next s else
        match s.readBlock j blk with
        | (s, b) => .next ((s.countBlock t j.id blk b).updTarn t (fun x => x.fillBlock bank blk ((2 ^ j.desc.gLog2 + 7) / 8) b))
      | none, .linear _ addr va len =>
        let l := s.inlet j.inlet
        match s.access { endpoint := l.owner, srcKind := 1, srcIndex := t } l.asid va len false with
        | (s, .error _) => .next (s.failRun t r jsXlatFault none)
        | (s, .ok _) =>
          match s.readVa l.owner l.asid l.tenant (va / 64 * 64) ans ((va % 64 + len + 63) / 64) with
          | (s, ls) => .next (s.updTarn t (fun x => x.fillLinear addr va len ls))
  | _, _ => .next s

end Sys2Proof.Machine
end

