-- ==== Sys2Proof/Machine/Dispatch.lean ====
section
/-!
DEFINITION. What each command does: one arm a constructor, each a direct call of its meaning.
-/
namespace Sys2Proof.Machine

def exec (i : Instr) (s : State) : Host.Outcome State Fault Refusal :=
  match i with
  | .registerWrite addr wide value => Sys2Proof.Machine.execRegisterWrite addr wide value s
  | .unsupportedAccess requester addr size => Sys2Proof.Machine.execUnsupportedAccess requester addr size s
  | .counterLowRead requester addr part => Sys2Proof.Machine.execCounterLowRead requester addr part s
  | .w1cClear addr mask => Sys2Proof.Machine.execW1cClear addr mask s
  | .lockSet addr => Sys2Proof.Machine.execLockSet addr s
  | .counterClear addr mask => Sys2Proof.Machine.execCounterClear addr mask s
  | .managementCycle ms overrun copyInFlight stewards ans => Sys2Proof.Machine.execManagementCycle ms overrun copyInFlight stewards ans s
  | .stewardLost steward => Sys2Proof.Machine.execStewardLost steward s
  | .heatDecay => Sys2Proof.Machine.execHeatDecay s
  | .heatReport block => Sys2Proof.Machine.execHeatReport block s
  | .versionRetire tenant key version => Sys2Proof.Machine.execVersionRetire tenant key version s
  | .versionBlocksFree tenant key version => Sys2Proof.Machine.execVersionBlocksFree tenant key version s
  | .regionKeyFree tenant key => Sys2Proof.Machine.execRegionKeyFree tenant key s
  | .seqExpiry slot => Sys2Proof.Machine.execSeqExpiry slot s
  | .seqFree slot => Sys2Proof.Machine.execSeqFree slot s
  | .takeoverRetentionEnd tenant key version => Sys2Proof.Machine.execTakeoverRetentionEnd tenant key version s
  | .doorbellRing port w0 w1 payload dt hold => Sys2Proof.Machine.execDoorbellRing port w0 w1 payload dt hold s
  | .doorbellAbort port w0 w1 payload dt hold => Sys2Proof.Machine.execDoorbellAbort port w0 w1 payload dt hold s
  | .jobValidate source choice answers => Sys2Proof.Machine.execJobValidate source choice answers s
  | .startPacket job quad role => Sys2Proof.Machine.execStartPacket job quad role s
  | .stopPacket job tarn => Sys2Proof.Machine.execStopPacket job tarn s
  | .sliceStart tarn => Sys2Proof.Machine.execSliceStart tarn s
  | .partialArrival index answers => Sys2Proof.Machine.execPartialArrival index answers s
  | .failedPartial index => Sys2Proof.Machine.execFailedPartial index s
  | .decodeRevalidate job choice answers => Sys2Proof.Machine.execDecodeRevalidate job choice answers s
  | .jobTimeout job => Sys2Proof.Machine.execJobTimeout job s
  | .decode job order answers => Sys2Proof.Machine.execDecode job order answers s
  | .ingest job answers => Sys2Proof.Machine.execIngest job answers s
  | .ingestRecord job answers => Sys2Proof.Machine.execIngestRecord job answers s
  | .seqCreate inlet core => Sys2Proof.Machine.execSeqCreate inlet core s
  | .seqDestroy inlet => Sys2Proof.Machine.execSeqDestroy inlet s
  | .seqQuery inlet answers => Sys2Proof.Machine.execSeqQuery inlet answers s
  | .regionPublish inlet => Sys2Proof.Machine.execRegionPublish inlet s
  | .regionPin inlet => Sys2Proof.Machine.execRegionPin inlet s
  | .regionUnpin inlet => Sys2Proof.Machine.execRegionUnpin inlet s
  | .regionDrop inlet => Sys2Proof.Machine.execRegionDrop inlet s
  | .regionQuery inlet answers => Sys2Proof.Machine.execRegionQuery inlet answers s
  | .progLoad inlet core answers => Sys2Proof.Machine.execProgLoad inlet core answers s
  | .progUnload inlet => Sys2Proof.Machine.execProgUnload inlet s
  | .inletBind inlet choice => Sys2Proof.Machine.execInletBind inlet choice s
  | .inletUnbind inlet => Sys2Proof.Machine.execInletUnbind inlet s
  | .inletConfigRead => Sys2Proof.Machine.execInletConfigRead s
  | .inletConfigWrite => Sys2Proof.Machine.execInletConfigWrite s
  | .dispatchCreditWaitEnd choice => Sys2Proof.Machine.execDispatchCreditWaitEnd choice s
  | .tarnWatchdog tarn => Sys2Proof.Machine.execTarnWatchdog tarn s
  | .tarnFaultWrite tarn => Sys2Proof.Machine.execTarnFaultWrite tarn s
  | .tarnRoleWrite tarn value => Sys2Proof.Machine.execTarnRoleWrite tarn value s
  | .tarnSubstitution tarn => Sys2Proof.Machine.execTarnSubstitution tarn s
  | .roleProgramLoaded tarn role => Sys2Proof.Machine.execRoleProgramLoaded tarn role s
  | .tarnSelftestDone tarn passed => Sys2Proof.Machine.execTarnSelftestDone tarn passed s
  | .streamTransferDone tarn index answers => Sys2Proof.Machine.execStreamTransferDone tarn index answers s
  | .sblk tarn sd ta tb bundle => Sys2Proof.Machine.execSblk tarn sd ta tb bundle s
  | .slin tarn sd ta sram bundle => Sys2Proof.Machine.execSlin tarn sd ta sram bundle s
  | .swrt tarn sd ta sram bundle => Sys2Proof.Machine.execSwrt tarn sd ta sram bundle s
  | .ssend tarn sd ta bundle => Sys2Proof.Machine.execSsend tarn sd ta bundle s
  | .srecv tarn sd td bundle => Sys2Proof.Machine.execSrecv tarn sd td bundle s
  | .swait tarn sd tb mode bundle => Sys2Proof.Machine.execSwait tarn sd tb mode bundle s
  | .scopy tarn sd sa bundle => Sys2Proof.Machine.execScopy tarn sd sa bundle s
  | .sset tarn sd ta field bundle => Sys2Proof.Machine.execSset tarn sd ta field bundle s
  | .vld tarn vd ta imm bundle => Sys2Proof.Machine.execVld tarn vd ta imm bundle s
  | .vst tarn vs ta imm bundle => Sys2Proof.Machine.execVst tarn vs ta imm bundle s
  | .vop tarn vd va vb width fn bundle => Sys2Proof.Machine.execVop tarn vd va vb width fn bundle s
  | .vbc tarn vd ta width bundle => Sys2Proof.Machine.execVbc tarn vd ta width bundle s
  | .vrotq tarn td ta tb bundle => Sys2Proof.Machine.execVrotq tarn td ta tb bundle s
  | .mclr tarn ta n bundle => Sys2Proof.Machine.execMclr tarn ta n bundle s
  | .mscore tarn tl tq tb bundle => Sys2Proof.Machine.execMscore tarn tl tq tb bundle s
  | .msoft tarn bundle => Sys2Proof.Machine.execMsoft tarn bundle s
  | .macc tarn tl tb bundle => Sys2Proof.Machine.execMacc tarn tl tb bundle s
  | .msave tarn ta mode bundle => Sys2Proof.Machine.execMsave tarn ta mode bundle s
  | .mload tarn ta bundle => Sys2Proof.Machine.execMload tarn ta bundle s
  | .mcomb tarn td ta bundle => Sys2Proof.Machine.execMcomb tarn td ta bundle s
  | .mnorm tarn td ta bundle => Sys2Proof.Machine.execMnorm tarn td ta bundle s
  | .talu tarn td ta tb fn bundle => Sys2Proof.Machine.execTalu tarn td ta tb fn bundle s
  | .talui tarn td ta fn4 imm bundle => Sys2Proof.Machine.execTalui tarn td ta fn4 imm bundle s
  | .tli tarn td imm bundle => Sys2Proof.Machine.execTli tarn td imm bundle s
  | .tld tarn td ta imm bundle => Sys2Proof.Machine.execTld tarn td ta imm bundle s
  | .tst tarn ts ta imm bundle => Sys2Proof.Machine.execTst tarn ts ta imm bundle s
  | .br tarn cond ta tb imm bundle => Sys2Proof.Machine.execBr tarn cond ta tb imm bundle s
  | .loopOp tarn ta imm bundle => Sys2Proof.Machine.execLoop tarn ta imm bundle s
  | .sget tarn td sa field bundle => Sys2Proof.Machine.execSget tarn td sa field bundle s
  | .sync tarn bundle => Sys2Proof.Machine.execSync tarn bundle s
  | .endProgram tarn bundle => Sys2Proof.Machine.execEnd tarn bundle s
  | .trap tarn imm bundle => Sys2Proof.Machine.execTrap tarn imm bundle s
  | .alu core rd ra rb fn ecc => Sys2Proof.Machine.execAlu core rd ra rb fn ecc s
  | .addi core rd ra imm ecc => Sys2Proof.Machine.execAddi core rd ra imm ecc s
  | .andi core rd ra imm ecc => Sys2Proof.Machine.execAndi core rd ra imm ecc s
  | .ori core rd ra imm ecc => Sys2Proof.Machine.execOri core rd ra imm ecc s
  | .xori core rd ra imm ecc => Sys2Proof.Machine.execXori core rd ra imm ecc s
  | .slti core rd ra imm ecc => Sys2Proof.Machine.execSlti core rd ra imm ecc s
  | .sltiu core rd ra imm ecc => Sys2Proof.Machine.execSltiu core rd ra imm ecc s
  | .shi core rd ra imm ecc => Sys2Proof.Machine.execShi core rd ra imm ecc s
  | .orhi core rd ra imm ecc => Sys2Proof.Machine.execOrhi core rd ra imm ecc s
  | .addpc core rd imm ecc => Sys2Proof.Machine.execAddpc core rd imm ecc s
  | .lb core rd ra imm answers ecc => Sys2Proof.Machine.execLb core rd ra imm answers ecc s
  | .lh core rd ra imm answers ecc => Sys2Proof.Machine.execLh core rd ra imm answers ecc s
  | .lw core rd ra imm answers ecc => Sys2Proof.Machine.execLw core rd ra imm answers ecc s
  | .ld core rd ra imm answers ecc => Sys2Proof.Machine.execLd core rd ra imm answers ecc s
  | .lbu core rd ra imm answers ecc => Sys2Proof.Machine.execLbu core rd ra imm answers ecc s
  | .lhu core rd ra imm answers ecc => Sys2Proof.Machine.execLhu core rd ra imm answers ecc s
  | .lwu core rd ra imm answers ecc => Sys2Proof.Machine.execLwu core rd ra imm answers ecc s
  | .sb core rb ra imm answers ecc => Sys2Proof.Machine.execSb core rb ra imm answers ecc s
  | .sh core rb ra imm answers ecc => Sys2Proof.Machine.execSh core rb ra imm answers ecc s
  | .sw core rb ra imm answers ecc => Sys2Proof.Machine.execSw core rb ra imm answers ecc s
  | .sd core rb ra imm answers ecc => Sys2Proof.Machine.execSd core rb ra imm answers ecc s
  | .beq core rb ra imm ecc => Sys2Proof.Machine.execBeq core rb ra imm ecc s
  | .bne core rb ra imm ecc => Sys2Proof.Machine.execBne core rb ra imm ecc s
  | .blt core rb ra imm ecc => Sys2Proof.Machine.execBlt core rb ra imm ecc s
  | .bge core rb ra imm ecc => Sys2Proof.Machine.execBge core rb ra imm ecc s
  | .bltu core rb ra imm ecc => Sys2Proof.Machine.execBltu core rb ra imm ecc s
  | .bgeu core rb ra imm ecc => Sys2Proof.Machine.execBgeu core rb ra imm ecc s
  | .jal core rd imm ecc => Sys2Proof.Machine.execJal core rd imm ecc s
  | .jalr core rd ra imm ecc => Sys2Proof.Machine.execJalr core rd ra imm ecc s
  | .atom core rd ra rb fn answers ecc => Sys2Proof.Machine.execAtom core rd ra rb fn answers ecc s
  | .fenceRw core ecc => Sys2Proof.Machine.execFenceRw core ecc s
  | .fenceW core ecc => Sys2Proof.Machine.execFenceW core ecc s
  | .fenceIo core ecc => Sys2Proof.Machine.execFenceIo core ecc s
  | .fenceI core ecc => Sys2Proof.Machine.execFenceI core ecc s
  | .csrrw core rd ra imm ecc => Sys2Proof.Machine.execCsrrw core rd ra imm ecc s
  | .csrrs core rd ra imm ecc => Sys2Proof.Machine.execCsrrs core rd ra imm ecc s
  | .csrrc core rd ra imm ecc => Sys2Proof.Machine.execCsrrc core rd ra imm ecc s
  | .msend core rd ra rb ecc => Sys2Proof.Machine.execMsend core rd ra rb ecc s
  | .mrecv core rd ra ecc => Sys2Proof.Machine.execMrecv core rd ra ecc s
  | .mwait core ecc => Sys2Proof.Machine.execMwait core ecc s
  | .mcount core rd ecc => Sys2Proof.Machine.execMcount core rd ecc s
  | .ecall core ecc => Sys2Proof.Machine.execEcall core ecc s
  | .breakOp core ecc => Sys2Proof.Machine.execBreakOp core ecc s
  | .eret core ecc => Sys2Proof.Machine.execEret core ecc s
  | .wfi core ecc => Sys2Proof.Machine.execWfi core ecc s
  | .coreWake core => Sys2Proof.Machine.execCoreWake core s
  | .timerInterrupt core => Sys2Proof.Machine.execTimerInterrupt core s
  | .interruptEntry core => Sys2Proof.Machine.execInterruptEntry core s
  | .messageDelivery src index => Sys2Proof.Machine.execMessageDelivery src index s
  | .undeliverable src index => Sys2Proof.Machine.execUndeliverable src index s
  | .wellCoreRelease core => Sys2Proof.Machine.execWellCoreRelease core s
  | .stewardRelease steward => Sys2Proof.Machine.execStewardRelease steward s
  | .stewardRestart steward => Sys2Proof.Machine.execStewardRestart steward s
  | .pondRequest id level write pa data poison tenant kslot repair tarn => Sys2Proof.Machine.execPondRequest id level write pa data poison tenant kslot repair tarn s
  | .pondIssue unit pc faults => Sys2Proof.Machine.execPondIssue unit pc faults s
  | .agePromotion unit pc id => Sys2Proof.Machine.execAgePromotion unit pc id s
  | .rowIdleClose unit pc bank => Sys2Proof.Machine.execRowIdleClose unit pc bank s
  | .refreshInterval unit pc postpone => Sys2Proof.Machine.execRefreshInterval unit pc postpone s
  | .stackTemperatureChange stack hot => Sys2Proof.Machine.execStackTemperatureChange stack hot s
  | .refreshWindowEnd unit => Sys2Proof.Machine.execRefreshWindowEnd unit s
  | .retrainPeriod unit => Sys2Proof.Machine.execRetrainPeriod unit s
  | .retrainToken unit => Sys2Proof.Machine.execRetrainToken unit s
  | .pauseLimit unit => Sys2Proof.Machine.execPauseLimit unit s
  | .pondFill pond sender tag first count pattern kslot tenant pcmask repair => Sys2Proof.Machine.execPondFill pond sender tag first count pattern kslot tenant pcmask repair s
  | .spillFill spill sender tag first count pattern kslot tenant => Sys2Proof.Machine.execSpillFill spill sender tag first count pattern kslot tenant s
  | .fillDone unit done => Sys2Proof.Machine.execFillDone unit done s
  | .pondTrain pond => Sys2Proof.Machine.execPondTrain pond s
  | .pondFaultWrite pond => Sys2Proof.Machine.execPondFaultWrite pond s
  | .spillTrain spill dimms => Sys2Proof.Machine.execSpillTrain spill dimms s
  | .trainingDone unit ok resources => Sys2Proof.Machine.execTrainingDone unit ok resources s
  | .spillHold spill hold => Sys2Proof.Machine.execSpillHold spill hold s
  | .blockMoveSwitch block => Sys2Proof.Machine.execBlockMoveSwitch block s
  | .oldCopyFree frame => Sys2Proof.Machine.execOldCopyFree frame s
  | .tableSync port w0 w1 lines dt hold => Sys2Proof.Machine.execTableSync port w0 w1 lines dt hold s
  | .invalidationDone id => Sys2Proof.Machine.execInvalidationDone id s
  | .invalidationSlow id => Sys2Proof.Machine.execInvalidationSlow id s
  | .faultQueueHeadWrite head => Sys2Proof.Machine.execFaultQueueHeadWrite head s
  | .tenantCreate partner => Sys2Proof.Machine.execTenantCreate partner s
  | .tenantDestroy partner => Sys2Proof.Machine.execTenantDestroy partner s
  | .endpointBind partner => Sys2Proof.Machine.execEndpointBind partner s
  | .endpointUnbind partner => Sys2Proof.Machine.execEndpointUnbind partner s
  | .contextCreate partner => Sys2Proof.Machine.execContextCreate partner s
  | .contextDestroy partner => Sys2Proof.Machine.execContextDestroy partner s
  | .basinCreate partner shadow => Sys2Proof.Machine.execBasinCreate partner shadow s
  | .basinDestroy partner => Sys2Proof.Machine.execBasinDestroy partner s
  | .basinUnitsFree basin => Sys2Proof.Machine.execBasinUnitsFree basin s
  | .flitReceive link replicated parts codewords => Sys2Proof.Machine.execFlitReceive link replicated parts codewords s
  | .nakRepeatTimer link => Sys2Proof.Machine.execNakRepeatTimer link s
  | .ackHoldTimer link => Sys2Proof.Machine.execAckHoldTimer link s
  | .replayTimeout link => Sys2Proof.Machine.execReplayTimeout link s
  | .creditTimeout link cls => Sys2Proof.Machine.execCreditTimeout link cls s
  | .signalDetect link lanes => Sys2Proof.Machine.execSignalDetect link lanes s
  | .equaliseDone link => Sys2Proof.Machine.execEqualiseDone link s
  | .laneTestDone link results => Sys2Proof.Machine.execLaneTestDone link results s
  | .laneErrorBurst burst => Sys2Proof.Machine.execLaneErrorBurst burst s
  | .req link rank portId => Sys2Proof.Machine.execReq link rank portId s
  | .follow link => Sys2Proof.Machine.execFollow link s
  | .testDone link mask => Sys2Proof.Machine.execTestDone link mask s
  | .config link width portId mask nextSeq advert => Sys2Proof.Machine.execConfig link width portId mask nextSeq advert s
  | .configAck link nextSeq => Sys2Proof.Machine.execConfigAck link nextSeq s
  | .controlRepeat link => Sys2Proof.Machine.execControlRepeat link s
  | .configTimeout link => Sys2Proof.Machine.execConfigTimeout link s
  | .retrainLimit link => Sys2Proof.Machine.execRetrainLimit link s
  | .mereEnable link enable => Sys2Proof.Machine.execMereEnable link enable s
  | .mereRetrain link => Sys2Proof.Machine.execMereRetrain link s
  | .mereWiden link => Sys2Proof.Machine.execMereWiden link s
  | .mereBreak link => Sys2Proof.Machine.execMereBreak link s
  | .widthChange link widthMax exclude => Sys2Proof.Machine.execWidthChange link widthMax exclude s
  | .routeRevert port => Sys2Proof.Machine.execRouteRevert port s
  | .clientUnreachable endpoint => Sys2Proof.Machine.execClientUnreachable endpoint s
  | .routeWrite endpoint value => Sys2Proof.Machine.execRouteWrite endpoint value s
  | .rdShared port w0 w1 payload dt hold => Sys2Proof.Machine.execRdShared port w0 w1 payload dt hold s
  | .rdOwn port w0 w1 payload dt hold => Sys2Proof.Machine.execRdOwn port w0 w1 payload dt hold s
  | .rdOnce port w0 w1 payload dt hold => Sys2Proof.Machine.execRdOnce port w0 w1 payload dt hold s
  | .claim port w0 w1 payload dt hold => Sys2Proof.Machine.execClaim port w0 w1 payload dt hold s
  | .wrFull port w0 w1 payload dt hold => Sys2Proof.Machine.execWrFull port w0 w1 payload dt hold s
  | .writeback port w0 w1 payload => Sys2Proof.Machine.execWriteback port w0 w1 payload s
  | .snpRsp port w0 w1 => Sys2Proof.Machine.execSnpRsp port w0 w1 s
  | .fwdData port w0 w1 payload => Sys2Proof.Machine.execFwdData port w0 w1 payload s
  | .completionAck port w0 w1 => Sys2Proof.Machine.execCompletionAck port w0 w1 s
  | .bulkRd source w0 w1 dt hold answers => Sys2Proof.Machine.execBulkRd source w0 w1 dt hold answers s
  | .bulkWr source w0 w1 payload dt hold answers => Sys2Proof.Machine.execBulkWr source w0 w1 payload dt hold answers s
  | .mirrorWrite w0 w1 body => Sys2Proof.Machine.execMirrorWrite w0 w1 body s
  | .mirrorAck head => Sys2Proof.Machine.execMirrorAck head s
  | .meshPacketArrival sideband => Sys2Proof.Machine.execMeshPacketArrival sideband s
  | .starvationThrottle x y port => Sys2Proof.Machine.execStarvationThrottle x y port s
  | .ageAlarm sideband => Sys2Proof.Machine.execAgeAlarm sideband s
  | .privEntryWrite entry value => Sys2Proof.Machine.execPrivEntryWrite entry value s
  | .snoopTimeout ep => Sys2Proof.Machine.execSnoopTimeout ep s
  | .unreachDeath ep => Sys2Proof.Machine.execUnreachDeath ep s
  | .declareDead ep => Sys2Proof.Machine.execDeclareDead ep s
  | .release ep => Sys2Proof.Machine.execRelease ep s
  | .sweepDone kind basin ans => Sys2Proof.Machine.execSweepDone kind basin ans s
  | .requestSchedulerServe port ans => Sys2Proof.Machine.execRequestSchedulerServe port ans s
  | .bulkSchedulerServe port ans => Sys2Proof.Machine.execBulkSchedulerServe port ans s
  | .dispatchServe source => Sys2Proof.Machine.execDispatchServe source s
  | .dispatchStarved source => Sys2Proof.Machine.execDispatchStarved source s
  | .targetedSelfTest unit pc => Sys2Proof.Machine.execTargetedSelfTest unit pc s
  | .selfTestHoldEnd unit pc miscompare => Sys2Proof.Machine.execSelfTestHoldEnd unit pc miscompare s
  | .scrubRead pa errors => Sys2Proof.Machine.execScrubRead pa errors s
  | .scrubLate unit => Sys2Proof.Machine.execScrubLate unit s
  | .ueRewrite pa => Sys2Proof.Machine.execUeRewrite pa s
  | .readTriple word => Sys2Proof.Machine.execReadTriple word s
  | .writeTriple word value => Sys2Proof.Machine.execWriteTriple word value s
  | .stackFail target => Sys2Proof.Machine.execStackFail target s
  | .rebuild target => Sys2Proof.Machine.execRebuild target s
  | .evacuate target ans => Sys2Proof.Machine.execEvacuate target ans s
  | .hardRepair target => Sys2Proof.Machine.execHardRepair target s
  | .retest target => Sys2Proof.Machine.execRetest target s
  | .rebuildUnit => Sys2Proof.Machine.execRebuildUnit s
  | .celogClear unit entry => Sys2Proof.Machine.execCelogClear unit entry s
  | .twinPathLost => Sys2Proof.Machine.execTwinPathLost s
  | .ringPathLost => Sys2Proof.Machine.execRingPathLost s
  | .fenceDelayExpiry => Sys2Proof.Machine.execFenceDelayExpiry s
  | .fenceHeld => Sys2Proof.Machine.execFenceHeld s
  | .takeover => Sys2Proof.Machine.execTakeover s
  | .fenceRelease => Sys2Proof.Machine.execFenceRelease s
  | .admitPartner answer shadow => Sys2Proof.Machine.execAdmit answer shadow s
  | .switchBack basin all ans => Sys2Proof.Machine.execSwitchBack basin all ans s
  | .copyCommit copy => Sys2Proof.Machine.execCopyCommit copy s
  | .resyncDone => Sys2Proof.Machine.execResyncDone s
  | .partnerAuth cert block report sig nonce theirs accepted => Sys2Proof.Machine.execPartnerAuth cert block report sig nonce theirs accepted s
  | .pairForm partner partnerBasins objects => Sys2Proof.Machine.execPairForm partner partnerBasins objects s
  | .feedLoss feedB vrm => Sys2Proof.Machine.execFeedLoss feedB vrm s
  | .feedBothLost => Sys2Proof.Machine.execFeedBothLost s
  | .restore => Sys2Proof.Machine.execRestore s
  | .pwrSample power tj tstk msEnd => Sys2Proof.Machine.execPwrSample power tj tstk msEnd s
  | .thermtrip tj stack => Sys2Proof.Machine.execThermtrip tj stack s
  | .thermtripRelease tj => Sys2Proof.Machine.execThermtripRelease tj s
  | .vmon vpp => Sys2Proof.Machine.execVmon vpp s
  | .vmonWarn vpp => Sys2Proof.Machine.execVmonWarn vpp s
  | .importKey slot partner => Sys2Proof.Machine.execImport slot partner s
  | .erase slot force => Sys2Proof.Machine.execErase slot force s
  | .query slot => Sys2Proof.Machine.execQuery slot s
  | .report scope tenant => Sys2Proof.Machine.execReport scope tenant s
  | .extend => Sys2Proof.Machine.execExtend s
  | .commit burned hold => Sys2Proof.Machine.execCommit burned hold s
  | .reserveChunk reads1 hold => Sys2Proof.Machine.execReserveChunk reads1 hold s
  | .dbgReq => Sys2Proof.Machine.execDbgReq s
  | .debugZeroise => Sys2Proof.Machine.execDebugZeroise s
  | .pwron railUp => Sys2Proof.Machine.execPwron railUp s
  | .resetL => Sys2Proof.Machine.execResetL s
  | .perst => Sys2Proof.Machine.execPerst s
  | .watchdogExpiry => Sys2Proof.Machine.execWatchdogExpiry s
  | .kick => Sys2Proof.Machine.execKick s
  | .swChip confirm => Sys2Proof.Machine.execSwChip confirm s
  | .swData confirm => Sys2Proof.Machine.execSwData confirm s
  | .partnerResetIn => Sys2Proof.Machine.execPartnerResetIn s
  | .clkfail source => Sys2Proof.Machine.execClkfail source s
  | .resetHoldEnd us => Sys2Proof.Machine.execResetHoldEnd us s
  | .l2Reset => Sys2Proof.Machine.execL2Reset s
  | .l2QuiesceTimeout => Sys2Proof.Machine.execL2QuiesceTimeout s
  | .l2ResetResume => Sys2Proof.Machine.execL2ResetResume s
  | .enter kind index => Sys2Proof.Machine.execEnter kind index s
  | .leave kind index => Sys2Proof.Machine.execLeave kind index s
  | .pulse kind index => Sys2Proof.Machine.execPulse kind index s
  | .unitReady kind index => Sys2Proof.Machine.execUnitReady kind index s
  | .sourceStable pll n => Sys2Proof.Machine.execSourceStable pll n s
  | .refclkFail pll n => Sys2Proof.Machine.execRefclkFail pll n s
  | .clkSelWrite value => Sys2Proof.Machine.execClkSelWrite value s
  | .flr => Sys2Proof.Machine.execFlr s
  | .cmdTailWrite tail staged => Sys2Proof.Machine.execCmdTailWrite tail staged s
  | .paramSet => Sys2Proof.Machine.execParamSet s
  | .paramGet => Sys2Proof.Machine.execParamGet s
  | .bulkWrite core ans => Sys2Proof.Machine.execBulkWrite core ans s
  | .bulkRead core ans => Sys2Proof.Machine.execBulkRead core ans s
  | .flashWrite readsBack hold => Sys2Proof.Machine.execFlashWrite readsBack hold s
  | .ping => Sys2Proof.Machine.execPing s
  | .evtHeadWrite head => Sys2Proof.Machine.execEvtHeadWrite head s
  | .event source what => Sys2Proof.Machine.execEvent source what s
  | .start => Sys2Proof.Machine.execStart s
  | .marker unit undelivered => Sys2Proof.Machine.execMarker unit undelivered s
  | .heartbeatFrame ring frame => Sys2Proof.Machine.execHeartbeatFrame ring frame s
  | .goodbye body overRing => Sys2Proof.Machine.execGoodbye body overRing s
  | .resetFrame ring frame => Sys2Proof.Machine.execResetFrame ring frame s
  | .ringFrameForward ring frame => Sys2Proof.Machine.execRingFrameForward ring frame s
  | .fatalError cause info => Sys2Proof.Machine.execFatalError cause info s
  | .dumpDone queue cut => Sys2Proof.Machine.execDumpDone queue cut s
  | .bootRomStart => Sys2Proof.Machine.execBootRomStart s
  | .firmwareLoadDone hold => Sys2Proof.Machine.execFirmwareLoadDone hold s
  | .mbxEn value => Sys2Proof.Machine.execMbxEn value s
  | .jobEnable value => Sys2Proof.Machine.execJobEnable value s
  | .illegalInstr core word ecc => Sys2Proof.Machine.execIllegalInstr core word ecc s
  | .illegalSlot tarn word => Sys2Proof.Machine.execIllegalSlot tarn word s
  | .meshHop x y arrivals inject => Sys2Proof.Machine.execMeshHop x y arrivals inject s
  | .fuseLoadDone => Sys2Proof.Machine.execFuseLoadDone s
  | .resetInputDeassert input => Sys2Proof.Machine.execResetInputDeassert input s
  | .feedReturn feedB vrm => Sys2Proof.Machine.execFeedReturn feedB vrm s
  | .ringSyncLost ring => Sys2Proof.Machine.execRingSyncLost ring s
  | .ringSyncAcquired ring => Sys2Proof.Machine.execRingSyncAcquired ring s
  | .vddAonLoss => Sys2Proof.Machine.execVddAonLoss s
  | .debugReset => Sys2Proof.Machine.execDebugReset s

end Sys2Proof.Machine
end

