-- ==== Sys2Proof/Safety.lean ====
section
/-!
DEFINITION. What claims are stated in: the canonical forms of the state's tables, what a core's registers hold, and the commands that act on cores alone.
-/
namespace Sys2Proof.Machine

/-- The registers, the pool and the Wellhead SRAM are in canonical form: keys strictly rising, and no entry equal to what an unlisted key holds. -/
def State.tablesWf (s : State) : Bool := Tbl.wf regReset s.regs && s.pool.wf && Tbl.wf (fun _ => (0 : Byte)) s.wsram

/-- A Chotaum-W core's registers hold words of their widths: x0 is listed nowhere, every general register, the pc and every control register is a
64-bit word, STATUS has its two bits alone and KSLOT its two fields (R118, R133, R134). -/
def WCore.inOrder (c : WCore) : Prop :=
  (∀ e ∈ c.x, e.1 ≠ 0 ∧ e.2 < 2 ^ 64) ∧ c.pc < 2 ^ 64 ∧ c.status < 4 ∧ c.estatus < 2 ^ 64 ∧ c.epc < 2 ^ 64 ∧ c.ecause < 2 ^ 64 ∧
  c.eval < 2 ^ 64 ∧ c.evec < 2 ^ 64 ∧ c.ie < 2 ^ 64 ∧ c.tcmp < 2 ^ 64 ∧ c.scratch < 2 ^ 64 ∧ c.kslot < 2 ^ 24 ∧ c.cycle < 2 ^ 64 ∧ c.instret < 2 ^ 64

/-- The commands that are Chotaum-W instructions without an access of memory or a message, illegal words, wakes and interrupts. -/
def coreCommand : Instr → Bool
  | .alu .. | .addi .. | .andi .. | .ori .. | .xori .. | .slti .. | .sltiu .. | .shi .. | .orhi .. | .addpc .. => true
  | .beq .. | .bne .. | .blt .. | .bge .. | .bltu .. | .bgeu .. | .jal .. | .jalr .. => true
  | .fenceRw .. | .fenceW .. | .fenceIo .. | .fenceI .. | .csrrw .. | .csrrs .. | .csrrc .. => true
  | .mwait .. | .mcount .. | .ecall .. | .breakOp .. | .eret .. | .wfi .. | .illegalInstr .. => true
  | .coreWake .. | .timerInterrupt .. | .interruptEntry .. => true
  | _ => false

end Sys2Proof.Machine
end

