-- ==== Sys2Proof/WellFormed.lean ====
section
/-!
DEFINITION. Well-formed commands: operands whose type is wider than what can arrive. A payload comes in whole 16-byte slots (R283), a flit in 256 bytes
(R273), a frame in 64 (R550), a line in 64. A meaning takes an ill-formed one as the rule for a malformed packet says, or does nothing with it.
-/
namespace Sys2Proof

/-- A line's data. -/
def lineWf (d : List Byte) : Bool := d.length == 64

/-- A client's answer to a snoop: a fabric endpoint, a line's PA, and the data of a whole line or none. -/
def SnoopAnswer.wf (a : SnoopAnswer) : Bool :=
  decide (a.ep < 4096) && a.pa % 64 == 0 && decide (a.pa < 2 ^ 48) && decide (a.status < 16) && (a.data == [] || lineWf a.data)

def answersWf (l : List SnoopAnswer) : Bool := l.all SnoopAnswer.wf

/-- Errors a line shows (R397, R398): device and the bits of it that differ, none of them empty. -/
def errorsWf (l : List (Nat × Nat)) : Bool := l.all (fun e => decide (e.1 < 64) && e.2 != 0)

/-- A naturally aligned write of up to 512 B inside BAR2 (R529). -/
def stagedWf (off n : Nat) : Bool := [1, 2, 4, 8, 16, 32, 64, 128, 256, 512].contains n && off % n == 0

/-- The operands of a command could have arrived. -/
def Instr.wf : Instr → Bool
  | .flitReceive _ replicated parts codewords => parts.all (fun p => decide (p.1 < 16) && (if replicated then p.2.length == 256 else [16, 32, 64, 128].contains p.2.length)) && codewords.all (fun c => decide (c.1 < 16) && decide (c.2 ≤ 544))
  | .nakRepeatTimer _ => true
  | .ackHoldTimer _ => true
  | .replayTimeout _ => true
  | .creditTimeout _ _ => true
  | .signalDetect _ _ => true
  | .equaliseDone _ => true
  | .laneTestDone _ results => results.all (fun r => r.1 < 16)
  | .laneErrorBurst _ => true
  | .req _ _ _ => true
  | .follow _ => true
  | .testDone _ _ => true
  | .config _ _ _ _ _ advert => advert.length == 6
  | .configAck _ _ => true
  | .controlRepeat _ => true
  | .configTimeout _ => true
  | .retrainLimit _ => true
  | .mereEnable _ _ => true
  | .mereRetrain _ => true
  | .mereWiden _ => true
  | .mereBreak _ => true
  | .widthChange _ _ _ => true
  | .routeRevert _ => true
  | .clientUnreachable _ => true
  | .routeWrite _ _ => true
  | .rdShared _ _ _ payload _ _ => payload.length % 16 == 0
  | .rdOwn _ _ _ payload _ _ => payload.length % 16 == 0
  | .rdOnce _ _ _ payload _ _ => payload.length % 16 == 0
  | .claim _ _ _ payload _ _ => payload.length % 16 == 0
  | .wrFull _ _ _ payload _ _ => payload.length % 16 == 0
  | .writeback _ _ _ payload => payload.length % 16 == 0
  | .snpRsp _ _ _ => true
  | .fwdData _ _ _ payload => payload.length % 16 == 0
  | .completionAck _ _ _ => true
  | .bulkRd _ _ _ _ _ answers => answersWf answers
  | .bulkWr _ _ _ payload _ _ answers => payload.length % 16 == 0 && answersWf answers
  | .mirrorWrite _ _ body => body.payload.length % 16 == 0
  | .mirrorAck _ => true
  | .privEntryWrite _ _ => true
  | .meshPacketArrival _ => true
  | .meshHop _ _ _ _ => true
  | .starvationThrottle _ _ _ => true
  | .ageAlarm _ => true
  | .heatReport _ => true
  | .heatDecay => true
  | .versionRetire _ _ _ => true
  | .versionBlocksFree _ _ _ => true
  | .regionKeyFree _ _ => true
  | .seqExpiry _ => true
  | .seqFree _ => true
  | .takeoverRetentionEnd _ _ _ => true
  | .blockMoveSwitch _ => true
  | .oldCopyFree _ => true
  | .doorbellRing _ _ _ payload _ _ => payload.length % 16 == 0
  | .doorbellAbort _ _ _ payload _ _ => payload.length % 16 == 0
  | .jobValidate _ _ answers => answersWf answers
  | .startPacket _ _ _ => true
  | .stopPacket _ _ => true
  | .sliceStart _ => true
  | .partialArrival _ answers => answersWf answers
  | .failedPartial _ => true
  | .decodeRevalidate _ _ answers => answersWf answers
  | .jobTimeout _ => true
  | .decode _ _ answers => answersWf answers
  | .ingest _ answers => answersWf answers
  | .ingestRecord _ answers => answersWf answers
  | .seqCreate _ _ => true
  | .seqDestroy _ => true
  | .seqQuery _ answers => answersWf answers
  | .regionPublish _ => true
  | .regionPin _ => true
  | .regionUnpin _ => true
  | .regionDrop _ => true
  | .regionQuery _ answers => answersWf answers
  | .progLoad _ _ answers => answersWf answers
  | .progUnload _ => true
  | .inletBind _ _ => true
  | .inletUnbind _ => true
  | .inletConfigRead => true
  | .inletConfigWrite => true
  | .dispatchCreditWaitEnd _ => true
  | .dispatchServe _ => true
  | .dispatchStarved _ => true
  | .tarnWatchdog _ => true
  | .tarnFaultWrite _ => true
  | .tarnRoleWrite _ _ => true
  | .tarnSubstitution _ => true
  | .roleProgramLoaded _ _ => true
  | .tarnSelftestDone _ _ => true
  | .streamTransferDone _ _ answers => answersWf answers
  | .sblk _ _ _ _ bundle => answersWf bundle.answers
  | .slin _ _ _ _ bundle => answersWf bundle.answers
  | .swrt _ _ _ _ bundle => answersWf bundle.answers
  | .ssend _ _ _ bundle => answersWf bundle.answers
  | .srecv _ _ _ bundle => answersWf bundle.answers
  | .swait _ _ _ _ bundle => answersWf bundle.answers
  | .scopy _ _ _ bundle => answersWf bundle.answers
  | .sset _ _ _ _ bundle => answersWf bundle.answers
  | .vld _ _ _ _ bundle => answersWf bundle.answers
  | .vst _ _ _ _ bundle => answersWf bundle.answers
  | .vop _ _ _ _ _ _ bundle => answersWf bundle.answers
  | .vbc _ _ _ _ bundle => answersWf bundle.answers
  | .vrotq _ _ _ _ bundle => answersWf bundle.answers
  | .mclr _ _ _ bundle => answersWf bundle.answers
  | .mscore _ _ _ _ bundle => answersWf bundle.answers
  | .msoft _ bundle => answersWf bundle.answers
  | .macc _ _ _ bundle => answersWf bundle.answers
  | .msave _ _ _ bundle => answersWf bundle.answers
  | .mload _ _ bundle => answersWf bundle.answers
  | .mcomb _ _ _ bundle => answersWf bundle.answers
  | .mnorm _ _ _ bundle => answersWf bundle.answers
  | .talu _ _ _ _ _ bundle => answersWf bundle.answers
  | .talui _ _ _ _ _ bundle => answersWf bundle.answers
  | .tli _ _ _ bundle => answersWf bundle.answers
  | .tld _ _ _ _ bundle => answersWf bundle.answers
  | .tst _ _ _ _ bundle => answersWf bundle.answers
  | .br _ _ _ _ _ bundle => answersWf bundle.answers
  | .loopOp _ _ _ bundle => answersWf bundle.answers
  | .sget _ _ _ _ bundle => answersWf bundle.answers
  | .sync _ bundle => answersWf bundle.answers
  | .endProgram _ bundle => answersWf bundle.answers
  | .trap _ _ bundle => answersWf bundle.answers
  | .illegalSlot _ _ => true
  | .pondRequest _ _ write _ data _ _ _ _ _ => (if write then lineWf data else data == [])
  | .pondIssue _ _ faults => errorsWf faults.errors
  | .agePromotion _ _ _ => true
  | .rowIdleClose _ _ _ => true
  | .refreshInterval _ _ _ => true
  | .stackTemperatureChange _ _ => true
  | .refreshWindowEnd _ => true
  | .retrainPeriod _ => true
  | .retrainToken _ => true
  | .pauseLimit _ => true
  | .pondFill _ _ _ _ _ _ _ _ _ _ => true
  | .spillFill _ _ _ _ _ _ _ _ => true
  | .fillDone _ _ => true
  | .pondTrain _ => true
  | .pondFaultWrite _ => true
  | .spillTrain _ dimms => decide (dimms.length ≤ 2) && dimms.all (fun d => [32, 64, 96, 128, 256].contains d.2)
  | .trainingDone _ _ _ => true
  | .spillHold _ _ => true
  | .registerWrite _ _ _ => true
  | .unsupportedAccess _ addr size => !((size == 4 || size == 8) && addr.toNat % size == 0)
  | .counterLowRead _ _ _ => true
  | .w1cClear _ _ => true
  | .lockSet _ => true
  | .counterClear _ _ => true
  | .alu _ _ _ _ _ _ => true
  | .addi _ _ _ _ _ => true
  | .andi _ _ _ _ _ => true
  | .ori _ _ _ _ _ => true
  | .xori _ _ _ _ _ => true
  | .slti _ _ _ _ _ => true
  | .sltiu _ _ _ _ _ => true
  | .shi _ _ _ _ _ => true
  | .orhi _ _ _ _ _ => true
  | .addpc _ _ _ _ => true
  | .lb _ _ _ _ answers _ => answersWf answers
  | .lh _ _ _ _ answers _ => answersWf answers
  | .lw _ _ _ _ answers _ => answersWf answers
  | .ld _ _ _ _ answers _ => answersWf answers
  | .lbu _ _ _ _ answers _ => answersWf answers
  | .lhu _ _ _ _ answers _ => answersWf answers
  | .lwu _ _ _ _ answers _ => answersWf answers
  | .sb _ _ _ _ answers _ => answersWf answers
  | .sh _ _ _ _ answers _ => answersWf answers
  | .sw _ _ _ _ answers _ => answersWf answers
  | .sd _ _ _ _ answers _ => answersWf answers
  | .beq _ _ _ _ _ => true
  | .bne _ _ _ _ _ => true
  | .blt _ _ _ _ _ => true
  | .bge _ _ _ _ _ => true
  | .bltu _ _ _ _ _ => true
  | .bgeu _ _ _ _ _ => true
  | .jal _ _ _ _ => true
  | .jalr _ _ _ _ _ => true
  | .atom _ _ _ _ _ answers _ => answersWf answers
  | .fenceRw _ _ => true
  | .fenceW _ _ => true
  | .fenceIo _ _ => true
  | .fenceI _ _ => true
  | .csrrw _ _ _ _ _ => true
  | .csrrs _ _ _ _ _ => true
  | .csrrc _ _ _ _ _ => true
  | .msend _ _ _ _ _ => true
  | .mrecv _ _ _ _ => true
  | .mwait _ _ => true
  | .mcount _ _ _ => true
  | .ecall _ _ => true
  | .breakOp _ _ => true
  | .eret _ _ => true
  | .wfi _ _ => true
  | .illegalInstr _ _ _ => true
  | .coreWake _ => true
  | .timerInterrupt _ => true
  | .interruptEntry _ => true
  | .messageDelivery _ _ => true
  | .undeliverable _ _ => true
  | .wellCoreRelease _ => true
  | .stewardRelease _ => true
  | .stewardRestart _ => true
  | .targetedSelfTest _ _ => true
  | .selfTestHoldEnd _ _ _ => true
  | .scrubRead _ errors => errorsWf errors
  | .scrubLate _ => true
  | .ueRewrite _ => true
  | .readTriple _ => true
  | .writeTriple _ value => lineWf value
  | .stackFail _ => true
  | .rebuild _ => true
  | .hardRepair _ => true
  | .retest _ => true
  | .rebuildUnit => true
  | .celogClear _ _ => true
  | .snoopTimeout _ => true
  | .unreachDeath _ => true
  | .declareDead _ => true
  | .release _ => true
  | .sweepDone _ _ ans => answersWf ans
  | .requestSchedulerServe _ ans => answersWf ans
  | .bulkSchedulerServe _ ans => answersWf ans
  | .tableSync _ _ _ lines _ _ => lines.length % 64 == 0
  | .invalidationDone _ => true
  | .invalidationSlow _ => true
  | .faultQueueHeadWrite _ => true
  | .tenantCreate _ => true
  | .tenantDestroy _ => true
  | .endpointBind _ => true
  | .endpointUnbind _ => true
  | .contextCreate _ => true
  | .contextDestroy _ => true
  | .basinCreate _ shadow => shadow.all (fun b => b < 2 ^ 24)
  | .basinDestroy _ => true
  | .basinUnitsFree _ => true
  | .evacuate _ ans => answersWf ans
  | .importKey _ _ => true
  | .erase _ _ => true
  | .query _ => true
  | .report _ _ => true
  | .extend => true
  | .commit _ _ => true
  | .reserveChunk _ _ => true
  | .partnerAuth _ _ _ _ nonce theirs _ => nonce.length == 32 && theirs.length == 32
  | .dbgReq => true
  | .debugZeroise => true
  | .twinPathLost => true
  | .ringPathLost => true
  | .fenceDelayExpiry => true
  | .fenceHeld => true
  | .takeover => true
  | .fenceRelease => true
  | .admitPartner _ shadow => shadow.all (fun b => b < 2 ^ 24)
  | .switchBack _ _ ans => answersWf ans
  | .copyCommit _ => true
  | .resyncDone => true
  | .pairForm _ _ _ => true
  | .goodbye body _ => body.length == 32
  | .pwron _ => true
  | .resetL => true
  | .perst => true
  | .watchdogExpiry => true
  | .kick => true
  | .swChip _ => true
  | .swData _ => true
  | .partnerResetIn => true
  | .clkfail _ => true
  | .debugReset => true
  | .resetHoldEnd _ => true
  | .l2Reset => true
  | .l2QuiesceTimeout => true
  | .l2ResetResume => true
  | .enter _ _ => true
  | .leave _ _ => true
  | .pulse _ _ => true
  | .unitReady _ _ => true
  | .fuseLoadDone => true
  | .resetInputDeassert _ => true
  | .feedLoss _ _ => true
  | .feedBothLost => true
  | .restore => true
  | .feedReturn _ _ => true
  | .pwrSample _ _ _ _ => true
  | .thermtrip _ _ => true
  | .thermtripRelease _ => true
  | .vmon _ => true
  | .vmonWarn _ => true
  | .sourceStable _ _ => true
  | .refclkFail _ _ => true
  | .clkSelWrite _ => true
  | .vddAonLoss => true
  | .start => true
  | .marker _ _ => true
  | .managementCycle _ _ _ _ ans => answersWf ans
  | .stewardLost _ => true
  | .flr => true
  | .cmdTailWrite _ staged => staged.all (fun e => stagedWf e.1.toNat e.2.length)
  | .paramSet => true
  | .paramGet => true
  | .bulkWrite _ ans => answersWf ans
  | .bulkRead _ ans => answersWf ans
  | .flashWrite _ _ => true
  | .ping => true
  | .evtHeadWrite _ => true
  | .event _ what => what.elim true (fun r => r.data.length ≤ 44)
  | .heartbeatFrame _ frame => frame.length == 64
  | .resetFrame _ frame => frame.length == 64
  | .ringFrameForward _ frame => frame.length == 64
  | .fatalError _ _ => true
  | .dumpDone queue _ => queue.toNat ≤ 0x2000000
  | .ringSyncLost _ => true
  | .ringSyncAcquired _ => true
  | .bootRomStart => true
  | .firmwareLoadDone _ => true
  | .mbxEn _ => true
  | .jobEnable _ => true

end Sys2Proof
end

