-- ==== Sys2Proof/Certificates/Slice0/Obligations.lean ====
section
/-!
DEFINITION. The statements for the provers. Each says what commands of the table do, by the rules its docstring names; a command completes where its
hypotheses hold, and the next state is given whole, as updates of the state before, or by what it holds.
-/
open Sys2Proof Sys2Proof.Machine

/-- A control flit as a link that is not ACTIVE sends it: replicated on the lanes in use, with ACK at E − 1 (R274, R280, R288). -/
def ctlOut (s : State) (n : Nat) (c : Ctl) : Out :=
  .flit n true (s.lanesUsed n) (flitOf (flitHeader 0 (s.ackOf n) false ftControl 15 []) (c.payload (s.reg (R.MERE_PORTID n)).toNat))

/-- A core runs, its island's clock has not stopped, and its pc lies in an executable range (R124, R127, R507). -/
def coreReady (s : State) (i : Fin 8) : Prop :=
  (s.core i).st = .running ∧ s.islandStopped (coreIsland i) = false ∧ canFetch i (s.core i).pc = true

/-- A core has retired one instruction: its record `c`, the pc, and INSTRET raised by 1 (R118, R133). Nothing else of the state `s` changes. -/
def retired (s : State) (i : Fin 8) (c : WCore) (pc : Nat) : State := s.setCore i { c with pc := pc, instret := (c.instret + 1) % 2 ^ 64 }

/-- The next instruction's address. -/
def pcPast (c : WCore) : Nat := (c.pc + 4) % 2 ^ 64

/-- A core has entered its handler with a cause and EVAL (R134): ESTATUS and STATUS, EPC, ECAUSE, EVAL, and pc = EVEC; nothing else changes. -/
def entered (s : State) (i : Fin 8) (epc cause eval : Nat) : State :=
  let c := s.core i
  s.setCore i { c with estatus := c.status, status := 2, epc := epc, ecause := cause, eval := eval, pc := c.evec }

/-- Every instruction of Chotaum-W with the same operands. -/
def coreWords (i : Fin 8) (rd ra rb : Fin 32) (imm : BitVec 16) (disp : BitVec 21) (fn : BitVec 11) (ans : List SnoopAnswer) (e : Ecc) : List Instr :=
  [.alu i rd ra rb fn e, .addi i rd ra imm e, .andi i rd ra imm e, .ori i rd ra imm e, .xori i rd ra imm e, .slti i rd ra imm e, .sltiu i rd ra imm e,
   .shi i rd ra imm e, .orhi i rd ra imm e, .addpc i rd imm e, .lb i rd ra imm ans e, .lh i rd ra imm ans e, .lw i rd ra imm ans e, .ld i rd ra imm ans e,
   .lbu i rd ra imm ans e, .lhu i rd ra imm ans e, .lwu i rd ra imm ans e, .sb i rb ra imm ans e, .sh i rb ra imm ans e, .sw i rb ra imm ans e,
   .sd i rb ra imm ans e, .beq i rb ra imm e, .bne i rb ra imm e, .blt i rb ra imm e, .bge i rb ra imm e, .bltu i rb ra imm e, .bgeu i rb ra imm e,
   .jal i rd disp e, .jalr i rd ra imm e, .atom i rd ra rb fn ans e, .fenceRw i e, .fenceW i e, .fenceIo i e, .fenceI i e, .csrrw i rd ra imm e,
   .csrrs i rd ra imm e, .csrrc i rd ra imm e, .msend i rd ra rb e, .mrecv i rd ra e, .mwait i e, .mcount i rd e, .ecall i e, .breakOp i e, .eret i e,
   .wfi i e]

/-- A coherent Request packet passes the checks of its port, is translated, is not on the move, its tenant's key slot is FULL (or it is a
WR_FULL), and it is served at once (R257, R309, R348, R378, R386): the state then, and the request as its home takes it. None otherwise. -/
def homeward (s : State) (op : HomeOp) (code : Nat) (lens : List Nat) (port : Fin 8) (w0 w1 : Word) (payload : List Byte) (dt : Nat) (hold : Bool) :
    Option (State × HomeReq) :=
  let w := w0.toNat
  let v := w1.toNat
  let ep := pkEp w
  match s.arrives port w v payload dt (pkFormed w 4 code (adReserved v) payload lens) with
  | (_, false) => none
  | (s1, true) =>
    match s1.access { endpoint := ep, srcKind := 0, srcIndex := port } (adAsid v) (adVa v) 64 op.writes with
    | (_, .error _) => none
    | (s2, .ok f) =>
      if s2.onTheMove f || !(s2.slotFull f.tenant || op == .wrFull) then none
      else
        match s2.offer port f.tenant (s2.epClass ep) 1 (creditsOf (16 + payload.length)) false hold ep (pkTxn w) (.home (homeReq op port w v f payload)) with
        | (t, some (.home r)) => some (t, r)
        | _ => none

/-- The command job of an Inlet whose turn has come, of a command code, that is neither decided nor failed (R164, R168). -/
def turnOf (s : State) (inlet code : Nat) : Option Job :=
  (s.jobs.jobs.find? (fun j => j.inlet == inlet && j.st == .command)).filter (fun j => j.desc.source == code && !j.decided && j.fails == [])

/-- What the slots of a bundle see on a Tarn that runs a program of a job in flight, its clock island not stopped. -/
def envOf (s : State) (t : Nat) : Option TEnv :=
  if s.islandStopped t then none
  else (s.tarn t).run.bind (fun r => (s.job r.job).map (fun j => { x := s.tarn t, quad := t / 25, r := r, j := j, fresh := s.fresh }))

/-- How a bundle ends on a Tarn (R81, R104, R113, R143, R145, R157): nothing without a program, with its island's clock stopped, or of a
program that has failed and waits for its transfers; an uncorrectable error of the Tarn's memories faults it, and a corrected
one is counted; PC_RANGE past program memory; when every slot has its effect all take place together, or BUNDLE_CONFLICT where two write one register; a bundle of legal slots of which one cannot issue waits; else the lowest slot that raises an
exception raises it, and nothing of the bundle takes effect. -/
def BundleRule (s : State) (t : Nat) (b : Bundle) (a : Answer) : Prop :=
  let legal := b.s ≠ .bad ∧ b.v ≠ .bad ∧ b.m ≠ .bad ∧ b.c ≠ .bad
  let sound := b.ecc = .ok ∨ b.ecc = .corrected
  let u := if b.ecc = .corrected then s.bump (R.TARN_CNT_SRAM_CE t) else s
  (envOf s t = none → a = .next s) ∧
  ∀ e, envOf s t = some e →
    let l : List (Nat × TRes) := [(0, evalS e b.s), (1, evalV e b.v), (2, evalM e b.m), (3, evalC e b.c)]
    (b.ecc = .sram → a = .next ((s.faultTarn t).setErr (R.TARN_ERR t) F.TARN_ERR_SRAM_UE)) ∧
    (b.ecc = .pmem → a = .next ((s.faultTarn t).setErr (R.TARN_ERR t) F.TARN_ERR_PMEM_UE)) ∧
    (sound → e.r.failing.isSome = true → a = .next u) ∧
    (sound → e.r.failing = none → 4096 ≤ e.r.pc → a = .next (u.progExc t e.r 0x03 3)) ∧
    (sound → e.r.failing = none → e.r.pc < 4096 →
      (∀ f g h k, evalS e b.s = .eff f → evalV e b.v = .eff g → evalM e b.m = .eff h → evalC e b.c = .eff k →
        (conflict f k = false → a = .next (u.issued t e.r e.j e.x b.answers [f, g, h, k])) ∧
        (conflict f k = true → a = .next (u.progExc t e.r 0x02 3))) ∧
      (legal → (∃ p, p ∈ l ∧ p.2 = .stall) → a = .next u) ∧
      (∀ i c k, firstExc l = some (i, c, k) → ¬ legal ∨ (∀ p, p ∈ l → p.2 ≠ .stall) → a = .next (u.progExc t e.r c i k)))

/-- A bundle with one effect, the other slots empty. -/
def only (s : State) (t : Nat) (e : TEnv) (f : TEff) : State := s.issued t e.r e.j e.x [] [f]

/-- No command of XLAT_CMD runs, and the argument bits that a command does not name are 0 (R264, R265). -/
def cmdReady (s : State) (fields : Nat) : Bool :=
  !s.flag R.XLAT_CMD F.XLAT_CMD_BUSY && s.arg 0 &&& (2 ^ 64 - 1 - fields) == 0 && s.arg 1 == 0 && s.arg 2 == 0

/-- For every command c, state s and queue rest: step of s with c at the front of its queue is exec of c on s with the queue's rest. With nothing waiting a step answers the state unchanged. The queue, and what an empty one does, are the model's own (log entry 1). -/
def Obligations.StepRunsFrontCommand : Prop :=
(∀ (c : Instr) (s : State) (rest : List Instr), step { s with pending := c :: rest } = exec c { s with pending := rest }) ∧
  (∀ s : State, s.pending = [] → step s = .next s)

/-- Writing ENABLE 1 to an OFF link that is free to leave OFF sets the bit and enters DETECT, which is a full training with sequence numbers and replay buffer afresh; ENABLE 0 takes it to OFF with width code 3 and an empty mask. SIGNAL_DETECT takes DETECT to EQUALISE when at least the fewest lanes of a working link show signal, and changes nothing when fewer do; EQUALISE_DONE takes EQUALISE to TEST. LANE_TEST_DONE in TEST records the mask of the tested lanes that locked with at most 16 bit errors and sends it in TEST_DONE as its last flit; while the peer has not reported, the link stays in TEST. TEST_DONE of the peer in EQUALISE is recorded, and nothing else changes. -/
def Obligations.LinkTrains : Prop :=
(∀ (n : Fin 9) (s : State), s.linkState n = lsOff → s.linkFree n = true →
    exec (.mereEnable n true) s = .next ((s.putFlag (R.MERE_CTRL n) F.MERE_CTRL_ENABLE true).enterDetect n)) ∧
  (∀ (n : Fin 9) (s : State), (s.enterDetect n).linkState n = lsDetect ∧ ((s.enterDetect n).link n).full = true ∧
    ((s.enterDetect n).link n).held = [] ∧ ((s.enterDetect n).link n).oldest = 0 ∧ ((s.enterDetect n).link n).expect = 0) ∧
  (∀ (n : Fin 9) (s : State), ∃ t, exec (.mereEnable n false) s = .next t ∧ t.linkState n = lsOff ∧
    t.get (R.MERE_LINKSTAT n) F.MERE_LINKSTAT_WIDTH = 3 ∧ t.get (R.MERE_LINKSTAT n) F.MERE_LINKSTAT_GOOD_MASK = 0) ∧
  (∀ (n : Fin 9) (lanes : BitVec 16) (s : State), s.linkState n = lsDetect → fewestLanes n ≤ popCount lanes.toNat (lanesOf n) →
    exec (.signalDetect n lanes) s = .next (s.setLinkState n lsEqualise)) ∧
  (∀ (n : Fin 9) (lanes : BitVec 16) (s : State), popCount lanes.toNat (lanesOf n) < fewestLanes n → exec (.signalDetect n lanes) s = .next s) ∧
  (∀ (n : Fin 9) (s : State), s.linkState n = lsEqualise → exec (.equaliseDone n) s = .next (s.setLinkState n lsTest)) ∧
  (∀ (n : Fin 9) (results : List (Nat × Bool × Nat)) (s : State), s.linkState n = lsTest → (s.link n).ownPass = none → (s.link n).peerPass = none →
    ∃ t m, exec (.laneTestDone n results) s = .next t ∧ t.linkState n = lsTest ∧ (t.link n).ownPass = some m ∧
      m = ((s.lanesTested n).filter (fun i => (results.find? (fun r => r.1 == i)).any (fun r => r.2.1 && decide (r.2.2 ≤ 16)))).foldl (fun m i => m + 2 ^ i) 0 ∧
      (t.link n).ctl = some { code := ctlTestDone, mask := m } ∧ t.out.getLast? = some (ctlOut s n { code := ctlTestDone, mask := m })) ∧
  (∀ (n : Fin 9) (mask : BitVec 16) (s : State), s.linkState n = lsEqualise →
    exec (.testDone n mask) s = .next (s.updLink n (fun l => { l with peerPass := some mask.toNat })))

/-- FLIT_RECEIVE on a link that hears and whose island runs: with no good copy or whole flit the CRC failure is counted and E is NAKed, once for each value of E; a good flit is taken, and what waits at the homes may go on. A sequenced flit of FTYPE 0 whose SEQ is E, which acknowledges nothing new, returns no credits and has a payload of zeros, is taken by advancing E by 1 and counting it in CNT_FLITS_RX, what is held being kept, on an ACTIVE link with nothing queued or owed, no packet half arrived and fewer than 63 flits unreported. In OFF and DETECT nothing is received. NAK_REPEAT_TIMER repeats the NAK of an unchanged E and counts it. ACK_HOLD_TIMER sends an IDLE flit with ACK at E - 1 when a flit is unreported, and then none is. REPLAY_TIMEOUT on an ACTIVE link that holds flits, the first or second in a row, sends every held flit again from O in order and counts one replay. CREDIT_TIMEOUT of a class that waits for credits sets CREDIT_TIMEOUT and declares the link broken. -/
def Obligations.LinkAcknowledges : Prop :=
(∀ (n : Fin 9) (rep : Bool) (parts : List (Nat × List Byte)) (cw : List (Nat × Nat)) (s : State), s.linkHears n = true →
    s.islandStopped (portIsland n) = false → (s.countFec n cw).flitIn n rep parts cw = none →
    exec (.flitReceive n rep parts cw) s = .next (((s.countFec n cw).bump (R.MERE_CNT_CRC_FAIL n)).nak n)) ∧
  (∀ (n : Fin 9) (rep : Bool) (parts : List (Nat × List Byte)) (cw : List (Nat × Nat)) (f : List Byte) (s : State), s.linkHears n = true →
    s.islandStopped (portIsland n) = false → (s.countFec n cw).flitIn n rep parts cw = some f →
    exec (.flitReceive n rep parts cw) s =
      .next (if n = 8 then ((s.countFec n cw).takeFlit n f).changesHeld else (s.countFec n cw).takeFlit n f).pumpAll) ∧
  (∀ (n : Fin 9) (rep : Bool) (parts : List (Nat × List Byte)) (cw : List (Nat × Nat)) (s : State), s.linkState n < lsEqualise →
    exec (.flitReceive n rep parts cw) s = .next s) ∧
  (∀ (n : Fin 9) (s : State), (s.link n).nakFor ≠ some (s.link n).expect →
    s.nak n = ((s.updLink n (fun l => { l with nakFor := some (s.link n).expect })).bump (R.MERE_CNT_NAKS n)).sendIdle n true) ∧
  (∀ (n : Fin 9) (s : State), (s.link n).nakFor = some (s.link n).expect → s.nak n = s) ∧
  (∀ (n : Fin 9) (f : List Byte) (s : State), s.linkActive n = true →
    leNat (f.take 8) = (s.link n).expect + ((s.link n).oldest + 4095) % 4096 * 2 ^ 12 → (s.link n).expect < 4096 → (s.link n).oldest < 4096 →
    (f.drop 8).take 240 = List.replicate 240 0 → (s.link n).queue = [] → (s.link n).owed = [0, 0, 0, 0, 0, 0] → (s.link n).unreported < 63 →
    (s.link n).partSlots = [] →
    ((s.takeFlit n f).link n).expect = ((s.link n).expect + 1) % 4096 ∧ (s.takeFlit n f).reg (R.MERE_CNT_FLITS_RX n) = s.reg (R.MERE_CNT_FLITS_RX n) + 1 ∧
      ((s.takeFlit n f).link n).held = (s.link n).held) ∧
  (∀ (n : Fin 9) (s : State), s.linkHears n = true → (s.link n).nakFor = some (s.link n).expect →
    exec (.nakRepeatTimer n) s = .next ((s.bump (R.MERE_CNT_NAKS n)).sendIdle n true)) ∧
  (∀ (n : Fin 9) (s : State), s.linkHears n = true → (s.link n).unreported ≠ 0 →
    exec (.ackHoldTimer n) s = .next (s.sendIdle n false) ∧ ((s.sendIdle n false).link n).unreported = 0 ∧
      (s.sendIdle n false).out = s.out ++ [.flit n (s.linkState n != lsActive) (s.lanesUsed n) (flitOf (flitHeader 0 (s.ackOf n) false ftIdle 15 []) [])]) ∧
  (∀ (n : Fin 9) (s : State), s.linkActive n = true → (s.link n).held ≠ [] → (s.link n).replays < 2 →
    ∃ t, exec (.replayTimeout n) s = .next t ∧ (t.link n).replays = (s.link n).replays + 1 ∧ (t.link n).held = (s.link n).held ∧
      t.reg (R.MERE_CNT_REPLAYS n) = s.reg (R.MERE_CNT_REPLAYS n) + 1 ∧
      t.out = s.out ++ (s.link n).held.map (fun f => .flit n false (s.lanesUsed n)
        (flitOf (flitHeader f.seq (s.ackOf n) false (if f.credit then ftCredit else ftPayload) f.first f.returns) f.payload))) ∧
  (∀ (n : Fin 9) (c : Fin 6) (s : State), s.creditStarved n c = true →
    exec (.creditTimeout n c) s = .next ((s.setErr (R.MERE_ERR n) F.MERE_ERR_CREDIT_TIMEOUT).breakLink n))

/-- A REQ of rank 1 on an ACTIVE link is answered FOLLOW and counted in CNT_RETRAINS, and the link waits in CONFIG; FOLLOW answers a link in QUIESCE that asked for a retrain (rank 2 or 3), which goes to EQUALISE with no test result of its own and is counted in CNT_RETRAINS. In CONFIG: a CONFIG whose PORT_ID is this end's own notes the peer, sets ID_CLASH and fails the configuration; one from another PORT_ID, of a width this end can take and, in a full training, with an advertisement that is not refused, notes the peer, takes the advertisement in a full training, is answered CONFIG_ACK with E, and the link enters ACTIVE; CONFIG_ACK takes the end that sent CONFIG to ACTIVE. CONTROL_REPEAT sends the unanswered control flit again; CONFIG_TIMEOUT of a REQ or CONFIG fails the configuration; RETRAIN_LIMIT in a retrain not back in ACTIVE declares the link broken. -/
def Obligations.LinkNegotiates : Prop :=
(∀ (n : Fin 9) (portId : Word) (s : State), s.linkState n = lsActive →
    ∃ t, exec (.req n 1 portId) s = .next t ∧ t.linkState n = lsConfig ∧ t.out = s.out ++ [ctlOut s n { code := ctlFollow }] ∧
      t.reg (R.MERE_CNT_RETRAINS n) = s.reg (R.MERE_CNT_RETRAINS n) + 1) ∧
  (∀ (n : Fin 9) (rank : Nat) (s : State), 2 ≤ rank → s.linkState n = lsQuiesce → (s.link n).ownReq = some rank →
    ∃ t, exec (.follow n) s = .next t ∧ t.linkState n = lsEqualise ∧ (t.link n).proceeded = true ∧ (t.link n).ownPass = none ∧
      t.reg (R.MERE_CNT_RETRAINS n) = s.reg (R.MERE_CNT_RETRAINS n) + 1) ∧
  (∀ (n : Fin 9) (width : Nat) (mask : BitVec 16) (nextSeq : BitVec 12) (advert : List (BitVec 16)) (s : State), s.linkState n = lsConfig →
    exec (.config n width (s.reg (R.MERE_PORTID n)) mask nextSeq advert) s =
      .next (((s.meetPeer n (s.link n).full (s.reg (R.MERE_PORTID n))).setErr (R.MERE_ERR n) F.MERE_ERR_ID_CLASH).failConfig n).pumpAll) ∧
  (∀ (n : Fin 9) (width w : Nat) (portId : Word) (mask : BitVec 16) (nextSeq : BitVec 12) (advert : List (BitVec 16)) (s : State),
    s.linkState n = lsConfig → s.reg (R.MERE_PORTID n) ≠ portId → s.configWidth n width mask.toNat = some w →
    ((s.link n).full = true → creditsRefused (advert.map (·.toNat)) = false) →
    exec (.config n width portId mask nextSeq advert) s =
      .next (((if (s.link n).full then (s.meetPeer n true portId).takeAdvert n (advert.map (·.toNat)) else s.meetPeer n false portId).sendControl n
        { code := ctlConfigAck, nextSeq := (s.link n).expect }).enterActive n w mask.toNat nextSeq.toNat (!(s.link n).full)).pumpAll) ∧
  (∀ (n : Fin 9) (w : Nat) (c : Ctl) (nextSeq : BitVec 12) (s : State), s.linkState n = lsConfig → w < 3 →
    (s.link n).ctl = some c → c.code = ctlConfig → c.width = widthOf n w → exec (.configAck n nextSeq) s = .next (s.enterActive n w c.mask nextSeq.toNat true)) ∧
  (∀ (n : Fin 9) (c : Ctl) (s : State), (s.link n).ctl = some c → exec (.controlRepeat n) s = .next (s.sendControl n c)) ∧
  (∀ (n : Fin 9) (c : Ctl) (s : State), (s.link n).ctl = some c → c.code = ctlReq ∨ c.code = ctlConfig →
    exec (.configTimeout n) s = .next (s.failConfig n)) ∧
  (∀ (n : Fin 9) (s : State), lsEqualise ≤ s.linkState n → s.linkState n ≠ lsActive → (s.link n).full = false → 2 ≤ (s.link n).rank →
    exec (.retrainLimit n) s = .next (s.breakLink n))

/-- A burst of errors of a fitted lane that reaches a threshold of MERE_LANECFG within WINDOW_US, a write of RETRAIN or of WIDEN, on an ACTIVE link with fewer than three retrains in the window, takes it to QUIESCE and sends REQ of rank 3; WIDEN tests every lane. A write that changes EXCLUDE, with WIDTH_MAX below 3, writes both, takes an ACTIVE link to QUIESCE and sends REQ of rank 1. A write of BREAK declares a link that is not OFF broken. ROUTE_REVERT with REVERT_MS not 0 clears ON_ALT of every valid entry that names the ACTIVE port as primary. CLIENT_UNREACHABLE of a routed client whose packets wait on its primary port with neither port ACTIVE notes the client and sets the bit in the primary port. ROUTE_WRITE writes PRIMARY, ALT and VALID and clears ON_ALT, no other register changing, and a write that sets VALID with PRIMARY equal to ALT changes nothing but MERE_ERR.ROUTE_REFUSED of MERE0. -/
def Obligations.LinkCommands : Prop :=
(∀ (n : Fin 9) (lane : Fin 16) (uncorr corr us : Nat) (s : State), s.linkState n = lsActive → (s.recentRetrains n).length < 3 →
    lane.val < lanesOf n → us ≤ s.get (R.MERE_LANECFG n) F.MERE_LANECFG_WINDOW_US →
    s.get (R.MERE_LANECFG n) F.MERE_LANECFG_UNCORR_THR ≤ uncorr ∨ 16 * s.get (R.MERE_LANECFG n) F.MERE_LANECFG_CORR_THR ≤ corr →
    exec (.laneErrorBurst ⟨n, lane, uncorr, corr, us⟩) s =
      .next (((s.setLink n { s.link n with ownReq := some 3, rank := 3, testAll := false, proceeded := false }).setLinkState n lsQuiesce).sendCtl
        n { code := ctlReq, rank := 3 })) ∧
  (∀ (n : Fin 9) (s : State), s.linkState n = lsActive → (s.recentRetrains n).length < 3 →
    ∃ t, exec (.mereRetrain n) s = .next t ∧ t.linkState n = lsQuiesce ∧ (t.link n).ownReq = some 3 ∧
      t.out = s.out ++ [ctlOut s n { code := ctlReq, rank := 3 }] ∧ t.flag (R.MERE_CTRL n) F.MERE_CTRL_RETRAIN = true) ∧
  (∀ (n : Fin 9) (s : State), s.linkState n = lsActive → (s.recentRetrains n).length < 3 →
    ∃ t, exec (.mereWiden n) s = .next t ∧ t.linkState n = lsQuiesce ∧ (t.link n).ownReq = some 3 ∧ (t.link n).testAll = true ∧
      t.out = s.out ++ [ctlOut s n { code := ctlReq, rank := 3 }] ∧ t.flag (R.MERE_CTRL n) F.MERE_CTRL_WIDEN = true) ∧
  (∀ (n : Fin 9) (s : State), s.linkState n ≠ lsOff →
    exec (.mereBreak n) s = .next ((s.putFlag (R.MERE_CTRL n) F.MERE_CTRL_BREAK true).breakLink n)) ∧
  (∀ (n : Fin 9) (w : Fin 4) (exclude : BitVec 16) (s : State), s.linkState n = lsActive → w.val < 3 →
    exclude.toNat ≠ s.get (R.MERE_LANECFG n) F.MERE_LANECFG_EXCLUDE →
    ∃ t, exec (.widthChange n w exclude) s = .next t ∧ t.linkState n = lsQuiesce ∧ (t.link n).ownReq = some 1 ∧
      t.get (R.MERE_CTRL n) F.MERE_CTRL_WIDTH_MAX = w ∧ t.get (R.MERE_LANECFG n) F.MERE_LANECFG_EXCLUDE = exclude.toNat ∧
      t.out = s.out ++ [ctlOut s n { code := ctlReq, rank := 1 }]) ∧
  (∀ (n : Fin 8) (s : State), s.linkState n = lsActive → s.get (R.MERE_CTRL n) F.MERE_CTRL_REVERT_MS ≠ 0 →
    ∃ t, exec (.routeRevert n) s = .next t ∧ (∀ e < 4096, s.route e F.ROUTE_VALID = 1 → s.route e F.ROUTE_PRIMARY = n →
      t.route e F.ROUTE_ON_ALT = 0)) ∧
  (∀ (ep : BitVec 12) (s : State), s.route ep.toNat F.ROUTE_VALID = 1 → s.linkActive (s.route ep.toNat F.ROUTE_PRIMARY) = false →
    s.linkActive (s.route ep.toNat F.ROUTE_ALT) = false → (s.link (s.route ep.toNat F.ROUTE_PRIMARY)).queue.any (fun q => q.ep == ep.toNat) = true →
    ∃ t, exec (.clientUnreachable ep) s = .next t ∧ ep.toNat ∈ t.fab.unreach ∧
      t.reg (R.MERE_ERR (s.route ep.toNat F.ROUTE_PRIMARY)) = s.reg (R.MERE_ERR (s.route ep.toNat F.ROUTE_PRIMARY)) ||| 0x400) ∧
  (∀ (ep : BitVec 12) (v : Word) (s : State), bitOf v.toNat 6 = false ∨ bitsOf v.toNat 0 3 ≠ bitsOf v.toNat 3 3 →
    ∃ t, exec (.routeWrite ep v) s = .next t ∧ t.route ep.toNat F.ROUTE_PRIMARY = bitsOf v.toNat 0 3 ∧
      t.route ep.toNat F.ROUTE_ALT = bitsOf v.toNat 3 3 ∧ t.flag (R.ROUTE ep.toNat) F.ROUTE_VALID = bitOf v.toNat 6 ∧
      t.route ep.toNat F.ROUTE_ON_ALT = 0 ∧ (∀ o, o ≠ R.ROUTE ep.toNat → t.reg o = s.reg o)) ∧
  (∀ (ep : BitVec 12) (v : Word) (s : State), bitOf v.toNat 6 = true → bitsOf v.toNat 0 3 = bitsOf v.toNat 3 3 →
    exec (.routeWrite ep v) s = .next (s.setErr (R.MERE_ERR 0) F.MERE_ERR_ROUTE_REFUSED))

/-- On a core that runs, whose clock has not stopped and whose pc lies in an executable range, ALU with a listed FN (RB 0 where the function takes one operand), ADDI, ANDI, ORI, XORI, SLTI, SLTIU, SHI (each of its four functions), ORHI and ADDPC write rd with the value of R121 and R122 (mod 2^64; nothing where rd is x0), add 4 to the pc and 1 to INSTRET, and change nothing else. -/
def Obligations.CoreComputes : Prop :=
∀ (i : Fin 8) (rd ra rb : Fin 32) (imm : BitVec 16) (s : State), coreReady s i →
    let c := s.core i
    let done (v : Nat) : Host.Outcome State Fault Refusal := .next (retired s i (c.set rd v) (pcPast c))
    (∀ (fn : BitVec 11) (k : AluFn), aluOf fn.toNat = some k → k ≠ .popc ∧ k ≠ .clz ∧ k ≠ .ctz ∨ rb = 0 →
      exec (.alu i rd ra rb fn .ok) s = done (aluFn 64 k (c.get ra) (c.get rb))) ∧
    exec (.addi i rd ra imm .ok) s = done (c.get ra + (imm.signExtend 64).toNat) ∧
    exec (.andi i rd ra imm .ok) s = done (c.get ra &&& imm.toNat) ∧
    exec (.ori i rd ra imm .ok) s = done (c.get ra ||| imm.toNat) ∧
    exec (.xori i rd ra imm .ok) s = done (c.get ra ^^^ imm.toNat) ∧
    exec (.slti i rd ra imm .ok) s = done (if signedOf (c.get ra) 64 < imm.toInt then 1 else 0) ∧
    exec (.sltiu i rd ra imm .ok) s = done (if c.get ra < (imm.signExtend 64).toNat then 1 else 0) ∧
    (imm.toNat < 0x40 → exec (.shi i rd ra imm .ok) s = done (aluFn 64 .sll (c.get ra) imm.toNat)) ∧
    (0x40 ≤ imm.toNat → imm.toNat < 0x80 → exec (.shi i rd ra imm .ok) s = done (aluFn 64 .srl (c.get ra) (imm.toNat - 0x40))) ∧
    (0x80 ≤ imm.toNat → imm.toNat < 0xC0 → exec (.shi i rd ra imm .ok) s = done (aluFn 64 .sra (c.get ra) (imm.toNat - 0x80))) ∧
    (0xC0 ≤ imm.toNat → imm.toNat < 0x100 → exec (.shi i rd ra imm .ok) s = done (rotRight 64 (c.get ra) (imm.toNat - 0xC0))) ∧
    exec (.orhi i rd ra imm .ok) s = done (c.get ra * 2 ^ 16 % 2 ^ 64 ||| imm.toNat) ∧
    exec (.addpc i rd imm .ok) s = done (c.pc + (imm.signExtend 64).toNat * 4)

/-- R123: division never raises an exception: on a ready core DIV, DIVU, REM and REMU of any operands, fetched without an error of the core's SRAM, write rd and move on. For a divisor of 0, DIV and DIVU return all ones, and REM and REMU return ra. For DIV of −2^63 by −1, DIV returns −2^63 and REM returns 0. -/
def Obligations.DivisionNeverRaises : Prop :=
∀ (i : Fin 8) (rd ra rb : Fin 32) (s : State), coreReady s i →
    let c := s.core i
    let gives (fn : BitVec 11) (v : Nat) : Prop := exec (.alu i rd ra rb fn .ok) s = .next (retired s i (c.set rd v) (pcPast c))
    (∀ fn : BitVec 11, fn = 0x014 ∨ fn = 0x015 ∨ fn = 0x016 ∨ fn = 0x017 → ∃ v, gives fn v) ∧
    (c.get rb = 0 → gives 0x014 (2 ^ 64 - 1) ∧ gives 0x015 (2 ^ 64 - 1) ∧ gives 0x016 (c.get ra) ∧ gives 0x017 (c.get ra)) ∧
    (c.get ra = 2 ^ 63 → c.get rb = 2 ^ 64 - 1 → gives 0x014 (2 ^ 63) ∧ gives 0x016 0)

/-- For all 64-bit words a and b, the number that the ALU functions compute is the word operation's: addition, subtraction, logic, shifts by b[5:0], comparisons, minima and maxima signed and unsigned, the low and the high 64 bits of the products, division rounded toward zero with all ones for a divisor of 0, and the remainder with the sign of a, or a for a divisor of 0. The value always fits 64 bits. -/
def Obligations.AluIsTheWordOperation : Prop :=
∀ (a b : BitVec 64),
    aluFn 64 .add a.toNat b.toNat = (a + b).toNat ∧ aluFn 64 .sub a.toNat b.toNat = (a - b).toNat ∧
    aluFn 64 .bitAnd a.toNat b.toNat = (a &&& b).toNat ∧ aluFn 64 .bitOr a.toNat b.toNat = (a ||| b).toNat ∧
    aluFn 64 .bitXor a.toNat b.toNat = (a ^^^ b).toNat ∧ aluFn 64 .sll a.toNat b.toNat = (a <<< (b.toNat % 64)).toNat ∧
    aluFn 64 .srl a.toNat b.toNat = (a >>> (b.toNat % 64)).toNat ∧ aluFn 64 .sra a.toNat b.toNat = (a.sshiftRight (b.toNat % 64)).toNat ∧
    aluFn 64 .slt a.toNat b.toNat = (if a.toInt < b.toInt then 1 else 0) ∧ aluFn 64 .sltu a.toNat b.toNat = (if a < b then 1 else 0) ∧
    aluFn 64 .min a.toNat b.toNat = (if b.toInt < a.toInt then b else a).toNat ∧
    aluFn 64 .max a.toNat b.toNat = (if a.toInt < b.toInt then b else a).toNat ∧
    aluFn 64 .minu a.toNat b.toNat = (if b < a then b else a).toNat ∧ aluFn 64 .maxu a.toNat b.toNat = (if a < b then b else a).toNat ∧
    aluFn 64 .mul a.toNat b.toNat = (a * b).toNat ∧
    aluFn 64 .mulh a.toNat b.toNat = (((a.signExtend 128 * b.signExtend 128) >>> 64).setWidth 64).toNat ∧
    aluFn 64 .mulhu a.toNat b.toNat = (((a.setWidth 128 * b.setWidth 128) >>> 64).setWidth 64).toNat ∧
    aluFn 64 .div a.toNat b.toNat = (if b = 0 then BitVec.allOnes 64 else a.sdiv b).toNat ∧
    aluFn 64 .divu a.toNat b.toNat = (if b = 0 then BitVec.allOnes 64 else a / b).toNat ∧
    aluFn 64 .rem a.toNat b.toNat = (if b = 0 then a else a.srem b).toNat ∧ aluFn 64 .remu a.toNat b.toNat = (if b = 0 then a else a % b).toNat ∧
    ∀ k : AluFn, aluFn 64 k a.toNat b.toNat < 2 ^ 64

/-- On a ready core, a load from an aligned address writes rd with the bytes at ra + sext(IMM16) mod 2^64, sign-extended for LB, LH, LW and LD and zero-extended for LBU, LHU and LWU, and moves the pc on; a store writes the low 1, 2, 4 or 8 bytes of rb there and moves the pc on, where what it sets going has not reset, restarted or stopped the core itself. What memory gives and takes is State.coreLoad and State.coreStore, over SRAM, register space, boot ROM and pool; beside rd, the pc and INSTRET only what the access itself does to the state changes. A load from a Wellhead core's own SRAM gives the bytes stored there, and a store there changes these bytes alone. -/
def Obligations.CoreLoadsAndStores : Prop :=
(∀ (i : Fin 8) (rd ra : Fin 32) (imm : BitVec 16) (ans : List SnoopAnswer) (s t : State) (d : List Byte), coreReady s i →
    let c := s.core i
    let a := (c.get ra + (imm.signExtend 64).toNat) % 2 ^ 64
    let loads (n : Nat) : Prop := a % n = 0 ∧ s.coreLoad i c a n ans = (t, .val d)
    let sx (n : Nat) : Host.Outcome State Fault Refusal := .next (retired t i (c.set rd (unsignedOf (signedOf (leNat d) (8 * n)) 64)) (pcPast c))
    let zx : Host.Outcome State Fault Refusal := .next (retired t i (c.set rd (leNat d)) (pcPast c))
    (loads 1 → exec (.lb i rd ra imm ans .ok) s = sx 1 ∧ exec (.lbu i rd ra imm ans .ok) s = zx) ∧
    (loads 2 → exec (.lh i rd ra imm ans .ok) s = sx 2 ∧ exec (.lhu i rd ra imm ans .ok) s = zx) ∧
    (loads 4 → exec (.lw i rd ra imm ans .ok) s = sx 4 ∧ exec (.lwu i rd ra imm ans .ok) s = zx) ∧
    (loads 8 → exec (.ld i rd ra imm ans .ok) s = sx 8)) ∧
  (∀ (i : Fin 8) (rb ra : Fin 32) (imm : BitVec 16) (ans : List SnoopAnswer) (s t : State) (d : WCore), coreReady s i →
    let c := s.core i
    let a := (c.get ra + (imm.signExtend 64).toNat) % 2 ^ 64
    let stores (n : Nat) : Prop := a % n = 0 ∧ s.coreStore i c a (leBytes (c.get rb) n) ans = (t, some d) ∧ s.sameCore t c d = true
    (stores 1 → exec (.sb i rb ra imm ans .ok) s = .next (retired t i d (pcPast d))) ∧
    (stores 2 → exec (.sh i rb ra imm ans .ok) s = .next (retired t i d (pcPast d))) ∧
    (stores 4 → exec (.sw i rb ra imm ans .ok) s = .next (retired t i d (pcPast d))) ∧
    (stores 8 → exec (.sd i rb ra imm ans .ok) s = .next (retired t i d (pcPast d)))) ∧
  (∀ (i : Fin 4) (s : State) (a n : Nat) (d : List Byte) (ans : List SnoopAnswer), a < 0x800000 →
    s.coreLoad i (s.core i) a n ans = (s, .val (tblBytes s.wsram a n)) ∧
    s.coreStore i (s.core i) a d ans = ({ s with wsram := tblStore s.wsram a d }, some (s.core i)) ∧
    tblBytes (tblStore s.wsram a d) a d.length = d ∧
    ∀ b, b < a ∨ a + d.length ≤ b → Tbl.get (fun _ => 0) (tblStore s.wsram a d) b = Tbl.get (fun _ => 0) s.wsram b)

/-- On a ready core with EXL 0, a load or store whose address is not a multiple of its size enters the handler with MISALIGNED and the address in EVAL and changes nothing else; LD whose access faults enters with LOAD_FAULT, of a poisoned line with POISON and the line's address, SD whose access faults with STORE_FAULT. With EXL 1 a misaligned LD stops the core. -/
def Obligations.CoreFaultsOnAccess : Prop :=
(∀ (i : Fin 8) (rd ra : Fin 32) (imm : BitVec 16) (ans : List SnoopAnswer) (s : State), coreReady s i → (s.core i).exl = false →
    let a := ((s.core i).get ra + (imm.signExtend 64).toNat) % 2 ^ 64
    let mis : Host.Outcome State Fault Refusal := .next (entered s i (s.core i).pc 5 a)
    (a % 2 ≠ 0 → exec (.lh i rd ra imm ans .ok) s = mis ∧ exec (.lhu i rd ra imm ans .ok) s = mis ∧ exec (.sh i rd ra imm ans .ok) s = mis) ∧
    (a % 4 ≠ 0 → exec (.lw i rd ra imm ans .ok) s = mis ∧ exec (.lwu i rd ra imm ans .ok) s = mis ∧ exec (.sw i rd ra imm ans .ok) s = mis) ∧
    (a % 8 ≠ 0 → exec (.ld i rd ra imm ans .ok) s = mis ∧ exec (.sd i rd ra imm ans .ok) s = mis)) ∧
  (∀ (i : Fin 8) (rd ra : Fin 32) (imm : BitVec 16) (ans : List SnoopAnswer) (s : State), coreReady s i → (s.core i).exl = true →
    ((s.core i).get ra + (imm.signExtend 64).toNat) % 2 ^ 64 % 8 ≠ 0 →
    ∃ t, exec (.ld i rd ra imm ans .ok) s = .next t ∧ (t.core i).st = .stopped) ∧
  (∀ (i : Fin 8) (rd ra : Fin 32) (imm : BitVec 16) (ans : List SnoopAnswer) (s t : State) (l : Nat), coreReady s i →
    let c := s.core i
    let a := (c.get ra + (imm.signExtend 64).toNat) % 2 ^ 64
    a % 8 = 0 → (t.core i).exl = false →
    (s.coreLoad i c a 8 ans = (t, .fault) → exec (.ld i rd ra imm ans .ok) s = .next (entered t i c.pc 3 a)) ∧
    (s.coreLoad i c a 8 ans = (t, .poison l) → exec (.ld i rd ra imm ans .ok) s = .next (entered t i c.pc 6 l)) ∧
    (s.coreStore i c a (leBytes (c.get rd) 8) ans = (t, none) → exec (.sd i rd ra imm ans .ok) s = .next (entered t i c.pc 4 a)))

/-- On a ready core, a conditional branch whose condition holds goes to pc + (sext(IMM16) << 2), else past itself; JAL and JALR write rd with pc + 4 and go to their target (JALR's with bits [1:0] cleared), where the target lies in an executable range; nothing else changes but INSTRET. A JALR to a target outside the executable ranges enters the handler with FETCH_FAULT, EPC and EVAL the target, when EXL is 0. -/
def Obligations.CoreBranches : Prop :=
(∀ (i : Fin 8) (rb ra : Fin 32) (imm : BitVec 16) (s : State), coreReady s i →
    let c := s.core i
    let a := c.get ra
    let b := c.get rb
    let t := (c.pc + (imm.signExtend 64).toNat * 4) % 2 ^ 64
    let go (cond : Bool) : Host.Outcome State Fault Refusal := .next (retired s i c (if cond then t else (pcPast c)))
    canFetch i t = true →
    exec (.beq i rb ra imm .ok) s = go (decide (a = b)) ∧ exec (.bne i rb ra imm .ok) s = go (decide (a ≠ b)) ∧
    exec (.blt i rb ra imm .ok) s = go (decide (signedOf a 64 < signedOf b 64)) ∧ exec (.bge i rb ra imm .ok) s = go (decide (signedOf b 64 ≤ signedOf a 64)) ∧
    exec (.bltu i rb ra imm .ok) s = go (decide (a < b)) ∧ exec (.bgeu i rb ra imm .ok) s = go (decide (b ≤ a))) ∧
  (∀ (i : Fin 8) (rd : Fin 32) (imm : BitVec 21) (s : State), coreReady s i →
    let c := s.core i
    let t := (c.pc + (imm.signExtend 64).toNat * 4) % 2 ^ 64
    canFetch i t = true → exec (.jal i rd imm .ok) s = .next (retired s i (c.set rd (c.pc + 4)) t)) ∧
  (∀ (i : Fin 8) (rd ra : Fin 32) (imm : BitVec 16) (s : State), coreReady s i →
    let c := s.core i
    let t := (c.get ra + (imm.signExtend 64).toNat) % 2 ^ 64 / 4 * 4
    canFetch i t = true → exec (.jalr i rd ra imm .ok) s = .next (retired s i (c.set rd (c.pc + 4)) t)) ∧
  (∀ (i : Fin 8) (rd ra : Fin 32) (imm : BitVec 16) (s : State), coreReady s i → (s.core i).exl = false →
    let t := ((s.core i).get ra + (imm.signExtend 64).toNat) % 2 ^ 64 / 4 * 4
    canFetch i t = false → exec (.jalr i rd ra imm .ok) s = .next (entered s i t 2 t))

/-- On a ready core: FENCE_RW with no mirror write of its own outstanding, FENCE_W, FENCE_IO and FENCE_I move the pc on; ERET sets STATUS (IE and EXL) from ESTATUS and the pc from EPC; WFI with no interrupt pending and MWAIT with an empty queue and no enabled interrupt leave the core waiting; MCOUNT writes the messages in the receive queue to rd. On a Wellhead core, ATOM at an aligned address of its SRAM with a listed FN writes what R131 says, nothing where a compare fails, and returns the old word; MSEND of 64 bytes of its SRAM to an existing destination, with room in the send queue, queues them and returns 0; MRECV of a message moves it to SRAM and returns 1. -/
def Obligations.CoreSystem : Prop :=
(∀ (i : Fin 8) (rd : Fin 32) (s : State), coreReady s i →
    let c := s.core i
    (c.stores = [] → exec (.fenceRw i .ok) s = .next (retired s i c (pcPast c))) ∧ exec (.fenceW i .ok) s = .next (retired s i c (pcPast c)) ∧
    exec (.fenceIo i .ok) s = .next (retired s i c (pcPast c)) ∧ exec (.fenceI i .ok) s = .next (retired s i c (pcPast c)) ∧
    exec (.eret i .ok) s = .next (retired s i { c with status := c.estatus % 4 } c.epc) ∧
    (c.ip = 0 → exec (.wfi i .ok) s = .next (retired s i { c with st := .wfi } (pcPast c))) ∧
    (c.recvq = [] → c.pendingCode = none → exec (.mwait i .ok) s = .next (retired s i { c with st := .mwait } (pcPast c))) ∧
    exec (.mcount i rd .ok) s = .next (retired s i (c.set rd c.recvq.length) (pcPast c))) ∧
  (∀ (i : Fin 4) (rd ra rb : Fin 32) (fn : BitVec 11) (ans : List SnoopAnswer) (s : State), coreReady s (i.castLE (by decide)) →
    let c := s.core i
    let a := c.get ra
    atomFnOk fn.toNat = true → a % 8 = 0 → a < 0x800000 →
    let old := leNat (tblBytes s.wsram a 8)
    exec (.atom (i.castLE (by decide)) rd ra rb fn ans .ok) s =
      .next (retired (if fn.toNat % 16 = 0xA ∧ old ≠ c.get rd then s
          else { s with wsram := tblStore s.wsram a (leBytes (atomNew (fn.toNat % 16) old (c.get rb) (c.get rd)) 8) }) (i.castLE (by decide))
        (c.set rd old) (pcPast c))) ∧
  (∀ (i : Fin 4) (rd ra rb : Fin 32) (s : State), coreReady s (i.castLE (by decide)) →
    let c := s.core i
    let a := c.get ra
    a % 64 = 0 → a < 0x800000 →
    (hierUnits (c.get rb % 65536) ≠ [] → c.sendq.length < 16 →
      exec (.msend (i.castLE (by decide)) rd ra rb .ok) s =
        .next (retired s (i.castLE (by decide)) ({ c with sendq := c.sendq ++ [(c.get rb % 65536, tblBytes s.wsram a 64)] }.set rd 0) (pcPast c))) ∧
    (∀ (m : List Byte) (q : List (List Byte)), c.recvq = m :: q →
      exec (.mrecv (i.castLE (by decide)) rd ra .ok) s =
        .next (retired { s with wsram := tblStore s.wsram a m } (i.castLE (by decide)) ({ c with recvq := q }.set rd 1) (pcPast c))))

/-- R132: on a ready core CSRRW, CSRRS and CSRRC name a control register in IMM16[11:0]. With IMM16[15:12] not 0 each is an illegal instruction. With a listed register each returns the register's old value in rd; CSRRW writes ra, CSRRS sets the bits that are 1 in ra, CSRRC clears them; CSRRS and CSRRC with RA = 0 do not write. Naming an unlisted register, or writing an RO register, raises CSR_FAULT (ECAUSE 9). The registers that are listed, what each reads as, which are RO, and what a write leaves in each are stated too; a read of CYCLE takes the count that the counter stands at, whose advance is free. -/
def Obligations.ControlRegisterInstructions : Prop :=
(∀ (i : Fin 8) (rd ra : Fin 32) (n : BitVec 12) (s : State), coreReady s i →
    let c := s.core i
    let imm : BitVec 16 := n.setWidth 16
    (∀ (t : State) (d : WCore) (old : Nat), s.csrRead i c n.toNat = some (t, d, old) →
      (csrReadOnly n.toNat = false → exec (.csrrw i rd ra imm .ok) s = .next (retired t i ((d.csrWrite n.toNat (c.get ra)).set rd old) (pcPast c))) ∧
      (csrReadOnly n.toNat = false → ra ≠ 0 →
        exec (.csrrs i rd ra imm .ok) s = .next (retired t i ((d.csrWrite n.toNat (old ||| c.get ra)).set rd old) (pcPast c)) ∧
        exec (.csrrc i rd ra imm .ok) s = .next (retired t i ((d.csrWrite n.toNat (old &&& (2 ^ 64 - 1 - c.get ra))).set rd old) (pcPast c))) ∧
      (ra = 0 → exec (.csrrs i rd ra imm .ok) s = .next (retired t i (d.set rd old) (pcPast c)) ∧
        exec (.csrrc i rd ra imm .ok) s = .next (retired t i (d.set rd old) (pcPast c)))) ∧
    (c.exl = false → s.csrRead i c n.toNat = none ∨ csrReadOnly n.toNat = true →
      exec (.csrrw i rd ra imm .ok) s = .next (entered s i c.pc 9 (wordB 0x38 rd ra imm)) ∧
      (s.csrRead i c n.toNat = none ∨ ra ≠ 0 →
        exec (.csrrs i rd ra imm .ok) s = .next (entered s i c.pc 9 (wordB 0x39 rd ra imm)) ∧
        exec (.csrrc i rd ra imm .ok) s = .next (entered s i c.pc 9 (wordB 0x3A rd ra imm))))) ∧
  (∀ (i : Fin 8) (rd ra : Fin 32) (imm : BitVec 16) (s : State), coreReady s i → (s.core i).exl = false → 0x1000 ≤ imm.toNat →
    exec (.csrrw i rd ra imm .ok) s = .next (entered s i (s.core i).pc 1 (wordB 0x38 rd ra imm)) ∧
    exec (.csrrs i rd ra imm .ok) s = .next (entered s i (s.core i).pc 1 (wordB 0x39 rd ra imm)) ∧
    exec (.csrrc i rd ra imm .ok) s = .next (entered s i (s.core i).pc 1 (wordB 0x3A rd ra imm))) ∧
  (∀ (i n : Nat) (c : WCore) (s : State), (s.csrRead i c n).isSome = true ↔
    n ∈ [0x000, 0x001, 0x002, 0x003, 0x010, 0x011, 0x012, 0x013, 0x014, 0x015, 0x016, 0x017, 0x018, 0x019, 0x020, 0x021]) ∧
  (∀ n : Nat, (n ∈ [0x000, 0x001, 0x002, 0x003, 0x017, 0x020] → csrReadOnly n = true) ∧
    (n ∈ [0x010, 0x011, 0x012, 0x013, 0x014, 0x015, 0x016, 0x018, 0x019, 0x021] → csrReadOnly n = false)) ∧
  (∀ (i : Nat) (c : WCore) (s : State),
    (∀ j ∈ [(0x002, c.instret), (0x010, c.status), (0x011, c.estatus), (0x012, c.epc), (0x013, c.ecause), (0x014, c.eval), (0x015, c.evec), (0x016, c.ie),
      (0x017, c.ip), (0x018, c.tcmp), (0x019, c.scratch), (0x020, (16 - c.sendq.length) + c.recvq.length * 256), (0x021, c.kslot)],
      s.csrRead i c j.1 = some (s, c, j.2)) ∧
    (i < 4 → s.csrRead i c 0x000 = some (s, c, i) ∧ s.csrRead i c 0x003 = some (s, c, (s.reg R.WELL_MCYCLE).toNat)) ∧
    (4 ≤ i → s.csrRead i c 0x000 = some (s, c, 4 * (i - 4) + 16) ∧ s.csrRead i c 0x003 = some (s, c, c.mcycle)) ∧
    (∃ (t : State) (v : Nat), s.csrRead i c 0x001 = some (t, { c with cycle := v }, v) ∧ v < 2 ^ 64 ∧ t.regs = s.regs)) ∧
  (∀ (c : WCore) (v : Nat), v < 2 ^ 64 →
    c.csrWrite 0x010 v = { c with status := v % 4 } ∧ c.csrWrite 0x011 v = { c with estatus := v } ∧ c.csrWrite 0x012 v = { c with epc := v } ∧
    c.csrWrite 0x013 v = { c with ecause := v } ∧ c.csrWrite 0x014 v = { c with eval := v } ∧ c.csrWrite 0x015 v = { c with evec := v - v % 4 } ∧
    c.csrWrite 0x016 v = { c with ie := v } ∧ c.csrWrite 0x018 v = { c with tcmp := v } ∧ c.csrWrite 0x019 v = { c with scratch := v } ∧
    c.csrWrite 0x021 v = { c with kslot := v &&& 0xFF01FF })

/-- On a ready core with EXL 0, ECALL, BREAK and an illegal word enter the handler: ESTATUS takes STATUS, IE becomes 0 and EXL 1, EPC takes the instruction's pc, ECAUSE its code, EVAL 0 or the word, and pc = EVEC. With EXL 1 ECALL stops the core. An interrupt whose code k is the lowest pending and enabled enters while IE is 1, ECAUSE holding 2^63 + k, EPC the pc; its EVAL is a free value (log entry 60). ECALL at a pc outside the executable ranges enters with FETCH_FAULT. An uncorrectable error of SRAM or cache, met by any instruction, enters with SRAM_UE and its address and sets WELL_ERR.SRAM_UE; a corrected one sets WELL_ERR.SRAM_CE, and the instruction has its effect. -/
def Obligations.ExceptionEntry : Prop :=
(∀ (i : Fin 8) (s : State), coreReady s i → (s.core i).exl = false →
    exec (.ecall i .ok) s = .next (entered s i (s.core i).pc 7 0) ∧ exec (.breakOp i .ok) s = .next (entered s i (s.core i).pc 8 0) ∧
    ∀ w : BitVec 32, legalWord w.toNat = false → exec (.illegalInstr i w .ok) s = .next (entered s i (s.core i).pc 1 w.toNat)) ∧
  (∀ (i : Fin 8) (s : State), coreReady s i → (s.core i).exl = true → ∃ t, exec (.ecall i .ok) s = .next t ∧ (t.core i).st = .stopped) ∧
  (∀ (i : Fin 8) (k : Nat) (s : State), (s.core i).st = .running → (s.core i).ieOn = true → (s.core i).pendingCode = some k →
    ∃ t v, exec (.interruptEntry i) s = .next t ∧ t.regs = s.regs ∧ (t.core i).estatus = (s.core i).status ∧ (t.core i).status = 2 ∧
      (t.core i).epc = (s.core i).pc ∧ (t.core i).ecause = 2 ^ 63 + k ∧ (t.core i).eval = v ∧ (t.core i).pc = (s.core i).evec ∧
      (t.core i).x = (s.core i).x ∧ ∀ j, j ≠ i.val → t.core j = s.core j) ∧
  (∀ (i : Fin 8) (s : State), (s.core i).st = .running → s.islandStopped (coreIsland i) = false → canFetch i (s.core i).pc = false →
    (s.core i).exl = false → exec (.ecall i .ok) s = .next (entered s i (s.core i).pc 2 (s.core i).pc)) ∧
  (∀ (i : Fin 8) (rd ra rb : Fin 32) (imm : BitVec 16) (disp : BitVec 21) (fn : BitVec 11) (ans : List SnoopAnswer) (s : State), coreReady s i →
    (∀ (a : Word), (s.core i).exl = false → ∀ c ∈ coreWords i rd ra rb imm disp fn ans (.ue a),
      exec c s = .next ((entered s i (s.core i).pc 10 a.toNat).setErr R.WELL_ERR F.WELL_ERR_SRAM_UE)) ∧
    (∀ p ∈ (coreWords i rd ra rb imm disp fn ans .corrected).zip (coreWords i rd ra rb imm disp fn ans .ok), ∀ t : State, exec p.2 s = .next t →
      exec p.1 s = .next (t.setErr R.WELL_ERR F.WELL_ERR_SRAM_CE)))

/-- CORE_WAKE sets a core running that waits in WFI with an interrupt pending or in MWAIT with a message, and changes nothing of a running core; TIMER_INTERRUPT brings CYCLE to TCMP. MESSAGE_DELIVERY of the first message of a core's send queue to another core, of the Wellhead, whose receive queue has room moves it there. UNDELIVERABLE takes the message from its sender and posts a notice back. WELL_CORE_RELEASE and STEWARD_RELEASE of a held core set its release bit and start it; STEWARD_RESTART starts a Steward's core from its reset state, its SRAM holding the program image in the firmware. -/
def Obligations.CoreEvents : Prop :=
(∀ (i : Fin 8) (s : State), ((s.core i).st = .wfi ∧ (s.core i).ip ≠ 0) ∨ ((s.core i).st = .mwait ∧ (s.core i).recvq ≠ []) →
    exec (.coreWake i) s = .next (s.setCore i { s.core i with st := .running })) ∧
  (∀ (i : Fin 8) (s : State), (s.core i).st = .running → exec (.coreWake i) s = .next s) ∧
  (∀ (i : Fin 8) (s : State), (s.core i).cycle < (s.core i).tcmp →
    exec (.timerInterrupt i) s = .next (s.setCore i { s.core i with cycle := (s.core i).tcmp })) ∧
  (∀ (i : Fin 8) (j : Fin 4) (b : List Byte) (q : List (Nat × List Byte)) (s : State), i.val ≠ j.val → (s.core i).sendq = (coreAddr j, b) :: q →
    (s.core j).recvq.length < 64 →
    exec (.messageDelivery (some i) 0) s = .next ((s.setCore i { s.core i with sendq := q }).setCore j
      { s.core j with recvq := (s.core j).recvq ++ [delivered (coreAddr i) (coreAddr j) b] })) ∧
  (∀ (i : Fin 8) (d : Nat) (b : List Byte) (q : List (Nat × List Byte)) (s : State), (s.core i).sendq = (d, b) :: q →
    exec (.undeliverable (some i) 0) s =
      .next (((s.setCore i { s.core i with sendq := q }).tick).postMsg d (coreAddr i) (undeliverable b s.fresh))) ∧
  (∀ (i : Fin 4) (s : State), (s.core i).st = .held →
    exec (.wellCoreRelease i) s = .next ((s.put R.WELL_CORECTL F.WELL_CORECTL_RELEASE
      (s.get R.WELL_CORECTL F.WELL_CORECTL_RELEASE ||| 2 ^ i.val)).setCore i { s.core i with st := .running })) ∧
  (∀ (q : Fin 4) (s : State), (s.core (4 + q)).st = .held →
    exec (.stewardRelease q) s = .next ((s.put R.WELL_CORECTL F.WELL_CORECTL_STEWARD_RELEASE
      (s.get R.WELL_CORECTL F.WELL_CORECTL_STEWARD_RELEASE ||| 2 ^ q.val)).setCore (4 + q) { s.core (4 + q) with st := .running })) ∧
  (∀ (q : Fin 4) (s : State), exec (.stewardRestart q) s =
    .next (s.setCore (4 + q) { coreReset (4 + q) with st := .running, sram := tblStore [] 0 (Config.stewardImage s.mgmt.fwCode q) }))

/-- While only core commands wait (Chotaum-W instructions without an access of memory or a message, illegal words, wakes, timers and interrupts), every step keeps it so that the commands that wait are core commands and that every core is in order: x0 is listed nowhere, every register is a word of its width, STATUS has IE and EXL alone. This holds through traps, stops and interrupts, and whatever the free values are. x0 therefore reads as 0 in every state of such a run. -/
def Obligations.CoresKeepTheirForm : Prop :=
∀ s t : State, (∀ c ∈ s.pending, coreCommand c = true) → (∀ i, (s.core i).inOrder) → step s = .next t →
    (∀ c ∈ t.pending, coreCommand c = true) ∧ ∀ i, (t.core i).inOrder

/-- At State.reset every core is in order, core 0 runs at 0x70000000 with every general register 0, and every other core is held. (A Steward's first pc, 0, is the model's choice, log entry 45.) -/
def Obligations.CoresInFormAtReset : Prop :=
(∀ i, (State.reset.core i).inOrder) ∧ (State.reset.core 0).st = .running ∧ (State.reset.core 0).pc = 0x70000000 ∧
  (∀ i r, (State.reset.core i).get r = 0) ∧ ∀ i, 0 < i → (State.reset.core i).st = .held

/-- REGISTER_WRITE with a size and alignment of R8 writes the register's plain fields (State.writeReg, WritesFollowAccessCodes) and then what follows a write (State.afterWrite); another REGISTER_WRITE, and UNSUPPORTED_ACCESS, change no register and complete as an Unsupported Request (a write's requester is the model's choice, log entry 104). COUNTER_LOW_READ of a counter's low half gives it, changes no register, and the same requester's next read of its high half gives the high half of the same value; a read of all 64 bits gives the whole register. W1C_CLEAR clears the written bits of each W1C field and keeps the others. LOCK_SET sets a block's lock bit. COUNTER_CLEAR of a link clears counter i for each bit i written 1 and keeps the others. Where a change makes a vector's condition true that was false, the vector's message is sent when its MSI-X mask bit is 0, and its pending bit is set in the table's PBA when it is 1; where the condition was true already, or stays false, nothing is sent. An error bit set in a register of a block with a vector, unmasked in ERRMASK, with no source of the vector set before, sends the vector's message. -/
def Obligations.RegisterAccesses : Prop :=
(∀ (addr : BitVec 26) (wide : Bool) (v : Word) (s : State), accessOk addr.toNat (if wide then 8 else 4) = true →
    exec (.registerWrite addr wide v) s = .next (let s := s.release (addr.toNat / 8 * 8);
      State.afterWrite s (s.writeReg addr.toNat (if wide then 8 else 4) v.toNat) (addr.toNat / 8 * 8))) ∧
  (∀ (addr : BitVec 26) (wide : Bool) (v : Word) (s : State), accessOk addr.toNat (if wide then 8 else 4) = false →
    exec (.registerWrite addr wide v) s = .next (s.send (.unsupported 0 addr.toNat))) ∧
  (∀ (r : BitVec 16) (addr : BitVec 26) (size : Nat) (s : State), accessOk addr.toNat size = false →
    exec (.unsupportedAccess r addr size) s = .next (s.send (.unsupported r.toNat addr.toNat))) ∧
  (∀ (r : BitVec 16) (addr : BitVec 26) (s : State), isCounter (addr.toNat / 8 * 8) = true →
    let off := addr.toNat / 8 * 8
    let v := s.view off
    ∃ t u, exec (.counterLowRead r addr 0) s = .next t ∧ exec (.counterLowRead r addr 1) t = .next u ∧
      t.out = s.out ++ [.regRead r.toNat off 4 (v % 2 ^ 32)] ∧ t.regs = s.regs ∧
      u.out = t.out ++ [.regRead r.toNat (off + 4) 4 (v / 2 ^ 32)] ∧ u.regs = s.regs) ∧
  (∀ (r : BitVec 16) (addr : BitVec 26) (s : State),
    ∃ t, exec (.counterLowRead r addr 2) s = .next t ∧ t.regs = s.regs ∧
      t.out = s.out ++ [.regRead r.toNat (addr.toNat / 8 * 8) 8 (s.view (addr.toNat / 8 * 8))]) ∧
  (∀ (addr : BitVec 26) (mask : Word) (s : State), addr.toNat / 8 * 8 ≠ R.XLAT_FQ_OVF →
    ∃ t, exec (.w1cClear addr mask) s = .next t ∧ ∀ f ∈ fieldsAt (addr.toNat / 8 * 8),
      t.get (addr.toNat / 8 * 8) f = (if f.acc = .w1c then s.get (addr.toNat / 8 * 8) f &&& (2 ^ f.w - 1 - bitsOf mask.toNat f.lo f.w)
        else s.get (addr.toNat / 8 * 8) f)) ∧
  (∀ (addr : BitVec 26) (b : Blk) (n loc : Nat) (f : Fld) (s : State), locate (addr.toNat / 8 * 8) = some (b, n, loc) →
    lockOf b n = some (addr.toNat / 8 * 8, f) → exec (.lockSet addr) s = .next (s.putFlag (addr.toNat / 8 * 8) f true)) ∧
  (∀ (n : Fin 9) (addr : BitVec 26) (mask : Word) (s : State), addr.toNat = R.MERE_CNTCLR n →
    ∃ t, exec (.counterClear addr mask) s = .next t ∧ t.out = s.out ∧
      ∀ k < 9, t.reg (R.MERE_BASE n + 0x100 + 8 * k) = if bitOf mask.toNat k then 0 else s.reg (R.MERE_BASE n + 0x100 + 8 * k)) ∧
  (∀ (s t : State) (v : Nat), s.condition v = false → t.condition v = true →
    (t.flag (R.GLOB_BASE + 0x8008 + 16 * v) F.MSIX_MASK = false → State.interruptIf s t v = t.send (.msix v)) ∧
    (t.flag (R.GLOB_BASE + 0x8008 + 16 * v) F.MSIX_MASK = true →
      State.interruptIf s t v = t.setReg (R.GLOB_BASE + 0x9000) (t.reg (R.GLOB_BASE + 0x9000) ||| BitVec.ofNat 64 (2 ^ v)))) ∧
  (∀ (s t : State) (v : Nat), s.condition v = true ∨ t.condition v = false → State.interruptIf s t v = t) ∧
  (∀ (s : State), s.condition 3 = false → s.reg R.CLK_ERRMASK &&& 1 = 1 → s.flag (R.GLOB_BASE + 0x8038) F.MSIX_MASK = false →
    (s.setErrOnly R.CLK_ERR F.CLK_ERR_SRC_FAIL).out = s.out ++ [.msix 3] ∧ (s.setErrOnly R.CLK_ERR F.CLK_ERR_SRC_FAIL).flag R.CLK_ERR F.CLK_ERR_SRC_FAIL = true)

/-- At every offset, the fields of the register there lie within 64 bits, have a width, a Reset value that fits, and no two of them share a bit. -/
def Obligations.FieldsLieApart : Prop :=
∀ off : Nat, (∀ f ∈ fieldsAt off, 0 < f.w ∧ f.lo + f.w ≤ 64 ∧ f.rst < 2 ^ f.w) ∧
    (fieldsAt off).Pairwise (fun f g => f.lo + f.w ≤ g.lo ∨ g.lo + g.w ≤ f.lo)

/-- In a 64-bit write at an aligned address, a plain RW field takes the written bits when they lie in its range and keeps its value otherwise; an RWL field does the same while its block is not locked and keeps its value when it is; a W1S field holds its bits and the written ones; RO, W1C and WO fields, and every field whose write is a command of its own, keep their values. A 32-bit write keeps every field that lies in the other half. -/
def Obligations.WritesFollowAccessCodes : Prop :=
(∀ (s : State) (off v : Nat) (f : Fld), off % 8 = 0 → f ∈ fieldsAt off →
    let t := s.writeReg off 8 v
    let fits : Bool := match f.rng with
      | none => true
      | some (a, b) => a ≤ bitsOf v f.lo f.w && bitsOf v f.lo f.w ≤ b
    (f.own = false → f.acc = .rw → fits = true → t.get off f = bitsOf v f.lo f.w) ∧
    (f.own = false → f.acc = .rwl → s.locked off = false → fits = true → t.get off f = bitsOf v f.lo f.w) ∧
    (f.own = false → f.acc = .w1s → t.get off f = s.get off f ||| bitsOf v f.lo f.w) ∧
    (f.own = true ∨ f.acc = .ro ∨ f.acc = .w1c ∨ f.acc = .wo ∨ (f.acc = .rwl ∧ s.locked off = true) ∨
      ((f.acc = .rw ∨ f.acc = .rwl) ∧ fits = false) → t.get off f = s.get off f)) ∧
  (∀ (s : State) (off v : Nat) (f : Fld), off % 8 = 0 → f ∈ fieldsAt off → 32 ≤ f.lo → (s.writeReg off 4 v).get off f = s.get off f) ∧
  (∀ (s : State) (off v : Nat) (f : Fld), off % 8 = 0 → f ∈ fieldsAt off → f.lo + f.w ≤ 32 → (s.writeReg (off + 4) 4 v).get off f = s.get off f)

/-- An RD_SHARED, RD_OWN, RD_ONCE, CLAIM or WR_FULL packet that passes the checks of its port and of translation, whose basin and unit are not being moved, whose tenant's key slot is FULL (or a WR_FULL), and that its scheduler serves at once, goes to its home: a request that grants first joins its endpoint to the basin's sharer set, and then the home serves it. A WRITEBACK that is well formed and translated goes there with no scheduler. -/
def Obligations.CoherentRequests : Prop :=
(∀ (port : Fin 8) (w0 w1 : Word) (payload : List Byte) (dt : Nat) (hold : Bool) (s t : State) (r : HomeReq),
    (homeward s .rdShared 1 [0] port w0 w1 payload dt hold = some (t, r) →
      exec (.rdShared port w0 w1 payload dt hold) s = .next (t.runHome r)) ∧
    (homeward s .rdOwn 2 [0] port w0 w1 payload dt hold = some (t, r) →
      exec (.rdOwn port w0 w1 payload dt hold) s = .next (t.runHome r)) ∧
    (homeward s .rdOnce 3 [0] port w0 w1 payload dt hold = some (t, r) → exec (.rdOnce port w0 w1 payload dt hold) s = .next (t.runHome r)) ∧
    (homeward s .claim 4 [0] port w0 w1 payload dt hold = some (t, r) →
      exec (.claim port w0 w1 payload dt hold) s = .next (t.runHome r)) ∧
    (homeward s .wrFull 5 [64] port w0 w1 payload dt hold = some (t, r) → exec (.wrFull port w0 w1 payload dt hold) s = .next (t.runHome r)) ∧
    (r.op = .rdShared ∨ r.op = .rdOwn ∨ r.op = .claim → t.runHome r = (t.joinSharers r.basin r.ep).serveHome r) ∧
    (r.op = .rdOnce ∨ r.op = .wrFull ∨ r.op = .writeback → t.runHome r = t.serveHome r)) ∧
  (∀ (port : Fin 8) (w0 w1 : Word) (payload : List Byte) (s : State) (f : Found),
    let q := s.arrivesQuiet port w0.toNat w1.toNat payload (pkFormed w0.toNat 1 3 (adReserved w1.toNat) payload [64])
    let x := q.1.access { endpoint := pkEp w0.toNat, srcKind := 0, srcIndex := port } (adAsid w1.toNat) (adVa w1.toNat) 64 true
    q.2 = true → x.2.toOption = some f →
    exec (.writeback port w0 w1 payload) s = .next (x.1.runHome (homeReq .writeback port w0.toNat w1.toNat f payload)))

/-- An RD_SHARED packet whose word 0 has a Request's class leaves the receive buffer and moves the port's time. A duplicate of a recorded transaction has no other effect. Any other is recorded: one of a dead endpoint is answered DENIED; a malformed one of a live endpoint counts as a bad packet and is answered UNSUPPORTED; a well-formed one of a live endpoint that comes before PHASE SERVICE is answered RETRY_AFTER with a hint of 1,000. -/
def Obligations.RequestsTurnedAway : Prop :=
∀ (port : Fin 8) (w0 w1 : Word) (payload : List Byte) (dt : Nat) (hold : Bool) (s : State),
    let a := (s.takeDelivered port (pkBytes w0.toNat w1.toNat payload)).portTime port dt
    let u := a.record (pkEp w0.toNat) (pkTxn w0.toNat)
    let formed := pkFormed w0.toNat 4 1 (adReserved w1.toNat) payload [0]
    pkClass w0.toNat = 4 →
    (a.isDuplicate w0.toNat = true → exec (.rdShared port w0 w1 payload dt hold) s = .next a) ∧
    (a.isDuplicate w0.toNat = false →
    (u.isDead (pkEp w0.toNat) = true →
      exec (.rdShared port w0 w1 payload dt hold) s = .next (u.sendPkt (cmpTo (pkEp w0.toNat) (pkTxn w0.toNat) 0x06))) ∧
    (u.isDead (pkEp w0.toNat) = false → formed = false →
      exec (.rdShared port w0 w1 payload dt hold) s = .next (u.badPacket.sendPkt (cmpTo (pkEp w0.toNat) (pkTxn w0.toNat) 0x0E))) ∧
    (u.isDead (pkEp w0.toNat) = false → formed = true → u.get R.GLOB_STATUS F.GLOB_STATUS_PHASE < 4 →
      exec (.rdShared port w0 w1 payload dt hold) s = .next (u.retryAfter (pkEp w0.toNat) (pkTxn w0.toNat) 1000)))

/-- What each request snoops and where its line goes by R348: from I no snoops; from S the nearest sharer nearer than memory for reads, the sharers other than the requester for RD_OWN and for CLAIM by a sharer, every sharer for CLAIM by another and for WR_FULL; from SB a broadcast for RD_OWN, CLAIM and WR_FULL, none for reads; from EX of another the owner, by SNP_SHARED for reads and SNP_INV otherwise, broadcast when the owner is unknown. The next state: S with the requester added (SB past three sharers), EX of the requester, I after WR_FULL and WRITEBACK, and for RD_ONCE the state it found, or the owner's S, or I. -/
def Obligations.DirectoryTable : Prop :=
∀ (s : State) (r : HomeReq) (p keeps : List Nat) (o : Nat),
    (r.op ≠ .recall → r.op ≠ .writeback → s.plan r .i [] = none) ∧
    (r.op = .rdShared ∨ r.op = .rdOnce → s.plan r .s p = (s.nearest r.pa p).map (fun e => (.fwd, some [e]))) ∧
    (r.op = .rdOwn → s.plan r .s p = some (.inv, some (p.filter (· != r.ep)))) ∧
    (r.op = .claim → r.ep ∈ p → s.plan r .s p = some (.inv, some (p.filter (· != r.ep)))) ∧
    (r.op = .claim → r.ep ∉ p → s.plan r .s p = some (.inv, some p)) ∧ (r.op = .wrFull → s.plan r .s p = some (.inv, some p)) ∧
    (r.op = .rdShared ∨ r.op = .rdOnce → s.plan r .sb [] = none) ∧
    (r.op = .rdOwn ∨ r.op = .claim ∨ r.op = .wrFull → s.plan r .sb [] = some (.inv, none)) ∧
    (o ≠ r.ep → r.op = .rdShared ∨ r.op = .rdOnce → s.plan r .ex [o] = some (.shared, some [o])) ∧
    (o ≠ r.ep → r.op = .rdOwn ∨ r.op = .claim → s.plan r .ex [o] = some (.inv, some [o])) ∧
    (r.op = .wrFull → s.plan r .ex [o] = some (.inv, some [o])) ∧
    (r.op = .rdShared ∨ r.op = .rdOwn ∨ r.op = .claim ∨ r.op = .rdOnce → s.plan r .ex [r.ep] = none) ∧
    (r.op = .rdShared ∨ r.op = .rdOnce → s.plan r .ex [] = some (.shared, none)) ∧
    (r.op = .rdOwn ∨ r.op = .claim ∨ r.op = .wrFull → s.plan r .ex [] = some (.inv, none)) ∧
    (r.op = .rdShared → nextDir r .i [] keeps = (.s, [r.ep])) ∧
    (r.op = .rdShared → r.ep ∉ p → p.length < 3 → nextDir r .s p keeps = (.s, p ++ [r.ep])) ∧
    (r.op = .rdShared → r.ep ∉ p → 3 ≤ p.length → nextDir r .s p keeps = (.sb, [])) ∧
    (r.op = .rdShared → nextDir r .sb [] keeps = (.sb, [])) ∧
    (r.op = .rdShared → o ≠ r.ep → nextDir r .ex [o] [o] = (.s, [o, r.ep]) ∧ nextDir r .ex [o] [] = (.s, [r.ep])) ∧
    (∀ st, r.op = .rdOwn ∨ r.op = .claim → nextDir r st p keeps = (.ex, [r.ep])) ∧
    (∀ st, r.op = .wrFull ∨ r.op = .writeback → nextDir r st p keeps = (.i, [])) ∧
    (r.op = .rdOnce → nextDir r .i [] keeps = (.i, []) ∧ nextDir r .s p keeps = (.s, p) ∧ nextDir r .sb [] keeps = (.sb, []) ∧
      nextDir r .ex [r.ep] keeps = (.ex, [r.ep])) ∧
    (r.op = .rdOnce → o ≠ r.ep → nextDir r .ex [o] [o] = (.s, [o]) ∧ nextDir r .ex [o] [] = (.i, []))

/-- A well-formed SNP_RSP of a live endpoint whose status is not RSP_WB_INFLIGHT and that answers an open snoop with no answer or data yet is recorded in the line's transaction, which goes on if every answer is in; a FWD_DATA for such a snoop is recorded likewise; a COMPLETION_ACK of a grant ends the grant, and the line's transaction if nothing else of it is open. Each with no snoop, or no grant, to match is logged as a protocol error of kind 2, 3 or 1. -/
def Obligations.SnoopsAndAcks : Prop :=
(∀ (port : Fin 8) (w0 w1 : Word) (s : State),
    let q := s.arrivesQuiet port w0.toNat w1.toNat [] (pkFormed w0.toNat 2 1 (adReserved w1.toNat) [] [0] && pkStatus w0.toNat ≤ 4)
    let s1 := q.1
    q.2 = true → (∀ (t : DirTxn) (r : SnoopRec), s1.snoopTxn (pkEp w0.toNat) (pkTxn w0.toNat) = some t → t.rec? (pkEp w0.toNat) (pkTxn w0.toNat) = some r →
      r.answer = none → r.data = none → pkStatus w0.toNat ≠ 4 →
      exec (.snpRsp port w0 w1) s = .next (((s1.putTxn (t.setRec (pkEp w0.toNat) (pkTxn w0.toNat)
        (fun r => { r with answer := some (pkStatus w0.toNat) }))).checkTxn t.req.pa).pumpAll)) ∧
    (s1.snoopTxn (pkEp w0.toNat) (pkTxn w0.toNat) = none →
      exec (.snpRsp port w0 w1) s = .next (s1.dirProto 2 (s1.namedLine (pkEp w0.toNat) w1.toNat) (pkEp w0.toNat)))) ∧
  (∀ (port : Fin 8) (w0 w1 : Word) (payload : List Byte) (s : State),
    let q := s.arrivesQuiet port w0.toNat w1.toNat payload (pkFormed w0.toNat 1 2 (adReserved w1.toNat) payload [64])
    let s1 := q.1
    q.2 = true → (∀ (t : DirTxn) (r : SnoopRec), s1.snoopTxn (pkEp w0.toNat) (pkTxn w0.toNat) = some t → t.rec? (pkEp w0.toNat) (pkTxn w0.toNat) = some r →
      r.answer = none → r.data = none →
      exec (.fwdData port w0 w1 payload) s = .next (((s1.putTxn (t.setRec (pkEp w0.toNat) (pkTxn w0.toNat)
        (fun r => { r with data := some (pkPoison w0.toNat, payload) }))).checkTxn t.req.pa).pumpAll)) ∧
    (s1.snoopTxn (pkEp w0.toNat) (pkTxn w0.toNat) = none →
      exec (.fwdData port w0 w1 payload) s = .next (s1.dirProto 3 (s1.namedLine (pkEp w0.toNat) w1.toNat) (pkEp w0.toNat)))) ∧
  (∀ (port : Fin 8) (w0 w1 : Word) (s : State),
    let q := s.arrivesQuiet port w0.toNat w1.toNat [] (pkFormed w0.toNat 0 1 (inReserved w1.toNat) [] [0])
    let s1 := q.1
    let mine (t : DirTxn) : Bool := t.granted && t.req.ep == pkEp w0.toNat && t.req.txn == pkTxn w0.toNat
    q.2 = true → (∀ t : DirTxn, s1.home.txns.find? mine = some t →
      exec (.completionAck port w0 w1) s = .next ((s1.putTxn { t with granted := false }).endTxn t.req.pa)) ∧
    (s1.home.txns.find? mine = none → exec (.completionAck port w0 w1) s = .next (s1.dirProto 1 0 (pkEp w0.toNat))))

/-- A BULK_RD and a BULK_WR over the Twin link that pass the checks of their arrival and of R319 are run at once; from a client's port they are run when the bulk scheduler serves them at once. A Bulk packet whose sender matches no VALID entry is counted in SHAL_CNT_PRIV_DENIED, sets PRIV_DENIED and is answered DENIED. A well-formed MIRROR_WRITE that is no recorded duplicate is recorded; where the shadows may change its lines are stored and answered, one line that is stored OK by MIRROR_ACK with its number, PA and OK; where they are kept unchanged it waits (the model's choice, log entry 125). A malformed one leaves the buffer and counts as a bad packet; a duplicate leaves the buffer. A well-formed MIRROR_ACK of a sent mirror write counts in PAIR_CNT_MIRROR_LINES and lets what waited for the write go; one of no write leaves the buffer and nothing else follows. PRIV_ENTRY_WRITE writes ENDPOINT, VALID, ANY_TENANT and, for entries 2 to 63, a KIND other than 3, unless it would make two VALID entries from 2 to 63 name one endpoint: then it sets BAD_PACKET alone. -/
def Obligations.BulkAndMirror : Prop :=
(∀ (w0 w1 : Word) (dt : Nat) (hold : Bool) (ans : List SnoopAnswer) (s : State),
    let q := s.bulkArrives 8 w0.toNat w1.toNat [] dt (pkFormed w0.toNat 5 1 (tenReserved w1.toNat) [] [0])
    let c := q.1.bulkChecks 8 w0.toNat (tenTpa w1.toNat) (tenLines w1.toNat) false
    q.2 = true → c.2 = true →
    exec (.bulkRd 8 w0 w1 dt hold ans) s = .next (c.1.runBulkRead (pkEp w0.toNat) (pkTxn w0.toNat) 8 (pkTenant w0.toNat) (tenTpa w1.toNat)
      (tenLines w1.toNat) ans)) ∧
  (∀ (src : Fin 9) (w0 w1 : Word) (dt : Nat) (hold : Bool) (ans : List SnoopAnswer) (s t : State) (ep txn p tt a k : Nat), src ≠ 8 →
    let q := s.bulkArrives src w0.toNat w1.toNat [] dt (pkFormed w0.toNat 5 1 (tenReserved w1.toNat) [] [0])
    let c := q.1.bulkChecks src w0.toNat (tenTpa w1.toNat) (tenLines w1.toNat) false
    q.2 = true → c.2 = true →
    c.1.offer src (pkTenant w0.toNat) 0 1 1 true hold (pkEp w0.toNat) (pkTxn w0.toNat)
      (.bulkRead (pkEp w0.toNat) (pkTxn w0.toNat) src (pkTenant w0.toNat) (tenTpa w1.toNat) (tenLines w1.toNat)) = (t, some (.bulkRead ep txn p tt a k)) →
    exec (.bulkRd src w0 w1 dt hold ans) s = .next (t.runBulkRead ep txn p tt a k ans)) ∧
  (∀ (w0 w1 : Word) (payload : List Byte) (dt : Nat) (hold : Bool) (ans : List SnoopAnswer) (s : State),
    let q := s.bulkArrives 8 w0.toNat w1.toNat payload dt (pkFormed w0.toNat 5 2 (tenReserved w1.toNat + bitsOf w1.toNat 56 6) payload bulkLengths &&
      leNat ((payload.drop 8).take 8) == 0)
    let c := q.1.bulkChecks 8 w0.toNat (tenTpa w1.toNat) ((payload.length - 16) / 64) true
    q.2 = true → c.2 = true →
    exec (.bulkWr 8 w0 w1 payload dt hold ans) s = .next (c.1.runBulkWrite (pkEp w0.toNat) (pkTxn w0.toNat) 8 (pkTenant w0.toNat) (tenTpa w1.toNat)
      (bulkPoison w0.toNat ((payload.length - 16) / 64) payload) (payload.drop 16) ans)) ∧
  (∀ (src : Fin 9) (w0 w1 : Word) (payload d : List Byte) (dt : Nat) (hold : Bool) (ans : List SnoopAnswer) (s t : State) (ep txn p tt a k : Nat), src ≠ 8 →
    let q := s.bulkArrives src w0.toNat w1.toNat payload dt (pkFormed w0.toNat 5 2 (tenReserved w1.toNat + bitsOf w1.toNat 56 6) payload bulkLengths &&
      leNat ((payload.drop 8).take 8) == 0)
    let c := q.1.bulkChecks src w0.toNat (tenTpa w1.toNat) ((payload.length - 16) / 64) true
    q.2 = true → c.2 = true →
    c.1.offer src (pkTenant w0.toNat) 0 1 (creditsOf (16 + payload.length)) true hold (pkEp w0.toNat) (pkTxn w0.toNat)
      (.bulkWrite (pkEp w0.toNat) (pkTxn w0.toNat) src (pkTenant w0.toNat) (tenTpa w1.toNat)
        (bulkPoison w0.toNat ((payload.length - 16) / 64) payload) (payload.drop 16)) = (t, some (.bulkWrite ep txn p tt a k d)) →
    exec (.bulkWr src w0 w1 payload dt hold ans) s = .next (t.runBulkWrite ep txn p tt a k d ans)) ∧
  (∀ (s : State) (src w0 tpa lines : Nat) (write : Bool), s.privEntry src (pkEp w0) = none →
    s.bulkChecks src w0 tpa lines write =
      (((s.bump R.SHAL_CNT_PRIV_DENIED).setErr R.SHAL_ERR F.SHAL_ERR_PRIV_DENIED).bulkReply src s.pair.nextMirror
        (cmpTo (pkEp w0) (pkTxn w0) 0x06), false)) ∧
  (∀ (w0 w1 : Word) (payload : List Byte) (side : List (BitVec 2 × BitVec 16)) (s : State),
    let formed := pkFormed w0.toNat 1 4 (phReserved w1.toNat) payload mirrorLengths
    let left := s.takeDelivered 8 (pkBytes w0.toNat w1.toNat payload)
    let u := s.record 4096 (pkTxn w0.toNat)
    let sd := side.map (fun x => (x.1.toNat, x.2.toNat))
    (formed = false → exec (.mirrorWrite w0 w1 ⟨payload, side⟩) s = .next (left.malformedTwin w0.toNat)) ∧
    (formed = true → s.isDuplicateOf 4096 w0.toNat = true → exec (.mirrorWrite w0 w1 ⟨payload, side⟩) s = .next left) ∧
    (formed = true → s.isDuplicateOf 4096 w0.toNat = false → u.keepsShadows = false →
      exec (.mirrorWrite w0 w1 ⟨payload, side⟩) s = .next (u.sinkMirror w0.toNat w1.toNat payload sd)) ∧
    (formed = true → s.isDuplicateOf 4096 w0.toNat = false → u.keepsShadows = true →
      exec (.mirrorWrite w0 w1 ⟨payload, side⟩) s =
        .next { u with pair := { u.pair with kept := u.pair.kept ++ [(w0.toNat, w1.toNat, payload, sd)] } })) ∧
  (∀ (w0 w1 : Nat) (payload : List Byte) (sd : List (Nat × Nat)) (s t : State), payload.length = 64 →
    s.storeMirror (phPa w1) (pkPoison w0) (sd.getD 0 (0, 0)).1 (sd.getD 0 (0, 0)).2 payload = (t, .ok) →
    s.sinkMirror w0 w1 payload sd = (t.takeDelivered 8 (pkBytes w0 w1 payload)).sendTwin "MIRROR_ACK" 0 [pkTxn w0, phPa w1, MemStat.ok.code] []) ∧
  (∀ (w0 w1 : Word) (s : State),
    let left := s.takeDelivered 8 (pkBytes w0.toNat w1.toNat [])
    pkFormed w0.toNat 0 3 (phReserved w1.toNat) [] [0] = true →
    (∀ w : MirrorWrite, left.pair.mirror.find? (fun w => w.sent && w.ctl.isNone && w.id % 65536 == pkTxn w0.toNat) = some w →
      exec (.mirrorAck ⟨w0, w1⟩) s = .next (((left.bump R.PAIR_CNT_MIRROR_LINES).mirrorAcked w.id).releaseJobs)) ∧
    (left.pair.mirror = [] → exec (.mirrorAck ⟨w0, w1⟩) s = .next left)) ∧
  (∀ (e : Fin 64) (v : Word) (s : State), bitOf v.toNat 12 = false → ∃ t, exec (.privEntryWrite e v) s = .next t ∧
    t.get (R.SHAL_PRIV_CTL e) F.SHAL_PRIV_CTL_ENDPOINT = bitsOf v.toNat 0 12 ∧ t.flag (R.SHAL_PRIV_CTL e) F.SHAL_PRIV_CTL_VALID = false ∧
    t.flag (R.SHAL_PRIV_CTL e) F.SHAL_PRIV_CTL_ANY_TENANT = bitOf v.toNat 13 ∧
    t.get (R.SHAL_PRIV_CTL e) F.SHAL_PRIV_CTL_KIND = (if e.val < 2 ∨ bitsOf v.toNat 14 2 = 3 then s.get (R.SHAL_PRIV_CTL e) F.SHAL_PRIV_CTL_KIND
      else bitsOf v.toNat 14 2) ∧ ∀ o, o ≠ R.SHAL_PRIV_CTL e → t.reg o = s.reg o) ∧
  (∀ (e : Fin 64) (x : Nat) (v : Word) (s : State), 2 ≤ e.val → bitOf v.toNat 12 = true → 2 ≤ x → x < 64 → x ≠ e.val →
    s.flag (R.SHAL_PRIV_CTL x) F.SHAL_PRIV_CTL_VALID = true → s.get (R.SHAL_PRIV_CTL x) F.SHAL_PRIV_CTL_ENDPOINT = bitsOf v.toNat 0 12 →
    exec (.privEntryWrite e v) s = .next (s.setErr R.SHAL_ERR F.SHAL_ERR_BAD_PACKET))

/-- For an item of one packet of a tenant at a port whose queue for its key is empty: with PIR 0 it is green and takes no tokens; with fewer than n in the peak bucket it is red, takes no tokens and is refused with the hint of R387; with n in peak and fewer in committed it is yellow and takes n from peak alone, or is refused and takes nothing when the scheduler's occupancy is at or above YELLOW_THR %; with n in both it is green and takes n from each. Each counts in its own QOS_TCNT. A bucket never holds more than its depth. -/
def Obligations.AdmissionColours : Prop :=
∀ (s : State) (port t cls : Nat) (bulk : Bool), ((s.adm port).sched bulk).queue t cls = [] →
    let a := s.adm port
    let key := 2 * t + (if bulk then 1 else 0)
    let b := s.refill t a.now (Tbl.get (fun _ => {}) a.buckets key)
    let np := 1024 * min 1 (s.pbs t)
    let nc := 1024 * min 1 (s.cbs t)
    let own := if bulk then 6144 else 2048
    let full : Prop := s.get R.QOS_CFG F.QOS_CFG_YELLOW_THR * own ≤ 100 * (a.sched bulk).occupancy
    let put (u : State) (x : Bucket) : State := u.setAdm port { a with buckets := Tbl.set (fun _ => {}) a.buckets key x }
    let min_ := s.get R.QOS_CFG F.QOS_CFG_RETRY_MIN_US
    b.c ≤ 1024 * s.cbs t ∧ b.p ≤ 1024 * s.pbs t ∧
    (s.pir t = 0 → s.colour port t cls 1 bulk = (s.bump (R.QOS_TCNT t 0), .queued)) ∧
    (s.pir t ≠ 0 → b.p < np → s.colour port t cls 1 bulk =
      (put ((s.bump (R.QOS_TCNT t 2)).setErr R.QOS_ERR F.QOS_ERR_RED) b,
        .refused (min (max min_ ((np - b.p + 1024 * s.pir t - 1) / (1024 * s.pir t))) 65535))) ∧
    (s.pir t ≠ 0 → np ≤ b.p → b.c < nc → ¬ full →
      s.colour port t cls 1 bulk = (put (s.bump (R.QOS_TCNT t 1)) { b with p := b.p - np }, .queued)) ∧
    (s.pir t ≠ 0 → np ≤ b.p → b.c < nc → full →
      s.colour port t cls 1 bulk = (put ((s.bump (R.QOS_TCNT t 3)).setErr R.QOS_ERR F.QOS_ERR_YELLOW_REFUSED) b, .refused min_)) ∧
    (s.pir t ≠ 0 → np ≤ b.p → nc ≤ b.c →
      s.colour port t cls 1 bulk = (put (s.bump (R.QOS_TCNT t 0)) { b with p := b.p - np, c := b.c - nc }, .queued))

/-- SNOOP_TIMEOUT of a live client that owes a snoop's answer or an acknowledgement sets SNOOP_TIMEOUT and declares it dead; UNREACH_DEATH declares an unreachable client dead; DECLARE_DEAD of a bound live endpoint while no DIR_CMD runs declares it dead with STATUS 0, of an unbound one sets STATUS 1 and of a dead one STATUS 2, each with ENDPOINT. RELEASE of a bound live endpoint that is in no sharer set and no entry completes with STATUS 0. SWEEP_DONE of the oldest sweep of its kind and basin, of which no line waits for a unit in reset, runs its recalls, ends it and sets SWEEP_DONE. -/
def Obligations.DeathsAndSweeps : Prop :=
(∀ (ep : BitVec 12) (s : State), s.home.txns.any (fun t => (t.granted && t.req.ep == ep.toNat) || t.snoops.any (fun r => r.ep == ep.toNat && !t.recDone r)) = true →
    s.isDead ep.toNat = false → exec (.snoopTimeout ep) s = .next ((s.setErr R.DIR_ERR F.DIR_ERR_SNOOP_TIMEOUT).declareDead ep.toNat)) ∧
  (∀ (ep : BitVec 12) (s : State), ep.toNat ∈ s.fab.unreach → exec (.unreachDeath ep) s = .next (s.declareDead ep.toNat)) ∧
  (∀ (ep : BitVec 12) (s : State), s.flag R.DIR_CMD F.DIR_CMD_BUSY = false →
    let status (u : State) (v : Nat) : State := (u.put R.DIR_CMD F.DIR_CMD_ENDPOINT ep.toNat).put R.DIR_CMD F.DIR_CMD_STATUS v
    (s.boundTo ep.toNat = none → exec (.declareDead ep) s = .next (status s 1) ∧ exec (.release ep) s = .next (status s 1)) ∧
    (s.boundTo ep.toNat ≠ none → s.isDead ep.toNat = true → exec (.declareDead ep) s = .next (status s 2) ∧ exec (.release ep) s = .next (status s 2)) ∧
    (s.boundTo ep.toNat ≠ none → s.isDead ep.toNat = false → exec (.declareDead ep) s = .next (status (s.declareDead ep.toNat) 0)) ∧
    (s.boundTo ep.toNat ≠ none → s.isDead ep.toNat = false → s.home.entries = [] → s.home.sharers = [] → s.home.waiting = [] → s.home.sweeps = [] →
      ∃ t, exec (.release ep) s = .next t ∧ t.get R.DIR_CMD F.DIR_CMD_STATUS = 0 ∧ t.flag R.DIR_CMD F.DIR_CMD_BUSY = false ∧
        t.get R.DIR_CMD F.DIR_CMD_ENDPOINT = ep.toNat)) ∧
  (∀ (k : Fin 3) (basin : BitVec 16) (ans : List SnoopAnswer) (w : Sweep) (s : State),
    s.home.sweeps.find? (fun w => w.kind == (if k = 0 then SweepKind.death else if k = 1 then .release else .takeover) && w.basin == basin.toNat) = some w →
    s.sweepWaits w = false → let u := s.runSweep w ans
    exec (.sweepDone k basin ans) s = .next (((({ u with home := { u.home with sweeps := u.home.sweeps.erase w } } : State).setErr
      R.DIR_ERR F.DIR_ERR_SWEEP_DONE).releaseDone).pumpAll))

/-- Declaring a live client that waits for nothing dead, on a block whose directory holds no entry, transaction, sharer or waiting request and no pin or Inlet of it, marks its bit in DIR_DEAD and no other bit of the register, sets DIR_ERR.DEATH, and adds 1 to DIR_CNT_DEATHS; declaring a dead client again changes nothing (death is final). -/
def Obligations.DeclaredDeadIsMarked : Prop :=
(∀ (s : State) (e : Nat), e < 4096 → s.isDead e = false → s.home = {} → s.kv.pins = [] → s.jobs.inlets = [] →
    let t := s.declareDead e
    t.isDead e = true ∧ (∀ f < 4096, f ≠ e → t.isDead f = s.isDead f) ∧ t.flag R.DIR_ERR F.DIR_ERR_DEATH = true ∧
    t.reg R.DIR_CNT_DEATHS = s.reg R.DIR_CNT_DEATHS + 1) ∧
  (∀ (s : State) (e : Nat), s.isDead e = true → s.declareDead e = s)

/-- A port's request scheduler serves its head item, and its bulk scheduler its own, when the turn is theirs or the other holds nothing; with nothing queued they change nothing. Tarn dispatch serves a source's next Inlet: one job is taken into flight in the slot of the Inlet's next descriptor and JOB_CNT_STARTED and QOS_CNT_DISPATCHED rise by 1; DISPATCH_STARVED with an eligible queue waiting sets its error bit; DISPATCH_CREDIT_WAIT_END places the oldest waiting job that has not failed. -/
def Obligations.SchedulersServe : Prop :=
(∀ (port : Fin 8) (ans : List SnoopAnswer) (s : State) (i : Ingress),
    ((s.adm port).bulkTurn = false ∨ (s.adm port).bulk.queues = [] → (s.takeItem port false).2 = some i →
      exec (.requestSchedulerServe port ans) s = .next ((s.takeItem port false).1.runIngress ans i)) ∧
    ((s.adm port).bulkTurn = true ∨ (s.adm port).req.queues = [] → (s.takeItem port true).2 = some i →
      exec (.bulkSchedulerServe port ans) s = .next ((s.takeItem port true).1.runIngress ans i))) ∧
  (∀ (port : Fin 8) (ans : List SnoopAnswer) (s : State), (s.adm port).req.queues = [] → (s.adm port).bulk.queues = [] →
    exec (.requestSchedulerServe port ans) s = .next s ∧ exec (.bulkSchedulerServe port ans) s = .next s) ∧
  (∀ (e : Fin 9) (q : DispQ) (i : Nat) (s : State), s.rst.l2 = 0 →
    s.jobs.jobs.any (fun j => j.engine == e.val && (j.st == .taken || j.st == .waiting)) = false → s.jobs.jobs.length < 16384 →
    s.pickDispatch e = some (q, i) →
    ∃ t, exec (.dispatchServe e) s = .next t ∧ t.reg R.JOB_CNT_STARTED = s.reg R.JOB_CNT_STARTED + 1 ∧
      t.reg R.QOS_CNT_DISPATCHED = s.reg R.QOS_CNT_DISPATCHED + 1 ∧
      ∃ j : Job, t.jobs.jobs = s.jobs.jobs ++ [j] ∧ j.inlet = i ∧ j.engine = e.val ∧ j.st = .taken ∧ j.id = s.jobs.nextJob ∧
        j.slot = (s.inlet i).started % (s.inlet i).slots) ∧
  (∀ (e : Fin 9) (s : State), (s.pickDispatch e).isSome = true →
    exec (.dispatchStarved e) s = .next (s.setErr R.QOS_ERR F.QOS_ERR_DISPATCH_STARVED)) ∧
  (∀ (choice : List (Fin 4 × Fin 24)) (j : Job) (s : State), s.jobs.jobs.find? (fun j => j.st == .waiting) = some j → j.fails = [] →
    exec (.dispatchCreditWaitEnd choice) s = .next (s.placeJob j (choice.map (fun c => (c.1.val, c.2.val)))))

/-- A packet that arrives at a unit that no wrapper holds, with no transaction open: the only packet of its transaction completes it and returns its reservation; the first of several, not marked last, is recorded. A packet to a port with no unit sets UNROUTABLE and returns its reservation. A MESH_HOP of one unicast packet, once aged, at its destination router delivers it at its port; of one unicast packet that a port may inject, injects it: its reservation is held, INJECTED counts, the port starves no more, the next port has the turn, and the packet is routed; with nothing arriving and nothing to inject it marks the cycle alone (log entry 97). STARVATION_THROTTLE notes the starving port and, when it is the first, sets THROTTLE and counts. AGE_ALARM of a packet as old as SHAL_CFG.AGE_ALARM sets AGE. -/
def Obligations.MeshPackets : Prop :=
(∀ (sb : BitVec 96) (s : State), let w := sb.toNat;
    (unitAtPort (sbDestX w) (sbDestY w) (sbDestPort w)).isNone = true →
    exec (.meshPacketArrival sb) s = .next ((s.setErr R.SHAL_ERR F.SHAL_ERR_UNROUTABLE).returnReservation w)) ∧
  (∀ (sb : BitVec 96) (s : State), let w := sb.toNat;
    (unitAtPort (sbDestX w) (sbDestY w) (sbDestPort w)).any (fun u => !s.meshHeld u) = true → s.mesh.txns = [] → sbTotal w = 1 → sbPseq w = 0 →
    exec (.meshPacketArrival sb) s = .next ((s.returnReservation w).send (.mesh "COMPLETE" [sbDestX w, sbDestY w, sbDestPort w, sbSrcX w, sbSrcY w, sbSrcPort w, sbTid w, 1]))) ∧
  (∀ (sb : BitVec 96) (s : State), let w := sb.toNat;
    (unitAtPort (sbDestX w) (sbDestY w) (sbDestPort w)).any (fun u => !s.meshHeld u) = true → s.mesh.txns = [] → 1 < sbTotal w → sbPseq w < sbTotal w → sbLast w = false →
    exec (.meshPacketArrival sb) s = .next { s with mesh := { s.mesh with txns := [{ sx := sbSrcX w, sy := sbSrcY w, sport := sbSrcPort w, tid := sbTid w, dx := sbDestX w, dy := sbDestY w, dport := sbDestPort w, total := sbTotal w, got := [sbPseq w] }] } }) ∧
  (∀ (x : Fin 16) (y : Fin 12) (sb : BitVec 96) (crossed : Bool) (s : State),
    let w := sbSetAge sb.toNat (sbAge sb.toNat + (if crossed then 3 else 1))
    sbMc w = 0 → sbDestX w = x → sbDestY w = y →
    exec (.meshHop x y [(sb, crossed)] []) s = .next ((s.countCycleAt x y).ejectAt w x y (sbDestPort w))) ∧
  (∀ (x : Fin 16) (y : Fin 12) (p : Fin 4) (sb : BitVec 96) (s : State),
    let w := sb.toNat
    let c := s.countCycleAt x y
    let u := ((c.noteInjected w).bump R.SHAL_CNT_INJECTED).unstarve x y p
    c.mayInject x y p = true → c.mayBegin w = true → sbMc w = 0 →
    exec (.meshHop x y [] [(p, sb)]) s =
      .next (State.routeOne { u with mesh := { u.mesh with turn := Tbl.set (fun _ => 0) u.mesh.turn (16 * y + x) ((p + 1) % 4) } } w x y
        ((List.range 4).filter (fun l => (linkAt x y l).isSome))).1) ∧
  (∀ (x : Fin 16) (y : Fin 12) (s : State), exec (.meshHop x y [] []) s = .next (s.countCycleAt x y)) ∧
  (∀ (x : Fin 16) (y : Fin 12) (p : Fin 4) (s : State), s.mesh.starved = [] → s.flag R.SHAL_STATUS F.SHAL_STATUS_THROTTLE = false →
    ∃ t, exec (.starvationThrottle x y p) s = .next t ∧ t.mesh.starved = [(x.val, y.val, p.val)] ∧
      t.flag R.SHAL_STATUS F.SHAL_STATUS_THROTTLE = true ∧ t.reg R.SHAL_CNT_STARVE_EVENTS = s.reg R.SHAL_CNT_STARVE_EVENTS + 1 ∧
      t.flag R.SHAL_ERR F.SHAL_ERR_THROTTLE = true) ∧
  (∀ (sb : BitVec 96) (s : State), s.get R.SHAL_CFG F.SHAL_CFG_AGE_ALARM ≤ sbAge sb.toNat →
    exec (.ageAlarm sb) s = .next (s.setErr R.SHAL_ERR F.SHAL_ERR_AGE))

/-- HEAT_REPORT of a sealed block that a Tarn's sampler has reported takes the report and raises its heat by 1, to at most 7. HEAT_DECAY after DECAY_CYCLES cycles halves every block's heat and starts the count again. VERSION_RETIRE of a live version with no time left, no retention and no pin retires it. VERSION_BLOCKS_FREE of a retired version whose earlier jobs have completed and whose basin no BASIN_DESTROY is taking drops it and the blocks nothing else names. REGION_KEY_FREE drops a key without versions after 65,536 cycles. SEQ_EXPIRY of a sequence idle past its time-to-live that no job names closes it. SEQ_FREE of a closing sequence whose jobs have completed, its basin in no BASIN_DESTROY, empties its slot, drops its blocks and advances the slot's generation mod 2^14. TAKEOVER_RETENTION_END ends a version's retention. BLOCK_MOVE_SWITCH of a block that nothing live names ends the move and changes nothing else; of a live block it names the new frame. OLD_COPY_FREE frees the old frame at an address once no job that may read it is left. -/
def Obligations.ShelfTimers : Prop :=
(∀ (k : Nat) (b : KvBlk) (s : State), s.kv.reports.contains k = true → s.blk k = some b → b.shut = true →
    exec (.heatReport k) s = .next (({ s with kv := { s.kv with reports := s.kv.reports.erase k } } : State).setHeat k (min 7 (b.heat + 1)))) ∧
  (∀ s : State, s.param 3 ≤ s.mgmt.decay → ∃ t, exec .heatDecay s = .next t ∧ t.mgmt = { s.mgmt with decay := 0 } ∧
    t = { s.kv.blks.foldl (fun s e => match e.2 with | some b => s.setHeat e.1 (b.heat / 2) | none => s) s with mgmt := t.mgmt }) ∧
  (∀ (ten : BitVec 8) (key : Word) (ver : BitVec 32) (r : Region) (v : Version) (s : State), s.region ten.toNat key.toNat = some r →
    (r.find ver.toNat = some v → v.left = some 0 → v.kept = 0 → s.pinTotal ten.toNat key.toNat ver.toNat = 0 →
      exec (.versionRetire ten key ver) s = .next (s.retire r ver.toNat)) ∧
    (r.versions.find? (fun v => v.number == ver.toNat) = some v → v.retired = true → s.allDone v.waits = true → s.inDestroy v.basin = false →
      exec (.versionBlocksFree ten key ver) s =
        .next ((s.putRegion { r with versions := r.versions.filter (fun x => x.number != v.number) }).dropBlocks (tableBlocks v.blocks))) ∧
    (r.versions = [] → 65536 ≤ r.idle → exec (.regionKeyFree ten key) s =
      .next { s with kv := { s.kv with regions := s.kv.regions.filter (fun x => !(x.tenant == r.tenant && x.key == r.key)) } }) ∧
    exec (.takeoverRetentionEnd ten key ver) s = .next (s.putRegion { r with versions := r.versions.map (fun (v : Version) =>
      if v.number = ver.toNat ∧ v.kept = 1 then { v with kept := 0 } else v) })) ∧
  (∀ (slot : BitVec 18) (q : Seq) (s : State), s.seqAt slot.toNat = some q →
    (q.ttl ≠ 0 → q.ttl ≤ q.idle → s.jobs.jobs.any (fun j => j.handle == some (s.handleOf slot.toNat)) = false → exec (.seqExpiry slot) s = .next (s.closeSeq slot.toNat)) ∧
    (q.shut = true → s.allDone q.waits = true → s.inDestroy q.basin = false → ∃ t, exec (.seqFree slot) s = .next t ∧
      t.genOf slot.toNat = (s.genOf slot.toNat + 1) % 2 ^ 14 ∧
      { t with kv := { t.kv with gens := s.kv.gens } } =
        let u := (s.setSeq slot.toNat none).dropBlocks (tableBlocks q.blocks)
        { u with kv := { u.kv with gens := s.kv.gens } })) ∧
  (∀ (k : Nat) (m : Move) (b : KvBlk) (s : State), s.kv.moves.find? (fun m => m.blk == k) = some m → s.blk k = some b → s.kv.seqs = [] → s.kv.regions = [] →
    exec (.blockMoveSwitch k) s = .next { s with kv := { s.kv with moves := s.kv.moves.filter (fun m => m.blk != k) } }) ∧
  (∀ (k : Nat) (m : Move) (b : KvBlk) (q : Seq) (s : State), s.kv.moves.find? (fun m => m.blk == k) = some m → s.blk k = some b →
    s.kv.seqs = [(0, some q)] → q.shut = false → (tableBlocks q.blocks).contains k = true →
    ∃ t, exec (.blockMoveSwitch k) s = .next t ∧ t.blk k = some { b with pa := m.dst }) ∧
  (∀ (frame : BitVec 48) (s : State), exec (.oldCopyFree frame) s =
    .next { s with kv := { s.kv with old := s.kv.old.filter (fun f => !(f.pa == frame.toNat && s.allDone f.waits)) } })

/-- A write of FAULT takes an idle Tarn out of service: FAULT and STATE 3, nothing else of its registers. TARN_WATCHDOG of a running Tarn with a limit does so and sets WATCHDOG. TARN_ROLE_WRITE of roles in range that no other enabled Tarn of the quadrant carries writes ROLE, ROLE2_EN and ROLE2; one that would clash sets ROLE_CLASH and changes nothing else. TARN_SUBSTITUTION of a Tarn that is not faulted, or that has no role, changes nothing; of a failed Tarn with one role that no other carries it gives the role to another. ROLE_PROGRAM_LOADED of the last image that a Tarn loads makes the image one of its programs, sets PROG_ID, and leaves STATE idle. TARN_SELFTEST_DONE passed by a failed Tarn makes it a spare: FAULT and ENABLE 0, ROLE 31, STATE 0; failed, it faults the Tarn, sets SELFTEST, and the Tarn is broken from then on. -/
def Obligations.TarnsInAndOut : Prop :=
(∀ (n : Fin 100) (s : State), s.tarnFaulted n = false → (s.tarn n).run = none → (s.tarn n).active = [] → (s.tarn n).queue = [] →
    exec (.tarnFaultWrite n) s = .next (((s.putFlag (R.TARN_CTRL n) F.TARN_CTRL_FAULT true).setTarnState n 3).setTarn n
      { (s.tarn n).idle with queue := [], active := [], ring := [] })) ∧
  (∀ (n : Fin 100) (s : State), s.get (R.TARN_WDOG n) F.TARN_WDOG_LIMIT ≠ 0 → (s.tarn n).run.isSome = true → s.tarnFaulted n = false →
    exec (.tarnWatchdog n) s = .next ((s.faultTarn n).setErr (R.TARN_ERR n) F.TARN_ERR_WATCHDOG)) ∧
  (∀ (n : Fin 100) (v : Word) (s : State),
    let r1 := bitsOf v.toNat F.TARN_CTRL_ROLE.lo F.TARN_CTRL_ROLE.w
    let r2 := bitsOf v.toNat F.TARN_CTRL_ROLE2.lo F.TARN_CTRL_ROLE2.w
    let t := s.putRoles n r1 (bitsOf v.toNat F.TARN_CTRL_ROLE2_EN.lo F.TARN_CTRL_ROLE2_EN.w) r2
    r1 < 24 → r2 < 24 → (t.roleClash n = false → exec (.tarnRoleWrite n v) s = .next t) ∧
      (t.roleClash n = true → exec (.tarnRoleWrite n v) s = .next (s.setErr (R.TARN_ERR n) F.TARN_ERR_ROLE_CLASH))) ∧
  (∀ (n : Fin 100) (s : State), s.tarnFaulted n = false ∨ s.rolesOf n = [] → exec (.tarnSubstitution n) s = .next s) ∧
  (∀ (n : Fin 100) (r : Nat) (s : State), s.tarnFaulted n = true → s.rolesOf n = [r] →
    (tarnsIn (n.val / 25)).any (fun u => u != n.val && (s.rolesOf u).contains r && !s.tarnFaulted u) = false →
    exec (.tarnSubstitution n) s = .next (s.substitute (n.val / 25) r)) ∧
  (∀ (n : Fin 100) (role : Fin 24) (img : Nat) (s : State), (s.tarn n).loading = [(role.val, img)] → (s.tarn n).back = false → s.tarnFaulted n = false →
    s.tarnState n = 2 → (tarnsIn (n.val / 25)).all (fun t => !s.tarnFaulted t) = true →
    ∃ t, exec (.roleProgramLoaded n role) s = .next t ∧ t.tarnState n = 0 ∧ (t.tarn n).loading = [] ∧ (role.val, img) ∈ (t.tarn n).progs ∧
      t.get (R.TARN_STATUS n) F.TARN_STATUS_PROG_ID = img % 2 ^ F.TARN_STATUS_PROG_ID.w) ∧
  (∀ (n : Fin 100) (s : State), (s.tarn n).testing = true → s.tarnFaulted n = true →
    ∃ t, exec (.tarnSelftestDone n true) s = .next t ∧ t.flag (R.TARN_CTRL n) F.TARN_CTRL_FAULT = false ∧
      t.flag (R.TARN_CTRL n) F.TARN_CTRL_ENABLE = false ∧ t.get (R.TARN_CTRL n) F.TARN_CTRL_ROLE = 31 ∧ t.tarnState n = 0 ∧ (t.tarn n).testing = false ∧
      (t.tarn n).progs = []) ∧
  (∀ (n : Fin 100) (s : State), (s.tarn n).testing = true →
    exec (.tarnSelftestDone n false) s = .next ((((s.updTarn n (fun x => { x with testing := false })).faultTarn n).setErr
      (R.TARN_ERR n) F.TARN_ERR_SELFTEST).updTarn n (fun x => { x with broken := true })))

/-- Of the well-formed DOORBELL packets, neither from a dead endpoint nor repeated, with the job unit on and no L2 reset: one of the Inlet's owner to an Inlet that is on with OP 0 whose new tail passes the range test and whose added headers translate, served at once, counts in JOB_CNT_DOORBELL, makes the value the Inlet's tail, lets the added descriptors join their dispatch queue, and is answered OK. One of the owner with OP 1 that is served at once counts in JOB_CNT_DOORBELL and takes effect on the slot it names: the slot's job, not yet decided, learns ABORTED; a slot whose job is decided counts in JOB_CNT_ABORT_LATE. Both are answered OK. A doorbell of another endpoint is counted in JOB_CNT_DB_REFUSED, sets DB_DENIED and is answered DOORBELL_DENIED; one to an Inlet that is off sets DB_DISABLED and is answered INLET_DISABLED. -/
def Obligations.DoorbellsReachInlets : Prop :=
∀ (port : Fin 8) (w0 w1 : Word) (payload : List Byte) (dt : Nat) (hold : Bool) (s : State),
    let u := (s.takeDelivered port (pkBytes w0.toNat w1.toNat payload)).portTime port dt
    let ep := pkEp w0.toNat
    let txn := pkTxn w0.toNat
    let word := leNat (payload.take 4)
    let r := u.record ep txn
    let l := r.inlet (dbInlet word)
    u.isDead ep = false → (pkFormed w0.toNat 4 6 (inReserved w1.toNat) payload [16] && leNat (payload.drop 4) == 0 && dbOp word ≤ 1 && dbReserved word == 0) = true →
    u.rst.l2 = 0 → u.isDuplicate w0.toNat = false → r.jobsOn = true →
    (ep ≠ l.owner →
      exec (.doorbellRing port w0 w1 payload dt hold) s = .next (r.refuseDoorbell ep txn (some F.JOB_ERR_DB_DENIED) 0x07) ∧
      exec (.doorbellAbort port w0 w1 payload dt hold) s = .next (r.refuseDoorbell ep txn (some F.JOB_ERR_DB_DENIED) 0x07)) ∧
    (ep = l.owner → r.inletOn l = false →
      exec (.doorbellRing port w0 w1 payload dt hold) s = .next (r.refuseDoorbell ep txn (some F.JOB_ERR_DB_DISABLED) 0x08) ∧
      exec (.doorbellAbort port w0 w1 payload dt hold) s = .next (r.refuseDoorbell ep txn (some F.JOB_ERR_DB_DISABLED) 0x08)) ∧
    (ep = l.owner → r.inletOn l = true →
      let v := if (match (r.colour port l.tenant (r.epClass ep) 1 false).2 with | .refused _ => true | .queued => false) then r.bump R.JOB_CNT_DB_REFUSED else r
      let o := v.offer port l.tenant (v.epClass ep) 1 (creditsOf 32) false hold ep txn (.doorbell ep txn port word)
      let i := dbInlet word
      o.2 = some (.doorbell ep txn port word) → o.1.jobsOn = true → o.1.inletOn (o.1.inlet i) = true →
      (dbOp word = 0 → l.tailOk (dbValue word) = true → r.headersFault l (dbValue word) = none → (o.1.inlet i).tailOk (dbValue word) = true →
        let t := (o.1.bump R.JOB_CNT_DOORBELL).setInlet i { o.1.inlet i with tail := dbValue word }
        exec (.doorbellRing port w0 w1 payload dt hold) s = .next ((t.topUp i (t.inlet i).untaken).sendPkt (cmpTo ep txn 0))) ∧
      (dbOp word = 1 → ∀ j, o.1.jobs.jobs.find? (fun j => j.inlet == i && j.slot == dbValue word) = some j →
        let t := o.1.bump R.JOB_CNT_DOORBELL
        exec (.doorbellAbort port w0 w1 payload dt hold) s =
          .next ((if j.decided then t.bump R.JOB_CNT_ABORT_LATE else t.failJob j.id 1).sendPkt (cmpTo ep txn 0))))

/-- JOB_VALIDATE of a taken job that nothing has failed reads the descriptor's header and the lines it names as the Inlet's owner. When a line does not translate the job completes with XLAT_FAULT; when a line is poisoned with POISONED; when checks 3 to 12 find a fault with that status. Else a COMMAND waits for its turn. A DECODE whose source needs more than 4,096 slices completes with BAD_PARAMS (check 13, as this model makes it: log entry 108). Else an INGEST or a DECODE with INGEST_FIRST begins its ingest, and another DECODE is launched on its source. A job that an abort or the watchdog has reached first completes with that status. JOB_TIMEOUT of an undecided decode or ingest job makes TIMEOUT known to it and does nothing to any other job. DECODE_REVALIDATE of a job whose records are all committed makes checks 8 to 12 afresh and launches the decode part. -/
def Obligations.JobsAreValidated : Prop :=
(∀ (source : Fin 9) (choice : List (Fin 4 × Fin 24)) (ans : List SnoopAnswer) (s : State) (j : Job),
    s.jobs.jobs.find? (fun j => j.engine == source.val && j.st == .taken) = some j →
    let l := s.inlet j.inlet
    let pick := choice.map (fun c => (c.1.val, c.2.val))
    let h := s.readDesc l (l.slotVa j.slot) 1 ans
    (j.fails ≠ [] → exec (.jobValidate source choice ans) s = .next (s.finishJob j.id ((firstFail j.fails).getD 1))) ∧
    (j.fails = [] → h.2 = none → exec (.jobValidate source choice ans) s = .next (h.1.finishJob j.id 9)) ∧
    (∀ hd, j.fails = [] → h.2 = some hd →
      let head := hd.flatMap (·.data)
      let d := descOf head
      let b := h.1.readDesc l (l.slotVa j.slot + 64) (min d.lines (2 ^ (l.slotLog2 - 6)) - 1) ans
      (b.2 = none → exec (.jobValidate source choice ans) s = .next ((b.1.putJob { j with desc := d }).finishJob j.id 9)) ∧
      (∀ bd, b.2 = some bd →
        let k : Job := { j with desc := d, body := bd.flatMap (·.data) }
        let t := b.1.putJob k
        ((hd ++ bd).any (fun r => r.poison) = true → exec (.jobValidate source choice ans) s = .next (t.finishJob j.id 0xA)) ∧
        ((hd ++ bd).any (fun r => r.poison) = false →
          (∀ st, t.checkDesc l head k.body = some st → exec (.jobValidate source choice ans) s = .next (t.finishJob j.id st)) ∧
          (t.checkDesc l head k.body = none →
            (d.opcode = 0x10 → exec (.jobValidate source choice ans) s = .next (t.putJob { k with st := .command })) ∧
            (∀ src, d.opcode ≠ 0x10 → t.sourceOf l d = .ok src →
              let need := slicesNeeded l (t.jobBlocks (k.ofSource src) src)
              (d.opcode = 1 → 4096 < need → exec (.jobValidate source choice ans) s = .next (t.finishJob j.id 6)) ∧
              (d.opcode = 1 → need ≤ 4096 → d.ingestFirst = true → exec (.jobValidate source choice ans) s = .next (t.startIngest k)) ∧
              (d.opcode = 2 → exec (.jobValidate source choice ans) s = .next (t.startIngest k)) ∧
              (d.opcode = 1 → need ≤ 4096 → d.ingestFirst = false → exec (.jobValidate source choice ans) s = .next (t.launch k src pick ans)))))))) ∧
  (∀ (job : Nat) (j : Job) (s : State), s.job job = some j →
    (j.st = .decode ∨ j.st = .ingest → j.decided = false → exec (.jobTimeout job) s = .next (s.failJob job 2)) ∧
    (j.decided = true → exec (.jobTimeout job) s = .next s)) ∧
  (∀ (job : Nat) (choice : List (Fin 4 × Fin 24)) (ans : List SnoopAnswer) (j : Job) (src : Source) (s : State), s.job job = some j →
    j.st = .ingest → j.desc.ingestFirst = true → j.desc.ingestCount ≤ j.committed → j.fails = [] →
    s.checkSource (s.inlet j.inlet) j.desc j.body = .ok src →
    exec (.decodeRevalidate job choice ans) s = .next (s.launch j src (choice.map (fun c => (c.1.val, c.2.val))) ans))

/-- START_PACKET of an undecided job at a role with work of it, a dividing job's or an ingesting job's, is queued at the role's Tarn if that takes start packets and has an entry left; where the role has no Tarn, or one that takes none, the work is answered as failed. STOP_PACKET of a job that an abort or its watchdog stops leaves no slice and no ingest of it in the Tarn, running, begun or queued. SLICE_START of a Tarn that is free, in no fault and no reset, takes its next work and begins the ingest's program, or a worker's program for its first slice, or the merge program once no slice is left, with the registers and stream descriptors R148 gives, and STATE running. STREAM_TRANSFER_DONE of a block whose bank is free fills it and counts the block; of a linear transfer it fills block SRAM, or ends the slice with XLAT_FAULT. PARTIAL_ARRIVAL and FAILED_PARTIAL at a merge whose count does not yet reach the announced total put the record into the ring and count its slices (a record sent in parts counts with its last part: log entry 109), or count the failed slices and mark the merge failed; neither does anything else to the job's merges. -/
def Obligations.TarnsTakeTheirWork : Prop :=
(∀ (job : Nat) (quad : Fin 4) (role : Fin 24) (j : Job) (s : State), s.job job = some j →
    (j.st = .decode ∨ (j.st = .ingest ∧ s.ingestRole quad ((s.inlet j.inlet).progOf j.desc) = some role.val)) →
    j.decided = false → j.arrived.contains (quad.val, role.val) = false →
    let w := j.workAt quad role
    let u := s.putJob { j with arrived := j.arrived ++ [(quad.val, role.val)] }
    w.done = false →
    (∀ t, s.roleTarn quad role = some t → s.tarnTakes t = true → (s.tarn t).queue.length < 32 →
      exec (.startPacket job quad role) s = .next (u.setTarn t { s.tarn t with queue := (s.tarn t).queue ++ [w] })) ∧
    (∀ t, s.roleTarn quad role = some t → (s.tarnTakes t = false ∨ 32 ≤ (s.tarn t).queue.length) →
      exec (.startPacket job quad role) s = .next (u.answerWork w (some t))) ∧
    (s.roleTarn quad role = none → exec (.startPacket job quad role) s = .next (u.answerWork w none))) ∧
  (∀ (job : Nat) (tarn : Fin 100) (j : Job) (s : State), s.job job = some j → j.decided = false → (j.fails.contains 1 || j.fails.contains 2) = true →
    ∃ u, exec (.stopPacket job tarn) s = .next u ∧ (∀ r, (u.tarn tarn).run = some r → r.job = job → r.what ≠ .worker ∧ r.what ≠ .ingest) ∧
      (∀ h, h ∈ (u.tarn tarn).queue ++ (u.tarn tarn).active → h.job = job → h.slices = [] ∧ h.ingest = false) ∧
      ∀ t, t ≠ tarn.val → u.tarn t = s.tarn t) ∧
  (∀ (tarn : Fin 100) (h : Held) (j : Job) (s : State), (s.tarn tarn).run = none → s.tarnFaulted tarn = false → s.inL3 (unitKey 0 tarn) = false → s.rst.l2 = 0 →
    let x := s.tarn tarn
    let ready := (s.rolesOf tarn).filterMap (fun r => if x.progs.any (fun p => p.1 == r) then x.nextWork r else none)
    let m := j.merges.find? (fun m => m.quad == tarn.val / 25 && m.role == h.role)
    (ready.find? (fun h => h.role != x.lastRole)).or ready.head? = some h → s.job h.job = some j →
    (h.ingest = true → h.slices = [] →
      ∃ u r, exec (.sliceStart tarn) s = .next u ∧ u.tarnState tarn = 1 ∧ (u.tarn tarn).run = some r ∧ (r.job, r.role, r.what) = (h.job, h.role, .ingest) ∧
        (u.tarn tarn).t = startRegs j .ingest none m ∧ (u.tarn tarn).s = startDescs j (s.inlet j.inlet) .ingest none) ∧
    (∀ i rest sl, h.ingest = false → h.slices = i :: rest → j.slices.find? (fun y => y.id == i) = some sl →
      ∃ u r, exec (.sliceStart tarn) s = .next u ∧ u.tarnState tarn = 1 ∧ (u.tarn tarn).run = some r ∧ (r.job, r.role, r.what, r.slice) = (h.job, h.role, .worker, sl.id) ∧
        (u.tarn tarn).t = startRegs j .worker (some sl) m ∧ (u.tarn tarn).s = startDescs j (s.inlet j.inlet) .worker (some sl)) ∧
    (∀ fin, h.ingest = false → h.slices = [] → h.merge = some fin →
      let what := if fin then Role.final else Role.merge
      ∃ u r, exec (.sliceStart tarn) s = .next u ∧ u.tarnState tarn = 1 ∧ (u.tarn tarn).run = some r ∧ (r.job, r.role, r.what) = (h.job, h.role, what) ∧
        (u.tarn tarn).t = startRegs j what none m ∧ (u.tarn tarn).s = startDescs j (s.inlet j.inlet) what none)) ∧
  (∀ (tarn : Fin 100) (index : Nat) (ans : List SnoopAnswer) (r : TRun) (j : Job) (s : State), (s.tarn tarn).run = some r → r.failing = none → s.job r.job = some j →
    let u := s.setTarn tarn { s.tarn tarn with xfers := (s.tarn tarn).xfers.eraseIdx index }
    let l := u.inlet j.inlet
    (∀ sreg bank blk, (s.tarn tarn).xfers[index]? = some (.block sreg bank blk) → (s.tarn tarn).mayFill index (.block sreg bank blk) = true →
      exec (.streamTransferDone tarn index ans) s = .next (((u.readBlock j blk).1.countBlock tarn j.id blk (u.readBlock j blk).2).updTarn tarn
        (fun x => x.fillBlock bank blk ((2 ^ j.desc.gLog2 + 7) / 8) (u.readBlock j blk).2))) ∧
    (∀ sreg addr va len, (s.tarn tarn).xfers[index]? = some (.linear sreg addr va len) →
      let a := u.access { endpoint := l.owner, srcKind := 1, srcIndex := tarn } l.asid va len false
      (a.2.toOption = none → exec (.streamTransferDone tarn index ans) s = .next (a.1.failRun tarn r 9 none)) ∧
      (a.2.toOption.isSome = true →
        let b := a.1.readVa l.owner l.asid l.tenant (va / 64 * 64) ans ((va % 64 + len + 63) / 64)
        exec (.streamTransferDone tarn index ans) s = .next (b.1.updTarn tarn (fun x => x.fillLinear addr va len b.2))))) ∧
  (∀ (index : Nat) (ans : List SnoopAnswer) (f : Flight) (j : Job) (m : Merge) (t : Nat) (s : State), s.jobs.flights[index]? = some f → s.job f.job = some j →
    j.merge? f.quad = some m → s.roleTarn f.quad m.role = some t → s.tarnFaulted t = false →
    let left := s.jobs.flights.eraseIdx index
    let n := if f.group.isSome && left.any (fun g => g.job == f.job && g.group == f.group) then 0 else (partialOf f.bytes).slices
    m.count + n ≠ m.announced →
    exec (.partialArrival index ans) s =
      .next ((({ s with jobs := { s.jobs with flights := left } } : State).setTarn t
        { s.tarn t with ring := (s.tarn t).ring ++ [{ job := f.job, bytes := f.bytes, bad := f.bad, weight := n }] }).putJob
          (j.setMerge { m with count := m.count + n }))) ∧
  (∀ (index : Nat) (f : FailFlight) (j : Job) (m : Merge) (t : Nat) (s : State), s.jobs.fails[index]? = some f → s.job f.job = some j →
    j.merge? f.quad = some m → s.roleTarn f.quad m.role = some t → s.tarnFaulted t = false → m.count + f.slices ≠ m.announced →
    ∃ u k, exec (.failedPartial index) s = .next u ∧ u.job f.job = some k ∧ f.status ∈ k.fails ∧
      k.merge? f.quad = some { m with count := m.count + f.slices, failed := true } ∧ u.jobs.fails = s.jobs.fails.eraseIdx index ∧ u.tarns = s.tarns)

/-- INGEST_RECORD of an undecided job that ingests, the Tarns of its sequence's quadrants in service, reads the next record of the window as the Inlet's owner and checks and commits it (R596): a committed one adds to the job's count, and the last one of an INGEST job completes it with OK; a rejected one completes the job with its status and reports the record's TAG (0 when its first line is poisoned); a record that does not translate completes it with XLAT_FAULT; a job that an abort or the watchdog has reached stops before the record; a job whose Tarn is lost or missing completes with the status that says so, and one whose program is still being loaded, for the window's record or for the block it opens, waits with nothing committed. INGEST runs the records that are left one after the other. DECODE of a job that has begun nothing runs its slices one after the other in the order given first, each one's partials delivered as they leave. -/
def Obligations.IngestAndDecodeRun : Prop :=
(∀ (job : Nat) (ans : List SnoopAnswer) (j : Job) (s : State), s.job job = some j → j.st = .ingest → j.decided = false → j.committed < j.desc.ingestCount →
    (j.fails ≠ [] → exec (.ingestRecord job ans) s = .next (s.finishJob job ((firstFail j.fails).getD 1))) ∧
    (∀ q, j.fails = [] → s.seqAt (j.desc.source % 2 ^ 18) = some q →
      let l := s.inlet j.inlet
      let at_ := s.ingestTarns j (s.openQuads q none (l.port / 2))
      (∀ st, at_.2 = .fail st → exec (.ingestRecord job ans) s = .next (at_.1.finishJob job st)) ∧
      (at_.2 = .wait → exec (.ingestRecord job ans) s = .next at_.1) ∧
      (∀ ts, at_.2 = .ready ts →
        let n := slotBytes q.heads (dimOf q.hdim)
        let va := q.windowVa + q.windowHead % (max 1 q.windowSlots) * n
        let a := at_.1.access { endpoint := l.owner, srcKind := 1, srcIndex := (ts.head?).elim 0 (·.2.2) } q.asid va n false
        (a.2.toOption = none → exec (.ingestRecord job ans) s = .next (a.1.finishJob job 9)) ∧
        (a.2.toOption.isSome = true →
          let b := a.1.readVa l.owner q.asid q.tenant va ans (n / 64)
          let c := b.1.ingestRead j (j.desc.source % 2 ^ 18) q b.2
          let k := c.1.updJob job (fun j => { j with committed := j.committed + 1 })
          let tag := if (b.2.headD (poisonedLine .ok)).poison then 0 else recTag (b.2.flatMap (·.data))
          (c.2 = none → exec (.ingestRecord job ans) s = .next c.1) ∧
          (c.2 = some 0 → (j.desc.opcode ≠ 2 ∨ j.committed + 1 ≠ j.desc.ingestCount) → exec (.ingestRecord job ans) s = .next k) ∧
          (c.2 = some 0 → j.desc.opcode = 2 → j.committed + 1 = j.desc.ingestCount → exec (.ingestRecord job ans) s = .next (k.finishJob job 0)) ∧
          (∀ st, c.2 = some st → st ≠ 0 → exec (.ingestRecord job ans) s = .next ((c.1.send (.result "INGEST_TAG" [job, tag])).finishJob job st)))))) ∧
  (∀ (job : Nat) (ans : List SnoopAnswer) (j : Job) (s : State), s.job job = some j →
    exec (.ingest job ans) s = .next (s.ingestMany job ans (j.desc.ingestCount - j.committed)) ∧
    (j.desc.ingestCount = j.committed + 1 → exec (.ingest job ans) s = exec (.ingestRecord job ans) s)) ∧
  (∀ (job : Nat) (order : List (Nat × List Nat)) (ans : List SnoopAnswer) (j : Job) (s : State), s.job job = some j →
    j.st = .decode → j.decided = false → j.started = [] → j.arrived = [] →
    exec (.decode job order ans) s = .next ((inOrder j.slices (order.map (·.1))).foldl (fun s x =>
      (s.runSlice job x (((order.find? (fun o => o.1 == x.id)).map (·.2)).getD []) ans).drainJob job ans 8) s) ∧
    (order = [] → exec (.decode job order ans) s = .next (j.slices.foldl (fun s x => (s.runSlice job x [] ans).drainJob job ans 8) s)))

/-- When the ingest of a record ends with OK, the record named the committed length of its layer as its POS, that layer's committed length has advanced by one, no other layer's has changed, and the window has advanced by one record. -/
def Obligations.IngestCommitsOneToken : Prop :=
∀ (slot : Nat) (lines : List LineRead) (s : State), (s.ingestOne slot lines).2 = 0 →
    let layer := recLayer (lines.flatMap (·.data))
    ∃ q r, s.seqAt slot = some q ∧ (s.ingestOne slot lines).1.seqAt slot = some r ∧ recPos (lines.flatMap (·.data)) = q.lenOf layer ∧
      r.lenOf layer = q.lenOf layer + 1 ∧ (∀ k, k ≠ layer → r.lenOf k = q.lenOf k) ∧ r.windowHead = (q.windowHead + 1) % 2 ^ 32 ∧ r.layers = q.layers

/-- For every state whose pool is in canonical form, every address, tenant or none, key slot, poison mark and 64 bytes: after State.writeLine the pool is in canonical form, every byte outside the line reads as before, and every other line's side storage is as before; when the write is performed the line reads back the 64 bytes, valid, with the poison mark and under the key slot given; when it is not, the pool is unchanged. State.readLine leaves the pool unchanged, and its data is 64 bytes. A fill keeps the canonical form, and leaves every byte it does not cover as it was. -/
def Obligations.LineWritesKeepThePool : Prop :=
(∀ (s : State) (pa kslot : Nat) (tenant : Option Nat) (poison repair : Bool) (d : List Byte), d.length = 64 → s.pool.wf = true →
    let r := s.writeLine pa tenant kslot poison d repair
    let la := pa / 64 * 64
    r.1.pool.wf = true ∧ (∀ a, a < la ∨ la + 64 ≤ a → r.1.pool.byte a = s.pool.byte a) ∧ (∀ q, q / 64 ≠ pa / 64 → r.1.pool.line q = s.pool.line q) ∧
    (r.2 = .ok → r.1.pool.bytes la 64 = d ∧ (r.1.pool.line la).valid = true ∧ (r.1.pool.line la).poison = poison ∧ (r.1.pool.line la).kslot = kslot ∧
      (r.1.pool.line la).kgen = s.slotGen kslot) ∧
    (r.2 ≠ .ok → r.1.pool = s.pool)) ∧
  (∀ (s : State) (pa kslot : Nat) (tenant : Option Nat) (repair : Bool), let r := s.readLine pa tenant kslot repair
    r.1.pool = s.pool ∧ r.2.data.length = 64) ∧
  (∀ (p : Pool) (f : Fill), p.wf = true → (p.fill f).wf = true ∧ ∀ a, f.covers a = false → (p.fill f).byte a = p.byte a)

/-- At its turn a command job is decided first. SEQ_CREATE that passes its checks puts an open sequence of the Inlet's tenant, client and ASID, with an empty window, in a slot and completes with OK and that slot's handle; else it completes with the status of its first failing check. SEQ_DESTROY of a handle of the tenant marks its slot closing and completes with OK, of another handle with SEQ_NOT_FOUND. SEQ_QUERY writes the report to the output area, when it is large enough, and completes with its length. A command job that an abort has reached completes with ABORTED. -/
def Obligations.SequenceCommands : Prop :=
(∀ (inlet : BitVec 12) (core : Fin 4) (j : Job) (s : State), turnOf s inlet.toNat 1 = some j →
    let l := s.inlet inlet.toNat
    let k : Job := { j with decided := true }
    let r := State.seqCreate core.val (s.putJob k) k l
    (r.2.status = 0 → ∃ slot q, exec (.seqCreate inlet core) s = .next (r.1.complete k.id 0 (r.1.handleOf slot)) ∧ r.1.seqAt slot = some q ∧
      q.tenant = l.tenant ∧ q.client = l.owner ∧ q.asid = l.asid ∧ q.shut = false ∧ q.windowHead = 0) ∧
    (r.2.status ≠ 0 → exec (.seqCreate inlet core) s = .next (r.1.complete k.id r.2.status 0))) ∧
  (∀ (inlet : BitVec 12) (j : Job) (s : State), turnOf s inlet.toNat 2 = some j →
    let l := s.inlet inlet.toNat
    let k : Job := { j with decided := true }
    let u := s.putJob k
    (∀ slot q, u.findSeq l.tenant (j.param 0 4) = some (slot, q) → exec (.seqDestroy inlet) s = .next ((u.closeSeq slot).complete k.id 0 0)) ∧
    (u.findSeq l.tenant (j.param 0 4) = none → exec (.seqDestroy inlet) s = .next (u.complete k.id 0x20 0))) ∧
  (∀ (inlet : BitVec 12) (ans : List SnoopAnswer) (j : Job) (slot : Nat) (q : Seq) (s : State), turnOf s inlet.toNat 3 = some j →
    let l := s.inlet inlet.toNat
    let k : Job := { j with decided := true }
    let u := s.putJob k
    let w := u.writeOutput k 3 0 (u.seqReport q) [] ans
    u.findSeq l.tenant (j.param 0 4) = some (slot, q) →
    ((u.seqReport q).length ≤ j.desc.outLen → w.2 = 0 → exec (.seqQuery inlet ans) s = .next (w.1.complete k.id 0 (64 + 8 * q.layers))) ∧
    (j.desc.outLen < (u.seqReport q).length → exec (.seqQuery inlet ans) s = .next (u.complete k.id 6 0))) ∧
  (∀ (inlet : BitVec 12) (j : Job) (s : State), s.jobs.jobs.find? (fun j => j.inlet == inlet.toNat && j.st == .command) = some j →
    j.desc.source = 2 → j.decided = false → j.fails ≠ [] → exec (.seqDestroy inlet) s = .next (s.finishJob j.id ((firstFail j.fails).getD 1)))

/-- REGION_PUBLISH that passes its checks installs version expected + 1 of its first n tokens, makes it current, and completes with it; else it completes with the status of its first failing check. REGION_PIN of a live version, within the counts, adds one pin of the client and completes with the version; REGION_UNPIN of a pinned version removes one. REGION_DROP of a live version ends its time-to-live at once, and reaches the partner where its basin is Mirrored. REGION_QUERY of a region writes its report to the output area, tells its blocks of each tier beside it (log entry 120), and completes with the report's length. -/
def Obligations.RegionCommands : Prop :=
(∀ (inlet : BitVec 12) (j : Job) (s : State), turnOf s inlet.toNat 0x10 = some j →
    let l := s.inlet inlet.toNat
    let k : Job := { j with decided := true }
    let r := State.regionPublish (s.putJob k) k l
    (r.2.status = 0 → ∃ reg v, exec (.regionPublish inlet) s = .next (r.1.complete k.id 0 (j.param 12 4 + 1)) ∧ r.1.region l.tenant (j.param 0 8) = some reg ∧
      reg.current = j.param 12 4 + 1 ∧ v ∈ reg.versions ∧ v.number = j.param 12 4 + 1 ∧ v.tokens = j.param 16 8 ∧ v.retired = false) ∧
    (r.2.status ≠ 0 → exec (.regionPublish inlet) s = .next (r.1.complete k.id r.2.status r.2.result))) ∧
  (∀ (inlet : BitVec 12) (j : Job) (s : State), turnOf s inlet.toNat 0x11 = some j →
    let l := s.inlet inlet.toNat
    let k : Job := { j with decided := true }
    let u := s.putJob k
    let key := j.param 0 8
    let ver := if j.param 8 4 = 0 then (u.region l.tenant key).elim 0 (·.current) else j.param 8 4
    let n := u.pinCount l.owner l.tenant key ver
    ((u.liveVersion l.tenant key ver).toOption.isSome = true → n < 65535 → (n ≠ 0 ∨ u.kv.pins.length < 262144) →
      exec (.regionPin inlet) s = .next ((u.setPin l.owner l.tenant key ver (n + 1)).complete k.id 0 ver)) ∧
    ((u.liveVersion l.tenant key ver).toOption.isSome = true → n = 65535 → exec (.regionPin inlet) s = .next (u.complete k.id 0x37 0))) ∧
  (∀ (inlet : BitVec 12) (j : Job) (s : State), turnOf s inlet.toNat 0x12 = some j →
    let l := s.inlet inlet.toNat
    let k : Job := { j with decided := true }
    let u := s.putJob k
    let n := u.pinCount l.owner l.tenant (j.param 0 8) (j.param 8 4)
    (j.param 0 8 ≠ 0 → n ≠ 0 → exec (.regionUnpin inlet) s = .next ((u.setPin l.owner l.tenant (j.param 0 8) (j.param 8 4) (n - 1)).complete k.id 0 0)) ∧
    (j.param 0 8 ≠ 0 → n = 0 → exec (.regionUnpin inlet) s = .next (u.complete k.id 0x38 0))) ∧
  (∀ (inlet : BitVec 12) (j : Job) (r : Region) (v : Version) (s : State), turnOf s inlet.toNat 0x13 = some j →
    let l := s.inlet inlet.toNat
    let k : Job := { j with decided := true }
    let u := s.putJob k
    (u.liveVersion l.tenant (j.param 0 8) (j.param 8 4)).toOption = some (r, v) →
    let t := u.putRegion { r with versions := r.versions.map (fun (w : Version) => if w.number = v.number then { w with left := some 0 } else w) }
    exec (.regionDrop inlet) s = .next ((if t.mirroredBasin v.basin then t.changePartner "DROP" [l.tenant, r.key, v.number] else t).complete k.id 0 0)) ∧
  (∀ (inlet : BitVec 12) (ans : List SnoopAnswer) (j : Job) (r : Region) (s : State), turnOf s inlet.toNat 0x14 = some j →
    let l := s.inlet inlet.toNat
    let k : Job := { j with decided := true }
    let u := s.putJob k
    let w := (u.send (.result "REGION_TIERS" (u.regionTiers r))).writeOutput k 3 0 (u.regionReport r) [] ans
    j.param 0 8 ≠ 0 → u.region l.tenant (j.param 0 8) = some r → 64 + 32 * r.live.length ≤ j.desc.outLen → w.2 = 0 →
    exec (.regionQuery inlet ans) s = .next (w.1.complete k.id 0 (64 + 32 * r.live.length)))

/-- PROG_LOAD of a readable, clean, well-formed image adds it under the lowest free PROG_ID from 0x0100 and completes with that, when its signature verifies and fewer than 32 images are resident; a signature that does not verify sets VERIFY_FAIL, counts, and completes the job with PROG_SIGNATURE. PROG_UNLOAD of an image of the tenant that no Inlet is bound to drops it, its roles returning to 0x0001. INLET_BIND that passes its checks binds the target Inlet to the image and completes with four times the roles asked for; INLET_UNBIND of an enabled Inlet of the tenant leaves it unbound. A configuration read shows the selected Inlet in the staging registers; a configuration write of a disabled Inlet with its fields in range makes the staged configuration the Inlet's, its counts zeroed when it becomes enabled; one that would change an enabled Inlet otherwise than by ENABLE sets FAIL and ICFG_FAIL. -/
def Obligations.ProgramsAndBindings : Prop :=
(∀ (inlet : BitVec 12) (core : Fin 4) (ans : List SnoopAnswer) (j : Job) (img : Image) (sig : Nat) (s : State), turnOf s inlet.toNat 0x20 = some j →
    let l := s.inlet inlet.toNat
    let k : Job := { j with decided := true }
    let n := j.param 8 4
    let va := j.param 0 8
    let a := (s.putJob k).access { endpoint := l.owner, srcKind := 3, srcIndex := core } l.asid va n false
    let b := a.1.readVa l.owner l.asid l.tenant (va / 64 * 64) ans ((va % 64 + n + 63) / 64)
    let w := ((b.2.flatMap (·.data)).drop (va % 64)).take n
    let id := firstGap (sortBy (fun k => k) (b.1.jobs.images.map (·.id))) 256
    let hash := signerHash (w.drop (n - sig))
    let good := b.1.signerOk (some l.tenant) hash && Config.verifies (sigPubkey (w.drop (n - sig))) (w.take (n - sig)) (sigSignature (w.drop (n - sig)))
    n ≠ 0 → a.2.toOption.isSome = true → b.2.any (·.poison) = false → imageOf? w = some (img, sig) → sigFormed (w.drop (n - sig)) = true → b.1.jobs.images.length < 32 →
    exec (.progLoad inlet core ans) s = .next (if good then
        ({ b.1 with jobs := { b.1.jobs with images := b.1.jobs.images ++
          [{ img with id := id, tenant := l.tenant, measure := Config.shake256 (w.take (n - sig)) 32, signer := hash }] } } : State).complete k.id 0 id
      else ((b.1.bump R.SEC_CNT_VERIFY_FAIL).setErr R.SEC_ERR F.SEC_ERR_VERIFY_FAIL).complete k.id 0x40 0)) ∧
  (∀ (inlet : BitVec 12) (j : Job) (s : State), turnOf s inlet.toNat 0x21 = some j →
    let l := s.inlet inlet.toNat
    let k : Job := { j with decided := true }
    let u := s.putJob k
    let id := j.param 0 2
    256 ≤ id → u.jobs.images.any (fun i => i.id == id && i.tenant == l.tenant) = true → u.jobs.inlets.any (fun e => e.2.bound.elim false (fun b => b.prog == id)) = false →
    ∃ t : State, exec (.progUnload inlet) s = .next (t.complete k.id 0 0) ∧ t.jobs.images = u.jobs.images.filter (fun i => i.id != id) ∧
      ∀ q r, q < 4 → r < 24 → t.roleImage q r = if u.roleImage q r = id then 1 else u.roleImage q r) ∧
  (∀ (inlet : BitVec 12) (choice : List (Fin 4 × Fin 24)) (j : Job) (s : State), turnOf s inlet.toNat 0x22 = some j →
    let k : Job := { j with decided := true }
    let r := State.inletBind (choice.map (fun c => (c.1.val, c.2.val))) (s.putJob k) k (s.inlet inlet.toNat)
    (r.2.status = 0 → ∃ b, exec (.inletBind inlet choice) s = .next (r.1.complete k.id 0 (4 * j.param 4 1)) ∧ (r.1.inlet (j.param 0 2)).bound = some b ∧ b.prog = j.param 2 2) ∧
    (r.2.status ≠ 0 → exec (.inletBind inlet choice) s = .next (r.1.complete k.id r.2.status 0))) ∧
  (∀ (inlet : BitVec 12) (j : Job) (s : State), turnOf s inlet.toNat 0x23 = some j →
    let k : Job := { j with decided := true }
    (s.putJob k).bindTarget (s.inlet inlet.toNat).tenant (j.param 0 2) = true →
    ∃ t : State, exec (.inletUnbind inlet) s = .next (t.complete k.id 0 0) ∧ (t.inlet (j.param 0 2)).bound = none) ∧
  (∀ s : State,
    let l := s.inlet (s.get R.JOB_ICFG_SEL F.JOB_ICFG_SEL_INLET)
    l.owner < 2 ^ 12 → l.tenant < 2 ^ 8 → l.asid < 2 ^ 16 → l.port < 8 → l.inRange = true → l.qos < 4 → l.ringVa < 2 ^ 52 → l.cplVa < 2 ^ 52 → l.tail < 2 ^ 16 →
    l.started < 2 ^ 16 → l.completed < 2 ^ 16 →
    ∃ t, exec .inletConfigRead s = .next t ∧ t.stagedInlet l = l ∧ t.get R.JOB_ICFG3 F.JOB_ICFG3_TAIL = l.tail ∧ t.get R.JOB_ICFG3 F.JOB_ICFG3_STARTED = l.started ∧
      t.get R.JOB_ICFG3 F.JOB_ICFG3_COMPLETED = l.completed ∧ t.flag R.JOB_ICFG0 F.JOB_ICFG0_BOUND = l.bound.isSome) ∧
  (∀ s : State,
    let i := s.get R.JOB_ICFG_SEL F.JOB_ICFG_SEL_INLET
    let l := s.inlet i
    let n := s.stagedInlet l
    let u := s.putFlag R.JOB_ICFG_CMD F.JOB_ICFG_CMD_FAIL false
    (l.enable = false → n.enable = true → n.inRange = true → l.tail = l.completed →
      exec .inletConfigWrite s = .next (u.setInlet i { n with tail := 0, started := 0, completed := 0, aborts := [] })) ∧
    (l.enable = false → n.enable = false → n.inRange = true → exec .inletConfigWrite s = .next (u.setInlet i n)) ∧
    (l.enable = true → n = { l with enable := false } → l.inRange = true → exec .inletConfigWrite s = .next (u.setInlet i { l with enable := false })) ∧
    ((l.enable = true ∧ { n with enable := true } ≠ l) ∨ (l.enable = false ∧ n.enable = true ∧ l.tail ≠ l.completed) ∨ n.inRange = false →
      exec .inletConfigWrite s = .next ((s.putFlag R.JOB_ICFG_CMD F.JOB_ICFG_CMD_FAIL true).setErr R.JOB_ERR F.JOB_ERR_ICFG_FAIL)))

/-- Each row of Chotaum-T is a bundle with that operation in its slot and any other slots. On a Tarn whose program runs, its clock island not stopped, an uncorrectable error of block SRAM or program memory takes the Tarn out of service and sets its bit of TARN_ERR; a corrected one adds 1 to TARN_CNT_SRAM_CE and the bundle goes on; a program that has failed and waits for its transfers runs no bundle more; else a bundle at or past bundle 4,096 raises PC_RANGE. When every slot can issue and has an effect, all effects take place together from operands read before, unless the S slot and the C slot write one t register, which raises BUNDLE_CONFLICT. A bundle of legal slots one of which waits changes nothing more. Else the lowest slot that raises an exception raises it. ILLEGAL_SLOT, a bundle with an illegal slot, follows the same rule, its illegal slot raising ILLEGAL_SLOT (log entry 80 says which slot an exception names). -/
def Obligations.TarnBundlesIssue : Prop :=
(∀ (tarn : Fin 100) (sd ta tb : Fin 16) (b : Bundle) (s : State), BundleRule s tarn { b with s := .sblk sd ta tb } (exec (.sblk tarn sd ta tb b) s)) ∧
  (∀ (tarn : Fin 100) (sd ta : Fin 16) (sram : BitVec 14) (b : Bundle) (s : State), BundleRule s tarn { b with s := .slin sd ta sram } (exec (.slin tarn sd ta sram b) s)) ∧
  (∀ (tarn : Fin 100) (sd ta : Fin 16) (sram : BitVec 14) (b : Bundle) (s : State), BundleRule s tarn { b with s := .swrt sd ta sram } (exec (.swrt tarn sd ta sram b) s)) ∧
  (∀ (tarn : Fin 100) (sd ta : Fin 16) (b : Bundle) (s : State), BundleRule s tarn { b with s := .ssend sd ta } (exec (.ssend tarn sd ta b) s)) ∧
  (∀ (tarn : Fin 100) (sd td : Fin 16) (b : Bundle) (s : State), BundleRule s tarn { b with s := .srecv sd td } (exec (.srecv tarn sd td b) s)) ∧
  (∀ (tarn : Fin 100) (sd tb : Fin 16) (mode : BitVec 14) (b : Bundle) (s : State), BundleRule s tarn { b with s := .swait sd tb mode } (exec (.swait tarn sd tb mode b) s)) ∧
  (∀ (tarn : Fin 100) (sd sa : Fin 16) (b : Bundle) (s : State), BundleRule s tarn { b with s := .scopy sd sa } (exec (.scopy tarn sd sa b) s)) ∧
  (∀ (tarn : Fin 100) (sd ta : Fin 16) (field : BitVec 14) (b : Bundle) (s : State), BundleRule s tarn { b with s := .sset sd ta field } (exec (.sset tarn sd ta field b) s)) ∧
  (∀ (tarn : Fin 100) (vd : Fin 32) (ta : Fin 16) (imm : BitVec 16) (b : Bundle) (s : State), BundleRule s tarn { b with v := .vld vd ta imm } (exec (.vld tarn vd ta imm b) s)) ∧
  (∀ (tarn : Fin 100) (vs : Fin 32) (ta : Fin 16) (imm : BitVec 16) (b : Bundle) (s : State), BundleRule s tarn { b with v := .vst vs ta imm } (exec (.vst tarn vs ta imm b) s)) ∧
  (∀ (tarn : Fin 100) (vd va vb : Fin 32) (width : Fin 4) (fn : BitVec 9) (b : Bundle) (s : State), BundleRule s tarn { b with v := .vop vd va vb width fn } (exec (.vop tarn vd va vb width fn b) s)) ∧
  (∀ (tarn : Fin 100) (vd : Fin 32) (ta : Fin 16) (width : Fin 4) (b : Bundle) (s : State), BundleRule s tarn { b with v := .vbc vd ta width } (exec (.vbc tarn vd ta width b) s)) ∧
  (∀ (tarn : Fin 100) (td ta tb : Fin 16) (b : Bundle) (s : State), BundleRule s tarn { b with v := .vrotq td ta tb } (exec (.vrotq tarn td ta tb b) s)) ∧
  (∀ (tarn : Fin 100) (ta : Fin 16) (n : BitVec 14) (b : Bundle) (s : State), BundleRule s tarn { b with m := .mclr ta n } (exec (.mclr tarn ta n b) s)) ∧
  (∀ (tarn : Fin 100) (tl tq tb : Fin 16) (b : Bundle) (s : State), BundleRule s tarn { b with m := .mscore tl tq tb } (exec (.mscore tarn tl tq tb b) s)) ∧
  (∀ (tarn : Fin 100) (b : Bundle) (s : State), BundleRule s tarn { b with m := .msoft } (exec (.msoft tarn b) s)) ∧
  (∀ (tarn : Fin 100) (tl tb : Fin 16) (b : Bundle) (s : State), BundleRule s tarn { b with m := .macc tl tb } (exec (.macc tarn tl tb b) s)) ∧
  (∀ (tarn : Fin 100) (ta : Fin 16) (mode : BitVec 14) (b : Bundle) (s : State), BundleRule s tarn { b with m := .msave ta mode } (exec (.msave tarn ta mode b) s)) ∧
  (∀ (tarn : Fin 100) (ta : Fin 16) (b : Bundle) (s : State), BundleRule s tarn { b with m := .mload ta } (exec (.mload tarn ta b) s)) ∧
  (∀ (tarn : Fin 100) (td ta : Fin 16) (b : Bundle) (s : State), BundleRule s tarn { b with m := .mcomb td ta } (exec (.mcomb tarn td ta b) s)) ∧
  (∀ (tarn : Fin 100) (td ta : Fin 16) (b : Bundle) (s : State), BundleRule s tarn { b with m := .mnorm td ta } (exec (.mnorm tarn td ta b) s)) ∧
  (∀ (tarn : Fin 100) (td ta tb : Fin 16) (fn : AluFn) (b : Bundle) (s : State), BundleRule s tarn { b with c := .talu td ta tb fn } (exec (.talu tarn td ta tb fn b) s)) ∧
  (∀ (tarn : Fin 100) (td ta fn4 : Fin 16) (imm : BitVec 14) (b : Bundle) (s : State), BundleRule s tarn { b with c := .talui td ta fn4 imm } (exec (.talui tarn td ta fn4 imm b) s)) ∧
  (∀ (tarn : Fin 100) (td : Fin 16) (imm : BitVec 21) (b : Bundle) (s : State), BundleRule s tarn { b with c := .tli td imm } (exec (.tli tarn td imm b) s)) ∧
  (∀ (tarn : Fin 100) (td ta : Fin 16) (imm : BitVec 14) (b : Bundle) (s : State), BundleRule s tarn { b with c := .tld td ta imm } (exec (.tld tarn td ta imm b) s)) ∧
  (∀ (tarn : Fin 100) (ts ta : Fin 16) (imm : BitVec 14) (b : Bundle) (s : State), BundleRule s tarn { b with c := .tst ts ta imm } (exec (.tst tarn ts ta imm b) s)) ∧
  (∀ (tarn : Fin 100) (cond ta tb : Fin 16) (imm : BitVec 14) (b : Bundle) (s : State), BundleRule s tarn { b with c := .br cond ta tb imm } (exec (.br tarn cond ta tb imm b) s)) ∧
  (∀ (tarn : Fin 100) (ta : Fin 16) (imm : BitVec 14) (b : Bundle) (s : State), BundleRule s tarn { b with c := .loop ta imm } (exec (.loopOp tarn ta imm b) s)) ∧
  (∀ (tarn : Fin 100) (td sa : Fin 16) (field : BitVec 14) (b : Bundle) (s : State), BundleRule s tarn { b with c := .sget td sa field } (exec (.sget tarn td sa field b) s)) ∧
  (∀ (tarn : Fin 100) (b : Bundle) (s : State), BundleRule s tarn { b with c := .sync } (exec (.sync tarn b) s)) ∧
  (∀ (tarn : Fin 100) (b : Bundle) (s : State), BundleRule s tarn { b with c := .endProgram } (exec (.endProgram tarn b) s)) ∧
  (∀ (tarn : Fin 100) (imm : BitVec 14) (b : Bundle) (s : State), BundleRule s tarn { b with c := .trap imm } (exec (.trap tarn imm b) s))
 ∧
  (∀ (tarn : Fin 100) (word : BitVec 128) (s : State), let b := decodeBundle word.toNat
    (b.s = .bad ∨ b.v = .bad ∨ b.m = .bad ∨ b.c = .bad → BundleRule s tarn b (exec (.illegalSlot tarn word) s)) ∧
    (∀ e, envOf s tarn = some e → e.r.failing = none → e.r.pc < 4096 → b.s = .bad → exec (.illegalSlot tarn word) s = .next (s.progExc tarn e.r 0x01 0)))

/-- With the other slots empty, on a Tarn whose program runs below bundle 4,096 and has not failed, its clock island not stopped: TALU of a listed function and TALUI write td; TLI writes its immediate; TLD reads, and TST writes, the word at ta plus the offset when it is aligned, in block SRAM and, for TST, in no block area, and raises SRAM_ALIGN or SRAM_RANGE otherwise; BR whose condition holds goes to pc plus the offset and otherwise to the next bundle; LOOP of 1 to 4,096 bundles with fewer than four loops in progress runs its body ta times; SGET reads a field of a descriptor; SYNC and END go on with no transfer outstanding, END ending the program, a merge's once its records reach the announced count; both wait otherwise; TRAP raises TRAP with its code. -/
def Obligations.TarnScalarSlots : Prop :=
∀ (tarn : Fin 100) (s : State) (e : TEnv), envOf s tarn = some e → e.r.failing = none → e.r.pc < 4096 →
    (∀ td ta tb fn, tarnFn fn = true → exec (.talu tarn td ta tb fn {}) s = .next (only s tarn e { tw := [(td.val, aluFn 32 fn (e.x.treg ta) (e.x.treg tb))] })) ∧
    (∀ td ta fn4 imm v, taluImm fn4.val (e.x.treg ta) imm.toNat = some v → exec (.talui tarn td ta fn4 imm {}) s = .next (only s tarn e { tw := [(td.val, v)] })) ∧
    (∀ td imm, exec (.tli tarn td imm {}) s = .next (only s tarn e { tw := [(td.val, imm.toNat)] })) ∧
    (∀ td ta imm, let a := addrOff (e.x.treg ta) imm.toInt
      (a % 4 = 0 → a + 4 ≤ 0x200000 → exec (.tld tarn td ta imm {}) s = .next (only s tarn e { tw := [(td.val, leNat (e.x.sramBytes a 4))] })) ∧
      (a % 4 ≠ 0 → exec (.tld tarn td ta imm {}) s = .next (s.progExc tarn e.r 0x05 3)) ∧
      (a % 4 = 0 → 0x200000 < a + 4 → exec (.tld tarn td ta imm {}) s = .next (s.progExc tarn e.r 0x04 3))) ∧
    (∀ ts ta imm, let a := addrOff (e.x.treg ta) imm.toInt
      (a % 4 = 0 → a + 4 ≤ 0x200000 → 0x30000 ≤ a % 0x100000 →
        exec (.tst tarn ts ta imm {}) s = .next (only s tarn e { mem := [(a, leBytes (e.x.treg ts) 4)] })) ∧
      (a % 4 = 0 → a < 0x200000 → a % 0x100000 < 0x30000 → exec (.tst tarn ts ta imm {}) s = .next (s.progExc tarn e.r 0x04 3))) ∧
    (∀ cond ta tb imm, (brHolds cond.val (e.x.treg ta) (e.x.treg tb) = some true → exec (.br tarn cond ta tb imm {}) s =
        .next (only s tarn e { ctl := .branch (unsignedOf (Int.ofNat e.r.pc + imm.toInt) 16) })) ∧
      (brHolds cond.val (e.x.treg ta) (e.x.treg tb) = some false → exec (.br tarn cond ta tb imm {}) s = .next (only s tarn e {}))) ∧
    (∀ ta imm, 1 ≤ imm.toNat → imm.toNat ≤ 4096 → e.r.loops.length < 4 →
      exec (.loopOp tarn ta imm {}) s = .next (only s tarn e { ctl := .loop imm.toNat (e.x.treg ta) })) ∧
    (∀ td sa, let d := e.x.sdesc sa
      exec (.sget tarn td sa 0 {}) s = .next (only s tarn e { tw := [(td.val, d.kind)] }) ∧
      exec (.sget tarn td sa 1 {}) s = .next (only s tarn e { tw := [(td.val, d.count)] }) ∧
      exec (.sget tarn td sa 2 {}) s = .next (only s tarn e { tw := [(td.val, d.offset)] }) ∧
      exec (.sget tarn td sa 3 {}) s = .next (only s tarn e { tw := [(td.val, d.len)] }) ∧
      exec (.sget tarn td sa 4 {}) s = .next (only s tarn e { tw := [(td.val, e.x.outstanding sa)] })) ∧
    (e.x.xfers = [] → exec (.sync tarn {}) s = .next (only s tarn e {})) ∧
    (e.closes = false → exec (.endProgram tarn {}) s = .next s) ∧
    (e.x.xfers = [] → e.closes = true → exec (.endProgram tarn {}) s = .next (State.endRun (only s tarn e {}) tarn (e.r.advance .seq))) ∧
    (e.x.xfers ≠ [] → exec (.sync tarn {}) s = .next s ∧ exec (.endProgram tarn {}) s = .next s) ∧
    (∀ imm, exec (.trap tarn imm {}) s = .next (s.progExc tarn e.r 0x0A 3 imm.toNat))

/-- With the other slots empty, on a Tarn whose program runs below bundle 4,096 and has not failed, its clock island not stopped, each S, V and M operation whose conditions hold has the effect its rule gives: SBLK fetches block ta of its block list into bank tb[0], and nothing at or past COUNT; SLIN and SWRT start a transfer of LEN bytes inside the window; SSEND sends the record at ta, a merge's once its records reach the announced count and waiting till then; SRECV claims the next partial of its job and writes its address; SWAIT goes on when nothing is outstanding; SCOPY copies a descriptor; SSET narrows OFFSET or LEN; VLD and VST move 128 aligned bytes; VBC and VOP write every lane; VROTQ rotates and quantises a query head; MCLR, MSAVE, MLOAD, MCOMB, MSOFT, MACC and MSCORE act on the tiles and the records in block SRAM. A descriptor of the wrong kind raises DESC_KIND. -/
def Obligations.TarnStreamVectorMatrixSlots : Prop :=
∀ (tarn : Fin 100) (s : State) (e : TEnv), envOf s tarn = some e → e.r.failing = none → e.r.pc < 4096 →
    (∀ sd ta tb, let d := e.x.sdesc sd
      (d.kind ≠ 1 → exec (.sblk tarn sd ta tb {}) s = .next (s.progExc tarn e.r 0x07 0)) ∧
      (d.kind = 1 → d.count ≤ e.x.treg ta → exec (.sblk tarn sd ta tb {}) s = .next (only s tarn e {})) ∧
      (∀ sl, d.kind = 1 → e.x.treg ta < d.count → e.j.slices.find? (fun y => y.id == d.base) = some sl →
        exec (.sblk tarn sd ta tb {}) s =
          .next (only s tarn e { act := .fetch (.block sd (e.x.treg tb % 2) (sl.blocks.getD (e.x.treg ta) 0)) }))) ∧
    (∀ sd ta sram, let d := e.x.sdesc sd
      (d.kind = 2 ∨ d.kind = 6 → e.x.treg ta ≤ d.offset → sramWriteOk (sram.toNat * 128) d.len = true →
        exec (.slin tarn sd ta sram {}) s = .next (only s tarn e { act := .fetch (.linear sd (sram.toNat * 128) (d.base + e.x.treg ta) d.len) })) ∧
      (d.kind = 2 ∨ d.kind = 6 → d.offset < e.x.treg ta → exec (.slin tarn sd ta sram {}) s = .next (s.progExc tarn e.r 0x06 0)) ∧
      (d.kind = 3 → e.x.treg ta ≤ d.offset → sramOut (sram.toNat * 128) d.len = false → e.closes = true → e.j.desc.partialOut = false →
        exec (.swrt tarn sd ta sram {}) s = .next (only s tarn e { act := .write sd (e.x.treg ta) (sram.toNat * 128) d.len }))) ∧
    (∀ sd ta, let a := e.x.treg ta
      let n := partialBytes (e.x.sramNum (a + 8) 2) (dimOf (e.x.sramNum (a + 10) 1 % 4))
      let bad := (List.range ((n + 63) / 64)).filter (fun i => e.x.flagged (a + 64 * i) (min 64 (n - 64 * i)))
      (e.x.sdesc sd).kind = 4 → sramOut a 64 = false → sramOut a n = false →
      (e.closes = true → exec (.ssend tarn sd ta {}) s = .next (only s tarn e { act := .send (e.x.sramBytes a n) bad })) ∧
      (e.closes = false → exec (.ssend tarn sd ta {}) s = .next s)) ∧
    (∀ sd td, (e.x.sdesc sd).kind = 5 → (∀ y, e.x.ring.find? (fun y => y.job == e.r.job) = some y →
        let a := ringSlot e.fresh y.bytes.length
        let fl := (spanLines a (a + y.bytes.length)).map (fun l => (l, y.bad.contains (l - a / 64)))
        exec (.srecv tarn sd td {}) s = .next (only s tarn e { tw := [(td.val, a)], mem := [(a, y.bytes)], act := .claim a, draws := 1, flg := fl })) ∧
      (e.x.ring.find? (fun y => y.job == e.r.job) = none → exec (.srecv tarn sd td {}) s = .next s)) ∧
    (∀ (sd tb : Fin 16), (e.x.outstanding sd = 0 → exec (.swait tarn sd tb 0 {}) s = .next (only s tarn e {})) ∧
      (e.x.outstanding sd ≠ 0 → exec (.swait tarn sd tb 0 {}) s = .next s) ∧
      (e.x.filling (e.x.treg tb % 2) = false → exec (.swait tarn 0 tb 1 {}) s = .next (only s tarn e {}))) ∧
    (∀ sd sa, exec (.scopy tarn sd sa {}) s = .next (only s tarn e { sw := [(sd.val, e.x.sdesc sa)] })) ∧
    (∀ sd ta, let d := e.x.sdesc sd
      let v := e.x.treg ta
      (d.offset ≤ v → v + d.len ≤ d.count → exec (.sset tarn sd ta 2 {}) s = .next (only s tarn e { sw := [(sd.val, { d with offset := v })] })) ∧
      (v ≤ d.len → exec (.sset tarn sd ta 3 {}) s = .next (only s tarn e { sw := [(sd.val, { d with len := v })] })) ∧
      (d.len < v → exec (.sset tarn sd ta 3 {}) s = .next (s.progExc tarn e.r 0x06 0))) ∧
    (∀ vd ta imm, let a := (e.x.treg ta + imm.toNat * 128) % 2 ^ 32
      a % 128 = 0 → a + 128 ≤ 0x200000 → exec (.vld tarn vd ta imm {}) s = .next (only s tarn e { vw := [(vd.val, leNat (e.x.sramBytes a 128))] }) ∧
        (0x30000 ≤ a % 0x100000 → exec (.vst tarn vd ta imm {}) s = .next (only s tarn e { mem := [(a, leBytes (e.x.vreg vd) 128)] }))) ∧
    (∀ vd va vb width fn w, laneWidth width.val = some w → 1 ≤ fn.toNat → fn.toNat ≤ 9 →
      let lanes := (List.range (1024 / w)).map (fun i => (laneOp w fn.toNat (lane (e.x.vreg va) w i) (lane (e.x.vreg vb) w i)).getD 0)
      exec (.vop tarn vd va vb width fn {}) s = .next (only s tarn e { vw := [(vd.val, ofLanes w lanes)] })) ∧
    (∀ vd ta width w, laneWidth width.val = some w →
      exec (.vbc tarn vd ta width {}) s = .next (only s tarn e { vw := [(vd.val, ofLanes w ((List.range (1024 / w)).map (fun _ => e.x.treg ta % 2 ^ w)))] })) ∧
    (∀ td ta tb, let a := e.x.treg ta
      let j := e.x.treg tb
      let n := qstride e.d
      sramOut (a + 2 * j) 2 = false → sramOut (a + 64 * ((e.j.qh + 31) / 32) + j * e.d) e.d = false → sramWriteOk (e.x.treg td) n = true →
      let fl := (spanLines (e.x.treg td) (e.x.treg td + n)).map (fun l => (l, (rotated e a j).2))
      exec (.vrotq tarn td ta tb {}) s = .next (only s tarn e { mem := [(e.x.treg td, (rotated e a j).1)], sawPoison := (rotated e a j).2, flg := fl })) ∧
    (∀ (ta : Fin 16) (n : BitVec 14), let new := (List.range n.toNat).map (fun k => emptyTile e.d ((e.x.treg ta + k) % 65536))
      1 ≤ n.toNat → n.toNat ≤ 8 → exec (.mclr tarn ta n {}) s = .next (only s tarn e { count := some n.toNat, tiles := some (e.putTiles new) })) ∧
    (∀ tl tq tb, e.x.bank (e.x.treg tb % 2) = none → exec (.mscore tarn tl tq tb {}) s = .next (only s tarn e { mb := some (List.replicate e.r.tiles none) })) ∧
    (∀ tl tq tb f, evalM e (.mscore tl tq tb) = .eff f → exec (.mscore tarn tl tq tb {}) s = .next (only s tarn e f)) ∧
    (∀ f, evalM e .msoft = .eff f → exec (.msoft tarn {}) s = .next (only s tarn e f)) ∧
    (∀ tl tb f, evalM e (.macc tl tb) = .eff f → exec (.macc tarn tl tb {}) s = .next (only s tarn e f)) ∧
    (∀ ta, let b := ({ sliceId := e.x.treg 5, slices := 1, hdim := e.j.hdim, valExp := e.j.desc.valExp, tiles := e.tiles } : Partial).bytes
      let c := e.tiles.flatMap (fun y => y.entry e.d)
      (sramWriteOk (e.x.treg ta) b.length = true → exec (.msave tarn ta 0 {}) s = .next (only s tarn e { mem := [(e.x.treg ta, b)] })) ∧
      (sramWriteOk (e.x.treg ta) c.length = true → exec (.msave tarn ta 1 {}) s = .next (only s tarn e { mem := [(e.x.treg ta, c)] })) ∧
      (let n := 64 + 4 * e.d
       let old := (List.range e.r.tiles).map (fun k => tileOf (e.x.sramBytes (e.x.treg ta + k * n) n) e.d)
       sramOut (e.x.treg ta) (e.r.tiles * n) = false → exec (.mload tarn ta {}) s = .next (only s tarn e { tiles := some (e.putTiles old) }))) ∧
    (∀ td ta p r, e.x.recordAt (e.x.treg td) = some p → e.x.recordAt (e.x.treg ta) = some r →
      (p.slices = 0 ∨ (p.valExp = r.valExp ∧ p.hdim = r.hdim) → sramWriteOk (e.x.treg td) (p.combine r).1.bytes.length = true →
        exec (.mcomb tarn td ta {}) s = .next (only s tarn e { mem := [(e.x.treg td, (p.combine r).1.bytes)], sat := (p.combine r).2, merged := 1 })) ∧
      (p.slices ≠ 0 → p.valExp ≠ r.valExp → exec (.mcomb tarn td ta {}) s = .next (s.progExc tarn e.r 0x09 2))) ∧
    (∀ td ta f, evalM e (.mnorm td ta) = .eff f → exec (.mnorm tarn td ta {}) s = .next (only s tarn e f)) ∧
    (∀ td ta, e.x.recordAt (e.x.treg ta) = none → exec (.mnorm tarn td ta {}) s = .next (s.progExc tarn e.r 0x04 2))

/-- POND_REQUEST to a line a channel serves, its clock island not stopped, joins that pseudo-channel's queue when its level has a free entry; else it is discarded, and a Pond sets QUEUE_PROTO; a read of a faulted channel is answered with zeros and the poison mark, a write with ERROR; one to a line that no channel serves, or in the hole, with ERROR, a spare or unpopulated place setting its error bit. POND_ISSUE of a serving channel's pseudo-channel that is not paused takes the chosen request from its queue, opens its row and carries it out, or, with nothing to choose, issues the row commands of a line served inside a whole transaction (log entry 99); the request chosen for a Pond waits at no lower level than any other that may be taken. AGE_PROMOTION marks the waiting request and counts. ROW_IDLE_CLOSE closes the row. REFRESH_INTERVAL of a channel that runs, enabled or not, refreshes the bank the rotation has reached and moves on, or postpones a bank for which requests wait and that owes fewer than eight. STACK_TEMPERATURE_CHANGE shows in HOT of the 32 Ponds of the stack alone. REFRESH_WINDOW_END empties every table and clears every flag of the channel. RETRAIN_PERIOD at a starter puts the token there; RETRAIN_TOKEN begins, continues or ends the pass; PAUSE_LIMIT counts a short pause, the third in a row faulting the channel. -/
def Obligations.PondQueuesAndIssue : Prop :=
(∀ (id : Nat) (level : Fin 4) (write : Bool) (pa : BitVec 48) (data : List Byte) (poison : Bool) (tenant : Option (BitVec 8)) (kslot : BitVec 9) (repair : Bool)
      (tarn : Fin 100) (u : Nat) (s : State),
    let la := pa.toNat / 64 * 64
    let c := (s.chan u).pc (pcOf la)
    let n := ((if write then c.wq else c.rq).filter (fun r => r.level == level.val)).length
    let r : MemReq := { id := id, level := level, write := write, pa := la, data := data, poison := poison, tenant := tenant.map (·.toNat), kslot := kslot.toNat,
                        striped := (s.stripeOf la).isSome, repair := repair, aged := false, tarn := tarn }
    let i : Instr := .pondRequest id level write pa data poison tenant kslot repair tarn
    (s.routeOf la repair = .serve u → s.islandStopped (chIsland u) = false → n < queueCap write level →
      exec i s = .next (s.setChan u ((s.chan u).setPc (pcOf la) (if write then { c with wq := c.wq ++ [r] } else { c with rq := c.rq ++ [r] })))) ∧
    (s.routeOf la repair = .serve u → s.islandStopped (chIsland u) = false → u < 384 → queueCap write level ≤ n → exec i s = .next (s.setErr (R.POND_ERR u) F.POND_ERR_QUEUE_PROTO)) ∧
    (s.routeOf la repair = .faulted u → unitOf la = some u →
      exec i s = .next (s.send (if write then .memResp u id 1 false [] else .memResp u id 0 true (zeros 64)))) ∧
    (∀ v, s.routeOf la repair = .spare v ∨ s.routeOf la repair = .unpopulated v ∨ s.routeOf la repair = .down v → unitOf la = some v →
      exec i s = .next ((s.routeErr (s.routeOf la repair)).send (.memResp v id 1 false []))) ∧
    (unitOf la = none → exec (.pondRequest id level write pa data poison tenant kslot repair tarn) s = .next (s.send (.memResp noUnit id 1 false [])))) ∧
  (∀ (unit : Fin 396) (pc : Fin 2) (errs : List (Nat × Nat)) (parity : List (Fin 16)) (s : State),
    let c := (s.chan unit).pc pc
    let sd := c.side (s.get (chSched unit) F.POND_SCHED_WQ_HIGH)
    c.paused = false → s.islandStopped (chIsland unit) = false → s.chServes unit = true →
    c.pick (if sd.1 then c.wq else c.rq) (384 ≤ unit.val) (s.chan unit).lastTarn = none → exec (.pondIssue unit pc ⟨errs, parity⟩) s = .next (s.issueRow unit pc parity)) ∧
  (∀ (unit : Fin 396) (pc : Fin 2) (errs : List (Nat × Nat)) (parity : List (Fin 16)) (r : MemReq) (s : State),
    let c := (s.chan unit).pc pc
    let sd := c.side (s.get (chSched unit) F.POND_SCHED_WQ_HIGH)
    let q := if sd.1 then c.wq else c.rq
    c.paused = false → s.islandStopped (chIsland unit) = false → s.chServes unit = true → c.pick q (384 ≤ unit.val) (s.chan unit).lastTarn = some r →
    let k : PChan := if sd.1 then { c with wq := c.wq.eraseP (fun x => x.id == r.id), drainTo := sd.2 }
                     else { c with rq := c.rq.eraseP (fun x => x.id == r.id), drainTo := sd.2 }
    let t := s.setChan unit ((s.chan unit).setPc pc k)
    let t := if 384 ≤ unit.val ∧ r.rank = 1 ∧ r.write = false then t.updChan unit (fun c => { c with lastTarn := r.tarn }) else t
    exec (.pondIssue unit pc ⟨errs, parity⟩) s = .next (((t.openFor unit pc r.pa parity).serveReq unit c.wq r errs).rowIssued unit pc r.pa) ∧ r ∈ q ∧
      ∀ x, x ∈ q → firstOfLine q x = true → r.rank ≤ x.rank) ∧
  (∀ (unit : Fin 396) (pc : Fin 2) (id : Nat) (s : State),
    let c := (s.chan unit).pc pc
    let due (r : MemReq) : Bool := r.id == id && r.level != 0 && !r.aged
    let up (l : List MemReq) : List MemReq := l.map (fun (r : MemReq) => if due r then { r with aged := true } else r)
    s.get (chSched unit) F.POND_SCHED_AGE_LIMIT ≠ 0 → (c.rq ++ c.wq).any due = true →
    exec (.agePromotion unit pc id) s =
      .next ((s.setChan unit ((s.chan unit).setPc pc { c with rq := up c.rq, wq := up c.wq })).bump (chCnt unit 9))) ∧
  (∀ (unit : Fin 396) (pc : Fin 2) (bank : Fin 16) (s : State), (((s.chan unit).pc pc).bank bank).openRow.isSome = true →
    ∃ t : State, exec (.rowIdleClose unit pc bank) s = .next t ∧ (((t.chan unit).pc pc).bank bank).openRow = none ∧
      ∀ b, b ≠ bank.val → ((t.chan unit).pc pc).bank b = ((s.chan unit).pc pc).bank b) ∧
  (∀ (unit : Fin 396) (pc : Fin 2) (postpone : Bool) (s : State),
    let c := (s.chan unit).pc pc
    let b := c.refreshPtr % 16
    let waits := (c.rq ++ c.wq).any (fun r => bankOf r.pa == b)
    let t := s.setChan unit ((s.chan unit).setPc pc ({ c with refreshPtr := (b + 1) % 16 }.setBank b { c.bank b with owed := (c.bank b).owed + 1 }))
    s.chRuns unit = true → s.islandStopped (chIsland unit) = false →
    (c.paused = false → postpone = false ∨ waits = false ∨ 8 ≤ (c.bank b).owed → exec (.refreshInterval unit pc postpone) s = .next (t.refreshBank unit pc b)) ∧
    (c.paused = true ∨ (postpone = true ∧ waits = true ∧ (c.bank b).owed < 8) → exec (.refreshInterval unit pc postpone) s = .next t)) ∧
  (∀ (stack : Fin 12) (hot : Bool) (s : State), ∃ t : State, exec (.stackTemperatureChange stack hot) s = .next t ∧
    ∀ i, i < 384 → t.flag (R.POND_STATUS i) F.POND_STATUS_HOT = if i / 32 = stack.val then hot else s.flag (R.POND_STATUS i) F.POND_STATUS_HOT) ∧
  (∀ (unit : Fin 396) (s : State), ∃ t : State, exec (.refreshWindowEnd unit) s = .next t ∧
    ∀ (p b : Nat), b < 16 → let k := ((t.chan unit).pc p).bank b
      k.table = [] ∧ k.overflow = false ∧ k.untrusted = false ∧ k.openRow = (((s.chan unit).pc p).bank b).openRow) ∧
  (∀ (unit : Fin 396) (s : State), s.isStarter unit = true → s.chRuns unit = true → (tokenRing unit).any s.hasToken = false →
    exec (.retrainPeriod unit) s = .next (s.setToken unit true)) ∧
  (∀ (unit : Fin 396) (s : State), s.hasToken unit = true →
    (s.chRuns unit = false → exec (.retrainToken unit) s = .next (s.passToken unit)) ∧
    (s.chRuns unit = true → s.pausedPc unit = none → exec (.retrainToken unit) s = .next (s.pausePc unit 0)) ∧
    (∀ p, s.chRuns unit = true → s.pausedPc unit = some p →
      exec (.retrainToken unit) s = .next ((s.updChan unit (fun c => c.setPc p { c.pc p with shortRow := 0 })).resumePc unit p))) ∧
  (∀ (unit : Fin 396) (p : Nat) (s : State), s.pausedPc unit = some p →
    let n := ((s.chan unit).pc p).shortRow + 1
    let t := ((s.updChan unit (fun c => c.setPc p { c.pc p with shortRow := n })).bump (chCnt unit 8)).setErr (chErr unit) F.POND_ERR_TRAIN_SHORT
    (n < 3 → exec (.pauseLimit unit) s = .next (t.resumePc unit p)) ∧
    (3 ≤ n → exec (.pauseLimit unit) s = .next ((t.faultChan unit).setErr (chErr unit) F.POND_ERR_RETRAIN_FAIL)))

/-- POND_FILL and SPILL_FILL of a range inside the channel, under a FULL key slot, by a channel that runs and has no fill, begin the fill, whose lines are then not valid; one of an empty slot is answered STATUS 1, one of a faulted channel STATUS 2. FILL_DONE of a channel that is not faulted ends its fill with STATUS 0; one that a message asked for leaves every byte of the fill's range at its pattern and every line of it valid, with its tag and key, and no other byte changed; the fill is gone, and a STATE that showed it is ready. POND_TRAIN of a disabled Pond that is not faulted sets TRAIN, and STATE is training. POND_FAULT_WRITE sets FAULT and STATE faulted and leaves no request queued. SPILL_TRAIN takes the capacity its DIMMs report, refuses two that differ with DIMM_MISMATCH, and leaves a channel without DIMMs with no capacity and untrained. TRAINING_DONE clears TRAIN; it leaves the channel trained, STATE ready when nothing else holds it, or faults the channel. SPILL_HOLD of an empty channel that is not faulted holds it, ENABLE 0 and STATE 6; of another sets HOLD_REFUSED; a release clears HOLD. -/
def Obligations.FillsAndTraining : Prop :=
(∀ (pond : Fin 384) (sender tag : BitVec 16) (first count : BitVec 32) (pattern : Word) (kslot : BitVec 16) (tenant pcmask : BitVec 8) (repair : Bool) (s : State),
    let i : Instr := .pondFill pond sender tag first count pattern kslot tenant pcmask repair
    (s.chFaulted pond = false → count.toNat ≠ 0 → pcmask.toNat ≠ 0 → pcmask.toNat ≤ 3 → first.toNat + count.toNat ≤ (if repair then 65536 else 61440) →
      s.slotFull kslot.toNat = true → s.chRuns pond = true → (s.chan pond).fill = none →
      let f : Fill := { range := .rows pond first.toNat count.toNat pcmask.toNat, pattern := pattern.toNat, kslot := kslot.toNat, kgen := s.slotGen kslot.toNat, tag := tenant.toNat }
      exec i s = .next (s.startFill pond { sender := sender.toNat, tag := tag.toNat, fill := f, count := count.toNat, lines := count.toNat * 256 * popCount pcmask.toNat 2 }) ∧
      ∀ t : State, exec (.pondFill pond sender tag first count pattern kslot tenant pcmask repair) s = .next t →
        ∀ a, f.covers (64 * (a / 64)) = true → (t.pool.line a).valid = false) ∧
    (s.chFaulted pond = false → s.slotFull kslot.toNat = false → exec i s = .next (s.fillReply pond sender.toNat tag.toNat 1 0)) ∧
    (s.chFaulted pond = true → exec i s = .next (s.fillReply pond sender.toNat tag.toNat 2 0))) ∧
  (∀ (spill : Fin 12) (sender tag : BitVec 16) (first count : BitVec 32) (pattern : Word) (kslot : BitVec 16) (tenant : BitVec 8) (s : State),
    let u := 384 + spill.val
    s.chFaulted u = false → count.toNat ≠ 0 → first.toNat + count.toNat ≤ s.spillBytes spill / 65536 → s.slotFull kslot.toNat = true → s.chRuns u = true →
    (s.chan u).fill = none →
    let f : Fill := { range := .chunks spill first.toNat count.toNat, pattern := pattern.toNat, kslot := kslot.toNat, kgen := s.slotGen kslot.toNat, tag := tenant.toNat }
    exec (.spillFill spill sender tag first count pattern kslot tenant) s =
      .next (s.startFill u { sender := sender.toNat, tag := tag.toNat, fill := f, count := count.toNat, lines := count.toNat * 1024 })) ∧
  (∀ (unit : Fin 396) (done : BitVec 32) (j : FillJob) (s : State), (s.chan unit).fill = some j → s.chFaulted unit = false →
    exec (.fillDone unit done) s = .next (s.fillEnds unit j 0 j.count) ∧
    (j.basin = none → j.fill.range.upTo j.count = j.fill.range →
      let t := s.fillEnds unit j 0 j.count
      (t.chan unit).fill = none ∧ (s.chState unit = 4 → t.chState unit = 2) ∧
      (∀ a, j.fill.covers a = true → t.pool.byte a = BitVec.ofNat 8 (j.fill.pattern / 2 ^ (8 * (a % 8)))) ∧
      (∀ a, j.fill.covers (64 * (a / 64)) = true →
        t.pool.line a = { tag := j.fill.tag, valid := j.fill.valid, kslot := j.fill.kslot, kgen := j.fill.kgen }) ∧
      (∀ a, j.fill.covers a = false → t.pool.byte a = s.pool.byte a))) ∧
  (∀ (pond : Fin 384) (s : State),
    (s.chEnabled pond = false → s.chFaulted pond = false →
      exec (.pondTrain pond) s = .next (s.putFlag (R.POND_CTRL pond) F.POND_CTRL_TRAIN true) ∧
      (s.inL3 (chUnitKey pond) = false → (s.putFlag (R.POND_CTRL pond) F.POND_CTRL_TRAIN true).chState pond = 1)) ∧
    (s.chFaulted pond = false → ∃ t : State, exec (.pondFaultWrite pond) s = .next t ∧ t.chFaulted pond = true ∧ t.chState pond = 5 ∧
      (t.chan pond).pc0.rq = [] ∧ (t.chan pond).pc0.wq = [] ∧ (t.chan pond).pc1.rq = [] ∧ (t.chan pond).pc1.wq = [] ∧
      (t.chan pond).pc0.paused = false ∧ (t.chan pond).pc1.paused = false)) ∧
  (∀ (spill : Fin 12) (part gib : Nat) (s : State), s.chEnabled (384 + spill.val) = false → s.flag (R.SPILL_CTRL spill) F.SPILL_CTRL_HOLD = false →
    s.chFaulted (384 + spill.val) = false →
    let t (n cap : Nat) : State := ((s.put (R.SPILL_STATUS spill) F.SPILL_STATUS_DIMMS n).updChan (384 + spill.val)
      (fun c => { c with trained := false })).put (R.SPILL_STATUS spill) F.SPILL_STATUS_CAP_GIB cap
    exec (.spillTrain spill [(part, gib), (part, gib)]) s = .next ((t 2 (gib + gib)).putFlag (R.SPILL_CTRL spill) F.SPILL_CTRL_TRAIN true) ∧
    exec (.spillTrain spill [(part, gib)]) s = .next ((t 1 gib).putFlag (R.SPILL_CTRL spill) F.SPILL_CTRL_TRAIN true) ∧
    exec (.spillTrain spill []) s = .next (t 0 0) ∧
    ∀ p g, (p, g) ≠ (part, gib) → exec (.spillTrain spill [(part, gib), (p, g)]) s = .next ((t 2 0).setErr (R.SPILL_ERR spill) F.SPILL_ERR_DIMM_MISMATCH)) ∧
  (∀ (unit : Fin 396) (ok : Bool) (res : List (Fin 16 × Nat)) (s : State), s.flag (chCtrl unit) F.POND_CTRL_TRAIN = true →
    ∃ t : State, exec (.trainingDone unit ok res) s = .next t ∧ t.flag (chCtrl unit) F.POND_CTRL_TRAIN = false ∧
      (ok = true → (t.chan unit).trained = true ∧ t.chFaulted unit = s.chFaulted unit ∧
        (s.chFaulted unit = false → s.inL3 (chUnitKey unit) = false → s.rst.l2 ≠ 2 → s.chHeld unit = false →
          (s.chan unit).pc0.paused = false → (s.chan unit).pc1.paused = false → (s.chan unit).fill = none → t.chState unit = 2)) ∧
      (ok = false → t.chFaulted unit = true)) ∧
  (∀ (spill : Fin 12) (s : State),
    (s.spillEmpty spill = true → s.chFaulted (384 + spill.val) = false → ∃ t : State, exec (.spillHold spill true) s = .next t ∧ t.flag (R.SPILL_CTRL spill) F.SPILL_CTRL_HOLD = true ∧
      t.chEnabled (384 + spill.val) = false ∧ t.chState (384 + spill.val) = 6) ∧
    (s.spillEmpty spill = false → exec (.spillHold spill true) s = .next (s.setErr (R.SPILL_ERR spill) F.SPILL_ERR_HOLD_REFUSED)) ∧
    (s.flag (R.SPILL_CTRL spill) F.SPILL_CTRL_HOLD = true →
      exec (.spillHold spill false) s = .next (s.putFlag (R.SPILL_CTRL spill) F.SPILL_CTRL_HOLD false)))

/-- With no command running, the argument bits it does not name 0, and, while the pair is formed, no refusal of the partner: TENANT_CREATE of a quota from 1 to 65,536 and a tenant that does not exist and whose key slot is FULL makes it, with its driver and quota; TENANT_DESTROY of a tenant without endpoint, context or basin removes it; ENDPOINT_BIND binds an endpoint that is bound to none; ENDPOINT_UNBIND of an endpoint that holds nothing unbinds it and clears its DIR_DEAD bit; CONTEXT_CREATE gives a free ASID to a tenant; each completes with OK, and the firmware records a change of the tables of tenants and endpoints in the measurements (log entry 128). CONTEXT_DESTROY, with nothing waiting and fewer than 16 invalidations in flight, removes the ASID and its stage-1 entries and is BUSY until they are invalidated; with 16 in flight it is BUSY and waits in the queue. A command whose check fails changes only STATUS and CMD_DONE; one that comes while another runs changes nothing. The head of the fault queue moves as far as TAIL and no further. -/
def Obligations.TenantsEndpointsContexts : Prop :=
(∀ (partner : Fin 10) (s : State), cmdReady s (2 ^ 37 - 1) = true → (s.formed = false ∨ partner.val = 0) →
    let t := bitsOf (s.arg 0) 0 8
    let d := bitsOf (s.arg 0) 8 12
    let q := bitsOf (s.arg 0) 20 17
    let u := s.toPartner "TENANT_CREATE" [t, d, q]
    (1 ≤ q → q ≤ 65536 → s.tenantOf t = none → s.slotFull t = true → exec (.tenantCreate partner) s =
      .next ((State.recordChange { u with xlat := { u.xlat with tenants := Tbl.set (fun _ => none) u.xlat.tenants t (some { driver := d, quota := q }) } }).xlatDone 0 0)) ∧
    (q = 0 → exec (.tenantCreate partner) s = .next (s.xlatFail 1)) ∧
    (1 ≤ q → q ≤ 65536 → (s.tenantOf t).isSome = true → exec (.tenantCreate partner) s = .next (s.xlatFail 2)) ∧
    (1 ≤ q → q ≤ 65536 → s.tenantOf t = none → s.slotFull t = false → exec (.tenantCreate partner) s = .next (s.xlatFail 7))) ∧
  (∀ (partner : Fin 10) (s : State), s.flag R.XLAT_CMD F.XLAT_CMD_BUSY = true → exec (.tenantCreate partner) s = .next s) ∧
  (∀ (partner : Fin 10) (s : State), cmdReady s (2 ^ 8 - 1) = true → (s.formed = false ∨ partner.val = 0) →
    let t := bitsOf (s.arg 0) 0 8
    let u := s.toPartner "TENANT_DESTROY" [t]
    let used := s.xlat.bound.any (fun e => e.2 == some t) || s.xlat.contexts.any (fun e => e.2 == some t)
      || s.basins.any (fun e => e.2.tenant == t && !e.2.destroyed)
    (s.tenantOf t).isSome = true →
    (used = false → exec (.tenantDestroy partner) s =
      .next ((State.recordChange { u with xlat := { u.xlat with tenants := Tbl.set (fun _ => none) u.xlat.tenants t none } }).xlatDone 0 0)) ∧
    (used = true → exec (.tenantDestroy partner) s = .next (s.xlatFail 6))) ∧
  (∀ (partner : Fin 10) (s : State), cmdReady s (2 ^ 20 - 1) = true → (s.formed = false ∨ partner.val = 0) →
    let e := bitsOf (s.arg 0) 0 12
    let t := bitsOf (s.arg 0) 12 8
    let u := s.toPartner "ENDPOINT_BIND" [e, t]
    (s.tenantOf t).isSome = true → s.boundTo e = none → exec (.endpointBind partner) s =
      .next ((State.recordChange { u with xlat := { u.xlat with bound := Tbl.set (fun _ => none) u.xlat.bound e (some t) } }).xlatDone 0 0)) ∧
  (∀ (partner : Fin 10) (s : State), cmdReady s (2 ^ 12 - 1) = true → (s.formed = false ∨ partner.val = 0) →
    let e := bitsOf (s.arg 0) 0 12
    (s.boundTo e).isSome = true →
    (s.endpointHolds e = false → ∃ t : State, exec (.endpointUnbind partner) s = .next t ∧ t.boundTo e = none ∧ t.isDead e = false ∧
      (∀ k, k ≠ e → t.boundTo k = s.boundTo k) ∧ t.get R.XLAT_CMD F.XLAT_CMD_STATUS = 0) ∧
    (s.endpointHolds e = true → exec (.endpointUnbind partner) s = .next (s.xlatFail 6))) ∧
  (∀ (partner : Fin 10) (s : State), cmdReady s (2 ^ 24 - 1) = true → (s.formed = false ∨ partner.val = 0) →
    let a := bitsOf (s.arg 0) 0 16
    let t := bitsOf (s.arg 0) 16 8
    let u := s.toPartner "CONTEXT_CREATE" [a, t]
    (s.tenantOf t).isSome = true → s.contextOf a = none → exec (.contextCreate partner) s =
      .next (State.xlatDone { u with xlat := { u.xlat with contexts := Tbl.set (fun _ => none) u.xlat.contexts a (some t) } } 0 0)) ∧
  (∀ (partner : Fin 10) (s : State), cmdReady s (2 ^ 16 - 1) = true → (s.formed = false ∨ partner.val = 0) →
    let a := bitsOf (s.arg 0) 0 16
    let u := (s.toPartner "CONTEXT_DESTROY" [a]).putFlag R.XLAT_CMD F.XLAT_CMD_BUSY true
    (s.contextOf a).isSome = true →
    (s.xlat.waiting = [] → s.xlat.cmdWait = none → s.xlat.invs.length < 16 → exec (.contextDestroy partner) s = .next (u.beginContext a) ∧
      (u.beginContext a).contextOf a = none ∧ (u.beginContext a).xlat.s1 = s.xlat.s1.filter (fun e => e.asid != a) ∧
      (u.beginContext a).flag R.XLAT_CMD F.XLAT_CMD_BUSY = true ∧ (u.beginContext a).xlat.cmdRes = (s.xlat.s1.filter (fun e => e.asid == a)).length) ∧
    (16 ≤ s.xlat.invs.length → exec (.contextDestroy partner) s = .next (u.joinInvs (.context a)))) ∧
  (∀ (head : BitVec 11) (s : State),
    let h := s.get R.XLAT_FQ_PTR F.XLAT_FQ_PTR_HEAD
    let t := s.get R.XLAT_FQ_PTR F.XLAT_FQ_PTR_TAIL
    ((head.toNat + 2048 - h) % 2048 ≤ (t + 2048 - h) % 2048 → exec (.faultQueueHeadWrite head) s = .next (s.put R.XLAT_FQ_PTR F.XLAT_FQ_PTR_HEAD head.toNat)) ∧
    ((t + 2048 - h) % 2048 < (head.toNat + 2048 - h) % 2048 → exec (.faultQueueHeadWrite head) s = .next s))

/-- BASIN_CREATE that passes the checks of R595 makes a basin of the lowest free identity with its three parts reserved, and its shadow's when Mirrored, and is BUSY while the fills of them with zeros run; when no fill of a basin in the making is left, the basin is made and its BASIN_CREATE completes with OK and the identity. BASIN_DESTROY of a basin with no open sequence and no version, with nothing waiting and fewer than 16 invalidations in flight, closes it, remembers the jobs in flight, and is BUSY until its entries are invalidated. BASIN_UNITS_FREE of a destroyed basin whose jobs are done frees its identity, its blocks and its sequences, whose slots' generations advance. A TABLE_SYNC of a driver for an ASID of its tenant that is admitted and served at once is taken; one for another ASID is answered CONTEXT; one of an endpoint that drives no tenant DENIED. INVALIDATION_DONE, once the accesses translated before it are performed and the partner holds the change, answers a sync OK, or completes the command; either way the next waiting ones begin; before that it changes nothing. INVALIDATION_SLOW sets INV_SLOW. -/
def Obligations.BasinsAndSyncs : Prop :=
(∀ (partner : Fin 10) (shadow : List Nat) (m k f : List Run) (id : Nat) (s : State),
    let a := s.basinArgs
    s.flag R.XLAT_CMD F.XLAT_CMD_BUSY = false → s.flag R.XLAT_CFG F.XLAT_CFG_LOCK = true → a.ok s.unitBytes = true → (s.tenantOf a.tenant).isSome = true →
    s.overlaps a = false → s.basins.length < 1024 → (s.formed = false ∨ (s.basins.filter (fun e => !e.2.shadowHere)).length < 512) → (a.kind = 2 → s.formed = true) → partner.val = 0 →
    s.reserve s.allRuns a.real a.quad a.tpa a.size = some m → s.reserve (s.allRuns ++ m) a.real a.quad 0 a.pool = some k →
    s.reserve (s.allRuns ++ m ++ k) 4 0 0 a.spill = some f → s.s2Used + s.entriesOf m ≤ 65536 → s.freeBasin = some id →
    let two (l : List Run) (n : Nat) : List Run := if a.kind = 2 then shadowOf l (shadow.drop n) else []
    let b : Basin := {
      tenant := a.tenant, kind := a.kind, pattern := a.real, quad := a.quad, tpa := a.tpa, size := a.size, pool := a.pool, spill := a.spill,
      mapped := m, poolRuns := k, spillRuns := f, shadowMapped := two m 0, shadowPool := two k m.length, shadowSpill := two f (m.length + k.length),
      closing := false, destroyed := false, waitJobs := [], shadowHere := false, takenOver := false, moving := false, making := true }
    let t := ((s.putFlag R.XLAT_CMD F.XLAT_CMD_BUSY true).toPartner "BASIN_CREATE" [id, a.tenant, a.kind]).setBasin id (some b)
    exec (.basinCreate partner shadow) s = .next (t.fillRuns id a.tenant (m ++ k ++ f))) ∧
  (∀ (id : Nat) (b : Basin) (s : State), s.basins = [(id, b)] → b.making = true → s.xlat.fills.any (fun f => f.basin == id) = false →
    s.chans.any (fun c => c.2.fill.elim false (fun j => j.basin == some id)) = false → b.shadowHere = false →
    s.settleBasins = (s.setBasin id (some { b with making := false })).recordChange.xlatDone 0 id) ∧
  (∀ (partner : Fin 10) (b : Basin) (s : State), cmdReady s (2 ^ 10 - 1) = true → (s.formed = false ∨ partner.val = 0) →
    let id := bitsOf (s.arg 0) 0 10
    s.basin id = some b → b.destroyed = false → b.closing = false → b.servedHere = true →
    (s.seqsIn id = [] → s.versionsIn id = [] → s.xlat.waiting = [] → s.xlat.cmdWait = none → s.xlat.invs.length < 16 →
      ∃ t : State, exec (.basinDestroy partner) s = .next t ∧
      t.basin id = some { b with closing := true, waitJobs := s.inFlight } ∧ t.flag R.XLAT_CMD F.XLAT_CMD_BUSY = true) ∧
    (s.seqsIn id ≠ [] → exec (.basinDestroy partner) s = .next (s.xlatFail 6))) ∧
  (∀ (basin : BitVec 10) (b : Basin) (s : State), s.basin basin.toNat = some b → b.destroyed = true → s.allDone b.waitJobs = true →
    ∃ t : State, exec (.basinUnitsFree basin) s = .next t ∧ t.basin basin.toNat = none ∧
      t.kv.blks = s.kv.blks.filter (fun x => !(x.2.elim false (fun y => y.basin == basin.toNat))) ∧
      t.kv.seqs = s.kv.seqs.filter (fun x => !(x.2.elim false (fun q => q.basin == basin.toNat))) ∧
      t.kv.gens = (s.kv.seqs.filter (fun x => x.2.elim false (fun q => q.basin == basin.toNat))).foldl
        (fun g x => Tbl.upd (fun _ => 0) g x.1 (fun n => (n + 1) % 2 ^ 14)) s.kv.gens) ∧
  (∀ (port : Fin 8) (w0 w1 : Word) (lines : List Byte) (dt : Nat) (s : State),
    let k := ptTotal w1.toNat
    let ep := pkEp w0.toNat
    let formed : Bool := pkClass w0.toNat == 4 && pkOp w0.toNat == 7 && pkLen16 w0.toNat == 4 && ptReserved w1.toNat == 0 && ptSeq w1.toNat == 0
      && lines.length == 64 * k && k ≤ 64
    let a := (s.takeSync port w0.toNat w1.toNat lines k).arrives port w0.toNat w1.toNat (lines.take 64) dt formed
    let u := a.1
    let r := syncReq ep (pkTxn w0.toNat) k lines
    let drives (t : Nat) : Bool := (u.tenantOf t).elim false (fun x => x.driver == ep)
    a.2 = true →
    (u.xlat.tenants.any (fun e => drives e.1) = false → exec (.tableSync port w0 w1 lines dt false) s = .next (u.answerSync ep r.tid r.tag .denied)) ∧
    (u.xlat.tenants.any (fun e => drives e.1) = true → u.contextOf r.asid = none →
      exec (.tableSync port w0 w1 lines dt false) s = .next (u.answerSync ep r.tid r.tag .context)) ∧
    (∀ t i, u.xlat.tenants.any (fun e => drives e.1) = true → u.contextOf r.asid = some t → drives t = true →
      let c := u.colour port t (u.epClass ep) k false
      let v := (c.1.putItem port t (c.1.epClass ep) k (2 * k) false (.sync r)).takeItem port false
      c.2 = .queued → c.1.portIdle port = true → v.2 = some i → exec (.tableSync port w0 w1 lines dt false) s = .next (v.1.runIngress [] i))) ∧
  (∀ (id : Nat) (i : Inv) (s : State), s.xlat.invs.find? (fun i => i.id == id) = some i →
    let u := ({ s with xlat := { s.xlat with invs := s.xlat.invs.filter (fun x => x.id != id) } } : State).bump R.XLAT_CNT_INVALIDATIONS
    let g := u.basinsGone
    let c : State := { g with xlat := { g.xlat with undo := {} } }
    let due := i.before.any s.stillDue || i.change.elim false (fun n => s.pair.mirror.any (fun w => w.id == n))
    (due = true → exec (.invalidationDone id) s = .next s) ∧
    (∀ ep tid tag asid, due = false → i.waiter = .sync ep tid tag asid → exec (.invalidationDone id) s = .next (u.answerSync ep tid tag .ok).pumpWork) ∧
    (due = false → i.waiter = .command →
      exec (.invalidationDone id) s = .next ((if i.stage = 2 then c.recordChange else c).xlatDone 0 u.xlat.cmdRes).pumpWork) ∧
    (due = false → i.waiter = .move → exec (.invalidationDone id) s = .next u.pumpWork) ∧
    exec (.invalidationSlow id) s = .next (s.setErr R.XLAT_ERR F.XLAT_ERR_INV_SLOW))

/-- TARGETED_SELF_TEST of a serving pseudo-channel with no test and no pause takes the first row in order of logging to STATE TESTING. SELF_TEST_HOLD_END of a first or second transient outcome makes it TRANSIENT and counts; of a miscompare it repairs the row: a soft repair of the bank when one is left, else a retirement row of a Pond's bank. SCRUB_READ, with background work on, of a valid line that decodes clean counts one scrubbed line, and a poison read where the line is poisoned; of a correctable one logs it and counts SCRUB_FIXED; of an uncorrectable one spoils the line and logs it. SCRUB_LATE sets SCRUB_LATE and starts the pass again. UE_REWRITE of a line that is not on a striped basin and is still not valid leaves it valid, poisoned, OWNED, HEAT 0, with its basin's tenant as tag, or 0; one that is on a striped basin is rebuilt from its stripe; one that a write has made good is left. READ_TRIPLE returns the value two good copies hold, or the one good copy, and repairs the others; with neither it raises TRIPLE_LOST. WRITE_TRIPLE stores all three copies. CELOG_CLEAR of a valid entry that is not TESTING empties it. -/
def Obligations.RowsAreTestedAndRepaired : Prop :=
(∀ (unit : Fin 396) (pc : Fin 2) (e : Nat) (s : State), s.chServes unit = true → ((s.chan unit).pc pc).paused = false → (s.chan unit).testOf pc = none →
    (s.chan unit).order.find? (fun e => s.celogValid unit e && pcOf (s.celogPa unit e) == pc.val) = some e →
    ∃ t : State, exec (.targetedSelfTest unit pc) s = .next t ∧ t.celogState unit e = 2 ∧ e ∉ (t.chan unit).order ∧
      (t.chan unit).testOf pc = some { pc := pc, bank := bankOf (s.celogPa unit e), row := rowOf (s.celogPa unit e), entry := e }) ∧
  (∀ (unit : Fin 396) (pc : Fin 2) (x : SeepTest) (s : State), (s.chan unit).testOf pc = some x → ((s.chan unit).pc pc).paused = false →
    let key := rowKey (s.celogPa unit x.entry)
    let c := s.chan unit
    let after (n : Nat) : State :=
      s.setChan unit { c with test := c.test.filter (fun y => y.pc != pc.val), transient := Tbl.set (fun _ => 0) c.transient key n }
    let n := Tbl.get (fun _ => 0) c.transient key
    (n + 1 < 3 → exec (.selfTestHoldEnd unit pc false) s = .next (((after (n + 1)).bump R.RAS_CNT_TEST_TRANSIENT).setCelogState unit x.entry 3)) ∧
    (3 ≤ n + 1 → exec (.selfTestHoldEnd unit pc false) s = .next (((after 0).bump R.RAS_CNT_TEST_TRANSIENT).repairRow unit x)) ∧
    exec (.selfTestHoldEnd unit pc true) s = .next ((after 0).repairRow unit x)) ∧
  (∀ (u : Nat) (x : SeepTest) (s : State), u < 396 → x.entry < 16 → let left := Tbl.get (fun _ => 0) (s.chan u).soft x.bank
    (0 < left → (s.repairRow u x).celogState u x.entry = 4 ∧ Tbl.get (fun _ => 0) ((s.repairRow u x).chan u).soft x.bank = left - 1) ∧
    (∀ d, left = 0 → u < 384 → (s.chan u).retireRow x.pc x.bank x.row = some d → (s.repairRow u x).celogState u x.entry = 5 ∧ (s.repairRow u x).chan u = d) ∧
    (left = 0 → 384 ≤ u → (s.repairRow u x).celogState u x.entry = 6 ∧ (s.repairRow u x).chan u = s.chan u)) ∧
  (∀ (pa : BitVec 48) (errors : List (Nat × Nat)) (u : Nat) (s : State), let la := pa.toNat / 64 * 64
    unitOf la = some u → s.flag R.RAS_CTRL F.RAS_CTRL_SCRUB_EN = true → s.chServes u = true → s.patrols u la = true → s.stewardUp (unitQuad u) = true →
    s.pwr.background = true →
    let t := ((s.updChan u (fun c => { c with patrol := (c.patrol + 1) % s.patrolLines u })).bump R.RAS_CNT_SCRUB_LINES).bump (chCnt u 0)
    ((t.pool.line la).valid = false → exec (.scrubRead pa errors) s = .next (t.logUE la)) ∧
    ((t.pool.line la).valid = true → t.decodeLine u la errors = .clean →
      exec (.scrubRead pa errors) s = .next (if (t.pool.line la).poison then t.bump R.RAS_CNT_POISON_READ else t)) ∧
    ((t.pool.line la).valid = true → t.decodeLine u la errors = .uncorrectable → exec (.scrubRead pa errors) s = .next ((t.spoilLine la).logUE la)) ∧
    (∀ k d, (t.pool.line la).valid = true → t.decodeLine u la errors = .corrected k d →
      exec (.scrubRead pa errors) s = .next (((t.logCE u la k d).bump R.RAS_CNT_SCRUB_FIXED).bump (chCnt u 1)))) ∧
  (∀ (unit : Fin 396) (s : State), s.flag R.RAS_CTRL F.RAS_CTRL_SCRUB_EN = true →
    exec (.scrubLate unit) s = .next ((s.updChan unit (fun c => { c with patrol := 0 })).setErr R.RAS_ERR F.RAS_ERR_SCRUB_LATE)) ∧
  (∀ (pa : BitVec 48) (u : Nat) (s : State), let la := pa.toNat / 64 * 64
    unitOf la = some u → s.ras.ueLines.contains (la / 64) = true → s.chServes u = true →
    ((s.pool.line la).valid = false → s.stripeOf la = none → ∃ t : State, exec (.ueRewrite pa) s = .next t ∧ t.ras.ueLines.contains (la / 64) = false ∧
      t.pool.line la = { s.pool.line la with poison := true, summary := 2, heat := 0, tag := ((s.basinAt la).map (·.2.tenant)).getD 0, valid := true }) ∧
    (∀ q b, (s.pool.line la).valid = false → s.stripeOf la = some q → s.basinAt la = some b →
      exec (.ueRewrite pa) s = .next (({ s with ras := { s.ras with ueLines := s.ras.ueLines.filter (· != la / 64) } } : State).rebuildLine la b.2.tenant)) ∧
    ((s.pool.line la).valid = true → exec (.ueRewrite pa) s =
      .next { s with ras := { s.ras with ueLines := s.ras.ueLines.filter (· != la / 64) } })) ∧
  (∀ (word : BitVec 22) (s : State), let c := s.loadCopies word.toNat
    (voteTriple c.2 = none → exec (.readTriple word) s = .next ((c.1.raiseAlarm .tripleLost).send (.result "READ_TRIPLE_LOST" [word.toNat]))) ∧
    (∀ v, voteTriple c.2 = some v → exec (.readTriple word) s = .next ((c.1.storeCopies word.toNat v
      ([0, 1, 2].filter (fun k => (c.2.drop k).head?.elim false (fun x => x.1 || x.2 != v)))).send (.result "READ_TRIPLE" (word.toNat :: v.map (·.toNat)))))) ∧
  (∀ (v w x : List Byte), voteTriple [(false, v), (false, v), (false, w)] = some v ∧ voteTriple [(false, v), (true, w), (false, v)] = some v ∧
    voteTriple [(true, v), (false, w), (true, x)] = some w ∧ voteTriple [(true, v), (true, w), (true, x)] = none ∧
    (v ≠ w → w ≠ x → v ≠ x → voteTriple [(false, v), (false, w), (false, x)] = none ∧ voteTriple [(false, v), (false, w), (true, x)] = none)) ∧
  (∀ (word : BitVec 22) (value : List Byte) (s : State), value.length = 64 →
    exec (.writeTriple word value) s = .next (s.storeCopies word.toNat value [0, 1, 2])) ∧
  (∀ (unit : Fin 396) (entry : Fin 16) (s : State), s.celogState unit entry ≠ 2 → s.celogValid unit entry = true →
    ∃ t : State, exec (.celogClear unit entry) s = .next t ∧ t.celogValid unit entry = false ∧ entry.val ∉ (t.chan unit).order ∧ t.celogState unit entry = 0)

/-- While no command runs: STACK_FAIL of a stack leaves every Pond of it faulted and answers OK, of a stack that does not exist BAD_ARG. REBUILD of a degraded stack with the spare free starts it; of one that is not degraded it answers BAD_ARG; while rebuild runs BUSY. EVACUATE of a populated channel runs its first pass, BUSY until it ends; of another answers BAD_ARG. HARD_REPAIR with every Pond of the stack disabled makes its soft repairs permanent; with an enabled one BAD_ARG. RETEST of a logged row that is not under test puts it in the order of tests. A command while BUSY changes nothing. REBUILD_UNIT, within the share of the bandwidth that PCT leaves it since the last management cycle, rebuilds the next stripe unit and passes WATERMARK over it; with none left the stack is rebuilt. -/
def Obligations.RasCommandsRun : Prop :=
(∀ (target : Fin 16) (ans : List SnoopAnswer) (s : State), s.rasBusy = true → exec (.stackFail target) s = .next s ∧ exec (.rebuild target) s = .next s ∧
    exec (.evacuate target ans) s = .next s ∧ exec (.hardRepair target) s = .next s ∧ exec (.retest target) s = .next s) ∧
  (∀ (target : Fin 16) (s : State), s.rasBusy = false →
    (target.val < 12 → ∃ t : State, exec (.stackFail target) s = .next t ∧ (∀ c, c < 32 → t.chFaulted (32 * target.val + c) = true) ∧
      t.get R.RAS_CMD F.RAS_CMD_STATUS = 0 ∧ t.get R.RAS_CMD F.RAS_CMD_TARGET = target.val ∧ (s.stackState target = 0 → t.stackState target = 1 ∨ t.stackState target = 2)) ∧
    (12 ≤ target.val → exec (.stackFail target) s = .next (s.rasStatus target 1))) ∧
  (∀ (target : Fin 16) (s : State), s.rasBusy = false →
    (s.flag R.RAS_REBUILD F.RAS_REBUILD_ACTIVE = true → exec (.rebuild target) s = .next (s.rasStatus target 2)) ∧
    (s.flag R.RAS_REBUILD F.RAS_REBUILD_ACTIVE = false → target.val < 12 → s.stackState target = 1 → s.spareFree = true →
      exec (.rebuild target) s = .next ((s.startRebuild target).rasStatus target 0)) ∧
    (s.flag R.RAS_REBUILD F.RAS_REBUILD_ACTIVE = false → target.val < 12 → s.stackState target ≠ 1 → exec (.rebuild target) s = .next (s.rasStatus target 1))) ∧
  (∀ (target : Fin 16) (ans : List SnoopAnswer) (s : State), s.rasBusy = false →
    (target.val < 12 → s.spillBytes target ≠ 0 → let t : State := { s with ras := { s.ras with evac := some target.val } }
      exec (.evacuate target ans) s = .next (((t.putFlag R.RAS_CMD F.RAS_CMD_BUSY true).put R.RAS_CMD F.RAS_CMD_TARGET target).evacPass ans)) ∧
    (s.spillBytes target = 0 → exec (.evacuate target ans) s = .next (s.rasStatus target 1))) ∧
  (∀ (target : Fin 16) (s : State), s.rasBusy = false → target.val < 12 →
    let on := (List.range 32).any (fun c => s.chEnabled (32 * target.val + c))
    (on = true → exec (.hardRepair target) s = .next (s.rasStatus target 1)) ∧
    (on = false → ∃ t : State, exec (.hardRepair target) s = .next t ∧ t.get R.RAS_CMD F.RAS_CMD_STATUS = 0 ∧
      ∀ r, r ∈ t.ras.repairs → r.unit / 32 = target.val → r.unit < 384 → r.spare = none → r.hard = true)) ∧
  (∀ (target : Fin 16) (u e : Nat) (s : State), s.rasBusy = false → let pa := s.get R.RAS_CMDARG F.RAS_CMDARG_PA / 64 * 64
    unitOf pa = some u → s.celogOf u pa = some e →
    (s.celogState u e ≠ 2 → exec (.retest target) s = .next ((s.awaitTest u e).rasStatus target 0)) ∧
    (s.celogState u e = 2 → exec (.retest target) s = .next (s.rasStatus target 0))) ∧
  (∀ s : State, s.flag R.RAS_REBUILD F.RAS_REBUILD_ACTIVE = true → s.rst.l2 = 0 → s.pwr.background = true → let f := s.get R.RAS_REBUILD F.RAS_REBUILD_STACK
    (∀ n, s.nextStripeUnit (s.watermark f) = some n → let moved := s.ras.rebuildBytes + s.rebuildCost f n
      100 * moved ≤ s.get R.RAS_REBUILD F.RAS_REBUILD_PCT * 2 ^ 25 → exec .rebuildUnit s =
      .next ((((List.range 64).foldl (fun (s : State) k => s.rebuildOne f n k) ({ s with ras := { s.ras with rebuildBytes := moved } } : State)).put (R.RAS_STACK f) F.RAS_STACK_WATERMARK (n + 1)).bump R.RAS_CNT_REBUILT_UNITS)) ∧
    (s.nextStripeUnit (s.watermark f) = none → exec .rebuildUnit s =
      .next (((s.putFlag R.RAS_REBUILD F.RAS_REBUILD_ACTIVE false).put (R.RAS_STACK f) F.RAS_STACK_STATE 3).setErr R.RAS_ERR F.RAS_ERR_REBUILD_DONE)))

/-- R442: a formed controller acts on the two paths as the table states. With both held, TWIN_PATH_LOST while the link is ACTIVE and a complete copy has come within MISS_LIMIT cycles, and RING_PATH_LOST while a heartbeat has come within RING_MISS cycles, change nothing: it stays FORMED. The ring path lost with the Twin path held: PAIR_ERR.RING_LOST is set, RING_OK falls, and there is no other action. The Twin path lost with the ring path held: it enters EXPOSED. Both lost, in either order: it fences, and then takes over: the state is FENCING, and once its fence is held FENCE_HELD takes over where AUTO_TAKEOVER is 1 or a TAKEOVER command waits, and TAKEOVER does else. -/
def Obligations.PathsOfAFormedPair : Prop :=
(∀ s : State, s.pairState = 2 →
    (s.linkActive 8 = true → s.pair.sinceCopy < s.get R.PAIR_CFG F.PAIR_CFG_MISS_LIMIT → exec .twinPathLost s = .next s) ∧
    ((s.seenOn s.mgmt.hb0 = true ∨ s.seenOn s.mgmt.hb1 = true) → exec .ringPathLost s = .next s)) ∧
  (∀ s : State, s.twinOk = true → s.pairState = 2 →
    (s.linkActive 8 = false ∨ s.get R.PAIR_CFG F.PAIR_CFG_MISS_LIMIT ≤ s.pair.sinceCopy) →
    let t := (s.setTwinOk false).setErr R.PAIR_ERR F.PAIR_ERR_TWIN_LOST
    (s.ringOk = true → exec .twinPathLost s = .next t.enterExposed) ∧ (s.ringOk = false → exec .twinPathLost s = .next (t.beginFence true))) ∧
  (∀ s : State, s.ringOk = true → s.pairState = 2 → s.seenOn s.mgmt.hb0 = false → s.seenOn s.mgmt.hb1 = false →
    let t := (s.setRingOk false).setErr R.PAIR_ERR F.PAIR_ERR_RING_LOST
    (s.twinOk = true → exec .ringPathLost s = .next t) ∧ (s.twinOk = false → exec .ringPathLost s = .next (t.beginFence true))) ∧
  (∀ s : State, ∃ t : State, s.enterExposed = t.ackLocally ∧ t.pairState = 3 ∧ t.flag R.PAIR_ERR F.PAIR_ERR_EXPOSED = true) ∧
  (∀ (delay : Bool) (s : State), (s.beginFence delay).pairState = 4) ∧
  (∀ s : State, s.pairState = 4 → s.rst.fenceLand = true →
    let t : State := { s with pair := { s.pair with fenceHeld := true } }
    (s.pair.fenceHeld = false → s.flag R.PAIR_CFG F.PAIR_CFG_AUTO_TAKEOVER = true → s.pairBusy = false → exec .fenceHeld s = .next t.takeover) ∧
    (s.pair.fenceHeld = false → s.pairBusy = true → exec .fenceHeld s = .next (t.takeover.pairStatus 0)) ∧
    (s.pair.fenceHeld = true → s.pairBusy = false → exec .takeover s = .next (s.takeover.pairStatus 0))) ∧
  (∀ s : State, s.takeover.pairState = 6)

/-- GOODBYE of a formed controller, its first, records the event, counts both paths lost and fences with no delay. Fencing is STATE 4: side 0, or either side with no delay, asserts PARTNER_RST_OUT_L at once; side 1 waits until FENCE_DELAY_EXPIRY. FENCE_HELD of an asserted fence notes it, and takes over when a command waits or AUTO_TAKEOVER is 1. TAKEOVER of a fencing controller whose fence has been held takes over; of one whose fence has not, it stays BUSY; in another state it completes with NOT_ALLOWED. A takeover leaves STATE at SURVIVOR. FENCE_RELEASE of an asserted land drives it high and completes with OK; with no fence asserted it completes with NOT_ALLOWED. -/
def Obligations.PairPathsAndFence : Prop :=
(∀ (body : List Byte) (s : State), s.pair.goodbye = false → s.pairState = 2 →
    ∃ t : State, exec (.goodbye body false) s = .next t ∧ t.pair.goodbye = true ∧ t.twinOk = false ∧ t.ringOk = false ∧ t.pairState = 4 ∧
      t.rst.fenceLand = true ∧ t.flag R.PAIR_STATUS F.PAIR_STATUS_FENCE_OUT = true) ∧
  (∀ (delay : Bool) (s : State), let t := s.setPairState 4
    s.beginFence delay = if delay && s.flag R.PAIR_STATUS F.PAIR_STATUS_SIDE then { t with pair := { t.pair with fenceWait := true } } else t.assertFence) ∧
  (∀ s : State, s.pair.fenceWait = true → exec .fenceDelayExpiry s = .next s.assertFence) ∧
  (∀ s : State, s.assertFence.rst.fenceLand = true ∧ s.assertFence.pair.fenceWait = false ∧ s.assertFence.flag R.PAIR_STATUS F.PAIR_STATUS_FENCE_OUT = true ∧
    s.assertFence.flag R.PAIR_ERR F.PAIR_ERR_FENCED = true) ∧
  (∀ s : State, s.pairState = 4 → s.rst.fenceLand = true → s.pair.fenceHeld = false →
    let t : State := { s with pair := { s.pair with fenceHeld := true } }
    exec .fenceHeld s = .next (if s.pairBusy then t.takeover.pairStatus 0 else if s.flag R.PAIR_CFG F.PAIR_CFG_AUTO_TAKEOVER then t.takeover else t)) ∧
  (∀ s : State, s.pairBusy = false →
    (s.pairState = 4 → s.pair.fenceHeld = true → exec .takeover s = .next (s.takeover.pairStatus 0)) ∧
    (s.pairState = 4 → s.pair.fenceHeld = false → exec .takeover s = .next (s.putFlag R.PAIR_CMD F.PAIR_CMD_BUSY true)) ∧
    (s.pairState ≠ 4 → exec .takeover s = .next (s.pairStatus 2))) ∧
  (∀ s : State, s.pairBusy = false →
    (s.rst.fenceLand = false → exec .fenceRelease s = .next (s.pairStatus 2)) ∧
    (s.rst.fenceLand = true → ∃ t : State, exec .fenceRelease s = .next t ∧ t.rst.fenceLand = false ∧ t.flag R.PAIR_STATUS F.PAIR_STATUS_FENCE_OUT = false ∧
      t.pair.fenceHeld = false ∧ t.get R.PAIR_CMD F.PAIR_CMD_STATUS = 0 ∧ t.pool = s.pool ∧ t.home = s.home ∧ t.kv = s.kv ∧ t.jobs = s.jobs))

/-- PARTNER_AUTH, once in an ACTIVE of the Twin link, marks the partner as tried; with no identity ready or DEBUG_LATCH set it fails with SEC_ERR.PARTNER_AUTH; where the identity can sign and the partner has verified this controller, its certificate and report are sent, and it is verified where the partner's pass, else PARTNER_AUTH is set. A partner's certificate that fails sets SEC_ERR.VERIFY_FAIL too. PAIR_FORM of a verified SOLO controller with a SOLO partner, no basins on either side and no clash of identities or keys, takes the partner's objects and leaves STATE at FORMED with TWIN_OK at 1; with a basin on either side or a clash it sets TWIN_LOST and stays SOLO; with a SURVIVOR it enters JOINING. ADMIT of a SURVIVOR with the link ACTIVE and the partner verified begins the copy and is BUSY where the partner answers OK; when the partner holds every line copied, the controller enters FORMED and the command completes with OK, and with a link lost meanwhile it completes with PARTNER_UNAVAILABLE (log entry 126); it completes with the partner's answer otherwise; in another state it completes with NOT_ALLOWED, with no link PARTNER_UNAVAILABLE. COPY_COMMIT of a newer copy applies it whole and shows its number in COPY_SEQ; the first copy that follows the full one takes a joining controller to FORMED; an older copy changes nothing. RESYNC_DONE of an EXPOSED controller with both paths held sends the marked units and returns it to FORMED. SWITCH_BACK of a controller that is not FORMED completes with NOT_ALLOWED; naming no taken-over basin it completes with BAD_ARG, or with OK for ALL; naming one, or for ALL with one, it is BUSY, marks those basins as moving, with the jobs in flight that they wait for (log entry 124), and begins to hand them over. -/
def Obligations.PairFormsAndSwitches : Prop :=
(∀ (cert block report sig nonce theirs : List Byte) (accepted : Bool) (s : State), s.linkActive 8 = true → s.pair.authTried = false →
    (s.secFlag F.SEC_STATUS_ID_READY = false ∨ s.secFlag F.SEC_STATUS_DEBUG_LATCH = true) →
    exec (.partnerAuth cert block report sig nonce theirs accepted) s =
      .next ((State.verifyImage { s with pair := { s.pair with authTried := true } } none cert block).1.setErr R.SEC_ERR F.SEC_ERR_PARTNER_AUTH)) ∧
  (∀ (cert block report sig nonce theirs : List Byte) (s : State), s.linkActive 8 = true → s.pair.authTried = false →
    s.secFlag F.SEC_STATUS_ID_READY = true → s.secFlag F.SEC_STATUS_DEBUG_LATCH = false →
    let u : State := { s with pair := { s.pair with authTried := true } }
    let body := u.reportBody none theirs
    let sent := State.sendTwin (u.signNext body).1 "AUTH" 5 [] (Config.certificate ++ body ++ (u.signNext body).2)
    exec (.partnerAuth cert block report sig nonce theirs true) s =
      .next (if u.partnerOk cert block report sig nonce then { sent with pair := { sent.pair with authed := true, partnerKek := (report.drop 256).take 1568 } }
             else (sent.verifyImage none cert block).1.setErr R.SEC_ERR F.SEC_ERR_PARTNER_AUTH)) ∧
  (∀ (partner : Fin 7) (basins : Bool) (objects : CopyMsg) (s : State), s.pairState = 0 → s.pair.authed = true → s.linkActive 8 = true →
    (partner = 0 → basins = false → s.basins = [] → s.clashes objects = false → ∃ t : State, exec (.pairForm partner basins objects) s = .next t ∧
      t.pairState = 2 ∧ t.twinOk = true ∧ t.pool = s.pool ∧ t.home = s.home ∧ t.kv = s.kv) ∧
    (partner = 0 → (basins = true ∨ s.basins ≠ [] ∨ s.clashes objects = true) →
      exec (.pairForm partner basins objects) s = .next (s.setErr R.PAIR_ERR F.PAIR_ERR_TWIN_LOST)) ∧
    (partner = 6 → exec (.pairForm partner basins objects) s = .next (s.setPairState 1))) ∧
  (∀ (answer : Fin 5) (shadow : List Nat) (s : State), s.pairBusy = false →
    (s.pairState ≠ 6 → exec (.admitPartner answer shadow) s = .next (s.pairStatus 2)) ∧
    (s.pairState = 6 → (s.linkActive 8 = false ∨ s.pair.authed = false) → exec (.admitPartner answer shadow) s = .next (s.pairStatus 3)) ∧
    (s.pairState = 6 → s.linkActive 8 = true → s.pair.authed = true → answer ≠ 0 → exec (.admitPartner answer shadow) s = .next (s.pairStatus answer)) ∧
    (s.pairState = 6 → s.linkActive 8 = true → s.pair.authed = true → answer = 0 → ∃ t : State, exec (.admitPartner answer shadow) s = .next t ∧
      t.pairBusy = true ∧ t.pair.admitting = some t.pair.nextMirror)) ∧
  (∀ (n : Nat) (s : State), s.pair.admitting = some n → let t : State := { s with pair := { s.pair with admitting := none } }
    (s.linkActive 8 = false → s.pumpAdmit = t.ackLocally.pairStatus 3) ∧
    (s.linkActive 8 = true → s.pair.mirror.any (fun w => w.id < n) = true → s.pumpAdmit = s) ∧
    (s.linkActive 8 = true → s.pair.mirror.any (fun w => w.id < n) = false → s.pumpAdmit = t.enterFormed.pairStatus 0 ∧
      s.pumpAdmit.pairState = 2 ∧ s.pumpAdmit.twinOk = true ∧ s.pumpAdmit.get R.PAIR_CMD F.PAIR_CMD_STATUS = 0)) ∧
  (∀ (m : CopyMsg) (s : State), s.linkActive 8 = true → s.pair.authed = true → s.pairState = 2 → s.pair.lastCopy.elim true (fun n => n < m.n) = true →
    ∃ t : State, exec (.copyCommit m) s = .next t ∧ t.pair.copy = m.rest ∧ t.pair.lastCopy = some m.n ∧ t.pair.sinceCopy = 0 ∧ t.pairState = 2 ∧ t.twinOk = true ∧
      t.get R.PAIR_STATUS F.PAIR_STATUS_COPY_SEQ = m.n % 2 ^ F.PAIR_STATUS_COPY_SEQ.w) ∧
  (∀ (m : CopyMsg) (s : State), s.linkActive 8 = true → s.pair.authed = true → s.pairState = 1 → m.full = true →
    s.pair.lastCopy.elim true (fun n => n < m.n) = true → ∃ t : State, exec (.copyCommit m) s = .next t ∧ t.pairState = 1 ∧ t.pair.copy = m.rest ∧ t.pair.lastCopy = some m.n) ∧
  (∀ (m : CopyMsg) (n : Nat) (s : State), s.linkActive 8 = true → s.pair.authed = true → s.pairState = 1 → m.full = false → s.pair.lastCopy = some n → n < m.n →
    ∃ t : State, exec (.copyCommit m) s = .next t ∧ t.pairState = 2 ∧ t.twinOk = true ∧ t.pair.copy = m.rest ∧ t.pair.lastCopy = some m.n) ∧
  (∀ (m : CopyMsg) (s : State) (n : Nat), s.pair.lastCopy = some n → m.n ≤ n → exec (.copyCommit m) s = .next s) ∧
  (∀ s : State, s.pairState = 3 → s.twinOk = true → s.ringOk = true →
    let t := s.pair.resync.foldl State.resyncUnit { s with pair := { s.pair with resync := [] } }
    exec .resyncDone s = .next ((t.setPairState 2).setErr R.PAIR_ERR F.PAIR_ERR_RESYNC_DONE)) ∧
  (∀ (basin : BitVec 10) (all : Bool) (ans : List SnoopAnswer) (s : State), s.pairBusy = false →
    let t := (s.put R.PAIR_CMD F.PAIR_CMD_BASIN basin.toNat).putFlag R.PAIR_CMD F.PAIR_CMD_ALL all
    let taken := (t.basins.filter (fun e => e.2.takenOver && !e.2.destroyed)).map (·.1)
    (s.pairState ≠ 2 → exec (.switchBack basin all ans) s = .next (t.pairStatus 2)) ∧
    (s.pairState = 2 → all = false → basin.toNat ∉ taken → exec (.switchBack basin all ans) s = .next (t.pairStatus 1)) ∧
    (s.pairState = 2 → all = true → taken = [] → exec (.switchBack basin all ans) s = .next (t.pairStatus 0)) ∧
    (∀ l, s.pairState = 2 → l = (if all then taken else taken.filter (· == basin.toNat)) → l ≠ [] →
      let u := l.foldl (fun s id => match s.basin id with | some b => s.setBasin id (some { b with moving := true, waitJobs := s.inFlight }) | none => s) t
      exec (.switchBack basin all ans) s =
        .next ((State.putFlag { u with pair := { u.pair with switching := l } } R.PAIR_CMD F.PAIR_CMD_BUSY true).pumpSwitch ans)))

/-- FEED_LOSS of a good feed while the other is good, outside the first window after power came (log entry 105), marks it lost, sets SINGLE, raises FEED_LOST, and throttles unless CAP_W is 1,050 W; inside that window it only shows the feed as absent. Throttling brings F to 8 or lower and stops background work. FEED_BOTH_LOST sends the goodbye notice and changes no other state but the two feed bits. FEED_RETURN leaves SINGLE as it is. RESTORE while both feeds have been present, with no VRM fault, for the preceding 1,000 samples, which the model counts as 100 ms, clears SINGLE; at any other time it sets FAIL and changes nothing else. PWR_SAMPLE always answers a next state that shows the sample's temperatures; one above the cap takes one tightening step where one is left, and CAP_MISSED is set where none is. A tightening step lowers F by 1 down to 8, then raises the operating point by 1 up to 3, then lowers F down to 1. THERMTRIP at the trip temperature, or of a stack, holds the controller and raises source 7; below it nothing happens. THERMTRIP_RELEASE below 100 °C ends the hold. VMON raises source 9, and for VPP_FUSE only during a pulse, which it ends. VMON_WARN sets PWR_ERR.VMON_WARN alone. -/
def Obligations.FeedsSamplesAndLimits : Prop :=
(∀ (b : Bool) (s : State), s.pwr.feedWindow = true →
    exec (.feedLoss b false) s = .next { s.putFlag R.PWR_FEED_STATUS (okFld b) false with pwr := { s.pwr with bothOk := 0 } }) ∧
  (∀ (b : Bool) (s : State), s.pwr.feedWindow = false → s.feedGood b = true → s.feedGood (!b) = true →
    let t := s.putFlag R.PWR_FEED_STATUS (okFld b) false
    let t : State := { t with pwr := { t.pwr with bothOk := 0 } }
    let u := (t.putFlag R.PWR_FEED_STATUS F.PWR_FEED_STATUS_SINGLE true).putFlag R.PWR_FEED_STATUS (lostFld b) true
    exec (.feedLoss b false) s = .next ((State.interruptIf t u 4).raiseAlarm .feedLost).throttle) ∧
  (∀ s : State, s.get R.PWR_FEED_CFG F.PWR_FEED_CFG_CAP_W ≠ 1050 → s.throttle.pwr.background = false ∧ issueF s.throttle.pwr.steps ≤ 8 ∧
    s.throttle.get R.PWR_STATUS F.PWR_STATUS_ISSUE_F ≤ 8) ∧
  (∀ s : State, s.get R.PWR_FEED_CFG F.PWR_FEED_CFG_CAP_W = 1050 → s.throttle = s) ∧
  (∀ s : State, let t := (s.putFlag R.PWR_FEED_STATUS F.PWR_FEED_STATUS_A_OK false).putFlag R.PWR_FEED_STATUS F.PWR_FEED_STATUS_B_OK false
    exec .feedBothLost s = .next (State.sendGoodbye { t with pwr := { t.pwr with bothOk := 0 } } 2 0 0)) ∧
  (∀ (b vrm : Bool) (s : State), ∃ t : State, exec (.feedReturn b vrm) s = .next t ∧
    t.get R.PWR_FEED_STATUS F.PWR_FEED_STATUS_SINGLE = s.get R.PWR_FEED_STATUS F.PWR_FEED_STATUS_SINGLE ∧
    t.flag R.PWR_FEED_STATUS (if vrm then vrmFld b else okFld b) = !vrm ∧ ∀ o, o ≠ R.PWR_FEED_STATUS → t.reg o = s.reg o) ∧
  (∀ s : State, s.feedGood false = true → s.feedGood true = true → 1000 ≤ s.pwr.bothOk → ∃ t : State, exec .restore s = .next t ∧
    t.flag R.PWR_FEED_STATUS F.PWR_FEED_STATUS_SINGLE = false ∧ t.pwr = s.pwr ∧ ∀ o, o ≠ R.PWR_FEED_STATUS → o ≠ R.PWR_FEED_CMD → t.reg o = s.reg o) ∧
  (∀ s : State, (s.feedGood false = false ∨ s.feedGood true = false ∨ s.pwr.bothOk < 1000) →
    exec .restore s = .next (s.putFlag R.PWR_FEED_CMD F.PWR_FEED_CMD_FAIL true)) ∧
  (∀ (power : Option (BitVec 12)) (tj tstk : BitVec 8) (ms : Bool) (s : State), ∃ t : State, exec (.pwrSample power tj tstk ms) s = .next t ∧
    t.get R.PWR_STATUS F.PWR_STATUS_TJ_MAX_C = tj.toNat ∧ t.get R.PWR_STATUS F.PWR_STATUS_TSTK_MAX_C = tstk.toNat ∧
    (∀ w, power = some w → s.capW < w.toNat → s.pwr.pmbusGood = 10 →
      (∀ l, s.tighten s.pwr.steps = some l → t.pwr.steps = l) ∧
      (s.tighten s.pwr.steps = none → t.pwr.steps = s.pwr.steps ∧ t.flag R.PWR_ERR F.PWR_ERR_CAP_MISSED = true))) ∧
  (∀ (l : List Bool) (s : State), s.pointOf l < 4 →
    (8 < issueF l → ∃ m, s.tighten l = some m ∧ issueF m + 1 = issueF l) ∧
    (issueF l ≤ 8 → s.pointOf l < 3 → ∃ m, s.tighten l = some m ∧ s.pointOf m = s.pointOf l + 1 ∧ issueF m = issueF l) ∧
    (issueF l ≤ 8 → s.pointOf l = 3 → 1 < issueF l → ∃ m, s.tighten l = some m ∧ issueF m + 1 = issueF l) ∧
    (issueF l ≤ 1 → s.pointOf l = 3 → s.tighten l = none)) ∧
  (∀ (tj : BitVec 8) (stack : Bool) (s : State), let t : State := { s with rst := { s.rst with thermHold := true, tripLand := true } }
    ((s.get R.PWR_THERM F.PWR_THERM_TRIP_C ≤ tj.toNat ∨ stack = true) → exec (.thermtrip tj stack) s = .next ((t.send (.land "THERMTRIP_L" false)).raiseReset 7)) ∧
    (tj.toNat < s.get R.PWR_THERM F.PWR_THERM_TRIP_C → stack = false → exec (.thermtrip tj stack) s = .next s)) ∧
  (∀ (tj : BitVec 8) (s : State), s.rst.thermHold = true → tj.toNat < 100 →
    exec (.thermtripRelease tj) s = .next (State.send { s with rst := { s.rst with thermHold := false, tripLand := false } } (.land "THERMTRIP_L" true))) ∧
  (∀ s : State, exec (.vmon false) s = .next (s.raiseReset 9) ∧ (s.pulsing = true → exec (.vmon true) s = .next (s.abortPulse.raiseReset 9)) ∧
    (s.pulsing = false → exec (.vmon true) s = .next s ∧ exec (.vmonWarn true) s = .next s) ∧
    exec (.vmonWarn false) s = .next (s.setErr R.PWR_ERR F.PWR_ERR_VMON_WARN))

/-- SOURCE_STABLE of a source sets READY and clears FAILED, with SRC_RETURN when it had failed. SOURCE_STABLE of an island's PLL whose source has not failed marks it stable, and a stopped island resumes. REFCLK_FAIL of a PLL that an island depends on sets PLL_UNLOCK and stops the island, or moves the Wellhead or the security block to RING when WELL_AUTOFALL is 1 and RING is READY, with AUTOFALL. REFCLK_FAIL of a reference clears READY, sets FAILED and SRC_FAIL; a failure of MERE_A under TWIN_AUTOFALL with MERE_B READY moves the Twin link, as a retrain of rank 3. CLK_SEL_WRITE gives a field that names a source that is ready the value written, and sets SWITCH_REFUSED for one that names a source that is not, whose field keeps its value. VDD_AON_LOSS closes the Oxbow bypass and changes no register. -/
def Obligations.ClocksSwitchAndStop : Prop :=
(∀ (n : BitVec 10) (s : State), n.toNat < 5 → let t := (s.setReady n.toNat true).setFailed n.toNat false
    exec (.sourceStable false n) s = .next (if s.srcFailed n.toNat then t.setErr R.CLK_ERR F.CLK_ERR_SRC_RETURN else t)) ∧
  (∀ (n : BitVec 10) (s : State), n.toNat < 517 → s.srcFailed (s.clkSourceOf n.toNat) = false →
    ∃ t : State, exec (.sourceStable true n) s = .next t ∧ t.pllStable n.toNat = true ∧ t.islandStopped n.toNat = false) ∧
  (∀ (n : BitVec 10) (s : State), n.toNat < 516 → s.clkSourceOf n.toNat ≠ 4 →
    exec (.refclkFail true n) s = .next ((s.setErr R.CLK_ERR F.CLK_ERR_PLL_UNLOCK).failIsland n.toNat)) ∧
  (∀ (i : Nat) (s : State), s.pllStable i = true → (i ≠ wellIsland ∧ i ≠ secIsland ∨ s.flag R.CLK_CFG F.CLK_CFG_WELL_AUTOFALL = false ∨ s.srcReady 4 = false) →
    (s.failIsland i).islandStopped i = true ∧ (s.failIsland i).pllStable i = false) ∧
  (∀ s : State, s.pllStable wellIsland = true → s.flag R.CLK_CFG F.CLK_CFG_WELL_AUTOFALL = true → s.srcReady 4 = true →
    s.flag R.CLK_SEL F.CLK_SEL_WELL_SRC = false →
    (s.failIsland wellIsland).clkSourceOf wellIsland = 4 ∧ (s.failIsland wellIsland).islandStopped wellIsland = s.islandStopped wellIsland ∧
      (s.failIsland wellIsland).flag R.CLK_ERR F.CLK_ERR_AUTOFALL = true) ∧
  (∀ (n : BitVec 10) (s : State), n.toNat < 4 →
    let t := ((s.setReady n.toNat false).setFailed n.toNat true).setErr R.CLK_ERR F.CLK_ERR_SRC_FAIL (2 ^ n.toNat)
    let twin := n = 1 ∧ t.flag R.CLK_CFG F.CLK_CFG_TWIN_AUTOFALL = true ∧ t.srcReady 2 = true ∧ t.flag R.CLK_SEL F.CLK_SEL_TWIN_SRC = false
    let fail (s : State) : State := (List.range 516).foldl (fun s k => if s.clkSourceOf k = n.toNat then s.failIsland k else s) s
    (twin → exec (.refclkFail false n) s =
      .next (fail (((t.putFlag R.CLK_SEL F.CLK_SEL_TWIN_SRC true).setErr R.CLK_ERR F.CLK_ERR_AUTOFALL).startRetrain 8 3 false))) ∧
    (¬ twin → exec (.refclkFail false n) s = .next (fail t))) ∧
  (∀ (value : BitVec 3) (s : State), ∃ t : State, exec (.clkSelWrite value) s = .next t ∧
    (∀ b, b < 2 → let island := if b = 0 then wellIsland else secIsland
      let f := if b = 0 then F.CLK_SEL_WELL_SRC else F.CLK_SEL_SEC_SRC
      let ready := if value.getLsbD b then s.srcReady 4 else s.srcReady 0 && s.pllStable island
      t.flag R.CLK_SEL f = (if ready then value.getLsbD b else s.flag R.CLK_SEL f) ∧ (ready = false → t.flag R.CLK_ERR F.CLK_ERR_SWITCH_REFUSED = true)) ∧
    (let ready := s.srcReady (if value.getLsbD 2 then 2 else 1)
     t.flag R.CLK_SEL F.CLK_SEL_TWIN_SRC = (if ready then value.getLsbD 2 else s.flag R.CLK_SEL F.CLK_SEL_TWIN_SRC) ∧
       (ready = false → t.flag R.CLK_ERR F.CLK_ERR_SWITCH_REFUSED = true))) ∧
  (∀ s : State, ∃ t : State, exec .vddAonLoss s = .next t ∧ t.bypassOpen = false ∧ t.regs = s.regs ∧ t.pool = s.pool ∧ t.home = s.home ∧ t.kv = s.kv ∧ t.jobs = s.jobs)

/-- With the security block's clock running: IMPORT applies the checks in order, a buffer outside the mailbox area counting as unreadable, and stops at the first that fails with its status, changing beside the counters, SEC_ERR and SEC_KCMD only what reading the buffer changes; a blob that passes fills the slot with the key and raises its GEN by 1. ERASE of a tenant slot whose tenant does not exist, or with FORCE, empties it and raises GEN, BUSY while the partner has not the change yet; otherwise it completes with IN_USE; of a system slot with BAD_ARG. QUERY shows the slot's state and GEN. REPORT without a debug latch: EXHAUSTED, STATE_BAD or BAD_ARG in that order; while no chunk is reserved it stays BUSY; else it signs with the next index, raises it by 1, and completes with OK. With DEBUG_LATCH it completes with LOCKED. EXTEND sets CONFIG_MEAS to the hash of its old value and SEC_MEXT_DATA and adds 1 to EXTENDS. COMMIT raises the SVN fuses to the running image's SVN, and changes nothing when they are there. RESERVE_CHUNK burns the next chunk fuse and makes its indices ready; with the flash record ahead of the fuses, or a fuse that does not read 1, it sets ID_STATE_BAD; with all 2,048 burned ID_EXHAUSTED. DBG_REQ sets DEBUG_REFUSED unless the fuse and DBG_ALLOW permit it, and else sets DEBUG_LATCH and closes every Inlet. DEBUG_ZEROISE after it empties every slot and the KEK, and sets DEBUG_OPEN. -/
def Obligations.KeysIdentityAndDebug : Prop :=
(∀ (slot : BitVec 9) (partner : Option (BitVec 32)) (s : State), s.flag R.SEC_KCMD F.SEC_KCMD_BUSY = false → s.islandStopped secIsland = false →
    let rd := if inMailbox (s.get R.SEC_KARG F.SEC_KARG_BUF) 1664 then s.readMail (s.get R.SEC_KARG F.SEC_KARG_BUF) 1664 else (s, false, [])
    let n := slot.toNat
    (∀ st, rd.1.importCheck n partner.isSome rd.2.1 rd.2.2 = .error st →
      exec (.importKey slot partner) s = .next (((rd.1.bump R.SEC_CNT_IMPORT_FAIL).setErr R.SEC_ERR F.SEC_ERR_IMPORT_FAIL).keyStatus n st)) ∧
    (∀ k, rd.1.importCheck n partner.isSome rd.2.1 rd.2.2 = .ok k →
      let u := if rd.1.formed then rd.1.sendKey n (partner.elim 0 (·.toNat)) k else rd.1
      exec (.importKey slot partner) s =
        .next ((((u.setSlot n { full := true, gen := ((u.slot n).gen + 1) % 2 ^ 32, key := k }).writeMail (s.get R.SEC_KARG F.SEC_KARG_BUF) (zeros 1664)).bump
          R.SEC_CNT_IMPORTS).keyStatus n 0))) ∧
  (∀ (n : Nat) (partner readable : Bool) (b : List Byte) (s : State), let field (o k : Nat) : Nat := leNat ((b.drop o).take k)
    let latched := s.secFlag F.SEC_STATUS_DEBUG_LATCH = true
    let shaped := readable = true ∧ n < 256 ∧ field 0 4 = 0x59504B57 ∧ field 4 2 = n ∧ field 6 2 = 0 ∧ field 20 4 = 0
    let fresh := field 8 8 = s.shadow.chip % 2 ^ 56 ∧ field 16 4 = (s.slot n).gen
    (latched → s.importCheck n partner readable b = .error 6) ∧
    (¬ latched → ¬ shaped → s.importCheck n partner readable b = .error 1) ∧
    (¬ latched → shaped → (s.slot n).full = true → s.importCheck n partner readable b = .error 4) ∧
    (¬ latched → shaped → (s.slot n).full = false → ¬ fresh → s.importCheck n partner readable b = .error 3) ∧
    (¬ latched → shaped → (s.slot n).full = false → fresh → s.unwrapBlob b = none → s.importCheck n partner readable b = .error 2) ∧
    (∀ k, ¬ latched → shaped → (s.slot n).full = false → fresh → s.unwrapBlob b = some k → s.importCheck n partner readable b =
      (if k.take 32 = k.drop 32 then .error 2 else if s.formed = true ∧ partner = false then .error 7 else .ok k))) ∧
  (∀ (slot : BitVec 9) (force : Bool) (s : State), s.flag R.SEC_KCMD F.SEC_KCMD_BUSY = false → s.islandStopped secIsland = false → let n := slot.toNat
    (256 ≤ n → exec (.erase slot force) s = .next ((s.putFlag R.SEC_KCMD F.SEC_KCMD_FORCE force).keyStatus n 1)) ∧
    (n < 256 → (s.tenantOf n).isSome = true → force = false → exec (.erase slot force) s = .next ((s.putFlag R.SEC_KCMD F.SEC_KCMD_FORCE force).keyStatus n 5)) ∧
    (n < 256 → ((s.tenantOf n).isSome = false ∨ force = true) → ∃ t : State, exec (.erase slot force) s = .next t ∧
      t.slot n = { full := false, gen := ((s.slot n).gen + 1) % 2 ^ 32, key := [] } ∧ (∀ k, k ≠ n → t.slot k = s.slot k) ∧ t.pool = s.pool ∧
      t.get R.SEC_KCMD F.SEC_KCMD_STATUS = 0)) ∧
  (∀ (slot : BitVec 9) (s : State), s.flag R.SEC_KCMD F.SEC_KCMD_BUSY = false → s.islandStopped secIsland = false → slot.toNat < 256 →
    exec (.query slot) s = .next (((s.putFlag R.SEC_KSTAT F.SEC_KSTAT_STATE (s.slot slot.toNat).full).put R.SEC_KSTAT F.SEC_KSTAT_GEN
      (s.slot slot.toNat).gen).keyStatus slot.toNat 0)) ∧
  (∀ (scope : Bool) (tenant : BitVec 8) (s : State), s.flag R.SEC_ACMD F.SEC_ACMD_BUSY = false → s.islandStopped secIsland = false →
    let t := (s.putFlag R.SEC_ACMD F.SEC_ACMD_SCOPE scope).put R.SEC_ACMD F.SEC_ACMD_TENANT tenant.toNat
    let done := t.putFlag R.SEC_ACMD F.SEC_ACMD_BUSY false
    let of := if scope then some tenant.toNat else none
    let buf := s.get R.SEC_AARG F.SEC_AARG_BUF
    let fits := inMailbox buf (1824 + 80 * (t.imageEntries of).length + 9893) = true
    let latched := s.secFlag F.SEC_STATUS_DEBUG_LATCH = true
    let spent := s.secFlag F.SEC_STATUS_ID_EXHAUSTED = true
    let bad := s.secFlag F.SEC_STATUS_ID_STATE_BAD = true
    let ready := s.secFlag F.SEC_STATUS_ID_READY = true
    (latched → exec (.report scope tenant) s = .next (done.reportStatus 0 2)) ∧
    (¬ latched → spent → exec (.report scope tenant) s = .next (done.reportStatus 0 3)) ∧
    (¬ latched → ¬ spent → bad → exec (.report scope tenant) s = .next (done.reportStatus 0 4)) ∧
    (¬ latched → ¬ spent → ¬ bad → ¬ fits → exec (.report scope tenant) s = .next (done.reportStatus 0 1)) ∧
    (¬ latched → ¬ spent → ¬ bad → fits → ¬ ready → exec (.report scope tenant) s = .next (t.putFlag R.SEC_ACMD F.SEC_ACMD_BUSY true)) ∧
    (¬ latched → ¬ spent → ¬ bad → fits → ready →
      let rd := done.readMail buf 32
      let body := rd.1.reportBody of rd.2.2
      let sg := rd.1.signNext body
      exec (.report scope tenant) s = .next ((sg.1.writeMail buf (body ++ sg.2)).reportStatus (body ++ sg.2).length 0))) ∧
  (∀ (msg : List Byte) (s : State), (s.signNext msg).2 = padTo 9893 (Config.sign s.sec.next msg) ∧ (s.signNext msg).1.sec.next = s.sec.next + 1) ∧
  (∀ s : State, let t := s.setMeas R.SEC_CONFIG_MEAS (padTo 32 (Config.shake256 (s.meas R.SEC_CONFIG_MEAS ++ s.meas R.SEC_MEXT_DATA) 32))
    exec .extend s = .next (t.put R.SEC_MEXT_CMD F.SEC_MEXT_CMD_EXTENDS (s.get R.SEC_MEXT_CMD F.SEC_MEXT_CMD_EXTENDS + 1))) ∧
  (∀ (burned hold : Bool) (s : State), let v := s.get R.SEC_SVN F.SEC_SVN_RUN_SVN
    (v ≤ s.fuses.svn → exec (.commit burned hold) s = .next s) ∧
    (s.fuses.svn < v → exec (.commit false hold) s = .next s.idBad) ∧
    (s.fuses.svn < v → ∃ t : State, exec (.commit true hold) s = .next t ∧ t.fuses = { s.fuses with svn := v } ∧
      t.get R.SEC_STATUS F.SEC_STATUS_SVN_FUSED = v % 2 ^ 7 ∧ t.flash = s.flash)) ∧
  (∀ (reads1 hold : Bool) (s : State), s.secFlag F.SEC_STATUS_ID_READY = false → s.secFlag F.SEC_STATUS_DEBUG_LATCH = false →
    s.secFlag F.SEC_STATUS_ID_STATE_BAD = false → s.rst.burning = false → s.rst.booted = true → s.islandStopped secIsland = false → s.flag R.SEC_ACMD F.SEC_ACMD_BUSY = false →
    let k := s.fuses.chunks
    let behind := s.flash.idState.elim false (fun r => k ≤ r.1) = true
    (behind → exec (.reserveChunk reads1 hold) s = .next s.idBad) ∧
    (¬ behind → 2048 ≤ k → exec (.reserveChunk reads1 hold) s =
      .next ((s.putFlag R.SEC_STATUS F.SEC_STATUS_ID_EXHAUSTED true).setErr R.SEC_ERR F.SEC_ERR_ID_EXHAUSTED)) ∧
    (¬ behind → k < 2048 → exec (.reserveChunk false hold) s = .next s.idBad) ∧
    (¬ behind → k < 2048 → ∃ t : State, exec (.reserveChunk true false) s = .next t ∧ t.fuses.chunks = k + 1 ∧ t.sec.next = k * 2 ^ 20 ∧
      t.sec.limit = (k + 1) * 2 ^ 20 ∧ t.flash.idState = some (k, k * 2 ^ 20 + 1024) ∧ t.secFlag F.SEC_STATUS_ID_READY = true) ∧
    (¬ behind → k < 2048 → ∃ t : State, exec (.reserveChunk true true) s = .next t ∧ t.fuses.chunks = k + 1 ∧ t.rst.burning = true ∧
      t.sec.burning = some k ∧ t.flash = s.flash)) ∧
  (∀ s : State,
    (¬ (s.secFlag F.SEC_STATUS_DBG_FUSE = true ∧ s.flag R.SEC_CTRL F.SEC_CTRL_DBG_ALLOW = true) →
      exec .dbgReq s = .next (s.setErr R.SEC_ERR F.SEC_ERR_DEBUG_REFUSED)) ∧
    (s.secFlag F.SEC_STATUS_DBG_FUSE = true → s.flag R.SEC_CTRL F.SEC_CTRL_DBG_ALLOW = true → s.sec.opening = 0 → ∃ t : State, exec .dbgReq s = .next t ∧
      t.secFlag F.SEC_STATUS_DEBUG_LATCH = true ∧ t.sec.opening = 1 ∧ ∀ i : Nat, (t.inlet i).enable = false)) ∧
  (∀ s : State, s.sec.opening = 1 → ∃ t : State, exec .debugZeroise s = .next t ∧ (∀ k, k < 264 → t.slotFull k = false ∧ (t.slot k).key = []) ∧
    t.sec.kek = 0 ∧ t.sec.seeds = false ∧ t.pair.partnerKek = [] ∧ t.secFlag F.SEC_STATUS_KEK_VALID = false ∧
    t.flag R.SEC_STATUS F.SEC_STATUS_DEBUG_OPEN = true ∧ t.sec.opening = 2 ∧ t.pool = s.pool)

/-- Each source's command records its bit of RST_CAUSE and requests the level its map entry gives: PWRON level 0, SW_CHIP, THERMTRIP and VMON level 1, SW_DATA level 2, the others as RST_LEVELMAP says, 3 for record only. A request of a level that a reset in progress already covers only records its bit; while a fuse pulse or a page program is driven it is held, the most severe kept; else the reset is taken, and RST_LAST shows its level and source; a data-plane reset as it begins leaves memory, tables and the key-value store alone and clears ENABLE of every Tarn. A chip reset leaves memory, the directory, jobs and tables at their reset values and keeps RST_CAUSE, the fuses, the fuse shadow, the flash, DEBUG_LATCH and DEBUG_OPEN, and the commands that wait. RST_SWRESET without the confirm code does nothing. PERST resets the PCI Express interface whatever its entry. The watchdog's expiry raises source 3 while it runs; KICK restarts its count. CLKFAIL raises source 8 where its reference has failed, DEBUG_RESET source 11 while DEBUG_OPEN is 1. RESET_HOLD_END takes the request held. An input that deasserts stops holding. FUSE_LOAD_DONE loads the fuse shadow. -/
def Obligations.ResetSourcesAndLevels : Prop :=
(∀ (src : Nat) (level : Option Nat) (s : State), let t := s.recordCause src
    (level = none → s.raiseAt src level = t) ∧
    (∀ l, level = some l → t.rst.active.any (fun a => a.1 ≤ l) = true → s.raiseAt src level = t) ∧
    (∀ l, level = some l → t.rst.active.any (fun a => a.1 ≤ l) = false → t.rst.burning = false → s.raiseAt src level = t.takeReset l src) ∧
    (∀ l, level = some l → t.rst.active.any (fun a => a.1 ≤ l) = false → t.rst.burning = true →
      let kept := match t.rst.heldReset with | some h => if l < h.1 then (l, src) else h | none => (l, src)
      (s.raiseAt src level).rst.heldReset = some kept ∧ (s.raiseAt src level).pool = s.pool)) ∧
  (∀ (src : Nat) (s : State), src < 12 → (s.recordCause src).get R.RST_CAUSE F.RST_CAUSE_CAUSE = (s.get R.RST_CAUSE F.RST_CAUSE_CAUSE ||| 2 ^ src) ∧
    ∀ o, o ≠ R.RST_CAUSE → (s.recordCause src).reg o = s.reg o) ∧
  (∀ s : State, s.levelFor 0 = some 0 ∧ (∀ v, s.reg R.RST_LEVELMAP = BitVec.ofNat 64 (fixedMap v) →
    s.levelFor 4 = some 1 ∧ s.levelFor 5 = some 2 ∧ s.levelFor 7 = some 1 ∧ s.levelFor 9 = some 1)) ∧
  (∀ (l src : Nat) (s : State), l ≤ 2 → src < 12 → let t := s.takeReset l src
    t.get R.RST_LAST F.RST_LAST_LEVEL = l ∧ t.get R.RST_LAST F.RST_LAST_SOURCE = src ∧ t.rst.active = some (l, src) ∧ t.rst.l2 = (if l = 2 then 1 else 0) ∧
    t.get R.RST_CAUSE F.RST_CAUSE_CAUSE = s.get R.RST_CAUSE F.RST_CAUSE_CAUSE ∧ t.fuses = s.fuses ∧ t.flash = s.flash ∧ t.pending = s.pending ∧
    (l = 2 → t.pool = s.pool ∧ t.xlat = s.xlat ∧ t.kv = s.kv ∧ t.shadow = s.shadow ∧ ∀ n, n < 100 → t.flag (R.TARN_CTRL n) F.TARN_CTRL_ENABLE = false)) ∧
  (∀ s : State, let t := s.chipReset
    t.pool = State.reset.pool ∧ t.home = State.reset.home ∧ t.jobs = State.reset.jobs ∧ t.kv = State.reset.kv ∧ t.xlat = State.reset.xlat ∧
    t.mgmt = State.reset.mgmt ∧ t.shadow = s.shadow ∧ t.fuses = s.fuses ∧ t.flash = s.flash ∧ t.reg R.RST_CAUSE = s.reg R.RST_CAUSE ∧
    t.reg R.RST_DELAY = s.reg R.RST_DELAY ∧ t.reg R.PWR_FEED_STATUS = s.reg R.PWR_FEED_STATUS ∧
    t.flag R.SEC_STATUS F.SEC_STATUS_DEBUG_LATCH = s.flag R.SEC_STATUS F.SEC_STATUS_DEBUG_LATCH ∧
    t.flag R.SEC_STATUS F.SEC_STATUS_DEBUG_OPEN = s.flag R.SEC_STATUS F.SEC_STATUS_DEBUG_OPEN ∧ t.phase = 0 ∧ (∀ i, t.core i = State.reset.core i)) ∧
  (∀ s : State, let r := s.rst
    exec (.pwron false) s = .next (State.raiseReset { s with rst := { r with pwronIn := true } } 0) ∧
    (∃ t : State, exec (.pwron true) s = .next t ∧ t.pool = State.reset.pool ∧ t.regs = State.reset.regs ∧ t.fuses = s.fuses ∧ t.flash = s.flash ∧
      t.rst.fused = State.reset.rst.fused ∧ t.pending = s.pending) ∧
    exec .resetL s = .next (State.raiseReset { s with rst := { r with resetIn := true } } 1) ∧
    exec .perst s = .next (State.raiseReset (State.resetPcie { s with rst := { r with perstIn := true } }) 2) ∧
    s.resetPcie.rst.pcie = false ∧ s.resetPcie.pool = s.pool ∧
    (∀ o, s.resetPcie.reg o = if R.GLOB_BASE + 0x8000 ≤ o ∧ o < R.GLOB_BASE + 0x9008 then State.reset.reg o else s.reg o) ∧
    exec .partnerResetIn s = .next (State.raiseReset { s with rst := { r with partnerIn := true } } 6)) ∧
  (∀ (confirm : BitVec 8) (s : State),
    (confirm = 0x5A → exec (.swChip confirm) s = .next (s.raiseReset 4) ∧ exec (.swData confirm) s = .next (s.raiseReset 5)) ∧
    (confirm ≠ 0x5A → exec (.swChip confirm) s = .next s ∧ exec (.swData confirm) s = .next s)) ∧
  (∀ s : State,
    (s.rst.wdog = true → s.flag R.RST_WDOG F.RST_WDOG_ENABLE = true →
      exec .watchdogExpiry s = .next ((s.put R.RST_WDOG F.RST_WDOG_REMAIN_MS 0).raiseReset 3)) ∧
    (s.flag R.RST_WDOG F.RST_WDOG_ENABLE = false → exec .watchdogExpiry s = .next s) ∧
    (s.rst.wdog = true → ∃ t : State, exec .kick s = .next t ∧
      t.get R.RST_WDOG F.RST_WDOG_REMAIN_MS = s.get R.RST_WDOG F.RST_WDOG_TIMEOUT_MS % 2 ^ F.RST_WDOG_REMAIN_MS.w ∧ ∀ o, o ≠ R.RST_WDOG → t.reg o = s.reg o) ∧
    (∀ source : Fin 4, bitOf (s.get R.CLK_SRCSTAT F.CLK_SRCSTAT_FAILED) source = true → exec (.clkfail source) s = .next (s.raiseReset 8)) ∧
    (s.flag R.SEC_STATUS F.SEC_STATUS_DEBUG_OPEN = true → exec .debugReset s = .next (s.raiseReset 11)) ∧
    (s.flag R.SEC_STATUS F.SEC_STATUS_DEBUG_OPEN = false → exec .debugReset s = .next s)) ∧
  (∀ (us : BitVec 32) (l src : Nat) (s : State), s.rst.burning = true → s.rst.heldReset = some (l, src) → l ≤ 2 → src < 12 →
    ∃ t : State, exec (.resetHoldEnd us) s = .next t ∧ t.rst.active = some (l, src) ∧ t.get R.RST_LAST F.RST_LAST_SOURCE = src ∧
      (l ≤ 1 → t.flash = s.flash ∧ t.rst.heldReset = none ∧ t.rst.burning = false)) ∧
  (∀ (us : BitVec 32) (s : State), s.rst.burning = true → s.rst.heldReset = none → s.sec.burning = none → exec (.resetHoldEnd us) s =
    .next { s with rst := { s.rst with burning := false, heldReset := none }, sec := { s.sec with pulseSvn := false } }) ∧
  (∀ (input : Fin 4) (s : State), ∃ t : State, exec (.resetInputDeassert input) s = .next t ∧ t.regs = s.regs ∧ t.pool = s.pool ∧
    t.rst.pwronIn = (s.rst.pwronIn && input != 0) ∧ t.rst.resetIn = (s.rst.resetIn && input != 1) ∧ t.rst.perstIn = (s.rst.perstIn && input != 2) ∧
    t.rst.partnerIn = (s.rst.partnerIn && input != 3)) ∧
  (∀ s : State, s.rst.fused = false → ∃ t : State, exec .fuseLoadDone s = .next t ∧ t.shadow = s.fuses ∧ t.rst.fused = true ∧ t.pool = s.pool ∧
    t.reg R.RST_LEVELMAP = BitVec.ofNat 64 (fixedMap s.fuses.levelMap) ∧
    (∀ k, k < 31 → Tbl.get (fun _ => 0) t.rst.lands k = Tbl.get walsynLand s.fuses.lands k))

/-- While a data-plane reset quiesces, L2_RESET acknowledges the mirror queue, answers what the homes hold, demotes every directory entry, and stops the data plane; L2_QUIESCE_TIMEOUT answers what the homes hold, forgets every directory entry, noting their lines for the recall that follows (log entry 129), sets STRICT_TEST and L2_FORCED, and stops the data plane regardless. L2_RESET_RESUME after either ends the reset, begins the fills of new basins that wait (log entry 102), completes the jobs that wait with JOB_RESET, loads the Tarns' images, trains the links, and lets requests in, for every unit in no reset of its own. A stopped data plane leaves no mesh transaction; a Tarn held in reset has ENABLE at 0 and no program. ENTER of a free unit closes it and holds it; LEAVE of a held unit releases it, and its wrapper answers until UNIT_READY; PULSE of a free unit does both. ENTER and PULSE of a held unit and LEAVE of one that is not held complete with ALREADY, an index that does not exist with BAD_ARG, and every one during a reset with NOT_ALLOWED. UNIT_READY of a unit that has been released opens it, and what waited on it at the homes goes on. -/
def Obligations.DataPlaneAndUnitResets : Prop :=
(∀ s : State, s.rst.l2 = 1 → let t := s.ackMirror.answerHomes
    exec .l2Reset s = .next (t.home.entries.foldl (fun s e => s.demote (64 * e.1)) t).stopData) ∧
  (∀ s : State, s.rst.l2 = 1 → let t := s.answerHomes
    let u : State := { t with home := { t.home with entries := [], forced := some (t.home.entries.map (fun e => 64 * e.1)) } }
    exec .l2QuiesceTimeout s = .next ((u.putFlag R.DIR_CTRL F.DIR_CTRL_STRICT_TEST true).putFlag R.RST_LAST F.RST_LAST_L2_FORCED true).stopData) ∧
  (∀ s : State, s.stopData.rst.l2 = 2 ∧ s.stopData.mesh.txns = []) ∧
  (∀ s : State, s.rst.l2 = 2 →
    let t : State := { s with rst := { s.rst with l2 := 0, active := none } }
    let t := (List.range 396).foldl (fun s u => if s.inL3 (chUnitKey u) then s else s.startBasinFill u) t
    let t := t.finishReset (fun j => !t.inL3 (unitKey 2 (t.inlet j.inlet).port))
    let t := (List.range 100).foldl (fun s k => if s.inL3 (unitKey 0 k) then s else s.reloadTarn k) t
    let t := (List.range 9).foldl (fun s n => if s.inL3 (unitKey 2 n) then s else s.releaseLink n) t
    exec .l2ResetResume s = .next ((List.range 9).foldl (fun s e => s.topUpAll e) t)) ∧
  (∀ (kind : Fin 4) (index : BitVec 9) (s : State), s.flag R.RST_UNIT F.RST_UNIT_BUSY = false → let i := index.toNat
    let t := (s.put R.RST_UNIT F.RST_UNIT_KIND kind).put R.RST_UNIT F.RST_UNIT_INDEX i
    let free := i < unitCount kind ∧ s.rst.active = none
    (free → s.unitHeld kind i = false → exec (.enter kind index) s = .next (((t.setUnit kind i 1).closeUnit kind i).unitStatus 0)) ∧
    (free → s.unitHeld kind i = true → exec (.leave kind index) s = .next ((t.setUnit kind i 2).unitStatus 0)) ∧
    (free → s.unitHeld kind i = false → exec (.pulse kind index) s = .next (((t.setUnit kind i 2).closeUnit kind i).unitStatus 0)) ∧
    (free → s.unitHeld kind i = true → exec (.enter kind index) s = .next (t.unitStatus 3) ∧ exec (.pulse kind index) s = .next (t.unitStatus 3)) ∧
    (free → s.unitHeld kind i = false → exec (.leave kind index) s = .next (t.unitStatus 3)) ∧
    (unitCount kind ≤ i → exec (.enter kind index) s = .next (t.unitStatus 1) ∧ exec (.leave kind index) s = .next (t.unitStatus 1) ∧
      exec (.pulse kind index) s = .next (t.unitStatus 1)) ∧
    (i < unitCount kind → s.rst.active ≠ none → exec (.enter kind index) s = .next (t.unitStatus 2) ∧ exec (.leave kind index) s = .next (t.unitStatus 2) ∧
      exec (.pulse kind index) s = .next (t.unitStatus 2))) ∧
  (∀ (kind : Fin 4) (index : BitVec 9) (s : State), Tbl.get (fun _ => 0) s.rst.units (unitKey kind index.toNat) = 2 →
    exec (.unitReady kind index) s = .next ((s.setUnit kind index.toNat 0).openUnit kind index.toNat).pumpAll) ∧
  (∀ (kind : Fin 4) (i v : Nat) (s : State), (s.setUnit kind i v).inL3 (unitKey kind i) = (v != 0)) ∧
  (∀ (t : Nat) (s : State), (s.holdTarn t).flag (R.TARN_CTRL t) F.TARN_CTRL_ENABLE = false ∧
    (s.holdTarn t).tarn t = { ({} : Tarn) with back := true, testing := (s.tarn t).testing, broken := (s.tarn t).broken } ∧ (s.holdTarn t).tarnState t = (if s.tarnFaulted t then 3 else 0))

/-- A function level reset clears MBX_EN and discards unread records. CMD_TAIL_WRITE refuses a TAIL more than 256 ahead of DONE with CMD_RANGE, and else sets it and raises the Wellhead's interrupt 5. While the mailbox runs and the command at HEAD has its row's opcode, outside a fatal error and recovery, the row takes it and responds: PING with the cycle number, PARAM_GET with the value in effect, PARAM_SET in range with OK and the value waiting for the next cycle, out of range with BAD_ARG, BULK_READ and BULK_WRITE as the transfer of R537 ends, BAD_ARG for arguments out of bounds, at once where nothing in the range is moving, FLASH_WRITE with OK and the slot written and preferred where the image verifies and reads back, else VERIFY_FAIL. EVT_HEAD_WRITE beyond TAIL has no effect. EVENT with an alarm from a unit always queues it; a log over the storm limit is not sent; a trace that the mask does not enable is not made. A report at the head of a unit's queue goes to its running Steward, raising interrupt 3 there; a Steward's own report, and one whose Steward is lost, goes to the Wellhead's cores with interrupt 3. START during a snapshot sets SNAP_REFUSED, else begins the next epoch; MARKER latches the unit. A HEARTBEAT frame of the partner completes and, where no shadow write is kept, shows the ring path and the partner's exposure; a RESET frame with the code set here raises source 10, one with another code sets RING_RESET_REFUSED; a forwarded frame loses one hop; one with a bad CRC is counted and removed. RING_SYNC_LOST and RING_SYNC_ACQUIRED show it. FATAL_ERROR whose cause holds records the fatal error with its cause and the dumping core; DUMP_DONE then sets DUMP_VALID. STEWARD_LOST after three missed heartbeats restarts the Steward with the alarm. -/
def Obligations.MailboxEventsRingAndDump : Prop :=
(∀ s : State, ∃ t : State, exec .flr s = .next t ∧ t.flag R.MGMT_CTRL F.MGMT_CTRL_MBX_EN = false ∧ t.mgmt.unread = [] ∧ t.mgmt.held = s.mgmt.held ∧
    t.reg R.MGMT_CMD_PTR = State.reset.reg R.MGMT_CMD_PTR ∧ t.reg R.MGMT_EVT_PTR = State.reset.reg R.MGMT_EVT_PTR ∧ t.pool = s.pool ∧ t.jobs = s.jobs) ∧
  (∀ (tail : BitVec 16) (staged : List (BitVec 28 × List Byte)) (s : State), let t := staged.foldl (fun s e => s.pokeBar2 e.1.toNat e.2) s
    let ahead := (tail.toNat + 65536 - t.get R.MGMT_CMD_PTR F.MGMT_CMD_PTR_DONE) % 65536
    (256 < ahead → exec (.cmdTailWrite tail staged) s = .next (t.setErr R.MGMT_ERR F.MGMT_ERR_CMD_RANGE)) ∧
    (ahead ≤ 256 → exec (.cmdTailWrite tail staged) s = .next ((t.put R.MGMT_CMD_PTR F.MGMT_CMD_PTR_TAIL tail.toNat).raiseWell 5))) ∧
  (∀ (s : State) (e : List Byte), let head := s.get R.MGMT_CMD_PTR F.MGMT_CMD_PTR_HEAD
    let rd := s.readMail (64 * (head % 256)) 64
    s.mailRuns = true → head ≠ s.get R.MGMT_CMD_PTR F.MGMT_CMD_PTR_TAIL → rd.2.1 = true → rd.2.2 = e → s.isFatal = false → s.rst.recovery = false →
    let t := (rd.1.put R.MGMT_CMD_PTR F.MGMT_CMD_PTR_HEAD (head + 1)).putFlag R.MGMT_STATUS F.MGMT_STATUS_MBX_BUSY true
    let done (u : State) (status result : Nat) : Host.Outcome State Fault Refusal := .next (u.respondMail t.pair.nextMirror (leNat ((e.drop 4).take 4)) status result)
    let p := cmdArg e 8 2
    (e.getD 0 0 = 6 → exec .ping s = done t 0 (t.reg R.WELL_MCYCLE).toNat) ∧
    (e.getD 0 0 = 2 → exec .paramGet s = if 1 ≤ p ∧ p ≤ 8 then done t 0 (t.param p) else done t 2 0) ∧
    (e.getD 0 0 = 1 → exec .paramSet s = if t.paramOk p (cmdArg e 16 8) then
        done { t with mgmt := { t.mgmt with newParams := (p, cmdArg e 16 8) :: t.mgmt.newParams.filter (fun x => x.1 != p) } } 0 0
      else done t 2 0) ∧
    (∀ (core : Fin 4) (ans : List SnoopAnswer) (u : State) (status result : Nat),
      (e.getD 0 0 = 3 → State.mailBulk true core ans e t = some (u, status, result) → exec (.bulkWrite core ans) s = done u status result) ∧
      (e.getD 0 0 = 4 → State.mailBulk false core ans e t = some (u, status, result) → exec (.bulkRead core ans) s = done u status result)) ∧
    (∀ (readsBack hold : Bool) (u : State) (status result : Nat), e.getD 0 0 = 5 → State.flashWrite readsBack hold e t = some (u, status, result) →
      exec (.flashWrite readsBack hold) s = done u status result)) ∧
  (∀ (w : Bool) (core : Nat) (ans : List SnoopAnswer) (e : List Byte) (s : State), let tpa := cmdArg e 16 8
    let buf := cmdArg e 24 4
    let len := cmdArg e 28 4
    (tpa % 64 ≠ 0 ∨ buf % 64 ≠ 0 ∨ buf < 0x100000 ∨ len % 64 ≠ 0 ∨ len < 64 ∨ 2 ^ 20 < len ∨ 0x1000000 < buf + len →
      State.mailBulk w core ans e s = some (s, 2, 0)) ∧
    (tpa % 64 = 0 → buf % 64 = 0 → 0x100000 ≤ buf → len % 64 = 0 → 64 ≤ len → len ≤ 2 ^ 20 → buf + len ≤ 0x1000000 → (∀ b, b ∈ s.basins → b.2.moving = false) → s.ras.movingUnit = none →
      State.mailBulk w core ans e s = some (s.hostBulk w core (cmdArg e 8 1) tpa buf 0 len ans 257))) ∧
  (∀ (hold readsBack : Bool) (e : List Byte) (s : State), let slot := cmdArg e 8 1
    let buf := cmdArg e 24 4
    let len := cmdArg e 28 4
    let rd := s.readBar2 (buf / 64 * 64) ((buf % 64 + len + 63) / 64)
    let img := (rd.2.data.drop (buf % 64)).take len
    (2 ≤ slot ∨ 32 * 2 ^ 20 < buf + len ∨ 8 * 2 ^ 20 < len → State.flashWrite readsBack hold e s = some (s, 2, 0)) ∧
    (slot < 2 → buf + len ≤ 32 * 2 ^ 20 → len ≤ 8 * 2 ^ 20 → rd.2.poison = false → rd.2.stat = .ok →
      ((rd.1.verifyFw img).2 = none → State.flashWrite readsBack hold e s = some ((rd.1.verifyFw img).1, 7, 0)) ∧
      ((rd.1.verifyFw img).2 ≠ none → ∃ u : State, State.flashWrite true hold e s = some (u, 0, 0) ∧ u.flash.slot slot = img ∧ u.flash.preferred = slot ∧
        u.flash.magicOk = true ∧ u.pool = (rd.1.verifyFw img).1.pool))) ∧
  (∀ (head : BitVec 16) (s : State), let d := (head.toNat + 65536 - s.get R.MGMT_EVT_PTR F.MGMT_EVT_PTR_HEAD) % 65536
    (s.mgmt.unread.length < d → exec (.evtHeadWrite head) s = .next s) ∧
    (d ≤ s.mgmt.unread.length → let t := s.put R.MGMT_EVT_PTR F.MGMT_EVT_PTR_HEAD head.toNat
      exec (.evtHeadWrite head) s = .next (State.drainHeld { t with mgmt := { t.mgmt with unread := t.mgmt.unread.drop d } } t.mgmt.held.length))) ∧
  (∀ (source : BitVec 16) (r : Report) (s : State), reports source.toNat = true → let a := source.toNat
    let m : EvMsg := { kind := r.kind, sev := r.sev, code := r.code.toNat, count := if r.kind.val = 0 then 1 else 0, cycles := r.cycles.toNat, data := r.data }
    let p := s.stormPass a r.code.toNat
    (r.kind = 0 → r.code.toNat < 64 → exec (.event source (some r)) s = .next (s.queueReport a a m)) ∧
    (r.kind ≠ 0 → (r.kind = 2 → bitOf (s.get R.MGMT_TRACE F.MGMT_TRACE_MASK) r.trace = true) →
      exec (.event source (some r)) s = .next (if p.2 then p.1.queueReport a a m else p.1)) ∧
    (r.kind = 2 → bitOf (s.get R.MGMT_TRACE F.MGMT_TRACE_MASK) r.trace = false → exec (.event source (some r)) s = .next s)) ∧
  (∀ (source : BitVec 16) (src : Nat) (m : EvMsg) (rest : List (Nat × EvMsg)) (s : State), reports source.toNat = true → isSteward source.toNat = false →
    (s.evUnit source.toNat).queue = (src, m) :: rest → s.stewardUp (quadOfAddr source.toNat) = true →
    let u := s.evUnit source.toNat
    let t := s.setEvUnit source.toNat (EvUnit.pumpAlarms { u with queue := rest } source.toNat)
    exec (.event source none) s = .next ((t.queueReport (coreAddr (4 + quadOfAddr source.toNat)) src m).raiseIrq (stewardCore (quadOfAddr source.toNat)) 3)) ∧
  (∀ (source : BitVec 16) (src : Nat) (m : EvMsg) (rest : List (Nat × EvMsg)) (s : State), reports source.toNat = true →
    (s.evUnit source.toNat).queue = (src, m) :: rest → (isSteward source.toNat = true ∨ s.stewardUp (quadOfAddr source.toNat) = false) →
    let t := s.setEvUnit source.toNat (EvUnit.pumpAlarms { s.evUnit source.toNat with queue := rest } source.toNat)
    let stamp := if isSteward source.toNat then some (t.core (4 + quadOfAddr source.toNat)).mcycle else none
    exec (.event source none) s = .next ((t.takeReport src { m with stamp := m.stamp.or stamp }).raiseWell 3)) ∧
  (∀ s : State, (s.mgmt.snap ≠ none → exec .start s = .next (s.setErr R.MGMT_ERR F.MGMT_ERR_SNAP_REFUSED)) ∧
    (s.mgmt.snap = none → ∃ t : State, exec .start s = .next t ∧ ∃ x, t.mgmt.snap = some x ∧ x.done = [] ∧ x.incomplete = false ∧
      x.epoch = (s.get R.MGMT_SNAP F.MGMT_SNAP_EPOCH + 1) % 2 ^ 32)) ∧
  (∀ (unit : Fin 504) (lost : Bool) (s : State) (x : Snap), s.mgmt.snap = some x →
    exec (.marker unit lost) s = .next ((s.latchUnit unit lost).send (.result "MARKER" [unit, x.epoch]))) ∧
  (∀ (ring : Fin 2) (f : List Byte) (s : State), s.takes f = true → let t := s.bump R.MGMT_CNT_RING_RX
    let code := s.get R.MGMT_RING_CFG F.MGMT_RING_CFG_RSTCODE
    let mine := frameAt f 0 = s.station ∧ leNat ((f.drop 4).take 2) = code ∧ code ≠ 0
    (frameAt f 2 = 1 → frameAt f 1 = s.get R.MGMT_RING_CFG F.MGMT_RING_CFG_PARTNER → s.pair.goodbye = false → ∃ u : State,
      exec (.heartbeatFrame ring f) s = .next u ∧ (s.pair.kept = [] → u.ringOk = true ∧ u.seenOn (if ring = 0 then u.mgmt.hb0 else u.mgmt.hb1) =
        (0 < s.get R.PAIR_CFG F.PAIR_CFG_RING_MISS) ∧ u.pair.partnerExposed = (if frameAt f 12 = 2 ∨ frameAt f 12 = 3 then frameAt f 12 == 3 else s.pair.partnerExposed) ∧
        u.pool = s.pool)) ∧
    (frameAt f 2 = 1 → frameAt f 1 ≠ s.get R.MGMT_RING_CFG F.MGMT_RING_CFG_PARTNER → exec (.heartbeatFrame ring f) s = .next t) ∧
    (frameAt f 2 = 3 → mine → exec (.resetFrame ring f) s =
      .next (t.raiseAt 10 (if frameAt f 6 = 2 ∧ s.levelFor 10 = some 1 then some 2 else s.levelFor 10))) ∧
    (frameAt f 2 = 3 → ¬ mine → exec (.resetFrame ring f) s = .next (t.setErr R.MGMT_ERR F.MGMT_ERR_RING_RESET_REFUSED))) ∧
  (∀ (ring : Fin 2) (f : List Byte) (s : State), s.bypassOpen = true →
    (frameOk f = false → exec (.ringFrameForward ring f) s = .next (s.bump R.MGMT_CNT_RING_CRC)) ∧
    (frameOk f = true → s.takes f = false → frameAt f 1 ≠ s.station → frameAt f 0 ≠ s.station → 1 < frameAt f 3 →
      let b := f.take 3 ++ leBytes (frameAt f 3 - 1) 1 ++ (f.drop 4).take 56
      exec (.ringFrameForward ring f) s = .next (s.send (.ring ring (b ++ leBytes (crc32 b) 4)))) ∧
    (frameOk f = true → s.takes f = false → (frameAt f 1 = s.station ∨ frameAt f 3 ≤ 1) → exec (.ringFrameForward ring f) s = .next s)) ∧
  (∀ (ring : Fin 2) (s : State),
    (s.inSync ring = true → exec (.ringSyncLost ring) s = .next (((s.setSync ring false).restartOut ring).setErr R.MGMT_ERR F.MGMT_ERR_RING_SYNC_LOST)) ∧
    exec (.ringSyncAcquired ring) s = .next ((s.setSync ring true).restartOut ring)) ∧
  (∀ (cause : BitVec 8) (info : Word) (s : State), s.dumpCore ≠ none → s.isFatal = false → s.fatalCause cause.toNat = true → s.wellRuns = true →
    ∃ t : State, exec (.fatalError cause info) s = .next t ∧ ∃ f, t.mgmt.fatal = some f ∧ f.cause = cause.toNat ∧ s.dumpCore = some f.core) ∧
  (∀ (queue : BitVec 26) (cut : List (Fin 8 × BitVec 26)) (s : State), s.mgmt.fatal ≠ none → s.flag R.GLOB_STATUS F.GLOB_STATUS_DUMP_VALID = false →
    s.dumpCore ≠ none → ∃ t : State, exec (.dumpDone queue cut) s = .next t ∧ t.flag R.GLOB_STATUS F.GLOB_STATUS_DUMP_VALID = true) ∧
  (∀ (q : Fin 4) (s : State), 3 ≤ Tbl.get (fun _ => 0) s.mgmt.misses q → s.stewardUp q = true →
    let t := s.put R.WELL_CORESTAT F.WELL_CORESTAT_STEWARD_LOST (setBits (s.get R.WELL_CORESTAT F.WELL_CORESTAT_STEWARD_LOST) q 1 1)
    exec (.stewardLost q) s = .next (((t.setErr R.WELL_ERR F.WELL_ERR_STEWARD_LOST).raiseAlarm .stewardLost).restartSteward q))

/-- BOOT_ROM_START, once the fuses are loaded, nothing holds the controller in reset and the Wellhead's and the security block's clocks are stable, ends the reset, starts core 0 at the boot ROM, lets every land be driven, and makes a KEK valid unless DEBUG_LATCH stands; otherwise it changes nothing. FIRMWARE_LOAD_DONE verifies the slot tried first, then the other: the first accepted runs, with PHASE at TRAINING, the watchdog started, core 0 at the image's entry and the image's measurement shown; with none accepted the controller enters recovery. MANAGEMENT_CYCLE while the Wellhead runs adds 1 to MCYCLE and runs the watchdog by the milliseconds given; in the boot ROM and after a fatal error it does nothing more; else it counts an overrun, does the cycle's work and the next step of bring-up. MBX_EN stores its bit; the first write of 1 in PHASE CONFIG enters service: the locks are set, STRICT_BOOT ends, and PHASE is SERVICE. JOB_ENABLE stores its bit, which is in effect only in PHASE SERVICE. -/
def Obligations.FromPowerOnToService : Prop :=
(∀ s : State, let ok := s.rst.booted = false ∧ s.rst.fused = true ∧ s.heldInReset = false ∧ s.clockOk wellIsland = true ∧ s.clockOk secIsland = true
    (ok → ∃ t : State, exec .bootRomStart s = .next t ∧ t.rst.active = none ∧ t.rst.booted = true ∧ t.rst.pcie = !s.rst.perstIn ∧ t.core 0 = coreReset 0 ∧
      (∀ k, k < 31 → Tbl.get (fun _ => 0) t.rst.lands k = 4) ∧
      (s.secFlag F.SEC_STATUS_DEBUG_LATCH = false → t.secFlag F.SEC_STATUS_KEK_VALID = true) ∧
      (s.secFlag F.SEC_STATUS_DEBUG_LATCH = true → t.sec = s.sec ∧ t.reg R.SEC_STATUS = s.reg R.SEC_STATUS) ∧ t.pool = s.pool ∧ t.phase = s.phase) ∧
    (¬ ok → exec .bootRomStart s = .next s)) ∧
  (coreReset 0).pc = 0x70000000 ∧
  (∀ (hold : Bool) (s : State), s.wellRuns = true → s.rst.recovery = false → s.phase = 0 → (s.core 0).st = .running → let n := s.firstSlot
    let a := s.verifyFw (s.flash.slot n)
    let b := a.1.verifyFw (a.1.flash.slot (1 - n))
    (∀ x, a.2 = some x → exec (.firmwareLoadDone hold) s = .next (a.1.runFw n x hold)) ∧
    (∀ x, a.2 = none → b.2 = some x → exec (.firmwareLoadDone hold) s = .next (b.1.runFw (1 - n) x hold)) ∧
    (a.2 = none → b.2 = none → exec (.firmwareLoadDone hold) s = .next b.1.enterRecovery)) ∧
  (∀ (n : Nat) (x : FwImage) (hold : Bool) (s : State), let t := s.runFw n x hold
    t.rst.wdog = true ∧ t.flash.lastSlot = n ∧ t.phase = 1 ∧ t.meas R.SEC_FW_MEAS = (padTo 32 (Config.shake256 x.signed 32)) ∧
    (∀ k, k < 100 → (t.tarn k).testing = true)) ∧
  (∀ s : State, s.enterRecovery.rst.recovery = true ∧ s.enterRecovery.phase = s.phase) ∧
  (∀ (ms : BitVec 16) (overrun inFlight : Bool) (stewards : BitVec 4) (ans : List SnoopAnswer) (s : State),
    let t := (s.bump R.WELL_MCYCLE).runWatchdog ms.toNat
    (s.wellRuns = false → exec (.managementCycle ms overrun inFlight stewards ans) s = .next s) ∧
    (s.wellRuns = true → (t.phase = 0 ∨ t.isFatal = true) → exec (.managementCycle ms overrun inFlight stewards ans) s = .next t) ∧
    (s.wellRuns = true → t.phase ≠ 0 → t.isFatal = false →
      let u := if overrun then (t.bumpSat R.WELL_OVERRUN F.WELL_OVERRUN_COUNT).raiseAlarm .cycleOverrun else t
      exec (.managementCycle ms overrun inFlight stewards ans) s = .next (u.firmwareCycle inFlight stewards ans).bringUp)) ∧
  (∀ (ms : Nat) (s : State), let t := s.runWatchdog ms
    let left := s.get R.RST_WDOG F.RST_WDOG_REMAIN_MS
    ((s.rst.wdog = false ∨ s.flag R.RST_WDOG F.RST_WDOG_ENABLE = false) → t = s) ∧
    (s.rst.wdog = true → s.flag R.RST_WDOG F.RST_WDOG_ENABLE = true → s.mgmt.fatal = none → t.get R.RST_WDOG F.RST_WDOG_REMAIN_MS = left - ms ∧
      ∀ o, o ≠ R.RST_WDOG → t.reg o = s.reg o)) ∧
  (∀ s : State, let t := s.putFlag R.MGMT_CTRL F.MGMT_CTRL_MBX_EN true
    exec (.mbxEn false) s = .next (s.putFlag R.MGMT_CTRL F.MGMT_CTRL_MBX_EN false) ∧
    (s.phase = 3 → s.isFatal = false → exec (.mbxEn true) s = .next (t.enterService.drainHeld t.enterService.mgmt.held.length)) ∧
    (s.phase ≠ 3 ∨ s.isFatal = true → exec (.mbxEn true) s = .next (t.drainHeld t.mgmt.held.length))) ∧
  (∀ s : State, let t := s.enterService
    t.phase = 4 ∧ t.flag R.DIR_CTRL F.DIR_CTRL_STRICT_BOOT = false ∧ t.mgmt.served = true ∧ t.mgmt.held = s.mgmt.held ∧ t.pool = s.pool ∧
    (∀ n, n < 384 → (lockOf .pond n).elim true (fun l => t.flag l.1 l.2) = true) ∧ (lockOf .sec 0).elim true (fun l => t.flag l.1 l.2) = true) ∧
  (∀ (v : Bool) (s : State), exec (.jobEnable v) s = .next (s.putFlag R.JOB_CTRL F.JOB_CTRL_ENABLE v) ∧ (s.phase < 4 → s.jobsOn = false))
end

