-- ==== Sys2Proof/Laws/Bits.lean ====
section
/-!
SUPPORT. The laws of bit fields of numbers, and of little-endian bytes.
-/
namespace Sys2Proof

theorem bitsOf_lt (v lo w : Nat) : bitsOf v lo w < 2 ^ w := Nat.mod_lt _ (by positivity)

/-- A field reads back what was put there. -/
@[simp] theorem bitsOf_setBits_same (v lo w f : Nat) : bitsOf (setBits v lo w f) lo w = f % 2 ^ w := by
  unfold bitsOf setBits
  have h0 : 0 < 2 ^ lo := by positivity
  have h : v / 2 ^ (lo + w) * 2 ^ (lo + w) + f % 2 ^ w * 2 ^ lo + v % 2 ^ lo
      = v % 2 ^ lo + 2 ^ lo * (f % 2 ^ w + 2 ^ w * (v / 2 ^ (lo + w))) := by rw [pow_add]; ring
  rw [h, Nat.add_mul_div_left _ _ h0, Nat.div_eq_of_lt (Nat.mod_lt _ h0), Nat.zero_add, Nat.add_mul_mod_self_left, Nat.mod_mod]

/-- A field above the one put keeps its value. -/
theorem bitsOf_setBits_above (v lo w f a n : Nat) (h : lo + w ≤ a) : bitsOf (setBits v lo w f) a n = bitsOf v a n := by
  unfold bitsOf setBits
  have h0 : 0 < 2 ^ lo := by positivity
  have hlt : f % 2 ^ w * 2 ^ lo + v % 2 ^ lo < 2 ^ (lo + w) := by
    have h1 : f % 2 ^ w + 1 ≤ 2 ^ w := Nat.mod_lt _ (by positivity)
    have h2 : v % 2 ^ lo < 2 ^ lo := Nat.mod_lt _ h0
    have h3 : (f % 2 ^ w + 1) * 2 ^ lo ≤ 2 ^ w * 2 ^ lo := Nat.mul_le_mul_right _ h1
    rw [pow_add, Nat.mul_comm (2 ^ lo)]
    nlinarith
  obtain ⟨k, rfl⟩ := Nat.exists_eq_add_of_le h
  rw [pow_add 2 (lo + w) k, ← Nat.div_div_eq_div_mul, ← Nat.div_div_eq_div_mul, Nat.add_assoc, Nat.mul_comm (v / 2 ^ (lo + w)),
    Nat.mul_add_div (by positivity), Nat.div_eq_of_lt hlt, Nat.add_zero]

/-- A field below the one put keeps its value. -/
theorem bitsOf_setBits_below (v lo w f a n : Nat) (h : a + n ≤ lo) : bitsOf (setBits v lo w f) a n = bitsOf v a n := by
  obtain ⟨k, rfl⟩ := Nat.exists_eq_add_of_le h
  have h1 : setBits v (a + n + k) w f = v % 2 ^ (a + n + k) + 2 ^ (a + n) * (2 ^ k * (f % 2 ^ w + 2 ^ w * (v / 2 ^ (a + n + k + w)))) := by
    unfold setBits
    have : (2 : Nat) ^ (a + n + k + w) = 2 ^ (a + n) * 2 ^ k * 2 ^ w := by rw [pow_add, pow_add]
    have h2 : (2 : Nat) ^ (a + n + k) = 2 ^ (a + n) * 2 ^ k := by rw [pow_add]
    rw [this, h2]; ring
  have key : ∀ x y : Nat, x % 2 ^ (a + n) = y % 2 ^ (a + n) → bitsOf x a n = bitsOf y a n := by
    intro x y hxy
    unfold bitsOf
    have e : ∀ z : Nat, z / 2 ^ a % 2 ^ n = z % 2 ^ (a + n) / 2 ^ a := by
      intro z
      rw [pow_add, Nat.mod_mul_right_div_self]
    rw [e, e, hxy]
  apply key
  rw [h1, Nat.add_mul_mod_self_left, Nat.mod_mod_of_dvd]
  exact pow_dvd_pow 2 (by omega)

/-- A number below 2^n keeps below it when a field within it is put. -/
theorem setBits_lt (v lo w f n : Nat) (h : lo + w ≤ n) (hv : v < 2 ^ n) : setBits v lo w f < 2 ^ n := by
  unfold setBits
  obtain ⟨k, rfl⟩ := Nat.exists_eq_add_of_le h
  have h0 : 0 < 2 ^ lo := by positivity
  have hlt : f % 2 ^ w * 2 ^ lo + v % 2 ^ lo < 2 ^ (lo + w) := by
    have h1 : f % 2 ^ w + 1 ≤ 2 ^ w := Nat.mod_lt _ (by positivity)
    have h2 : v % 2 ^ lo < 2 ^ lo := Nat.mod_lt _ h0
    have h3 : (f % 2 ^ w + 1) * 2 ^ lo ≤ 2 ^ w * 2 ^ lo := Nat.mul_le_mul_right _ h1
    rw [pow_add, Nat.mul_comm (2 ^ lo)]
    nlinarith
  have hq : v / 2 ^ (lo + w) + 1 ≤ 2 ^ k := by
    rw [pow_add] at hv
    exact Nat.div_lt_of_lt_mul hv
  have := Nat.mul_le_mul_right (2 ^ (lo + w)) hq
  rw [pow_add 2 (lo + w) k]
  nlinarith

/-- The bytes of a number are as many as asked. -/
@[simp] theorem leBytes_length (v n : Nat) : (leBytes v n).length = n := by
  induction n generalizing v with
  | zero => rfl
  | succ n ih => simp [leBytes, ih]

/-- The bytes of a number spell it. -/
theorem leNat_leBytes (v n : Nat) : leNat (leBytes v n) = v % 256 ^ n := by
  induction n generalizing v with
  | zero => simp [leBytes, leNat, Nat.mod_one]
  | succ n ih =>
    simp only [leBytes, leNat, ih, BitVec.toNat_ofNat]
    rw [show (2 : Nat) ^ 8 = 256 from rfl, Nat.pow_succ', Nat.mod_mul]

end Sys2Proof
end

