-- ==== Sys2Proof/Laws/State.lean ====
section
/-!
SUPPORT. What each update of the state leaves alone: one lemma a field a update, so that no proof unfolds a record update.
-/
namespace Sys2Proof.Machine

/-! ### setReg -/

@[simp] theorem State.setReg_pending (s : State) (o : Nat) (v : BitVec 64) : (s.setReg o v).pending = s.pending := (rfl)
@[simp] theorem State.setReg_latches (s : State) (o : Nat) (v : BitVec 64) : (s.setReg o v).latches = s.latches := (rfl)
@[simp] theorem State.setReg_pool (s : State) (o : Nat) (v : BitVec 64) : (s.setReg o v).pool = s.pool := (rfl)
@[simp] theorem State.setReg_chans (s : State) (o : Nat) (v : BitVec 64) : (s.setReg o v).chans = s.chans := (rfl)
@[simp] theorem State.setReg_xlat (s : State) (o : Nat) (v : BitVec 64) : (s.setReg o v).xlat = s.xlat := (rfl)
@[simp] theorem State.setReg_fab (s : State) (o : Nat) (v : BitVec 64) : (s.setReg o v).fab = s.fab := (rfl)
@[simp] theorem State.setReg_pair (s : State) (o : Nat) (v : BitVec 64) : (s.setReg o v).pair = s.pair := (rfl)
@[simp] theorem State.setReg_kv (s : State) (o : Nat) (v : BitVec 64) : (s.setReg o v).kv = s.kv := (rfl)
@[simp] theorem State.setReg_jobs (s : State) (o : Nat) (v : BitVec 64) : (s.setReg o v).jobs = s.jobs := (rfl)
@[simp] theorem State.setReg_tarns (s : State) (o : Nat) (v : BitVec 64) : (s.setReg o v).tarns = s.tarns := (rfl)
@[simp] theorem State.setReg_msgs (s : State) (o : Nat) (v : BitVec 64) : (s.setReg o v).msgs = s.msgs := (rfl)
@[simp] theorem State.setReg_cores (s : State) (o : Nat) (v : BitVec 64) : (s.setReg o v).cores = s.cores := (rfl)
@[simp] theorem State.setReg_wsram (s : State) (o : Nat) (v : BitVec 64) : (s.setReg o v).wsram = s.wsram := (rfl)
@[simp] theorem State.setReg_home (s : State) (o : Nat) (v : BitVec 64) : (s.setReg o v).home = s.home := (rfl)
@[simp] theorem State.setReg_ports (s : State) (o : Nat) (v : BitVec 64) : (s.setReg o v).ports = s.ports := (rfl)
@[simp] theorem State.setReg_mesh (s : State) (o : Nat) (v : BitVec 64) : (s.setReg o v).mesh = s.mesh := (rfl)
@[simp] theorem State.setReg_ras (s : State) (o : Nat) (v : BitVec 64) : (s.setReg o v).ras = s.ras := (rfl)
@[simp] theorem State.setReg_sec (s : State) (o : Nat) (v : BitVec 64) : (s.setReg o v).sec = s.sec := (rfl)
@[simp] theorem State.setReg_flash (s : State) (o : Nat) (v : BitVec 64) : (s.setReg o v).flash = s.flash := (rfl)
@[simp] theorem State.setReg_mgmt (s : State) (o : Nat) (v : BitVec 64) : (s.setReg o v).mgmt = s.mgmt := (rfl)
@[simp] theorem State.setReg_rst (s : State) (o : Nat) (v : BitVec 64) : (s.setReg o v).rst = s.rst := (rfl)
@[simp] theorem State.setReg_clk (s : State) (o : Nat) (v : BitVec 64) : (s.setReg o v).clk = s.clk := (rfl)
@[simp] theorem State.setReg_pwr (s : State) (o : Nat) (v : BitVec 64) : (s.setReg o v).pwr = s.pwr := (rfl)
@[simp] theorem State.setReg_fuses (s : State) (o : Nat) (v : BitVec 64) : (s.setReg o v).fuses = s.fuses := (rfl)
@[simp] theorem State.setReg_shadow (s : State) (o : Nat) (v : BitVec 64) : (s.setReg o v).shadow = s.shadow := (rfl)
@[simp] theorem State.setReg_out (s : State) (o : Nat) (v : BitVec 64) : (s.setReg o v).out = s.out := (rfl)
@[simp] theorem State.setReg_fresh (s : State) (o : Nat) (v : BitVec 64) : (s.setReg o v).fresh = s.fresh := (rfl)

/-! ### put -/

@[simp] theorem State.put_pending (s : State) (o : Nat) (f : Fld) (v : Nat) : (s.put o f v).pending = s.pending := (rfl)
@[simp] theorem State.put_latches (s : State) (o : Nat) (f : Fld) (v : Nat) : (s.put o f v).latches = s.latches := (rfl)
@[simp] theorem State.put_pool (s : State) (o : Nat) (f : Fld) (v : Nat) : (s.put o f v).pool = s.pool := (rfl)
@[simp] theorem State.put_chans (s : State) (o : Nat) (f : Fld) (v : Nat) : (s.put o f v).chans = s.chans := (rfl)
@[simp] theorem State.put_xlat (s : State) (o : Nat) (f : Fld) (v : Nat) : (s.put o f v).xlat = s.xlat := (rfl)
@[simp] theorem State.put_fab (s : State) (o : Nat) (f : Fld) (v : Nat) : (s.put o f v).fab = s.fab := (rfl)
@[simp] theorem State.put_pair (s : State) (o : Nat) (f : Fld) (v : Nat) : (s.put o f v).pair = s.pair := (rfl)
@[simp] theorem State.put_kv (s : State) (o : Nat) (f : Fld) (v : Nat) : (s.put o f v).kv = s.kv := (rfl)
@[simp] theorem State.put_jobs (s : State) (o : Nat) (f : Fld) (v : Nat) : (s.put o f v).jobs = s.jobs := (rfl)
@[simp] theorem State.put_tarns (s : State) (o : Nat) (f : Fld) (v : Nat) : (s.put o f v).tarns = s.tarns := (rfl)
@[simp] theorem State.put_msgs (s : State) (o : Nat) (f : Fld) (v : Nat) : (s.put o f v).msgs = s.msgs := (rfl)
@[simp] theorem State.put_cores (s : State) (o : Nat) (f : Fld) (v : Nat) : (s.put o f v).cores = s.cores := (rfl)
@[simp] theorem State.put_wsram (s : State) (o : Nat) (f : Fld) (v : Nat) : (s.put o f v).wsram = s.wsram := (rfl)
@[simp] theorem State.put_home (s : State) (o : Nat) (f : Fld) (v : Nat) : (s.put o f v).home = s.home := (rfl)
@[simp] theorem State.put_ports (s : State) (o : Nat) (f : Fld) (v : Nat) : (s.put o f v).ports = s.ports := (rfl)
@[simp] theorem State.put_mesh (s : State) (o : Nat) (f : Fld) (v : Nat) : (s.put o f v).mesh = s.mesh := (rfl)
@[simp] theorem State.put_ras (s : State) (o : Nat) (f : Fld) (v : Nat) : (s.put o f v).ras = s.ras := (rfl)
@[simp] theorem State.put_sec (s : State) (o : Nat) (f : Fld) (v : Nat) : (s.put o f v).sec = s.sec := (rfl)
@[simp] theorem State.put_flash (s : State) (o : Nat) (f : Fld) (v : Nat) : (s.put o f v).flash = s.flash := (rfl)
@[simp] theorem State.put_mgmt (s : State) (o : Nat) (f : Fld) (v : Nat) : (s.put o f v).mgmt = s.mgmt := (rfl)
@[simp] theorem State.put_rst (s : State) (o : Nat) (f : Fld) (v : Nat) : (s.put o f v).rst = s.rst := (rfl)
@[simp] theorem State.put_clk (s : State) (o : Nat) (f : Fld) (v : Nat) : (s.put o f v).clk = s.clk := (rfl)
@[simp] theorem State.put_pwr (s : State) (o : Nat) (f : Fld) (v : Nat) : (s.put o f v).pwr = s.pwr := (rfl)
@[simp] theorem State.put_fuses (s : State) (o : Nat) (f : Fld) (v : Nat) : (s.put o f v).fuses = s.fuses := (rfl)
@[simp] theorem State.put_shadow (s : State) (o : Nat) (f : Fld) (v : Nat) : (s.put o f v).shadow = s.shadow := (rfl)
@[simp] theorem State.put_out (s : State) (o : Nat) (f : Fld) (v : Nat) : (s.put o f v).out = s.out := (rfl)
@[simp] theorem State.put_fresh (s : State) (o : Nat) (f : Fld) (v : Nat) : (s.put o f v).fresh = s.fresh := (rfl)

/-! ### putFlag -/

@[simp] theorem State.putFlag_pending (s : State) (o : Nat) (f : Fld) (b : Bool) : (s.putFlag o f b).pending = s.pending := (rfl)
@[simp] theorem State.putFlag_latches (s : State) (o : Nat) (f : Fld) (b : Bool) : (s.putFlag o f b).latches = s.latches := (rfl)
@[simp] theorem State.putFlag_pool (s : State) (o : Nat) (f : Fld) (b : Bool) : (s.putFlag o f b).pool = s.pool := (rfl)
@[simp] theorem State.putFlag_chans (s : State) (o : Nat) (f : Fld) (b : Bool) : (s.putFlag o f b).chans = s.chans := (rfl)
@[simp] theorem State.putFlag_xlat (s : State) (o : Nat) (f : Fld) (b : Bool) : (s.putFlag o f b).xlat = s.xlat := (rfl)
@[simp] theorem State.putFlag_fab (s : State) (o : Nat) (f : Fld) (b : Bool) : (s.putFlag o f b).fab = s.fab := (rfl)
@[simp] theorem State.putFlag_pair (s : State) (o : Nat) (f : Fld) (b : Bool) : (s.putFlag o f b).pair = s.pair := (rfl)
@[simp] theorem State.putFlag_kv (s : State) (o : Nat) (f : Fld) (b : Bool) : (s.putFlag o f b).kv = s.kv := (rfl)
@[simp] theorem State.putFlag_jobs (s : State) (o : Nat) (f : Fld) (b : Bool) : (s.putFlag o f b).jobs = s.jobs := (rfl)
@[simp] theorem State.putFlag_tarns (s : State) (o : Nat) (f : Fld) (b : Bool) : (s.putFlag o f b).tarns = s.tarns := (rfl)
@[simp] theorem State.putFlag_msgs (s : State) (o : Nat) (f : Fld) (b : Bool) : (s.putFlag o f b).msgs = s.msgs := (rfl)
@[simp] theorem State.putFlag_cores (s : State) (o : Nat) (f : Fld) (b : Bool) : (s.putFlag o f b).cores = s.cores := (rfl)
@[simp] theorem State.putFlag_wsram (s : State) (o : Nat) (f : Fld) (b : Bool) : (s.putFlag o f b).wsram = s.wsram := (rfl)
@[simp] theorem State.putFlag_home (s : State) (o : Nat) (f : Fld) (b : Bool) : (s.putFlag o f b).home = s.home := (rfl)
@[simp] theorem State.putFlag_ports (s : State) (o : Nat) (f : Fld) (b : Bool) : (s.putFlag o f b).ports = s.ports := (rfl)
@[simp] theorem State.putFlag_mesh (s : State) (o : Nat) (f : Fld) (b : Bool) : (s.putFlag o f b).mesh = s.mesh := (rfl)
@[simp] theorem State.putFlag_ras (s : State) (o : Nat) (f : Fld) (b : Bool) : (s.putFlag o f b).ras = s.ras := (rfl)
@[simp] theorem State.putFlag_sec (s : State) (o : Nat) (f : Fld) (b : Bool) : (s.putFlag o f b).sec = s.sec := (rfl)
@[simp] theorem State.putFlag_flash (s : State) (o : Nat) (f : Fld) (b : Bool) : (s.putFlag o f b).flash = s.flash := (rfl)
@[simp] theorem State.putFlag_mgmt (s : State) (o : Nat) (f : Fld) (b : Bool) : (s.putFlag o f b).mgmt = s.mgmt := (rfl)
@[simp] theorem State.putFlag_rst (s : State) (o : Nat) (f : Fld) (b : Bool) : (s.putFlag o f b).rst = s.rst := (rfl)
@[simp] theorem State.putFlag_clk (s : State) (o : Nat) (f : Fld) (b : Bool) : (s.putFlag o f b).clk = s.clk := (rfl)
@[simp] theorem State.putFlag_pwr (s : State) (o : Nat) (f : Fld) (b : Bool) : (s.putFlag o f b).pwr = s.pwr := (rfl)
@[simp] theorem State.putFlag_fuses (s : State) (o : Nat) (f : Fld) (b : Bool) : (s.putFlag o f b).fuses = s.fuses := (rfl)
@[simp] theorem State.putFlag_shadow (s : State) (o : Nat) (f : Fld) (b : Bool) : (s.putFlag o f b).shadow = s.shadow := (rfl)
@[simp] theorem State.putFlag_out (s : State) (o : Nat) (f : Fld) (b : Bool) : (s.putFlag o f b).out = s.out := (rfl)
@[simp] theorem State.putFlag_fresh (s : State) (o : Nat) (f : Fld) (b : Bool) : (s.putFlag o f b).fresh = s.fresh := (rfl)

/-! ### bump -/

@[simp] theorem State.bump_pending (s : State) (o n : Nat) : (s.bump o n).pending = s.pending := (rfl)
@[simp] theorem State.bump_latches (s : State) (o n : Nat) : (s.bump o n).latches = s.latches := (rfl)
@[simp] theorem State.bump_pool (s : State) (o n : Nat) : (s.bump o n).pool = s.pool := (rfl)
@[simp] theorem State.bump_chans (s : State) (o n : Nat) : (s.bump o n).chans = s.chans := (rfl)
@[simp] theorem State.bump_xlat (s : State) (o n : Nat) : (s.bump o n).xlat = s.xlat := (rfl)
@[simp] theorem State.bump_fab (s : State) (o n : Nat) : (s.bump o n).fab = s.fab := (rfl)
@[simp] theorem State.bump_pair (s : State) (o n : Nat) : (s.bump o n).pair = s.pair := (rfl)
@[simp] theorem State.bump_kv (s : State) (o n : Nat) : (s.bump o n).kv = s.kv := (rfl)
@[simp] theorem State.bump_jobs (s : State) (o n : Nat) : (s.bump o n).jobs = s.jobs := (rfl)
@[simp] theorem State.bump_tarns (s : State) (o n : Nat) : (s.bump o n).tarns = s.tarns := (rfl)
@[simp] theorem State.bump_msgs (s : State) (o n : Nat) : (s.bump o n).msgs = s.msgs := (rfl)
@[simp] theorem State.bump_cores (s : State) (o n : Nat) : (s.bump o n).cores = s.cores := (rfl)
@[simp] theorem State.bump_wsram (s : State) (o n : Nat) : (s.bump o n).wsram = s.wsram := (rfl)
@[simp] theorem State.bump_home (s : State) (o n : Nat) : (s.bump o n).home = s.home := (rfl)
@[simp] theorem State.bump_ports (s : State) (o n : Nat) : (s.bump o n).ports = s.ports := (rfl)
@[simp] theorem State.bump_mesh (s : State) (o n : Nat) : (s.bump o n).mesh = s.mesh := (rfl)
@[simp] theorem State.bump_ras (s : State) (o n : Nat) : (s.bump o n).ras = s.ras := (rfl)
@[simp] theorem State.bump_sec (s : State) (o n : Nat) : (s.bump o n).sec = s.sec := (rfl)
@[simp] theorem State.bump_flash (s : State) (o n : Nat) : (s.bump o n).flash = s.flash := (rfl)
@[simp] theorem State.bump_mgmt (s : State) (o n : Nat) : (s.bump o n).mgmt = s.mgmt := (rfl)
@[simp] theorem State.bump_rst (s : State) (o n : Nat) : (s.bump o n).rst = s.rst := (rfl)
@[simp] theorem State.bump_clk (s : State) (o n : Nat) : (s.bump o n).clk = s.clk := (rfl)
@[simp] theorem State.bump_pwr (s : State) (o n : Nat) : (s.bump o n).pwr = s.pwr := (rfl)
@[simp] theorem State.bump_fuses (s : State) (o n : Nat) : (s.bump o n).fuses = s.fuses := (rfl)
@[simp] theorem State.bump_shadow (s : State) (o n : Nat) : (s.bump o n).shadow = s.shadow := (rfl)
@[simp] theorem State.bump_out (s : State) (o n : Nat) : (s.bump o n).out = s.out := (rfl)
@[simp] theorem State.bump_fresh (s : State) (o n : Nat) : (s.bump o n).fresh = s.fresh := (rfl)

/-! ### bumpSat -/

@[simp] theorem State.bumpSat_pending (s : State) (o : Nat) (f : Fld) (n : Nat) : (s.bumpSat o f n).pending = s.pending := (rfl)
@[simp] theorem State.bumpSat_latches (s : State) (o : Nat) (f : Fld) (n : Nat) : (s.bumpSat o f n).latches = s.latches := (rfl)
@[simp] theorem State.bumpSat_pool (s : State) (o : Nat) (f : Fld) (n : Nat) : (s.bumpSat o f n).pool = s.pool := (rfl)
@[simp] theorem State.bumpSat_chans (s : State) (o : Nat) (f : Fld) (n : Nat) : (s.bumpSat o f n).chans = s.chans := (rfl)
@[simp] theorem State.bumpSat_xlat (s : State) (o : Nat) (f : Fld) (n : Nat) : (s.bumpSat o f n).xlat = s.xlat := (rfl)
@[simp] theorem State.bumpSat_fab (s : State) (o : Nat) (f : Fld) (n : Nat) : (s.bumpSat o f n).fab = s.fab := (rfl)
@[simp] theorem State.bumpSat_pair (s : State) (o : Nat) (f : Fld) (n : Nat) : (s.bumpSat o f n).pair = s.pair := (rfl)
@[simp] theorem State.bumpSat_kv (s : State) (o : Nat) (f : Fld) (n : Nat) : (s.bumpSat o f n).kv = s.kv := (rfl)
@[simp] theorem State.bumpSat_jobs (s : State) (o : Nat) (f : Fld) (n : Nat) : (s.bumpSat o f n).jobs = s.jobs := (rfl)
@[simp] theorem State.bumpSat_tarns (s : State) (o : Nat) (f : Fld) (n : Nat) : (s.bumpSat o f n).tarns = s.tarns := (rfl)
@[simp] theorem State.bumpSat_msgs (s : State) (o : Nat) (f : Fld) (n : Nat) : (s.bumpSat o f n).msgs = s.msgs := (rfl)
@[simp] theorem State.bumpSat_cores (s : State) (o : Nat) (f : Fld) (n : Nat) : (s.bumpSat o f n).cores = s.cores := (rfl)
@[simp] theorem State.bumpSat_wsram (s : State) (o : Nat) (f : Fld) (n : Nat) : (s.bumpSat o f n).wsram = s.wsram := (rfl)
@[simp] theorem State.bumpSat_home (s : State) (o : Nat) (f : Fld) (n : Nat) : (s.bumpSat o f n).home = s.home := (rfl)
@[simp] theorem State.bumpSat_ports (s : State) (o : Nat) (f : Fld) (n : Nat) : (s.bumpSat o f n).ports = s.ports := (rfl)
@[simp] theorem State.bumpSat_mesh (s : State) (o : Nat) (f : Fld) (n : Nat) : (s.bumpSat o f n).mesh = s.mesh := (rfl)
@[simp] theorem State.bumpSat_ras (s : State) (o : Nat) (f : Fld) (n : Nat) : (s.bumpSat o f n).ras = s.ras := (rfl)
@[simp] theorem State.bumpSat_sec (s : State) (o : Nat) (f : Fld) (n : Nat) : (s.bumpSat o f n).sec = s.sec := (rfl)
@[simp] theorem State.bumpSat_flash (s : State) (o : Nat) (f : Fld) (n : Nat) : (s.bumpSat o f n).flash = s.flash := (rfl)
@[simp] theorem State.bumpSat_mgmt (s : State) (o : Nat) (f : Fld) (n : Nat) : (s.bumpSat o f n).mgmt = s.mgmt := (rfl)
@[simp] theorem State.bumpSat_rst (s : State) (o : Nat) (f : Fld) (n : Nat) : (s.bumpSat o f n).rst = s.rst := (rfl)
@[simp] theorem State.bumpSat_clk (s : State) (o : Nat) (f : Fld) (n : Nat) : (s.bumpSat o f n).clk = s.clk := (rfl)
@[simp] theorem State.bumpSat_pwr (s : State) (o : Nat) (f : Fld) (n : Nat) : (s.bumpSat o f n).pwr = s.pwr := (rfl)
@[simp] theorem State.bumpSat_fuses (s : State) (o : Nat) (f : Fld) (n : Nat) : (s.bumpSat o f n).fuses = s.fuses := (rfl)
@[simp] theorem State.bumpSat_shadow (s : State) (o : Nat) (f : Fld) (n : Nat) : (s.bumpSat o f n).shadow = s.shadow := (rfl)
@[simp] theorem State.bumpSat_out (s : State) (o : Nat) (f : Fld) (n : Nat) : (s.bumpSat o f n).out = s.out := (rfl)
@[simp] theorem State.bumpSat_fresh (s : State) (o : Nat) (f : Fld) (n : Nat) : (s.bumpSat o f n).fresh = s.fresh := (rfl)

/-! ### clearRegs -/

@[simp] theorem State.clearRegs_pending (s : State) (p : Nat → Bool) : (s.clearRegs p).pending = s.pending := (rfl)
@[simp] theorem State.clearRegs_latches (s : State) (p : Nat → Bool) : (s.clearRegs p).latches = s.latches := (rfl)
@[simp] theorem State.clearRegs_pool (s : State) (p : Nat → Bool) : (s.clearRegs p).pool = s.pool := (rfl)
@[simp] theorem State.clearRegs_chans (s : State) (p : Nat → Bool) : (s.clearRegs p).chans = s.chans := (rfl)
@[simp] theorem State.clearRegs_xlat (s : State) (p : Nat → Bool) : (s.clearRegs p).xlat = s.xlat := (rfl)
@[simp] theorem State.clearRegs_fab (s : State) (p : Nat → Bool) : (s.clearRegs p).fab = s.fab := (rfl)
@[simp] theorem State.clearRegs_pair (s : State) (p : Nat → Bool) : (s.clearRegs p).pair = s.pair := (rfl)
@[simp] theorem State.clearRegs_kv (s : State) (p : Nat → Bool) : (s.clearRegs p).kv = s.kv := (rfl)
@[simp] theorem State.clearRegs_jobs (s : State) (p : Nat → Bool) : (s.clearRegs p).jobs = s.jobs := (rfl)
@[simp] theorem State.clearRegs_tarns (s : State) (p : Nat → Bool) : (s.clearRegs p).tarns = s.tarns := (rfl)
@[simp] theorem State.clearRegs_msgs (s : State) (p : Nat → Bool) : (s.clearRegs p).msgs = s.msgs := (rfl)
@[simp] theorem State.clearRegs_cores (s : State) (p : Nat → Bool) : (s.clearRegs p).cores = s.cores := (rfl)
@[simp] theorem State.clearRegs_wsram (s : State) (p : Nat → Bool) : (s.clearRegs p).wsram = s.wsram := (rfl)
@[simp] theorem State.clearRegs_home (s : State) (p : Nat → Bool) : (s.clearRegs p).home = s.home := (rfl)
@[simp] theorem State.clearRegs_ports (s : State) (p : Nat → Bool) : (s.clearRegs p).ports = s.ports := (rfl)
@[simp] theorem State.clearRegs_mesh (s : State) (p : Nat → Bool) : (s.clearRegs p).mesh = s.mesh := (rfl)
@[simp] theorem State.clearRegs_ras (s : State) (p : Nat → Bool) : (s.clearRegs p).ras = s.ras := (rfl)
@[simp] theorem State.clearRegs_sec (s : State) (p : Nat → Bool) : (s.clearRegs p).sec = s.sec := (rfl)
@[simp] theorem State.clearRegs_flash (s : State) (p : Nat → Bool) : (s.clearRegs p).flash = s.flash := (rfl)
@[simp] theorem State.clearRegs_mgmt (s : State) (p : Nat → Bool) : (s.clearRegs p).mgmt = s.mgmt := (rfl)
@[simp] theorem State.clearRegs_rst (s : State) (p : Nat → Bool) : (s.clearRegs p).rst = s.rst := (rfl)
@[simp] theorem State.clearRegs_clk (s : State) (p : Nat → Bool) : (s.clearRegs p).clk = s.clk := (rfl)
@[simp] theorem State.clearRegs_pwr (s : State) (p : Nat → Bool) : (s.clearRegs p).pwr = s.pwr := (rfl)
@[simp] theorem State.clearRegs_fuses (s : State) (p : Nat → Bool) : (s.clearRegs p).fuses = s.fuses := (rfl)
@[simp] theorem State.clearRegs_shadow (s : State) (p : Nat → Bool) : (s.clearRegs p).shadow = s.shadow := (rfl)
@[simp] theorem State.clearRegs_out (s : State) (p : Nat → Bool) : (s.clearRegs p).out = s.out := (rfl)
@[simp] theorem State.clearRegs_fresh (s : State) (p : Nat → Bool) : (s.clearRegs p).fresh = s.fresh := (rfl)

/-! ### send -/

@[simp] theorem State.send_pending (s : State) (o : Out) : (s.send o).pending = s.pending := (rfl)
@[simp] theorem State.send_regs (s : State) (o : Out) : (s.send o).regs = s.regs := (rfl)
@[simp] theorem State.send_latches (s : State) (o : Out) : (s.send o).latches = s.latches := (rfl)
@[simp] theorem State.send_pool (s : State) (o : Out) : (s.send o).pool = s.pool := (rfl)
@[simp] theorem State.send_chans (s : State) (o : Out) : (s.send o).chans = s.chans := (rfl)
@[simp] theorem State.send_xlat (s : State) (o : Out) : (s.send o).xlat = s.xlat := (rfl)
@[simp] theorem State.send_fab (s : State) (o : Out) : (s.send o).fab = s.fab := (rfl)
@[simp] theorem State.send_pair (s : State) (o : Out) : (s.send o).pair = s.pair := (rfl)
@[simp] theorem State.send_kv (s : State) (o : Out) : (s.send o).kv = s.kv := (rfl)
@[simp] theorem State.send_jobs (s : State) (o : Out) : (s.send o).jobs = s.jobs := (rfl)
@[simp] theorem State.send_tarns (s : State) (o : Out) : (s.send o).tarns = s.tarns := (rfl)
@[simp] theorem State.send_msgs (s : State) (o : Out) : (s.send o).msgs = s.msgs := (rfl)
@[simp] theorem State.send_cores (s : State) (o : Out) : (s.send o).cores = s.cores := (rfl)
@[simp] theorem State.send_wsram (s : State) (o : Out) : (s.send o).wsram = s.wsram := (rfl)
@[simp] theorem State.send_home (s : State) (o : Out) : (s.send o).home = s.home := (rfl)
@[simp] theorem State.send_ports (s : State) (o : Out) : (s.send o).ports = s.ports := (rfl)
@[simp] theorem State.send_mesh (s : State) (o : Out) : (s.send o).mesh = s.mesh := (rfl)
@[simp] theorem State.send_ras (s : State) (o : Out) : (s.send o).ras = s.ras := (rfl)
@[simp] theorem State.send_sec (s : State) (o : Out) : (s.send o).sec = s.sec := (rfl)
@[simp] theorem State.send_flash (s : State) (o : Out) : (s.send o).flash = s.flash := (rfl)
@[simp] theorem State.send_mgmt (s : State) (o : Out) : (s.send o).mgmt = s.mgmt := (rfl)
@[simp] theorem State.send_rst (s : State) (o : Out) : (s.send o).rst = s.rst := (rfl)
@[simp] theorem State.send_clk (s : State) (o : Out) : (s.send o).clk = s.clk := (rfl)
@[simp] theorem State.send_pwr (s : State) (o : Out) : (s.send o).pwr = s.pwr := (rfl)
@[simp] theorem State.send_fuses (s : State) (o : Out) : (s.send o).fuses = s.fuses := (rfl)
@[simp] theorem State.send_shadow (s : State) (o : Out) : (s.send o).shadow = s.shadow := (rfl)
@[simp] theorem State.send_fresh (s : State) (o : Out) : (s.send o).fresh = s.fresh := (rfl)

/-! ### tick -/

@[simp] theorem State.tick_pending (s : State) : (s.tick).pending = s.pending := (rfl)
@[simp] theorem State.tick_regs (s : State) : (s.tick).regs = s.regs := (rfl)
@[simp] theorem State.tick_latches (s : State) : (s.tick).latches = s.latches := (rfl)
@[simp] theorem State.tick_pool (s : State) : (s.tick).pool = s.pool := (rfl)
@[simp] theorem State.tick_chans (s : State) : (s.tick).chans = s.chans := (rfl)
@[simp] theorem State.tick_xlat (s : State) : (s.tick).xlat = s.xlat := (rfl)
@[simp] theorem State.tick_fab (s : State) : (s.tick).fab = s.fab := (rfl)
@[simp] theorem State.tick_pair (s : State) : (s.tick).pair = s.pair := (rfl)
@[simp] theorem State.tick_kv (s : State) : (s.tick).kv = s.kv := (rfl)
@[simp] theorem State.tick_jobs (s : State) : (s.tick).jobs = s.jobs := (rfl)
@[simp] theorem State.tick_tarns (s : State) : (s.tick).tarns = s.tarns := (rfl)
@[simp] theorem State.tick_msgs (s : State) : (s.tick).msgs = s.msgs := (rfl)
@[simp] theorem State.tick_cores (s : State) : (s.tick).cores = s.cores := (rfl)
@[simp] theorem State.tick_wsram (s : State) : (s.tick).wsram = s.wsram := (rfl)
@[simp] theorem State.tick_home (s : State) : (s.tick).home = s.home := (rfl)
@[simp] theorem State.tick_ports (s : State) : (s.tick).ports = s.ports := (rfl)
@[simp] theorem State.tick_mesh (s : State) : (s.tick).mesh = s.mesh := (rfl)
@[simp] theorem State.tick_ras (s : State) : (s.tick).ras = s.ras := (rfl)
@[simp] theorem State.tick_sec (s : State) : (s.tick).sec = s.sec := (rfl)
@[simp] theorem State.tick_flash (s : State) : (s.tick).flash = s.flash := (rfl)
@[simp] theorem State.tick_mgmt (s : State) : (s.tick).mgmt = s.mgmt := (rfl)
@[simp] theorem State.tick_rst (s : State) : (s.tick).rst = s.rst := (rfl)
@[simp] theorem State.tick_clk (s : State) : (s.tick).clk = s.clk := (rfl)
@[simp] theorem State.tick_pwr (s : State) : (s.tick).pwr = s.pwr := (rfl)
@[simp] theorem State.tick_fuses (s : State) : (s.tick).fuses = s.fuses := (rfl)
@[simp] theorem State.tick_shadow (s : State) : (s.tick).shadow = s.shadow := (rfl)
@[simp] theorem State.tick_out (s : State) : (s.tick).out = s.out := (rfl)

/-! ### ticks -/

@[simp] theorem State.ticks_pending (s : State) (n : Nat) : (s.ticks n).pending = s.pending := (rfl)
@[simp] theorem State.ticks_regs (s : State) (n : Nat) : (s.ticks n).regs = s.regs := (rfl)
@[simp] theorem State.ticks_latches (s : State) (n : Nat) : (s.ticks n).latches = s.latches := (rfl)
@[simp] theorem State.ticks_pool (s : State) (n : Nat) : (s.ticks n).pool = s.pool := (rfl)
@[simp] theorem State.ticks_chans (s : State) (n : Nat) : (s.ticks n).chans = s.chans := (rfl)
@[simp] theorem State.ticks_xlat (s : State) (n : Nat) : (s.ticks n).xlat = s.xlat := (rfl)
@[simp] theorem State.ticks_fab (s : State) (n : Nat) : (s.ticks n).fab = s.fab := (rfl)
@[simp] theorem State.ticks_pair (s : State) (n : Nat) : (s.ticks n).pair = s.pair := (rfl)
@[simp] theorem State.ticks_kv (s : State) (n : Nat) : (s.ticks n).kv = s.kv := (rfl)
@[simp] theorem State.ticks_jobs (s : State) (n : Nat) : (s.ticks n).jobs = s.jobs := (rfl)
@[simp] theorem State.ticks_tarns (s : State) (n : Nat) : (s.ticks n).tarns = s.tarns := (rfl)
@[simp] theorem State.ticks_msgs (s : State) (n : Nat) : (s.ticks n).msgs = s.msgs := (rfl)
@[simp] theorem State.ticks_cores (s : State) (n : Nat) : (s.ticks n).cores = s.cores := (rfl)
@[simp] theorem State.ticks_wsram (s : State) (n : Nat) : (s.ticks n).wsram = s.wsram := (rfl)
@[simp] theorem State.ticks_home (s : State) (n : Nat) : (s.ticks n).home = s.home := (rfl)
@[simp] theorem State.ticks_ports (s : State) (n : Nat) : (s.ticks n).ports = s.ports := (rfl)
@[simp] theorem State.ticks_mesh (s : State) (n : Nat) : (s.ticks n).mesh = s.mesh := (rfl)
@[simp] theorem State.ticks_ras (s : State) (n : Nat) : (s.ticks n).ras = s.ras := (rfl)
@[simp] theorem State.ticks_sec (s : State) (n : Nat) : (s.ticks n).sec = s.sec := (rfl)
@[simp] theorem State.ticks_flash (s : State) (n : Nat) : (s.ticks n).flash = s.flash := (rfl)
@[simp] theorem State.ticks_mgmt (s : State) (n : Nat) : (s.ticks n).mgmt = s.mgmt := (rfl)
@[simp] theorem State.ticks_rst (s : State) (n : Nat) : (s.ticks n).rst = s.rst := (rfl)
@[simp] theorem State.ticks_clk (s : State) (n : Nat) : (s.ticks n).clk = s.clk := (rfl)
@[simp] theorem State.ticks_pwr (s : State) (n : Nat) : (s.ticks n).pwr = s.pwr := (rfl)
@[simp] theorem State.ticks_fuses (s : State) (n : Nat) : (s.ticks n).fuses = s.fuses := (rfl)
@[simp] theorem State.ticks_shadow (s : State) (n : Nat) : (s.ticks n).shadow = s.shadow := (rfl)
@[simp] theorem State.ticks_out (s : State) (n : Nat) : (s.ticks n).out = s.out := (rfl)

/-! ### setChan -/

@[simp] theorem State.setChan_pending (s : State) (u : Nat) (c : Chan) : (s.setChan u c).pending = s.pending := (rfl)
@[simp] theorem State.setChan_regs (s : State) (u : Nat) (c : Chan) : (s.setChan u c).regs = s.regs := (rfl)
@[simp] theorem State.setChan_latches (s : State) (u : Nat) (c : Chan) : (s.setChan u c).latches = s.latches := (rfl)
@[simp] theorem State.setChan_pool (s : State) (u : Nat) (c : Chan) : (s.setChan u c).pool = s.pool := (rfl)
@[simp] theorem State.setChan_xlat (s : State) (u : Nat) (c : Chan) : (s.setChan u c).xlat = s.xlat := (rfl)
@[simp] theorem State.setChan_fab (s : State) (u : Nat) (c : Chan) : (s.setChan u c).fab = s.fab := (rfl)
@[simp] theorem State.setChan_pair (s : State) (u : Nat) (c : Chan) : (s.setChan u c).pair = s.pair := (rfl)
@[simp] theorem State.setChan_kv (s : State) (u : Nat) (c : Chan) : (s.setChan u c).kv = s.kv := (rfl)
@[simp] theorem State.setChan_jobs (s : State) (u : Nat) (c : Chan) : (s.setChan u c).jobs = s.jobs := (rfl)
@[simp] theorem State.setChan_tarns (s : State) (u : Nat) (c : Chan) : (s.setChan u c).tarns = s.tarns := (rfl)
@[simp] theorem State.setChan_msgs (s : State) (u : Nat) (c : Chan) : (s.setChan u c).msgs = s.msgs := (rfl)
@[simp] theorem State.setChan_cores (s : State) (u : Nat) (c : Chan) : (s.setChan u c).cores = s.cores := (rfl)
@[simp] theorem State.setChan_wsram (s : State) (u : Nat) (c : Chan) : (s.setChan u c).wsram = s.wsram := (rfl)
@[simp] theorem State.setChan_home (s : State) (u : Nat) (c : Chan) : (s.setChan u c).home = s.home := (rfl)
@[simp] theorem State.setChan_ports (s : State) (u : Nat) (c : Chan) : (s.setChan u c).ports = s.ports := (rfl)
@[simp] theorem State.setChan_mesh (s : State) (u : Nat) (c : Chan) : (s.setChan u c).mesh = s.mesh := (rfl)
@[simp] theorem State.setChan_ras (s : State) (u : Nat) (c : Chan) : (s.setChan u c).ras = s.ras := (rfl)
@[simp] theorem State.setChan_sec (s : State) (u : Nat) (c : Chan) : (s.setChan u c).sec = s.sec := (rfl)
@[simp] theorem State.setChan_flash (s : State) (u : Nat) (c : Chan) : (s.setChan u c).flash = s.flash := (rfl)
@[simp] theorem State.setChan_mgmt (s : State) (u : Nat) (c : Chan) : (s.setChan u c).mgmt = s.mgmt := (rfl)
@[simp] theorem State.setChan_rst (s : State) (u : Nat) (c : Chan) : (s.setChan u c).rst = s.rst := (rfl)
@[simp] theorem State.setChan_clk (s : State) (u : Nat) (c : Chan) : (s.setChan u c).clk = s.clk := (rfl)
@[simp] theorem State.setChan_pwr (s : State) (u : Nat) (c : Chan) : (s.setChan u c).pwr = s.pwr := (rfl)
@[simp] theorem State.setChan_fuses (s : State) (u : Nat) (c : Chan) : (s.setChan u c).fuses = s.fuses := (rfl)
@[simp] theorem State.setChan_shadow (s : State) (u : Nat) (c : Chan) : (s.setChan u c).shadow = s.shadow := (rfl)
@[simp] theorem State.setChan_out (s : State) (u : Nat) (c : Chan) : (s.setChan u c).out = s.out := (rfl)
@[simp] theorem State.setChan_fresh (s : State) (u : Nat) (c : Chan) : (s.setChan u c).fresh = s.fresh := (rfl)

/-! ### setTarn -/

@[simp] theorem State.setTarn_pending (s : State) (u : Nat) (c : Tarn) : (s.setTarn u c).pending = s.pending := (rfl)
@[simp] theorem State.setTarn_regs (s : State) (u : Nat) (c : Tarn) : (s.setTarn u c).regs = s.regs := (rfl)
@[simp] theorem State.setTarn_latches (s : State) (u : Nat) (c : Tarn) : (s.setTarn u c).latches = s.latches := (rfl)
@[simp] theorem State.setTarn_pool (s : State) (u : Nat) (c : Tarn) : (s.setTarn u c).pool = s.pool := (rfl)
@[simp] theorem State.setTarn_chans (s : State) (u : Nat) (c : Tarn) : (s.setTarn u c).chans = s.chans := (rfl)
@[simp] theorem State.setTarn_xlat (s : State) (u : Nat) (c : Tarn) : (s.setTarn u c).xlat = s.xlat := (rfl)
@[simp] theorem State.setTarn_fab (s : State) (u : Nat) (c : Tarn) : (s.setTarn u c).fab = s.fab := (rfl)
@[simp] theorem State.setTarn_pair (s : State) (u : Nat) (c : Tarn) : (s.setTarn u c).pair = s.pair := (rfl)
@[simp] theorem State.setTarn_kv (s : State) (u : Nat) (c : Tarn) : (s.setTarn u c).kv = s.kv := (rfl)
@[simp] theorem State.setTarn_jobs (s : State) (u : Nat) (c : Tarn) : (s.setTarn u c).jobs = s.jobs := (rfl)
@[simp] theorem State.setTarn_msgs (s : State) (u : Nat) (c : Tarn) : (s.setTarn u c).msgs = s.msgs := (rfl)
@[simp] theorem State.setTarn_cores (s : State) (u : Nat) (c : Tarn) : (s.setTarn u c).cores = s.cores := (rfl)
@[simp] theorem State.setTarn_wsram (s : State) (u : Nat) (c : Tarn) : (s.setTarn u c).wsram = s.wsram := (rfl)
@[simp] theorem State.setTarn_home (s : State) (u : Nat) (c : Tarn) : (s.setTarn u c).home = s.home := (rfl)
@[simp] theorem State.setTarn_ports (s : State) (u : Nat) (c : Tarn) : (s.setTarn u c).ports = s.ports := (rfl)
@[simp] theorem State.setTarn_mesh (s : State) (u : Nat) (c : Tarn) : (s.setTarn u c).mesh = s.mesh := (rfl)
@[simp] theorem State.setTarn_ras (s : State) (u : Nat) (c : Tarn) : (s.setTarn u c).ras = s.ras := (rfl)
@[simp] theorem State.setTarn_sec (s : State) (u : Nat) (c : Tarn) : (s.setTarn u c).sec = s.sec := (rfl)
@[simp] theorem State.setTarn_flash (s : State) (u : Nat) (c : Tarn) : (s.setTarn u c).flash = s.flash := (rfl)
@[simp] theorem State.setTarn_mgmt (s : State) (u : Nat) (c : Tarn) : (s.setTarn u c).mgmt = s.mgmt := (rfl)
@[simp] theorem State.setTarn_rst (s : State) (u : Nat) (c : Tarn) : (s.setTarn u c).rst = s.rst := (rfl)
@[simp] theorem State.setTarn_clk (s : State) (u : Nat) (c : Tarn) : (s.setTarn u c).clk = s.clk := (rfl)
@[simp] theorem State.setTarn_pwr (s : State) (u : Nat) (c : Tarn) : (s.setTarn u c).pwr = s.pwr := (rfl)
@[simp] theorem State.setTarn_fuses (s : State) (u : Nat) (c : Tarn) : (s.setTarn u c).fuses = s.fuses := (rfl)
@[simp] theorem State.setTarn_shadow (s : State) (u : Nat) (c : Tarn) : (s.setTarn u c).shadow = s.shadow := (rfl)
@[simp] theorem State.setTarn_out (s : State) (u : Nat) (c : Tarn) : (s.setTarn u c).out = s.out := (rfl)
@[simp] theorem State.setTarn_fresh (s : State) (u : Nat) (c : Tarn) : (s.setTarn u c).fresh = s.fresh := (rfl)

/-! ### setCore -/

@[simp] theorem State.setCore_pending (s : State) (u : Nat) (c : WCore) : (s.setCore u c).pending = s.pending := (rfl)
@[simp] theorem State.setCore_regs (s : State) (u : Nat) (c : WCore) : (s.setCore u c).regs = s.regs := (rfl)
@[simp] theorem State.setCore_latches (s : State) (u : Nat) (c : WCore) : (s.setCore u c).latches = s.latches := (rfl)
@[simp] theorem State.setCore_pool (s : State) (u : Nat) (c : WCore) : (s.setCore u c).pool = s.pool := (rfl)
@[simp] theorem State.setCore_chans (s : State) (u : Nat) (c : WCore) : (s.setCore u c).chans = s.chans := (rfl)
@[simp] theorem State.setCore_xlat (s : State) (u : Nat) (c : WCore) : (s.setCore u c).xlat = s.xlat := (rfl)
@[simp] theorem State.setCore_fab (s : State) (u : Nat) (c : WCore) : (s.setCore u c).fab = s.fab := (rfl)
@[simp] theorem State.setCore_pair (s : State) (u : Nat) (c : WCore) : (s.setCore u c).pair = s.pair := (rfl)
@[simp] theorem State.setCore_kv (s : State) (u : Nat) (c : WCore) : (s.setCore u c).kv = s.kv := (rfl)
@[simp] theorem State.setCore_jobs (s : State) (u : Nat) (c : WCore) : (s.setCore u c).jobs = s.jobs := (rfl)
@[simp] theorem State.setCore_tarns (s : State) (u : Nat) (c : WCore) : (s.setCore u c).tarns = s.tarns := (rfl)
@[simp] theorem State.setCore_msgs (s : State) (u : Nat) (c : WCore) : (s.setCore u c).msgs = s.msgs := (rfl)
@[simp] theorem State.setCore_wsram (s : State) (u : Nat) (c : WCore) : (s.setCore u c).wsram = s.wsram := (rfl)
@[simp] theorem State.setCore_home (s : State) (u : Nat) (c : WCore) : (s.setCore u c).home = s.home := (rfl)
@[simp] theorem State.setCore_ports (s : State) (u : Nat) (c : WCore) : (s.setCore u c).ports = s.ports := (rfl)
@[simp] theorem State.setCore_mesh (s : State) (u : Nat) (c : WCore) : (s.setCore u c).mesh = s.mesh := (rfl)
@[simp] theorem State.setCore_ras (s : State) (u : Nat) (c : WCore) : (s.setCore u c).ras = s.ras := (rfl)
@[simp] theorem State.setCore_sec (s : State) (u : Nat) (c : WCore) : (s.setCore u c).sec = s.sec := (rfl)
@[simp] theorem State.setCore_flash (s : State) (u : Nat) (c : WCore) : (s.setCore u c).flash = s.flash := (rfl)
@[simp] theorem State.setCore_mgmt (s : State) (u : Nat) (c : WCore) : (s.setCore u c).mgmt = s.mgmt := (rfl)
@[simp] theorem State.setCore_rst (s : State) (u : Nat) (c : WCore) : (s.setCore u c).rst = s.rst := (rfl)
@[simp] theorem State.setCore_clk (s : State) (u : Nat) (c : WCore) : (s.setCore u c).clk = s.clk := (rfl)
@[simp] theorem State.setCore_pwr (s : State) (u : Nat) (c : WCore) : (s.setCore u c).pwr = s.pwr := (rfl)
@[simp] theorem State.setCore_fuses (s : State) (u : Nat) (c : WCore) : (s.setCore u c).fuses = s.fuses := (rfl)
@[simp] theorem State.setCore_shadow (s : State) (u : Nat) (c : WCore) : (s.setCore u c).shadow = s.shadow := (rfl)
@[simp] theorem State.setCore_out (s : State) (u : Nat) (c : WCore) : (s.setCore u c).out = s.out := (rfl)
@[simp] theorem State.setCore_fresh (s : State) (u : Nat) (c : WCore) : (s.setCore u c).fresh = s.fresh := (rfl)

/-! ### setSlot -/

@[simp] theorem State.setSlot_pending (s : State) (u : Nat) (c : KeySlot) : (s.setSlot u c).pending = s.pending := (rfl)
@[simp] theorem State.setSlot_regs (s : State) (u : Nat) (c : KeySlot) : (s.setSlot u c).regs = s.regs := (rfl)
@[simp] theorem State.setSlot_latches (s : State) (u : Nat) (c : KeySlot) : (s.setSlot u c).latches = s.latches := (rfl)
@[simp] theorem State.setSlot_pool (s : State) (u : Nat) (c : KeySlot) : (s.setSlot u c).pool = s.pool := (rfl)
@[simp] theorem State.setSlot_chans (s : State) (u : Nat) (c : KeySlot) : (s.setSlot u c).chans = s.chans := (rfl)
@[simp] theorem State.setSlot_xlat (s : State) (u : Nat) (c : KeySlot) : (s.setSlot u c).xlat = s.xlat := (rfl)
@[simp] theorem State.setSlot_fab (s : State) (u : Nat) (c : KeySlot) : (s.setSlot u c).fab = s.fab := (rfl)
@[simp] theorem State.setSlot_pair (s : State) (u : Nat) (c : KeySlot) : (s.setSlot u c).pair = s.pair := (rfl)
@[simp] theorem State.setSlot_kv (s : State) (u : Nat) (c : KeySlot) : (s.setSlot u c).kv = s.kv := (rfl)
@[simp] theorem State.setSlot_jobs (s : State) (u : Nat) (c : KeySlot) : (s.setSlot u c).jobs = s.jobs := (rfl)
@[simp] theorem State.setSlot_tarns (s : State) (u : Nat) (c : KeySlot) : (s.setSlot u c).tarns = s.tarns := (rfl)
@[simp] theorem State.setSlot_msgs (s : State) (u : Nat) (c : KeySlot) : (s.setSlot u c).msgs = s.msgs := (rfl)
@[simp] theorem State.setSlot_cores (s : State) (u : Nat) (c : KeySlot) : (s.setSlot u c).cores = s.cores := (rfl)
@[simp] theorem State.setSlot_wsram (s : State) (u : Nat) (c : KeySlot) : (s.setSlot u c).wsram = s.wsram := (rfl)
@[simp] theorem State.setSlot_home (s : State) (u : Nat) (c : KeySlot) : (s.setSlot u c).home = s.home := (rfl)
@[simp] theorem State.setSlot_ports (s : State) (u : Nat) (c : KeySlot) : (s.setSlot u c).ports = s.ports := (rfl)
@[simp] theorem State.setSlot_mesh (s : State) (u : Nat) (c : KeySlot) : (s.setSlot u c).mesh = s.mesh := (rfl)
@[simp] theorem State.setSlot_ras (s : State) (u : Nat) (c : KeySlot) : (s.setSlot u c).ras = s.ras := (rfl)
@[simp] theorem State.setSlot_flash (s : State) (u : Nat) (c : KeySlot) : (s.setSlot u c).flash = s.flash := (rfl)
@[simp] theorem State.setSlot_mgmt (s : State) (u : Nat) (c : KeySlot) : (s.setSlot u c).mgmt = s.mgmt := (rfl)
@[simp] theorem State.setSlot_rst (s : State) (u : Nat) (c : KeySlot) : (s.setSlot u c).rst = s.rst := (rfl)
@[simp] theorem State.setSlot_clk (s : State) (u : Nat) (c : KeySlot) : (s.setSlot u c).clk = s.clk := (rfl)
@[simp] theorem State.setSlot_pwr (s : State) (u : Nat) (c : KeySlot) : (s.setSlot u c).pwr = s.pwr := (rfl)
@[simp] theorem State.setSlot_fuses (s : State) (u : Nat) (c : KeySlot) : (s.setSlot u c).fuses = s.fuses := (rfl)
@[simp] theorem State.setSlot_shadow (s : State) (u : Nat) (c : KeySlot) : (s.setSlot u c).shadow = s.shadow := (rfl)
@[simp] theorem State.setSlot_out (s : State) (u : Nat) (c : KeySlot) : (s.setSlot u c).out = s.out := (rfl)
@[simp] theorem State.setSlot_fresh (s : State) (u : Nat) (c : KeySlot) : (s.setSlot u c).fresh = s.fresh := (rfl)

/-! ### setEvUnit -/

@[simp] theorem State.setEvUnit_pending (s : State) (u : Nat) (c : EvUnit) : (s.setEvUnit u c).pending = s.pending := (rfl)
@[simp] theorem State.setEvUnit_regs (s : State) (u : Nat) (c : EvUnit) : (s.setEvUnit u c).regs = s.regs := (rfl)
@[simp] theorem State.setEvUnit_latches (s : State) (u : Nat) (c : EvUnit) : (s.setEvUnit u c).latches = s.latches := (rfl)
@[simp] theorem State.setEvUnit_pool (s : State) (u : Nat) (c : EvUnit) : (s.setEvUnit u c).pool = s.pool := (rfl)
@[simp] theorem State.setEvUnit_chans (s : State) (u : Nat) (c : EvUnit) : (s.setEvUnit u c).chans = s.chans := (rfl)
@[simp] theorem State.setEvUnit_xlat (s : State) (u : Nat) (c : EvUnit) : (s.setEvUnit u c).xlat = s.xlat := (rfl)
@[simp] theorem State.setEvUnit_fab (s : State) (u : Nat) (c : EvUnit) : (s.setEvUnit u c).fab = s.fab := (rfl)
@[simp] theorem State.setEvUnit_pair (s : State) (u : Nat) (c : EvUnit) : (s.setEvUnit u c).pair = s.pair := (rfl)
@[simp] theorem State.setEvUnit_kv (s : State) (u : Nat) (c : EvUnit) : (s.setEvUnit u c).kv = s.kv := (rfl)
@[simp] theorem State.setEvUnit_jobs (s : State) (u : Nat) (c : EvUnit) : (s.setEvUnit u c).jobs = s.jobs := (rfl)
@[simp] theorem State.setEvUnit_tarns (s : State) (u : Nat) (c : EvUnit) : (s.setEvUnit u c).tarns = s.tarns := (rfl)
@[simp] theorem State.setEvUnit_msgs (s : State) (u : Nat) (c : EvUnit) : (s.setEvUnit u c).msgs = s.msgs := (rfl)
@[simp] theorem State.setEvUnit_cores (s : State) (u : Nat) (c : EvUnit) : (s.setEvUnit u c).cores = s.cores := (rfl)
@[simp] theorem State.setEvUnit_wsram (s : State) (u : Nat) (c : EvUnit) : (s.setEvUnit u c).wsram = s.wsram := (rfl)
@[simp] theorem State.setEvUnit_home (s : State) (u : Nat) (c : EvUnit) : (s.setEvUnit u c).home = s.home := (rfl)
@[simp] theorem State.setEvUnit_ports (s : State) (u : Nat) (c : EvUnit) : (s.setEvUnit u c).ports = s.ports := (rfl)
@[simp] theorem State.setEvUnit_mesh (s : State) (u : Nat) (c : EvUnit) : (s.setEvUnit u c).mesh = s.mesh := (rfl)
@[simp] theorem State.setEvUnit_ras (s : State) (u : Nat) (c : EvUnit) : (s.setEvUnit u c).ras = s.ras := (rfl)
@[simp] theorem State.setEvUnit_sec (s : State) (u : Nat) (c : EvUnit) : (s.setEvUnit u c).sec = s.sec := (rfl)
@[simp] theorem State.setEvUnit_flash (s : State) (u : Nat) (c : EvUnit) : (s.setEvUnit u c).flash = s.flash := (rfl)
@[simp] theorem State.setEvUnit_rst (s : State) (u : Nat) (c : EvUnit) : (s.setEvUnit u c).rst = s.rst := (rfl)
@[simp] theorem State.setEvUnit_clk (s : State) (u : Nat) (c : EvUnit) : (s.setEvUnit u c).clk = s.clk := (rfl)
@[simp] theorem State.setEvUnit_pwr (s : State) (u : Nat) (c : EvUnit) : (s.setEvUnit u c).pwr = s.pwr := (rfl)
@[simp] theorem State.setEvUnit_fuses (s : State) (u : Nat) (c : EvUnit) : (s.setEvUnit u c).fuses = s.fuses := (rfl)
@[simp] theorem State.setEvUnit_shadow (s : State) (u : Nat) (c : EvUnit) : (s.setEvUnit u c).shadow = s.shadow := (rfl)
@[simp] theorem State.setEvUnit_out (s : State) (u : Nat) (c : EvUnit) : (s.setEvUnit u c).out = s.out := (rfl)
@[simp] theorem State.setEvUnit_fresh (s : State) (u : Nat) (c : EvUnit) : (s.setEvUnit u c).fresh = s.fresh := (rfl)

/-! ### setInlet -/

@[simp] theorem State.setInlet_pending (s : State) (u : Nat) (c : Inlet) : (s.setInlet u c).pending = s.pending := (rfl)
@[simp] theorem State.setInlet_regs (s : State) (u : Nat) (c : Inlet) : (s.setInlet u c).regs = s.regs := (rfl)
@[simp] theorem State.setInlet_latches (s : State) (u : Nat) (c : Inlet) : (s.setInlet u c).latches = s.latches := (rfl)
@[simp] theorem State.setInlet_pool (s : State) (u : Nat) (c : Inlet) : (s.setInlet u c).pool = s.pool := (rfl)
@[simp] theorem State.setInlet_chans (s : State) (u : Nat) (c : Inlet) : (s.setInlet u c).chans = s.chans := (rfl)
@[simp] theorem State.setInlet_xlat (s : State) (u : Nat) (c : Inlet) : (s.setInlet u c).xlat = s.xlat := (rfl)
@[simp] theorem State.setInlet_fab (s : State) (u : Nat) (c : Inlet) : (s.setInlet u c).fab = s.fab := (rfl)
@[simp] theorem State.setInlet_pair (s : State) (u : Nat) (c : Inlet) : (s.setInlet u c).pair = s.pair := (rfl)
@[simp] theorem State.setInlet_kv (s : State) (u : Nat) (c : Inlet) : (s.setInlet u c).kv = s.kv := (rfl)
@[simp] theorem State.setInlet_tarns (s : State) (u : Nat) (c : Inlet) : (s.setInlet u c).tarns = s.tarns := (rfl)
@[simp] theorem State.setInlet_msgs (s : State) (u : Nat) (c : Inlet) : (s.setInlet u c).msgs = s.msgs := (rfl)
@[simp] theorem State.setInlet_cores (s : State) (u : Nat) (c : Inlet) : (s.setInlet u c).cores = s.cores := (rfl)
@[simp] theorem State.setInlet_wsram (s : State) (u : Nat) (c : Inlet) : (s.setInlet u c).wsram = s.wsram := (rfl)
@[simp] theorem State.setInlet_home (s : State) (u : Nat) (c : Inlet) : (s.setInlet u c).home = s.home := (rfl)
@[simp] theorem State.setInlet_ports (s : State) (u : Nat) (c : Inlet) : (s.setInlet u c).ports = s.ports := (rfl)
@[simp] theorem State.setInlet_mesh (s : State) (u : Nat) (c : Inlet) : (s.setInlet u c).mesh = s.mesh := (rfl)
@[simp] theorem State.setInlet_ras (s : State) (u : Nat) (c : Inlet) : (s.setInlet u c).ras = s.ras := (rfl)
@[simp] theorem State.setInlet_sec (s : State) (u : Nat) (c : Inlet) : (s.setInlet u c).sec = s.sec := (rfl)
@[simp] theorem State.setInlet_flash (s : State) (u : Nat) (c : Inlet) : (s.setInlet u c).flash = s.flash := (rfl)
@[simp] theorem State.setInlet_mgmt (s : State) (u : Nat) (c : Inlet) : (s.setInlet u c).mgmt = s.mgmt := (rfl)
@[simp] theorem State.setInlet_rst (s : State) (u : Nat) (c : Inlet) : (s.setInlet u c).rst = s.rst := (rfl)
@[simp] theorem State.setInlet_clk (s : State) (u : Nat) (c : Inlet) : (s.setInlet u c).clk = s.clk := (rfl)
@[simp] theorem State.setInlet_pwr (s : State) (u : Nat) (c : Inlet) : (s.setInlet u c).pwr = s.pwr := (rfl)
@[simp] theorem State.setInlet_fuses (s : State) (u : Nat) (c : Inlet) : (s.setInlet u c).fuses = s.fuses := (rfl)
@[simp] theorem State.setInlet_shadow (s : State) (u : Nat) (c : Inlet) : (s.setInlet u c).shadow = s.shadow := (rfl)
@[simp] theorem State.setInlet_out (s : State) (u : Nat) (c : Inlet) : (s.setInlet u c).out = s.out := (rfl)
@[simp] theorem State.setInlet_fresh (s : State) (u : Nat) (c : Inlet) : (s.setInlet u c).fresh = s.fresh := (rfl)

/-! ### setBlk -/

@[simp] theorem State.setBlk_pending (s : State) (u : Nat) (c : Option KvBlk) : (s.setBlk u c).pending = s.pending := (rfl)
@[simp] theorem State.setBlk_regs (s : State) (u : Nat) (c : Option KvBlk) : (s.setBlk u c).regs = s.regs := (rfl)
@[simp] theorem State.setBlk_latches (s : State) (u : Nat) (c : Option KvBlk) : (s.setBlk u c).latches = s.latches := (rfl)
@[simp] theorem State.setBlk_pool (s : State) (u : Nat) (c : Option KvBlk) : (s.setBlk u c).pool = s.pool := (rfl)
@[simp] theorem State.setBlk_chans (s : State) (u : Nat) (c : Option KvBlk) : (s.setBlk u c).chans = s.chans := (rfl)
@[simp] theorem State.setBlk_xlat (s : State) (u : Nat) (c : Option KvBlk) : (s.setBlk u c).xlat = s.xlat := (rfl)
@[simp] theorem State.setBlk_fab (s : State) (u : Nat) (c : Option KvBlk) : (s.setBlk u c).fab = s.fab := (rfl)
@[simp] theorem State.setBlk_pair (s : State) (u : Nat) (c : Option KvBlk) : (s.setBlk u c).pair = s.pair := (rfl)
@[simp] theorem State.setBlk_jobs (s : State) (u : Nat) (c : Option KvBlk) : (s.setBlk u c).jobs = s.jobs := (rfl)
@[simp] theorem State.setBlk_tarns (s : State) (u : Nat) (c : Option KvBlk) : (s.setBlk u c).tarns = s.tarns := (rfl)
@[simp] theorem State.setBlk_msgs (s : State) (u : Nat) (c : Option KvBlk) : (s.setBlk u c).msgs = s.msgs := (rfl)
@[simp] theorem State.setBlk_cores (s : State) (u : Nat) (c : Option KvBlk) : (s.setBlk u c).cores = s.cores := (rfl)
@[simp] theorem State.setBlk_wsram (s : State) (u : Nat) (c : Option KvBlk) : (s.setBlk u c).wsram = s.wsram := (rfl)
@[simp] theorem State.setBlk_home (s : State) (u : Nat) (c : Option KvBlk) : (s.setBlk u c).home = s.home := (rfl)
@[simp] theorem State.setBlk_ports (s : State) (u : Nat) (c : Option KvBlk) : (s.setBlk u c).ports = s.ports := (rfl)
@[simp] theorem State.setBlk_mesh (s : State) (u : Nat) (c : Option KvBlk) : (s.setBlk u c).mesh = s.mesh := (rfl)
@[simp] theorem State.setBlk_ras (s : State) (u : Nat) (c : Option KvBlk) : (s.setBlk u c).ras = s.ras := (rfl)
@[simp] theorem State.setBlk_sec (s : State) (u : Nat) (c : Option KvBlk) : (s.setBlk u c).sec = s.sec := (rfl)
@[simp] theorem State.setBlk_flash (s : State) (u : Nat) (c : Option KvBlk) : (s.setBlk u c).flash = s.flash := (rfl)
@[simp] theorem State.setBlk_mgmt (s : State) (u : Nat) (c : Option KvBlk) : (s.setBlk u c).mgmt = s.mgmt := (rfl)
@[simp] theorem State.setBlk_rst (s : State) (u : Nat) (c : Option KvBlk) : (s.setBlk u c).rst = s.rst := (rfl)
@[simp] theorem State.setBlk_clk (s : State) (u : Nat) (c : Option KvBlk) : (s.setBlk u c).clk = s.clk := (rfl)
@[simp] theorem State.setBlk_pwr (s : State) (u : Nat) (c : Option KvBlk) : (s.setBlk u c).pwr = s.pwr := (rfl)
@[simp] theorem State.setBlk_fuses (s : State) (u : Nat) (c : Option KvBlk) : (s.setBlk u c).fuses = s.fuses := (rfl)
@[simp] theorem State.setBlk_shadow (s : State) (u : Nat) (c : Option KvBlk) : (s.setBlk u c).shadow = s.shadow := (rfl)
@[simp] theorem State.setBlk_out (s : State) (u : Nat) (c : Option KvBlk) : (s.setBlk u c).out = s.out := (rfl)
@[simp] theorem State.setBlk_fresh (s : State) (u : Nat) (c : Option KvBlk) : (s.setBlk u c).fresh = s.fresh := (rfl)

/-! ### setSeq -/

@[simp] theorem State.setSeq_pending (s : State) (u : Nat) (c : Option Seq) : (s.setSeq u c).pending = s.pending := (rfl)
@[simp] theorem State.setSeq_regs (s : State) (u : Nat) (c : Option Seq) : (s.setSeq u c).regs = s.regs := (rfl)
@[simp] theorem State.setSeq_latches (s : State) (u : Nat) (c : Option Seq) : (s.setSeq u c).latches = s.latches := (rfl)
@[simp] theorem State.setSeq_pool (s : State) (u : Nat) (c : Option Seq) : (s.setSeq u c).pool = s.pool := (rfl)
@[simp] theorem State.setSeq_chans (s : State) (u : Nat) (c : Option Seq) : (s.setSeq u c).chans = s.chans := (rfl)
@[simp] theorem State.setSeq_xlat (s : State) (u : Nat) (c : Option Seq) : (s.setSeq u c).xlat = s.xlat := (rfl)
@[simp] theorem State.setSeq_fab (s : State) (u : Nat) (c : Option Seq) : (s.setSeq u c).fab = s.fab := (rfl)
@[simp] theorem State.setSeq_pair (s : State) (u : Nat) (c : Option Seq) : (s.setSeq u c).pair = s.pair := (rfl)
@[simp] theorem State.setSeq_jobs (s : State) (u : Nat) (c : Option Seq) : (s.setSeq u c).jobs = s.jobs := (rfl)
@[simp] theorem State.setSeq_tarns (s : State) (u : Nat) (c : Option Seq) : (s.setSeq u c).tarns = s.tarns := (rfl)
@[simp] theorem State.setSeq_msgs (s : State) (u : Nat) (c : Option Seq) : (s.setSeq u c).msgs = s.msgs := (rfl)
@[simp] theorem State.setSeq_cores (s : State) (u : Nat) (c : Option Seq) : (s.setSeq u c).cores = s.cores := (rfl)
@[simp] theorem State.setSeq_wsram (s : State) (u : Nat) (c : Option Seq) : (s.setSeq u c).wsram = s.wsram := (rfl)
@[simp] theorem State.setSeq_home (s : State) (u : Nat) (c : Option Seq) : (s.setSeq u c).home = s.home := (rfl)
@[simp] theorem State.setSeq_ports (s : State) (u : Nat) (c : Option Seq) : (s.setSeq u c).ports = s.ports := (rfl)
@[simp] theorem State.setSeq_mesh (s : State) (u : Nat) (c : Option Seq) : (s.setSeq u c).mesh = s.mesh := (rfl)
@[simp] theorem State.setSeq_ras (s : State) (u : Nat) (c : Option Seq) : (s.setSeq u c).ras = s.ras := (rfl)
@[simp] theorem State.setSeq_sec (s : State) (u : Nat) (c : Option Seq) : (s.setSeq u c).sec = s.sec := (rfl)
@[simp] theorem State.setSeq_flash (s : State) (u : Nat) (c : Option Seq) : (s.setSeq u c).flash = s.flash := (rfl)
@[simp] theorem State.setSeq_mgmt (s : State) (u : Nat) (c : Option Seq) : (s.setSeq u c).mgmt = s.mgmt := (rfl)
@[simp] theorem State.setSeq_rst (s : State) (u : Nat) (c : Option Seq) : (s.setSeq u c).rst = s.rst := (rfl)
@[simp] theorem State.setSeq_clk (s : State) (u : Nat) (c : Option Seq) : (s.setSeq u c).clk = s.clk := (rfl)
@[simp] theorem State.setSeq_pwr (s : State) (u : Nat) (c : Option Seq) : (s.setSeq u c).pwr = s.pwr := (rfl)
@[simp] theorem State.setSeq_fuses (s : State) (u : Nat) (c : Option Seq) : (s.setSeq u c).fuses = s.fuses := (rfl)
@[simp] theorem State.setSeq_shadow (s : State) (u : Nat) (c : Option Seq) : (s.setSeq u c).shadow = s.shadow := (rfl)
@[simp] theorem State.setSeq_out (s : State) (u : Nat) (c : Option Seq) : (s.setSeq u c).out = s.out := (rfl)
@[simp] theorem State.setSeq_fresh (s : State) (u : Nat) (c : Option Seq) : (s.setSeq u c).fresh = s.fresh := (rfl)

end Sys2Proof.Machine
end

