-- ==== Sys2Proof/Laws/Tbl.lean ====
section
/-!
SUPPORT. The laws of the sparse table: reading after writing, and that every operation keeps the canonical form.
-/
namespace Sys2Proof

theorem Tbl.get_remove_same {α : Type} (d : Nat → α) (t : Tbl α) (k : Nat) : Tbl.get d (Tbl.remove t k) k = d k := by
  induction t with
  | nil => rfl
  | cons e t ih =>
    obtain ⟨k', v⟩ := e
    by_cases h : k' = k
    · simpa [Tbl.remove, h] using ih
    · simpa [Tbl.remove, h, Tbl.get] using ih

theorem Tbl.get_remove_ne {α : Type} (d : Nat → α) (t : Tbl α) (k j : Nat) (hne : j ≠ k) : Tbl.get d (Tbl.remove t k) j = Tbl.get d t j := by
  induction t with
  | nil => rfl
  | cons e t ih =>
    obtain ⟨k', v⟩ := e
    by_cases h : k' = k
    · subst h
      simpa [Tbl.remove, Tbl.get, Ne.symm hne] using ih
    · by_cases h2 : k' = j
      · subst h2; simp [Tbl.remove, h, Tbl.get]
      · simpa [Tbl.remove, h, Tbl.get, h2] using ih

theorem Tbl.get_insert_ne {α : Type} (d : Nat → α) (t : Tbl α) (k j : Nat) (v : α) (hne : j ≠ k) :
    Tbl.get d (Tbl.insert k v t) j = Tbl.get d t j := by
  induction t with
  | nil => simp [Tbl.insert, Tbl.get, Ne.symm hne]
  | cons e t ih =>
    obtain ⟨k', v'⟩ := e
    by_cases h : k < k'
    · simp [Tbl.insert, h, Tbl.get, Ne.symm hne]
    · simp [Tbl.insert, h, Tbl.get, ih]

theorem Tbl.get_insert_same {α : Type} (d : Nat → α) (t : Tbl α) (k : Nat) (v : α) (h : ∀ e ∈ t, e.1 ≠ k) :
    Tbl.get d (Tbl.insert k v t) k = v := by
  induction t with
  | nil => simp [Tbl.insert, Tbl.get]
  | cons e t ih =>
    obtain ⟨k', v'⟩ := e
    by_cases hlt : k < k'
    · simp [Tbl.insert, hlt, Tbl.get]
    · have hne : k' ≠ k := h _ (List.mem_cons_self ..)
      simp only [Tbl.insert, if_neg hlt, Tbl.get, if_neg hne]
      exact ih (fun e he => h e (List.mem_cons_of_mem _ he))

/-- A table reads back what was written. -/
@[simp] theorem Tbl.get_set_same {α : Type} [DecidableEq α] (d : Nat → α) (t : Tbl α) (k : Nat) (v : α) :
    Tbl.get d (Tbl.set d t k v) k = v := by
  by_cases h : v = d k
  · rw [Tbl.set, if_pos h, Tbl.get_remove_same, h]
  · rw [Tbl.set, if_neg h]
    exact Tbl.get_insert_same d _ k v (fun e he => by simpa [Tbl.remove] using (List.mem_filter.mp he).2)

/-- A write leaves every other key alone. -/
theorem Tbl.get_set_ne {α : Type} [DecidableEq α] (d : Nat → α) (t : Tbl α) (k j : Nat) (v : α) (hne : j ≠ k) :
    Tbl.get d (Tbl.set d t k v) j = Tbl.get d t j := by
  by_cases h : v = d k
  · rw [Tbl.set, if_pos h, Tbl.get_remove_ne d t k j hne]
  · rw [Tbl.set, if_neg h, Tbl.get_insert_ne d _ k j v hne, Tbl.get_remove_ne d t k j hne]

/-- What a key reads after any write. -/
theorem Tbl.get_set {α : Type} [DecidableEq α] (d : Nat → α) (t : Tbl α) (k j : Nat) (v : α) :
    Tbl.get d (Tbl.set d t k v) j = if j = k then v else Tbl.get d t j := by
  by_cases h : j = k
  · subst h; simp
  · rw [if_neg h, Tbl.get_set_ne d t k j v h]

/-- A key that a clear takes out reads its default, every other as before. -/
theorem Tbl.get_clear {α : Type} (d : Nat → α) (t : Tbl α) (p : Nat → Bool) (k : Nat) :
    Tbl.get d (Tbl.clear t p) k = if p k then d k else Tbl.get d t k := by
  induction t with
  | nil => simp [Tbl.clear, Tbl.get]
  | cons e t ih =>
    obtain ⟨k', v⟩ := e
    simp only [Tbl.clear] at ih
    by_cases h : k' = k
    · subst h
      cases hp : p k' <;> simp [Tbl.clear, hp, Tbl.get, ih]
    · cases hp : p k' <;> simp [Tbl.clear, hp, Tbl.get, h, ih]

/-! ### The canonical form -/

theorem Tbl.wfFrom_mono {α : Type} [DecidableEq α] (d : Nat → α) (t : Tbl α) (lo m : Nat) (h : lo ≤ m) :
    Tbl.wfFrom d m t = true → Tbl.wfFrom d lo t = true := by
  cases t with
  | nil => intro _; rfl
  | cons e t =>
    obtain ⟨k, v⟩ := e
    simp only [Tbl.wfFrom, Bool.and_eq_true, decide_eq_true_eq]
    intro ⟨⟨h1, h2⟩, h3⟩
    exact ⟨⟨by omega, h2⟩, h3⟩

theorem Tbl.wfFrom_filter {α : Type} [DecidableEq α] (d : Nat → α) (t : Tbl α) (p : Nat × α → Bool) (lo : Nat)
    (h : Tbl.wfFrom d lo t = true) : Tbl.wfFrom d lo (t.filter p) = true := by
  induction t generalizing lo with
  | nil => rfl
  | cons e t ih =>
    obtain ⟨k, v⟩ := e
    simp only [Tbl.wfFrom, Bool.and_eq_true, decide_eq_true_eq] at h
    cases hp : p (k, v)
    · simp only [List.filter, hp]
      exact Tbl.wfFrom_mono d _ lo (k + 1) (by omega) (ih (k + 1) h.2)
    · simp only [List.filter, hp, Tbl.wfFrom, Bool.and_eq_true, decide_eq_true_eq]
      exact ⟨h.1, ih (k + 1) h.2⟩

theorem Tbl.wfFrom_insert {α : Type} [DecidableEq α] (d : Nat → α) (t : Tbl α) (k : Nat) (v : α) (lo : Nat) (hk : lo ≤ k) (hv : v ≠ d k)
    (hne : ∀ e ∈ t, e.1 ≠ k) (h : Tbl.wfFrom d lo t = true) : Tbl.wfFrom d lo (Tbl.insert k v t) = true := by
  induction t generalizing lo with
  | nil => simp [Tbl.insert, Tbl.wfFrom, hk, hv]
  | cons e t ih =>
    obtain ⟨k', v'⟩ := e
    simp only [Tbl.wfFrom, Bool.and_eq_true, decide_eq_true_eq] at h
    have hk' : k' ≠ k := hne _ (List.mem_cons_self ..)
    by_cases hlt : k < k'
    · have : k + 1 ≤ k' := hlt
      simp [Tbl.insert, hlt, Tbl.wfFrom, hk, hv, this, h.1.2, h.2]
    · simp only [Tbl.insert, if_neg hlt, Tbl.wfFrom, Bool.and_eq_true, decide_eq_true_eq]
      exact ⟨h.1, ih (k' + 1) (by omega) (fun e he => hne e (List.mem_cons_of_mem _ he)) h.2⟩

/-- Writing an entry keeps the canonical form. -/
theorem Tbl.wf_set {α : Type} [DecidableEq α] (d : Nat → α) (t : Tbl α) (k : Nat) (v : α) (h : Tbl.wf d t = true) :
    Tbl.wf d (Tbl.set d t k v) = true := by
  have hr : Tbl.wfFrom d 0 (Tbl.remove t k) = true := Tbl.wfFrom_filter d t _ 0 h
  by_cases hv : v = d k
  · rw [Tbl.set, if_pos hv]; exact hr
  · rw [Tbl.set, if_neg hv]
    exact Tbl.wfFrom_insert d _ k v 0 (Nat.zero_le _) hv (fun e he => by simpa [Tbl.remove] using (List.mem_filter.mp he).2) hr

/-- Changing an entry keeps the canonical form. -/
theorem Tbl.wf_upd {α : Type} [DecidableEq α] (d : Nat → α) (t : Tbl α) (k : Nat) (f : α → α) (h : Tbl.wf d t = true) :
    Tbl.wf d (Tbl.upd d t k f) = true :=
  Tbl.wf_set d t k _ h

/-- Dropping entries keeps the canonical form. -/
theorem Tbl.wf_clear {α : Type} [DecidableEq α] (d : Nat → α) (t : Tbl α) (p : Nat → Bool) (h : Tbl.wf d t = true) :
    Tbl.wf d (Tbl.clear t p) = true :=
  Tbl.wfFrom_filter d t _ 0 h

/-- The canonical form depends on the defaults of the listed keys alone. -/
theorem Tbl.wfFrom_congr {α : Type} [DecidableEq α] (d e : Nat → α) (t : Tbl α) (lo : Nat) (h : ∀ x ∈ t, d x.1 = e x.1) :
    Tbl.wfFrom d lo t = Tbl.wfFrom e lo t := by
  induction t generalizing lo with
  | nil => rfl
  | cons x t ih =>
    obtain ⟨k, v⟩ := x
    simp only [Tbl.wfFrom]
    rw [h _ (List.mem_cons_self ..), ih (k + 1) (fun y hy => h y (List.mem_cons_of_mem _ hy))]

end Sys2Proof
end

