-- ==== Sys2Proof/Laws/Ops.lean ====
section
/-!
SUPPORT. What the shared operations over registers do, once each.
-/
namespace Sys2Proof.Machine

@[simp] theorem State.reg_setReg_same (s : State) (o : Nat) (v : BitVec 64) : (s.setReg o v).reg o = v := by
  simp [State.reg, State.setReg]

theorem State.reg_setReg_ne (s : State) (o p : Nat) (v : BitVec 64) (h : p ≠ o) : (s.setReg o v).reg p = s.reg p := by
  simp [State.reg, State.setReg, Tbl.get_set_ne _ _ _ _ _ h]

theorem State.reg_setReg (s : State) (o p : Nat) (v : BitVec 64) : (s.setReg o v).reg p = if p = o then v else s.reg p := by
  simp [State.reg, State.setReg, Tbl.get_set]

theorem State.reg_put_ne (s : State) (o p : Nat) (f : Fld) (v : Nat) (h : p ≠ o) : (s.put o f v).reg p = s.reg p :=
  State.reg_setReg_ne _ _ _ _ h

theorem State.reg_putFlag_ne (s : State) (o p : Nat) (f : Fld) (b : Bool) (h : p ≠ o) : (s.putFlag o f b).reg p = s.reg p :=
  State.reg_put_ne _ _ _ _ _ h

theorem State.reg_bump_ne (s : State) (o p n : Nat) (h : p ≠ o) : (s.bump o n).reg p = s.reg p :=
  State.reg_setReg_ne _ _ _ _ h

/-- A counter rises by what it is bumped by, mod 2^64. -/
theorem State.reg_bump_same (s : State) (o n : Nat) : (s.bump o n).reg o = s.reg o + BitVec.ofNat 64 n :=
  State.reg_setReg_same _ _ _

theorem State.reg_bumpSat_ne (s : State) (o p : Nat) (f : Fld) (n : Nat) (h : p ≠ o) : (s.bumpSat o f n).reg p = s.reg p :=
  State.reg_put_ne _ _ _ _ _ h

/-- The number a register holds after a field was put: the field replaced. -/
theorem State.toNat_put (s : State) (o : Nat) (f : Fld) (v : Nat) (h : f.lo + f.w ≤ 64) :
    ((s.put o f v).reg o).toNat = setBits (s.reg o).toNat f.lo f.w v := by
  have hv : (s.reg o).toNat < 2 ^ 64 := (s.reg o).isLt
  simp only [State.put, State.reg_setReg_same, BitVec.toNat_ofNat]
  exact Nat.mod_eq_of_lt (setBits_lt _ _ _ _ _ h hv)

/-- A field reads back what was put, mod its width. -/
theorem State.get_put_same (s : State) (o : Nat) (f : Fld) (v : Nat) (h : f.lo + f.w ≤ 64) : (s.put o f v).get o f = v % 2 ^ f.w := by
  rw [State.get, State.toNat_put s o f v h, bitsOf_setBits_same]

/-- Another field of the register keeps its value. -/
theorem State.get_put_disjoint (s : State) (o : Nat) (f g : Fld) (v : Nat) (h : f.lo + f.w ≤ 64)
    (hd : f.lo + f.w ≤ g.lo ∨ g.lo + g.w ≤ f.lo) : (s.put o f v).get o g = s.get o g := by
  rw [State.get, State.toNat_put s o f v h, State.get]
  rcases hd with hd | hd
  · exact bitsOf_setBits_above _ _ _ _ _ _ hd
  · exact bitsOf_setBits_below _ _ _ _ _ _ hd

/-- A field of another register keeps its value. -/
theorem State.get_put_ne (s : State) (o p : Nat) (f g : Fld) (v : Nat) (h : p ≠ o) : (s.put o f v).get p g = s.get p g := by
  rw [State.get, State.reg_put_ne s o p f v h, State.get]

theorem State.get_setReg_ne (s : State) (o p : Nat) (g : Fld) (v : BitVec 64) (h : p ≠ o) : (s.setReg o v).get p g = s.get p g := by
  rw [State.get, State.reg_setReg_ne s o p v h, State.get]

theorem State.get_bump_ne (s : State) (o p n : Nat) (g : Fld) (h : p ≠ o) : (s.bump o n).get p g = s.get p g :=
  State.get_setReg_ne _ _ _ _ _ h

/-- The field of a flag that was put. -/
theorem State.flag_putFlag_same (s : State) (o : Nat) (f : Fld) (b : Bool) (h : f.lo + f.w ≤ 64) (h1 : f.w = 1) :
    (s.putFlag o f b).flag o f = b := by
  cases b <;> simp [State.flag, State.putFlag, State.get_put_same s o f _ h, h1]

/-- Registers that are cleared hold their Reset values; the others keep theirs. -/
theorem State.reg_clearRegs (s : State) (p : Nat → Bool) (o : Nat) : (s.clearRegs p).reg o = if p o then regReset o else s.reg o := by
  simp [State.reg, State.clearRegs, Tbl.get_clear]

/-! ### Every register operation keeps the table canonical -/

theorem State.setReg_wf (s : State) (o : Nat) (v : BitVec 64) (h : Tbl.wf regReset s.regs = true) :
    Tbl.wf regReset (s.setReg o v).regs = true := Tbl.wf_set _ _ _ _ h

theorem State.put_wf (s : State) (o : Nat) (f : Fld) (v : Nat) (h : Tbl.wf regReset s.regs = true) :
    Tbl.wf regReset (s.put o f v).regs = true := Tbl.wf_set _ _ _ _ h

theorem State.clearRegs_wf (s : State) (p : Nat → Bool) (h : Tbl.wf regReset s.regs = true) :
    Tbl.wf regReset (s.clearRegs p).regs = true := Tbl.wf_clear _ _ _ h

/-! ### What is sent and counted changes no register -/

@[simp] theorem State.reg_send (s : State) (o : Nat) (x : Out) : (s.send x).reg o = s.reg o := (rfl)
@[simp] theorem State.get_send (s : State) (o : Nat) (f : Fld) (x : Out) : (s.send x).get o f = s.get o f := (rfl)
@[simp] theorem State.flag_send (s : State) (o : Nat) (f : Fld) (x : Out) : (s.send x).flag o f = s.flag o f := (rfl)
@[simp] theorem State.reg_tick (s : State) (o : Nat) : s.tick.reg o = s.reg o := (rfl)
@[simp] theorem State.reg_ticks (s : State) (n o : Nat) : (s.ticks n).reg o = s.reg o := (rfl)
@[simp] theorem State.send_out_append (s : State) (x : Out) : (s.send x).out = s.out ++ [x] := (rfl)

/-! ### Interrupts -/

/-- Where the pending bits of the MSI-X vectors stand (R532). -/
def pbaReg : Nat := R.GLOB_BASE + 0x9000

/-- A vector's message changes at most the pending bits and what has been sent. -/
theorem State.interrupt_cases (s : State) (v : Nat) :
    (s.interrupt v = s.send (.msix v) ∧ s.flag (R.GLOB_BASE + 0x8008 + 16 * v) F.MSIX_MASK = false) ∨
    (s.interrupt v = s.setReg pbaReg (s.reg pbaReg ||| BitVec.ofNat 64 (2 ^ v)) ∧
      s.flag (R.GLOB_BASE + 0x8008 + 16 * v) F.MSIX_MASK = true) := by
  unfold State.interrupt pbaReg
  split
  · next h => exact .inr ⟨rfl, h⟩
  · next h => exact .inl ⟨rfl, by simpa using h⟩

theorem State.interrupt_reg (s : State) (v o : Nat) (h : o ≠ pbaReg) : (s.interrupt v).reg o = s.reg o := by
  rcases s.interrupt_cases v with ⟨e, _⟩ | ⟨e, _⟩ <;> rw [e]
  · rfl
  · exact State.reg_setReg_ne _ _ _ _ h

theorem State.interruptIf_reg (s t : State) (v o : Nat) (h : o ≠ pbaReg) : (State.interruptIf s t v).reg o = t.reg o := by
  unfold State.interruptIf; split
  · exact State.interrupt_reg _ _ _ h
  · rfl

/-- A pending interrupt of a core changes no register. -/
@[simp] theorem State.raiseIrq_reg (s : State) (i code o : Nat) : (s.raiseIrq i code).reg o = s.reg o := (rfl)

/-- Setting an error bit with no alarm: the register holds the bits it held and the new ones. -/
theorem State.setErrOnly_same (s : State) (o : Nat) (f : Fld) (v : Nat) (h : o ≠ pbaReg) :
    (s.setErrOnly o f v).reg o = s.reg o ||| BitVec.ofNat 64 (v * 2 ^ f.lo) := by
  unfold State.setErrOnly
  simp only
  split
  · split
    · split <;> simp
    · simp
  · rw [State.interruptIf_reg _ _ _ _ h]; simp

theorem State.setErrOnly_ne (s : State) (o p : Nat) (f : Fld) (v : Nat) (h : p ≠ pbaReg) (hp : p ≠ o) :
    (s.setErrOnly o f v).reg p = s.reg p := by
  unfold State.setErrOnly
  simp only
  split
  · split
    · split <;> simp [State.reg_setReg_ne _ _ _ _ hp]
    · exact State.reg_setReg_ne _ _ _ _ hp
  · rw [State.interruptIf_reg _ _ _ _ h]; exact State.reg_setReg_ne _ _ _ _ hp

/-- An error bit that raises no alarm. -/
theorem State.setErr_noAlarm (s : State) (o : Nat) (f : Fld) (v : Nat) (h : alarmOf o f = none) : s.setErr o f v = s.setErrOnly o f v := by
  unfold State.setErr; simp only [h]

/-- A record kept by a unit changes no register. -/
@[simp] theorem State.unitAlarm_reg (s : State) (a : Nat) (x : Alarm) (o : Nat) : (s.unitAlarm a x).reg o = s.reg o := (rfl)

end Sys2Proof.Machine
end

