-- ==== Sys2Proof/Laws/Cores.lean ====
section
/-!
SUPPORT. What the shared operations of a Chotaum-W core do.
-/
namespace Sys2Proof.Machine

@[simp] theorem State.core_setCore_same (s : State) (i : Nat) (c : WCore) : (s.setCore i c).core i = c := by
  simp [State.core, State.setCore]

theorem State.core_setCore_ne (s : State) (i j : Nat) (c : WCore) (h : j ≠ i) : (s.setCore i c).core j = s.core j := by
  simp [State.core, State.setCore, Tbl.get_set_ne _ _ _ _ _ h]

@[simp] theorem State.reg_setCore (s : State) (i o : Nat) (c : WCore) : (s.setCore i c).reg o = s.reg o := by simp [State.reg]

/-- x0 reads as 0. -/
@[simp] theorem WCore.get_zero (c : WCore) : c.get 0 = 0 := rfl

/-- A write to x0 is discarded. -/
@[simp] theorem WCore.set_zero (c : WCore) (v : Nat) : c.set 0 v = c := rfl

/-- A register reads back what was written, mod 2^64; the others keep their values. -/
theorem WCore.get_set (c : WCore) (r q : Fin 32) (v : Nat) (h : r ≠ 0) : (c.set r v).get q = if q = r then v % two64 else c.get q := by
  unfold WCore.set WCore.get
  rw [if_neg h]
  by_cases hq : q = 0
  · simp [hq, Ne.symm h]
  · rw [if_neg hq, if_neg hq, Tbl.get_set]
    by_cases e : q = r
    · simp [e]
    · rw [if_neg e, if_neg (by intro hc; exact e (Fin.ext hc))]

/-- On a running core with a pc in an executable range and no error of its memories, an instruction comes to what its own function says. -/
theorem State.runOn_ready (s : State) (i : Nat) (f : WCore → WOut) (h : (s.core i).st = .running) (hi : s.islandStopped (coreIsland i) = false)
    (hp : canFetch i (s.core i).pc = true) :
    s.runOn i .ok f = .next (s.runWord i (f (s.core i))) := by
  simp [State.runOn, h, hp, hi]

/-- An uncorrectable error of a core's memories raises SRAM_UE and is recorded, whatever the instruction. -/
theorem State.runOn_ue (s : State) (i : Nat) (a : Word) (f : WCore → WOut) (h : (s.core i).st = .running) (hi : s.islandStopped (coreIsland i) = false)
    (hp : canFetch i (s.core i).pc = true) :
    s.runOn i (.ue a) f = .next ((s.takeExc i (s.core i).pc ecSramUe a.toNat).setErr R.WELL_ERR F.WELL_ERR_SRAM_UE) := by
  simp [State.runOn, h, hp, hi]

/-- A corrected error is recorded, and the instruction comes to what its own function says. -/
theorem State.runOn_corrected (s : State) (i : Nat) (f : WCore → WOut) (h : (s.core i).st = .running) (hi : s.islandStopped (coreIsland i) = false)
    (hp : canFetch i (s.core i).pc = true) :
    s.runOn i .corrected f = .next ((s.runWord i (f (s.core i))).setErr R.WELL_ERR F.WELL_ERR_SRAM_CE) := by
  simp [State.runOn, h, hp, hi]

/-- A synchronous exception with EXL 0 is an entry; with EXL 1 it stops the core. -/
theorem State.takeExc_entry (s : State) (i epc cause eval : Nat) (h : (s.core i).exl = false) :
    s.takeExc i epc cause eval = s.setCore i ((s.core i).enter epc cause eval) := by
  simp [State.takeExc, h]

/-- Everything one instruction can come to on a core: nothing, an exception before it runs, or the outcome of its own function, and no more than one bit
of WELL_ERR beside. -/
theorem State.runOn_cases (s : State) (i : Nat) (ecc : Ecc) (f : WCore → WOut) :
    s.runOn i ecc f = .next s ∨ s.runOn i ecc f = .next (s.takeExc i (s.core i).pc ecFetch (s.core i).pc) ∨
    (∃ a : Word, s.runOn i ecc f = .next ((s.takeExc i (s.core i).pc ecSramUe a.toNat).setErr R.WELL_ERR F.WELL_ERR_SRAM_UE)) ∨
    s.runOn i ecc f = .next ((s.runWord i (f (s.core i))).setErr R.WELL_ERR F.WELL_ERR_SRAM_CE) ∨
    s.runOn i ecc f = .next (s.runWord i (f (s.core i))) := by
  unfold State.runOn
  simp only
  split
  · exact .inl rfl
  · split
    · exact .inr (.inl rfl)
    · cases ecc with
      | ok => exact .inr (.inr (.inr (.inr rfl)))
      | corrected => exact .inr (.inr (.inr (.inl rfl)))
      | ue a => exact .inr (.inr (.inl ⟨a, rfl⟩))

end Sys2Proof.Machine
end

