-- ==== Sys2Proof/Laws/Link.lean ====
section
/-!
SUPPORT. What the shared operations of a link end do.
-/
namespace Sys2Proof.Machine

/-! ### The registers of a block lie apart -/

theorem mere_offsets (n a b : Nat) (h : a ≠ b) : R.MERE_BASE n + a ≠ R.MERE_BASE n + b := by omega

/-- The link's record reads back. -/
@[simp] theorem State.link_setLink_same (s : State) (n : Nat) (l : Link) : (s.setLink n l).link n = l := by
  simp [State.link, State.setLink]

@[simp] theorem State.setLink_fab (s : State) (n : Nat) (l : Link) :
    (s.setLink n l).fab = { s.fab with links := Tbl.set (fun _ => {}) s.fab.links n l } := by simp [State.setLink]

theorem State.link_setLink_ne (s : State) (n m : Nat) (l : Link) (h : m ≠ n) : (s.setLink n l).link m = s.link m := by
  simp [State.link, State.setLink, Tbl.get_set_ne _ _ _ _ _ h]

@[simp] theorem State.link_put (s : State) (n o : Nat) (f : Fld) (v : Nat) : (s.put o f v).link n = s.link n := by simp [State.link]
@[simp] theorem State.link_putFlag (s : State) (n o : Nat) (f : Fld) (b : Bool) : (s.putFlag o f b).link n = s.link n := by simp [State.link]
@[simp] theorem State.link_bump (s : State) (n o k : Nat) : (s.bump o k).link n = s.link n := by simp [State.link]
@[simp] theorem State.link_setReg (s : State) (n o : Nat) (v : BitVec 64) : (s.setReg o v).link n = s.link n := by simp [State.link]
@[simp] theorem State.link_send (s : State) (n : Nat) (x : Out) : (s.send x).link n = s.link n := by simp [State.link]
@[simp] theorem State.link_setLinkState (s : State) (n m v : Nat) : (s.setLinkState n v).link m = s.link m := by simp [State.setLinkState]

/-- The link records alone. -/
def State.setLinkRec (s : State) (n : Nat) (l : Link) : State :=
  { s with fab := { s.fab with links := Tbl.set (fun _ => {}) s.fab.links n l } }

theorem State.setLink_eq (s : State) (n : Nat) (l : Link) : s.setLink n l =
    (((s.setLinkRec n l).put (R.MERE_LINKSTAT n) F.MERE_LINKSTAT_TX_SEQ (l.oldest + l.held.length)).put
      (R.MERE_LINKSTAT n) F.MERE_LINKSTAT_RX_NEXT l.expect).put (R.MERE_LINKSTAT n) F.MERE_LINKSTAT_UNACKED l.held.length := by
  simp only [State.setLink, State.setLinkRec]

@[simp] theorem State.reg_setLinkRec (s : State) (n o : Nat) (l : Link) : (s.setLinkRec n l).reg o = s.reg o := by simp [State.reg, State.setLinkRec]
@[simp] theorem State.get_setLinkRec (s : State) (n o : Nat) (l : Link) (f : Fld) : (s.setLinkRec n l).get o f = s.get o f := by
  simp [State.get]

/-- Writing a link's record changes one register, MERE_LINKSTAT of that link. -/
theorem State.reg_setLink_ne (s : State) (n o : Nat) (l : Link) (h : o ≠ R.MERE_LINKSTAT n) : (s.setLink n l).reg o = s.reg o := by
  simp [State.setLink_eq, State.reg_put_ne _ _ _ _ _ h]

/-- Writing a link's record leaves STATE, WIDTH and GOOD_MASK as they stand. -/
theorem State.get_setLink (s : State) (n o : Nat) (l : Link) (f : Fld) (h : f.lo + f.w ≤ 24) : (s.setLink n l).get o f = s.get o f := by
  by_cases ho : o = R.MERE_LINKSTAT n
  · subst ho
    rw [State.setLink_eq,
      State.get_put_disjoint _ _ _ _ _ (by decide) (.inr (by simp only [F.MERE_LINKSTAT_UNACKED]; omega)),
      State.get_put_disjoint _ _ _ _ _ (by decide) (.inr (by simp only [F.MERE_LINKSTAT_RX_NEXT]; omega)),
      State.get_put_disjoint _ _ _ _ _ (by decide) (.inr (by simp only [F.MERE_LINKSTAT_TX_SEQ]; omega)), State.get_setLinkRec]
  · simp only [State.get, State.reg_setLink_ne s n o l ho]

@[simp] theorem State.linkState_setLink (s : State) (n m : Nat) (l : Link) : (s.setLink n l).linkState m = s.linkState m := by
  unfold State.linkState
  exact State.get_setLink _ _ _ _ _ (by decide)

@[simp] theorem State.linkState_setLinkState (s : State) (n v : Nat) : (s.setLinkState n v).linkState n = v % 8 := by
  unfold State.setLinkState State.linkState
  rw [State.get_put_same _ _ _ _ (by decide)]
  rfl

theorem State.linkState_setLinkState_ne (s : State) (n m v : Nat) (h : R.MERE_LINKSTAT m ≠ R.MERE_LINKSTAT n) :
    (s.setLinkState n v).linkState m = s.linkState m := by
  unfold State.setLinkState State.linkState
  exact State.get_put_ne _ _ _ _ _ _ h

theorem State.reg_setLinkState_ne (s : State) (n o v : Nat) (h : o ≠ R.MERE_LINKSTAT n) : (s.setLinkState n v).reg o = s.reg o := by
  unfold State.setLinkState
  exact State.reg_put_ne _ _ _ _ _ h

@[simp] theorem State.linkState_send (s : State) (n : Nat) (x : Out) : (s.send x).linkState n = s.linkState n := by simp [State.linkState]

@[simp] theorem State.out_setLink (s : State) (n : Nat) (l : Link) : (s.setLink n l).out = s.out := by simp [State.setLink_eq, State.setLinkRec]
@[simp] theorem State.out_setLinkState (s : State) (n v : Nat) : (s.setLinkState n v).out = s.out := by simp [State.setLinkState]
@[simp] theorem State.out_updLink (s : State) (n : Nat) (f : Link → Link) : (s.updLink n f).out = s.out := by simp [State.updLink]
@[simp] theorem State.link_updLink_same (s : State) (n : Nat) (f : Link → Link) : (s.updLink n f).link n = f (s.link n) := by
  simp [State.updLink]
@[simp] theorem State.linkState_updLink (s : State) (n m : Nat) (f : Link → Link) : (s.updLink n f).linkState m = s.linkState m := by
  simp [State.updLink]
theorem State.reg_updLink_ne (s : State) (n o : Nat) (f : Link → Link) (h : o ≠ R.MERE_LINKSTAT n) : (s.updLink n f).reg o = s.reg o := by
  unfold State.updLink
  exact State.reg_setLink_ne _ _ _ _ h
/-- A flit's going out changes no register but MERE_LINKSTAT of its link. -/
theorem State.reg_emitFlit_ne (s : State) (n o h : Nat) (d : List Byte) (ho : o ≠ R.MERE_LINKSTAT n) :
    (s.emitFlit n h d).reg o = s.reg o := by
  simp [State.emitFlit, State.reg_updLink_ne _ _ _ _ ho]

/-- STATE is kept by every operation on a register other than MERE_LINKSTAT. -/
theorem State.linkState_put_ne (s : State) (n o : Nat) (f : Fld) (v : Nat) (h : R.MERE_LINKSTAT n ≠ o) :
    (s.put o f v).linkState n = s.linkState n := by
  unfold State.linkState; exact State.get_put_ne _ _ _ _ _ _ h
theorem State.linkState_bump_ne (s : State) (n o k : Nat) (h : R.MERE_LINKSTAT n ≠ o) :
    (s.bump o k).linkState n = s.linkState n := by
  unfold State.linkState; exact State.get_bump_ne _ _ _ _ _ h

/-- A flit's going out clears the count of unreported flits and changes nothing else of the link. -/
@[simp] theorem State.link_emitFlit (s : State) (n h : Nat) (d : List Byte) : (s.emitFlit n h d).link n = { s.link n with unreported := 0 } := by
  simp [State.emitFlit]

@[simp] theorem State.linkState_emitFlit (s : State) (n h : Nat) (d : List Byte) : (s.emitFlit n h d).linkState n = s.linkState n := by
  simp [State.emitFlit]

/-- The width and the mask a link's lanes follow from are kept by a write of its record. -/
@[simp] theorem State.lanesUsed_updLink (s : State) (n : Nat) (f : Link → Link) : (s.updLink n f).lanesUsed n = s.lanesUsed n := by
  simp only [State.lanesUsed, State.updLink, State.get_setLink _ _ _ _ _ (show F.MERE_LINKSTAT_WIDTH.lo + F.MERE_LINKSTAT_WIDTH.w ≤ 24 by decide),
    State.get_setLink _ _ _ _ _ (show F.MERE_LINKSTAT_GOOD_MASK.lo + F.MERE_LINKSTAT_GOOD_MASK.w ≤ 24 by decide)]

@[simp] theorem State.out_emitFlit (s : State) (n h : Nat) (d : List Byte) :
    (s.emitFlit n h d).out = s.out ++ [.flit n (s.linkState n != lsActive) (s.lanesUsed n) (flitOf h d)] := by
  simp [State.emitFlit, State.send, State.updLink, State.setLink_eq, State.setLinkRec]

/-- A link that is not ACTIVE sends no sequenced flits. -/
theorem State.pumpLink_inactive (s : State) (n fuel : Nat) (h : s.linkActive n = false) : s.pumpLink n fuel = s := by
  cases fuel with
  | zero => rfl
  | succ k => simp [State.pumpLink, h]

/-- A port whose island has stopped sends nothing. -/
theorem State.pumpLink_stopped (s : State) (n fuel : Nat) (h : s.islandStopped (portIsland n) = true) : s.pumpLink n fuel = s := by
  cases fuel with
  | zero => rfl
  | succ k => simp [State.pumpLink, h]

/-- With nothing queued and nothing owed nothing is sent. -/
theorem State.pumpLink_empty (s : State) (n fuel : Nat) (h : (s.link n).queue = []) (h' : (s.link n).owed = [0, 0, 0, 0, 0, 0]) :
    s.pumpLink n fuel = s := by
  cases fuel with
  | zero => rfl
  | succ k =>
    have hn : s.nextToSend n = none := by simp [State.nextToSend, h]
    unfold State.pumpLink
    split
    · rfl
    · simp [hn, h']

end Sys2Proof.Machine
end

