-- ==== Sys2Proof/Laws/Pool.lean ====
section
/-!
SUPPORT. The pool: reading after writing, what a write leaves alone, and that every operation keeps the canonical form.
-/
namespace Sys2Proof.Machine

/-! ### Bytes -/

@[simp] theorem Pool.byte_setByte_same (p : Pool) (a : Nat) (b : Byte) : (p.setByte a b).byte a = b := by
  simp [Pool.byte, Pool.setByte]

theorem Pool.byte_setByte_ne (p : Pool) (a c : Nat) (b : Byte) (h : c ≠ a) : (p.setByte a b).byte c = p.byte c := by
  simp [Pool.byte, Pool.setByte, Tbl.get_set_ne _ _ _ _ _ h]

@[simp] theorem Pool.side_writeBytes (p : Pool) (a : Nat) (d : List Byte) : (p.writeBytes a d).side = p.side := by
  induction d generalizing p a with
  | nil => rfl
  | cons b t ih => simp [Pool.writeBytes, ih, Pool.setByte]

@[simp] theorem Pool.fills_writeBytes (p : Pool) (a : Nat) (d : List Byte) : (p.writeBytes a d).fills = p.fills := by
  induction d generalizing p a with
  | nil => rfl
  | cons b t ih => simp [Pool.writeBytes, ih, Pool.setByte]

/-- A write leaves every byte outside it alone. -/
theorem Pool.byte_writeBytes_out (p : Pool) (a c : Nat) (d : List Byte) (h : c < a ∨ a + d.length ≤ c) : (p.writeBytes a d).byte c = p.byte c := by
  induction d generalizing p a with
  | nil => rfl
  | cons b t ih =>
    simp only [List.length_cons] at h
    rw [Pool.writeBytes, ih _ _ (by omega), Pool.byte_setByte_ne _ _ _ _ (by omega)]

/-- A byte that was written reads as written. -/
theorem Pool.byte_writeBytes_in (p : Pool) (a i : Nat) (d : List Byte) (h : i < d.length) : (p.writeBytes a d).byte (a + i) = d[i] := by
  induction d generalizing p a i with
  | nil => simp at h
  | cons b t ih =>
    rw [Pool.writeBytes]
    cases i with
    | zero => rw [Pool.byte_writeBytes_out _ _ _ _ (by omega)]; simp
    | succ n =>
      have := ih (p.setByte a b) (a + 1) n (by simpa using h)
      rw [show a + (n + 1) = a + 1 + n by omega, this]; rfl

theorem Pool.length_bytes (p : Pool) (a n : Nat) : (p.bytes a n).length = n := by
  induction n generalizing a with
  | zero => rfl
  | succ n ih => simp [Pool.bytes, ih]

theorem Pool.getElem_bytes (p : Pool) (a n i : Nat) (h : i < (p.bytes a n).length) : (p.bytes a n)[i] = p.byte (a + i) := by
  induction n generalizing a i with
  | zero => simp [Pool.bytes] at h
  | succ n ih =>
    cases i with
    | zero => rfl
    | succ i =>
      have := ih (a + 1) i (by simpa [Pool.bytes] using h)
      simpa [Pool.bytes, show a + (i + 1) = a + 1 + i by omega] using this

/-- What was written is read back. -/
theorem Pool.bytes_writeBytes (p : Pool) (a : Nat) (d : List Byte) : (p.writeBytes a d).bytes a d.length = d := by
  apply List.ext_getElem (Pool.length_bytes _ _ _)
  intro i h1 h2
  rw [Pool.getElem_bytes, Pool.byte_writeBytes_in _ _ _ _ h2]

/-! ### Lines -/

@[simp] theorem Pool.line_setLine_same (p : Pool) (pa : Nat) (x : Side) : (p.setLine pa x).line pa = x := by
  simp [Pool.line, Pool.setLine]

theorem Pool.line_setLine_ne (p : Pool) (pa q : Nat) (x : Side) (h : q / 64 ≠ pa / 64) : (p.setLine pa x).line q = p.line q := by
  simp [Pool.line, Pool.setLine, Tbl.get_set_ne _ _ _ _ _ h]

@[simp] theorem Pool.line_writeBytes (p : Pool) (a q : Nat) (d : List Byte) : (p.writeBytes a d).line q = p.line q := by
  simp [Pool.line]

@[simp] theorem Pool.byte_setLine (p : Pool) (pa a : Nat) (x : Side) : (p.setLine pa x).byte a = p.byte a := (rfl)

@[simp] theorem Pool.bytes_setLine (p : Pool) (pa a n : Nat) (x : Side) : (p.setLine pa x).bytes a n = p.bytes a n := by
  induction n generalizing a with
  | zero => rfl
  | succ n ih => simp [Pool.bytes, ih]

/-! ### The canonical form -/

theorem Pool.setByte_wf (p : Pool) (a : Nat) (b : Byte) (h : p.wf = true) : (p.setByte a b).wf = true := by
  simp only [Pool.wf, Bool.and_eq_true] at h ⊢
  exact ⟨Tbl.wf_set _ _ _ _ h.1, h.2⟩

theorem Pool.writeBytes_wf (p : Pool) (a : Nat) (d : List Byte) (h : p.wf = true) : (p.writeBytes a d).wf = true := by
  induction d generalizing p a with
  | nil => exact h
  | cons b t ih => exact ih _ _ (Pool.setByte_wf p a b h)

theorem Pool.setLine_wf (p : Pool) (pa : Nat) (x : Side) (h : p.wf = true) : (p.setLine pa x).wf = true := by
  simp only [Pool.wf, Bool.and_eq_true] at h ⊢
  exact ⟨h.1, Tbl.wf_set _ _ _ _ h.2⟩

/-- A fill drops what it covers, and leaves what an unlisted byte it does not cover reads as. -/
theorem Pool.fill_wf (p : Pool) (f : Fill) (h : p.wf = true) : (p.fill f).wf = true := by
  simp only [Pool.wf, Bool.and_eq_true] at h ⊢
  refine ⟨?_, ?_⟩
  · have hc := Tbl.wf_clear (bgByte p.fills) p.cells (fun a => f.covers a) h.1
    have e := Tbl.wfFrom_congr (bgByte (f :: p.fills)) (bgByte p.fills) (Tbl.clear p.cells (fun a => f.covers a)) 0 (by
      intro x hx
      have hn : f.covers x.1 = false := by simpa [Tbl.clear] using (List.mem_filter.mp hx).2
      simp [bgByte, lastFill, List.find?, hn])
    exact e.trans hc
  · have hc := Tbl.wf_clear (bgSide p.fills) p.side (fun l => f.covers (64 * l)) h.2
    have e := Tbl.wfFrom_congr (bgSide (f :: p.fills)) (bgSide p.fills) (Tbl.clear p.side (fun l => f.covers (64 * l))) 0 (by
      intro x hx
      have hn : f.covers (64 * x.1) = false := by simpa [Tbl.clear] using (List.mem_filter.mp hx).2
      simp [bgSide, lastFill, List.find?, hn])
    exact e.trans hc

theorem Pool.sysWrite_wf (p : Pool) (a : Nat) (d : List Byte) (kslot kgen : Nat) (h : p.wf = true) : (p.sysWrite a d kslot kgen).wf = true := by
  have key : ∀ (l : List Nat) (q : Pool), q.wf = true → (l.foldl (fun q i =>
      let la := a / 64 * 64 + 64 * i
      if la < a + d.length then q.setLine la { q.line la with poison := false, valid := true, kslot := kslot, kgen := kgen } else q) q).wf = true := by
    intro l
    induction l with
    | nil => exact fun q hq => hq
    | cons i l ih =>
      intro q hq
      refine ih _ ?_
      simp only
      split
      · exact Pool.setLine_wf _ _ _ hq
      · exact hq
  exact key _ _ (Pool.writeBytes_wf _ _ _ h)

/-- The pool after reset lists nothing. -/
theorem Pool.reset_wf : State.reset.pool.wf = true := by decide

/-! ### Errors and messages leave the pool alone -/

@[simp] theorem State.pool_setReg (s : State) (o : Nat) (v : BitVec 64) : (s.setReg o v).pool = s.pool := (rfl)
@[simp] theorem State.pool_put (s : State) (o : Nat) (f : Fld) (v : Nat) : (s.put o f v).pool = s.pool := (rfl)
@[simp] theorem State.pool_putFlag (s : State) (o : Nat) (f : Fld) (b : Bool) : (s.putFlag o f b).pool = s.pool := (rfl)
@[simp] theorem State.pool_bump (s : State) (o n : Nat) : (s.bump o n).pool = s.pool := (rfl)
@[simp] theorem State.pool_send (s : State) (x : Out) : (s.send x).pool = s.pool := (rfl)
@[simp] theorem State.pool_tick (s : State) : s.tick.pool = s.pool := (rfl)

theorem State.pool_interrupt (s : State) (v : Nat) : (s.interrupt v).pool = s.pool := by
  rcases s.interrupt_cases v with ⟨e, _⟩ | ⟨e, _⟩ <;> rw [e] <;> rfl

/-- An error bit whose condition sends a message but raises no alarm leaves the pool alone; an alarm may write an event record. -/
theorem State.pool_setErrOnly (s : State) (o : Nat) (f : Fld) (v : Nat) : (s.setErrOnly o f v).pool = s.pool := by
  unfold State.setErrOnly
  simp only
  split
  · split
    · split <;> rfl
    · rfl
  · unfold State.interruptIf
    split
    · rw [State.pool_interrupt]; rfl
    · rfl

end Sys2Proof.Machine
end

