-- ==== Sys2Proof/Tests/Slice0.lean ====
section
/-!
SUPPORT. The model's own tests: witnesses that the statements' hypotheses can be met, terms that are not well formed, and worked examples.
-/
namespace Sys2Proof.Tests
open Sys2Proof Sys2Proof.Machine

theorem wit_StepRunsFrontCommand : State.reset.pending = [] := rfl

/-- A state with link 0 in a training state. -/
def linkIn (v : Nat) : State := State.reset.setLinkState 0 v
theorem wit_LinkTrains :
    ((State.reset.put R.GLOB_STATUS F.GLOB_STATUS_PHASE 3).linkState 0 = lsOff ∧ (State.reset.put R.GLOB_STATUS F.GLOB_STATUS_PHASE 3).linkFree 0 = true) ∧
    ((linkIn 1).linkState 0 = lsDetect ∧ fewestLanes 0 ≤ popCount 0x3 (lanesOf 0)) ∧ popCount 0x1 (lanesOf 0) < fewestLanes 0 ∧
    (linkIn 2).linkState 0 = lsEqualise ∧
    ((linkIn 3).linkState 0 = lsTest ∧ ((linkIn 3).link 0).ownPass = none ∧ ((linkIn 3).link 0).peerPass = none) := by decide

/-- An ACTIVE link 0 that holds one flit and has one packet of class 0 queued, and no credits. -/
def linkBusy : State :=
  (linkIn 5).setLink 0 { held := [{ seq := 0, credit := true, ends := [], first := 15, returns := [], payload := [] }], unreported := 1, nakFor := some 0,
                         queue := [{ op := "CMP", ep := 1, txn := 1, cls := 0, body := List.replicate 16 0, final := true, resent := false }] }
/-- A sequenced flit of SEQ 0 and ACK 4,095 with an empty payload. -/
def emptyFlit : List Byte := flitOf 0xFFF000 []
theorem wit_LinkAcknowledges :
    ((linkIn 5).linkHears 0 = true ∧ (linkIn 5).islandStopped (portIsland 0) = false ∧ ((linkIn 5).countFec 0 []).flitIn 0 true [] [] = none ∧
      ((linkIn 5).link 0).nakFor ≠ some ((linkIn 5).link 0).expect) ∧ (linkIn 1).linkState 0 < lsEqualise ∧
    (linkBusy.linkHears 0 = true ∧ (linkBusy.link 0).nakFor = some (linkBusy.link 0).expect ∧ (linkBusy.link 0).unreported ≠ 0) ∧
    (linkBusy.linkActive 0 = true ∧ (linkBusy.link 0).held ≠ [] ∧ (linkBusy.link 0).replays < 2) ∧ linkBusy.creditStarved 0 0 = true := by decide
set_option maxRecDepth 100000 in
theorem wit_LinkAcknowledges_flit :
    ((linkIn 5).countFec 0 []).flitIn 0 true [(0, emptyFlit)] [] = some emptyFlit ∧ (linkIn 5).linkActive 0 = true ∧
    leNat (emptyFlit.take 8) = ((linkIn 5).link 0).expect + (((linkIn 5).link 0).oldest + 4095) % 4096 * 2 ^ 12 ∧
    (emptyFlit.drop 8).take 240 = List.replicate 240 0 ∧ ((linkIn 5).link 0).queue = [] ∧ ((linkIn 5).link 0).owed = [0, 0, 0, 0, 0, 0] ∧
    ((linkIn 5).link 0).expect < 4096 ∧ ((linkIn 5).link 0).oldest < 4096 ∧ ((linkIn 5).link 0).unreported < 63 ∧
    ((linkIn 5).link 0).partSlots = [] := by decide

/-- Link 0 in QUIESCE with an own request of rank 3. -/
def linkAsking : State := (linkIn 6).setLink 0 { ownReq := some 3, rank := 3, ctl := some { code := ctlReq, rank := 3 } }
/-- Link 0 in CONFIG, having sent CONFIG of width 4. -/
def linkConfig : State := (linkIn 4).setLink 0 { rank := 2, ctl := some { code := ctlConfig, width := 4, mask := 15 } }
theorem wit_LinkNegotiates :
    (linkIn 5).linkState 0 = lsActive ∧ (linkAsking.linkState 0 = lsQuiesce ∧ (linkAsking.link 0).ownReq = some 3) ∧
    (linkConfig.linkState 0 = lsConfig ∧ (linkConfig.link 0).full = false ∧ linkConfig.reg (R.MERE_PORTID 0) ≠ 9 ∧ linkConfig.configWidth 0 4 15 = some 1) ∧
    ((linkConfig.link 0).ctl = some { code := ctlConfig, width := widthOf 0 1, mask := 15 }) ∧
    (linkAsking.link 0).ctl = some { code := ctlReq, rank := 3 } ∧
    (lsEqualise ≤ linkConfig.linkState 0 ∧ linkConfig.linkState 0 ≠ lsActive ∧ 2 ≤ (linkConfig.link 0).rank) := by decide

/-- Endpoint 1 routed to links 0 and 1, a packet waiting on link 0, which is not ACTIVE. -/
def routed : State :=
  (((State.reset.setLink 0 { queue := [{ op := "CMP", ep := 1, txn := 1, cls := 0, body := List.replicate 16 0, final := true, resent := false }] }).put
    (R.ROUTE 1) F.ROUTE_ALT 1).put (R.ROUTE 1) F.ROUTE_VALID 1)
theorem wit_LinkCommands :
    ((linkIn 5).linkState 0 = lsActive ∧ ((linkIn 5).recentRetrains 0).length < 3 ∧ 7 ≠ (linkIn 5).get (R.MERE_LANECFG 0) F.MERE_LANECFG_EXCLUDE ∧
      (3 < lanesOf 0 ∧ 1 ≤ (linkIn 5).get (R.MERE_LANECFG 0) F.MERE_LANECFG_WINDOW_US ∧ (linkIn 5).get (R.MERE_LANECFG 0) F.MERE_LANECFG_UNCORR_THR ≤ 100)) ∧
    (linkIn 5).get (R.MERE_CTRL 0) F.MERE_CTRL_REVERT_MS ≠ 0 ∧
    (routed.route 1 F.ROUTE_VALID = 1 ∧ routed.linkActive (routed.route 1 F.ROUTE_PRIMARY) = false ∧
      routed.linkActive (routed.route 1 F.ROUTE_ALT) = false ∧ (routed.link (routed.route 1 F.ROUTE_PRIMARY)).queue.any (fun q => q.ep == 1) = true) ∧
    bitsOf 0x48 0 3 ≠ bitsOf 0x48 3 3 ∧ (bitOf 0x40 6 = true ∧ bitsOf 0x40 0 3 = bitsOf 0x40 3 3) := by decide

theorem wit_CoreComputes : coreReady State.reset 0 ∧ aluOf 0x001 = some .add ∧ aluOf 0x018 = some .popc ∧ 0x3F < 0x40 ∧ 0x7F < 0x80 ∧ 0xBF < 0xC0 ∧
    0xFF < 0x100 := by unfold coreReady; decide

theorem wit_DivisionNeverRaises : coreReady State.reset 0 ∧ (State.reset.core 0).get 2 = 0 ∧
    ((((State.reset.core 0).set 1 (2 ^ 63)).set 2 (2 ^ 64 - 1)).get 1 = 2 ^ 63) ∧ ((((State.reset.core 0).set 1 (2 ^ 63)).set 2 (2 ^ 64 - 1)).get 2 = 2 ^ 64 - 1) := by
  unfold coreReady; decide

theorem wit_CoreLoadsAndStores : coreReady State.reset 0 ∧
    State.reset.coreLoad 0 (State.reset.core 0) (((State.reset.core 0).get 1 + (0x10 : BitVec 16).signExtend 64 |>.toNat) % 2 ^ 64) 8 [] =
      (State.reset, .val (List.replicate 8 0)) ∧
    State.reset.coreStore 0 (State.reset.core 0) (((State.reset.core 0).get 1 + ((0x10 : BitVec 16).signExtend 64).toNat) % 2 ^ 64)
      (leBytes ((State.reset.core 0).get 2) 8) [] = (State.reset, some (State.reset.core 0)) ∧
    State.reset.sameCore State.reset (State.reset.core 0) (State.reset.core 0) = true := by unfold coreReady; decide

/-- Core 0 as reset leaves it, with a register set and EXL as given. -/
def coreWith (r : Fin 32) (v : Nat) (exl : Bool) : State :=
  State.reset.setCore 0 ({ State.reset.core 0 with status := if exl then 2 else 0 }.set r v)
theorem wit_CoreFaultsOnAccess :
    (coreReady (coreWith 1 7 false) 0 ∧ ((coreWith 1 7 false).core 0).exl = false ∧ (((coreWith 1 7 false).core 0).get 1 + 0) % 2 ^ 64 % 2 ≠ 0) ∧
    (coreReady (coreWith 1 7 true) 0 ∧ ((coreWith 1 7 true).core 0).exl = true) ∧
    ((coreWith 1 0x80000000 false).coreLoad 0 ((coreWith 1 0x80000000 false).core 0) 0x80000000 8 [] = (coreWith 1 0x80000000 false, .fault)) ∧
    ((coreWith 1 0x80000000 false).coreStore 0 ((coreWith 1 0x80000000 false).core 0) 0x80000000 (leBytes 0 8) [] =
      (coreWith 1 0x80000000 false, none)) := by unfold coreReady; decide

theorem wit_CoreBranches : coreReady State.reset 0 ∧
    canFetch 0 (((State.reset.core 0).pc + ((4 : BitVec 16).signExtend 64).toNat * 4) % 2 ^ 64) = true ∧
    canFetch 0 (((State.reset.core 0).pc + ((4 : BitVec 21).signExtend 64).toNat * 4) % 2 ^ 64) = true ∧
    canFetch 0 (((State.reset.core 0).get 0 + ((8 : BitVec 16).signExtend 64).toNat) % 2 ^ 64 / 4 * 4) = true ∧
    (State.reset.core 0).exl = false ∧
    canFetch 0 (((State.reset.core 0).get 0 + ((0xFFF0 : BitVec 16).signExtend 64).toNat) % 2 ^ 64 / 4 * 4) = false := by unfold coreReady; decide

/-- Core 0 with one message in its receive queue. -/
def coreMail : State := State.reset.setCore 0 { State.reset.core 0 with recvq := [List.replicate 64 7] }
theorem wit_CoreSystem :
    (coreReady State.reset 0 ∧ (State.reset.core 0).stores = [] ∧ (State.reset.core 0).ip = 0 ∧ (State.reset.core 0).recvq = [] ∧
      (State.reset.core 0).pendingCode = none) ∧
    (atomFnOk 0x60A = true ∧ (State.reset.core 0).get 3 = 0) ∧
    (hierUnits 0x1000 ≠ [] ∧ (State.reset.core 0).get 4 % 64 = 0 ∧ (State.reset.core 0).sendq.length < 16) ∧
    (coreReady coreMail 0 ∧ (coreMail.core 0).recvq = List.replicate 64 7 :: []) := by unfold coreReady; decide

theorem wit_ControlRegisterInstructions : coreReady State.reset 0 ∧ (State.reset.core 0).exl = false ∧
    (State.reset.csrRead 0 (State.reset.core 0) 0x019 = some (State.reset, State.reset.core 0, 0) ∧ csrReadOnly 0x019 = false) ∧
    State.reset.csrRead 0 (State.reset.core 0) 0x004 = none ∧ csrReadOnly 0x017 = true ∧ 0x1000 ≤ (0x1019#16).toNat := by unfold coreReady; decide

/-- Core 0 with a message received, its interrupt enabled, and IE 1. -/
def coreIrq : State := State.reset.setCore 0 { State.reset.core 0 with recvq := [[]], ie := 4, status := 1 }
theorem wit_ExceptionEntry :
    (coreReady State.reset 0 ∧ (State.reset.core 0).exl = false ∧ legalWord 0xFC000000 = false) ∧
    (coreReady (coreWith 1 0 true) 0 ∧ ((coreWith 1 0 true).core 0).exl = true) ∧
    ((coreIrq.core 0).st = .running ∧ (coreIrq.core 0).ieOn = true ∧ (coreIrq.core 0).pendingCode = some 2) ∧
    (canFetch 0 ((State.reset.setCore 0 { State.reset.core 0 with pc := 0x70000002 }).core 0).pc = false) := by unfold coreReady; decide

/-- Core 1 with a message for core 0 to send, core 2 waiting for an interrupt that is pending. -/
def coresTalk : State :=
  (State.reset.setCore 1 { State.reset.core 1 with sendq := [(coreAddr 0, List.replicate 64 1)] }).setCore 2
    { State.reset.core 2 with st := .wfi, irq := 8 }
theorem wit_CoreEvents :
    ((coresTalk.core 2).st = .wfi ∧ (coresTalk.core 2).ip ≠ 0) ∧ (coresTalk.core 0).st = .running ∧ (coresTalk.core 0).cycle < (coresTalk.core 0).tcmp ∧
    ((coresTalk.core 1).sendq = (coreAddr 0, List.replicate 64 1) :: [] ∧ (coresTalk.core 0).recvq.length < 64) ∧
    (coresTalk.core 3).st = .held ∧ (coresTalk.core (4 + 2)).st = .held := by decide

theorem wit_CoresKeepTheirForm : (∀ c ∈ ({ State.reset with pending := [.addi 0 1 0 5 .ok] } : State).pending, coreCommand c = true) ∧
    ∀ i, (({ State.reset with pending := [.addi 0 1 0 5 .ok] } : State).core i).inOrder := by
  refine ⟨by decide, fun i => ?_⟩
  by_cases h : i = 0
  · subst h; unfold WCore.inOrder; decide
  · by_cases h4 : i < 4
    · show (coreReset i).inOrder
      simp only [coreReset, h, h4, if_true, if_false]; unfold WCore.inOrder; decide
    · show (coreReset i).inOrder
      simp only [coreReset, h, h4, if_false]; unfold WCore.inOrder; decide

theorem wit_RegisterAccesses :
    accessOk 0x200008 8 = true ∧ accessOk 0x20000C 4 = true ∧ accessOk 3 8 = false ∧ accessOk 0x20000C 8 = false ∧ isCounter (0x200104 / 8 * 8) = true ∧
    0x200018 / 8 * 8 ≠ R.XLAT_FQ_OVF ∧ locate (R.CLK_LOCK / 8 * 8) = some (.clk, 0, 0x28) ∧ lockOf .clk 0 = some (R.CLK_LOCK / 8 * 8, F.CLK_LOCK_LOCK) ∧
    (0x210060 : BitVec 26).toNat = R.MERE_CNTCLR 1 := by decide
theorem wit_RegisterAccesses_vectors :
    let s := (State.reset.setReg R.CLK_ERRMASK 1).putFlag (R.GLOB_BASE + 0x8038) F.MSIX_MASK false
    let t := s.setReg R.CLK_ERR 1
    s.condition 3 = false ∧ t.condition 3 = true ∧ t.flag (R.GLOB_BASE + 0x8008 + 16 * 3) F.MSIX_MASK = false ∧
    State.reset.flag (R.GLOB_BASE + 0x8008 + 16 * 3) F.MSIX_MASK = true ∧ s.reg R.CLK_ERRMASK &&& 1 = 1 := by decide

theorem wit_WritesFollowAccessCodes :
    (F.MERE_CTRL_REVERT_MS ∈ fieldsAt (R.MERE_CTRL 0) ∧ R.MERE_CTRL 0 % 8 = 0 ∧ F.MERE_CTRL_REVERT_MS.own = false ∧ F.MERE_CTRL_REVERT_MS.acc = .rw) ∧
    (F.MERE_TIMERS_CREDIT ∈ fieldsAt (R.MERE_TIMERS 0) ∧ F.MERE_TIMERS_CREDIT.acc = .rwl ∧ F.MERE_TIMERS_CREDIT.own = false ∧
      State.reset.locked (R.MERE_TIMERS 0) = false ∧ (State.reset.putFlag (R.MERE_LOCK 0) F.MERE_LOCK_LOCK true).locked (R.MERE_TIMERS 0) = true ∧
      F.MERE_TIMERS_CREDIT.rng = some (10, 1000)) ∧
    (F.MERE_LINKSTAT_STATE ∈ fieldsAt (R.MERE_LINKSTAT 0) ∧ F.MERE_LINKSTAT_STATE.acc = .ro ∧ F.MERE_LINKSTAT_STATE.lo + F.MERE_LINKSTAT_STATE.w ≤ 32) ∧
    (F.MERE_LINKSTAT_UNACKED ∈ fieldsAt (R.MERE_LINKSTAT 0) ∧ 32 ≤ F.MERE_LINKSTAT_UNACKED.lo) := by decide

/-- A basin of tenant 1 with one unit at the start of stack 0. -/
def oneBasin : Basin :=
  { tenant := 1, kind := 0, pattern := 0, quad := 0, tpa := 0, size := 1, pool := 0, spill := 0,
    mapped := [{ start := 0, len := 1, base := 0, set := [0], striped := false }], poolRuns := [], spillRuns := [], shadowMapped := [], shadowPool := [],
    shadowSpill := [], closing := false, destroyed := false, waitJobs := [], shadowHere := false, takenOver := false, moving := false }
/-- One line of tenant 1, named by endpoint 5 as VA 0 of ASID 7, the data plane in service. -/
def oneLine : State :=
  { State.reset.put R.GLOB_STATUS F.GLOB_STATUS_PHASE 4 with
    xlat := { tenants := [(1, some { driver := 5, quota := 9 })], bound := [(5, some 1)], contexts := [(7, some 1)],
              s1 := [{ asid := 7, va := 0, len := 1, tpa := 0, read := true, write := true }], basins := [(3, some oneBasin)] },
    sec := { slots := [(1, { full := true, gen := 1, key := [] })] }, rst := { active := none } }
/-- Word 0 of a packet of endpoint 5, transaction 1. -/
def word0 (cls op len16 : Nat) : Word := BitVec.ofNat 64 (cls + 8 * op + 256 * 5 + 2 ^ 20 + 2 ^ 36 * len16)
theorem wit_CoherentRequests_reads : (homeward oneLine .rdShared 1 [0] 0 (word0 4 1 0) 7 [] 0 false).isSome = true ∧
    (homeward oneLine .rdOwn 2 [0] 0 (word0 4 2 0) 7 [] 0 false).isSome = true := by decide
theorem wit_CoherentRequests_ops : (homeReq .claim 0 0 0 { pa := 0, basin := 3, tenant := 1, striped := false } []).op = .claim ∧
    (homeReq .rdOnce 0 0 0 { pa := 0, basin := 3, tenant := 1, striped := false } []).op = .rdOnce := ⟨rfl, rfl⟩
theorem wit_CoherentRequests_once : (homeward oneLine .rdOnce 3 [0] 0 (word0 4 3 0) 7 [] 0 false).isSome = true ∧
    (homeward oneLine .claim 4 [0] 0 (word0 4 4 0) 7 [] 0 false).isSome = true := by decide
theorem wit_CoherentRequests_writes : (homeward oneLine .wrFull 5 [64] 0 (word0 4 5 4) 7 (List.replicate 64 1) 0 false).isSome = true ∧
    (let q := oneLine.arrivesQuiet 0 (word0 1 3 4).toNat 7 (List.replicate 64 1) (pkFormed (word0 1 3 4).toNat 1 3 (adReserved 7) (List.replicate 64 1) [64])
     q.2 = true ∧ (q.1.access { endpoint := 5, srcKind := 0, srcIndex := 0 } 7 0 64 true).2.toOption =
       some { pa := 0, basin := 3, tenant := 1, striped := false }) := by decide

theorem wit_RequestsTurnedAway : pkClass (word0 4 1 0).toNat = 4 ∧ pkClass (word0 4 1 1).toNat = 4 ∧
    (((({ State.reset with fab := { records := [{ ep := 5, txn := 1, answered := false }] } } : State).takeDelivered 0
        (pkBytes ((word0 4 1 0).toNat + 2 ^ 45) 7 [])).portTime 0 0).isDuplicate ((word0 4 1 0).toNat + 2 ^ 45) = true) ∧
    ((State.reset.takeDelivered 0 (pkBytes (word0 4 1 0).toNat 7 [])).portTime 0 0).isDuplicate (word0 4 1 0).toNat = false ∧
    (((State.reset.setReg (R.DIR_DEAD 0) 0x20).takeDelivered 0 (pkBytes (word0 4 1 0).toNat 7 [])).portTime 0 0).isDead 5 = true ∧
    pkFormed (word0 4 1 1).toNat 4 1 (adReserved 7) [] [0] = false ∧ pkFormed (word0 4 1 0).toNat 4 1 (adReserved 7) [] [0] = true ∧
    ((State.reset.takeDelivered 0 (pkBytes (word0 4 1 0).toNat 7 [])).portTime 0 0).isDead 5 = false ∧
    ((State.reset.takeDelivered 0 (pkBytes (word0 4 1 0).toNat 7 [])).portTime 0 0).get R.GLOB_STATUS F.GLOB_STATUS_PHASE < 4 := by decide

/-- A request of endpoint 5. -/
def asks (op : HomeOp) : HomeReq := { op := op, pa := 0, ep := 5 }
theorem wit_DirectoryTable : (asks .rdOwn).op = .rdOwn ∧ (5 : Nat) ∈ [5, 6] ∧ (5 : Nat) ∉ [6] ∧ (6 : Nat) ≠ (asks .rdShared).ep ∧
    ([6] : List Nat).length < 3 ∧ 3 ≤ ([6, 7, 8] : List Nat).length ∧ (asks .wrFull).op ≠ .recall := by decide

/-- A transaction that waits for endpoint 5's answer to snoop 1. -/
def snoopOpen : DirTxn :=
  { req := { op := .rdOwn, pa := 0, ep := 6 }, st := .ex, ptrs := [5], kind := .inv, bcast := false, snooped := [5],
    snoops := [{ txn := 1, ep := 5, asid := 7, va := 0 }], wbs := [], granted := false, mirrors := [], closing := false }
/-- The line of that transaction, and one granted to endpoint 5, transaction 1. -/
def snooping : State :=
  { oneLine with home := { txns := [snoopOpen, { snoopOpen with req := { op := .rdShared, pa := 64, ep := 5, txn := 1 }, snoops := [], granted := true, closing := true }] } }
theorem wit_SnoopsAndAcks_rsp :
    let q := snooping.arrivesQuiet 0 (word0 2 1 0).toNat 0 [] (pkFormed (word0 2 1 0).toNat 2 1 (adReserved 0) [] [0] && pkStatus (word0 2 1 0).toNat ≤ 4)
    q.2 = true ∧ q.1.snoopTxn 5 1 = some snoopOpen ∧ snoopOpen.rec? 5 1 = some { txn := 1, ep := 5, asid := 7, va := 0 } ∧
    pkStatus (word0 2 1 0).toNat ≠ 4 := by decide
theorem wit_SnoopsAndAcks_data :
    let q := snooping.arrivesQuiet 0 (word0 1 2 4).toNat 0 (List.replicate 64 1) (pkFormed (word0 1 2 4).toNat 1 2 (adReserved 0) (List.replicate 64 1) [64])
    q.2 = true ∧ q.1.snoopTxn 5 1 = some snoopOpen := by decide
theorem wit_SnoopsAndAcks_ack :
    let q := snooping.arrivesQuiet 0 (word0 0 1 0).toNat 0 [] (pkFormed (word0 0 1 0).toNat 0 1 (inReserved 0) [] [0])
    q.2 = true ∧ (q.1.home.txns.find? (fun t => t.granted && t.req.ep == 5 && t.req.txn == 1)).isSome = true ∧ oneLine.snoopTxn 5 1 = none ∧
    oneLine.home.txns = [] := by decide

/-- A Bulk word 0 of tenant 1 with PRIV set. -/
def bulk0 (op len16 : Nat) : Word := BitVec.ofNat 64 ((word0 5 op len16).toNat + 2 ^ 46 + 2 ^ 48)
/-- One sent mirror write waits. -/
def mirroring : State :=
  { State.reset with
    pair := { mirror := [{ id := 1, pa := 0, shadow := 0, poison := false, summary := 0, heat := 0, tag := 0, data := [], sent := true }] } }
theorem wit_BulkAndMirror_read :
    let q := oneLine.bulkArrives 8 (bulk0 1 0).toNat 0 [] 0 (pkFormed (bulk0 1 0).toNat 5 1 (tenReserved 0) [] [0])
    q.2 = true ∧ (q.1.bulkChecks 8 (bulk0 1 0).toNat (tenTpa 0) (tenLines 0) false).2 = true := by decide
theorem wit_BulkAndMirror_write :
    let q := oneLine.bulkArrives 8 (bulk0 2 5).toNat 0 (List.replicate 80 0) 0 (pkFormed (bulk0 2 5).toNat 5 2 (tenReserved 0 + bitsOf 0 56 6)
      (List.replicate 80 0) bulkLengths && leNat (((List.replicate 80 0 : List Byte).drop 8).take 8) == 0)
    q.2 = true ∧ (q.1.bulkChecks 8 (bulk0 2 5).toNat (tenTpa 0) ((80 - 16) / 64) true).2 = true := by decide
theorem wit_BulkAndMirror :
    oneLine.privEntry 0 5 = none ∧ pkFormed (word0 1 4 4).toNat 1 4 (phReserved 0) (List.replicate 64 0) mirrorLengths = true ∧
    pkFormed (word0 1 4 0).toNat 1 4 (phReserved 0) [] mirrorLengths = false ∧
    State.reset.isDuplicateOf 4096 (word0 1 4 4).toNat = false ∧ (State.reset.record 4096 1).keepsShadows = false ∧
    ((State.reset.put R.PAIR_STATUS F.PAIR_STATUS_STATE 3).record 4096 1).keepsShadows = true ∧
    ({ State.reset with fab := { records := [{ ep := 4096, txn := 1, answered := false }] } } : State).isDuplicateOf 4096 ((word0 1 4 4).toNat + 2 ^ 45) = true ∧
    pkFormed (word0 0 3 0).toNat 0 3 (phReserved 0) [] [0] = true ∧
    ((mirroring.takeDelivered 8 (pkBytes (word0 0 3 0).toNat 0 [])).pair.mirror.find?
      (fun w => w.sent && w.ctl.isNone && w.id % 65536 == pkTxn (word0 0 3 0).toNat)).isSome = true ∧ State.reset.pair.mirror = [] ∧
    bitOf 0 12 = false ∧ ((State.reset.put (R.SHAL_PRIV_CTL 2) F.SHAL_PRIV_CTL_VALID 1).flag (R.SHAL_PRIV_CTL 2) F.SHAL_PRIV_CTL_VALID = true ∧
      (State.reset.put (R.SHAL_PRIV_CTL 2) F.SHAL_PRIV_CTL_VALID 1).get (R.SHAL_PRIV_CTL 2) F.SHAL_PRIV_CTL_ENDPOINT = bitsOf 0x1000 0 12) := by decide

/-- Tenant 1 with PIR and PBS 2 and CBS 0 or 2, its buckets at port 0 as given. -/
def rated (cbs c p : Nat) : State :=
  ((((State.reset.put (R.QOS_TRATE 1) F.QOS_TRATE_PIR 2).put (R.QOS_TRATE 1) F.QOS_TRATE_CIR 1).put (R.QOS_TRATE 1) F.QOS_TRATE_PBS 2).put
    (R.QOS_TRATE 1) F.QOS_TRATE_CBS cbs).setAdm 0 { buckets := [(2, { c := c, p := p, seen := 0 })] }
theorem wit_AdmissionColours :
    ((State.reset.adm 0).sched false).queue 1 0 = [] ∧ (State.reset.put (R.QOS_TRATE 1) F.QOS_TRATE_PIR 0).pir 1 = 0 ∧
    ((rated 2 0 0).pir 1 ≠ 0 ∧ ((rated 2 0 0).refill 1 0 { c := 0, p := 0, seen := 0 }).p < 1024 * min 1 ((rated 2 0 0).pbs 1)) ∧
    (1024 * min 1 ((rated 2 0 2048).pbs 1) ≤ ((rated 2 0 2048).refill 1 0 { c := 0, p := 2048, seen := 0 }).p ∧
      ((rated 2 0 2048).refill 1 0 { c := 0, p := 2048, seen := 0 }).c < 1024 * min 1 ((rated 2 0 2048).cbs 1) ∧
      ¬ (rated 2 0 2048).get R.QOS_CFG F.QOS_CFG_YELLOW_THR * 2048 ≤ 100 * (((rated 2 0 2048).adm 0).sched false).occupancy) ∧
    (1024 * min 1 ((rated 2 2048 2048).cbs 1) ≤ ((rated 2 2048 2048).refill 1 0 { c := 2048, p := 2048, seen := 0 }).c) := by decide

theorem wit_DeathsAndSweeps :
    (snooping.home.txns.any (fun t => (t.granted && t.req.ep == 5) || t.snoops.any (fun r => r.ep == 5 && !t.recDone r)) = true ∧
      snooping.isDead 5 = false) ∧ 5 ∈ ({ State.reset with fab := { unreach := [5] } } : State).fab.unreach ∧
    (oneLine.flag R.DIR_CMD F.DIR_CMD_BUSY = false ∧ oneLine.boundTo 6 = none ∧ oneLine.boundTo 5 ≠ none ∧ oneLine.isDead 5 = false ∧
      oneLine.home.entries = [] ∧ oneLine.home.sharers = [] ∧ oneLine.home.waiting = [] ∧ oneLine.home.sweeps = []) ∧
    ((oneLine.setReg (R.DIR_DEAD 0) 0x20).isDead 5 = true ∧ (oneLine.setReg (R.DIR_DEAD 0) 0x20).boundTo 5 ≠ none) ∧
    ({ State.reset with home := { sweeps := [{ kind := .death, basin := 3, ep := 5 }] } } : State).home.sweeps.find?
      (fun w => w.kind == (if (0 : Fin 3) = 0 then SweepKind.death else if (0 : Fin 3) = 1 then .release else .takeover) && w.basin == 3) ≠ none ∧
    ({ State.reset with home := { sweeps := [{ kind := .death, basin := 3, ep := 5 }] } } : State).sweepWaits { kind := .death, basin := 3, ep := 5 } = false := by decide

theorem wit_DeclaredDeadIsMarked : State.reset.isDead 5 = false ∧ State.reset.home = {} ∧ State.reset.kv.pins = [] ∧ State.reset.jobs.inlets = [] ∧
    (State.reset.setReg (R.DIR_DEAD 0) 0x20).isDead 5 = true := by decide

/-- Port 0 with one request queued, source 8 with one command queued from Inlet 0. -/
def schedulers : State :=
  { State.reset.setAdm 0 { req := { queues := [{ tenant := 1, cls := 0, items := [{ f := 1, len := 1, credits := 1, act := .home (asks .rdOnce) }] }] } } with
    jobs := { sources := [(8, { queues := [{ tenant := 1, cls := 0, fs := [1], inlets := [(0, 1)] }] })], inlets := [(0, { enable := true })] } }
/-- A job that waits for Tarn credits. -/
def waitingJob : Job := { id := 0, inlet := 0, slot := 0, engine := 0, number := 0, st := .waiting, desc := {} }
theorem wit_SchedulersServe :
    ((schedulers.adm 0).bulkTurn = false ∧ (schedulers.takeItem 0 false).2.isSome = true) ∧
    ((State.reset.setAdm 0 { bulk := (schedulers.adm 0).req }).takeItem 0 true).2.isSome = true ∧
    ((State.reset.adm 0).req.queues = [] ∧ (State.reset.adm 0).bulk.queues = []) ∧
    (schedulers.rst.l2 = 0 ∧ schedulers.jobs.jobs = [] ∧ (schedulers.pickDispatch 8).isSome = true) ∧
    (({ State.reset with jobs := { jobs := [waitingJob] } } : State).jobs.jobs.find? (fun j => j.st == .waiting) = some waitingJob ∧ waitingJob.fails = []) := by decide

theorem wit_MeshPackets : (unitAtPort (sbDestX 0x300) (sbDestY 0x300) (sbDestPort 0x300)).isNone = true ∧
    ((unitAtPort (sbDestX 0) (sbDestY 0) (sbDestPort 0)).any (fun u => !State.reset.meshHeld u) = true ∧ State.reset.mesh.txns = [] ∧ sbTotal 0 = 1 ∧ sbPseq 0 = 0) ∧
    (1 < sbTotal (2 ^ 59) ∧ sbPseq (2 ^ 59) < sbTotal (2 ^ 59) ∧ sbLast (2 ^ 59) = false) ∧
    (sbMc (sbSetAge 0x21 1) = 0 ∧ sbDestX (sbSetAge 0x21 1) = 1 ∧ sbDestY (sbSetAge 0x21 1) = 2) ∧
    ((State.reset.countCycleAt 1 2).mayInject 1 2 0 = true ∧ (State.reset.countCycleAt 1 2).mayBegin 0x21 = true ∧ sbMc 0x21 = 0) ∧
    (State.reset.mesh.starved = [] ∧ State.reset.flag R.SHAL_STATUS F.SHAL_STATUS_THROTTLE = false) ∧
    State.reset.get R.SHAL_CFG F.SHAL_CFG_AGE_ALARM ≤ sbAge (0xFFFF * 2 ^ 72) := by decide

/-- A sealed block, and a sequence that names it. -/
def aBlock : KvBlk := { pa := 0, basin := 3, format := 0, hdim := 0, layer := 0, head := 0, first := 0, tokens := 64, outliers := 0, promoted := 0, checksum := 0,
                        shut := true, early := false, shared := false, seq := 0, heat := 2 }
def aSeq : Seq := { tenant := 1, client := 5, basin := 3, asid := 7, layers := 1, heads := 1, hdim := 0, format := 0, hint := 0, tauK := 0, tauV := 0, ttl := 4,
                    maxTokens := 64, windowVa := 0, windowSlots := 1, quad := none, base := none, blocks := [(0, [1])], idle := 4 }
def aVersion : Version := { number := 1, tokens := 64, layers := 1, heads := 1, hdim := 0, format := 0, basin := 3, blocks := [(0, [1])], left := some 0 }
def shelf (q : Seq) (vs : List Version) (idle : Nat) : State :=
  { State.reset with kv := { blks := [(1, some aBlock)], seqs := [(0, some q)], moves := [{ blk := 1, dst := 4096 }], reports := [1],
                             regions := [{ tenant := 1, key := 2, current := 1, versions := vs, idle := idle }] } }
theorem wit_ShelfTimers :
    let s := shelf aSeq [aVersion] 0
    (s.kv.reports.contains 1 = true ∧ s.blk 1 = some aBlock ∧ aBlock.shut = true) ∧ ({ s with mgmt := { decay := 2 ^ 16 } } : State).param 3 ≤ 2 ^ 16 ∧
    (∃ r, s.region 1 2 = some r ∧ r.find 1 = some aVersion ∧ s.pinTotal 1 2 1 = 0) ∧
    (∃ r, (shelf aSeq [{ aVersion with retired := true }] 0).region 1 2 = some r ∧
      (r.versions.find? (fun v => v.number == 1)) = some { aVersion with retired := true } ∧ s.allDone aVersion.waits = true ∧ s.inDestroy 3 = false) ∧
    (∃ r, (shelf aSeq [] 65536).region 1 2 = some r ∧ r.versions = [] ∧ 65536 ≤ r.idle) ∧
    (s.seqAt 0 = some aSeq ∧ aSeq.ttl ≠ 0 ∧ aSeq.ttl ≤ aSeq.idle ∧ s.jobs.jobs.any (fun j => j.handle == some (s.handleOf 0)) = false) ∧
    ((shelf { aSeq with shut := true } [] 0).seqAt 0 = some { aSeq with shut := true } ∧ s.allDone aSeq.waits = true ∧ s.inDestroy 3 = false) ∧
    (s.kv.moves.find? (fun m => m.blk == 1) = some { blk := 1, dst := 4096 } ∧ s.kv.seqs = [(0, some aSeq)] ∧ (tableBlocks aSeq.blocks).contains 1 = true) :=
  ⟨by decide, by decide, ⟨_, rfl, by decide⟩, ⟨_, rfl, by decide⟩, ⟨_, rfl, by decide⟩, by decide, by decide, by decide⟩
theorem wit_ShelfTimers_gone :
    let s : State := { State.reset with kv := { blks := [(1, some aBlock)], moves := [{ blk := 1, dst := 4096 }] } }
    s.kv.moves.find? (fun m => m.blk == 1) = some { blk := 1, dst := 4096 } ∧ s.blk 1 = some aBlock ∧ s.kv.seqs = [] ∧ s.kv.regions = [] := by decide

/-- A worker's program that has just begun on a Tarn. -/
def aRun : TRun := { job := 0, role := 0, what := .worker, slice := 0, pc := 0 }
def tarnsState (x : Tarn) : State := { State.reset with tarns := [(0, x)] }
theorem wit_TarnsInAndOut_idle : let s := tarnsState {}
    s.tarnFaulted 0 = false ∧ (s.tarn 0).run = none ∧ (s.tarn 0).active = [] ∧ (s.tarn 0).queue = [] := by decide
theorem wit_TarnsInAndOut_watchdog : let s := (tarnsState { run := some aRun }).put (R.TARN_WDOG 0) F.TARN_WDOG_LIMIT 9
    s.get (R.TARN_WDOG 0) F.TARN_WDOG_LIMIT ≠ 0 ∧ (s.tarn 0).run.isSome = true ∧ s.tarnFaulted 0 = false := by decide
theorem wit_TarnsInAndOut_roles :
    (State.reset.putRoles 0 0 0 3).roleClash 0 = false ∧ (State.reset.putRoles 0 3 0 3).roleClash 0 = true := by decide
theorem wit_TarnsInAndOut_failed : let s := State.reset.putFlag (R.TARN_CTRL 0) F.TARN_CTRL_FAULT true
    s.tarnFaulted 0 = true ∧ s.rolesOf 0 = [0] ∧ (tarnsIn 0).any (fun u => u != 0 && (s.rolesOf u).contains 0 && !s.tarnFaulted u) = false := by decide
theorem wit_TarnsInAndOut_loaded : let s := (tarnsState { loading := [(3, 5)] }).setTarnState 0 2
    (s.tarn 0).loading = [(3, 5)] ∧ (s.tarn 0).back = false ∧ s.tarnFaulted 0 = false ∧ s.tarnState 0 = 2 ∧
      (tarnsIn 0).all (fun t => !s.tarnFaulted t) = true := by decide
theorem wit_TarnsInAndOut_tested : let s := (tarnsState { testing := true }).putFlag (R.TARN_CTRL 0) F.TARN_CTRL_FAULT true
    (s.tarn 0).testing = true ∧ s.tarnFaulted 0 = true := by decide

/-- Inlet 0 of endpoint 5, 16 slots of 256 B, two descriptors announced, the job unit on. -/
def anInlet : Inlet := { owner := 5, tenant := 1, asid := 7, port := 0, enable := true, ringLog2 := 4, slotLog2 := 8, ringVa := 0, cplVa := 0x10000, tail := 2 }
/-- A job of an Inlet's slot 0. -/
def aJob (st : JobSt) (d : Desc) : Job := { id := 0, inlet := 0, slot := 0, engine := 8, number := 0, st := st, desc := d }
def withJobs (j : Jobs) : State := { oneLine.putFlag R.JOB_CTRL F.JOB_CTRL_ENABLE true with jobs := j }
def oneJob (j : Job) : State := withJobs { inlets := [(0, anInlet)], jobs := [j] }
def dbPayload (op v : Nat) : List Byte := leBytes (op * 4096 + v * 65536) 4 ++ List.replicate 12 0
/-- The state in which a doorbell's checks are made. -/
def atDoor (s : State) (payload : List Byte) : State := (s.takeDelivered 0 (pkBytes (word0 4 6 1).toNat 0 payload)).portTime 0 0
set_option maxRecDepth 100000 in
theorem wit_DoorbellsReachInlets_formed :
    (atDoor (withJobs { inlets := [(0, anInlet)] }) (dbPayload 0 3)).isDead 5 = false ∧
    (pkFormed (word0 4 6 1).toNat 4 6 (inReserved 0) (dbPayload 0 3) [16] && leNat ((dbPayload 0 3).drop 4) == 0
      && dbOp (leNat ((dbPayload 0 3).take 4)) ≤ 1 && dbReserved (leNat ((dbPayload 0 3).take 4)) == 0) = true ∧
    (atDoor (withJobs { inlets := [(0, anInlet)] }) (dbPayload 0 3)).isDuplicate (word0 4 6 1).toNat = false ∧
    ((atDoor (withJobs { inlets := [(0, anInlet)] }) (dbPayload 0 3)).record 5 1).jobsOn = true := by decide
set_option maxRecDepth 100000 in
theorem wit_DoorbellsReachInlets_served (p : List Byte) (hp : p = dbPayload 0 3 ∨ p = dbPayload 1 0) :
    let r := (atDoor (oneJob (aJob .command {})) p).record 5 1
    let l := r.inlet 0
    let o := r.offer 0 l.tenant (r.epClass 5) 1 (creditsOf 32) false false 5 1 (.doorbell 5 1 0 (leNat (p.take 4)))
    (5 : Nat) = l.owner ∧ r.inletOn l = true ∧ (r.colour 0 l.tenant (r.epClass 5) 1 false).2 = .queued ∧ o.2 = some (.doorbell 5 1 0 (leNat (p.take 4))) ∧
      o.1.jobsOn = true ∧ o.1.inletOn (o.1.inlet 0) = true ∧ l.tailOk 3 = true ∧ r.headersFault l 3 = none ∧ (o.1.inlet 0).tailOk 3 = true ∧
      (o.1.jobs.jobs.find? (fun j => j.inlet == 0 && j.slot == 0)).isSome = true := by
  rcases hp with h | h <;> subst h <;> decide
theorem wit_DoorbellsReachInlets_refused :
    let r := (atDoor (withJobs { inlets := [(0, { anInlet with owner := 6 }), (1, { anInlet with enable := false })] }) (dbPayload 0 3)).record 5 1
    (5 : Nat) ≠ (r.inlet 0).owner ∧ (5 : Nat) = (r.inlet 1).owner ∧ r.inletOn (r.inlet 1) = false := by decide

/-- Memory of tenant 1 that a fill has left zero, but for the bytes listed. -/
def memOf (cells : List Host.Cell) (s : State) : State :=
  let all : Run := { start := 0, len := 8, base := 0, set := [0], striped := false }
  let fill : Fill := { range := .run all s.unitBytes, pattern := 0, kslot := 1, kgen := 1, tag := 1 }
  { (List.range 32).foldl (fun s p => s.putFlag (R.POND_CTRL p) F.POND_CTRL_ENABLE true) s with pool := { cells := cells, side := [], fills := [fill] } }
/-- A sequence of tenant 1 in slot 0: one layer, one head, no tokens. -/
def noTokens : Seq := { tenant := 1, client := 5, basin := 3, asid := 7, layers := 1, heads := 1, hdim := 0, format := 8, hint := 0, tauK := 0, tauV := 0, ttl := 0,
                        maxTokens := 64, windowVa := 0x8000, windowSlots := 4, quad := none, base := none }
/-- A taken job whose descriptor is in memory. -/
def descAt (j : Job) (cells : List Host.Cell) : State := memOf cells { oneJob j with kv := { seqs := [(0, some noTokens)] } }
/-- What JOB_VALIDATE reads for the job: the header, the other lines, the state then. -/
def descRead (s : State) (j : Job) : Option (List LineRead × List LineRead × State) :=
  let l := s.inlet j.inlet
  let h := s.readDesc l (l.slotVa j.slot) 1 []
  h.2.bind (fun hd => let d := descOf (hd.flatMap (·.data))
    let b := h.1.readDesc l (l.slotVa j.slot + 64) (min d.lines (2 ^ (l.slotLog2 - 6)) - 1) []
    b.2.map (fun bd => (hd, bd, b.1.putJob { j with desc := d, body := bd.flatMap (·.data) })))
/-- Clean lines, the opcode, and what checks 3 to 12 and the source check say of a job. -/
def descSays (cells : List Host.Cell) : Option (Bool × Nat × Option Nat × Bool) :=
  let j := aJob .taken {}
  (descRead (descAt j cells) j).map (fun x =>
    let head := x.1.flatMap (·.data)
    (!(x.1 ++ x.2.1).any (fun r => r.poison), (descOf head).opcode, x.2.2.checkDesc anInlet head (x.2.1.flatMap (·.data)),
      (x.2.2.sourceOf anInlet (descOf head)).toOption.isSome))
set_option maxRecDepth 100000 in
theorem wit_JobsAreValidated_command : descSays [(0, 0x10), (2, 2), (8, 2)] = some (true, 0x10, none, false) := by decide
set_option maxRecDepth 100000 in
theorem wit_JobsAreValidated_ingest : descSays [(0, 2), (2, 1), (44, 1)] = some (true, 2, none, true) := by decide
set_option maxRecDepth 100000 in
theorem wit_JobsAreValidated_decode : descSays [(0, 1), (2, 3), (24, 0x80), (40, 0x80), (64, 0x80)] = some (true, 1, none, true) := by decide
set_option maxRecDepth 100000 in
theorem wit_JobsAreValidated_refused : descSays [(0, 7), (2, 1)] = some (true, 7, some 5, true) := by decide
set_option maxRecDepth 100000 in
theorem wit_JobsAreValidated_failed : ((aJob .taken {}).fails = [] ∧ ({ aJob .taken {} with fails := [1] } : Job).fails ≠ []) ∧
    (let s := memOf [] { oneJob (aJob .taken {}) with xlat := {} }; (s.readDesc anInlet 0 1 []).2 = none) ∧
    (oneJob (aJob .decode {})).job 0 = some (aJob .decode {}) := by decide
set_option maxRecDepth 100000 in
theorem wit_JobsAreValidated_again :
    let j : Job := { aJob .ingest { opcode := 1, ingestFirst := true, ingestCount := 1, lines := 3, scale := 128, outLen := 128 } with
                     committed := 1, body := [0x80] ++ List.replicate 127 0 }
    (descAt j []).job 0 = some j ∧ j.desc.ingestCount ≤ j.committed ∧ ((descAt j []).checkSource anInlet j.desc j.body).toOption.isSome = true := by decide

/-- A job that ingests one record of the sequence. -/
def ingesting : Job := aJob .ingest { opcode := 2, ingestCount := 1 }
/-- A job that divides: one slice and the merge of one quadrant at role 0. -/
def dividing : Job :=
  { aJob .decode { outLen := 128 } with slices := [{ id := 0, quad := 0, role := 0, head := 0, blocks := [] }],
                                        merges := [{ quad := 0, role := 0, announced := 2, final := true }] }
def workState (j : Job) (x : Tarn) : State := { (oneJob j).putFlag (R.TARN_CTRL 0) F.TARN_CTRL_ENABLE true with tarns := [(0, x)], rst := { active := none } }
theorem wit_TarnsTakeTheirWork_start : let s := workState dividing {}
    s.job 0 = some dividing ∧ dividing.st = .decode ∧ dividing.decided = false ∧ dividing.arrived.contains (0, 0) = false ∧ (dividing.workAt 0 0).done = false ∧
    s.roleTarn 0 0 = some 0 ∧ s.tarnTakes 0 = true ∧ (s.tarn 0).queue.length < 32 ∧ ((s.put (R.TARN_CTRL 0) F.TARN_CTRL_ROLE 31).roleTarn 0 0 = none) := by decide
theorem wit_TarnsTakeTheirWork_stop : let j : Job := { dividing with fails := [1] }
    (workState j {}).job 0 = some j ∧ j.decided = false ∧ (j.fails.contains 1 || j.fails.contains 2) = true := by decide
theorem wit_TarnsTakeTheirWork_slice : let x : Tarn := { queue := [dividing.workAt 0 0], progs := [(0, 1)] }
    let s := workState dividing x
    (s.tarn 0).run = none ∧ s.tarnFaulted 0 = false ∧ s.inL3 (unitKey 0 0) = false ∧ s.rst.l2 = 0 ∧ s.rolesOf 0 = [0] ∧ x.nextWork 0 = some (dividing.workAt 0 0) ∧
    (dividing.workAt 0 0).slices = [0] ∧ (dividing.slices.find? (fun y => y.id == 0)).isSome = true ∧
    ({ x with queue := [{ dividing.workAt 0 0 with slices := [] }] } : Tarn).nextWork 0 = some { dividing.workAt 0 0 with slices := [] } ∧
    (dividing.workAt 0 0).merge = some true ∧ (dividing.workAt 0 0).ingest = false ∧ (ingesting.workAt 0 0).ingest = true ∧ (ingesting.workAt 0 0).slices = [] ∧
    ({ x with queue := [ingesting.workAt 0 0] } : Tarn).nextWork 0 = some (ingesting.workAt 0 0) ∧ s.ingestRole 0 ((s.inlet 0).progOf ingesting.desc) = some 0 := by decide
set_option maxRecDepth 100000 in
theorem wit_TarnsTakeTheirWork_transfer : let s := workState dividing { run := some aRun, xfers := [.block 0 0 1, .linear 1 0 0 64] }
    (s.tarn 0).run = some aRun ∧ aRun.failing = none ∧ (s.tarn 0).mayFill 0 (.block 0 0 1) = true ∧ s.job 0 = some dividing ∧ (s.tarn 0).xfers[0]? = some (.block 0 0 1) ∧ (s.tarn 0).xfers[1]? = some (.linear 1 0 0 64) ∧
    (s.access { endpoint := 5, srcKind := 1, srcIndex := 0 } 7 0 64 false).2.toOption.isSome = true ∧
    (s.access { endpoint := 5, srcKind := 1, srcIndex := 0 } 8 0 64 false).2.toOption = none := by decide
set_option maxRecDepth 100000 in
theorem wit_TarnsTakeTheirWork_arrive : let f : Flight := { job := 0, quad := 0, bytes := List.replicate 64 0 }
    let g : FailFlight := { job := 0, quad := 0, slices := 1, status := 3, exc := none }
    let s : State := { workState dividing {} with jobs := { (workState dividing {}).jobs with flights := [f], fails := [g] } }
    s.jobs.flights[0]? = some f ∧ s.jobs.fails[0]? = some g ∧ s.job 0 = some dividing ∧ (dividing.merge? 0).isSome = true ∧ s.roleTarn 0 0 = some 0 ∧
    s.tarnFaulted 0 = false ∧ 0 + (partialOf f.bytes).slices ≠ 2 ∧ 0 + g.slices ≠ 2 := by decide

/-- The state for a record's ingest: Tarn 0 carries role 0 with the default image loaded. -/
def ingestState (j : Job) (cells : List Host.Cell) : State :=
  { (descAt j cells).putFlag (R.TARN_CTRL 0) F.TARN_CTRL_ENABLE true with tarns := [(0, { progs := [(0, 1)] })] }
/-- What the next record's reading and checks find: the status. -/
def ingestSays (f : State → State) (cells : List Host.Cell) : Option (Option Nat) :=
  let s := f (ingestState ingesting cells)
  (s.seqAt 0).bind (fun q =>
    let n := slotBytes q.heads (dimOf q.hdim)
    let va := q.windowVa
    let a := s.access { endpoint := 5, srcKind := 1, srcIndex := 0 } q.asid va n false
    a.2.toOption.map (fun _ => let b := a.1.readVa 5 q.asid q.tenant va [] (n / 64); (b.1.ingestRead ingesting 0 q b.2).2))
set_option maxRecDepth 1000000 in
theorem wit_IngestAndDecodeRun_ready : let s := ingestState ingesting []
    (s.ingestTarns ingesting (s.openQuads noTokens none ((s.inlet 0).port / 2))).2 = .ready [(0, 0, 0)] ∧
    (let u := { s with tarns := [] }; (u.ingestTarns ingesting (u.openQuads noTokens none 0)).2 = .wait) ∧
    (let u := s.putFlag (R.TARN_CTRL 0) F.TARN_CTRL_FAULT true; (u.ingestTarns ingesting (u.openQuads noTokens none 0)).2 = .fail jsTarnFault) := by decide
set_option maxRecDepth 100000 in
theorem wit_IngestAndDecodeRun_rejects : ingestSays id [(0x8000, 1), (0x8040, 0x80), (0x8042, 0x80)] = some (some 0x24) := by decide
set_option maxRecDepth 100000 in
theorem wit_IngestAndDecodeRun_job : (ingestState ingesting []).job 0 = some ingesting ∧ ingesting.decided = false ∧ ingesting.committed < ingesting.desc.ingestCount ∧ ingesting.fails = [] ∧
    ({ ingesting with fails := [1] } : Job).fails ≠ [] ∧ ((ingestState ingesting []).seqAt 0) = some noTokens ∧
    (let s := { ingestState ingesting [] with xlat := {} }; (s.access { endpoint := 5, srcKind := 1, srcIndex := 0 } 7 0x8000 256 false).2.toOption = none) ∧
    dividing.st = .decode ∧ dividing.decided = false ∧ dividing.started = [] ∧ dividing.arrived = [] := by decide

/-- A pool of one unit, so that a block can be placed. -/
def roomy (s : State) : State :=
  { s with xlat := { s.xlat with basins := [(3, some { oneBasin with poolRuns := [{ start := 1, len := 1, base := 1, set := [0], striped := false }] })] } }
/-- A line of a record. -/
def recLine (d : List Byte) : LineRead := { stat := .ok, poison := false, data := d ++ List.replicate (64 - d.length) 0 }
set_option maxRecDepth 100000 in
theorem wit_IngestCommitsOneToken :
    ((roomy (descAt ingesting [])).ingestOne 0 [recLine [], recLine [0x80, 0, 0x80], recLine [], recLine []]).2 = 0 := by decide

set_option maxRecDepth 100000 in
theorem wit_LineWritesKeepThePool : State.reset.pool.wf = true ∧ (zeros 64).length = 64 ∧
    ((memOf [] oneLine).writeLine 0 (some 1) 1 false (zeros 64)).2 = .ok ∧ ((memOf [] oneLine).writeLine 0 (some 2) 1 false (zeros 64)).2 = .tagMismatch ∧
    (State.reset.writeLine 0 none 1 false (zeros 64)).2 ≠ .ok := by decide

/-- A command job at its turn on Inlet 0, with its parameter block, and a sequence of one layer in slot 0. -/
def turnState (code : Nat) (body : List Byte) : State :=
  memOf [] { oneJob { aJob .command { opcode := 0x10, source := code, outVa := 0x4000, outLen := 128 } with body := body } with kv := { seqs := [(0, some noTokens)] } }
/-- The job of that state, decided. -/
def turnJob (code : Nat) (body : List Byte) : Job :=
  { aJob .command { opcode := 0x10, source := code, outVa := 0x4000, outLen := 128 } with body := body, decided := true }
set_option maxRecDepth 100000 in
theorem wit_SequenceCommands_create :
    let b : List Byte := [1, 0, 1, 0, 0, 8, 0, 0, 0, 0, 0, 0, 0, 0, 0, 0, 1, 0, 0, 0, 0, 0, 0, 0, 0, 0, 0, 0, 0, 0, 0, 0, 1]
    (turnOf (turnState 1 b) 0 1).isSome = true ∧ (State.seqCreate 0 ((turnState 1 b).putJob (turnJob 1 b)) (turnJob 1 b) anInlet).2.status = 0 ∧
    (turnOf (turnState 1 []) 0 1).isSome = true ∧ (State.seqCreate 0 ((turnState 1 []).putJob (turnJob 1 [])) (turnJob 1 []) anInlet).2.status ≠ 0 := by decide
set_option maxRecDepth 100000 in
theorem wit_SequenceCommands_destroy :
    (turnOf (turnState 2 []) 0 2).isSome = true ∧ ((turnState 2 []).findSeq 1 ((turnJob 2 []).param 0 4)).isSome = true ∧
    ((turnState 2 [1]).findSeq 1 ((turnJob 2 [1]).param 0 4)) = none ∧
    ({ turnJob 2 [] with decided := false, fails := [1] } : Job).fails ≠ [] := by decide
set_option maxRecDepth 100000 in
theorem wit_SequenceCommands_query : let u := (turnState 3 []).putJob (turnJob 3 [])
    (turnOf (turnState 3 []) 0 3).isSome = true ∧ u.findSeq 1 0 = some (0, noTokens) ∧ (u.seqReport noTokens).length ≤ 128 ∧
    (u.writeOutput (turnJob 3 []) 3 0 (u.seqReport noTokens) [] []).2 = 0 := by decide
theorem wit_SequenceCommands_small : ({} : Desc).outLen < ((turnState 3 []).seqReport noTokens).length := by decide

/-- The same with a region of key 2: one live version, pinned once by endpoint 5. -/
def regionState (code : Nat) (body : List Byte) : State :=
  { turnState code body with kv := { seqs := [(0, some { noTokens with lens := [(0, 1)] })], regions := [{ tenant := 1, key := 2, current := 1, versions := [aVersion] }],
                                     pins := [{ ep := 5, tenant := 1, key := 2, version := 1, count := 1 }] } }
/-- Key, a word, another word, a long word. -/
def keyed (k a b n : Nat) : List Byte := leBytes k 8 ++ leBytes a 4 ++ leBytes b 4 ++ leBytes n 8 ++ leBytes 0 4
set_option maxRecDepth 100000 in
theorem wit_RegionCommands_publish :
    let b := keyed 2 0 1 1
    let u := (regionState 0x10 b).putJob (turnJob 0x10 b)
    (turnOf (regionState 0x10 b) 0 0x10).isSome = true ∧ (State.regionPublish u (turnJob 0x10 b) anInlet).2.status = 0 ∧
    (State.regionPublish ((regionState 0x10 []).putJob (turnJob 0x10 [])) (turnJob 0x10 []) anInlet).2.status ≠ 0 := by decide
set_option maxRecDepth 100000 in
theorem wit_RegionCommands_pins : let s := regionState 0x11 (keyed 2 1 0 0)
    (turnOf s 0 0x11).isSome = true ∧ (s.liveVersion 1 2 1).toOption.isSome = true ∧ s.pinCount 5 1 2 1 = 1 ∧
    ({ s with kv := { s.kv with pins := [{ ep := 5, tenant := 1, key := 2, version := 1, count := 65535 }] } } : State).pinCount 5 1 2 1 = 65535 ∧
    (turnOf (regionState 0x12 (keyed 2 1 0 0)) 0 0x12).isSome = true ∧ (turnJob 0x12 (keyed 2 1 0 0)).param 0 8 = 2 ∧ (turnJob 0x12 (keyed 2 1 0 0)).param 8 4 = 1 ∧
    s.pinCount 5 1 3 1 = 0 ∧ (turnOf (regionState 0x13 (keyed 2 1 0 0)) 0 0x13).isSome = true := by decide
set_option maxRecDepth 100000 in
theorem wit_RegionCommands_query : let b := keyed 2 0 0 0
    let u := (regionState 0x14 b).putJob (turnJob 0x14 b)
    let r : Region := { tenant := 1, key := 2, current := 1, versions := [aVersion] }
    (turnOf (regionState 0x14 b) 0 0x14).isSome = true ∧ u.region 1 2 = some r ∧ 64 + 32 * r.live.length ≤ 128 ∧
    ((u.send (.result "REGION_TIERS" (u.regionTiers r))).writeOutput (turnJob 0x14 b) 3 0 (u.regionReport r) [] []).2 = 0 := by decide

/-- An image of one bundle in memory: its header, the bundle, a block of ALG 1. -/
def imageCells : List Host.Cell :=
  [(0x2000, 0x43), (0x2001, 0x54), (0x2002, 0x49), (0x2003, 0x4D), (0x2004, 1), (0x2006, 1), (0x2014, 0x0C), (0x2015, 0x0A), (0x2050, 1)]
/-- What PROG_LOAD finds there: clean lines, a header in range, a well-formed block. -/
def imageSays : Option (Bool × Option Nat × Bool) :=
  let s := memOf imageCells (turnState 0x20 [])
  let a := s.access { endpoint := 5, srcKind := 3, srcIndex := 0 } 7 0x2000 2652 false
  a.2.toOption.map (fun _ =>
    let b := a.1.readVa 5 7 1 0x2000 [] 42
    let w := (b.2.flatMap (·.data)).take 2652
    (!(b.2.any (·.poison)), (imageOf? w).map (·.2), sigFormed (w.drop 80)))
set_option maxRecDepth 1000000 in
theorem wit_ProgramsAndBindings_load : imageSays = some (true, some 2572, true) := by decide
/-- A resident image of tenant 1. -/
def anImage : Image := { id := 256, tenant := 1, code := zeros 16, worker := 0, merge := 0, final := 0, ingest := 0, formats := 15, hdims := 7, groups := 63 }
def bindState (code : Nat) (body : List Byte) : State :=
  { turnState code body with jobs := { (turnState code body).jobs with images := [anImage] } }
set_option maxRecDepth 100000 in
theorem wit_ProgramsAndBindings_bind :
    let b : List Byte := [0, 0, 0, 1, 1]
    (turnOf (bindState 0x20 []) 0 0x20).isSome = true ∧ (turnOf (bindState 0x21 [0, 1]) 0 0x21).isSome = true ∧ (turnJob 0x21 [0, 1]).param 0 2 = 256 ∧
    (turnOf (bindState 0x22 b) 0 0x22).isSome = true ∧ (State.inletBind [] ((bindState 0x22 b).putJob (turnJob 0x22 b)) (turnJob 0x22 b) anInlet).2.status = 0 ∧
    (State.inletBind [] ((bindState 0x22 []).putJob (turnJob 0x22 [])) (turnJob 0x22 []) anInlet).2.status ≠ 0 ∧
    (turnOf (bindState 0x23 []) 0 0x23).isSome = true ∧ (bindState 0x23 []).bindTarget 1 0 = true := by decide
theorem wit_ProgramsAndBindings_config :
    let l : Inlet := { ringLog2 := 4, slotLog2 := 8 }
    let s : State := ((withJobs { inlets := [(0, l)] }).put R.JOB_ICFG0 F.JOB_ICFG0_RING_LOG2 4).put R.JOB_ICFG0 F.JOB_ICFG0_SLOT_LOG2 8
    s.get R.JOB_ICFG_SEL F.JOB_ICFG_SEL_INLET = 0 ∧ l.inRange = true ∧ (s.stagedInlet l).enable = false ∧ (s.stagedInlet l).inRange = true ∧
    ((s.putFlag R.JOB_ICFG0 F.JOB_ICFG0_ENABLE true).stagedInlet l).enable = true ∧ (State.reset.stagedInlet l).inRange = false ∧
    s.stagedInlet { l with enable := true } = { ({ l with enable := true } : Inlet) with enable := false } ∧
    { s.stagedInlet { l with enable := true, port := 1 } with enable := true } ≠ ({ l with enable := true, port := 1 } : Inlet) := by decide

def running (x : Tarn) : State := workState dividing { x with run := some aRun }
theorem wit_TarnBundlesIssue :
    (envOf (running {}) 0).isSome = true ∧ (envOf State.reset 0).isSome = false ∧ aRun.failing = none ∧ aRun.pc < 4096 ∧ 4096 ≤ ({ aRun with pc := 4096 } : TRun).pc ∧
    (let e := (envOf (running { xfers := [.block 0 0 1] }) 0).getD { x := {}, quad := 0, r := aRun, j := dividing, fresh := 0 }
     evalC e .sync = .stall ∧ evalC e (.trap 0) = .exc 10 0 ∧ evalS e .nop = .eff {}) ∧
    (decodeBundle 0xFC000000).s = .bad ∧ conflict { tw := [(3, 1)] } { tw := [(3, 2)] } = true := by decide

theorem wit_TarnScalarSlots : let x : Tarn := { t := [(1, 0x30000), (2, 0x200000), (3, 2)] }
    (envOf (running x) 0).isSome = true ∧ tarnFn .add = true ∧ taluImm 0 1 2 = some 3 ∧ addrOff (x.treg 1) 0 = 0x30000 ∧ addrOff (x.treg 2) 0 = 0x200000 ∧
    addrOff (x.treg 3) 0 % 4 ≠ 0 ∧ addrOff (x.treg 0) 0 = 0 ∧ brHolds 0 0 0 = some true ∧ brHolds 2 0 0 = some false ∧ aRun.loops.length < 4 ∧ x.xfers = [] ∧
    ({ x with xfers := [.block 0 0 1] } : Tarn).xfers ≠ [] ∧
    aRun.failing = none ∧ (let e : TEnv := { x := x, quad := 0, r := aRun, j := dividing, fresh := 0 }; e.closes = true ∧
      ({ e with r := { aRun with what := .merge } } : TEnv).closes = false) := by decide

/-- A Tarn with a descriptor of each kind, addresses in a work area, one partial in its ring. -/
def aTarn : Tarn :=
  { t := [(1, 0x30000), (2, 0x200000), (3, 1)],
    s := [(0, { kind := 1, base := 0, count := 1, len := 1 }), (1, { kind := 2, count := 64, len := 64 }), (2, { kind := 3, count := 64, len := 64 }),
          (3, { kind := 4, count := 64, len := 64 }), (4, { kind := 5, count := 64, len := 64 })],
    ring := [{ job := 0, bytes := zeros 64 }] }
/-- What its slots see. -/
def anEnv : TEnv := (envOf (running aTarn) 0).getD { x := {}, quad := 0, r := aRun, j := dividing, fresh := 0 }
theorem wit_TarnStreamVectorMatrixSlots_streams :
    (envOf (running aTarn) 0).isSome = true ∧ anEnv.r.failing = none ∧ anEnv.closes = true ∧ (anEnv.x.sdesc 0).kind = 1 ∧ (anEnv.x.sdesc 1).kind = 2 ∧ (anEnv.x.sdesc 2).kind = 3 ∧ (anEnv.x.sdesc 3).kind = 4 ∧
    (anEnv.x.sdesc 4).kind = 5 ∧ anEnv.x.treg 0 < 1 ∧ (1 : Nat) ≤ anEnv.x.treg 3 ∧ (anEnv.j.slices.find? (fun y => y.id == 0)).isSome = true ∧
    sramWriteOk (0x600 * 128) 64 = true ∧ (anEnv.x.sdesc 1).offset < anEnv.x.treg 3 ∧ anEnv.j.desc.partialOut = false ∧
    (anEnv.x.ring.find? (fun y => y.job == anEnv.r.job)).isSome = true ∧ (({} : Tarn).ring.find? (fun y => y.job == 0)) = none ∧ anEnv.x.outstanding 0 = 0 ∧
    ({ aTarn with xfers := [.block 0 0 1] } : Tarn).outstanding 0 ≠ 0 ∧ anEnv.x.filling 0 = false := by decide
set_option maxRecDepth 100000 in
theorem wit_TarnStreamVectorMatrixSlots_send : sramOut 0x30000 64 = false ∧
    sramOut 0x30000 (partialBytes (anEnv.x.sramNum (0x30000 + 8) 2) (dimOf (anEnv.x.sramNum (0x30000 + 10) 1 % 4))) = false := by decide
theorem wit_TarnStreamVectorMatrixSlots_vectors :
    (0x30000 + 0 * 128) % 2 ^ 32 % 128 = 0 ∧ laneWidth 0 = some 8 ∧ sramWriteOk 0x30000 (qstride anEnv.d) = true ∧ anEnv.x.bank 0 = none ∧
    sramOut (0x30000 + 64 * ((anEnv.j.qh + 31) / 32) + 0 * anEnv.d) anEnv.d = false ∧
    (∃ f, evalM anEnv .msoft = .eff f) ∧ (∃ f, evalM anEnv (.macc 1 0) = .eff f) ∧ (∃ f, evalM anEnv (.mscore 1 1 0) = .eff f) :=
  ⟨by decide, by decide, by decide, by decide, by decide, ⟨_, rfl⟩, ⟨_, rfl⟩, ⟨_, rfl⟩⟩
set_option maxRecDepth 100000 in
theorem wit_TarnStreamVectorMatrixSlots_records : (anEnv.x.recordAt 0x30000).isSome = true ∧ anEnv.x.recordAt 0x200000 = none ∧
    (anEnv.x.recordAt 0x30000).map (·.slices) = some 0 ∧
    ((anEnv.x.recordAt 0x30000).map (fun p => sramWriteOk 0x30000 (p.combine p).1.bytes.length)) = some true := by decide
set_option maxRecDepth 100000 in
theorem wit_TarnStreamVectorMatrixSlots_norm : (match evalM anEnv (.mnorm 1 1) with | .eff _ => true | _ => false) = true := by decide
/-- Two records in a work area whose exponents differ, the first of one slice. -/
def twoRecords : Tarn := { aTarn with t := [(1, 0x30000), (2, 0x30040)], sram := [(0x30004, 1), (0x3000B, 1)] }
set_option maxRecDepth 100000 in
theorem wit_TarnStreamVectorMatrixSlots_mismatch :
    (twoRecords.recordAt 0x30000).map (fun p => (p.slices != 0, p.valExp)) = some (true, 1) ∧ (twoRecords.recordAt 0x30040).map (·.valExp) = some 0 := by decide

/-- Pond 0 serving, with a pseudo-channel 0. -/
def pondState (c : PChan) : State := { State.reset.putFlag (R.POND_CTRL 0) F.POND_CTRL_ENABLE true with chans := [(0, { pc0 := c })], rst := { active := none } }
/-- A read of line 0 at a level. -/
def aRead (level : Nat) : MemReq :=
  { id := 7, level := level, write := false, pa := 0, data := [], poison := false, tenant := none, kslot := 256, striped := false, repair := false, aged := false }
theorem wit_PondQueuesAndIssue_request : (pondState {}).routeOf 0 false = .serve 0 ∧ (pondState {}).islandStopped (chIsland 0) = false ∧
    State.reset.routeOf 0 false = .down 0 ∧ (pondState {}).chRuns 0 = true ∧ ({} : PChan).pick [] false 99 = none ∧
    (pondState { rq := List.replicate 4 (aRead 3) }).routeOf 0 false = .serve 0 ∧ queueCap false 3 ≤ ((List.replicate 4 (aRead 3)).filter (fun r => r.level == 3)).length ∧
    (0 : Nat) < queueCap false 3 ∧ ((pondState {}).putFlag (R.POND_CTRL 0) F.POND_CTRL_FAULT true).routeOf 0 false = .faulted 0 ∧ unitOf 0 = some 0 ∧
    unitOf (0xF00000000000 / 64 * 64) = none := by decide
theorem wit_PondQueuesAndIssue_issue : let c : PChan := { rq := [aRead 2] }
    c.paused = false ∧ (pondState c).chServes 0 = true ∧ c.side 24 = (false, none) ∧ c.pick c.rq false 99 = some (aRead 2) ∧
    (pondState c).get (chSched 0) F.POND_SCHED_AGE_LIMIT ≠ 0 ∧ (c.rq ++ c.wq).any (fun r => r.id == 7 && r.level != 0 && !r.aged) = true ∧
    ((({ banks := [(0, { openRow := some 1 })] } : PChan).bank 0).openRow.isSome = true) ∧ c.refreshPtr % 16 = 0 ∧ bankOf 0 = 0 := by decide
theorem wit_PondQueuesAndIssue_retrain : let s := pondState {}
    let r := s.putFlag (R.POND_RETRAIN 0) F.POND_RETRAIN_STARTER true
    r.isStarter 0 = true ∧ r.chRuns 0 = true ∧ (tokenRing 0).any r.hasToken = false ∧
    (s.setToken 0 true).hasToken 0 = true ∧ (s.setToken 0 true).pausedPc 0 = none ∧ (pondState { paused := true, shortRow := 2 }).pausedPc 0 = some 0 ∧
    ((pondState { paused := true }).setToken 0 true).hasToken 0 = true ∧ (State.reset.setToken 0 true).hasToken 0 = true ∧
    (s.putFlag (R.POND_CTRL 0) F.POND_CTRL_FAULT true).chRuns 0 = false := by decide

/-- A fill of 4 rows of Pond 0 that runs. -/
def aFill : Fill := { range := .rows 0 0 4 3, pattern := 0x55, kslot := 256, kgen := 0, tag := 1 }
theorem wit_FillsAndTraining_fill : let s := pondState {}
    s.chFaulted 0 = false ∧ (0 : Nat) + 4 ≤ 61440 ∧ s.slotFull 256 = true ∧ s.chRuns 0 = true ∧ (s.chan 0).fill = none ∧ aFill.range.upTo 4 = aFill.range ∧ s.slotFull 1 = false ∧
    aFill.covers 0 = true ∧ aFill.covers 0x1000000000 = false ∧ (s.putFlag (R.POND_CTRL 0) F.POND_CTRL_FAULT true).chFaulted 0 = true ∧
    (({ s with chans := [(0, { fill := some { sender := 1, tag := 2, fill := aFill, count := 4, lines := 2048 } })] } : State).chan 0).fill.isSome = true := by decide
theorem wit_FillsAndTraining_spill : let s := ((State.reset.putFlag (R.SPILL_CTRL 0) F.POND_CTRL_ENABLE true).put (R.SPILL_STATUS 0) F.SPILL_STATUS_CAP_GIB 64)
    s.chFaulted 384 = false ∧ (0 : Nat) + 4 ≤ s.spillBytes 0 / 65536 ∧ ({ s with rst := { active := none }, chans := [(384, { trained := true })] } : State).chRuns 384 = true ∧ (s.chan 384).fill = none := by decide
theorem wit_FillsAndTraining_train : State.reset.chEnabled 0 = false ∧ State.reset.chFaulted 0 = false ∧ State.reset.chEnabled 384 = false ∧
    State.reset.flag (R.SPILL_CTRL 0) F.SPILL_CTRL_HOLD = false ∧ (State.reset.putFlag (chCtrl 0) F.POND_CTRL_TRAIN true).flag (chCtrl 0) F.POND_CTRL_TRAIN = true ∧
    State.reset.spillEmpty 0 = true ∧ ({ State.reset with kv := { old := [{ pa := spillBase, bytes := 64, waits := [] }] } } : State).spillEmpty 0 = false ∧
    (State.reset.putFlag (R.SPILL_CTRL 0) F.SPILL_CTRL_HOLD true).flag (R.SPILL_CTRL 0) F.SPILL_CTRL_HOLD = true := by decide

/-- XLAT_CMD's arguments, the tenant, endpoint and context of `oneLine` known. -/
def args (a0 a1 a2 : Nat) (s : State) : State :=
  ((s.setReg R.XLAT_CMDARG0 (BitVec.ofNat 64 a0)).setReg R.XLAT_CMDARG1 (BitVec.ofNat 64 a1)).setReg R.XLAT_CMDARG2 (BitVec.ofNat 64 a2)
theorem wit_TenantsEndpointsContexts_tenants :
    cmdReady (args (2 + 2 ^ 20) 0 0 oneLine) (2 ^ 37 - 1) = true ∧ oneLine.formed = false ∧ oneLine.tenantOf 2 = none ∧ oneLine.slotFull 2 = false ∧
    ({ oneLine with xlat := {} } : State).tenantOf 1 = none ∧ oneLine.slotFull 1 = true ∧ (oneLine.tenantOf 1).isSome = true ∧
    (oneLine.putFlag R.XLAT_CMD F.XLAT_CMD_BUSY true).flag R.XLAT_CMD F.XLAT_CMD_BUSY = true ∧ cmdReady (args 1 0 0 oneLine) (2 ^ 8 - 1) = true ∧
    (oneLine.xlat.bound.any (fun e => e.2 == some 1)) = true ∧
    (let x : State := { oneLine with xlat := { tenants := [(1, some { driver := 5, quota := 9 })] } }
     (x.tenantOf 1).isSome = true ∧ x.xlat.bound = [] ∧ x.xlat.contexts = [] ∧ x.basins = []) := by decide
theorem wit_TenantsEndpointsContexts_endpoints :
    cmdReady (args (6 + 2 ^ 12) 0 0 oneLine) (2 ^ 20 - 1) = true ∧ oneLine.boundTo 6 = none ∧ cmdReady (args 5 0 0 oneLine) (2 ^ 12 - 1) = true ∧
    (oneLine.boundTo 5).isSome = true ∧ oneLine.endpointHolds 5 = false ∧ (oneJob (aJob .command {})).endpointHolds 5 = true ∧
    cmdReady (args (8 + 2 ^ 16) 0 0 oneLine) (2 ^ 24 - 1) = true ∧ oneLine.contextOf 8 = none ∧ (oneLine.contextOf 7).isSome = true ∧
    cmdReady (args 7 0 0 oneLine) (2 ^ 16 - 1) = true ∧ oneLine.xlat.waiting = [] ∧ oneLine.xlat.cmdWait = none ∧ oneLine.xlat.invs.length < 16 := by decide
theorem wit_TenantsEndpointsContexts_queue : let s := oneLine.put R.XLAT_FQ_PTR F.XLAT_FQ_PTR_TAIL 3
    s.get R.XLAT_FQ_PTR F.XLAT_FQ_PTR_TAIL = 3 ∧ s.get R.XLAT_FQ_PTR F.XLAT_FQ_PTR_HEAD = 0 := by decide

/-- Full configuration, locked: a CHIP basin of twelve units of tenant 2, driven by endpoint 5. -/
def roomyFabric : State :=
  let s := (oneLine.putFlag R.XLAT_CFG F.XLAT_CFG_MODE true).putFlag R.XLAT_CFG F.XLAT_CFG_LOCK true
  args 2 (12 * 2 ^ 25) 0 { s with xlat := { s.xlat with tenants := [(1, some { driver := 5, quota := 9 }), (2, some { driver := 5, quota := 9 })] } }
set_option maxRecDepth 100000 in
theorem wit_BasinsAndSyncs_create : let s := roomyFabric
    s.flag R.XLAT_CMD F.XLAT_CMD_BUSY = false ∧ s.flag R.XLAT_CFG F.XLAT_CFG_LOCK = true ∧ s.basinArgs.ok s.unitBytes = true ∧
    (s.tenantOf s.basinArgs.tenant).isSome = true ∧ s.overlaps s.basinArgs = false ∧ s.basins.length < 1024 ∧ s.formed = false ∧ s.basinArgs.kind ≠ 2 ∧
    s.basinArgs.size = 12 ∧ (s.reserve s.allRuns s.basinArgs.real s.basinArgs.quad s.basinArgs.tpa s.basinArgs.size).map (·.length) = some 12 ∧
    s.reserve [] s.basinArgs.real s.basinArgs.quad 0 s.basinArgs.pool = some [] ∧ s.reserve [] 4 0 0 s.basinArgs.spill = some [] ∧ s.freeBasin = some 0 := by decide
theorem wit_BasinsAndSyncs_destroy : let s := args 3 0 0 oneLine
    cmdReady s (2 ^ 10 - 1) = true ∧ s.formed = false ∧ s.basin 3 = some oneBasin ∧ oneBasin.destroyed = false ∧ oneBasin.closing = false ∧ oneBasin.servedHere = true ∧
    s.seqsIn 3 = [] ∧ s.versionsIn 3 = [] ∧ ({ s with kv := { seqs := [(0, some noTokens)] } } : State).seqsIn 3 ≠ [] ∧
    ({ s with xlat := { s.xlat with basins := [(3, some { oneBasin with destroyed := true })] } } : State).basin 3 = some { oneBasin with destroyed := true } ∧
    s.allDone oneBasin.waitJobs = true ∧ s.xlat.waiting = [] ∧ s.xlat.cmdWait = none ∧ s.xlat.invs.length < 16 ∧
    (let m : State := { s with xlat := { s.xlat with basins := [(3, some { oneBasin with making := true })] } }
     m.basins = [(3, { oneBasin with making := true })] ∧ m.xlat.fills = [] ∧ m.chans = [] ∧ oneBasin.shadowHere = false) := by decide
/-- A TABLE_SYNC packet of endpoint 5 for an ASID, no entries. -/
def syncLines (asid : Nat) : List Byte := leBytes asid 2 ++ List.replicate 62 0
set_option maxRecDepth 100000 in
theorem wit_BasinsAndSyncs_sync :
    let w0 := (word0 4 7 4).toNat
    let w1 : Nat := 0
    let a (s : State) (asid : Nat) := (s.takeSync 0 w0 w1 (syncLines asid) (ptTotal w1)).arrives 0 w0 w1 (syncLines asid) 0 true
    let c := (a oneLine 7).1.colour 0 1 ((a oneLine 7).1.epClass 5) 1 false
    (a oneLine 7).2 = true ∧ ptTotal w1 = 1 ∧ ptReserved w1 = 0 ∧ ptSeq w1 = 0 ∧ (a oneLine 7).1.contextOf 7 = some 1 ∧ (a oneLine 8).2 = true ∧ (a oneLine 8).1.contextOf 8 = none ∧
    ((a oneLine 7).1.tenantOf 1).elim false (fun x => x.driver == 5) = true ∧ (a { oneLine with xlat := {} } 7).2 = true ∧
    c.2 = .queued ∧ c.1.portIdle 0 = true ∧ ((c.1.putItem 0 1 (c.1.epClass 5) 1 2 false (.sync (syncReq 5 1 1 (syncLines 7)))).takeItem 0 false).2.isSome = true := by decide
theorem wit_BasinsAndSyncs_inv : let i : Inv := { id := 4, stage := 1, space := 7, lo := 0, len := 1, waiter := .command }
    (i.before.any State.reset.stillDue || i.change.elim false (fun n => State.reset.pair.mirror.any (fun w => w.id == n))) = false ∧
    ({ i with change := some 0 } : Inv).change.elim false (fun n => [n].any (fun w => w == 0)) = true ∧
    ([{ i with waiter := .move }, i].find? (fun i => i.id == 4)) = some { i with waiter := .move } ∧ i.waiter = .command ∧
    ({ i with waiter := .sync 5 1 0 7 } : Inv).waiter = .sync 5 1 0 7 := by decide

/-- Pond 0 serving, a row logged in entry 0, background work on. -/
def rowLogged : State := (pondState {}).enterRow 0 0 0 5 1
theorem wit_RowsAreTestedAndRepaired_test : rowLogged.chServes 0 = true ∧ ((rowLogged.chan 0).pc 0).paused = false ∧ (rowLogged.chan 0).testOf 0 = none ∧
    (rowLogged.chan 0).order.find? (fun e => rowLogged.celogValid 0 e && pcOf (rowLogged.celogPa 0 e) == 0) = some 0 ∧
    (({ test := [{ pc := 0, bank := 0, row := 0, entry := 0 }] } : Chan).testOf 0).isSome = true ∧ (({} : Chan).retireRow 0 0 0).isSome = true ∧
    rowLogged.celogState 0 0 ≠ 2 ∧ rowLogged.celogValid 0 0 = true := by decide
/-- Lines 0 and 64 of Pond 0, the first valid. -/
def scrubbed : State :=
  { (pondState {}).putFlag R.RAS_CTRL F.RAS_CTRL_SCRUB_EN true with
    pool := { cells := [], side := [(0, { tag := 1, valid := true, kslot := 1, kgen := 1 })], fills := [] }, ras := { ueLines := [0, 1] } }
set_option maxRecDepth 100000 in
theorem wit_RowsAreTestedAndRepaired_scrub : unitOf 0 = some 0 ∧ scrubbed.flag R.RAS_CTRL F.RAS_CTRL_SCRUB_EN = true ∧ scrubbed.chServes 0 = true ∧
    scrubbed.patrols 0 0 = true ∧ scrubbed.stewardUp (unitQuad 0) = true ∧ scrubbed.pwr.background = true ∧ (scrubbed.pool.line 0).valid = true ∧
    (scrubbed.pool.line 64).valid = false ∧ (scrubbed.pool.line 0).poison = false ∧ unitOf 64 = some 0 ∧ scrubbed.stripeOf 64 = none ∧
    scrubbed.ras.ueLines.contains 1 = true := by decide
set_option maxRecDepth 1000000 in
theorem wit_RowsAreTestedAndRepaired_errors :
    fastDecode [] = .clean ∧ fastDecode [(35, 1)] = .corrected 35 none ∧ fastDecode [(35, 1), (34, 1)] = .uncorrectable := by decide

set_option maxRecDepth 100000 in
theorem wit_RasCommandsRun :
    State.reset.rasBusy = false ∧ (State.reset.putFlag R.RAS_CMD F.RAS_CMD_BUSY true).rasBusy = true ∧ State.reset.stackState 0 = 0 ∧
    (State.reset.putFlag R.RAS_REBUILD F.RAS_REBUILD_ACTIVE true).flag R.RAS_REBUILD F.RAS_REBUILD_ACTIVE = true ∧
    (State.reset.put (R.RAS_STACK 0) F.RAS_STACK_STATE 1).stackState 0 = 1 ∧ (State.reset.put (R.RAS_STACK 0) F.RAS_STACK_STATE 1).spareFree = true ∧
    (State.reset.put (R.SPILL_STATUS 0) F.SPILL_STATUS_CAP_GIB 64).spillBytes 0 ≠ 0 ∧ State.reset.spillBytes 0 = 0 ∧
    (List.range 32).any (fun c => (pondState {}).chEnabled c) = true ∧ (List.range 32).any (fun c => State.reset.chEnabled c) = false ∧
    rowLogged.celogState 0 0 ≠ 2 ∧ (rowLogged.setCelogState 0 0 2).celogState 0 0 = 2 ∧ State.reset.rst.l2 = 0 ∧
    State.reset.pwr.background = true ∧ State.reset.nextStripeUnit 0 = none ∧
    ({ State.reset with xlat := { basins := [(0, some { oneBasin with mapped := [{ start := 0, len := 11, base := 0, set := List.range 12, striped := true }] })] } }
      : State).nextStripeUnit 0 = some 0 := by decide
set_option maxRecDepth 100000 in
theorem wit_RasCommandsRun_retest : rowLogged.celogOf 0 0 = some 0 := by decide

/-- A formed pair with both paths held. -/
def formedState : State := ((State.reset.setPairState 2).setTwinOk true).setRingOk true
/-- Fencing, the land asserted. -/
def fencing : State := State.assertFence (State.reset.setPairState 4)
/-- A formed pair whose link is up and that has seen a heartbeat. -/
def liveState : State := { formedState.setLinkState 8 lsActive with mgmt := { formedState.mgmt with hb0 := some 0 } }
theorem wit_PathsOfAFormedPair : formedState.twinOk = true ∧ formedState.pairState = 2 ∧ formedState.linkActive 8 = false ∧ formedState.ringOk = true ∧
    (formedState.setRingOk false).ringOk = false ∧ (formedState.setRingOk false).twinOk = true ∧ formedState.seenOn formedState.mgmt.hb0 = false ∧
    formedState.seenOn formedState.mgmt.hb1 = false ∧ (formedState.setTwinOk false).twinOk = false ∧ (formedState.setTwinOk false).ringOk = true ∧
    liveState.pairState = 2 ∧ liveState.linkActive 8 = true ∧ liveState.pair.sinceCopy < liveState.get R.PAIR_CFG F.PAIR_CFG_MISS_LIMIT ∧
    liveState.seenOn liveState.mgmt.hb0 = true ∧ fencing.pairState = 4 ∧ fencing.rst.fenceLand = true ∧ fencing.pair.fenceHeld = false ∧
    (fencing.putFlag R.PAIR_CFG F.PAIR_CFG_AUTO_TAKEOVER true).flag R.PAIR_CFG F.PAIR_CFG_AUTO_TAKEOVER = true ∧ fencing.pairBusy = false ∧
    (fencing.putFlag R.PAIR_CMD F.PAIR_CMD_BUSY true).pairBusy = true ∧
    ({ fencing with pair := { fencing.pair with fenceHeld := true } } : State).pair.fenceHeld = true := by decide

theorem wit_PairPathsAndFence : formedState.pairState = 2 ∧ formedState.pair.goodbye = false ∧ fencing.pairState = 4 ∧ fencing.rst.fenceLand = true ∧ fencing.pair.fenceHeld = false ∧ fencing.pairBusy = false ∧
    formedState.pairBusy = false ∧ formedState.rst.fenceLand = false ∧
    (State.beginFence (formedState.putFlag R.PAIR_STATUS F.PAIR_STATUS_SIDE true) true).pair.fenceWait = true ∧ (formedState.beginFence true).rst.fenceLand = true := by
  decide

/-- The Twin link ACTIVE and the partner verified, in a pair state. -/
def twinUp (n : Nat) : State := { State.setPairState (State.reset.setLinkState 8 lsActive) n with pair := { authed := true } }
theorem wit_PairFormsAndSwitches : (twinUp 0).linkActive 8 = true ∧ (twinUp 0).pair.authTried = false ∧ (twinUp 0).secFlag F.SEC_STATUS_ID_READY = false ∧
    ((twinUp 0).putFlag R.SEC_STATUS F.SEC_STATUS_ID_READY true).secFlag F.SEC_STATUS_ID_READY = true ∧
    (twinUp 0).secFlag F.SEC_STATUS_DEBUG_LATCH = false ∧ (twinUp 0).pairState = 0 ∧ (twinUp 0).pair.authed = true ∧ (twinUp 0).basins = [] ∧
    (twinUp 0).clashes { n := 1, full := true, rest := {} } = false ∧ (twinUp 6).pairBusy = false ∧ (twinUp 6).pairState = 6 ∧ (twinUp 6).linkActive 8 = true ∧
    (twinUp 2).pairState = 2 ∧ (twinUp 1).pairState = 1 ∧
    (let s : State := { twinUp 6 with pair := { admitting := some 3, authed := true } }
     s.pair.admitting = some 3 ∧ s.linkActive 8 = true ∧ s.pair.mirror.any (fun w => w.id < 3) = false ∧ (s.setLinkState 8 lsOff).linkActive 8 = false) ∧ (twinUp 2).pair.lastCopy.elim true (fun n => n < 5) = true ∧
    (((twinUp 3).setTwinOk true).setRingOk true).pairState = 3 ∧ (((twinUp 3).setTwinOk true).setRingOk true).twinOk = true ∧
    (((twinUp 3).setTwinOk true).setRingOk true).ringOk = true ∧
    (({ twinUp 2 with xlat := { basins := [(0, some { oneBasin with takenOver := true })] } } : State).basins.filter (fun e => e.2.takenOver && !e.2.destroyed)).map (·.1) = [0]
    := by decide

/-- Both feeds present. -/
def bothFeeds : State := (State.reset.putFlag R.PWR_FEED_STATUS F.PWR_FEED_STATUS_A_OK true).putFlag R.PWR_FEED_STATUS F.PWR_FEED_STATUS_B_OK true
/-- Both feeds present for 100 ms, SINGLE still set. -/
def longWhole : State := State.putFlag { bothFeeds with pwr := { bothFeeds.pwr with bothOk := 1000 } } R.PWR_FEED_STATUS F.PWR_FEED_STATUS_SINGLE true
theorem wit_FeedsSamplesAndLimits_restore : longWhole.feedGood false = true ∧ longWhole.feedGood true = true ∧ 1000 ≤ longWhole.pwr.bothOk ∧
    bothFeeds.pwr.bothOk < 1000 ∧ State.reset.feedGood false = false := by decide
theorem wit_FeedsSamplesAndLimits : ({ bothFeeds with pwr := { bothFeeds.pwr with feedWindow := false } } : State).pwr.feedWindow = false ∧
    bothFeeds.pwr.feedWindow = true ∧
    bothFeeds.feedGood true = true ∧ bothFeeds.feedGood false = true ∧
    bothFeeds.get R.PWR_FEED_CFG F.PWR_FEED_CFG_CAP_W ≠ 1050 ∧ (bothFeeds.put R.PWR_FEED_CFG F.PWR_FEED_CFG_CAP_W 1050).get R.PWR_FEED_CFG F.PWR_FEED_CFG_CAP_W = 1050 ∧
    bothFeeds.capW < (4095#12).toNat ∧ bothFeeds.pwr.pmbusGood = 10 ∧ (bothFeeds.tighten []).isSome = true ∧
    bothFeeds.tighten (List.replicate 3 false ++ List.replicate 15 true) = none ∧ 8 < issueF [] ∧ issueF (List.replicate 8 true) = 8 ∧
    bothFeeds.pointOf (List.replicate 8 true) = 0 ∧ bothFeeds.pointOf (List.replicate 3 false ++ List.replicate 8 true) = 3 ∧
    bothFeeds.get R.PWR_THERM F.PWR_THERM_TRIP_C ≤ (115#8).toNat ∧ (114#8).toNat < bothFeeds.get R.PWR_THERM F.PWR_THERM_TRIP_C ∧
    ({ bothFeeds with rst := { bothFeeds.rst with thermHold := true } } : State).rst.thermHold = true ∧ bothFeeds.pulsing = false ∧
    ({ bothFeeds with sec := { bothFeeds.sec with pulseSvn := true } } : State).pulsing = true := by decide

/-- Every source ready, and the Wellhead's PLL stable. -/
def clocked : State := State.setPll (State.reset.put R.CLK_SRCSTAT F.CLK_SRCSTAT_READY 31) wellIsland true
theorem wit_ClocksSwitchAndStop : (4#10).toNat < 5 ∧ clocked.srcFailed (clocked.clkSourceOf 509) = false ∧ clocked.clkSourceOf 509 ≠ 4 ∧
    clocked.pllStable wellIsland = true ∧ (clocked.putFlag R.CLK_CFG F.CLK_CFG_WELL_AUTOFALL false).flag R.CLK_CFG F.CLK_CFG_WELL_AUTOFALL = false ∧
    (clocked.putFlag R.CLK_CFG F.CLK_CFG_WELL_AUTOFALL true).flag R.CLK_CFG F.CLK_CFG_WELL_AUTOFALL = true ∧ clocked.srcReady 4 = true ∧
    clocked.flag R.CLK_SEL F.CLK_SEL_WELL_SRC = false ∧ State.reset.srcReady 4 = false ∧
    (clocked.putFlag R.CLK_CFG F.CLK_CFG_TWIN_AUTOFALL true).flag R.CLK_CFG F.CLK_CFG_TWIN_AUTOFALL = true ∧ clocked.srcReady 2 = true ∧
    clocked.flag R.CLK_SEL F.CLK_SEL_TWIN_SRC = false := by decide

/-- The boot ROM has started. -/
def bootedState : State := { State.reset with rst := { State.reset.rst with booted := true } }
/-- A blob's header for slot 0 of chip 0. -/
def blobHead : List Byte := leBytes 0x59504B57 4 ++ zeros 20
theorem wit_KeysIdentityAndDebug_import : bootedState.islandStopped secIsland = false ∧ State.reset.flag R.SEC_KCMD F.SEC_KCMD_BUSY = false ∧ inMailbox (State.reset.get R.SEC_KARG F.SEC_KARG_BUF) 1664 = true ∧
    (State.reset.putFlag R.SEC_STATUS F.SEC_STATUS_DEBUG_LATCH true).secFlag F.SEC_STATUS_DEBUG_LATCH = true ∧ State.reset.secFlag F.SEC_STATUS_DEBUG_LATCH = false ∧
    leNat ((blobHead.drop 0).take 4) = 0x59504B57 ∧ leNat ((blobHead.drop 4).take 2) = 0 ∧ leNat ((blobHead.drop 6).take 2) = 0 ∧
    leNat ((blobHead.drop 20).take 4) = 0 ∧ leNat ((blobHead.drop 8).take 8) = bootedState.shadow.chip % 2 ^ 56 ∧
    leNat ((blobHead.drop 16).take 4) = (bootedState.slot 0).gen ∧ (bootedState.slot 0).full = false ∧ (bootedState.slot 256).full = true ∧
    bootedState.unwrapBlob blobHead = none ∧ (bootedState.setSlot 0 { full := true, gen := 1, key := [1] }).slotFull 0 = true := by decide
theorem wit_KeysIdentityAndDebug_others : (State.reset.tenantOf 0).isSome = false ∧
    (({ State.reset with xlat := { tenants := [(0, some ⟨0, 0⟩)] } } : State).tenantOf 0).isSome = true ∧ State.reset.flag R.SEC_ACMD F.SEC_ACMD_BUSY = false ∧
    inMailbox 0 (1824 + 80 * 1 + 9893) = true ∧ inMailbox 0xFFFFC0 11797 = false ∧
    (State.reset.putFlag R.SEC_STATUS F.SEC_STATUS_ID_EXHAUSTED true).secFlag F.SEC_STATUS_ID_EXHAUSTED = true ∧
    (State.reset.putFlag R.SEC_STATUS F.SEC_STATUS_ID_STATE_BAD true).secFlag F.SEC_STATUS_ID_STATE_BAD = true ∧
    (State.reset.putFlag R.SEC_STATUS F.SEC_STATUS_ID_READY true).secFlag F.SEC_STATUS_ID_READY = true ∧
    State.reset.fuses.svn < (State.reset.put R.SEC_SVN F.SEC_SVN_RUN_SVN 3).get R.SEC_SVN F.SEC_SVN_RUN_SVN ∧
    State.reset.get R.SEC_SVN F.SEC_SVN_RUN_SVN ≤ State.reset.fuses.svn ∧ bootedState.secFlag F.SEC_STATUS_ID_READY = false ∧
    bootedState.secFlag F.SEC_STATUS_ID_STATE_BAD = false ∧ bootedState.rst.burning = false ∧ bootedState.rst.booted = true ∧ bootedState.fuses.chunks < 2048 ∧
    bootedState.flash.idState.elim false (fun r => bootedState.fuses.chunks ≤ r.1) = false ∧
    (some (0, 1024)).elim false (fun r : Nat × Nat => bootedState.fuses.chunks ≤ r.1) = true ∧
    ((State.reset.putFlag R.SEC_STATUS F.SEC_STATUS_DBG_FUSE true).putFlag R.SEC_CTRL F.SEC_CTRL_DBG_ALLOW true).secFlag F.SEC_STATUS_DBG_FUSE = true ∧
    ((State.reset.putFlag R.SEC_STATUS F.SEC_STATUS_DBG_FUSE true).putFlag R.SEC_CTRL F.SEC_CTRL_DBG_ALLOW true).flag R.SEC_CTRL F.SEC_CTRL_DBG_ALLOW = true ∧
    State.reset.sec.opening = 0 ∧ ({ State.reset with sec := { State.reset.sec with opening := 1 } } : State).sec.opening = 1 := by decide

/-- No reset in progress, the watchdog started. -/
def bootedAlone : State := { State.reset with rst := { State.reset.rst with booted := true, active := none, wdog := true } }
/-- A fuse pulse is being driven, and a data-plane reset held. -/
def pulsingState : State := { bootedAlone with rst := { bootedAlone.rst with burning := true, heldReset := some (2, 5) } }
theorem wit_ResetSourcesAndLevels : (some (1, 4)).any (fun a : Nat × Nat => a.1 ≤ 2) = true ∧ State.reset.rst.active.any (fun a => a.1 ≤ 2) = true ∧
    bootedAlone.rst.active.any (fun a => a.1 ≤ 1) = false ∧ bootedAlone.rst.burning = false ∧ pulsingState.rst.burning = true ∧
    pulsingState.rst.active.any (fun a => a.1 ≤ 1) = false ∧ pulsingState.rst.heldReset = some (2, 5) ∧
    (State.reset.setReg R.RST_LEVELMAP (BitVec.ofNat 64 (fixedMap 5))).reg R.RST_LEVELMAP = BitVec.ofNat 64 (fixedMap 5) ∧ (bootedAlone.putFlag R.RST_WDOG F.RST_WDOG_ENABLE true).flag R.RST_WDOG F.RST_WDOG_ENABLE = true ∧
    (bootedAlone.putFlag R.RST_WDOG F.RST_WDOG_ENABLE false).flag R.RST_WDOG F.RST_WDOG_ENABLE = false ∧ bootedAlone.rst.wdog = true ∧
    bitOf ((bootedAlone.setFailed 1 true).get R.CLK_SRCSTAT F.CLK_SRCSTAT_FAILED) 1 = true ∧
    (bootedAlone.putFlag R.SEC_STATUS F.SEC_STATUS_DEBUG_OPEN true).flag R.SEC_STATUS F.SEC_STATUS_DEBUG_OPEN = true ∧
    bootedAlone.flag R.SEC_STATUS F.SEC_STATUS_DEBUG_OPEN = false ∧ State.reset.rst.fused = false ∧
    ({ pulsingState with rst := { pulsingState.rst with heldReset := none } } : State).sec.burning = none := by decide

/-- A unit's reset register is free, no reset in progress, and Tarn 3 held. -/
def tarnHeld : State := bootedAlone.setUnit 0 3 1
theorem wit_DataPlaneAndUnitResets : ({ bootedAlone with rst := { bootedAlone.rst with l2 := 1 } } : State).rst.l2 = 1 ∧
    ({ bootedAlone with rst := { bootedAlone.rst with l2 := 2 } } : State).rst.l2 = 2 ∧ tarnHeld.flag R.RST_UNIT F.RST_UNIT_BUSY = false ∧
    (99#9).toNat < unitCount 0 ∧ (383#9).toNat < unitCount 1 ∧ (7#9).toNat < unitCount 2 ∧ (11#9).toNat < unitCount 3 ∧ unitCount 0 ≤ (100#9).toNat ∧
    unitCount 2 ≤ (8#9).toNat ∧ tarnHeld.rst.active = none ∧ tarnHeld.unitHeld 0 3 = true ∧ tarnHeld.unitHeld 0 4 = false ∧ tarnHeld.unitHeld 1 3 = false ∧
    State.reset.rst.active ≠ none ∧ Tbl.get (fun _ => 0) (tarnHeld.setUnit 0 3 2).rst.units (unitKey 0 3) = 2 := by decide

/-- The Ponds of the system area serve its rows, and the mailbox runs; `cells` are the bytes of the command ring. -/
def mailState (tail : Nat) (cells : List Host.Cell) : State :=
  let s := (List.range 32).foldl (fun s p => s.putFlag (R.POND_CTRL (64 + p)) F.POND_CTRL_ENABLE true) bootedAlone
  let s := ((s.put R.GLOB_STATUS F.GLOB_STATUS_PHASE 4).putFlag R.MGMT_CTRL F.MGMT_CTRL_MBX_EN true).put R.MGMT_CMD_PTR F.MGMT_CMD_PTR_TAIL tail
  let fills := (List.range 32).map (fun u => ({ range := .rows (64 + u) 0 61440 3, pattern := 0, kslot := 256, kgen := 0, tag := 0 } : Fill))
  { s with pool := { cells := cells, side := [], fills := fills } }
/-- A heartbeat or reset frame of station 1, with a good CRC. -/
def frameFor (dest src type hops : Nat) (payload : List Byte) : List Byte := frameBytesOf dest src type hops payload
set_option maxRecDepth 1000000 in
theorem wit_MailboxEventsRingAndDump_mail :
    let s := mailState 1 [(bar2 0x2000000, 6)]
    s.mailRuns = true ∧ s.get R.MGMT_CMD_PTR F.MGMT_CMD_PTR_HEAD ≠ s.get R.MGMT_CMD_PTR F.MGMT_CMD_PTR_TAIL ∧ s.isFatal = false ∧ s.rst.recovery = false ∧
      (s.readMail 0 64).2.1 = true ∧ (s.readMail 0 64).2.2.getD 0 0 = 6 := by decide
set_option maxRecDepth 1000000 in
theorem wit_MailboxEventsRingAndDump_bulk :
    let e : List Byte := zeros 24 ++ leBytes 0x100000 4 ++ leBytes 64 4
    cmdArg e 16 8 % 64 = 0 ∧ cmdArg e 24 4 % 64 = 0 ∧ 0x100000 ≤ cmdArg e 24 4 ∧ 64 ≤ cmdArg e 28 4 ∧ cmdArg e 28 4 % 64 = 0 ∧
      (State.mailBulk false 0 [] e (mailState 1 [])).isSome = true := by decide
theorem wit_MailboxEventsRingAndDump_flash :
    let e : List Byte := zeros 8 ++ leBytes 1 16 ++ leBytes 0x100000 4 ++ leBytes 64 4
    cmdArg e 8 1 < 2 ∧ cmdArg e 24 4 + cmdArg e 28 4 ≤ 32 * 2 ^ 20 ∧ cmdArg e 28 4 ≤ 8 * 2 ^ 20 ∧ (State.reset.verifyFw (zeros 64)).2 = none := by decide
/-- Station 2, with partner 1, code 7 and RING_MISS 3, the bypass open. -/
def ringState : State :=
  (((bootedAlone.put R.MGMT_RING_CFG F.MGMT_RING_CFG_STATION 2).put R.MGMT_RING_CFG F.MGMT_RING_CFG_PARTNER 1).put R.MGMT_RING_CFG F.MGMT_RING_CFG_RSTCODE 7)
set_option maxRecDepth 1000000 in
theorem wit_MailboxEventsRingAndDump_heartbeat : ringState.takes (frameFor 255 1 1 9 []) = true ∧ frameAt (frameFor 255 1 1 9 []) 2 = 1 ∧
    frameAt (frameFor 255 1 1 9 []) 1 = ringState.get R.MGMT_RING_CFG F.MGMT_RING_CFG_PARTNER ∧ ringState.pair.goodbye = false ∧ ringState.pair.kept = [] := by decide
set_option maxRecDepth 1000000 in
theorem wit_MailboxEventsRingAndDump_reset : ringState.takes (frameFor 2 1 3 9 [7, 0]) = true ∧ frameAt (frameFor 2 1 3 9 [7, 0]) 2 = 3 ∧
    leNat (((frameFor 2 1 3 9 [7, 0]).drop 4).take 2) = ringState.get R.MGMT_RING_CFG F.MGMT_RING_CFG_RSTCODE := by decide
set_option maxRecDepth 1000000 in
theorem wit_MailboxEventsRingAndDump_forward : ringState.takes (frameFor 9 1 1 9 []) = false ∧ frameOk (frameFor 9 1 1 9 []) = true ∧ ringState.bypassOpen = true ∧
    1 < frameAt (frameFor 9 1 1 9 []) 3 ∧ frameOk (zeros 64) = false ∧ frameAt (frameFor 9 1 1 1 []) 3 ≤ 1 := by decide
/-- A log of code 3. -/
def aLog : Report := { kind := 1, sev := 0, code := 3, trace := 0, cycles := 0, data := [] }
theorem wit_MailboxEventsRingAndDump_events : reports (0x2000#16).toNat = true ∧ aLog.kind ≠ 0 ∧ ({ aLog with kind := 0 } : Report).kind = 0 ∧
    ({ aLog with kind := 2 } : Report).kind = 2 ∧ bitOf (State.reset.get R.MGMT_TRACE F.MGMT_TRACE_MASK) 0 = false ∧
    bitOf ((State.reset.put R.MGMT_TRACE F.MGMT_TRACE_MASK 1).get R.MGMT_TRACE F.MGMT_TRACE_MASK) 0 = true ∧ isSteward (0x2000#16).toNat = false ∧ (State.reset.putFlag R.WELL_CORESTAT F.WELL_CORESTAT_STEWARD_LOST true).stewardUp 0 = false ∧
    ((State.reset.queueReport 0x2000 0x2000 { kind := 1, sev := 0, code := 3, count := 0, cycles := 0, data := [] }).evUnit 0x2000).queue.length = 1 ∧
    State.reset.stewardUp 0 = true ∧ State.reset.mgmt.snap = none ∧ State.reset.mgmt.unread.length < 1 ∧
    ({ State.reset with mgmt := { State.reset.mgmt with snap := some { epoch := 1, done := [], start := 0, incomplete := false } } } : State).mgmt.snap ≠ none
    := by decide
theorem wit_MailboxEventsRingAndDump_fatal : bootedAlone.dumpCore ≠ none ∧ bootedAlone.isFatal = false ∧ bootedAlone.fatalCause 2 = true ∧
    bootedAlone.wellRuns = true ∧ bootedAlone.flag R.GLOB_STATUS F.GLOB_STATUS_DUMP_VALID = false ∧
    ({ bootedAlone with mgmt := { bootedAlone.mgmt with fatal := some { cause := 2, info := 0, core := 0, mcycle := 0, resets := 0 } } } : State).mgmt.fatal ≠ none ∧
    3 ≤ Tbl.get (fun _ => 0) ({ bootedAlone with mgmt := { bootedAlone.mgmt with misses := [(0, 3)] } } : State).mgmt.misses 0 ∧
    bootedAlone.stewardUp 0 = true ∧ ((bootedAlone.setSync 1 true).inSync 1) = true := by decide

/-- Fuses loaded, no input asserted, every source ready and the two PLLs stable. -/
def readyToBoot : State :=
  State.setPll { clocked with rst := { clocked.rst with pwronIn := false, fused := true } } secIsland true
theorem wit_FromPowerOnToService : readyToBoot.rst.booted = false ∧ readyToBoot.rst.fused = true ∧ readyToBoot.heldInReset = false ∧
    readyToBoot.clockOk wellIsland = true ∧ readyToBoot.clockOk secIsland = true ∧ readyToBoot.secFlag F.SEC_STATUS_DEBUG_LATCH = false ∧
    (readyToBoot.putFlag R.SEC_STATUS F.SEC_STATUS_DEBUG_LATCH true).secFlag F.SEC_STATUS_DEBUG_LATCH = true ∧ State.reset.rst.fused = false ∧
    bootedAlone.wellRuns = true ∧ bootedAlone.rst.recovery = false ∧ bootedAlone.phase = 0 ∧ (bootedAlone.core 0).st = .running ∧
    (bootedAlone.verifyFw (bootedAlone.flash.slot 0)).2 = none ∧ State.reset.wellRuns = false ∧
    ((bootedAlone.bump R.WELL_MCYCLE).runWatchdog 0).phase = 0 ∧ (((bootedAlone.setPhase 4).bump R.WELL_MCYCLE).runWatchdog 1).phase ≠ 0 ∧
    (((bootedAlone.setPhase 4).bump R.WELL_MCYCLE).runWatchdog 1).isFatal = false ∧
    (bootedAlone.putFlag R.RST_WDOG F.RST_WDOG_ENABLE true).flag R.RST_WDOG F.RST_WDOG_ENABLE = true ∧ (bootedAlone.setPhase 3).phase = 3 ∧
    (bootedAlone.setPhase 3).isFatal = false ∧ bootedAlone.mgmt.fatal = none := by decide

/-! ### Terms that are not well formed, one for each check -/

/-- An answer with a line of data, and one whose data is not a line. -/
def goodAnswer : SnoopAnswer := { ep := 1, pa := 64, status := 0, poison := false, data := zeros 64 }
def shortAnswer : SnoopAnswer := { goodAnswer with data := [0] }
theorem test_ill_answers : goodAnswer.wf = true ∧ shortAnswer.wf = false ∧ ({ goodAnswer with pa := 1 } : SnoopAnswer).wf = false ∧
    ({ goodAnswer with ep := 4096 } : SnoopAnswer).wf = false ∧ ({ goodAnswer with status := 16 } : SnoopAnswer).wf = false ∧
    (Instr.lb 0 1 2 0 [shortAnswer] .ok).wf = false ∧ (Instr.lb 0 1 2 0 [goodAnswer] .ok).wf = true := by decide
set_option maxRecDepth 100000 in
theorem test_ill_flit : (Instr.flitReceive 0 true [(0, zeros 255)] []).wf = false ∧ (Instr.flitReceive 0 true [(16, zeros 256)] []).wf = false ∧
    (Instr.flitReceive 0 false [(0, zeros 24)] []).wf = false ∧ (Instr.flitReceive 0 false [] [(0, 545)]).wf = false ∧ (Instr.flitReceive 0 true [(0, zeros 256)] []).wf = true := by decide
theorem test_ill_link : (Instr.config 0 16 0 0 0 []).wf = false ∧ (Instr.laneTestDone 0 [(16, true, 0)]).wf = false := by decide
set_option maxRecDepth 100000 in
theorem test_ill_payload : (Instr.rdShared 0 0 0 [0] 0 false).wf = false ∧ (Instr.bulkWr 0 0 0 [0] 0 false []).wf = false ∧
    (Instr.tableSync 0 0 0 [0] 0 false).wf = false ∧ (Instr.mirrorWrite 0 0 ⟨[0], []⟩).wf = false := by decide
set_option maxRecDepth 100000 in
theorem test_ill_pond : (Instr.pondRequest 0 0 true 0 [] false none 0 false 0).wf = false ∧ (Instr.pondRequest 0 0 false 0 [0] false none 0 false 0).wf = false ∧
    (Instr.pondIssue 0 0 ⟨[(64, 1)], []⟩).wf = false ∧ (Instr.scrubRead 0 [(0, 0)]).wf = false ∧ (Instr.spillTrain 0 [(0, 33)]).wf = false ∧
    (Instr.writeTriple 0 []).wf = false := by decide
theorem test_ill_bundle : (Instr.sync 0 { answers := [shortAnswer] }).wf = false ∧ (Instr.sync 0 {}).wf = true := by decide
theorem test_ill_access : (Instr.unsupportedAccess 0 8 8).wf = false ∧ (Instr.unsupportedAccess 0 4 8).wf = true := by decide
theorem test_ill_tables : (Instr.basinCreate 0 [2 ^ 24]).wf = false ∧ (Instr.admitPartner 0 [2 ^ 24]).wf = false ∧
    (Instr.partnerAuth [] [] [] [] [] [] false).wf = false := by decide
set_option maxRecDepth 100000 in
theorem test_ill_management : (Instr.goodbye [] false).wf = false ∧ (Instr.heartbeatFrame 0 []).wf = false ∧ (Instr.resetFrame 0 []).wf = false ∧
    (Instr.ringFrameForward 0 []).wf = false ∧ (Instr.cmdTailWrite 0 [(1, [0, 0])]).wf = false ∧ (Instr.dumpDone 0x2000001 []).wf = false ∧
    (Instr.event 0 (some { kind := 0, sev := 0, code := 0, trace := 0, cycles := 0, data := zeros 45 })).wf = false := by decide

/-! ### Worked examples of the manual -/

theorem test_reset_tables : State.reset.tablesWf = true := by decide

set_option maxRecDepth 100000 in
/-- R41: frame sizes of AX8, AX4, AX3, AX2 at d = 64, 128 and 256. -/
theorem test_frame_sizes : ([8, 4, 3, 2].flatMap (fun f => [64, 128, 256].map (frameBytes f))) =
    [34880, 69696, 139328, 21568, 43072, 86080, 17472, 34880, 69696, 13376, 26688, 53312] := by decide

/-- One value group in AX4: 100 at element 3, −80 at 17, then 14s, −14s and 7s; n = 128 x. -/
def ax4Group : List Int :=
  (List.range 32).map (fun i => if i = 3 then 12800 else if i = 17 then -10240 else if i < 15 then 1792 else if i < 28 then -1792 else 896)
set_option maxRecDepth 100000 in
theorem test_ax4_scale : (ingestGroup 4 40 0 ax4Group).word = 0x4180 ∧ groupIx 128 1 5 2 = 1046 := by decide
set_option maxRecDepth 100000 in
theorem test_ax4_outliers : (ingestGroup 4 40 0 ax4Group).outl = [(3, 50), (17, -40)] ∧ outlierEntry 1046 (3, 50) = 0x04160332 ∧
    outlierEntry 1046 (17, -40) = 0x041611D8 := by decide
set_option maxRecDepth 100000 in
theorem test_ax4_codes : ((ingestGroup 4 40 0 ax4Group).q.drop 26) = [-7, -7, 4, 4, 4, 4] ∧ checkTerm 1046 26 0x4180 % 65536 = 0x5812 := by decide
set_option maxRecDepth 100000 in
theorem test_ax4_places : scaleOff 1046 = 2156 ∧ elemOff 4 128 1046 = 27040 := by decide

/-- The weight of L = 2,596 against m = 4: p = 186, n = −2. -/
theorem test_one_weight : exp2 (-1500) = (186, -2) := by decide

/-- Two merge orders of three partials give 1,000 and 1,001, and outputs 1,311 and 1,312. -/
def part (m : Int) (sum : Nat) (a : Int) : Tile := { empty := false, m := m, sum := sum, acc := [a] }
theorem test_merge_orders :
    let x := ((part 3 40000 1001).combine (part 1 30000 (-2))).1
    let y := (x.combine (part 0 20000 2)).1
    let z := (((part 1 30000 (-2)).combine (part 0 20000 2)).1)
    let w := ((part 3 40000 1001).combine z).1
    y.sum = 50000 ∧ y.acc = [1000] ∧ w.sum = 50000 ∧ w.acc = [1001] ∧ normElem 1000 50000 (-20) (-21) 0 = (1311, 0) ∧
      normElem 1001 50000 (-20) (-21) 0 = (1312, 0) := by decide

/-- R194: PA 0x0075_1234_5EC0 is POND[248], pseudo-channel 1, bank 7, row 20,771. -/
theorem test_fast_address : unitOf 0x007512345EC0 = some 248 ∧ pcOf 0x007512345EC0 = 1 ∧ bankOf 0x007512345EC0 = 7 ∧ rowOf 0x007512345EC0 = 20771 := by decide

/-- One load, both stages: VA 0x4000_0A31_2C40 reaches PA 0x0040_1031_2C40, in POND[138]. -/
def loadState : State :=
  let run : Run := { start := 0x100, len := 1536, base := 0x80, set := [0, 3, 6, 9, 1, 4, 7, 10, 2, 5, 8, 11], striped := false }
  let b : Basin := { oneBasin with tpa := 0x100, size := 1536, mapped := [run] }
  let m : S1Entry := { asid := 7, va := 0x2000040, len := 64, tpa := 0x100, read := true, write := true }
  let tn : List (Nat × Option Tenant) := [(1, some { driver := 5, quota := 9 })]
  { State.reset with xlat := { tenants := tn, bound := [(5, some 1)], contexts := [(7, some 1)], s1 := [m], basins := [(3, some b)] } }
set_option maxRecDepth 100000 in
theorem test_load_stages : (loadState.translate 5 7 0x40000A312C40 false).toOption.map (·.pa) = some 0x004010312C40 := by decide
theorem test_load_pond : unitOf 0x004010312C40 = some 138 ∧ pcOf 0x004010312C40 = 1 ∧ bankOf 0x004010312C40 = 2 ∧ rowOf 0x004010312C40 = 259 := by decide

/-- A line on a failed stack: parity stack 9, and the line's place after rebuild. -/
theorem test_failed_stack : parityStack 0x400 (2 ^ 21) 0x801B9A80 = 9 ∧ spareUnit 11 524729 + 0xA80 = 0x007F0BA56A80 ∧
    Run.stripePa { start := 0, len := 11, base := 0x400, set := List.range 12, striped := true } (2 ^ 21) 0x012F4A80 = 0x00B0801B9A80 := by decide

/-- Indices across resets: with bits 0 to 2 burned, the boot burns bit 3 and serves 3,145,728 to 4,194,303. -/
theorem test_first_chunk :
    (match exec (.reserveChunk true false) { bootedState with fuses := { bootedState.fuses with chunks := 3 } } with
      | .next t => some (t.fuses.chunks, t.sec.next, t.sec.limit)
      | _ => none) = some (4, 3145728, 4194304) := by decide

/-! ### Words of Chotaum-W, written out from the encoding table -/

/-- addi x13, x13, -1; andi x11, x11, 3; msend x14, x12, x10. -/
theorem test_decode_chotaum : decodeChotaum 0 [] .ok 0x05ADFFFF = some (.addi 0 13 13 0xFFFF .ok) ∧
    decodeChotaum 0 [] .ok 0x096B0003 = some (.andi 0 11 11 3 .ok) ∧ decodeChotaum 0 [] .ok 0xF1CC5001 = some (.msend 0 14 12 10 .ok) := by
  exact ⟨rfl, rfl, rfl⟩
/-- R572: stepping 1.1 reads as version 1. -/
theorem test_idcode : (State.reset.put R.GLOB_ID F.GLOB_ID_STEPPING 0x11).idcode = 0x19600597 := by decide

end Sys2Proof.Tests
end

section
/-!
The register map (R8 to R14): the numbers of the blocks, and that the fields of every register lie apart and within 64 bits.
-/
namespace Sys2Proof.Machine

/-- How many numbers a block's registers come with: 9 links, 100 Tarns, 384 Ponds, 12 Spillway channels, and one of every other block. -/
def Blk.units : Blk → Nat
  | .mere => 9
  | .tarn => 100
  | .pond => 384
  | .spill => 12
  | _ => 1

/-- A place in the map has a number that its block has. -/
def NumberFits (x : Option (Blk × Nat × Nat)) : Prop := ∀ y ∈ x, y.2.1 < y.1.units

theorem numberFits_none : NumberFits none := by simp [NumberFits]

theorem numberFits_some (b : Blk) (n loc : Nat) : NumberFits (some (b, n, loc)) ↔ n < b.units := by
  simp [NumberFits]

theorem numberFits_locate (off : Nat) : NumberFits (locate off) := by
  unfold locate
  repeat' refine iteInduction (motive := NumberFits) (fun _ => ?_) (fun _ => ?_)
  all_goals simp only [numberFits_none, numberFits_some, Blk.units]
  all_goals omega

theorem locate_lt_units {off : Nat} {b : Blk} {n loc : Nat} (h : locate off = some (b, n, loc)) : n < b.units :=
  numberFits_locate off _ h

@[simp] theorem Fld.withRst_lo (f : Fld) (v : Nat) : (f.withRst v).lo = f.lo := rfl
@[simp] theorem Fld.withRst_w (f : Fld) (v : Nat) : (f.withRst v).w = f.w := rfl
@[simp] theorem Fld.withRst_rst (f : Fld) (v : Nat) : (f.withRst v).rst = v := rfl
@[simp] theorem Fld.roIf_lo (f : Fld) (c : Bool) : (f.roIf c).lo = f.lo := by cases c <;> rfl
@[simp] theorem Fld.roIf_w (f : Fld) (c : Bool) : (f.roIf c).w = f.w := by cases c <;> rfl
@[simp] theorem Fld.roIf_rst (f : Fld) (c : Bool) : (f.roIf c).rst = f.rst := by cases c <;> rfl

/-- Two fields share no bit. -/
abbrev Fld.Apart (f g : Fld) : Prop := f.lo + f.w ≤ g.lo ∨ g.lo + g.w ≤ f.lo

theorem Fld.Apart.symm {f g : Fld} (h : f.Apart g) : g.Apart f := Or.symm h

/-- The fields of one register fit: each has a width, lies within 64 bits and holds its Reset value, and any two lie apart (R8, R10). -/
abbrev FieldsFit (l : List Fld) : Prop :=
  (∀ f ∈ l, 0 < f.w ∧ f.lo + f.w ≤ 64 ∧ f.rst < 2 ^ f.w) ∧ l.Pairwise Fld.Apart

/-! ### The blocks whose registers have fixed fields -/

theorem fieldsGLOB_fit (loc : Nat) : FieldsFit (fieldsGLOB loc) := by
  unfold fieldsGLOB; repeat' split
  all_goals decide

theorem fieldsRST_fit (loc : Nat) : FieldsFit (fieldsRST loc) := by
  unfold fieldsRST; split <;> decide

theorem fieldsCLK_fit (loc : Nat) : FieldsFit (fieldsCLK loc) := by
  unfold fieldsCLK; split <;> decide

theorem fieldsPWR_fit (loc : Nat) : FieldsFit (fieldsPWR loc) := by
  unfold fieldsPWR; repeat' split
  all_goals decide

theorem fieldsSHAL_fit (loc : Nat) : FieldsFit (fieldsSHAL loc) := by
  unfold fieldsSHAL; repeat' split
  all_goals decide

theorem fieldsXLAT_fit (loc : Nat) : FieldsFit (fieldsXLAT loc) := by
  unfold fieldsXLAT; repeat' split
  all_goals decide

theorem fieldsDIR_fit (loc : Nat) : FieldsFit (fieldsDIR loc) := by
  unfold fieldsDIR; repeat' split
  all_goals decide

theorem fieldsQOS_fit (loc : Nat) : FieldsFit (fieldsQOS loc) := by
  unfold fieldsQOS; repeat' split
  all_goals decide

theorem fieldsJOB_fit (loc : Nat) : FieldsFit (fieldsJOB loc) := by
  unfold fieldsJOB; repeat' split
  all_goals decide

theorem fieldsRAS_fit (loc : Nat) : FieldsFit (fieldsRAS loc) := by
  unfold fieldsRAS; repeat' split
  all_goals decide

theorem fieldsPAIR_fit (loc : Nat) : FieldsFit (fieldsPAIR loc) := by
  unfold fieldsPAIR; repeat' split
  all_goals decide

theorem fieldsMGMT_fit (loc : Nat) : FieldsFit (fieldsMGMT loc) := by
  unfold fieldsMGMT; repeat' split
  all_goals decide

theorem fieldsWELL_fit (loc : Nat) : FieldsFit (fieldsWELL loc) := by
  unfold fieldsWELL; split <;> decide

/-! ### The signer table, whose first entry the bus cannot write (R488) -/

theorem signerCtl_fit (v : Nat) (hv : v < 2) (c : Bool) :
    FieldsFit [(F.SEC_SIGNER_CTL_VALID.withRst v).roIf c, F.SEC_SIGNER_CTL_KIND.roIf c, F.SEC_SIGNER_CTL_TENANT] := by
  simp [FieldsFit, Fld.Apart, F.SEC_SIGNER_CTL_VALID, F.SEC_SIGNER_CTL_KIND, F.SEC_SIGNER_CTL_TENANT, hv]

theorem signerHash_fit (c : Bool) : FieldsFit [F.SEC_SIGNER_HASH_HASH.roIf c] := by
  simp [FieldsFit, Fld.Apart, F.SEC_SIGNER_HASH_HASH]

theorem fieldsSEC_fit (loc : Nat) : FieldsFit (fieldsSEC loc) := by
  unfold fieldsSEC; repeat' split
  case h_14.isFalse.isFalse.isFalse.isFalse.isFalse.isTrue.isTrue => exact signerCtl_fit 1 (by decide) _
  case h_14.isFalse.isFalse.isFalse.isFalse.isFalse.isTrue.isFalse => exact signerCtl_fit 0 (by decide) _
  case h_14.isFalse.isFalse.isFalse.isFalse.isFalse.isFalse.isTrue => exact signerHash_fit _
  all_goals decide

/-! ### The blocks with a number, whose identity registers (and roles) reset to it -/

theorem fieldsMERE_fit (n loc : Nat) (h : n < 9) : FieldsFit (fieldsMERE n loc) := by
  unfold fieldsMERE; repeat' split
  case h_1.isFalse => simp [FieldsFit, Fld.Apart, F.MERE_ID_INSTANCE, F.MERE_ID_QUADRANT]; omega
  all_goals decide

theorem fieldsTARN_fit (n loc : Nat) (h : n < 100) : FieldsFit (fieldsTARN n loc) := by
  unfold fieldsTARN; repeat' split
  case h_1 => simp [FieldsFit, Fld.Apart, F.TARN_ID_INSTANCE, F.TARN_ID_QUADRANT, F.TARN_ID_LOCAL]; omega
  case h_2.isFalse => 
    simp [FieldsFit, Fld.Apart, F.TARN_CTRL_ENABLE, F.TARN_CTRL_DRAIN, F.TARN_CTRL_FAULT, F.TARN_CTRL_ROLE, F.TARN_CTRL_ROLE2_EN, F.TARN_CTRL_ROLE2]
    omega
  all_goals decide

theorem fieldsPOND_fit (n loc : Nat) (h : n < 384) : FieldsFit (fieldsPOND n loc) := by
  unfold fieldsPOND; repeat' split
  case h_1 =>
    simp [FieldsFit, Fld.Apart, F.POND_ID_INSTANCE, F.POND_ID_QUADRANT, F.POND_ID_STACK, F.POND_ID_CHANNEL, F.POND_ID_CHIP_STACK]
    omega
  all_goals decide

theorem fieldsSPILL_fit (n loc : Nat) (h : n < 12) : FieldsFit (fieldsSPILL n loc) := by
  unfold fieldsSPILL; repeat' split
  case h_1 => simp [FieldsFit, Fld.Apart, F.SPILL_ID_INSTANCE, F.SPILL_ID_QUADRANT]; omega
  all_goals decide

/-! ### Every register -/

theorem fieldsAt_fit (off : Nat) : FieldsFit (fieldsAt off) := by
  unfold fieldsAt
  split
  · decide
  · next b n loc h =>
    have hn : n < b.units := locate_lt_units h
    cases b with
    | glob => exact fieldsGLOB_fit loc
    | rst => exact fieldsRST_fit loc
    | clk => exact fieldsCLK_fit loc
    | pwr => exact fieldsPWR_fit loc
    | mere => exact fieldsMERE_fit n loc hn
    | pair => exact fieldsPAIR_fit loc
    | shal => exact fieldsSHAL_fit loc
    | xlat => exact fieldsXLAT_fit loc
    | dir => exact fieldsDIR_fit loc
    | qos => exact fieldsQOS_fit loc
    | job => exact fieldsJOB_fit loc
    | tarn => exact fieldsTARN_fit n loc hn
    | pond => exact fieldsPOND_fit n loc hn
    | spill => exact fieldsSPILL_fit n loc hn
    | ras => exact fieldsRAS_fit loc
    | sec => exact fieldsSEC_fit loc
    | mgmt => exact fieldsMGMT_fit loc
    | well => exact fieldsWELL_fit loc

theorem fieldsAt_apart (off : Nat) : (fieldsAt off).Pairwise Fld.Apart := (fieldsAt_fit off).2

theorem width_pos_of_mem_fieldsAt {off : Nat} {f : Fld} (h : f ∈ fieldsAt off) : 0 < f.w := ((fieldsAt_fit off).1 f h).1

theorem top_le_of_mem_fieldsAt {off : Nat} {f : Fld} (h : f ∈ fieldsAt off) : f.lo + f.w ≤ 64 := ((fieldsAt_fit off).1 f h).2.1

/-- Settles O19: the fields of each block's registers fit, and every offset lies in a block whose number is in range, or has no field. -/
theorem fieldsLieApart : Obligations.FieldsLieApart := fieldsAt_fit

end Sys2Proof.Machine
end

section
/-!
Generic writes of a register (R8, R10, R12): what each field holds after a write that goes through the register's fields in turn.
-/
namespace Sys2Proof.Machine

/-! ### Bits of numbers -/

/-- A field within the low `n` bits does not see what lies above them. -/
theorem bitsOf_mod_two_pow (v lo w n : Nat) (h : lo + w ≤ n) : bitsOf (v % 2 ^ n) lo w = bitsOf v lo w := by
  obtain ⟨k, rfl⟩ := Nat.exists_eq_add_of_le h
  unfold bitsOf
  rw [Nat.add_assoc, pow_add, Nat.mod_mul_right_div_self, Nat.mod_mod_of_dvd _ (pow_dvd_pow 2 (Nat.le_add_right w k))]

/-- A field above every bit of a number holds 0. -/
theorem bitsOf_eq_zero_of_lt (v lo w : Nat) (h : v < 2 ^ lo) : bitsOf v lo w = 0 := by
  simp [bitsOf, Nat.div_eq_of_lt h]

/-- A field below bit `n` of a multiple of 2^n holds 0. -/
theorem bitsOf_mul_two_pow_eq_zero (v lo w n : Nat) (h : lo + w ≤ n) : bitsOf (v * 2 ^ n) lo w = 0 := by
  rw [← bitsOf_mod_two_pow _ lo w n h, Nat.mul_mod_left]
  simp [bitsOf]

/-- A field within a run of `n` ones holds ones alone. -/
theorem bitsOf_ones (lo w n : Nat) (h : lo + w ≤ n) : bitsOf (2 ^ n - 1) lo w = 2 ^ w - 1 := by
  apply Nat.eq_of_testBit_eq
  intro i
  simp only [bitsOf, Nat.testBit_mod_two_pow, Nat.testBit_div_two_pow, Nat.testBit_two_pow_sub_one]
  by_cases hi : i < w <;> simp [hi]
  omega

theorem ones_ne_zero {w : Nat} (h : 0 < w) : 2 ^ w - 1 ≠ 0 := by
  have := Nat.one_lt_two_pow h.ne'
  omega

/-- A write that covers every bit of a field merges to the written bits. -/
theorem merge_covered (x o w : Nat) (h : x < 2 ^ w) : (x &&& (2 ^ w - 1)) ||| (o &&& (2 ^ w - 1 - (2 ^ w - 1))) = x := by
  simp [Nat.and_two_pow_sub_one_eq_mod, Nat.mod_eq_of_lt h]

/-! ### A fold over fields that lie apart -/

section Fold
variable {σ : Type} {step : σ → Fld → σ} {rd : σ → Fld → Nat}

/-- A step of each field leaves the fields apart from it alone; so does a fold over such fields. -/
theorem foldl_keeps_apart (hframe : ∀ a f g, f.lo + f.w ≤ 64 → f.Apart g → rd (step a f) g = rd a g) (l : List Fld) (a : σ) (g : Fld)
    (htop : ∀ f ∈ l, f.lo + f.w ≤ 64) (hl : ∀ f ∈ l, f.Apart g) : rd (l.foldl step a) g = rd a g := by
  induction l generalizing a with
  | nil => rfl
  | cons f l ih =>
    rw [List.forall_mem_cons] at htop hl
    rw [List.foldl_cons, ih _ htop.2 hl.2, hframe _ _ _ htop.1 hl.1]

/-- After a fold over the fields of a register, each field holds what its own step gives it from the value it held at the start. -/
theorem foldl_field (hframe : ∀ a f g, f.lo + f.w ≤ 64 → f.Apart g → rd (step a f) g = rd a g) (l : List Fld) (a : σ) (f : Fld)
    (hfit : FieldsFit l) (hf : f ∈ l) (v : Nat) (hown : ∀ b, rd b f = rd a f → rd (step b f) f = v) : rd (l.foldl step a) f = v := by
  induction l generalizing a with
  | nil => cases hf
  | cons g l ih =>
    obtain ⟨hfit, hpair⟩ := hfit
    obtain ⟨⟨-, hgtop, -⟩, hrest⟩ := List.forall_mem_cons.mp hfit
    obtain ⟨hg, hpair⟩ := List.pairwise_cons.mp hpair
    rw [List.foldl_cons]
    rcases List.mem_cons.mp hf with rfl | hf
    · rw [foldl_keeps_apart hframe l _ f (fun x hx => (hrest x hx).2.1) (fun x hx => (hg x hx).symm)]
      exact hown a rfl
    · have hfg : rd (step a g) f = rd a f := hframe a g f hgtop (hg f hf)
      exact ih _ ⟨hrest, hpair⟩ hf (fun b hb => hown b (hb.trans hfg))

end Fold

/-! ### One field of a write -/

/-- A number lies in the range that a write of a field is held to (R10). -/
def Fld.admits (f : Fld) (v : Nat) : Bool :=
  match f.rng with
  | none => true
  | some (a, b) => a ≤ v && v ≤ b

/-- The step of one field leaves the number alone, or replaces the field's bits with a value that does not depend on the number. -/
theorem writeFld_cases (lk : Bool) (old mask raw : Nat) (f : Fld) :
    (∀ a, writeFld lk old mask raw f a = a) ∨ ∃ v, ∀ a, writeFld lk old mask raw f a = setBits a f.lo f.w v := by
  unfold writeFld
  extract_lets m o merged inRange
  by_cases hskip : (f.own || m = 0) = true
  · exact .inl fun a => if_pos hskip
  · simp only [if_neg hskip]
    cases f.acc with
    | rw =>
      by_cases hr : inRange = true
      · exact .inr ⟨merged, fun a => if_pos hr⟩
      · exact .inl fun a => if_neg hr
    | rwl =>
      by_cases hr : (lk || !inRange) = true
      · exact .inl fun a => if_pos hr
      · exact .inr ⟨merged, fun a => if_neg hr⟩
    | w1s => exact .inr ⟨o ||| (bitsOf raw f.lo f.w &&& m), fun a => rfl⟩
    | ro | w1c | wo => exact .inl fun a => rfl

/-- The step of a field leaves the fields apart from it alone. -/
theorem bitsOf_writeFld_apart (lk : Bool) (old mask raw a : Nat) (f g : Fld) (h : f.Apart g) :
    bitsOf (writeFld lk old mask raw f a) g.lo g.w = bitsOf a g.lo g.w := by
  rcases writeFld_cases lk old mask raw f with e | ⟨v, e⟩ <;> rw [e]
  exact h.elim (bitsOf_setBits_above _ _ _ _ _ _) (bitsOf_setBits_below _ _ _ _ _ _)

/-- What the step of a field makes of the field depends on the number's bits of that field alone. -/
theorem bitsOf_writeFld_congr (lk : Bool) (old mask raw a b : Nat) (f : Fld) (h : bitsOf a f.lo f.w = bitsOf b f.lo f.w) :
    bitsOf (writeFld lk old mask raw f a) f.lo f.w = bitsOf (writeFld lk old mask raw f b) f.lo f.w := by
  rcases writeFld_cases lk old mask raw f with e | ⟨v, e⟩ <;> simp only [e, h, bitsOf_setBits_same]

/-- A field with a row of its own, or whose access code takes no plain write, is left alone (R10). -/
theorem writeFld_of_not_plain (lk : Bool) (old mask raw a : Nat) (f : Fld) (h : f.own = true ∨ f.acc = .ro ∨ f.acc = .w1c ∨ f.acc = .wo) :
    writeFld lk old mask raw f a = a := by
  unfold writeFld
  rcases h with h | h | h | h <;> simp [h]

/-- A field that an access does not cover is left alone (R8). -/
theorem writeFld_of_uncovered (lk : Bool) (old mask raw a : Nat) (f : Fld) (h : bitsOf mask f.lo f.w = 0) :
    writeFld lk old mask raw f a = a := by
  simp [writeFld, h]

section Covered
variable {lk : Bool} {old mask raw a : Nat} {f : Fld} (hw : 0 < f.w) (hm : bitsOf mask f.lo f.w = 2 ^ f.w - 1) (hown : f.own = false)
include hw hm hown

theorem writeFld_rw (hacc : f.acc = .rw) : writeFld lk old mask raw f a =
    if f.admits (bitsOf raw f.lo f.w) then setBits a f.lo f.w (bitsOf raw f.lo f.w) else a := by
  have hne := ones_ne_zero hw
  simp only [writeFld, hm, merge_covered _ _ _ (bitsOf_lt raw f.lo f.w), hown, hne, hacc]
  rfl

theorem writeFld_rwl (hacc : f.acc = .rwl) : writeFld lk old mask raw f a =
    if lk || !f.admits (bitsOf raw f.lo f.w) then a else setBits a f.lo f.w (bitsOf raw f.lo f.w) := by
  have hne := ones_ne_zero hw
  simp only [writeFld, hm, merge_covered _ _ _ (bitsOf_lt raw f.lo f.w), hown, hne, hacc]
  rfl

theorem writeFld_w1s (hacc : f.acc = .w1s) : writeFld lk old mask raw f a =
    setBits a f.lo f.w (bitsOf old f.lo f.w ||| bitsOf raw f.lo f.w) := by
  have hne := ones_ne_zero hw
  simp only [writeFld, hm, hown, hne, hacc, Nat.and_two_pow_sub_one_eq_mod, Nat.mod_eq_of_lt (bitsOf_lt raw f.lo f.w)]
  rfl

end Covered

/-! ### A write of a register -/

theorem accessMask_low {off : Nat} (h : off % 8 = 0) : accessMask off 4 = 2 ^ 32 - 1 := by
  simp [accessMask]; omega

theorem accessMask_high {off : Nat} (h : off % 8 = 0) : accessMask (off + 4) 4 = (2 ^ 32 - 1) * 2 ^ 32 := by
  simp [accessMask]; omega

/-- A field after a write of its register holds what its own step makes of the register's number (R10). -/
theorem State.get_writeReg (s : State) (addr size v : Nat) {off : Nat} {f : Fld} (hoff : addr / 8 * 8 = off) (hf : f ∈ fieldsAt off) :
    (s.writeReg addr size v).get off f =
      bitsOf (writeFld (s.locked off) (s.reg off).toNat (accessMask addr size) (accessRaw addr size v) f (s.reg off).toNat) f.lo f.w := by
  simp only [State.writeReg, hoff, State.get, State.reg_setReg_same, BitVec.toNat_ofNat]
  rw [bitsOf_mod_two_pow _ _ _ _ (top_le_of_mem_fieldsAt hf)]
  exact foldl_field (rd := fun a g => bitsOf a g.lo g.w) (fun a f g _ h => bitsOf_writeFld_apart _ _ _ _ _ _ _ h) _ _ f (fieldsAt_fit off) hf _
    (fun b hb => bitsOf_writeFld_congr _ _ _ _ _ _ _ hb)

/-- A write leaves alone a field that its access does not cover. -/
theorem State.get_writeReg_of_uncovered (s : State) (addr size v : Nat) {off : Nat} {f : Fld} (hoff : addr / 8 * 8 = off) (hf : f ∈ fieldsAt off)
    (h : bitsOf (accessMask addr size) f.lo f.w = 0) : (s.writeReg addr size v).get off f = s.get off f := by
  rw [State.get_writeReg s addr size v hoff hf, writeFld_of_uncovered _ _ _ _ _ _ h, State.get]

section Wide
variable (s : State) (v : Nat) {off : Nat} {f : Fld} (h8 : off % 8 = 0) (hf : f ∈ fieldsAt off)
include h8 hf

/-- A field after a 64-bit write: the access covers all of its bits, and its raw bits are those of the value. -/
theorem State.get_writeReg_wide : (s.writeReg off 8 v).get off f =
    bitsOf (writeFld (s.locked off) (s.reg off).toNat (2 ^ 64 - 1) (v % 2 ^ 64) f (s.reg off).toNat) f.lo f.w :=
  State.get_writeReg s off 8 v (by omega) hf

theorem State.get_writeReg_rw (hown : f.own = false) (hacc : f.acc = .rw) :
    (s.writeReg off 8 v).get off f = if f.admits (bitsOf v f.lo f.w) then bitsOf v f.lo f.w else s.get off f := by
  have htop := top_le_of_mem_fieldsAt hf
  rw [State.get_writeReg_wide s v h8 hf, writeFld_rw (width_pos_of_mem_fieldsAt hf) (bitsOf_ones _ _ _ htop) hown hacc,
    bitsOf_mod_two_pow _ _ _ _ htop]
  split
  · rw [bitsOf_setBits_same, Nat.mod_eq_of_lt (bitsOf_lt _ _ _)]
  · rfl

theorem State.get_writeReg_rwl (hown : f.own = false) (hacc : f.acc = .rwl) : (s.writeReg off 8 v).get off f =
    if s.locked off || !f.admits (bitsOf v f.lo f.w) then s.get off f else bitsOf v f.lo f.w := by
  have htop := top_le_of_mem_fieldsAt hf
  rw [State.get_writeReg_wide s v h8 hf, writeFld_rwl (width_pos_of_mem_fieldsAt hf) (bitsOf_ones _ _ _ htop) hown hacc,
    bitsOf_mod_two_pow _ _ _ _ htop]
  split
  · rfl
  · rw [bitsOf_setBits_same, Nat.mod_eq_of_lt (bitsOf_lt _ _ _)]

theorem State.get_writeReg_w1s (hown : f.own = false) (hacc : f.acc = .w1s) :
    (s.writeReg off 8 v).get off f = s.get off f ||| bitsOf v f.lo f.w := by
  have htop := top_le_of_mem_fieldsAt hf
  rw [State.get_writeReg_wide s v h8 hf, writeFld_w1s (width_pos_of_mem_fieldsAt hf) (bitsOf_ones _ _ _ htop) hown hacc,
    bitsOf_mod_two_pow _ _ _ _ htop, bitsOf_setBits_same, Nat.mod_eq_of_lt (Nat.or_lt_two_pow (bitsOf_lt _ _ _) (bitsOf_lt _ _ _)), State.get]

theorem State.get_writeReg_not_plain (h : f.own = true ∨ f.acc = .ro ∨ f.acc = .w1c ∨ f.acc = .wo) :
    (s.writeReg off 8 v).get off f = s.get off f := by
  rw [State.get_writeReg_wide s v h8 hf, writeFld_of_not_plain _ _ _ _ _ _ h, State.get]

/-- The fields that a 64-bit write leaves alone: those with a row of their own, those no plain write reaches, locked ones, and those whose
written bits lie out of range. -/
theorem State.get_writeReg_kept (h : f.own = true ∨ f.acc = .ro ∨ f.acc = .w1c ∨ f.acc = .wo ∨ (f.acc = .rwl ∧ s.locked off = true) ∨
    ((f.acc = .rw ∨ f.acc = .rwl) ∧ f.admits (bitsOf v f.lo f.w) = false)) : (s.writeReg off 8 v).get off f = s.get off f := by
  cases hown : f.own with
  | true => exact State.get_writeReg_not_plain s v h8 hf (.inl hown)
  | false =>
    rcases h with h | h | h | h | ⟨hacc, hlock⟩ | ⟨hacc | hacc, hout⟩
    · exact State.get_writeReg_not_plain s v h8 hf (.inl h)
    · exact State.get_writeReg_not_plain s v h8 hf (.inr (.inl h))
    · exact State.get_writeReg_not_plain s v h8 hf (.inr (.inr (.inl h)))
    · exact State.get_writeReg_not_plain s v h8 hf (.inr (.inr (.inr h)))
    · simp [State.get_writeReg_rwl s v h8 hf hown hacc, hlock]
    · simp [State.get_writeReg_rw s v h8 hf hown hacc, hout]
    · simp [State.get_writeReg_rwl s v h8 hf hown hacc, hout]

end Wide

/-- Settles O20: a write goes through the register's fields in turn, and since they lie apart each field holds what its own step gives it. -/
theorem writesFollowAccessCodes : Obligations.WritesFollowAccessCodes := by
  unfold Obligations.WritesFollowAccessCodes
  refine ⟨fun s off v f h8 hf => ⟨fun hown hacc hfits => ?_, fun hown hacc hlock hfits => ?_, ?_, ?_⟩, fun s off v f h8 hf hlo => ?_,
    fun s off v f h8 hf hhi => ?_⟩
  · have hadmits : f.admits (bitsOf v f.lo f.w) = true := hfits
    simp [State.get_writeReg_rw s v h8 hf hown hacc, hadmits]
  · have hadmits : f.admits (bitsOf v f.lo f.w) = true := hfits
    simp [State.get_writeReg_rwl s v h8 hf hown hacc, hlock, hadmits]
  · exact State.get_writeReg_w1s s v h8 hf
  · exact State.get_writeReg_kept s v h8 hf
  · have hmask : 2 ^ 32 - 1 < 2 ^ f.lo := by have := Nat.pow_le_pow_right (n := 2) (by decide) hlo; omega
    exact State.get_writeReg_of_uncovered s off 4 v (by omega) hf (by rw [accessMask_low h8]; exact bitsOf_eq_zero_of_lt _ _ _ hmask)
  · exact State.get_writeReg_of_uncovered s (off + 4) 4 v (by omega) hf
      (by rw [accessMask_high h8]; exact bitsOf_mul_two_pow_eq_zero _ _ _ _ hhi)

end Sys2Proof.Machine
end

section
/-!
The commands on registers: reads and the counter latch (R9), W1C clears (R10, R11), lock bits (R12), counter clears (R298, R303), and the messages of vectors (R532).
-/
namespace Sys2Proof.Machine

/-! ### Latches and reads (R9) -/

@[simp] theorem State.release_regs (s : State) (o : Nat) : (s.release o).regs = s.regs := rfl
@[simp] theorem State.release_out (s : State) (o : Nat) : (s.release o).out = s.out := rfl
@[simp] theorem State.get_release (s : State) (o p : Nat) (f : Fld) : (s.release o).get p f = s.get p f := rfl

/-- Latch a counter's upper half for a requester, as State.busRead does. -/
def State.latch (s : State) (r off hi : Nat) : State :=
  { s with latches := s.latches ++ [{ requester := r, off := off, hi := hi }] }

@[simp] theorem State.latch_regs (s : State) (r off hi : Nat) : (s.latch r off hi).regs = s.regs := rfl
@[simp] theorem State.latch_out (s : State) (r off hi : Nat) : (s.latch r off hi).out = s.out := rfl

/-- The latch that a released register then takes is the one its requester finds. -/
theorem State.find_latch (s : State) (r off hi : Nat) :
    ((s.release off).latch r off hi).latches.find? (fun l => l.off == off && l.requester == r) =
      some { requester := r, off := off, hi := hi } := by
  have hnone : (s.release off).latches.find? (fun l => l.off == off && l.requester == r) = none := by
    simp [State.release]; tauto
  simp [State.latch, hnone]

theorem State.busRead_wide (s : State) (r addr : Nat) : s.busRead r addr true = (s.release (addr / 8 * 8), s.view (addr / 8 * 8)) := rfl

section
variable (s : State) (r : Nat) {off : Nat} (h8 : off % 8 = 0)
include h8

/-- A read of a counter's low half leaves the high half of the same value latched for the requester. -/
theorem State.busRead_low (hc : isCounter off = true) :
    s.busRead r off false = ((s.release off).latch r off (s.view off / 2 ^ 32), s.view off % 2 ^ 32) := by
  have h0 : off / 8 * 8 = off := by omega
  have h1 : off / 4 % 2 = 0 := by omega
  simp only [State.busRead, h0, h1, hc]
  rfl

/-- A read of the high half gives what is latched for the requester. -/
theorem State.busRead_high {l : Latch} (hl : s.latches.find? (fun l => l.off == off && l.requester == r) = some l) :
    s.busRead r (off + 4) false = (s.release off, l.hi) := by
  have h0 : (off + 4) / 8 * 8 = off := by omega
  have h1 : (off + 4) / 4 % 2 = 1 := by omega
  simp only [State.busRead, h0, h1, hl]
  rfl

end

theorem counterLowRead_low (r : BitVec 16) (addr : BitVec 26) (s : State) (hc : isCounter (addr.toNat / 8 * 8) = true) :
    exec (.counterLowRead r addr 0) s = .next (((s.release (addr.toNat / 8 * 8)).latch r.toNat (addr.toNat / 8 * 8)
      (s.view (addr.toNat / 8 * 8) / 2 ^ 32)).send (.regRead r.toNat (addr.toNat / 8 * 8) 4 (s.view (addr.toNat / 8 * 8) % 2 ^ 32))) := by
  have hread := s.busRead_low r.toNat (Nat.mul_mod_left (addr.toNat / 8) 8) hc
  exact congrArg (fun a => Host.Outcome.next (a.1.send (.regRead r.toNat (addr.toNat / 8 * 8) 4 a.2))) hread

theorem counterLowRead_high (r : BitVec 16) (addr : BitVec 26) (s : State) {l : Latch}
    (hl : s.latches.find? (fun l => l.off == addr.toNat / 8 * 8 && l.requester == r.toNat) = some l) :
    exec (.counterLowRead r addr 1) s =
      .next ((s.release (addr.toNat / 8 * 8)).send (.regRead r.toNat (addr.toNat / 8 * 8 + 4) 4 l.hi)) := by
  have hread := s.busRead_high r.toNat (Nat.mul_mod_left (addr.toNat / 8) 8) hl
  exact congrArg (fun a => Host.Outcome.next (a.1.send (.regRead r.toNat (addr.toNat / 8 * 8 + 4) 4 a.2))) hread

theorem counterLowRead_wide (r : BitVec 16) (addr : BitVec 26) (s : State) :
    exec (.counterLowRead r addr 2) s = .next ((s.release (addr.toNat / 8 * 8)).send
      (.regRead r.toNat (addr.toNat / 8 * 8) 8 (s.view (addr.toNat / 8 * 8)))) := by
  have hread := s.busRead_wide r.toNat (addr.toNat / 8 * 8)
  rw [Nat.mul_div_cancel _ (by decide : 0 < 8)] at hread
  exact congrArg (fun a => Host.Outcome.next (a.1.send (.regRead r.toNat (addr.toNat / 8 * 8) 8 a.2))) hread

/-! ### W1C clears (R10, R11) -/

/-- What State.clearW1c does with one field. -/
def State.clearFld (off mask : Nat) (s : State) (f : Fld) : State :=
  if f.acc = .w1c then s.put off f (s.get off f &&& (2 ^ f.w - 1 - bitsOf mask f.lo f.w)) else s

theorem State.clearW1c_eq (s : State) (off mask : Nat) (h : off ≠ R.XLAT_FQ_OVF) :
    s.clearW1c off mask = (fieldsAt off).foldl (State.clearFld off mask) s := by
  unfold State.clearW1c
  congr 1
  funext t f
  by_cases hf : f.acc = .w1c <;> simp [State.clearFld, hf, h]

theorem State.get_clearFld_apart (off mask : Nat) (s : State) (f g : Fld) (htop : f.lo + f.w ≤ 64) (h : f.Apart g) :
    (s.clearFld off mask f).get off g = s.get off g := by
  unfold State.clearFld
  split
  · exact State.get_put_disjoint s off f g _ htop h
  · rfl

theorem State.get_clearFld_same (off mask : Nat) (s : State) (f : Fld) (htop : f.lo + f.w ≤ 64) :
    (s.clearFld off mask f).get off f =
      if f.acc = .w1c then s.get off f &&& (2 ^ f.w - 1 - bitsOf mask f.lo f.w) else s.get off f := by
  unfold State.clearFld
  split
  · rw [State.get_put_same s off f _ htop]
    exact Nat.mod_eq_of_lt (Nat.and_lt_two_pow _ (by have := Nat.two_pow_pos f.w; omega))
  · rfl

/-- A clear takes the written bits out of each W1C field and keeps the others. -/
theorem State.get_clearW1c (s : State) (off mask : Nat) (f : Fld) (h : off ≠ R.XLAT_FQ_OVF) (hf : f ∈ fieldsAt off) :
    (s.clearW1c off mask).get off f = if f.acc = .w1c then s.get off f &&& (2 ^ f.w - 1 - bitsOf mask f.lo f.w) else s.get off f := by
  rw [State.clearW1c_eq s off mask h]
  refine foldl_field (rd := fun s g => s.get off g) (State.get_clearFld_apart off mask) _ s f (fieldsAt_fit off) hf _ (fun t ht => ?_)
  show (t.clearFld off mask f).get off f = _
  rw [State.get_clearFld_same _ _ _ _ (top_le_of_mem_fieldsAt hf), show t.get off f = s.get off f from ht]

/-- The register of the pending bits is no source of a vector. -/
theorem sourceVector_pbaReg : sourceVector pbaReg = none := by decide

/-- The message that a W1C write may send again changes no field of the register. -/
theorem State.get_w1cWrite (s : State) (off mask : Nat) (f : Fld) : (s.w1cWrite off mask).get off f = (s.clearW1c off mask).get off f := by
  unfold State.w1cWrite
  split
  · rfl
  · next v hv =>
    have hne : off ≠ pbaReg := by rintro rfl; rw [sourceVector_pbaReg] at hv; cases hv
    dsimp only
    split
    · rw [State.get, State.interrupt_reg _ _ _ hne, State.get]
    · rfl

/-! ### Lock bits (R12) -/

theorem State.lockWrite_eq (s : State) {off n loc : Nat} {b : Blk} {f : Fld} (hl : locate off = some (b, n, loc)) (hk : lockOf b n = some (off, f)) :
    s.lockWrite off = s.putFlag off f true := by
  simp [State.lockWrite, hl, hk]

/-! ### Counter clears of a link (R298, R303) -/

theorem locate_mere_cntclr : ∀ n : Fin 9, locate (R.MERE_CNTCLR n) = some (Blk.mere, n.val, 0x60) := by decide

theorem fieldsAt_mere_cntclr : ∀ n : Fin 9, fieldsAt (R.MERE_CNTCLR n) = [F.MERE_CNTCLR_CLEAR] := by decide

theorem fieldsAt_mere_counter : ∀ n k : Fin 9, fieldsAt (R.MERE_BASE n + 0x100 + 8 * k) = [F.COUNT] := by decide

/-- A register that is one counter resets to 0. -/
theorem regReset_of_count {off : Nat} (h : fieldsAt off = [F.COUNT]) : regReset off = 0 := by
  rw [regReset, h]; rfl

theorem isCounter_of_count {off : Nat} (h : fieldsAt off = [F.COUNT]) : isCounter off = true := by
  rw [isCounter, h]; rfl

theorem isCntclr_mere (n : Fin 9) : isCntclr (R.MERE_CNTCLR n) = true := by
  rw [isCntclr, fieldsAt_mere_cntclr]; rfl

/-- Clearing a link's counters clears counter k where bit k is 1 and keeps the others. -/
theorem State.reg_clearCounters_mere (s : State) (n k : Fin 9) (v : Nat) :
    (s.clearCounters (R.MERE_CNTCLR n) v).reg (R.MERE_BASE n + 0x100 + 8 * k) =
      if bitOf v k then 0 else s.reg (R.MERE_BASE n + 0x100 + 8 * k) := by
  have hcount := fieldsAt_mere_counter n k
  have hbase : R.MERE_CNTCLR n - 0x60 + 0x100 = R.MERE_BASE n + 0x100 := by simp only [R.MERE_CNTCLR]; omega
  simp only [State.clearCounters, locate_mere_cntclr, fieldsAt_mere_cntclr, hbase, State.reg_clearRegs, regReset_of_count hcount,
    isCounter_of_count hcount]
  have hw : [F.MERE_CNTCLR_CLEAR].foldl (fun w f => max w f.w) 0 = 9 := rfl
  have hspan : 8 * k.val < 8 * 9 := by omega
  simp [hw, hspan]

theorem counterClear_mere (n : Fin 9) (addr : BitVec 26) (mask : Word) (s : State) (ha : addr.toNat = R.MERE_CNTCLR n) :
    exec (.counterClear addr mask) s = .next (s.clearCounters (R.MERE_CNTCLR n) mask.toNat) := by
  have hoff : addr.toNat / 8 * 8 = R.MERE_CNTCLR n := by rw [ha]; simp only [R.MERE_CNTCLR, R.MERE_BASE]; omega
  show execCounterClear addr mask s = _
  simp only [execCounterClear, hoff, isCntclr_mere, if_true]

@[simp] theorem State.clearCounters_out (s : State) (off v : Nat) : (s.clearCounters off v).out = s.out := by
  unfold State.clearCounters
  split <;> rfl

/-! ### Messages of vectors (R532) -/

/-- Where a change makes a condition true, the vector's message is sent or, masked, left pending. -/
theorem State.interruptIf_of_rise {s t : State} {v : Nat} (hs : s.condition v = false) (ht : t.condition v = true) :
    State.interruptIf s t v = t.interrupt v := by
  simp [State.interruptIf, hs, ht]

theorem State.interruptIf_of_not_rise {s t : State} {v : Nat} (h : s.condition v = true ∨ t.condition v = false) : State.interruptIf s t v = t := by
  rcases h with h | h <;> simp [State.interruptIf, h]

theorem State.interrupt_unmasked {s : State} {v : Nat} (h : s.flag (R.GLOB_BASE + 0x8008 + 16 * v) F.MSIX_MASK = false) :
    s.interrupt v = s.send (.msix v) := by
  simp [State.interrupt, h]

theorem State.interrupt_masked {s : State} {v : Nat} (h : s.flag (R.GLOB_BASE + 0x8008 + 16 * v) F.MSIX_MASK = true) :
    s.interrupt v = s.setReg (R.GLOB_BASE + 0x9000) (s.reg (R.GLOB_BASE + 0x9000) ||| BitVec.ofNat 64 (2 ^ v)) := by
  simp [State.interrupt, h]

theorem State.flag_setReg_ne (s : State) (o p : Nat) (f : Fld) (v : BitVec 64) (h : p ≠ o) : (s.setReg o v).flag p f = s.flag p f := by
  rw [State.flag, State.get_setReg_ne s o p f v h, State.flag]

/-- A source with a bit that is 1 in its error register and in its mask makes the vector's condition true. -/
theorem State.condition_of_source {s : State} {v off : Nat} (hoff : off ∈ vectorSources v) (h : s.reg off &&& s.reg (off + 8) ≠ 0) :
    s.condition v = true := by
  have hany : (vectorSources v).any (fun o => (s.reg o &&& s.reg (o + 8)) != 0) = true :=
    List.any_eq_true.mpr ⟨off, hoff, by simpa using h⟩
  rw [State.condition, hany]
  rfl

/-- An error bit that makes the condition of its block's vector true sends the vector's message (R532). -/
theorem State.setErrOnly_of_rise {s : State} {off v : Nat} {f : Fld} {b : BitVec 64} (hb : BitVec.ofNat 64 (1 * 2 ^ f.lo) = b)
    (hv : vectorOf off = some v) (hs : s.condition v = false) (ht : (s.setReg off (s.reg off ||| b)).condition v = true) :
    s.setErrOnly off f = (s.setReg off (s.reg off ||| b)).interrupt v := by
  subst hb
  simp only [State.setErrOnly, hv]
  exact State.interruptIf_of_rise hs ht

/-- Bit 0, set in an error register and 1 in its mask, is a bit of both. -/
theorem or_one_and_ne_zero (x m : BitVec 64) (hm : m &&& 1 = 1) : (x ||| 1) &&& m ≠ 0 := by
  have hbit : m[0] = true := by simpa using congrArg (BitVec.getLsbD · 0) hm
  intro h
  simpa [hbit] using congrArg (BitVec.getLsbD · 0) h

/-- A source of the clocks' vector that fails sets its bit and, unmasked, sends the message where no source was set before (R523, R532). -/
theorem setErrOnly_clkErr (s : State) (hc : s.condition 3 = false) (hm : s.reg R.CLK_ERRMASK &&& 1 = 1)
    (hx : s.flag (R.GLOB_BASE + 0x8038) F.MSIX_MASK = false) :
    (s.setErrOnly R.CLK_ERR F.CLK_ERR_SRC_FAIL).out = s.out ++ [.msix 3] ∧
      (s.setErrOnly R.CLK_ERR F.CLK_ERR_SRC_FAIL).flag R.CLK_ERR F.CLK_ERR_SRC_FAIL = true := by
  have hbit : BitVec.ofNat 64 (1 * 2 ^ F.CLK_ERR_SRC_FAIL.lo) = 1 := rfl
  constructor
  · have hmask : (s.setReg R.CLK_ERR (s.reg R.CLK_ERR ||| 1)).reg (R.CLK_ERR + 8) = s.reg R.CLK_ERRMASK :=
      State.reg_setReg_ne _ _ _ _ (by decide)
    have hrise : (s.setReg R.CLK_ERR (s.reg R.CLK_ERR ||| 1)).condition 3 = true :=
      State.condition_of_source (off := R.CLK_ERR) (by decide)
        (by rw [State.reg_setReg_same, hmask]; exact or_one_and_ne_zero _ _ hm)
    rw [State.setErrOnly_of_rise hbit (by decide) hc hrise,
      State.interrupt_unmasked ((State.flag_setReg_ne _ _ _ _ _ (by decide)).trans hx), State.send_out_append, State.setReg_out]
  · have hodd : (s.reg R.CLK_ERR ||| 1).toNat % 2 = 1 := by simp [BitVec.toNat_or]
    have hfield : bitsOf (s.reg R.CLK_ERR ||| 1).toNat 0 5 ≠ 0 := by unfold bitsOf; omega
    rw [State.flag, State.get, State.setErrOnly_same _ _ _ _ (by decide), hbit]
    exact bne_iff_ne.mpr hfield

/-- Settles O18, command by command: each is its meaning's own lemma above, and a vector's message follows the rise of its condition. -/
theorem registerAccesses : Obligations.RegisterAccesses := by
  unfold Obligations.RegisterAccesses
  refine ⟨fun addr wide v s hok => ?_, fun addr wide v s hok => ?_, fun r addr size s hok => ?_, fun r addr s hc => ?_, fun r addr s => ?_,
    fun addr mask s hne => ?_, fun addr b n loc f s hl hk => ?_, fun n addr mask s ha => ?_, fun s t v hs ht => ⟨fun hx => ?_, fun hx => ?_⟩,
    fun s t v h => State.interruptIf_of_not_rise h, setErrOnly_clkErr⟩
  · exact if_pos hok
  · exact if_neg (by simp [hok])
  · exact if_neg (by simp [hok])
  · have hlatch := s.find_latch r.toNat (addr.toNat / 8 * 8) (s.view (addr.toNat / 8 * 8) / 2 ^ 32)
    exact ⟨_, _, counterLowRead_low r addr s hc, counterLowRead_high r addr _ hlatch, rfl, rfl, rfl, rfl⟩
  · exact ⟨_, counterLowRead_wide r addr s, rfl, rfl⟩
  · refine ⟨_, rfl, fun f hf => ?_⟩
    rw [State.get_w1cWrite, State.get_clearW1c _ _ _ _ hne hf, State.get_release]
  · exact congrArg Host.Outcome.next (s.lockWrite_eq hl hk)
  · refine ⟨_, counterClear_mere n addr mask s ha, State.clearCounters_out _ _ _, fun k hk => ?_⟩
    exact State.reg_clearCounters_mere s n ⟨k, hk⟩ mask.toNat
  · rw [State.interruptIf_of_rise hs ht, State.interrupt_unmasked hx]
  · rw [State.interruptIf_of_rise hs ht, State.interrupt_masked hx]

end Sys2Proof.Machine
end

section
/-!
The step (R20), ingest record by record (R167, R596) and a decode job run whole (R96).
-/
namespace Sys2Proof.Machine

/-! ### The step -/

theorem step_cons (c : Instr) (s : State) (rest : List Instr) :
    step { s with pending := c :: rest } = exec c { s with pending := rest } := rfl

theorem step_of_idle {s : State} (h : s.pending = []) : step s = .next s := by
  simp only [step, h]

/-- Settles O1: the two cases of the queue. -/
theorem stepRunsFrontCommand : Obligations.StepRunsFrontCommand :=
  ⟨step_cons, fun _ => step_of_idle⟩

/-! ### A record that has been read (R596) -/

/-- What a job comes to with the answer to a record of its window: nothing while a Tarn is not ready, a record more, or its end. -/
def ingestEnds (id : Nat) (j : Job) (ls : List LineRead) (c : State × Option Nat) : State :=
  match c with
  | (s, none) => s
  | (s, some st) =>
    if st = jsOk then
      let s := s.updJob id (fun j => { j with committed := j.committed + 1 })
      if j.desc.opcode = 2 ∧ j.committed + 1 = j.desc.ingestCount then s.finishJob id jsOk else s
    else
      let bad := (ls.headD (poisonedLine .ok)).poison
      (s.send (.result "INGEST_TAG" [id, if bad then 0 else recTag (ls.flatMap (·.data))])).finishJob id st

section Ends
variable {id : Nat} {j : Job} {ls : List LineRead} {c : State × Option Nat}

theorem ingestEnds_of_wait (h : c.2 = none) : ingestEnds id j ls c = c.1 := by
  obtain ⟨s, st⟩ := c
  subst h
  rfl

theorem ingestEnds_of_more (h : c.2 = some 0) (hmore : j.desc.opcode ≠ 2 ∨ j.committed + 1 ≠ j.desc.ingestCount) :
    ingestEnds id j ls c = c.1.updJob id (fun j => { j with committed := j.committed + 1 }) := by
  obtain ⟨s, st⟩ := c
  subst h
  exact if_neg (not_and_or.mpr hmore)

theorem ingestEnds_of_last (h : c.2 = some 0) (hop : j.desc.opcode = 2) (hlast : j.committed + 1 = j.desc.ingestCount) :
    ingestEnds id j ls c = (c.1.updJob id (fun j => { j with committed := j.committed + 1 })).finishJob id 0 := by
  obtain ⟨s, st⟩ := c
  subst h
  exact if_pos ⟨hop, hlast⟩

theorem ingestEnds_of_rejected {st : Nat} (h : c.2 = some st) (hst : st ≠ 0) :
    ingestEnds id j ls c = (c.1.send (.result "INGEST_TAG"
      [id, if (ls.headD (poisonedLine .ok)).poison then 0 else recTag (ls.flatMap (·.data))])).finishJob id st := by
  obtain ⟨s, st⟩ := c
  subst h
  exact if_neg hst

end Ends

/-! ### The read of a record (R259) -/

/-- The bytes of a record of a sequence's window, and where the next one stands. -/
def recordBytes (q : Seq) : Nat := slotBytes q.heads (dimOf q.hdim)
def recordVa (q : Seq) : Nat := q.windowVa + q.windowHead % (max 1 q.windowSlots) * recordBytes q

/-- The access that the first of a job's Tarns makes to the next record, for the Inlet's owner. -/
def State.recordAccess (s : State) (l : Inlet) (q : Seq) (ts : List (Nat × Nat × Nat)) : State × Except Bool Found :=
  s.access { endpoint := l.owner, srcKind := 1, srcIndex := (ts.head?).elim 0 (·.2.2) } q.asid (recordVa q) (recordBytes q) false

/-- A record whose access has been answered is read, checked and committed, or the job ends. -/
def recordRead (id : Nat) (j : Job) (l : Inlet) (q : Seq) (ans : List SnoopAnswer) (a : State × Except Bool Found) : State :=
  match a with
  | (s, .error _) => s.finishJob id jsXlatFault
  | (s, .ok _) =>
    match s.readVa l.owner q.asid q.tenant (recordVa q) ans (recordBytes q / 64) with
    | (s, ls) => ingestEnds id j ls (s.ingestRead j (j.desc.source % 2 ^ 18) q ls)

section Read
variable {id : Nat} {j : Job} {l : Inlet} {q : Seq} {ans : List SnoopAnswer} {a : State × Except Bool Found}

theorem recordRead_of_fault (h : a.2.toOption = none) : recordRead id j l q ans a = a.1.finishJob id 9 := by
  obtain ⟨t, _ | x⟩ := a
  · rfl
  · cases h

theorem recordRead_of_found (h : a.2.toOption.isSome = true) : recordRead id j l q ans a =
    let b := a.1.readVa l.owner q.asid q.tenant (recordVa q) ans (recordBytes q / 64)
    ingestEnds id j b.2 (b.1.ingestRead j (j.desc.source % 2 ^ 18) q b.2) := by
  obtain ⟨t, _ | x⟩ := a
  · cases h
  · rfl

end Read

/-! ### The next record of a job (R105, R167, R173, R182) -/

/-- What a job comes to with the answer of its Tarns: its end, a wait, or the read of the next record. -/
def ingestAtTarns (id : Nat) (j : Job) (l : Inlet) (q : Seq) (ans : List SnoopAnswer) (t : State × IngestAt) : State :=
  match t with
  | (s, .fail st) => s.finishJob id st
  | (s, .wait) => s
  | (s, .ready ts) => recordRead id j l q ans (s.recordAccess l q ts)

section Tarns
variable {id : Nat} {j : Job} {l : Inlet} {q : Seq} {ans : List SnoopAnswer} {t : State × IngestAt}

theorem ingestAtTarns_of_fail {st : Nat} (h : t.2 = .fail st) : ingestAtTarns id j l q ans t = t.1.finishJob id st := by
  obtain ⟨s, a⟩ := t
  subst h
  rfl

theorem ingestAtTarns_of_wait (h : t.2 = .wait) : ingestAtTarns id j l q ans t = t.1 := by
  obtain ⟨s, a⟩ := t
  subst h
  rfl

theorem ingestAtTarns_of_ready {ts : List (Nat × Nat × Nat)} (h : t.2 = .ready ts) :
    ingestAtTarns id j l q ans t = recordRead id j l q ans (t.1.recordAccess l q ts) := by
  obtain ⟨s, a⟩ := t
  subst h
  rfl

end Tarns

section Next
variable {s : State} {id : Nat} {j : Job} (ans : List SnoopAnswer) (hj : s.job id = some j) (hst : j.st = .ingest) (hdec : j.decided = false)
  (hleft : j.committed < j.desc.ingestCount)
include hj hst hdec hleft

theorem State.ingestNext_of_failed (hf : j.fails ≠ []) : s.ingestNext id ans = s.finishJob id ((firstFail j.fails).getD 1) := by
  simp only [State.ingestNext, hj]
  rw [if_neg (by simp [hst, hdec, hleft]), if_pos hf]
  rfl

theorem State.ingestNext_of_seq {q : Seq} (hf : j.fails = []) (hq : s.seqAt (j.desc.source % 2 ^ 18) = some q) :
    s.ingestNext id ans = ingestAtTarns id j (s.inlet j.inlet) q ans (s.ingestTarns j (s.openQuads q none ((s.inlet j.inlet).port / 2))) := by
  simp only [State.ingestNext, hj, hq]
  rw [if_neg (by simp [hst, hdec, hleft]), if_neg (by simp [hf])]
  rfl

end Next

/-! ### The commands -/

theorem exec_ingestRecord (id : Nat) (ans : List SnoopAnswer) (s : State) : exec (.ingestRecord id ans) s = .next (s.ingestNext id ans) := rfl

theorem exec_ingest {id : Nat} {j : Job} {s : State} (ans : List SnoopAnswer) (hj : s.job id = some j) :
    exec (.ingest id ans) s = .next (s.ingestMany id ans (j.desc.ingestCount - j.committed)) := by
  show execIngest id ans s = _
  simp only [execIngest, hj]

theorem State.ingestMany_one (s : State) (id : Nat) (ans : List SnoopAnswer) : s.ingestMany id ans 1 = s.ingestNext id ans := rfl

/-- The elements of a list at its positions, in order, are the list. -/
theorem filterMap_getElem?_range {α : Type} (l : List α) : (List.range l.length).filterMap (fun i => l[i]?) = l := by
  induction l with
  | nil => rfl
  | cons a l ih => simpa [List.range_succ_eq_map, List.filterMap_map, Function.comp_def] using ih

/-- With no position put first, a list keeps its order. -/
theorem inOrder_nil {α : Type} (l : List α) : inOrder l [] = l := by
  simpa [inOrder] using filterMap_getElem?_range l

theorem exec_decode {id : Nat} {j : Job} {s : State} (order : List (Nat × List Nat)) (ans : List SnoopAnswer) (hj : s.job id = some j)
    (hst : j.st = .decode) (hdec : j.decided = false) (hstarted : j.started = []) (harrived : j.arrived = []) :
    exec (.decode id order ans) s = .next ((inOrder j.slices (order.map (·.1))).foldl (fun s x =>
      (s.runSlice id x (((order.find? (fun o => o.1 == x.id)).map (·.2)).getD []) ans).drainJob id ans 8) s) := by
  show execDecode id order ans s = _
  simp only [execDecode, hj]
  exact if_neg (by simp [hst, hdec, hstarted, harrived])

/-- Settles O36: a record goes through its Tarns, its read and its check in turn, each a lemma above; the jobs run whole follow their equations. -/
theorem ingestAndDecodeRun : Obligations.IngestAndDecodeRun := by
  unfold Obligations.IngestAndDecodeRun
  refine ⟨fun id ans j s hj hst hdec hleft => ⟨fun hf => ?_, fun q hf hq => ?_⟩, fun id ans j s hj => ⟨exec_ingest ans hj, fun hone => ?_⟩,
    fun id order ans j s hj hst hdec hstarted harrived => ⟨exec_decode order ans hj hst hdec hstarted harrived, ?_⟩⟩
  · rw [exec_ingestRecord, State.ingestNext_of_failed ans hj hst hdec hleft hf]
  · rw [exec_ingestRecord, State.ingestNext_of_seq ans hj hst hdec hleft hf hq]
    refine ⟨fun st h => congrArg _ (ingestAtTarns_of_fail h), fun h => congrArg _ (ingestAtTarns_of_wait h), fun ts h => ?_⟩
    rw [ingestAtTarns_of_ready h]
    refine ⟨fun ha => congrArg _ (recordRead_of_fault ha), fun ha => ?_⟩
    rw [recordRead_of_found (show (State.recordAccess _ _ q ts).2.toOption.isSome = true from ha)]
    exact ⟨fun hc => congrArg _ (ingestEnds_of_wait hc), fun hc hmore => congrArg _ (ingestEnds_of_more hc hmore),
      fun hc hop hlast => congrArg _ (ingestEnds_of_last hc hop hlast), fun st hc hne => congrArg _ (ingestEnds_of_rejected hc hne)⟩
  · have hleft : j.desc.ingestCount - j.committed = 1 := by omega
    rw [exec_ingest ans hj, hleft, State.ingestMany_one, exec_ingestRecord]
  · rintro rfl
    rw [exec_decode [] ans hj hst hdec hstarted harrived]
    simp only [List.map_nil, inOrder_nil]
    rfl
end Sys2Proof.Machine
end

section
/-!
From power-on to service (R142, R479, R503, R580 to R593): the boot ROM's start, the hand-over to an image, and the write that enters service.
-/
namespace Sys2Proof.Machine

/-! ### Folds -/

/-- What no step of a fold changes, the fold leaves alone. -/
theorem foldl_keeps {σ α β : Type} (p : σ → β) {f : σ → α → σ} (l : List α) (s : σ) (h : ∀ t, ∀ a ∈ l, p (f t a) = p t) :
    p (l.foldl f s) = p s :=
  l.foldlRecOn f (motive := fun t => p t = p s) rfl (fun t ht a ha => (h t a ha).trans ht)

/-- What the step of one element brings about, and no other step undoes, holds after the fold. -/
theorem foldl_establishes {σ α : Type} {P : σ → Prop} {f : σ → α → σ} {l : List α} {a : α} (ha : a ∈ l) (s : σ) (hset : ∀ t, P (f t a))
    (hkeep : ∀ t, ∀ b ∈ l, P t → P (f t b)) : P (l.foldl f s) := by
  obtain ⟨l₁, l₂, rfl⟩ := List.append_of_mem ha
  rw [List.foldl_append, List.foldl_cons]
  exact l₂.foldlRecOn f (hset _) (fun t ht b hb => hkeep t b (by simp [hb]) ht)

/-! ### Measurements (R487) -/

theorem leNat_lt (b : List Byte) : leNat b < 256 ^ b.length := by
  induction b with
  | nil => simp [leNat]
  | cons x b ih =>
    have hx : x.toNat < 256 := x.isLt
    simp only [leNat, List.length_cons, Nat.pow_succ']
    omega

/-- The bytes of the number that bytes spell are those bytes. -/
theorem leBytes_leNat (b : List Byte) : leBytes (leNat b) b.length = b := by
  induction b with
  | nil => rfl
  | cons x b ih =>
    have hx : x.toNat < 256 := x.isLt
    have hrest : (x.toNat + 256 * leNat b) / 256 = leNat b := by omega
    have hbyte : BitVec.ofNat 8 (x.toNat + 256 * leNat b) = x := BitVec.eq_of_toNat_eq (by simp; omega)
    simp only [leNat, List.length_cons, leBytes, hrest, ih, hbyte]

/-- Eight bytes read back from the register that took their number. -/
theorem leBytes_register (b : List Byte) (h : b.length = 8) : leBytes (BitVec.ofNat 64 (leNat b)).toNat 8 = b := by
  have hlt : leNat b < 2 ^ 64 := by simpa [h] using leNat_lt b
  rw [BitVec.toNat_ofNat, Nat.mod_eq_of_lt hlt, ← h, leBytes_leNat]

theorem padTo_length (n : Nat) (b : List Byte) : (padTo n b).length = n := by
  simp [padTo, zeros]

/-- Bytes cut into eights and joined again. -/
theorem flatMap_eights (b : List Byte) (n : Nat) : ((List.range n).flatMap fun w => (b.drop (8 * w)).take 8) = b.take (8 * n) := by
  induction n with
  | zero => simp
  | succ n ih => rw [List.range_succ, List.flatMap_append, ih, Nat.mul_succ, List.take_add]; simp

/-- A measurement depends on its four registers alone. -/
theorem State.meas_congr {s t : State} {r : Nat → Nat} (h : ∀ w, w < 4 → s.reg (r w) = t.reg (r w)) : s.meas r = t.meas r := by
  unfold State.meas
  refine List.flatMap_congr (fun w hw => ?_)
  rw [h w (List.mem_range.mp hw)]

theorem State.reg_setMeas_ne (s : State) (r : Nat → Nat) (b : List Byte) (o : Nat) (h : ∀ w, w < 4 → o ≠ r w) : (s.setMeas r b).reg o = s.reg o :=
  foldl_keeps (fun t => t.reg o) _ s (fun _ w hw => State.reg_setReg_ne _ _ _ _ (h w (List.mem_range.mp hw)))

/-- A measurement that is put changes registers alone. -/
theorem State.setMeas_keeps {β : Type} (p : State → β) (hp : ∀ t o v, p (State.setReg t o v) = p t) (s : State) (r : Nat → Nat) (b : List Byte) :
    p (s.setMeas r b) = p s :=
  foldl_keeps p _ s (fun _ _ _ => hp _ _ _)

@[simp] theorem State.setMeas_rst (s : State) (r : Nat → Nat) (b : List Byte) : (s.setMeas r b).rst = s.rst := State.setMeas_keeps _ State.setReg_rst s r b
@[simp] theorem State.setMeas_pool (s : State) (r : Nat → Nat) (b : List Byte) : (s.setMeas r b).pool = s.pool := State.setMeas_keeps _ State.setReg_pool s r b
@[simp] theorem State.setMeas_flash (s : State) (r : Nat → Nat) (b : List Byte) : (s.setMeas r b).flash = s.flash :=
  State.setMeas_keeps _ State.setReg_flash s r b
@[simp] theorem State.setMeas_mgmt (s : State) (r : Nat → Nat) (b : List Byte) : (s.setMeas r b).mgmt = s.mgmt := State.setMeas_keeps _ State.setReg_mgmt s r b

/-- A measurement reads back the 32 bytes put there. -/
theorem State.meas_setMeas (s : State) (r : Nat → Nat) (b : List Byte) (hb : b.length = 32) (hr : Function.Injective r) :
    (s.setMeas r b).meas r = b := by
  have hreg : ∀ w, w ∈ List.range 4 → (s.setMeas r b).reg (r w) = BitVec.ofNat 64 (leNat ((b.drop (8 * w)).take 8)) := fun w hw =>
    foldl_establishes (P := fun t => t.reg (r w) = _) hw s (fun _ => State.reg_setReg_same _ _ _) (fun _ v _ ht => by
      rcases eq_or_ne v w with rfl | hne
      · exact State.reg_setReg_same _ _ _
      · exact (State.reg_setReg_ne _ _ _ _ (fun e => hne (hr e).symm)).trans ht)
  calc (s.setMeas r b).meas r = (List.range 4).flatMap (fun w => (b.drop (8 * w)).take 8) :=
        List.flatMap_congr (fun w hw => by
          have hlen : ((b.drop (8 * w)).take 8).length = 8 := by have := List.mem_range.mp hw; simp; omega
          rw [hreg w hw, leBytes_register _ hlen])
    _ = b := by rw [flatMap_eights, List.take_of_length_le (by omega)]

/-! ### The boot ROM (R142, R467, R479, R580, R582) -/

theorem coreReset_zero_pc : (coreReset 0).pc = 0x70000000 := rfl

/-- Driving OXBOW_HOLD changes what has been sent alone. -/
theorem State.driveOxbow_keeps {β : Type} (p : State → β) (hp : ∀ t x, p (State.send t x) = p t) (before after : State) :
    p (State.driveOxbow before after) = p after := by
  unfold State.driveOxbow
  split
  · rfl
  · exact hp _ _

@[simp] theorem State.driveOxbow_rst (s t : State) : (State.driveOxbow s t).rst = t.rst := State.driveOxbow_keeps _ State.send_rst s t
@[simp] theorem State.driveOxbow_sec (s t : State) : (State.driveOxbow s t).sec = t.sec := State.driveOxbow_keeps _ State.send_sec s t
@[simp] theorem State.driveOxbow_pool (s t : State) : (State.driveOxbow s t).pool = t.pool := State.driveOxbow_keeps _ State.send_pool s t
@[simp] theorem State.driveOxbow_core (s t : State) (i : Nat) : (State.driveOxbow s t).core i = t.core i :=
  State.driveOxbow_keeps (fun t => t.core i) (fun _ _ => rfl) s t
@[simp] theorem State.driveOxbow_reg (s t : State) (o : Nat) : (State.driveOxbow s t).reg o = t.reg o :=
  State.driveOxbow_keeps (fun t => t.reg o) (fun _ _ => rfl) s t

/-- The reset ends and core 0 starts at the boot ROM. -/
def State.romStarts (s : State) : State :=
  { s with rst := { s.rst with active := none, booted := true, pcie := !s.rst.perstIn } }.setCore 0 (coreReset 0)

def State.landsDriven (s : State) : State := (List.range 31).foldl (fun s i => s.setLand i 4) s

/-- The boot ROM runs: every land may be driven, and the ROM's measurement is shown. -/
def State.romRuns (s : State) : State :=
  s.romStarts.landsDriven.setMeas R.SEC_ROM_MEAS (padTo 32 (Config.romMeas s.romStarts.landsDriven.shadow.stepping))

/-- A KEK is drawn unless DEBUG_LATCH stands. -/
def State.drawKek (s : State) : State :=
  if s.secFlag F.SEC_STATUS_DEBUG_LATCH then s
  else State.putFlag ({ s with sec := { s.sec with kek := s.fresh + 1 } }.tick) R.SEC_STATUS F.SEC_STATUS_KEK_VALID true

/-- What BOOT_ROM_START waits for. -/
def State.bootReady (s : State) : Prop :=
  s.rst.booted = false ∧ s.rst.fused = true ∧ s.heldInReset = false ∧ s.clockOk wellIsland = true ∧ s.clockOk secIsland = true

theorem exec_bootRomStart_ready {s : State} (h : s.bootReady) : exec .bootRomStart s = .next (State.driveOxbow s s.romRuns.drawKek) := by
  obtain ⟨hbooted, hfused, hheld, hwell, hsec⟩ := h
  exact if_neg (by simp [hbooted, hfused, hheld, hwell, hsec])

theorem exec_bootRomStart_blocked {s : State} (h : ¬ s.bootReady) : exec .bootRomStart s = .next s := by
  refine if_pos (by_contra fun hgo => h ?_)
  simpa [State.bootReady, and_assoc] using hgo

section RomRuns
variable (s : State)

/-- Driving the lands changes their states alone. -/
theorem State.landsDriven_keeps {β : Type} (p : State → β) (hp : ∀ t i v, p (State.setLand t i v) = p t) : p s.landsDriven = p s :=
  foldl_keeps p _ s (fun _ _ _ => hp _ _ _)

theorem State.setLand_land (i v k : Nat) :
    Tbl.get (fun _ => 0) (s.setLand i v).rst.lands k = if k = i then v else Tbl.get (fun _ => 0) s.rst.lands k := Tbl.get_set _ _ _ _ _

theorem State.foldl_setLand_land {l : List Nat} {k : Nat} (hk : k ∈ l) (v : Nat) :
    Tbl.get (fun _ => 0) (l.foldl (fun s i => s.setLand i v) s).rst.lands k = v := by
  refine foldl_establishes (P := fun t => Tbl.get (fun _ => 0) t.rst.lands k = v) hk s (fun t => ?_) (fun t i _ ht => ?_)
  · rw [State.setLand_land, if_pos rfl]
  · rw [State.setLand_land, ht, ite_self]

theorem State.landsDriven_land {k : Nat} (hk : k < 31) : Tbl.get (fun _ => 0) s.landsDriven.rst.lands k = 4 :=
  s.foldl_setLand_land (List.mem_range.mpr hk) 4

/-- What the boot ROM's start leaves alone, and does. -/
theorem State.romRuns_keeps {β : Type} (p : State → β) (hreg : ∀ t o v, p (State.setReg t o v) = p t) (hland : ∀ t i v, p (State.setLand t i v) = p t) :
    p s.romRuns = p s.romStarts := by
  rw [State.romRuns, State.setMeas_keeps p hreg, State.landsDriven_keeps _ p hland]

@[simp] theorem State.romRuns_active : s.romRuns.rst.active = none := s.romRuns_keeps (fun t => t.rst.active) (fun _ _ _ => rfl) (fun _ _ _ => rfl)

@[simp] theorem State.romRuns_booted : s.romRuns.rst.booted = true := s.romRuns_keeps (fun t => t.rst.booted) (fun _ _ _ => rfl) (fun _ _ _ => rfl)

@[simp] theorem State.romRuns_pcie : s.romRuns.rst.pcie = !s.rst.perstIn :=
  s.romRuns_keeps (fun t => t.rst.pcie) (fun _ _ _ => rfl) (fun _ _ _ => rfl)

@[simp] theorem State.romRuns_core : s.romRuns.core 0 = coreReset 0 :=
  (s.romRuns_keeps (fun t => t.core 0) (fun _ _ _ => rfl) (fun _ _ _ => rfl)).trans (State.core_setCore_same _ 0 _)

@[simp] theorem State.romRuns_sec : s.romRuns.sec = s.sec := s.romRuns_keeps (fun t => t.sec) (fun _ _ _ => rfl) (fun _ _ _ => rfl)

@[simp] theorem State.romRuns_pool : s.romRuns.pool = s.pool := s.romRuns_keeps (fun t => t.pool) (fun _ _ _ => rfl) (fun _ _ _ => rfl)

@[simp] theorem State.romRuns_land {k : Nat} (hk : k < 31) : Tbl.get (fun _ => 0) s.romRuns.rst.lands k = 4 := by
  rw [State.romRuns, State.setMeas_rst, State.landsDriven_land _ hk]

theorem State.romRuns_reg {o : Nat} (h : ∀ w, w < 4 → o ≠ R.SEC_ROM_MEAS w) : s.romRuns.reg o = s.reg o := by
  rw [State.romRuns, State.reg_setMeas_ne _ _ _ _ h]
  exact s.romStarts.landsDriven_keeps (fun t => t.reg o) (fun _ _ _ => rfl)

end RomRuns

section DrawKek
variable (s : State)

theorem State.drawKek_of_latch (h : s.secFlag F.SEC_STATUS_DEBUG_LATCH = true) : s.drawKek = s := if_pos h

theorem State.drawKek_of_no_latch (h : s.secFlag F.SEC_STATUS_DEBUG_LATCH = false) : s.drawKek.secFlag F.SEC_STATUS_KEK_VALID = true := by
  rw [State.drawKek, if_neg (by simp [h])]
  exact State.flag_putFlag_same _ _ _ true (by decide) rfl

@[simp] theorem State.drawKek_rst : s.drawKek.rst = s.rst := by
  unfold State.drawKek; split <;> rfl

@[simp] theorem State.drawKek_core (i : Nat) : s.drawKek.core i = s.core i := by
  unfold State.drawKek; split <;> rfl

@[simp] theorem State.drawKek_pool : s.drawKek.pool = s.pool := by
  unfold State.drawKek; split <;> rfl

theorem State.drawKek_reg {o : Nat} (h : o ≠ R.SEC_STATUS) : s.drawKek.reg o = s.reg o := by
  unfold State.drawKek
  split
  · rfl
  · exact State.reg_putFlag_ne _ _ _ _ _ h

end DrawKek

/-- BOOT_ROM_START, once all it waits for stands. -/
theorem bootRomStart_of_ready {s : State} (h : s.bootReady) : ∃ t : State, exec .bootRomStart s = .next t ∧ t.rst.active = none ∧
    t.rst.booted = true ∧ t.rst.pcie = !s.rst.perstIn ∧ t.core 0 = coreReset 0 ∧ (∀ k, k < 31 → Tbl.get (fun _ => 0) t.rst.lands k = 4) ∧
    (s.secFlag F.SEC_STATUS_DEBUG_LATCH = false → t.secFlag F.SEC_STATUS_KEK_VALID = true) ∧
    (s.secFlag F.SEC_STATUS_DEBUG_LATCH = true → t.sec = s.sec ∧ t.reg R.SEC_STATUS = s.reg R.SEC_STATUS) ∧ t.pool = s.pool ∧ t.phase = s.phase := by
  have hstatus : s.romRuns.reg R.SEC_STATUS = s.reg R.SEC_STATUS := s.romRuns_reg (by decide)
  have hphase : s.romRuns.drawKek.reg R.GLOB_STATUS = s.reg R.GLOB_STATUS := (State.drawKek_reg _ (by decide)).trans (s.romRuns_reg (by decide))
  have hlatch : s.romRuns.secFlag F.SEC_STATUS_DEBUG_LATCH = s.secFlag F.SEC_STATUS_DEBUG_LATCH := by
    simp only [State.secFlag, State.flag, State.get, hstatus]
  have hrst : (State.driveOxbow s s.romRuns.drawKek).rst = s.romRuns.rst := by simp
  refine ⟨_, exec_bootRomStart_ready h, ?_⟩
  rw [hrst]
  refine ⟨s.romRuns_active, s.romRuns_booted, s.romRuns_pcie, by simp, fun k hk => s.romRuns_land hk, fun hl => ?_, fun hl => ?_, by simp, ?_⟩
  · simpa [State.secFlag, State.flag, State.get] using State.drawKek_of_no_latch _ (hlatch.trans hl)
  · simp [State.drawKek_of_latch _ (hlatch.trans hl), hstatus]
  · simp [State.phase, State.get, hphase]

/-! ### What bring-up leaves alone (R580 steps 5 to 7) -/

/-- The registers that an image's start shows and the training after it leaves alone: PHASE's, and the image's measurement. -/
def bootRegs : List Nat := [R.GLOB_STATUS, R.SEC_FW_MEAS 0, R.SEC_FW_MEAS 1, R.SEC_FW_MEAS 2, R.SEC_FW_MEAS 3]

/-- The reset state, the flash and those registers. -/
def State.bootView (s : State) : Rst × Flash × List (BitVec 64) := (s.rst, s.flash, bootRegs.map s.reg)

section BootView
variable {s t : State} (h : s.bootView = t.bootView)
include h

theorem rst_of_bootView : s.rst = t.rst := congrArg Prod.fst h

theorem flash_of_bootView : s.flash = t.flash := congrArg (fun v => v.2.1) h

theorem reg_of_bootView {o : Nat} (ho : o ∈ bootRegs) : s.reg o = t.reg o := List.map_inj_left.mp (congrArg (fun v => v.2.2) h) o ho

theorem phase_of_bootView : s.phase = t.phase := by
  simp only [State.phase, State.get, reg_of_bootView h (o := R.GLOB_STATUS) (by decide)]

theorem meas_of_bootView : s.meas R.SEC_FW_MEAS = t.meas R.SEC_FW_MEAS :=
  State.meas_congr (fun w hw => reg_of_bootView h (by interval_cases w <;> decide))

end BootView

theorem State.bootView_setReg (s : State) {o : Nat} (v : BitVec 64) (ho : o ∉ bootRegs) : (s.setReg o v).bootView = s.bootView := by
  have hregs : bootRegs.map (s.setReg o v).reg = bootRegs.map s.reg :=
    List.map_congr_left (fun p hp => State.reg_setReg_ne _ _ _ _ (fun e => ho (e ▸ hp)))
  simp [State.bootView, hregs]

theorem State.bootView_put (s : State) {o : Nat} (f : Fld) (v : Nat) (ho : o ∉ bootRegs) : (s.put o f v).bootView = s.bootView :=
  s.bootView_setReg _ ho

theorem State.bootView_putFlag (s : State) {o : Nat} (f : Fld) (b : Bool) (ho : o ∉ bootRegs) : (s.putFlag o f b).bootView = s.bootView :=
  s.bootView_put f _ ho

@[simp] theorem State.bootView_setCore (s : State) (i : Nat) (c : WCore) : (s.setCore i c).bootView = s.bootView := (rfl)
@[simp] theorem State.bootView_updChan (s : State) (u : Nat) (f : Chan → Chan) : (s.updChan u f).bootView = s.bootView := (rfl)
@[simp] theorem State.bootView_updTarn (s : State) (t : Nat) (f : Tarn → Tarn) : (s.updTarn t f).bootView = s.bootView := (rfl)
@[simp] theorem State.bootView_raiseIrq (s : State) (i code : Nat) : (s.raiseIrq i code).bootView = s.bootView := (rfl)
@[simp] theorem State.bootView_unitAlarm (s : State) (a : Nat) (x : Alarm) : (s.unitAlarm a x).bootView = s.bootView := (rfl)

@[simp] theorem State.bootView_releaseCore (s : State) (i : Nat) : (s.releaseCore i).bootView = s.bootView := by
  unfold State.releaseCore
  extract_lets c
  split <;> rfl

@[simp] theorem State.bootView_applyRepairs (s : State) : s.applyRepairs.bootView = s.bootView :=
  foldl_keeps State.bootView _ s (fun t r _ => by cases r.spare <;> rfl)

theorem pondCtrl_notMem_bootRegs (u : Nat) : R.POND_CTRL u ∉ bootRegs := by
  simp [bootRegs, R.POND_CTRL, R.POND_BASE, R.GLOB_STATUS, R.GLOB_BASE, R.SEC_FW_MEAS, R.SEC_BASE]
  omega

theorem spillReg_notMem_bootRegs (j : Fin 12) {k : Nat} (hk : k < 0x10000) : R.SPILL_BASE j + k ∉ bootRegs := by
  simp [bootRegs, R.SPILL_BASE, R.GLOB_STATUS, R.GLOB_BASE, R.SEC_FW_MEAS, R.SEC_BASE]
  omega

/-! ### Training of a Spillway channel (R212, R238) -/

theorem vectorOf_spillErr : ∀ j : Fin 12, vectorOf (R.SPILL_ERR j) = none := by decide

theorem alarmOf_dimmMismatch : ∀ j : Fin 12, alarmOf (R.SPILL_ERR j) F.SPILL_ERR_DIMM_MISMATCH = some (some (spillAddr j), .spillFault) := by decide

theorem State.bootView_dimmMismatch (s : State) (j : Fin 12) : (s.setErr (R.SPILL_ERR j) F.SPILL_ERR_DIMM_MISMATCH).bootView = s.bootView := by
  have herr : R.SPILL_ERR j ∉ bootRegs := spillReg_notMem_bootRegs j (k := 0x20) (by decide)
  simp only [State.setErr, alarmOf_dimmMismatch, State.bootView_unitAlarm, State.setErrOnly, vectorOf_spillErr]
  split
  · split
    · exact (State.bootView_raiseIrq _ _ _).trans (State.bootView_setReg _ _ herr)
    · exact State.bootView_setReg _ _ herr
  · exact State.bootView_setReg _ _ herr

/-- A channel whose presence data have been read: the number of its DIMMs is shown, and it counts as untrained. -/
def State.spillRead (s : State) (j : Nat) (dimms : List (Nat × Nat)) : State :=
  (s.put (R.SPILL_STATUS j) F.SPILL_STATUS_DIMMS (dimms.take 2).length).updChan (384 + j) (fun (c : Chan) => { c with trained := false })

/-- A write of TRAIN changes nothing, or reads the presence data and shows the capacity found: with an error bit, without, or as training begins. -/
theorem State.trainSpill_cases (s : State) (j : Nat) (dimms : List (Nat × Nat)) : s.trainSpill j dimms = s ∨ ∃ n,
    let t := (s.spillRead j dimms).put (R.SPILL_STATUS j) F.SPILL_STATUS_CAP_GIB n
    s.trainSpill j dimms = t.setErr (R.SPILL_ERR j) F.SPILL_ERR_DIMM_MISMATCH ∨ s.trainSpill j dimms = t ∨
      s.trainSpill j dimms = t.putFlag (R.SPILL_CTRL j) F.SPILL_CTRL_TRAIN true := by
  by_cases hstop : s.chEnabled (384 + j) ∨ s.flag (R.SPILL_CTRL j) F.SPILL_CTRL_HOLD ∨ s.chFaulted (384 + j)
  · exact .inl (if_pos hstop)
  · refine .inr ?_
    simp only [State.trainSpill, if_neg hstop]
    split
    · exact ⟨0, .inl rfl⟩
    · split
      · exact ⟨0, .inr (.inl rfl)⟩
      · exact ⟨_, .inr (.inr rfl)⟩

theorem State.bootView_trainSpill (s : State) (j : Fin 12) (dimms : List (Nat × Nat)) : (s.trainSpill j dimms).bootView = s.bootView := by
  have hstatus : R.SPILL_STATUS j ∉ bootRegs := spillReg_notMem_bootRegs j (k := 0x10) (by decide)
  have hctrl : R.SPILL_CTRL j ∉ bootRegs := spillReg_notMem_bootRegs j (k := 0x8) (by decide)
  have hread : (s.spillRead j dimms).bootView = s.bootView := (State.bootView_updChan _ _ _).trans (s.bootView_put _ _ hstatus)
  rcases s.trainSpill_cases j dimms with h | ⟨n, h | h | h⟩
  · rw [h]
  · rw [h, State.bootView_dimmMismatch, State.bootView_put _ _ _ hstatus, hread]
  · rw [h, State.bootView_put _ _ _ hstatus, hread]
  · rw [h, State.bootView_putFlag _ _ _ hctrl, State.bootView_put _ _ _ hstatus, hread]

/-! ### An image's start (R479, R503, R580 steps 5 to 7) -/

/-- The image stands in the SRAM, the boot control record names its slot, and the watchdog has started. -/
def State.imageLoaded (s : State) (slot : Nat) (x : FwImage) (hold : Bool) : State :=
  let pref := if s.flash.magicOk then s.flash.preferred else 0
  { s with flash := { s.flash with lastSlot := slot, preferred := pref, magicOk := true }, wsram := tblStore s.wsram 0 x.code,
           rst := { s.rst with wdog := true, burning := s.rst.burning || hold } }

/-- The watchdog's count begins at its timeout. -/
def State.wdogFull (s : State) : State := s.put R.RST_WDOG F.RST_WDOG_REMAIN_MS (s.get R.RST_WDOG F.RST_WDOG_TIMEOUT_MS)

/-- The image is measured and runs on core 0 at its entry, with PHASE at TRAINING. -/
def State.imageRuns (s : State) (slot : Nat) (x : FwImage) (hold : Bool) : State :=
  let t := (((s.imageLoaded slot x hold).setMeas R.SEC_FW_MEAS (padTo 32 (Config.shake256 x.signed 32))).put R.SEC_SVN F.SEC_SVN_RUN_SVN x.svn).wdogFull
  (t.setCore 0 { t.core 0 with pc := x.entry }).setPhase 1

/-- The Wellhead firmware that later restarts take the Stewards' images from. -/
def State.withFwCode (s : State) (code : List Byte) : State := { s with mgmt := { s.mgmt with fwCode := code } }

/-- A Steward's SRAM holds its program image. -/
def State.stewardLoaded (code : List Byte) (s : State) (q : Nat) : State :=
  s.setCore (4 + q) { s.core (4 + q) with sram := tblStore [] 0 (Config.stewardImage code q) }

/-- The other cores are released, each Steward with its program image, and the repairs are applied. -/
def State.coresReleased (s : State) (x : FwImage) : State :=
  let t := ((s.put R.WELL_CORECTL F.WELL_CORECTL_RELEASE 15).put R.WELL_CORECTL F.WELL_CORECTL_STEWARD_RELEASE 15).withFwCode x.code
  ([1, 2, 3, 4, 5, 6, 7].foldl (fun s i => s.releaseCore i) ([0, 1, 2, 3].foldl (State.stewardLoaded x.code) t)).applyRepairs

/-- Every Spillway channel with DIMMs and every Pond is given TRAIN. -/
def State.channelsTrain (s : State) : State :=
  let s := (List.range 12).foldl (fun s j => if Config.dimms j = [] then s else s.trainSpill j (Config.dimms j)) s
  (List.range 384).foldl (fun s u =>
    if s.chEnabled u || s.chFaulted u then s else s.putFlag (R.POND_CTRL u) F.POND_CTRL_TRAIN true) s

/-- Every Tarn runs its self-tests. -/
def State.tarnsTest (s : State) : State := (List.range 100).foldl (fun s t => s.updTarn t (fun (t : Tarn) => { t with testing := true })) s

theorem State.runFw_eq (s : State) (slot : Nat) (x : FwImage) (hold : Bool) :
    s.runFw slot x hold = ((s.imageRuns slot x hold).coresReleased x).channelsTrain.tarnsTest := rfl

@[simp] theorem State.bootView_withFwCode (s : State) (code : List Byte) : (s.withFwCode code).bootView = s.bootView := (rfl)
@[simp] theorem State.bootView_stewardLoaded (code : List Byte) (s : State) (q : Nat) : (s.stewardLoaded code q).bootView = s.bootView :=
  s.bootView_setCore _ _

theorem State.bootView_coresReleased (s : State) (x : FwImage) : (s.coresReleased x).bootView = s.bootView := by
  have hctl : R.WELL_CORECTL ∉ bootRegs := by decide
  rw [State.coresReleased, State.bootView_applyRepairs, foldl_keeps State.bootView _ _ (fun t i _ => t.bootView_releaseCore i),
    foldl_keeps State.bootView _ _ (fun t q _ => t.bootView_stewardLoaded _ q), State.bootView_withFwCode, State.bootView_put _ _ _ hctl,
    State.bootView_put _ _ _ hctl]

theorem State.bootView_channelsTrain (s : State) : s.channelsTrain.bootView = s.bootView := by
  unfold State.channelsTrain
  extract_lets s1
  have hspill : s1.bootView = s.bootView := foldl_keeps State.bootView _ s (fun t j hj => by
    split
    · rfl
    · exact t.bootView_trainSpill ⟨j, List.mem_range.mp hj⟩ _)
  have hpond := foldl_keeps State.bootView (List.range 384) s1 (f := fun s u =>
    if s.chEnabled u || s.chFaulted u then s else s.putFlag (R.POND_CTRL u) F.POND_CTRL_TRAIN true) (fun t u _ => by
      split
      · rfl
      · exact t.bootView_putFlag _ _ (pondCtrl_notMem_bootRegs u))
  exact hpond.trans hspill

theorem State.bootView_tarnsTest (s : State) : s.tarnsTest.bootView = s.bootView :=
  foldl_keeps State.bootView _ s (fun t k _ => t.bootView_updTarn k _)

theorem State.bootView_runFw (s : State) (slot : Nat) (x : FwImage) (hold : Bool) : (s.runFw slot x hold).bootView = (s.imageRuns slot x hold).bootView := by
  rw [State.runFw_eq, State.bootView_tarnsTest, State.bootView_channelsTrain, State.bootView_coresReleased]

theorem State.tarn_updTarn (s : State) (t k : Nat) (f : Tarn → Tarn) : (s.updTarn t f).tarn k = if k = t then f (s.tarn t) else s.tarn k :=
  Tbl.get_set _ _ _ _ _

theorem State.foldl_testing {l : List Nat} {k : Nat} (hk : k ∈ l) (s : State) :
    ((l.foldl (fun s t => s.updTarn t (fun (t : Tarn) => { t with testing := true })) s).tarn k).testing = true := by
  refine foldl_establishes (P := fun s => (s.tarn k).testing = true) hk s (fun t => ?_) (fun t i _ ht => ?_)
  · rw [State.tarn_updTarn, if_pos rfl]
  · rw [State.tarn_updTarn]
    split
    · rfl
    · exact ht

theorem State.tarnsTest_testing (s : State) {k : Nat} (hk : k < 100) : (s.tarnsTest.tarn k).testing = true :=
  State.foldl_testing (List.mem_range.mpr hk) s

@[simp] theorem State.setPhase_mgmt (s : State) (v : Nat) : (s.setPhase v).mgmt = s.mgmt := (rfl)
@[simp] theorem State.setPhase_pool (s : State) (v : Nat) : (s.setPhase v).pool = s.pool := (rfl)

theorem State.phase_setPhase (s : State) (v : Nat) : (s.setPhase v).phase = v % 8 := s.get_put_same _ _ v (by decide)

theorem State.imageRuns_rst (s : State) (slot : Nat) (x : FwImage) (hold : Bool) :
    (s.imageRuns slot x hold).rst = { s.rst with wdog := true, burning := s.rst.burning || hold } := by
  simp [State.imageRuns, State.setPhase, State.wdogFull, State.imageLoaded]

theorem State.imageRuns_lastSlot (s : State) (slot : Nat) (x : FwImage) (hold : Bool) : (s.imageRuns slot x hold).flash.lastSlot = slot := by
  simp [State.imageRuns, State.setPhase, State.wdogFull, State.imageLoaded]

theorem State.imageRuns_phase (s : State) (slot : Nat) (x : FwImage) (hold : Bool) : (s.imageRuns slot x hold).phase = 1 :=
  State.phase_setPhase _ 1

theorem secFwMeas_injective : Function.Injective R.SEC_FW_MEAS := fun a b h => by
  simp only [R.SEC_FW_MEAS] at h
  omega

theorem State.imageRuns_meas (s : State) (slot : Nat) (x : FwImage) (hold : Bool) :
    (s.imageRuns slot x hold).meas R.SEC_FW_MEAS = padTo 32 (Config.shake256 x.signed 32) := by
  refine (State.meas_congr (fun w hw => ?_)).trans
    (State.meas_setMeas (s.imageLoaded slot x hold) R.SEC_FW_MEAS _ (padTo_length 32 _) secFwMeas_injective)
  have hne : ∀ o ∈ [R.GLOB_STATUS, R.RST_WDOG, R.SEC_SVN], R.SEC_FW_MEAS w ≠ o := by interval_cases w <;> decide
  rw [State.imageRuns, State.setPhase, State.reg_put_ne _ _ _ _ _ (hne _ (by simp)), State.reg_setCore, State.wdogFull,
    State.reg_put_ne _ _ _ _ _ (hne _ (by simp)), State.reg_put_ne _ _ _ _ _ (hne _ (by simp))]

/-- Everything an image's start shows of itself. -/
theorem State.runFw_shows (s : State) (slot : Nat) (x : FwImage) (hold : Bool) : let t := s.runFw slot x hold
    t.rst.wdog = true ∧ t.flash.lastSlot = slot ∧ t.phase = 1 ∧ t.meas R.SEC_FW_MEAS = padTo 32 (Config.shake256 x.signed 32) ∧
    ∀ k, k < 100 → (t.tarn k).testing = true := by
  have hview := s.bootView_runFw slot x hold
  refine ⟨?_, ?_, ?_, ?_, fun k hk => ?_⟩
  · rw [rst_of_bootView hview, State.imageRuns_rst]
  · rw [flash_of_bootView hview, State.imageRuns_lastSlot]
  · rw [phase_of_bootView hview, State.imageRuns_phase]
  · rw [meas_of_bootView hview, State.imageRuns_meas]
  · rw [State.runFw_eq]
    exact State.tarnsTest_testing _ hk

/-! ### Recovery (R585) -/

/-- In recovery a Pond of stack 2 that is not in fault is enabled, and its rows of the system area are filled where slot 256 is FULL. -/
def State.pondRecovers (p : Nat) (s : State) (u : Nat) : State :=
  if s.chFaulted u then s
  else
    let s := (s.putFlag (R.POND_CTRL u) F.POND_CTRL_ENABLE true).updChan u (fun (c : Chan) => { c with trained := true })
    if !s.slotFull 256 then s
    else { s with pool := s.pool.fill { range := .rows u 61184 256 3, pattern := p, kslot := 256, kgen := s.slotGen 256, tag := 0 } }

def State.inRecovery (s : State) : State := { s with rst := { s.rst with recovery := true } }

theorem State.enterRecovery_eq (s : State) :
    s.enterRecovery = ((List.range 32).map (· + 64)).foldl (State.pondRecovers (Config.freeNat s.fresh % 2 ^ 64)) s.inRecovery.tick := rfl

theorem State.bootView_pondRecovers (p : Nat) (s : State) (u : Nat) : (s.pondRecovers p u).bootView = s.bootView := by
  have hput := s.bootView_putFlag F.POND_CTRL_ENABLE true (pondCtrl_notMem_bootRegs u)
  unfold State.pondRecovers
  split
  · rfl
  · dsimp only
    split
    · exact hput
    · exact hput

theorem State.bootView_enterRecovery (s : State) : s.enterRecovery.bootView = s.inRecovery.bootView := by
  rw [State.enterRecovery_eq, foldl_keeps State.bootView _ _ (fun t u _ => t.bootView_pondRecovers _ u)]
  rfl

theorem State.enterRecovery_shows (s : State) : s.enterRecovery.rst.recovery = true ∧ s.enterRecovery.phase = s.phase := by
  have hview := s.bootView_enterRecovery
  exact ⟨congrArg Rst.recovery (rst_of_bootView hview), phase_of_bootView (t := s.inRecovery) hview⟩

/-! ### FIRMWARE_LOAD_DONE (R580, R584, R585) -/

/-- What the answer to the second slot's verification comes to: its image runs, or the controller enters recovery. -/
def bootSecondSlot (n : Nat) (hold : Bool) (b : State × Option FwImage) : Answer :=
  match b with
  | (s, some x) => .next (s.runFw n x hold)
  | (s, none) => .next s.enterRecovery

/-- What the answer to the first slot's verification comes to: its image runs, or the other slot is verified. -/
def bootFirstSlot (n : Nat) (hold : Bool) (a : State × Option FwImage) : Answer :=
  match a with
  | (s, some x) => .next (s.runFw n x hold)
  | (s, none) => bootSecondSlot (1 - n) hold (s.verifyFw (s.flash.slot (1 - n)))

theorem bootSecondSlot_of_image {n : Nat} {hold : Bool} {b : State × Option FwImage} {x : FwImage} (h : b.2 = some x) :
    bootSecondSlot n hold b = .next (b.1.runFw n x hold) := by
  obtain ⟨s, i⟩ := b
  subst h
  rfl

theorem bootSecondSlot_of_none {n : Nat} {hold : Bool} {b : State × Option FwImage} (h : b.2 = none) : bootSecondSlot n hold b = .next b.1.enterRecovery := by
  obtain ⟨s, i⟩ := b
  subst h
  rfl

theorem bootFirstSlot_of_image {n : Nat} {hold : Bool} {a : State × Option FwImage} {x : FwImage} (h : a.2 = some x) :
    bootFirstSlot n hold a = .next (a.1.runFw n x hold) := by
  obtain ⟨s, i⟩ := a
  subst h
  rfl

theorem bootFirstSlot_of_none {n : Nat} {hold : Bool} {a : State × Option FwImage} (h : a.2 = none) :
    bootFirstSlot n hold a = bootSecondSlot (1 - n) hold (a.1.verifyFw (a.1.flash.slot (1 - n))) := by
  obtain ⟨s, i⟩ := a
  subst h
  rfl

theorem exec_firmwareLoadDone {s : State} (hold : Bool) (hwell : s.wellRuns = true) (hrec : s.rst.recovery = false) (hphase : s.phase = 0)
    (hcore : (s.core 0).st = .running) :
    exec (.firmwareLoadDone hold) s = bootFirstSlot s.firstSlot hold (s.verifyFw (s.flash.slot s.firstSlot)) :=
  if_neg (by simp [hwell, hrec, hphase, hcore])

/-! ### The watchdog and the management cycle (R21, R25, R503) -/

theorem State.runWatchdog_of_off {s : State} (ms : Nat) (h : s.rst.wdog = false ∨ s.flag R.RST_WDOG F.RST_WDOG_ENABLE = false) : s.runWatchdog ms = s :=
  if_pos (by rcases h with h | h <;> simp [h])

theorem State.runWatchdog_of_on {s : State} (ms : Nat) (hstarted : s.rst.wdog = true) (hon : s.flag R.RST_WDOG F.RST_WDOG_ENABLE = true)
    (hfatal : s.mgmt.fatal = none) :
    s.runWatchdog ms = s.put R.RST_WDOG F.RST_WDOG_REMAIN_MS (s.get R.RST_WDOG F.RST_WDOG_REMAIN_MS - ms) := by
  simp [State.runWatchdog, hstarted, hon, hfatal]

/-- A count that runs stays within its field. -/
theorem State.get_put_sub (s : State) (o n : Nat) (f : Fld) (h : f.lo + f.w ≤ 64) : (s.put o f (s.get o f - n)).get o f = s.get o f - n := by
  have hlt : s.get o f < 2 ^ f.w := bitsOf_lt _ _ _
  rw [State.get_put_same s o f _ h, Nat.mod_eq_of_lt (by omega)]

section ManagementCycle
variable {s : State} (ms : BitVec 16) (overrun inFlight : Bool) (stewards : BitVec 4) (ans : List SnoopAnswer)

theorem managementCycle_of_stopped (h : s.wellRuns = false) : exec (.managementCycle ms overrun inFlight stewards ans) s = .next s :=
  if_pos (by simp [h])

theorem managementCycle_of_boot_or_fatal (h : s.wellRuns = true)
    (hidle : ((s.bump R.WELL_MCYCLE).runWatchdog ms.toNat).phase = 0 ∨ ((s.bump R.WELL_MCYCLE).runWatchdog ms.toNat).isFatal = true) :
    exec (.managementCycle ms overrun inFlight stewards ans) s = .next ((s.bump R.WELL_MCYCLE).runWatchdog ms.toNat) := by
  show execManagementCycle ms overrun inFlight stewards ans s = _
  rw [execManagementCycle, if_neg (by simp [h])]
  exact if_pos hidle

theorem managementCycle_of_work (h : s.wellRuns = true) (hphase : ((s.bump R.WELL_MCYCLE).runWatchdog ms.toNat).phase ≠ 0)
    (hfatal : ((s.bump R.WELL_MCYCLE).runWatchdog ms.toNat).isFatal = false) :
    let t := (s.bump R.WELL_MCYCLE).runWatchdog ms.toNat
    let u := if overrun then (t.bumpSat R.WELL_OVERRUN F.WELL_OVERRUN_COUNT).raiseAlarm .cycleOverrun else t
    exec (.managementCycle ms overrun inFlight stewards ans) s = .next (u.firmwareCycle inFlight stewards ans).bringUp := by
  show execManagementCycle ms overrun inFlight stewards ans s = _
  rw [execManagementCycle, if_neg (by simp [h])]
  exact if_neg (by simp [hphase, hfatal])

end ManagementCycle

/-! ### Entry into service (R592) -/

/-- Set the lock bit of a block. -/
def State.lockBlk (s : State) (b : Blk) (n : Nat) : State := (lockOf b n).elim s (fun l => s.putFlag l.1 l.2 true)

/-- The blocks that entry into service locks, in its order. -/
def servedBlocks : List (Blk × Nat) :=
  (List.range 384).map (Blk.pond, ·) ++ ((List.range 12).map (Blk.spill, ·) ++ ((List.range 9).map (Blk.mere, ·) ++
    [Blk.pair, .shal, .dir, .qos, .ras, .sec, .rst, .clk, .pwr, .mgmt].map (·, 0)))

def State.lockAll (s : State) (l : List (Blk × Nat)) : State := l.foldl (fun s x => s.lockBlk x.1 x.2) s

/-- CONFIG_MEAS is extended with the configuration that is now fixed. -/
def State.configMeasured (s : State) : State :=
  let t := (s.setMeas R.SEC_CONFIG_MEAS (leBytes (Config.freeNat s.fresh) 32))
  let t := t.setMeas R.SEC_MEXT_DATA (leBytes (Config.freeNat (t.fresh + 2)) 32)
  (t.put R.SEC_MEXT_CMD F.SEC_MEXT_CMD_EXTENDS (Config.freeNat (t.fresh + 1))).ticks 3

/-- The locks are set, the configuration is measured, and STRICT_BOOT ends. -/
def State.bootEnded (s : State) : State := (s.lockAll servedBlocks).configMeasured.putFlag R.DIR_CTRL F.DIR_CTRL_STRICT_BOOT false

def State.nowServed (s : State) : State := { s with mgmt := { s.mgmt with served := true } }

@[simp] theorem State.nowServed_served (s : State) : s.nowServed.mgmt.served = true := (rfl)
@[simp] theorem State.nowServed_held (s : State) : s.nowServed.mgmt.held = s.mgmt.held := (rfl)
@[simp] theorem State.nowServed_pool (s : State) : s.nowServed.pool = s.pool := (rfl)
@[simp] theorem State.nowServed_reg (s : State) (o : Nat) : s.nowServed.reg o = s.reg o := (rfl)

theorem State.enterService_eq (s : State) : s.enterService = s.bootEnded.nowServed.setPhase 4 := by
  simp only [State.bootEnded, State.lockAll, servedBlocks, List.foldl_append, List.foldl_map]
  rfl

theorem State.lockBlk_eq (s : State) {b : Blk} {n o : Nat} {f : Fld} (h : lockOf b n = some (o, f)) : s.lockBlk b n = s.putFlag o f true := by
  rw [State.lockBlk, h]
  rfl

/-- Locking changes registers alone. -/
theorem State.lockBlk_keeps {β : Type} (p : State → β) (hp : ∀ t o v, p (State.setReg t o v) = p t) (s : State) (b : Blk) (n : Nat) :
    p (s.lockBlk b n) = p s := by
  unfold State.lockBlk
  cases lockOf b n with
  | none => rfl
  | some l => exact hp _ _ _

/-- A lock's bit is bit 0 of a register that holds no other, save for MODE's (R12). -/
theorem lockOf_bit {b : Blk} {n o : Nat} {f : Fld} (h : lockOf b n = some (o, f)) (hb : b ≠ .xlat) : f.lo = 0 ∧ f.w = 1 := by
  cases b with
  | xlat => exact absurd rfl hb
  | glob | job | tarn | well => cases h
  | _ => cases h; exact ⟨rfl, rfl⟩

/-- A lock that is set stays set, whatever block is locked next. -/
theorem State.flag_lockBlk_of_flag (s : State) {b : Blk} {n o : Nat} {f : Fld} (hb : b ≠ .xlat) (hf : f.lo = 0 ∧ f.w = 1) (h : s.flag o f = true) :
    (s.lockBlk b n).flag o f = true := by
  cases hl : lockOf b n with
  | none => rwa [State.lockBlk, hl]
  | some l =>
    obtain ⟨p, g⟩ := l
    obtain ⟨hlo, hw⟩ := lockOf_bit hl hb
    rw [State.lockBlk_eq s hl]
    rcases eq_or_ne o p with rfl | hne
    · have hset : (s.putFlag o g true).flag o g = true := State.flag_putFlag_same _ _ _ true (by omega) hw
      simpa [State.flag, State.get, hf.1, hf.2, hlo, hw] using hset
    · rw [State.flag, State.putFlag, State.get_put_ne _ _ _ _ _ _ hne]
      exact h

theorem State.flag_lockBlk_self (s : State) {b : Blk} {n o : Nat} {f : Fld} (hl : lockOf b n = some (o, f)) (hb : b ≠ .xlat) :
    (s.lockBlk b n).flag o f = true := by
  obtain ⟨hlo, hw⟩ := lockOf_bit hl hb
  rw [State.lockBlk_eq s hl]
  exact State.flag_putFlag_same _ _ _ true (by omega) hw

/-- The lock of each block of a list is set once the list is locked. -/
theorem State.flag_lockAll (s : State) {l : List (Blk × Nat)} {b : Blk} {n o : Nat} {f : Fld} (hx : (b, n) ∈ l) (hl : lockOf b n = some (o, f))
    (hb : ∀ x ∈ l, x.1 ≠ .xlat) : (s.lockAll l).flag o f = true :=
  foldl_establishes (P := fun t : State => t.flag o f = true) hx s (fun t => t.flag_lockBlk_self hl (hb _ hx))
    (fun t y hy ht => t.flag_lockBlk_of_flag (hb y hy) (lockOf_bit hl (hb _ hx)) ht)

theorem State.lockAll_keeps {β : Type} (p : State → β) (hp : ∀ t o v, p (State.setReg t o v) = p t) (s : State) (l : List (Blk × Nat)) :
    p (s.lockAll l) = p s :=
  foldl_keeps p l s (fun t x _ => t.lockBlk_keeps p hp x.1 x.2)

@[simp] theorem State.lockAll_mgmt (s : State) (l : List (Blk × Nat)) : (s.lockAll l).mgmt = s.mgmt := State.lockAll_keeps _ State.setReg_mgmt s l
@[simp] theorem State.lockAll_pool (s : State) (l : List (Blk × Nat)) : (s.lockAll l).pool = s.pool := State.lockAll_keeps _ State.setReg_pool s l

theorem servedBlocks_ne_xlat : ∀ x ∈ servedBlocks, x.1 ≠ .xlat := by
  simp only [servedBlocks, List.mem_append, List.mem_map]
  rintro x (⟨n, _, rfl⟩ | ⟨n, _, rfl⟩ | ⟨n, _, rfl⟩ | ⟨b, hb, rfl⟩)
  · exact Blk.noConfusion
  · exact Blk.noConfusion
  · exact Blk.noConfusion
  · revert b
    decide

theorem pond_mem_servedBlocks {n : Nat} (hn : n < 384) : (Blk.pond, n) ∈ servedBlocks := by
  simp [servedBlocks, hn]

theorem sec_mem_servedBlocks : (Blk.sec, 0) ∈ servedBlocks := by
  simp [servedBlocks]

@[simp] theorem State.configMeasured_mgmt (s : State) : s.configMeasured.mgmt = s.mgmt := by
  simp [State.configMeasured]

@[simp] theorem State.configMeasured_pool (s : State) : s.configMeasured.pool = s.pool := by
  simp [State.configMeasured]

theorem State.configMeasured_reg (s : State) {o : Nat} (hconfig : ∀ w, w < 4 → o ≠ R.SEC_CONFIG_MEAS w) (hdata : ∀ w, w < 4 → o ≠ R.SEC_MEXT_DATA w)
    (hcmd : o ≠ R.SEC_MEXT_CMD) : s.configMeasured.reg o = s.reg o := by
  rw [State.configMeasured, State.reg_ticks, State.reg_put_ne _ _ _ _ _ hcmd, State.reg_setMeas_ne _ _ _ _ hdata, State.reg_setMeas_ne _ _ _ _ hconfig]

@[simp] theorem State.bootEnded_mgmt (s : State) : s.bootEnded.mgmt = s.mgmt := by
  rw [State.bootEnded, State.putFlag_mgmt, State.configMeasured_mgmt, State.lockAll_mgmt]

@[simp] theorem State.bootEnded_pool (s : State) : s.bootEnded.pool = s.pool := by
  rw [State.bootEnded, State.putFlag_pool, State.configMeasured_pool, State.lockAll_pool]

/-- After its locks are set, entry into service writes measurements, STRICT_BOOT and PHASE alone. -/
theorem State.enterService_reg (s : State) {o : Nat} (hconfig : ∀ w, w < 4 → o ≠ R.SEC_CONFIG_MEAS w) (hdata : ∀ w, w < 4 → o ≠ R.SEC_MEXT_DATA w)
    (hcmd : o ≠ R.SEC_MEXT_CMD) (hdir : o ≠ R.DIR_CTRL) (hstatus : o ≠ R.GLOB_STATUS) : s.enterService.reg o = (s.lockAll servedBlocks).reg o := by
  rw [State.enterService_eq, State.setPhase, State.reg_put_ne _ _ _ _ _ hstatus, State.nowServed_reg, State.bootEnded,
    State.reg_putFlag_ne _ _ _ _ _ hdir, State.configMeasured_reg _ hconfig hdata hcmd]

theorem State.enterService_pondLock (s : State) {n : Nat} (hn : n < 384) : s.enterService.flag (R.POND_LOCK n) F.POND_LOCK_LOCK = true := by
  have hlock := s.flag_lockAll (pond_mem_servedBlocks hn) rfl servedBlocks_ne_xlat
  have hlow : R.POND_LOCK n < R.SEC_BASE := by simp only [R.POND_LOCK, R.POND_BASE, R.SEC_BASE]; omega
  have hhigh : R.DIR_CTRL < R.POND_LOCK n := by simp only [R.POND_LOCK, R.POND_BASE, R.DIR_CTRL, R.DIR_BASE]; omega
  have hreg : s.enterService.reg (R.POND_LOCK n) = (s.lockAll servedBlocks).reg (R.POND_LOCK n) :=
    s.enterService_reg (fun w _ => by simp only [R.SEC_CONFIG_MEAS]; omega) (fun w _ => by simp only [R.SEC_MEXT_DATA]; omega)
      (by simp only [R.SEC_MEXT_CMD]; omega) hhigh.ne' ((show R.GLOB_STATUS < R.DIR_CTRL by decide).trans hhigh).ne'
  rw [State.flag, State.get, hreg]
  exact hlock

theorem State.enterService_secLock (s : State) : s.enterService.flag R.SEC_LOCK F.SEC_LOCK_LOCK = true := by
  have hlock := s.flag_lockAll sec_mem_servedBlocks rfl servedBlocks_ne_xlat
  rw [State.flag, State.get, s.enterService_reg (by decide) (by decide) (by decide) (by decide) (by decide)]
  exact hlock

theorem State.enterService_phase (s : State) : s.enterService.phase = 4 := by
  rw [State.enterService_eq, State.phase_setPhase]

theorem State.enterService_strictBoot (s : State) : s.enterService.flag R.DIR_CTRL F.DIR_CTRL_STRICT_BOOT = false := by
  have hclear := (s.lockAll servedBlocks).configMeasured.flag_putFlag_same R.DIR_CTRL F.DIR_CTRL_STRICT_BOOT false (by decide) rfl
  rw [State.enterService_eq, State.flag, State.setPhase, State.get_put_ne _ _ _ _ _ _ (by decide), State.get, State.nowServed_reg]
  exact hclear

theorem State.enterService_served (s : State) : s.enterService.mgmt.served = true := by
  rw [State.enterService_eq, State.setPhase_mgmt, State.nowServed_served]

theorem State.enterService_held (s : State) : s.enterService.mgmt.held = s.mgmt.held := by
  rw [State.enterService_eq, State.setPhase_mgmt, State.nowServed_held, State.bootEnded_mgmt]

theorem State.enterService_pool (s : State) : s.enterService.pool = s.pool := by
  rw [State.enterService_eq, State.setPhase_pool, State.nowServed_pool, State.bootEnded_pool]

/-- A block's lock, where it has one, is set. -/
theorem State.elim_lock {s : State} {l : Option (Nat × Fld)} {o : Nat} {f : Fld} (hl : l = some (o, f)) (h : s.flag o f = true) :
    l.elim true (fun l => s.flag l.1 l.2) = true := by
  subst hl
  exact h

/-- Everything entry into service shows. -/
theorem State.enterService_shows (s : State) : let t := s.enterService
    t.phase = 4 ∧ t.flag R.DIR_CTRL F.DIR_CTRL_STRICT_BOOT = false ∧ t.mgmt.served = true ∧ t.mgmt.held = s.mgmt.held ∧ t.pool = s.pool ∧
    (∀ n, n < 384 → (lockOf .pond n).elim true (fun l => t.flag l.1 l.2) = true) ∧ (lockOf .sec 0).elim true (fun l => t.flag l.1 l.2) = true :=
  ⟨s.enterService_phase, s.enterService_strictBoot, s.enterService_served, s.enterService_held, s.enterService_pool,
    fun _ hn => State.elim_lock rfl (s.enterService_pondLock hn), State.elim_lock rfl s.enterService_secLock⟩

/-! ### MBX_EN and JOB_ENABLE (R187, R530, R592, R593) -/

theorem State.jobsOn_of_phase {s : State} (h : s.phase < 4) : s.jobsOn = false := by
  have hne : s.get R.GLOB_STATUS F.GLOB_STATUS_PHASE ≠ 4 := Nat.ne_of_lt h
  simp [State.jobsOn, hne]

theorem exec_mbxEn_true (s : State) : let t := s.putFlag R.MGMT_CTRL F.MGMT_CTRL_MBX_EN true
    let u := if s.phase = 3 ∧ s.isFatal = false then t.enterService else t
    exec (.mbxEn true) s = .next (u.drainHeld u.mgmt.held.length) := by
  intro t u
  have hstatus : t.reg R.GLOB_STATUS = s.reg R.GLOB_STATUS := State.reg_putFlag_ne _ _ _ _ _ (by decide)
  have hphase : t.phase = s.phase := by simp only [State.phase, State.get, hstatus]
  have hfatal : t.isFatal = s.isFatal := by simp only [State.isFatal, State.flag, State.get, hstatus]
  show execMbxEn true s = _
  simp only [execMbxEn, u, ← hphase, ← hfatal, Bool.not_eq_true']
  rfl

/-- Settles O60: each command and each state it runs is its own lemma above. -/
theorem fromPowerOnToService : Obligations.FromPowerOnToService := by
  unfold Obligations.FromPowerOnToService
  refine ⟨fun s => ⟨bootRomStart_of_ready, exec_bootRomStart_blocked⟩, coreReset_zero_pc, fun hold s hwell hrec hphase hcore => ?_,
    fun n x hold s => s.runFw_shows n x hold,
    State.enterRecovery_shows, fun ms overrun inFlight stewards ans s => ?_, fun ms s => ⟨State.runWatchdog_of_off ms, fun hstarted hon hfatal => ?_⟩,
    fun s => ⟨rfl, fun hphase hfatal => ?_, fun h => ?_⟩, State.enterService_shows, fun v s => ⟨rfl, State.jobsOn_of_phase⟩⟩
  · rw [exec_firmwareLoadDone hold hwell hrec hphase hcore]
    exact ⟨fun x hx => bootFirstSlot_of_image hx, fun x ha hb => (bootFirstSlot_of_none ha).trans (bootSecondSlot_of_image hb),
      fun ha hb => (bootFirstSlot_of_none ha).trans (bootSecondSlot_of_none hb)⟩
  · exact ⟨managementCycle_of_stopped ms overrun inFlight stewards ans, managementCycle_of_boot_or_fatal ms overrun inFlight stewards ans,
      managementCycle_of_work ms overrun inFlight stewards ans⟩
  · rw [State.runWatchdog_of_on ms hstarted hon hfatal]
    exact ⟨State.get_put_sub _ _ _ _ (by decide), fun o ho => State.reg_put_ne _ _ _ _ _ ho⟩
  · rw [exec_mbxEn_true, if_pos ⟨hphase, hfatal⟩]
  · rw [exec_mbxEn_true, if_neg (by rcases h with h | h <;> simp [h])]

end Sys2Proof.Machine
end

section
/-!
What lines written, packets sent and errors raised leave alone: the tables of sequences, regions and blocks.
-/
namespace Sys2Proof.Machine

/-! ### Errors, alarms and event records (R532, R540, R545) -/

@[simp] theorem State.wrote_kv (s : State) (pa : Nat) : (s.wrote pa).kv = s.kv := by
  unfold State.wrote
  split <;> rfl

@[simp] theorem State.interrupt_kv (s : State) (v : Nat) : (s.interrupt v).kv = s.kv := by
  rcases s.interrupt_cases v with ⟨e, _⟩ | ⟨e, _⟩ <;> rw [e] <;> rfl

@[simp] theorem State.interruptIf_kv (s t : State) (v : Nat) : (State.interruptIf s t v).kv = t.kv := by
  unfold State.interruptIf
  split
  · exact State.interrupt_kv t v
  · rfl

@[simp] theorem State.setErrOnly_kv (s : State) (o : Nat) (f : Fld) (v : Nat) : (s.setErrOnly o f v).kv = s.kv := by
  unfold State.setErrOnly
  simp only
  split
  · split
    · split <;> rfl
    · rfl
  · exact State.interruptIf_kv _ _ _

@[simp] theorem State.ringEvent_kv (s : State) (r : EvRec) : (s.ringEvent r).kv = s.kv := by
  unfold State.ringEvent
  exact (State.interrupt_kv _ _).trans ((State.put_kv _ _ _ _).trans (State.wrote_kv _ _))

@[simp] theorem State.showHeld_kv (s : State) : s.showHeld.kv = s.kv := by
  unfold State.showHeld
  rw [State.put_kv, State.putFlag_kv]

@[simp] theorem State.writeEvent_kv (s : State) (r : EvRec) : (s.writeEvent r).kv = s.kv := by
  unfold State.writeEvent
  simp only
  split
  · exact State.ringEvent_kv s r
  · split
    · rw [State.setErrOnly_kv, State.showHeld_kv]
    · exact State.showHeld_kv _

@[simp] theorem State.raiseAlarm_kv (s : State) (a : Alarm) : (s.raiseAlarm a).kv = s.kv := by
  unfold State.raiseAlarm State.accumulateAlarm
  simp only
  split
  · exact State.bumpSat_kv _ _ _ _
  · split
    · rw [State.setReg_kv, State.bumpSat_kv]
    · rw [State.writeEvent_kv, State.setReg_kv, State.bumpSat_kv]

@[simp] theorem State.unitAlarm_kv (s : State) (a : Nat) (x : Alarm) : (s.unitAlarm a x).kv = s.kv := (rfl)

@[simp] theorem State.setErr_kv (s : State) (o : Nat) (f : Fld) (v : Nat) : (s.setErr o f v).kv = s.kv := by
  unfold State.setErr
  simp only
  split <;> simp

/-! ### Links (R278 to R285) -/

@[simp] theorem State.setLink_kv (s : State) (n : Nat) (l : Link) : (s.setLink n l).kv = s.kv := by
  unfold State.setLink
  simp only
  rw [State.put_kv, State.put_kv, State.put_kv]

@[simp] theorem State.updLink_kv (s : State) (n : Nat) (f : Link → Link) : (s.updLink n f).kv = s.kv := State.setLink_kv _ _ _

@[simp] theorem State.emitFlit_kv (s : State) (n header : Nat) (payload : List Byte) : (s.emitFlit n header payload).kv = s.kv := by
  unfold State.emitFlit
  rw [State.send_kv, State.updLink_kv]

@[simp] theorem State.emitHeld_kv (s : State) (n : Nat) (f : HeldFlit) : (s.emitHeld n f).kv = s.kv := by
  unfold State.emitHeld
  rw [State.emitFlit_kv, State.bump_kv]

@[simp] theorem State.sendSequenced_kv (s : State) (n : Nat) (credit : Bool) (first : Nat) (payload : List Byte) (ends : List LinkPkt) :
    (s.sendSequenced n credit first payload ends).kv = s.kv := by
  unfold State.sendSequenced
  simp only
  rw [State.emitHeld_kv, State.setLink_kv]

@[simp] theorem State.sendSlots_kv (s : State) (n : Nat) (p : LinkPkt) (first : Nat) (l : List (List Byte)) : (s.sendSlots n p first l).kv = s.kv := by
  fun_induction State.sendSlots s n p first l with
  | case1 => rfl
  | case2 => exact State.sendSequenced_kv _ _ _ _ _ _
  | case3 _ _ _ _ _ ih => rw [ih, State.sendSequenced_kv]

@[simp] theorem State.setCredit_kv (s : State) (n c v : Nat) : (s.setCredit n c v).kv = s.kv := State.put_kv _ _ _ _

@[simp] theorem State.sendPacket_kv (s : State) (n : Nat) (p : LinkPkt) : (s.sendPacket n p).kv = s.kv := by
  unfold State.sendPacket
  simp only [State.sendSlots_kv]
  split
  · rw [State.updLink_kv, State.setCredit_kv]
  · exact State.setCredit_kv _ _ _ _

@[simp] theorem State.pumpLink_kv (s : State) (n fuel : Nat) : (s.pumpLink n fuel).kv = s.kv := by
  induction fuel generalizing s with
  | zero => rfl
  | succ fuel ih =>
    simp only [State.pumpLink]
    split
    · rfl
    · split
      · split
        · rfl
        · rw [ih, State.sendPacket_kv, State.setLink_kv]
      · split
        · rw [ih, State.sendSequenced_kv]
        · rfl

@[simp] theorem State.enqueue_kv (s : State) (n : Nat) (p : LinkPkt) : (s.enqueue n p).kv = s.kv :=
  (State.pumpLink_kv _ _ _).trans (State.updLink_kv _ _ _)

@[simp] theorem State.answerRecord_kv (s : State) (ep txn : Nat) : (s.answerRecord ep txn).kv = s.kv := (rfl)

@[simp] theorem State.sendTwin_kv (s : State) (op : String) (cls : Nat) (args : List Nat) (data : List Byte) : (s.sendTwin op cls args data).kv = s.kv := by
  unfold State.sendTwin
  refine (foldl_keeps State.kv _ _ fun t p _ => ?_).trans (State.send_kv _ _)
  rw [State.enqueue_kv]
  split
  · exact State.answerRecord_kv _ _ _
  · rfl

/-- A change of control state reaches the partner, and changes nothing of the tables here (R73, R439). -/
@[simp] theorem State.changePartner_kv (s : State) (what : String) (args : List Nat) : (s.changePartner what args).kv = s.kv := by
  unfold State.changePartner
  split
  · exact State.sendTwin_kv _ _ _ _ _
  · rfl

/-! ### Lines (R262, R401, R435) -/

@[simp] theorem State.queueMirror_kv (s : State) (pa shadow tag : Nat) : (s.queueMirror pa shadow tag).kv = s.kv := by
  unfold State.queueMirror
  extract_lets x w _ t
  split
  · exact State.sendTwin_kv t _ _ _ _
  · rfl

@[simp] theorem State.mirrorLine_kv (s : State) (pa : Nat) : (s.mirrorLine pa).kv = s.kv := by
  unfold State.mirrorLine
  split
  · rfl
  · split
    · split
      · exact State.queueMirror_kv _ _ _ _
      · rfl
    · split <;> rfl

@[simp] theorem State.storeLine_kv (s : State) (la : Nat) (x : Side) (kslot tag : Nat) (poison : Bool) (d : List Byte) :
    (s.storeLine la x kslot tag poison d).kv = s.kv := by
  unfold State.storeLine
  simp only
  rw [State.wrote_kv]

@[simp] theorem State.logTag_kv (s : State) (pa expected found : Nat) : (s.logTag pa expected found).kv = s.kv := by
  unfold State.logTag
  simp only [State.setErr_kv]
  split
  · exact State.bump_kv _ _ _
  · rw [State.put_kv, State.put_kv, State.put_kv, State.put_kv, State.bump_kv]

@[simp] theorem State.routeErr_kv (s : State) (r : Route) : (s.routeErr r).kv = s.kv := by
  cases r <;> simp [State.routeErr]

/-- A line's write touches memory, counts, the mirror queue and errors only. -/
@[simp] theorem State.writeLine_kv (s : State) (pa : Nat) (tenant : Option Nat) (kslot : Nat) (poison : Bool) (d : List Byte) (repair : Bool) :
    (s.writeLine pa tenant kslot poison d repair).1.kv = s.kv := by
  unfold State.writeLine
  simp only
  split
  · split
    · rfl
    · split
      · simp
      · split
        · simp
        · split <;> simp
  · simp

end Sys2Proof.Machine
end

section
/-!
A record that is committed (R47, R54, R63, R596), and the sequence commands at their turn (R58 to R62, R164, R168, R169).
-/
namespace Sys2Proof.Machine

@[simp] theorem State.seqAt_setSeq_same (s : State) (slot : Nat) (x : Option Seq) : (s.setSeq slot x).seqAt slot = x := by
  simp [State.seqAt, State.setSeq]

/-! ### A committed record (R54, R63, R596) -/

/-- The sequence once the record of a layer is committed: its new blocks are named, and the layer and the window have moved on. -/
def Seq.committed (q : Seq) (layer : Nat) (plan : List HeadPlan) : Seq :=
  let r := q.addBlocks layer 0 plan
  { r with lens := Tbl.set (fun _ => 0) r.lens layer (q.lenOf layer + 1), windowHead := (r.windowHead + 1) % 2 ^ 32 }

/-- The parts of a sequence that a record's blocks do not touch: layers, committed lengths, window. -/
def Seq.progress (q : Seq) : Nat × Tbl Nat × Nat := (q.layers, q.lens, q.windowHead)

theorem Seq.addBlocks_progress (q : Seq) (layer h : Nat) (plan : List HeadPlan) : (q.addBlocks layer h plan).progress = q.progress := by
  induction plan generalizing q h with
  | nil => rfl
  | cons p plan ih =>
    rw [Seq.addBlocks, ih]
    split <;> rfl

theorem Seq.committed_lenOf (q : Seq) (layer k : Nat) (plan : List HeadPlan) :
    (q.committed layer plan).lenOf k = if k = layer then q.lenOf layer + 1 else q.lenOf k := by
  have hlens : (q.addBlocks layer 0 plan).lens = q.lens := congrArg (fun x => x.2.1) (q.addBlocks_progress layer 0 plan)
  simp only [Seq.committed, Seq.lenOf, Tbl.get_set, hlens]

theorem Seq.committed_windowHead (q : Seq) (layer : Nat) (plan : List HeadPlan) :
    (q.committed layer plan).windowHead = (q.windowHead + 1) % 2 ^ 32 :=
  congrArg (fun x => (x.2.2 + 1) % 2 ^ 32) (q.addBlocks_progress layer 0 plan)

theorem Seq.committed_layers (q : Seq) (layer : Nat) (plan : List HeadPlan) : (q.committed layer plan).layers = q.layers :=
  congrArg (fun x => x.1) (q.addBlocks_progress layer 0 plan)

/-- A record ends with OK in one way: its POS was its layer's committed length, and its sequence has been put back committed. -/
theorem State.ingestOne_of_ok {s t : State} {slot : Nat} {lines : List LineRead} (h : s.ingestOne slot lines = (t, 0)) :
    ∃ (q : Seq) (u : State) (plan : List HeadPlan), s.seqAt slot = some q ∧
      recPos (lines.flatMap (·.data)) = q.lenOf (recLayer (lines.flatMap (·.data))) ∧
      t = u.setSeq slot (some (q.committed (recLayer (lines.flatMap (·.data))) plan)) := by
  unfold State.ingestOne at h
  split at h
  · cases h
  next q hq =>
    extract_lets bs layer pos words gs kv at h
    split_ifs at h with hpoison hrange hdamaged horder hfull hgroups
    iterate 6 · cases h
    split at h
    · cases h
    next u plan _ =>
    split at h
    · cases h
    next u _ =>
    split at h
    · split_ifs at h <;> cases h
    next u k _ =>
      have hpos : pos = q.lenOf layer := not_not.mp horder
      refine ⟨q, u, plan, hq, hpos, ?_⟩
      rw [hpos] at h
      exact (Prod.mk.inj h).1.symm

/-- Settles O37: the one way a record ends with OK, and what a committed sequence reads as. -/
theorem ingestCommitsOneToken : Obligations.IngestCommitsOneToken := by
  unfold Obligations.IngestCommitsOneToken
  intro slot lines s hok layer
  obtain ⟨t, ht⟩ : ∃ t, s.ingestOne slot lines = (t, 0) := ⟨_, Prod.ext_iff.mpr ⟨rfl, hok⟩⟩
  obtain ⟨q, u, plan, hq, hpos, rfl⟩ := State.ingestOne_of_ok ht
  refine ⟨q, q.committed layer plan, hq, by rw [ht]; exact State.seqAt_setSeq_same _ _ _, hpos, ?_, fun k hk => ?_, q.committed_windowHead layer plan,
    q.committed_layers layer plan⟩
  · rw [Seq.committed_lenOf, if_pos rfl]
  · rw [Seq.committed_lenOf, if_neg hk]

/-! ### A command job at its turn (R164, R168, R169) -/

theorem turnOf_eq_some {s : State} {inlet code : Nat} {j : Job} (h : turnOf s inlet code = some j) :
    s.jobs.jobs.find? (fun j => j.inlet == inlet && j.st == .command) = some j ∧ j.desc.source = code ∧ j.decided = false ∧ j.fails = [] := by
  obtain ⟨hfind, hturn⟩ := Option.filter_eq_some_iff.mp h
  obtain ⟨⟨hcode, hdec⟩, hfails⟩ := by simpa using hturn
  exact ⟨hfind, hcode, hdec, hfails⟩

/-- How a decided job ends with its command's answer: with its status, once what it reports has been written to its output area. -/
def commandEnds (j : Job) (ans : List SnoopAnswer) (c : State × CmdResult) : State :=
  match c with
  | (s, r) =>
    if r.out = [] then s.complete j.id r.status r.result
    else if j.desc.outLen < r.out.length then s.complete j.id jsBadParams 0
    else match s.writeOutput j 3 0 r.out [] ans with
      | (s, st) => if st = jsOk then s.complete j.id r.status r.result else s.complete j.id st 0

theorem State.runCommand_of_turn {s : State} {inlet code : Nat} {j : Job} (ans : List SnoopAnswer) (f : State → Job → Inlet → State × CmdResult)
    (h : turnOf s inlet code = some j) :
    let k : Job := { j with decided := true }
    s.runCommand inlet code ans f = commandEnds k ans (f (s.putJob k) k (s.inlet inlet)) := by
  obtain ⟨hfind, hcode, hdec, hfails⟩ := turnOf_eq_some h
  simp only [State.runCommand, hfind]
  rw [if_neg (by simp [hcode, hdec]), if_neg (not_not.mpr hfails)]
  rfl

theorem State.runCommand_of_answer {s : State} {inlet code : Nat} {j : Job} (ans : List SnoopAnswer) (f : State → Job → Inlet → State × CmdResult)
    {c : State × CmdResult} (h : turnOf s inlet code = some j)
    (hc : f (s.putJob { j with decided := true }) { j with decided := true } (s.inlet inlet) = c) :
    s.runCommand inlet code ans f = commandEnds { j with decided := true } ans c :=
  (State.runCommand_of_turn ans f h).trans (congrArg _ hc)

theorem State.runCommand_of_failed {s : State} {inlet code : Nat} {j : Job} (ans : List SnoopAnswer) (f : State → Job → Inlet → State × CmdResult)
    (hfind : s.jobs.jobs.find? (fun j => j.inlet == inlet && j.st == .command) = some j) (hcode : j.desc.source = code) (hdec : j.decided = false)
    (hfails : j.fails ≠ []) : s.runCommand inlet code ans f = s.finishJob j.id ((firstFail j.fails).getD 1) := by
  simp only [State.runCommand, hfind]
  rw [if_neg (by simp [hcode, hdec]), if_pos hfails]
  rfl

section Ends
variable {j : Job} {ans : List SnoopAnswer} {c : State × CmdResult}

theorem commandEnds_of_noReport (h : c.2.out = []) : commandEnds j ans c = c.1.complete j.id c.2.status c.2.result := if_pos h

theorem commandEnds_of_tooLong (hout : c.2.out ≠ []) (h : j.desc.outLen < c.2.out.length) : commandEnds j ans c = c.1.complete j.id 6 0 :=
  (if_neg hout).trans (if_pos h)

theorem commandEnds_of_written (hout : c.2.out ≠ []) (hfits : c.2.out.length ≤ j.desc.outLen) (hw : (c.1.writeOutput j 3 0 c.2.out [] ans).2 = 0) :
    commandEnds j ans c = (c.1.writeOutput j 3 0 c.2.out [] ans).1.complete j.id c.2.status c.2.result :=
  (if_neg hout).trans ((if_neg (Nat.not_lt.mpr hfits)).trans (if_pos hw))

end Ends

/-! ### SEQ_CREATE (R58 to R60) -/

/-- SEQ_CREATE comes to the status of a check that fails, or to an open sequence with an empty window in a slot, and that slot's handle. -/
theorem State.seqCreate_cases (core : Nat) (s : State) (j : Job) (l : Inlet) :
    (∃ (t : State) (st : Nat), st ≠ 0 ∧ State.seqCreate core s j l = (t, .fail st)) ∨
    ∃ (t : State) (slot : Nat) (q : Seq), State.seqCreate core s j l = (t.setSeq slot (some q), { status := 0, result := (t.setSeq slot (some q)).handleOf slot }) ∧
      q.tenant = l.tenant ∧ q.client = l.owner ∧ q.asid = l.asid ∧ q.shut = false ∧ q.windowHead = 0 := by
  unfold State.seqCreate
  extract_lets p layers heads hdim fmt hint maxT va slots key ver reserved rangesOk bytes
  split
  · exact .inl ⟨_, _, by decide, rfl⟩
  split
  next u e _ => exact .inl ⟨_, _, by decide, rfl⟩
  next u e _ =>
    split
    · exact .inl ⟨_, _, by decide, rfl⟩
    next b _ =>
      extract_lets base
      split
      · exact .inl ⟨_, _, by decide, rfl⟩
      split
      · exact .inl ⟨_, _, by decide, rfl⟩
      split
      · exact .inl ⟨_, _, by decide, rfl⟩
      split
      · exact .inl ⟨_, _, by decide, rfl⟩
      · exact .inr ⟨_, _, _, rfl, rfl, rfl, rfl, rfl, rfl⟩

/-- At its turn SEQ_CREATE completes with its status: with OK and the new slot's handle, or with that of its first failing check. -/
theorem exec_seqCreate_of_turn {inlet : BitVec 12} (core : Fin 4) {j : Job} {s : State} (h : turnOf s inlet.toNat 1 = some j) :
    let l := s.inlet inlet.toNat
    let k : Job := { j with decided := true }
    let r := State.seqCreate core.val (s.putJob k) k l
    (r.2.status = 0 → ∃ slot q, exec (.seqCreate inlet core) s = .next (r.1.complete k.id 0 (r.1.handleOf slot)) ∧ r.1.seqAt slot = some q ∧
      q.tenant = l.tenant ∧ q.client = l.owner ∧ q.asid = l.asid ∧ q.shut = false ∧ q.windowHead = 0) ∧
    (r.2.status ≠ 0 → exec (.seqCreate inlet core) s = .next (r.1.complete k.id r.2.status 0)) := by
  intro l k r
  have hexec : exec (.seqCreate inlet core) s = .next (commandEnds k [] r) := congrArg _ (State.runCommand_of_turn [] _ h)
  rw [hexec]
  obtain ⟨t, st, hst, hr⟩ | ⟨t, slot, q, hr, hq⟩ := State.seqCreate_cases core.val (s.putJob k) k l
  · rw [show r = _ from hr]
    exact ⟨fun h0 => absurd h0 hst, fun _ => rfl⟩
  · rw [show r = _ from hr]
    exact ⟨fun _ => ⟨slot, q, rfl, State.seqAt_setSeq_same _ _ _, hq⟩, fun h0 => absurd rfl h0⟩

/-! ### SEQ_DESTROY (R62) -/

/-- SEQ_DESTROY of a handle: its slot is marked closing, or no slot of the tenant has it. -/
def State.seqDestroy (s : State) (j : Job) (l : Inlet) : State × CmdResult :=
  match s.findSeq l.tenant (j.param 0 4) with
  | none => (s, .fail jsSeqNotFound)
  | some (slot, _) => (s.closeSeq slot, { status := jsOk })

theorem exec_seqDestroy (inlet : BitVec 12) (s : State) :
    exec (.seqDestroy inlet) s = .next (s.runCommand inlet.toNat 2 [] State.seqDestroy) := rfl

theorem State.seqDestroy_of_found {s : State} {j : Job} {l : Inlet} {slot : Nat} {q : Seq} (h : s.findSeq l.tenant (j.param 0 4) = some (slot, q)) :
    s.seqDestroy j l = (s.closeSeq slot, { status := 0 }) := by
  simp only [State.seqDestroy, h]
  rfl

theorem State.seqDestroy_of_none {s : State} {j : Job} {l : Inlet} (h : s.findSeq l.tenant (j.param 0 4) = none) :
    s.seqDestroy j l = (s, .fail 0x20) := by
  simp only [State.seqDestroy, h]
  rfl

/-! ### SEQ_QUERY (R169) -/

/-- SEQ_QUERY of a handle: the sequence's report. -/
def State.seqQuery (s : State) (j : Job) (l : Inlet) : State × CmdResult :=
  match s.findSeq l.tenant (j.param 0 4) with
  | none => (s, .fail jsSeqNotFound)
  | some (_, q) => (s, { status := jsOk, result := 64 + 8 * q.layers, out := s.seqReport q })

theorem exec_seqQuery (inlet : BitVec 12) (ans : List SnoopAnswer) (s : State) :
    exec (.seqQuery inlet ans) s = .next (s.runCommand inlet.toNat 3 ans State.seqQuery) := rfl

theorem State.seqQuery_of_found {s : State} {j : Job} {l : Inlet} {slot : Nat} {q : Seq} (h : s.findSeq l.tenant (j.param 0 4) = some (slot, q)) :
    s.seqQuery j l = (s, { status := 0, result := 64 + 8 * q.layers, out := s.seqReport q }) := by
  simp only [State.seqQuery, h]
  rfl

theorem State.seqReport_ne_nil (s : State) (q : Seq) : s.seqReport q ≠ [] := by
  simp [State.seqReport, leBytes]

/-- Settles O39: what each command answers at its turn, and how a command job ends with that answer. -/
theorem sequenceCommands : Obligations.SequenceCommands := by
  unfold Obligations.SequenceCommands
  refine ⟨fun inlet core j s h => exec_seqCreate_of_turn core h, fun inlet j s h => ⟨fun slot q hq => ?_, fun hnone => ?_⟩,
    fun inlet ans j slot q s h => ?_, fun inlet j s hfind hcode hdec hfails => ?_⟩
  · rw [exec_seqDestroy, State.runCommand_of_answer [] State.seqDestroy h (State.seqDestroy_of_found hq), commandEnds_of_noReport rfl]
  · rw [exec_seqDestroy, State.runCommand_of_answer [] State.seqDestroy h (State.seqDestroy_of_none hnone)]
    exact congrArg _ (commandEnds_of_noReport rfl)
  · intro l k u w hq
    rw [exec_seqQuery, State.runCommand_of_answer ans State.seqQuery h (State.seqQuery_of_found hq)]
    exact ⟨fun hfits hw => congrArg _ (commandEnds_of_written (u.seqReport_ne_nil q) hfits hw),
      fun hlong => congrArg _ (commandEnds_of_tooLong (u.seqReport_ne_nil q) hlong)⟩
  · rw [exec_seqDestroy, State.runCommand_of_failed [] _ hfind hcode hdec hfails]

end Sys2Proof.Machine
end

section
/-!
The region commands at their turn (R64 to R73, R164, R168, R169).
-/
namespace Sys2Proof.Machine

/-! ### The region table (R64) -/

@[simp] theorem State.setBlk_regions (s : State) (b : Nat) (x : Option KvBlk) : (s.setBlk b x).kv.regions = s.kv.regions := (rfl)

theorem State.region_congr {s t : State} (h : s.kv.regions = t.kv.regions) (tenant key : Nat) : s.region tenant key = t.region tenant key := by
  simp only [State.region, h]

/-- Where a list holds an element with a property, one found after all such elements are replaced by one with it is that one. -/
theorem find?_map_replace {α : Type} {p : α → Bool} {r : α} (hr : p r = true) (l : List α) (h : l.any p = true) :
    (l.map (fun x => if p x then r else x)).find? p = some r := by
  induction l with
  | nil => cases h
  | cons x l ih =>
    by_cases hx : p x = true
    · simp [hx, hr]
    · simp [hx, ih (by simpa [hx] using h)]

/-- A region reads back as it was put. -/
theorem State.region_putRegion_same (s : State) (r : Region) : (s.putRegion r).region r.tenant r.key = some r := by
  have hr : (r.tenant == r.tenant && r.key == r.key) = true := by simp
  simp only [State.region, State.putRegion]
  split
  next h => exact find?_map_replace (p := fun (x : Region) => x.tenant == r.tenant && x.key == r.key) hr _ h
  next h =>
    have hnone : s.kv.regions.find? (fun x => x.tenant == r.tenant && x.key == r.key) = none := by simpa using h
    rw [List.find?_append, hnone]
    simp

theorem State.name_of_region {s : State} {tenant key : Nat} {r : Region} (h : s.region tenant key = some r) : r.tenant = tenant ∧ r.key = key := by
  simpa using List.find?_some h

/-- The region a publication adds its version to: the one that stands, or a new one with no version (R66). -/
def State.regionFor (s : State) (tenant key : Nat) : Region := (s.region tenant key).getD { tenant := tenant, key := key, current := 0, versions := [] }

theorem State.name_of_regionFor (s : State) (tenant key : Nat) : (s.regionFor tenant key).tenant = tenant ∧ (s.regionFor tenant key).key = key := by
  unfold State.regionFor
  rcases h : s.region tenant key with _ | r
  · exact ⟨rfl, rfl⟩
  · exact State.name_of_region h

/-! ### REGION_PUBLISH (R65 to R67) -/

/-- Marking a block shared changes no region. -/
theorem State.shareBlock_regions (s : State) (tenant x : Nat) : (s.shareBlock tenant x).kv.regions = s.kv.regions := by
  unfold State.shareBlock
  split
  · rfl
  · rw [State.setBlk_regions, State.writeLine_kv]

/-- The last steps of a publication: the version's blocks are marked shared, and the partner takes it where its basin is Mirrored (R65, R73). -/
def State.installed (s : State) (tenant key n basin : Nat) (blocks : List Nat) : State :=
  let s := blocks.foldl (fun s b => s.shareBlock tenant b) s
  if s.mirroredBasin basin then s.changePartner "INSTALL" [tenant, key, n] else s

theorem State.installed_regions (s : State) (tenant key n basin : Nat) (blocks : List Nat) :
    (s.installed tenant key n basin blocks).kv.regions = s.kv.regions := by
  have hfold : (blocks.foldl (fun s b => s.shareBlock tenant b) s).kv.regions = s.kv.regions :=
    foldl_keeps (fun t : State => t.kv.regions) _ _ (fun t b _ => t.shareBlock_regions tenant b)
  unfold State.installed
  extract_lets t
  split
  · rw [State.changePartner_kv, hfold]
  · exact hfold

/-- REGION_PUBLISH comes to the status of a check that fails, or installs its version, current, in its region. -/
theorem State.regionPublish_cases (s : State) (j : Job) (l : Inlet) :
    (∃ (t : State) (st n : Nat), st ≠ 0 ∧ State.regionPublish s j l = (t, { status := st, result := n })) ∨
    ∃ (t : State) (reg : Region) (v : Version), State.regionPublish s j l = (t, { status := 0, result := j.param 12 4 + 1 }) ∧
      t.region l.tenant (j.param 0 8) = some reg ∧ reg.current = j.param 12 4 + 1 ∧ v ∈ reg.versions ∧ v.number = j.param 12 4 + 1 ∧
      v.tokens = j.param 16 8 ∧ v.retired = false := by
  unfold State.regionPublish
  extract_lets key x n ttl kv
  split
  · exact .inl ⟨_, _, _, by decide, rfl⟩
  split
  · exact .inl ⟨_, _, _, by decide, rfl⟩
  next slot q _ =>
    split
    · exact .inl ⟨_, _, _, by decide, rfl⟩
    split
    · exact .inl ⟨_, _, _, by decide, rfl⟩
    next t tbl _ =>
      extract_lets r undo v put shared told
      split
      · exact .inl ⟨_, _, _, by decide, rfl⟩
      split
      · exact .inl ⟨_, _, _, by decide, rfl⟩
      split
      · exact .inl ⟨_, _, _, by decide, rfl⟩
      split
      · exact .inl ⟨_, _, _, by decide, rfl⟩
      · obtain ⟨htenant, hkey⟩ : r.tenant = l.tenant ∧ r.key = key := State.name_of_regionFor t l.tenant key
        refine .inr ⟨_, { r with current := x + 1, versions := r.versions ++ [v], idle := 0, basin := q.basin }, v, rfl, ?_,
          rfl, List.mem_append_right _ (List.mem_singleton.mpr rfl), rfl, rfl, rfl⟩
        have htold : told = put.installed l.tenant key (x + 1) q.basin (tableBlocks tbl) := rfl
        rw [htold, State.region_congr (State.installed_regions _ _ _ _ _ _), ← htenant, show j.param 0 8 = r.key from hkey.symm]
        exact State.region_putRegion_same t _

/-- At its turn REGION_PUBLISH completes with the version it has installed, or with the status of its first failing check. -/
theorem exec_regionPublish_of_turn {inlet : BitVec 12} {j : Job} {s : State} (h : turnOf s inlet.toNat 0x10 = some j) :
    let l := s.inlet inlet.toNat
    let k : Job := { j with decided := true }
    let r := State.regionPublish (s.putJob k) k l
    (r.2.status = 0 → ∃ reg v, exec (.regionPublish inlet) s = .next (r.1.complete k.id 0 (j.param 12 4 + 1)) ∧ r.1.region l.tenant (j.param 0 8) = some reg ∧
      reg.current = j.param 12 4 + 1 ∧ v ∈ reg.versions ∧ v.number = j.param 12 4 + 1 ∧ v.tokens = j.param 16 8 ∧ v.retired = false) ∧
    (r.2.status ≠ 0 → exec (.regionPublish inlet) s = .next (r.1.complete k.id r.2.status r.2.result)) := by
  intro l k r
  have hexec : exec (.regionPublish inlet) s = .next (commandEnds k [] r) := congrArg _ (State.runCommand_of_turn [] _ h)
  rw [hexec]
  obtain ⟨t, st, n, hst, hr⟩ | ⟨t, reg, v, hr, hv⟩ := State.regionPublish_cases (s.putJob k) k l
  · rw [show r = _ from hr]
    exact ⟨fun h0 => absurd h0 hst, fun _ => rfl⟩
  · rw [show r = _ from hr]
    exact ⟨fun _ => ⟨reg, v, rfl, hv⟩, fun h0 => absurd rfl h0⟩

/-! ### REGION_PIN and REGION_UNPIN (R68) -/

/-- The version a REGION_PIN asks for: 0 is the region's current one. -/
def State.askedVersion (s : State) (j : Job) (l : Inlet) : Nat :=
  if j.param 8 4 = 0 then (s.region l.tenant (j.param 0 8)).elim 0 (·.current) else j.param 8 4

theorem exec_regionPin (inlet : BitVec 12) (s : State) :
    exec (.regionPin inlet) s = .next (s.runCommand inlet.toNat 0x11 [] State.regionPin) := rfl

/-- How often the client holds the version it asks for. -/
def State.askedPins (s : State) (j : Job) (l : Inlet) : Nat := s.pinCount l.owner l.tenant (j.param 0 8) (s.askedVersion j l)

section Pins
variable {s : State} {j : Job} {l : Inlet}

theorem State.regionPin_of_live (h : (s.liveVersion l.tenant (j.param 0 8) (s.askedVersion j l)).toOption.isSome = true) :
    State.regionPin s j l =
      if 65535 ≤ s.askedPins j l ∨ (s.askedPins j l = 0 ∧ 262144 ≤ s.kv.pins.length) then (s, .fail 0x37)
      else (s.setPin l.owner l.tenant (j.param 0 8) (s.askedVersion j l) (s.askedPins j l + 1), { status := 0, result := s.askedVersion j l }) := by
  rcases hv : s.liveVersion l.tenant (j.param 0 8) (s.askedVersion j l) with e | x
  · rw [hv] at h
    cases h
  · unfold State.askedVersion at hv
    simp only [State.regionPin, hv]
    rfl

theorem State.regionPin_of_room (hlive : (s.liveVersion l.tenant (j.param 0 8) (s.askedVersion j l)).toOption.isSome = true)
    (hn : s.askedPins j l < 65535) (hroom : s.askedPins j l ≠ 0 ∨ s.kv.pins.length < 262144) :
    State.regionPin s j l =
      (s.setPin l.owner l.tenant (j.param 0 8) (s.askedVersion j l) (s.askedPins j l + 1), { status := 0, result := s.askedVersion j l }) :=
  (State.regionPin_of_live hlive).trans (if_neg (by omega))

theorem State.regionPin_of_full (hlive : (s.liveVersion l.tenant (j.param 0 8) (s.askedVersion j l)).toOption.isSome = true)
    (hn : s.askedPins j l = 65535) : State.regionPin s j l = (s, .fail 0x37) :=
  (State.regionPin_of_live hlive).trans (if_pos (.inl hn.ge))

/-- REGION_UNPIN: one pin of the client less. -/
def State.regionUnpin (s : State) (j : Job) (l : Inlet) : State × CmdResult :=
  let key := j.param 0 8
  let ver := j.param 8 4
  let n := s.pinCount l.owner l.tenant key ver
  if key = 0 then (s, .fail jsBadParams)
  else if n = 0 then (s, .fail jsNotPinned)
  else (s.setPin l.owner l.tenant key ver (n - 1), { status := jsOk })

theorem exec_regionUnpin (inlet : BitVec 12) (s : State) :
    exec (.regionUnpin inlet) s = .next (s.runCommand inlet.toNat 0x12 [] State.regionUnpin) := rfl

theorem State.regionUnpin_of_pinned (hkey : j.param 0 8 ≠ 0) {n : Nat} (hcount : s.pinCount l.owner l.tenant (j.param 0 8) (j.param 8 4) = n)
    (hn : n ≠ 0) : s.regionUnpin j l = (s.setPin l.owner l.tenant (j.param 0 8) (j.param 8 4) (n - 1), { status := 0 }) := by
  subst hcount
  exact (if_neg hkey).trans (if_neg hn)

theorem State.regionUnpin_of_unpinned (hkey : j.param 0 8 ≠ 0) (h : s.pinCount l.owner l.tenant (j.param 0 8) (j.param 8 4) = 0) :
    s.regionUnpin j l = (s, .fail 0x38) :=
  (if_neg hkey).trans (if_pos h)

end Pins

/-! ### REGION_DROP (R71, R73) -/

/-- A version whose time-to-live is over at once, and the partner told of it where its basin is Mirrored. -/
def State.dropped (s : State) (tenant : Nat) (r : Region) (v : Version) : State :=
  let s := s.putRegion { r with versions := r.versions.map (fun (w : Version) => if w.number = v.number then { w with left := some 0 } else w) }
  if s.mirroredBasin v.basin then s.changePartner "DROP" [tenant, r.key, v.number] else s

theorem exec_regionDrop (inlet : BitVec 12) (s : State) :
    exec (.regionDrop inlet) s = .next (s.runCommand inlet.toNat 0x13 [] State.regionDrop) := rfl

theorem State.regionDrop_of_live {s : State} {j : Job} {l : Inlet} {r : Region} {v : Version}
    (h : (s.liveVersion l.tenant (j.param 0 8) (j.param 8 4)).toOption = some (r, v)) :
    State.regionDrop s j l = (s.dropped l.tenant r v, { status := 0 }) := by
  rcases hv : s.liveVersion l.tenant (j.param 0 8) (j.param 8 4) with e | x
  · rw [hv] at h
    cases h
  · rw [hv] at h
    obtain rfl : x = (r, v) := Option.some.inj h
    simp only [State.regionDrop, hv]
    rfl

/-! ### REGION_QUERY (R77, R169) -/

theorem insertBy_length {α : Type} (key : α → Nat) (x : α) (l : List α) : (insertBy key x l).length = l.length + 1 := by
  induction l with
  | nil => rfl
  | cons y l ih =>
    rw [insertBy]
    split
    · rfl
    · simp [ih]

@[simp] theorem sortBy_length {α : Type} (key : α → Nat) (l : List α) : (sortBy key l).length = l.length := by
  have hfold : ∀ acc : List α, (l.foldl (fun acc x => insertBy key x acc) acc).length = acc.length + l.length := by
    induction l with
    | nil => exact fun _ => rfl
    | cons x l ih =>
      intro acc
      rw [List.foldl_cons, ih, insertBy_length, List.length_cons, Nat.add_right_comm, Nat.add_assoc]
  simpa [sortBy] using hfold []

/-- A report has 64 bytes of the region and 32 of each live version. -/
theorem State.regionReport_length (s : State) (r : Region) : (s.regionReport r).length = 64 + 32 * r.live.length := by
  simp [State.regionReport, zeros, List.length_flatMap]
  omega

theorem State.regionReport_ne_nil (s : State) (r : Region) : s.regionReport r ≠ [] := by
  simp [State.regionReport, leBytes]

/-- REGION_QUERY of a key: the region's report, and its blocks of each tier told beside it when the report has room. -/
def State.regionQuery (s : State) (j : Job) (l : Inlet) : State × CmdResult :=
  if j.param 0 8 = 0 then (s, .fail jsBadParams)
  else match s.region l.tenant (j.param 0 8) with
    | none => (s, .fail jsRegionNotFound)
    | some r =>
      let n := 64 + 32 * r.live.length
      (if j.desc.outLen < n then s else s.send (.result "REGION_TIERS" (s.regionTiers r)), { status := jsOk, result := n, out := s.regionReport r })

theorem exec_regionQuery (inlet : BitVec 12) (ans : List SnoopAnswer) (s : State) :
    exec (.regionQuery inlet ans) s = .next (s.runCommand inlet.toNat 0x14 ans State.regionQuery) := rfl

theorem State.regionQuery_of_found {s : State} {j : Job} {l : Inlet} {r : Region} (hkey : j.param 0 8 ≠ 0) (h : s.region l.tenant (j.param 0 8) = some r)
    (hfits : 64 + 32 * r.live.length ≤ j.desc.outLen) :
    s.regionQuery j l = (s.send (.result "REGION_TIERS" (s.regionTiers r)), { status := 0, result := 64 + 32 * r.live.length, out := s.regionReport r }) := by
  simp only [State.regionQuery, if_neg hkey, h, if_neg (Nat.not_lt.mpr hfits)]
  rfl

/-- Settles O40: what each command answers at its turn, and how a command job ends with that answer. -/
theorem regionCommands : Obligations.RegionCommands := by
  unfold Obligations.RegionCommands
  refine ⟨fun inlet j s h => exec_regionPublish_of_turn h, fun inlet j s h => ?_, fun inlet j s h => ?_, fun inlet j r v s h => ?_,
    fun inlet ans j r s h => ?_⟩
  · intro l k u key ver n
    refine ⟨fun hlive hn hroom => ?_, fun hlive hn => ?_⟩
    · rw [exec_regionPin, State.runCommand_of_answer [] State.regionPin h (State.regionPin_of_room hlive hn hroom)]
      exact congrArg _ (commandEnds_of_noReport rfl)
    · rw [exec_regionPin, State.runCommand_of_answer [] State.regionPin h (State.regionPin_of_full hlive hn)]
      exact congrArg _ (commandEnds_of_noReport rfl)
  · intro l k u n
    refine ⟨fun hkey hn => ?_, fun hkey hn => ?_⟩
    · rw [exec_regionUnpin, State.runCommand_of_answer [] State.regionUnpin h (State.regionUnpin_of_pinned hkey rfl hn)]
      exact congrArg _ (commandEnds_of_noReport rfl)
    · rw [exec_regionUnpin, State.runCommand_of_answer [] State.regionUnpin h (State.regionUnpin_of_unpinned hkey hn)]
      exact congrArg _ (commandEnds_of_noReport rfl)
  · intro l k u hv t
    rw [exec_regionDrop, State.runCommand_of_answer [] State.regionDrop h (State.regionDrop_of_live hv)]
    exact congrArg _ (commandEnds_of_noReport rfl)
  · intro l k u w hkey hr hfits hw
    rw [exec_regionQuery, State.runCommand_of_answer ans State.regionQuery h (State.regionQuery_of_found hkey hr hfits)]
    exact congrArg _ (commandEnds_of_written (u.regionReport_ne_nil r) ((u.regionReport_length r).trans_le hfits) hw)

end Sys2Proof.Machine
end

section
/-!
How a bundle of Chotaum-T issues (R81, R104, R113, R143 to R146, R157).
-/
namespace Sys2Proof.Machine

/-- What the slots of a bundle come to, S to C. -/
def slotResults (e : TEnv) (b : Bundle) : List (Nat × TRes) := [(0, evalS e b.s), (1, evalV e b.v), (2, evalM e b.m), (3, evalC e b.c)]

/-- No slot of a bundle is one that R143 calls illegal. -/
abbrev slotsLegal (b : Bundle) : Prop := b.s ≠ .bad ∧ b.v ≠ .bad ∧ b.m ≠ .bad ∧ b.c ≠ .bad

theorem envOf_eq_some {s : State} {t : Nat} {e : TEnv} (h : envOf s t = some e) :
    s.islandStopped t = false ∧ (s.tarn t).run = some e.r ∧ s.job e.r.job = some e.j ∧
      e = { x := s.tarn t, quad := t / 25, r := e.r, j := e.j, fresh := s.fresh } := by
  unfold envOf at h
  split at h
  · cases h
  next hstop =>
    simp only [Option.bind_eq_some_iff, Option.map_eq_some_iff] at h
    obtain ⟨r, hr, j, hj, rfl⟩ := h
    exact ⟨by simpa using hstop, hr, hj, rfl⟩

/-- The slots of a bundle see the Tarn, its quadrant and the next free value beside the program and its job. -/
theorem eq_of_envOf {s : State} {t : Nat} {e : TEnv} (h : envOf s t = some e) :
    e = { x := e.x, quad := t / 25, r := e.r, j := e.j, fresh := s.fresh } := by
  obtain ⟨-, -, -, he⟩ := envOf_eq_some h
  rw [he]

theorem State.issue_of_noEnv {s : State} {t : Nat} (b : Bundle) (h : envOf s t = none) : s.issue t b = s := by
  simp only [State.issue]
  split
  · rfl
  next r hr =>
    have hrun : s.islandStopped t = false ∧ (s.tarn t).run = some r := by simpa using hr
    have hjob : s.job r.job = none := by simpa [envOf, hrun] using h
    simp only [hjob]

/-! ### The error that a bundle's memories show (R81, R104, R113) -/

/-- The state once a bundle's error has been counted, if it was corrected (R81). -/
def State.eccCounted (s : State) (t : Nat) (b : Bundle) : State := if b.ecc = .corrected then s.bump (R.TARN_CNT_SRAM_CE t) else s

theorem State.eccCounted_fresh (s : State) (t : Nat) (b : Bundle) : (s.eccCounted t b).fresh = s.fresh := by
  unfold State.eccCounted
  split <;> rfl

section Ecc
variable {s : State} {t : Nat} {e : TEnv} {b : Bundle} (h : envOf s t = some e)
include h

theorem run_of_envOf : (if s.islandStopped t then none else (s.tarn t).run) = some e.r := by
  obtain ⟨hstop, hrun, -, -⟩ := envOf_eq_some h
  rw [hstop, hrun]
  rfl

theorem State.issue_of_sramUe (hecc : b.ecc = .sram) : s.issue t b = (s.faultTarn t).setErr (R.TARN_ERR t) F.TARN_ERR_SRAM_UE := by
  obtain ⟨-, -, hjob, -⟩ := envOf_eq_some h
  simp only [State.issue, run_of_envOf h, hjob, hecc]

theorem State.issue_of_pmemUe (hecc : b.ecc = .pmem) : s.issue t b = (s.faultTarn t).setErr (R.TARN_ERR t) F.TARN_ERR_PMEM_UE := by
  obtain ⟨-, -, hjob, -⟩ := envOf_eq_some h
  simp only [State.issue, run_of_envOf h, hjob, hecc]

theorem State.issue_of_sound (hsound : b.ecc = .ok ∨ b.ecc = .corrected) : s.issue t b = (s.eccCounted t b).issueOk t e.r e.j e.x b := by
  obtain ⟨-, -, hjob, he⟩ := envOf_eq_some h
  have hx : e.x = s.tarn t := congrArg TEnv.x he
  rcases hsound with hecc | hecc <;> simp [State.issue, run_of_envOf h, hjob, hecc, hx, State.eccCounted]

end Ecc

/-! ### A bundle whose memories show no uncorrectable error (R145, R157) -/

section Sound
variable {s : State} {t : Nat} {r : TRun} {j : Job} {x : Tarn} {b : Bundle}

theorem State.issueOk_of_failing (h : r.failing.isSome = true) : s.issueOk t r j x b = s := if_pos h

variable (hlive : r.failing = none)
include hlive

theorem State.issueOk_of_pastMemory (hpc : 4096 ≤ r.pc) : s.issueOk t r j x b = s.progExc t r 0x03 3 :=
  (if_neg (by simp [hlive])).trans (if_pos hpc)

variable (hpc : r.pc < 4096) {e : TEnv} (he : e = { x := x, quad := t / 25, r := r, j := j, fresh := s.fresh })
include hpc he

/-- A bundle below the end of program memory waits, raises an exception, or issues, as its slots say. -/
theorem State.issueOk_of_live :
    s.issueOk t r j x b =
      if slotsLegal b ∧ ∃ p ∈ slotResults e b, p.2 = .stall then s
      else match firstExc (slotResults e b) with
        | some (i, c, k) => s.progExc t r c i k
        | none =>
          match evalS e b.s, evalC e b.c with
          | .eff f, .eff g => if conflict f g then s.progExc t r 0x02 3 else s.issued t r j x b.answers (effects (slotResults e b))
          | _, _ => s.issued t r j x b.answers (effects (slotResults e b)) := by
  subst he
  have hwait : (!(b.s == .bad || b.v == .bad || b.m == .bad || b.c == .bad) &&
      (slotResults { x := x, quad := t / 25, r := r, j := j, fresh := s.fresh } b).any (fun p => p.2 == .stall)) = true ↔
      slotsLegal b ∧ ∃ p ∈ slotResults { x := x, quad := t / 25, r := r, j := j, fresh := s.fresh } b, p.2 = .stall := by
    simp [slotsLegal, and_assoc]
  unfold State.issueOk
  rw [if_neg (by simp [hlive]), if_neg (Nat.not_le.mpr hpc)]
  exact ite_congr (propext hwait) (fun _ => rfl) (fun _ => rfl)

theorem State.issueOk_of_stall (hlegal : slotsLegal b) (hstall : ∃ p ∈ slotResults e b, p.2 = .stall) : s.issueOk t r j x b = s := by
  rw [State.issueOk_of_live hlive hpc he, if_pos ⟨hlegal, hstall⟩]

theorem State.issueOk_of_exc {i c k : Nat} (hgo : ¬ slotsLegal b ∨ ∀ p ∈ slotResults e b, p.2 ≠ .stall)
    (hexc : firstExc (slotResults e b) = some (i, c, k)) : s.issueOk t r j x b = s.progExc t r c i k := by
  have hnowait : ¬ (slotsLegal b ∧ ∃ p ∈ slotResults e b, p.2 = .stall) := by
    rintro ⟨hlegal, p, hp, hstall⟩
    exact hgo.elim (fun h => h hlegal) (fun h => h p hp hstall)
  rw [State.issueOk_of_live hlive hpc he, if_neg hnowait, hexc]

theorem State.issueOk_of_effects {f g m k : TEff} (hs : evalS e b.s = .eff f) (hv : evalV e b.v = .eff g) (hm : evalM e b.m = .eff m)
    (hc : evalC e b.c = .eff k) :
    s.issueOk t r j x b = if conflict f k then s.progExc t r 0x02 3 else s.issued t r j x b.answers [f, g, m, k] := by
  have hslots : slotResults e b = [(0, .eff f), (1, .eff g), (2, .eff m), (3, .eff k)] := by rw [slotResults, hs, hv, hm, hc]
  have hnowait : ¬ (slotsLegal b ∧ ∃ p ∈ slotResults e b, p.2 = .stall) := by simp [hslots]
  rw [State.issueOk_of_live hlive hpc he, if_neg hnowait, hslots, hs, hc]
  rfl

end Sound

/-! ### Every bundle -/

theorem State.bundleRule_issue (s : State) (t : Nat) (b : Bundle) : BundleRule s t b (.next (s.issue t b)) := by
  refine ⟨fun h => congrArg _ (State.issue_of_noEnv b h), fun e he => ?_⟩
  have henv : e = { x := e.x, quad := t / 25, r := e.r, j := e.j, fresh := (s.eccCounted t b).fresh } := by
    rw [State.eccCounted_fresh]
    exact eq_of_envOf he
  refine ⟨fun hecc => ?_, fun hecc => ?_, fun hsound hfail => ?_, fun hsound hlive hpc => ?_, fun hsound hlive hpc => ?_⟩
  · rw [State.issue_of_sramUe he hecc]
  · rw [State.issue_of_pmemUe he hecc]
  · rw [State.issue_of_sound he hsound, State.issueOk_of_failing hfail]
    rfl
  · rw [State.issue_of_sound he hsound, State.issueOk_of_pastMemory hlive hpc]
    rfl
  rw [State.issue_of_sound he hsound]
  refine ⟨fun f g m k hs hv hm hc => ?_, fun hlegal hstall => ?_, fun i c k hexc hgo => ?_⟩
  · rw [State.issueOk_of_effects hlive hpc henv hs hv hm hc]
    exact ⟨fun hfree => congrArg _ (if_neg (by simp [hfree])), fun hclash => congrArg _ (if_pos hclash)⟩
  · exact congrArg _ (State.issueOk_of_stall hlive hpc henv hlegal hstall)
  · exact congrArg _ (State.issueOk_of_exc hlive hpc henv hgo hexc)

/-- A bundle whose S slot is illegal raises ILLEGAL there, whatever its other slots are: no slot is lower. -/
theorem State.issue_of_badS {s : State} {t : Nat} {e : TEnv} {b : Bundle} (h : envOf s t = some e) (hlive : e.r.failing = none) (hpc : e.r.pc < 4096)
    (hecc : b.ecc = .ok) (hbad : b.s = .bad) : s.issue t b = s.progExc t e.r 0x01 0 := by
  have hexc : firstExc (slotResults e b) = some (0, 0x01, 0) := by rw [slotResults, hbad]; rfl
  rw [State.issue_of_sound h (.inl hecc), State.eccCounted, if_neg (by simp [hecc])]
  exact State.issueOk_of_exc hlive hpc (eq_of_envOf h) (.inl (fun ⟨hs, _⟩ => hs hbad)) hexc

theorem exec_illegalSlot {tarn : Fin 100} {word : BitVec 128} {s : State}
    (h : let b := decodeBundle word.toNat; b.s = .bad ∨ b.v = .bad ∨ b.m = .bad ∨ b.c = .bad) :
    exec (.illegalSlot tarn word) s = .next (s.issue tarn (decodeBundle word.toNat)) := if_pos h

/-- Settles O42: every row is a bundle at its Tarn, ILLEGAL_SLOT the one that its word encodes. -/
theorem tarnBundlesIssue : Obligations.TarnBundlesIssue := by
  unfold Obligations.TarnBundlesIssue
  refine ⟨?_, ?_, ?_, ?_, ?_, ?_, ?_, ?_, ?_, ?_, ?_, ?_, ?_, ?_, ?_, ?_, ?_, ?_, ?_, ?_, ?_, ?_, ?_, ?_, ?_, ?_, ?_, ?_, ?_, ?_, ?_, ?_,
    fun tarn word s => ⟨fun hbad => ?_, fun e he hlive hpc hbad => ?_⟩⟩
  case refine_33 =>
    rw [exec_illegalSlot hbad]
    exact State.bundleRule_issue s tarn _
  case refine_34 =>
    rw [exec_illegalSlot (.inl hbad), State.issue_of_badS he hlive hpc rfl hbad]
  all_goals
    intros
    exact State.bundleRule_issue _ _ _

end Sys2Proof.Machine
end

section
/-!
Tarns in and out of service (R104 to R108, R111, R116).
-/
namespace Sys2Proof.Machine

/-! ### A Tarn beside its registers -/

theorem State.tarn_setTarn (s : State) (t k : Nat) (x : Tarn) : (s.setTarn t x).tarn k = if k = t then x else s.tarn k :=
  Tbl.get_set _ _ _ _ _

@[simp] theorem State.tarn_setTarn_same (s : State) (t : Nat) (x : Tarn) : (s.setTarn t x).tarn t = x := Tbl.get_set_same _ _ _ _

@[simp] theorem State.tarn_setReg (s : State) (o : Nat) (v : BitVec 64) (k : Nat) : (s.setReg o v).tarn k = s.tarn k := (rfl)
@[simp] theorem State.tarn_put (s : State) (o : Nat) (f : Fld) (v k : Nat) : (s.put o f v).tarn k = s.tarn k := (rfl)
@[simp] theorem State.tarn_putFlag (s : State) (o : Nat) (f : Fld) (b : Bool) (k : Nat) : (s.putFlag o f b).tarn k = s.tarn k := (rfl)
@[simp] theorem State.tarn_setTarnState (s : State) (t v k : Nat) : (s.setTarnState t v).tarn k = s.tarn k := State.tarn_put _ _ _ _ _
@[simp] theorem State.tarn_putRoles (s : State) (t role en2 role2 k : Nat) : (s.putRoles t role en2 role2).tarn k = s.tarn k := by
  simp only [State.putRoles, State.tarn_put]

@[simp] theorem State.get_setTarn (s : State) (t : Nat) (x : Tarn) (o : Nat) (f : Fld) : (s.setTarn t x).get o f = s.get o f := (rfl)
@[simp] theorem State.tarnFaulted_setTarn (s : State) (t : Nat) (x : Tarn) (k : Nat) : (s.setTarn t x).tarnFaulted k = s.tarnFaulted k := (rfl)
@[simp] theorem State.tarnState_setTarn (s : State) (t : Nat) (x : Tarn) (k : Nat) : (s.setTarn t x).tarnState k = s.tarnState k := (rfl)

/-! ### TARN_CTRL and TARN_STATUS (R111, R112) -/

theorem tarnCtrl_ne_tarnStatus (k t : Nat) : R.TARN_CTRL k ≠ R.TARN_STATUS t := by
  simp only [R.TARN_CTRL, R.TARN_STATUS, R.TARN_BASE]
  omega

theorem State.flag_putFlag_disjoint (s : State) (o : Nat) (f g : Fld) (b : Bool) (h : f.lo + f.w ≤ 64) (hd : f.lo + f.w ≤ g.lo ∨ g.lo + g.w ≤ f.lo) :
    (s.putFlag o f b).flag o g = s.flag o g := by
  rw [State.flag, State.putFlag, State.get_put_disjoint _ _ _ _ _ h hd, State.flag]

@[simp] theorem State.get_ctrl_putStatus (s : State) (k t : Nat) (f g : Fld) (v : Nat) :
    (s.put (R.TARN_STATUS t) f v).get (R.TARN_CTRL k) g = s.get (R.TARN_CTRL k) g :=
  State.get_put_ne _ _ _ _ _ _ (tarnCtrl_ne_tarnStatus k t)

@[simp] theorem State.get_ctrl_setTarnState (s : State) (k t v : Nat) (g : Fld) :
    (s.setTarnState t v).get (R.TARN_CTRL k) g = s.get (R.TARN_CTRL k) g := s.get_ctrl_putStatus k t _ g v

@[simp] theorem State.tarnFaulted_putStatus (s : State) (k t : Nat) (f : Fld) (v : Nat) :
    (s.put (R.TARN_STATUS t) f v).tarnFaulted k = s.tarnFaulted k := by
  rw [State.tarnFaulted, State.flag, State.get_ctrl_putStatus, State.tarnFaulted, State.flag]

@[simp] theorem State.tarnFaulted_setTarnState (s : State) (k t v : Nat) : (s.setTarnState t v).tarnFaulted k = s.tarnFaulted k :=
  s.tarnFaulted_putStatus k t _ v

theorem State.tarnState_setTarnState_same (s : State) (t v : Nat) : (s.setTarnState t v).tarnState t = v % 4 :=
  State.get_put_same _ _ _ _ (by decide)

/-- STATE does not change with PROG_ID. -/
theorem State.tarnState_putProg (s : State) (t v : Nat) : (s.put (R.TARN_STATUS t) F.TARN_STATUS_PROG_ID v).tarnState t = s.tarnState t :=
  State.get_put_disjoint _ _ _ _ _ (by decide) (by decide)

/-! ### Faults (R104, R105) -/

theorem State.answerAll_of_idle {s : State} {t : Nat} (hrun : (s.tarn t).run = none) (hact : (s.tarn t).active = []) (hqueue : (s.tarn t).queue = []) :
    s.answerAll t = s.setTarn t { (s.tarn t).idle with queue := [], active := [], ring := [] } := by
  simp only [State.answerAll, hrun, hact, hqueue]
  rfl

theorem exec_tarnFaultWrite_of_idle {n : Fin 100} {s : State} (hfault : s.tarnFaulted n = false) (hrun : (s.tarn n).run = none)
    (hact : (s.tarn n).active = []) (hqueue : (s.tarn n).queue = []) :
    exec (.tarnFaultWrite n) s = .next (((s.putFlag (R.TARN_CTRL n) F.TARN_CTRL_FAULT true).setTarnState n 3).setTarn n
      { (s.tarn n).idle with queue := [], active := [], ring := [] }) := by
  have hall := State.answerAll_of_idle (s := (s.putFlag (R.TARN_CTRL n) F.TARN_CTRL_FAULT true).setTarnState n 3) hrun hact hqueue
  show Host.Outcome.next (s.faultTarn n) = _
  rw [State.faultTarn, if_neg (by simp [hfault])]
  exact congrArg _ hall

theorem exec_tarnWatchdog_of_running {n : Fin 100} {s : State} (hlimit : s.get (R.TARN_WDOG n) F.TARN_WDOG_LIMIT ≠ 0)
    (hrun : (s.tarn n).run.isSome = true) (hfault : s.tarnFaulted n = false) :
    exec (.tarnWatchdog n) s = .next ((s.faultTarn n).setErr (R.TARN_ERR n) F.TARN_ERR_WATCHDOG) := by
  have hnone : (s.tarn n).run.isNone = false := by simpa using hrun
  exact if_neg (by simp [hlimit, hnone, hfault])

/-! ### Roles (R106, R107, R111) -/

theorem exec_tarnRoleWrite_of_inRange {n : Fin 100} {v : Word} {s : State}
    (h1 : bitsOf v.toNat F.TARN_CTRL_ROLE.lo F.TARN_CTRL_ROLE.w < 24) (h2 : bitsOf v.toNat F.TARN_CTRL_ROLE2.lo F.TARN_CTRL_ROLE2.w < 24) :
    exec (.tarnRoleWrite n v) s =
      let t := s.putRoles n (bitsOf v.toNat F.TARN_CTRL_ROLE.lo F.TARN_CTRL_ROLE.w) (bitsOf v.toNat F.TARN_CTRL_ROLE2_EN.lo F.TARN_CTRL_ROLE2_EN.w)
        (bitsOf v.toNat F.TARN_CTRL_ROLE2.lo F.TARN_CTRL_ROLE2.w)
      if t.roleClash n then .next (s.setErr (R.TARN_ERR n) F.TARN_ERR_ROLE_CLASH) else .next t := by
  show execTarnRoleWrite n v s = _
  simp only [execTarnRoleWrite, h1, h2, true_or, if_true]

theorem exec_tarnSubstitution_of_working {n : Fin 100} {s : State} (h : s.tarnFaulted n = false) : exec (.tarnSubstitution n) s = .next s :=
  if_pos (by simp [h])

/-- The event of a failed Tarn gives each role of it that no working Tarn carries to another. -/
theorem exec_tarnSubstitution_of_failed {n : Fin 100} {s : State} (h : s.tarnFaulted n = true) :
    exec (.tarnSubstitution n) s = .next ((s.rolesOf n).foldl (fun s r =>
      if (tarnsIn (n.val / 25)).any (fun u => u != n.val && (s.rolesOf u).contains r && !s.tarnFaulted u) then s else s.substitute (n.val / 25) r) s) :=
  if_neg (by simp [h])

/-! ### Loading of role images (R106, R107, R116) -/

theorem State.retireRole_of_working {s : State} {q : Nat} (role : Nat) (h : (tarnsIn q).all (fun t => !s.tarnFaulted t) = true) :
    s.retireRole q role = s := by
  have hnone : (tarnsIn q).filter (fun t => s.tarnFaulted t && (s.rolesOf t).contains role) = [] := by
    rw [List.filter_eq_nil_iff]
    intro t ht hboth
    have hwork : s.tarnFaulted t = false := by simpa using List.all_eq_true.mp h t ht
    simp [hwork] at hboth
  rw [State.retireRole, hnone]
  rfl

/-- The last image of a Tarn that loads has come: it is one of its programs, and the Tarn is idle. -/
def State.tarnLoaded (s : State) (t role img : Nat) : State :=
  ((s.setTarn t { s.tarn t with loading := [], progs := (s.tarn t).progs.filter (fun p => p.1 != role) ++ [(role, img)], back := false }).setTarnState
    t 0).put (R.TARN_STATUS t) F.TARN_STATUS_PROG_ID img

section TarnLoaded
variable (s : State) (t role img : Nat)

theorem State.tarnLoaded_tarn : (s.tarnLoaded t role img).tarn t =
    { s.tarn t with loading := [], progs := (s.tarn t).progs.filter (fun p => p.1 != role) ++ [(role, img)], back := false } := by
  simp only [State.tarnLoaded, State.tarn_put, State.tarn_setTarnState, State.tarn_setTarn_same]

@[simp] theorem State.tarnLoaded_tarnFaulted (k : Nat) : (s.tarnLoaded t role img).tarnFaulted k = s.tarnFaulted k := by
  simp [State.tarnLoaded]

theorem State.tarnLoaded_tarnState : (s.tarnLoaded t role img).tarnState t = 0 := by
  rw [State.tarnLoaded, State.tarnState_putProg, State.tarnState_setTarnState_same]

theorem State.tarnLoaded_progId : (s.tarnLoaded t role img).get (R.TARN_STATUS t) F.TARN_STATUS_PROG_ID = img % 2 ^ F.TARN_STATUS_PROG_ID.w :=
  State.get_put_same _ _ _ _ (by decide)

end TarnLoaded

theorem exec_roleProgramLoaded_of_last {n : Fin 100} {role : Fin 24} {img : Nat} {s : State} (hload : (s.tarn n).loading = [(role.val, img)])
    (hback : (s.tarn n).back = false) (hfault : s.tarnFaulted n = false) (hstate : s.tarnState n = 2) :
    exec (.roleProgramLoaded n role) s = .next ((s.tarnLoaded n role img).retireRole (n / 25) role) := by
  show execRoleProgramLoaded n role s = _
  have hfind : [(role.val, img)].find? (fun p => p.1 == role.val) = some (role.val, img) := by simp
  have hrest : [(role.val, img)].filter (fun p => p.1 != role.val) = [] := by simp
  simp only [execRoleProgramLoaded, hload, hfind, hrest, hfault, hback, State.tarnState_setTarn, hstate]
  rfl

/-! ### Self-tests (R104, R108) -/

/-- A failed Tarn that has passed its self-tests is a spare. -/
def State.madeSpare (s : State) (t : Nat) : State :=
  let s := (s.updTarn t (fun x => { x with testing := false })).updTarn t (fun x => { x with progs := [], loading := [], back := false })
  let s := s.putRoles t 31 0 (s.get (R.TARN_CTRL t) F.TARN_CTRL_ROLE2)
  ((s.putFlag (R.TARN_CTRL t) F.TARN_CTRL_FAULT false).putFlag (R.TARN_CTRL t) F.TARN_CTRL_ENABLE false).setTarnState t 0

section MadeSpare
variable (s : State) (t : Nat)

theorem State.madeSpare_tarn : (s.madeSpare t).tarn t = { s.tarn t with testing := false, progs := [], loading := [], back := false } := by
  simp [State.madeSpare, State.tarn_updTarn]

theorem State.madeSpare_fault : (s.madeSpare t).flag (R.TARN_CTRL t) F.TARN_CTRL_FAULT = false := by
  simp only [State.madeSpare]
  rw [State.flag, State.get_ctrl_setTarnState, ← State.flag, State.flag_putFlag_disjoint _ _ _ _ _ (by decide) (by decide)]
  exact State.flag_putFlag_same _ _ _ _ (by decide) rfl

theorem State.madeSpare_enable : (s.madeSpare t).flag (R.TARN_CTRL t) F.TARN_CTRL_ENABLE = false := by
  simp only [State.madeSpare]
  rw [State.flag, State.get_ctrl_setTarnState, ← State.flag]
  exact State.flag_putFlag_same _ _ _ _ (by decide) rfl

theorem State.madeSpare_role : (s.madeSpare t).get (R.TARN_CTRL t) F.TARN_CTRL_ROLE = 31 := by
  simp only [State.madeSpare, State.putRoles, State.get_ctrl_setTarnState, State.putFlag]
  iterate 4 rw [State.get_put_disjoint _ _ _ _ _ (by decide) (by decide)]
  exact State.get_put_same _ _ _ _ (by decide)

theorem State.madeSpare_tarnState : (s.madeSpare t).tarnState t = 0 := State.tarnState_setTarnState_same _ _ _

end MadeSpare

theorem exec_tarnSelftestDone_of_passed {n : Fin 100} {s : State} (htest : (s.tarn n).testing = true) (hfault : s.tarnFaulted n = true) :
    exec (.tarnSelftestDone n true) s = .next (s.madeSpare n) := by
  have hstill : (s.updTarn n (fun x => { x with testing := false })).tarnFaulted n = true := hfault
  show execTarnSelftestDone n true s = _
  simp only [execTarnSelftestDone, htest, hstill]
  rfl

theorem exec_tarnSelftestDone_of_failed {n : Fin 100} {s : State} (htest : (s.tarn n).testing = true) :
    exec (.tarnSelftestDone n false) s = .next ((((s.updTarn n (fun x => { x with testing := false })).faultTarn n).setErr
      (R.TARN_ERR n) F.TARN_ERR_SELFTEST).updTarn n (fun x => { x with broken := true })) :=
  if_neg (by simp [htest])

/-- Settles O32, command by command: each is its own equation above, and the fields read back as they were put. -/
theorem tarnsInAndOut : Obligations.TarnsInAndOut := by
  unfold Obligations.TarnsInAndOut
  refine ⟨fun n s hfault hrun hact hqueue => exec_tarnFaultWrite_of_idle hfault hrun hact hqueue,
    fun n s hlimit hrun hfault => exec_tarnWatchdog_of_running hlimit hrun hfault, fun n v s => ?_, fun n s h => ?_, fun n r s hfault hroles hnone => ?_,
    fun n role img s hload hback hfault hstate hwork => ?_, fun n s htest hfault => ?_, fun n s htest => exec_tarnSelftestDone_of_failed htest⟩
  · intro r1 r2 t h1 h2
    rw [exec_tarnRoleWrite_of_inRange h1 h2]
    exact ⟨fun hfree => if_neg (by simp [t, r1, r2, hfree]), fun hclash => if_pos hclash⟩
  · rcases h with hwork | hroles
    · exact exec_tarnSubstitution_of_working hwork
    · cases hfault : s.tarnFaulted n
      · exact exec_tarnSubstitution_of_working hfault
      · rw [exec_tarnSubstitution_of_failed hfault, hroles]
        rfl
  · rw [exec_tarnSubstitution_of_failed hfault, hroles]
    exact congrArg _ (if_neg (ne_true_of_eq_false hnone))
  · rw [exec_roleProgramLoaded_of_last hload hback hfault hstate, State.retireRole_of_working role (by simpa using hwork)]
    exact ⟨_, rfl, s.tarnLoaded_tarnState n role img, by simp [State.tarnLoaded_tarn], by simp [State.tarnLoaded_tarn],
      s.tarnLoaded_progId n role img⟩
  · exact ⟨_, exec_tarnSelftestDone_of_passed htest hfault, s.madeSpare_fault n, s.madeSpare_enable n, s.madeSpare_role n, s.madeSpare_tarnState n,
      by simp [State.madeSpare_tarn], by simp [State.madeSpare_tarn]⟩

end Sys2Proof.Machine
end

section
/-!
The data-plane reset (R498, R499) and single-unit resets (R500, R501).
-/
namespace Sys2Proof.Machine

/-! ### The data-plane reset (R339, R375, R498, R499) -/

theorem exec_l2Reset_of_quiescing {s : State} (h : s.rst.l2 = 1) : exec .l2Reset s =
    .next (s.ackMirror.answerHomes.home.entries.foldl (fun s e => s.demote (64 * e.1)) s.ackMirror.answerHomes).stopData :=
  if_neg (by simp [h])

/-- Entries that were not demoted in time are lost, and their lines noted (R499). -/
def State.entriesLost (s : State) : State :=
  let t : State := { s with home := { s.home with entries := [], forced := some (s.home.entries.map (fun e => 64 * e.1)) } }
  (t.putFlag R.DIR_CTRL F.DIR_CTRL_STRICT_TEST true).putFlag R.RST_LAST F.RST_LAST_L2_FORCED true

theorem exec_l2QuiesceTimeout_of_quiescing {s : State} (h : s.rst.l2 = 1) :
    exec .l2QuiesceTimeout s = .next s.answerHomes.entriesLost.stopData :=
  if_neg (by simp [h])

theorem State.dropMesh_txns (s : State) (p : Nat → Nat → Nat → Bool) :
    (s.dropMesh p).mesh.txns = s.mesh.txns.filter (fun t => !p t.dx t.dy t.dport) :=
  foldl_keeps (fun s : State => s.mesh.txns) _ _ (fun _ _ _ => rfl)

theorem State.dropMesh_everywhere_txns (s : State) (r : Rst) : ({ s.dropMesh (fun _ _ _ => true) with rst := r } : State).mesh.txns = [] := by
  show (s.dropMesh (fun _ _ _ => true)).mesh.txns = []
  rw [State.dropMesh_txns]
  simp

theorem State.stopData_l2 (s : State) : s.stopData.rst.l2 = 2 := rfl

theorem State.stopData_txns (s : State) : s.stopData.mesh.txns = [] := by
  unfold State.stopData
  exact State.dropMesh_everywhere_txns _ _

/-- The end of a data-plane reset: its steps for every unit in no reset of its own (R192, R498). -/
def State.dataResumed (s : State) : State :=
  let s : State := { s with rst := { s.rst with l2 := 0, active := none } }
  let s := (List.range 396).foldl (fun s u => if s.inL3 (chUnitKey u) then s else s.startBasinFill u) s
  let s := s.finishReset (fun j => !s.inL3 (unitKey 2 (s.inlet j.inlet).port))
  let s := (List.range 100).foldl (fun s k => if s.inL3 (unitKey 0 k) then s else s.reloadTarn k) s
  let s := (List.range 9).foldl (fun s n => if s.inL3 (unitKey 2 n) then s else s.releaseLink n) s
  (List.range 9).foldl (fun s e => s.topUpAll e) s

theorem exec_l2ResetResume_of_stopped {s : State} (h : s.rst.l2 = 2) : exec .l2ResetResume s = .next s.dataResumed :=
  if_neg (by simp [h])

/-! ### A write of RST_UNIT (R495, R500, R520) -/

/-- RST_UNIT shows the operands of the last write. -/
def State.unitAsked (s : State) (kind i : Nat) : State := (s.put R.RST_UNIT F.RST_UNIT_KIND kind).put R.RST_UNIT F.RST_UNIT_INDEX i

@[simp] theorem State.unitAsked_rst (s : State) (kind i : Nat) : (s.unitAsked kind i).rst = s.rst := (rfl)
@[simp] theorem State.unitAsked_unitHeld (s : State) (kind i : Nat) (k n : Nat) : (s.unitAsked kind i).unitHeld k n = s.unitHeld k n := (rfl)

/-- How a write of RST_UNIT ends: with the status of the check that fails, or with what its operation does. -/
def State.unitEnds (s : State) (kind i : Nat) (op : State → State) : State :=
  match s.unitCommand kind i with
  | (t, false) => t
  | (t, true) => op t

section Unit
variable {s : State} {kind i : Nat} (op : State → State)

theorem State.unitEnds_of_noIndex (h : unitCount kind ≤ i) : s.unitEnds kind i op = (s.unitAsked kind i).unitStatus 1 := by
  simp only [State.unitEnds, State.unitCommand, if_pos h]
  rfl

theorem State.unitEnds_of_reset (h : i < unitCount kind) (hreset : s.rst.active ≠ none) :
    s.unitEnds kind i op = (s.unitAsked kind i).unitStatus 2 := by
  have hactive : s.rst.active.isSome = true := Option.isSome_iff_ne_none.mpr hreset
  simp only [State.unitEnds, State.unitCommand, if_neg (Nat.not_le.mpr h), State.put_rst, if_pos hactive]
  rfl

theorem State.unitEnds_of_free (h : i < unitCount kind) (hreset : s.rst.active = none) : s.unitEnds kind i op = op (s.unitAsked kind i) := by
  simp only [State.unitEnds, State.unitCommand, if_neg (Nat.not_le.mpr h), State.put_rst, hreset]
  rfl

end Unit

/-! ### ENTER, LEAVE and PULSE (R500) -/

/-- ENTER closes a free unit and holds it. -/
def enterUnit (kind i : Nat) (s : State) : State :=
  if s.unitHeld kind i then s.unitStatus 3 else ((s.setUnit kind i 1).closeUnit kind i).unitStatus 0

/-- LEAVE releases a held unit, which has still to report ready. -/
def leaveUnit (kind i : Nat) (s : State) : State :=
  if s.unitHeld kind i then (s.setUnit kind i 2).unitStatus 0 else s.unitStatus 3

/-- PULSE closes a free unit and releases it at once. -/
def pulseUnit (kind i : Nat) (s : State) : State :=
  if s.unitHeld kind i then s.unitStatus 3 else ((s.setUnit kind i 2).closeUnit kind i).unitStatus 0

section Rows
variable {s : State} {kind : Fin 4} {index : BitVec 9} (hidle : s.flag R.RST_UNIT F.RST_UNIT_BUSY = false)
include hidle

theorem exec_enter : exec (.enter kind index) s = .next (s.unitEnds kind index.toNat (enterUnit kind index.toNat)) := by
  show execEnter kind index s = _
  rw [execEnter, if_neg (ne_true_of_eq_false hidle), State.unitEnds]
  rcases s.unitCommand kind index.toNat with ⟨t, _ | _⟩
  · rfl
  · exact (apply_ite Host.Outcome.next _ _ _).symm

theorem exec_leave : exec (.leave kind index) s = .next (s.unitEnds kind index.toNat (leaveUnit kind index.toNat)) := by
  show execLeave kind index s = _
  rw [execLeave, if_neg (ne_true_of_eq_false hidle), State.unitEnds]
  rcases s.unitCommand kind index.toNat with ⟨t, _ | _⟩
  · rfl
  · exact (apply_ite Host.Outcome.next _ _ _).symm

theorem exec_pulse : exec (.pulse kind index) s = .next (s.unitEnds kind index.toNat (pulseUnit kind index.toNat)) := by
  show execPulse kind index s = _
  rw [execPulse, if_neg (ne_true_of_eq_false hidle), State.unitEnds]
  rcases s.unitCommand kind index.toNat with ⟨t, _ | _⟩
  · rfl
  · exact (apply_ite Host.Outcome.next _ _ _).symm

end Rows

theorem exec_unitReady_of_released {kind : Fin 4} {index : BitVec 9} {s : State} (h : Tbl.get (fun _ => 0) s.rst.units (unitKey kind index.toNat) = 2) :
    exec (.unitReady kind index) s = .next ((s.setUnit kind index.toNat 0).openUnit kind index.toNat).pumpAll :=
  if_neg (not_not.mpr h)

theorem State.inL3_setUnit (s : State) (kind i v : Nat) : (s.setUnit kind i v).inL3 (unitKey kind i) = (v != 0) := by
  simp [State.inL3, State.setUnit]

/-! ### A Tarn held in reset (R116) -/

@[simp] theorem State.tarn_setCache (s : State) (h : Nat) (l : List XEnt) (k : Nat) : (s.setCache h l).tarn k = s.tarn k := (rfl)
@[simp] theorem State.tarnFaulted_setCache (s : State) (h : Nat) (l : List XEnt) (k : Nat) : (s.setCache h l).tarnFaulted k = s.tarnFaulted k := (rfl)

/-- FAULT does not change with ENABLE. -/
theorem State.tarnFaulted_putEnable (s : State) (t : Nat) (b : Bool) :
    (s.putFlag (R.TARN_CTRL t) F.TARN_CTRL_ENABLE b).tarnFaulted t = s.tarnFaulted t :=
  State.flag_putFlag_disjoint _ _ _ _ _ (by decide) (by decide)

section HoldTarn
variable (s : State) (t : Nat)

theorem State.holdTarn_tarn : (s.holdTarn t).tarn t =
    { ({} : Tarn) with back := true, testing := (s.tarn t).testing, broken := (s.tarn t).broken } := by
  simp only [State.holdTarn, State.tarn_setTarnState, State.tarn_put, State.tarn_putFlag, State.tarn_setCache, State.tarn_setTarn_same]

theorem State.holdTarn_enable : (s.holdTarn t).flag (R.TARN_CTRL t) F.TARN_CTRL_ENABLE = false := by
  simp only [State.holdTarn, State.flag, State.get_ctrl_setTarnState, State.get_ctrl_putStatus]
  exact State.flag_putFlag_same _ _ _ _ (by decide) rfl

theorem State.holdTarn_tarnState : (s.holdTarn t).tarnState t = if s.tarnFaulted t then 3 else 0 := by
  simp only [State.holdTarn, State.tarnState_setTarnState_same, State.tarnFaulted_putStatus, State.tarnFaulted_putEnable, State.tarnFaulted_setCache,
    State.tarnFaulted_setTarn]
  split <;> rfl

end HoldTarn

/-- Settles O58, command by command: each is its own equation above, a unit's by the checks that a write of RST_UNIT makes. -/
theorem dataPlaneAndUnitResets : Obligations.DataPlaneAndUnitResets := by
  unfold Obligations.DataPlaneAndUnitResets
  refine ⟨fun s h => exec_l2Reset_of_quiescing h, fun s h => exec_l2QuiesceTimeout_of_quiescing h, fun s => ⟨s.stopData_l2, s.stopData_txns⟩,
    fun s h => exec_l2ResetResume_of_stopped h, fun kind index s hidle => ?_, fun kind index s h => exec_unitReady_of_released h,
    fun kind i v s => s.inL3_setUnit kind i v, fun t s => ⟨s.holdTarn_enable t, s.holdTarn_tarn t, s.holdTarn_tarnState t⟩⟩
  intro i t free
  rw [exec_enter hidle, exec_leave hidle, exec_pulse hidle]
  have hfree (h : free) (op : State → State) : s.unitEnds kind i op = op t := State.unitEnds_of_free op h.1 h.2
  refine ⟨fun h hheld => ?_, fun h hheld => ?_, fun h hheld => ?_, fun h hheld => ?_, fun h hheld => ?_, fun h => ?_, fun h hreset => ?_⟩
  · exact congrArg _ ((hfree h _).trans (if_neg (ne_true_of_eq_false hheld)))
  · exact congrArg _ ((hfree h _).trans (if_pos hheld))
  · exact congrArg _ ((hfree h _).trans (if_neg (ne_true_of_eq_false hheld)))
  · exact ⟨congrArg _ ((hfree h _).trans (if_pos hheld)), congrArg _ ((hfree h _).trans (if_pos hheld))⟩
  · exact congrArg _ ((hfree h _).trans (if_neg (ne_true_of_eq_false hheld)))
  · have hend (op : State → State) : s.unitEnds kind i op = t.unitStatus 1 := State.unitEnds_of_noIndex op h
    rw [hend, hend, hend]
    exact ⟨rfl, rfl, rfl⟩
  · have hend (op : State → State) : s.unitEnds kind i op = t.unitStatus 2 := State.unitEnds_of_reset op h hreset
    rw [hend, hend, hend]
    exact ⟨rfl, rfl, rfl⟩

end Sys2Proof.Machine
end

section
/-!
Start and stop packets, slices, transfers into block SRAM and partials at Tarns (R81, R94, R105, R146, R148, R157, R175, R177, R181, R384).
-/
namespace Sys2Proof.Machine

/-! ### Jobs and their merges -/

theorem State.id_of_job {s : State} {id : Nat} {j : Job} (h : s.job id = some j) : j.id = id := by simpa using List.find?_some h

/-- A job that is in flight reads back as it was put. -/
theorem State.job_putJob_same {s : State} {id : Nat} {j : Job} (h : s.job id = some j) {k : Job} (hk : k.id = id) : (s.putJob k).job id = some k := by
  subst hk
  have hany : s.jobs.jobs.any (fun x => x.id == k.id) = true := List.any_eq_true.mpr ⟨j, List.mem_of_find?_eq_some h, by simp [State.id_of_job h]⟩
  simpa [State.job, State.putJob] using find?_map_replace (p := fun x : Job => x.id == k.id) (r := k) (by simp) s.jobs.jobs hany

theorem State.updJob_of_job {s : State} {id : Nat} {j : Job} (h : s.job id = some j) (f : Job → Job) : s.updJob id f = s.putJob (f j) := by
  simp only [State.updJob, h]

theorem Job.quad_of_merge? {j : Job} {q : Nat} {m : Merge} (h : j.merge? q = some m) : m.quad = q := by simpa using List.find?_some h

/-- A merge of a job reads back as it was set. -/
theorem Job.merge?_setMerge_same {j : Job} {q : Nat} {m : Merge} (h : j.merge? q = some m) {n : Merge} (hn : n.quad = q) :
    (j.setMerge n).merge? q = some n := by
  subst hn
  have hany : j.merges.any (fun x => x.quad == n.quad) = true := List.any_eq_true.mpr ⟨m, List.mem_of_find?_eq_some h, by simp [Job.quad_of_merge? h]⟩
  simpa [Job.merge?, Job.setMerge] using find?_map_replace (p := fun x : Merge => x.quad == n.quad) (r := n) (by simp) j.merges hany

/-- A merge whose count has not reached the announced total does nothing (R94). -/
theorem State.mergeCheck_of_short {s : State} {id q : Nat} {j : Job} {m : Merge} (ans : List SnoopAnswer) (hj : s.job id = some j)
    (hm : j.merge? q = some m) (hshort : m.count ≠ m.announced) : s.mergeCheck id q ans = s := by
  simp only [State.mergeCheck, hj, hm]
  exact if_pos (.inl hshort)

/-! ### Start packets (R105, R106, R175) -/

/-- A start packet reaches a role's Tarn, which queues its work, or the work is answered as failed. -/
def State.packetArrives (s : State) (w : Held) : Option Nat → State
  | none => s.answerWork w none
  | some t =>
    if s.tarnTakes t ∧ (s.tarn t).queue.length < 32 then s.updTarn t (fun x => { x with queue := x.queue ++ [w] }) else s.answerWork w (some t)

theorem State.packetArrives_of_room {s : State} {t : Nat} (w : Held) (htakes : s.tarnTakes t = true) (hroom : (s.tarn t).queue.length < 32) :
    s.packetArrives w (some t) = s.setTarn t { s.tarn t with queue := (s.tarn t).queue ++ [w] } := if_pos ⟨htakes, hroom⟩

theorem State.packetArrives_of_refused {s : State} {t : Nat} (w : Held) (h : s.tarnTakes t = false ∨ 32 ≤ (s.tarn t).queue.length) :
    s.packetArrives w (some t) = s.answerWork w (some t) := by
  refine if_neg fun ⟨htakes, hroom⟩ => ?_
  rcases h with hnot | hfull
  · exact ne_true_of_eq_false hnot htakes
  · omega

theorem exec_startPacket_of_due {job : Nat} {quad : Fin 4} {role : Fin 24} {j : Job} {s : State} (hj : s.job job = some j)
    (hst : j.st = .decode ∨ (j.st = .ingest ∧ s.ingestRole quad ((s.inlet j.inlet).progOf j.desc) = some role.val)) (hdec : j.decided = false)
    (harrived : j.arrived.contains (quad.val, role.val) = false) (hwork : (j.workAt quad role).done = false) :
    exec (.startPacket job quad role) s =
      .next ((s.putJob { j with arrived := j.arrived ++ [(quad.val, role.val)] }).packetArrives (j.workAt quad role) (s.roleTarn quad role)) := by
  show execStartPacket job quad role s = _
  have hgo : ¬ ((!(j.st == .decode || (j.st == .ingest && s.ingestRole quad ((s.inlet j.inlet).progOf j.desc) == some role.val))) = true ∨
      j.decided = true ∨ j.arrived.contains (quad.val, role.val) = true ∨ (j.workAt quad role).done = true) := by
    rw [hdec, harrived, hwork]
    rcases hst with hst | ⟨hst, hrole⟩
    · simp [hst]
    · simp [hst, hrole]
  have hrole : (s.putJob { j with arrived := j.arrived ++ [(quad.val, role.val)] }).roleTarn quad role = s.roleTarn quad role := rfl
  simp only [execStartPacket, hj, if_neg hgo, hrole]
  cases s.roleTarn quad role with
  | none => rfl
  | some t => exact (apply_ite Host.Outcome.next _ _ _).symm

/-! ### Stop packets (R181) -/

/-- Held work from which a job's slices and its ingest have gone. -/
def stripped (job : Nat) (l : List Held) : List Held :=
  (l.map (fun (h : Held) => if h.job = job then { h with slices := [], ingest := false } else h)).filter (fun h => !h.done)

theorem nothing_of_mem_stripped {job : Nat} {l : List Held} {h : Held} (hmem : h ∈ stripped job l) (hjob : h.job = job) : h.slices = [] ∧ h.ingest = false := by
  obtain ⟨g, -, rfl⟩ := List.mem_map.mp (List.mem_filter.mp hmem).1
  by_cases hg : g.job = job
  · rw [if_pos hg]
    exact ⟨rfl, rfl⟩
  · rw [if_neg hg] at hjob
    exact absurd hjob hg

/-- A slice or the ingest of a job runs on a Tarn. -/
def Tarn.runsFor (x : Tarn) (job : Nat) : Bool := x.run.elim false (fun r => r.job == job && (r.what == .worker || r.what == .ingest))

/-- A Tarn from whose work a job's slices and its ingest have gone. -/
def Tarn.stripJob (x : Tarn) (job : Nat) : Tarn :=
  let y := { x with queue := stripped job x.queue, active := stripped job x.active }
  if x.runsFor job then y.idle else y

theorem Tarn.stripJob_held {x : Tarn} {job : Nat} {h : Held} (hmem : h ∈ (x.stripJob job).queue ++ (x.stripJob job).active) (hjob : h.job = job) :
    h.slices = [] ∧ h.ingest = false := by
  have hlists : (x.stripJob job).queue = stripped job x.queue ∧ (x.stripJob job).active = stripped job x.active := by
    unfold Tarn.stripJob
    split <;> exact ⟨rfl, rfl⟩
  rw [hlists.1, hlists.2, List.mem_append] at hmem
  exact hmem.elim (fun h => nothing_of_mem_stripped h hjob) (fun h => nothing_of_mem_stripped h hjob)

theorem Tarn.stripJob_run {x : Tarn} {job : Nat} {r : TRun} (hrun : (x.stripJob job).run = some r) (hjob : r.job = job) :
    r.what ≠ .worker ∧ r.what ≠ .ingest := by
  unfold Tarn.stripJob at hrun
  split at hrun
  · cases hrun
  next hnot =>
    have hrun : x.run = some r := hrun
    simpa [Tarn.runsFor, hrun, hjob] using hnot

theorem State.restState_tarns (s : State) (t : Nat) : (s.restState t).tarns = s.tarns := by
  unfold State.restState
  split <;> rfl

theorem State.failSlices_tarns (s : State) (id : Nat) (t : Option Nat) (status : Nat) (exc : Option Exc) (l : List Nat) :
    (s.failSlices id t status exc l).tarns = s.tarns := by
  refine foldl_keeps State.tarns l s (fun u i _ => ?_)
  cases u.job id with
  | none => rfl
  | some j =>
    cases hx : j.slices.find? (fun x => x.id == i) with
    | none => simp only [hx]
    | some x =>
      simp only [hx]
      cases t <;> rfl

theorem State.tarn_congr {s u : State} (h : s.tarns = u.tarns) (t : Nat) : s.tarn t = u.tarn t := by rw [State.tarn, h, State.tarn]

theorem exec_stopPacket_of_stopped {job : Nat} {tarn : Fin 100} {j : Job} {s : State} (hj : s.job job = some j) (hdec : j.decided = false)
    (hstop : (j.fails.contains 1 || j.fails.contains 2) = true) :
    ∃ u, exec (.stopPacket job tarn) s = .next u ∧ ∀ t, u.tarn t = if t = tarn.val then (s.tarn tarn).stripJob job else s.tarn t := by
  show ∃ u, execStopPacket job tarn s = .next u ∧ _
  have hgo : ¬ (j.decided = true ∨ (!(j.fails.contains jsAborted || j.fails.contains jsTimeout)) = true) := by
    rw [hdec, show (j.fails.contains jsAborted || j.fails.contains jsTimeout) = true from hstop]
    decide
  simp only [execStopPacket, hj, if_neg hgo]
  refine ⟨_, rfl, fun t => (State.tarn_congr ?_ t).trans (State.tarn_setTarn s tarn t _)⟩
  rw [State.failSlices_tarns, Tarn.stripJob, ← Tarn.runsFor]
  cases (s.tarn tarn).runsFor job
  · rfl
  · exact State.restState_tarns _ _

/-! ### The start of a slice, a merge or an ingest (R107, R148, R384) -/

/-- The work that a Tarn takes next: of a role whose image it holds, and of another role than the last where there is a choice. -/
def State.nextHeld (s : State) (t : Nat) : Option Held :=
  let x := s.tarn t
  let ready := (s.rolesOf t).filterMap (fun r => if x.progs.any (fun p => p.1 == r) then x.nextWork r else none)
  (ready.find? (fun h => h.role != x.lastRole)).or ready.head?

/-- The slice of a job that its held work begins with, none where no slice is left. -/
def Held.firstSlice (h : Held) (j : Job) : Option Slice := h.slices.head?.bind (fun i => j.slices.find? (fun y => y.id == i))

/-- What held work begins: an ingest, a slice, or a merge. -/
def Held.begins (h : Held) (j : Job) : Role :=
  if h.ingest then .ingest else if (h.firstSlice j).isSome then .worker else if h.merge = some true then .final else .merge

section SliceStart
variable {tarn : Fin 100} {h : Held} {j : Job} {s : State} (hrun : (s.tarn tarn).run = none) (hfault : s.tarnFaulted tarn = false)
  (hreset : s.inL3 (unitKey 0 tarn) = false) (hl2 : s.rst.l2 = 0) (hnext : s.nextHeld tarn = some h) (hj : s.job h.job = some j)
include hrun hfault hreset hl2 hnext hj

/-- A free Tarn begins the work it takes next: its program has the registers and stream descriptors of R148, and STATE and PROG_ID follow. -/
theorem exec_sliceStart_of_free :
    ∃ (u : State) (x : Tarn) (r : TRun) (prog : Nat),
      exec (.sliceStart tarn) s = .next (((u.setTarn tarn x).setTarnState tarn 1).put (R.TARN_STATUS tarn) F.TARN_STATUS_PROG_ID prog) ∧
      x.run = some r ∧ (r.job, r.role, r.what) = (h.job, h.role, h.begins j) ∧ r.slice = (h.firstSlice j).elim 0 (·.id) ∧
      x.t = startRegs j (h.begins j) (h.firstSlice j) (j.merges.find? (fun m => m.quad == tarn.val / 25 && m.role == h.role)) ∧
      x.s = startDescs j (s.inlet j.inlet) (h.begins j) (h.firstSlice j) := by
  show ∃ u x r prog, execSliceStart tarn s = _ ∧ _
  have hgo : ¬ ((s.tarn tarn).run.isSome = true ∨ s.tarnFaulted tarn = true ∨ s.inL3 (unitKey 0 tarn) = true ∨ s.rst.l2 ≠ 0) := by
    simp [hrun, hfault, hreset, hl2]
  rw [State.nextHeld] at hnext
  simp only [execSliceStart, if_neg hgo, hnext, hj]
  exact ⟨_, _, _, _, rfl, rfl, rfl, rfl, rfl, rfl⟩

theorem exec_sliceStart_shows {what : Role} {sl : Option Slice} (hwhat : h.begins j = what) (hsl : h.firstSlice j = sl) :
    ∃ u r, exec (.sliceStart tarn) s = .next u ∧ u.tarnState tarn = 1 ∧ (u.tarn tarn).run = some r ∧
      (r.job, r.role, r.what) = (h.job, h.role, what) ∧ r.slice = sl.elim 0 (·.id) ∧
      (u.tarn tarn).t = startRegs j what sl (j.merges.find? (fun m => m.quad == tarn.val / 25 && m.role == h.role)) ∧
      (u.tarn tarn).s = startDescs j (s.inlet j.inlet) what sl := by
  subst hwhat hsl
  obtain ⟨u, x, r, prog, hexec, hshows⟩ := exec_sliceStart_of_free hrun hfault hreset hl2 hnext hj
  refine ⟨_, r, hexec, by rw [State.tarnState_putProg, State.tarnState_setTarnState_same], ?_⟩
  rw [State.tarn_put, State.tarn_setTarnState, State.tarn_setTarn_same]
  exact hshows

end SliceStart

section Begins
variable {h : Held} {j : Job}

theorem Held.firstSlice_of_none (hslices : h.slices = []) : h.firstSlice j = none := by
  rw [Held.firstSlice, hslices]
  rfl

theorem Held.firstSlice_of_some {i : Nat} {rest : List Nat} {sl : Slice} (hslices : h.slices = i :: rest)
    (hsl : j.slices.find? (fun y => y.id == i) = some sl) : h.firstSlice j = some sl := by
  rw [Held.firstSlice, hslices]
  exact hsl

theorem Held.begins_of_ingest (hingest : h.ingest = true) : h.begins j = .ingest := if_pos hingest

theorem Held.begins_of_slice {sl : Slice} (hingest : h.ingest = false) (hsl : h.firstSlice j = some sl) : h.begins j = .worker :=
  (if_neg (ne_true_of_eq_false hingest)).trans (if_pos (by rw [hsl]; rfl))

theorem Held.begins_of_merge {fin : Bool} (hingest : h.ingest = false) (hsl : h.firstSlice j = none) (hmerge : h.merge = some fin) :
    h.begins j = if fin then .final else .merge := by
  rw [Held.begins, if_neg (ne_true_of_eq_false hingest), hsl, hmerge]
  cases fin <;> rfl

end Begins

/-! ### Transfers into block SRAM (R80, R146, R157, R177) -/

/-- The state once a transfer of a Tarn is no longer outstanding. -/
def State.xferEnded (s : State) (t index : Nat) : State := s.setTarn t { s.tarn t with xfers := (s.tarn t).xfers.eraseIdx index }

/-- A linear transfer whose access has been answered fills block SRAM, or ends its program with XLAT_FAULT. -/
def linearRead (t : Nat) (r : TRun) (l : Inlet) (addr va len : Nat) (ans : List SnoopAnswer) (a : State × Except Bool Found) : State :=
  match a with
  | (s, .error _) => s.failRun t r jsXlatFault none
  | (s, .ok _) =>
    match s.readVa l.owner l.asid l.tenant (va / 64 * 64) ans ((va % 64 + len + 63) / 64) with
    | (s, ls) => s.updTarn t (fun x => x.fillLinear addr va len ls)

section Linear
variable {t : Nat} {r : TRun} {l : Inlet} {addr va len : Nat} {ans : List SnoopAnswer} {a : State × Except Bool Found}

theorem linearRead_of_fault (h : a.2.toOption = none) : linearRead t r l addr va len ans a = a.1.failRun t r 9 none := by
  obtain ⟨u, _ | x⟩ := a
  · rfl
  · cases h

theorem linearRead_of_found (h : a.2.toOption.isSome = true) : linearRead t r l addr va len ans a =
    let b := a.1.readVa l.owner l.asid l.tenant (va / 64 * 64) ans ((va % 64 + len + 63) / 64)
    b.1.updTarn t (fun x => x.fillLinear addr va len b.2) := by
  obtain ⟨u, _ | x⟩ := a
  · cases h
  · rfl

end Linear

section Transfer
variable {tarn : Fin 100} {index : Nat} {r : TRun} {j : Job} {s : State} (ans : List SnoopAnswer) (hrun : (s.tarn tarn).run = some r)
  (hlive : r.failing = none) (hj : s.job r.job = some j)
include hrun hlive hj

theorem exec_streamTransferDone_of_block {sreg bank blk : Nat} (hxfer : (s.tarn tarn).xfers[index]? = some (.block sreg bank blk))
    (hmay : (s.tarn tarn).mayFill index (.block sreg bank blk) = true) :
    let b := (s.xferEnded tarn index).readBlock j blk
    exec (.streamTransferDone tarn index ans) s = .next ((b.1.countBlock tarn j.id blk b.2).updTarn tarn
      (fun x => x.fillBlock bank blk ((2 ^ j.desc.gLog2 + 7) / 8) b.2)) := by
  show execStreamTransferDone tarn index ans s = _
  simp only [execStreamTransferDone, State.xferEnded, hxfer, hrun, hj, hlive, hmay, or_true, if_true, Bool.not_true, Bool.false_eq_true, if_false]

theorem exec_streamTransferDone_of_linear {sreg addr va len : Nat} (hxfer : (s.tarn tarn).xfers[index]? = some (.linear sreg addr va len)) :
    let u := s.xferEnded tarn index
    let l := s.inlet j.inlet
    exec (.streamTransferDone tarn index ans) s =
      .next (linearRead tarn r l addr va len ans (u.access { endpoint := l.owner, srcKind := 1, srcIndex := tarn } l.asid va len false)) := by
  show execStreamTransferDone tarn index ans s = _
  have hmay : (s.tarn tarn).mayFill index (.linear sreg addr va len) = true := rfl
  have hinlet (x : Tarn) : (s.setTarn tarn x).inlet j.inlet = s.inlet j.inlet := rfl
  simp only [execStreamTransferDone, State.xferEnded, hxfer, hrun, hj, hlive, hmay, or_true, if_true, hinlet]
  generalize State.access _ _ _ _ _ _ = a
  obtain ⟨u, _ | x⟩ := a <;> rfl

end Transfer

/-! ### Partials at a merge (R94, R105, R157) -/

/-- The slices that a record counts for on arrival: of one sent in parts, only with the last of them (R322). -/
def Flight.counts (f : Flight) (left : List Flight) : Nat :=
  if f.group.isSome && left.any (fun g => g.job == f.job && g.group == f.group) then 0 else (partialOf f.bytes).slices

theorem State.arrivePartial_of_short {f : Flight} {j : Job} {m : Merge} {t : Nat} {s : State} (ans : List SnoopAnswer) (hj : s.job f.job = some j)
    (hm : j.merge? f.quad = some m) (ht : s.roleTarn f.quad m.role = some t) (hfault : s.tarnFaulted t = false) :
    let n := f.counts s.jobs.flights
    m.count + n ≠ m.announced →
    s.arrivePartial f ans = (s.setTarn t { s.tarn t with
      ring := (s.tarn t).ring ++ [{ job := f.job, bytes := f.bytes, bad := f.bad, weight := n }] }).putJob (j.setMerge { m with count := m.count + n }) := by
  intro n hshort
  have hid : j.id = f.job := State.id_of_job hj
  have hput := State.job_putJob_same (s := s.setTarn t { s.tarn t with
    ring := (s.tarn t).ring ++ [{ job := f.job, bytes := f.bytes, bad := f.bad, weight := n }] }) hj (k := j.setMerge { m with count := m.count + n }) hid
  have hset : (j.setMerge { m with count := m.count + n }).merge? f.quad = some { m with count := m.count + n } :=
    Job.merge?_setMerge_same hm (show m.quad = f.quad from Job.quad_of_merge? hm)
  simp only [State.arrivePartial, hj, hm, ht, hfault]
  exact State.mergeCheck_of_short ans hput hset hshort

/-- The state once a record on its way has been taken. -/
def State.flightTaken (s : State) (index : Nat) : State := { s with jobs := { s.jobs with flights := s.jobs.flights.eraseIdx index } }
/-- The state once a failed partial on its way has been taken. -/
def State.failTaken (s : State) (index : Nat) : State := { s with jobs := { s.jobs with fails := s.jobs.fails.eraseIdx index } }

theorem exec_partialArrival {index : Nat} {f : Flight} {s : State} (ans : List SnoopAnswer) (hf : s.jobs.flights[index]? = some f) :
    exec (.partialArrival index ans) s = .next ((s.flightTaken index).arrivePartial f ans) := by
  show execPartialArrival index ans s = _
  simp only [execPartialArrival, hf, State.flightTaken]

theorem exec_failedPartial {index : Nat} {f : FailFlight} {s : State} (hf : s.jobs.fails[index]? = some f) :
    exec (.failedPartial index) s = .next ((s.failTaken index).arriveFailed f) := by
  show execFailedPartial index s = _
  simp only [execFailedPartial, hf, State.failTaken]

/-- A job to which a failure status has become known (R183). -/
def Job.failed (j : Job) (status : Nat) : Job := { j with fails := if j.fails.contains status then j.fails else j.fails ++ [status] }

theorem Job.mem_failed (j : Job) (status : Nat) : status ∈ (j.failed status).fails := by
  unfold Job.failed
  split
  next h => exact List.contains_iff_mem.mp h
  next h => simp

/-- A failed partial is counted at its merge, which then has failed (R105, R157). -/
def Job.countFailed (j : Job) (f : FailFlight) (m : Merge) : Job :=
  { j.setMerge { m with count := m.count + f.slices, failed := true } with exc := j.exc.or f.exc }

theorem Job.countFailed_merge? {j : Job} {f : FailFlight} {m : Merge} (hm : j.merge? f.quad = some m) :
    (j.countFailed f m).merge? f.quad = some { m with count := m.count + f.slices, failed := true } :=
  Job.merge?_setMerge_same hm (show m.quad = f.quad from Job.quad_of_merge? hm)

/-- The state once a failed partial has been counted, at its Tarn and at its job's merge. -/
def State.failedCounted (s : State) (f : FailFlight) (k : Job) (m : Merge) (t : Nat) : State :=
  ((s.putJob { k with exc := k.exc.or f.exc }).bump (R.TARN_CNT_FAILED t)).putJob (k.countFailed f m)

section FailedPartial
variable {s : State} {f : FailFlight} {j : Job} {m : Merge} {t : Nat} (hj : s.job f.job = some j)
include hj

theorem State.job_failJob : (s.failJob f.job f.status).job f.job = some (j.failed f.status) := by
  rw [State.failJob, State.updJob_of_job hj]
  have hid : j.id = f.job := State.id_of_job hj
  exact State.job_putJob_same hj (k := j.failed f.status) hid

theorem State.job_failedCounted {k : Job} (hk : k.id = f.job) : (s.failedCounted f k m t).job f.job = some (k.countFailed f m) := by
  have hmid : ((s.putJob { k with exc := k.exc.or f.exc }).bump (R.TARN_CNT_FAILED t)).job f.job = some { k with exc := k.exc.or f.exc } :=
    State.job_putJob_same hj hk
  exact State.job_putJob_same hmid hk

/-- A failed partial at a merge whose count stays short of the announced total is counted and no more. -/
theorem State.arriveFailed_of_short {k : Job} (hk : (s.failJob f.job f.status).job f.job = some k) (hm : k.merge? f.quad = some m)
    (ht : s.roleTarn f.quad m.role = some t) (hfault : s.tarnFaulted t = false) (hshort : m.count + f.slices ≠ m.announced) :
    s.arriveFailed f = s.failedCounted f k m t := by
  have htk : (s.putJob { k with exc := k.exc.or f.exc }).roleTarn f.quad m.role = some t := ht
  have hfaultk : (s.putJob { k with exc := k.exc.or f.exc }).tarnFaulted t = false := hfault
  simp only [State.arriveFailed, hk, hm, htk, hfaultk]
  exact State.mergeCheck_of_short [] (State.job_failedCounted hj (State.id_of_job hk)) (Job.countFailed_merge? hm) hshort

end FailedPartial

/-- Settles O35, command by command: each is its own equation above, and what it leaves reads back. -/
theorem tarnsTakeTheirWork : Obligations.TarnsTakeTheirWork := by
  unfold Obligations.TarnsTakeTheirWork
  refine ⟨fun job quad role j s hj hst hdec harrived => ?_, fun job tarn j s hj hdec hstop => ?_, fun tarn h j s hrun hfault hreset hl2 => ?_,
    fun tarn index ans r j s hrun hlive hj => ?_, fun index ans f j m t s hf hj hm ht hfault => ?_,
    fun index f j m t s hf hj hm ht hfault hshort => ?_⟩
  · intro w u hwork
    rw [exec_startPacket_of_due hj hst hdec harrived hwork]
    refine ⟨fun t ht htakes hroom => ?_, fun t ht hrefused => ?_, fun hnone => ?_⟩
    · rw [ht]
      exact congrArg _ (State.packetArrives_of_room w htakes hroom)
    · rw [ht]
      exact congrArg _ (State.packetArrives_of_refused w hrefused)
    · rw [hnone]
      rfl
  · obtain ⟨u, hexec, htarn⟩ := exec_stopPacket_of_stopped (tarn := tarn) hj hdec hstop
    refine ⟨u, hexec, ?_⟩
    rw [htarn tarn, if_pos rfl]
    exact ⟨fun r hrun hjob => Tarn.stripJob_run hrun hjob, fun h hmem hjob => Tarn.stripJob_held hmem hjob, fun t hne => (htarn t).trans (if_neg hne)⟩
  · intro x ready m hnext hj
    refine ⟨fun hingest hslices => ?_, fun i rest sl hingest hslices hfind => ?_, fun fin hingest hslices hmerge => ?_⟩
    · obtain ⟨u, r, hexec, hstate, hprog, hwhat, -, hshows⟩ := exec_sliceStart_shows hrun hfault hreset hl2 hnext hj (Held.begins_of_ingest hingest)
        (Held.firstSlice_of_none hslices)
      exact ⟨u, r, hexec, hstate, hprog, hwhat, hshows⟩
    · have hsl : h.firstSlice j = some sl := Held.firstSlice_of_some hslices hfind
      obtain ⟨u, r, hexec, hstate, hprog, hwhat, hslice, hshows⟩ := exec_sliceStart_shows hrun hfault hreset hl2 hnext hj
        (Held.begins_of_slice hingest hsl) hsl
      exact ⟨u, r, hexec, hstate, hprog, by simpa [hslice] using hwhat, hshows⟩
    · have hnone : h.firstSlice j = none := Held.firstSlice_of_none hslices
      obtain ⟨u, r, hexec, hstate, hprog, hwhat, -, hshows⟩ := exec_sliceStart_shows hrun hfault hreset hl2 hnext hj
        (Held.begins_of_merge hingest hnone hmerge) hnone
      exact ⟨u, r, hexec, hstate, hprog, hwhat, hshows⟩
  · intro u l
    refine ⟨fun sreg bank blk hxfer hmay => exec_streamTransferDone_of_block ans hrun hlive hj hxfer hmay, fun sreg addr va len hxfer => ?_⟩
    rw [exec_streamTransferDone_of_linear ans hrun hlive hj hxfer]
    exact ⟨fun hfault => congrArg _ (linearRead_of_fault hfault), fun hfound => congrArg _ (linearRead_of_found hfound)⟩
  · intro left n hshort
    rw [exec_partialArrival ans hf]
    exact congrArg _ (State.arrivePartial_of_short (s := s.flightTaken index) ans hj hm ht hfault hshort)
  · have hfailed : ((s.failTaken index).failJob f.job f.status).job f.job = some (j.failed f.status) := State.job_failJob (s := s.failTaken index) hj
    have hid : (j.failed f.status).id = f.job := State.id_of_job hfailed
    rw [exec_failedPartial hf, State.arriveFailed_of_short (s := s.failTaken index) hj hfailed hm ht hfault hshort]
    exact ⟨_, _, rfl, State.job_failedCounted (s := s.failTaken index) hj hid, j.mem_failed f.status,
      Job.countFailed_merge? (j := j.failed f.status) hm, rfl, rfl⟩

end Sys2Proof.Machine
end

section
/-!
What the shared operations of a Chotaum-W core come to on a ready core (R118, R120, R124, R129, R132, R134, R136, R557), one lemma an outcome.
-/
namespace Sys2Proof.Machine

/-! ### The rows -/

/-- Each instruction of Chotaum-W is run by its own meaning. -/
theorem exec_coreWord :
    (∀ i rd ra rb fn e s, exec (.alu i rd ra rb fn e) s = execAlu i rd ra rb fn e s) ∧
    (∀ i rd ra imm e s, exec (.addi i rd ra imm e) s = execAddi i rd ra imm e s) ∧
    (∀ i rd ra imm e s, exec (.andi i rd ra imm e) s = execAndi i rd ra imm e s) ∧
    (∀ i rd ra imm e s, exec (.ori i rd ra imm e) s = execOri i rd ra imm e s) ∧
    (∀ i rd ra imm e s, exec (.xori i rd ra imm e) s = execXori i rd ra imm e s) ∧
    (∀ i rd ra imm e s, exec (.slti i rd ra imm e) s = execSlti i rd ra imm e s) ∧
    (∀ i rd ra imm e s, exec (.sltiu i rd ra imm e) s = execSltiu i rd ra imm e s) ∧
    (∀ i rd ra imm e s, exec (.shi i rd ra imm e) s = execShi i rd ra imm e s) ∧
    (∀ i rd ra imm e s, exec (.orhi i rd ra imm e) s = execOrhi i rd ra imm e s) ∧
    (∀ i rd imm e s, exec (.addpc i rd imm e) s = execAddpc i rd imm e s) ∧
    (∀ i rd ra imm ans e s, exec (.lb i rd ra imm ans e) s = execLb i rd ra imm ans e s) ∧
    (∀ i rd ra imm ans e s, exec (.lh i rd ra imm ans e) s = execLh i rd ra imm ans e s) ∧
    (∀ i rd ra imm ans e s, exec (.lw i rd ra imm ans e) s = execLw i rd ra imm ans e s) ∧
    (∀ i rd ra imm ans e s, exec (.ld i rd ra imm ans e) s = execLd i rd ra imm ans e s) ∧
    (∀ i rd ra imm ans e s, exec (.lbu i rd ra imm ans e) s = execLbu i rd ra imm ans e s) ∧
    (∀ i rd ra imm ans e s, exec (.lhu i rd ra imm ans e) s = execLhu i rd ra imm ans e s) ∧
    (∀ i rd ra imm ans e s, exec (.lwu i rd ra imm ans e) s = execLwu i rd ra imm ans e s) ∧
    (∀ i rb ra imm ans e s, exec (.sb i rb ra imm ans e) s = execSb i rb ra imm ans e s) ∧
    (∀ i rb ra imm ans e s, exec (.sh i rb ra imm ans e) s = execSh i rb ra imm ans e s) ∧
    (∀ i rb ra imm ans e s, exec (.sw i rb ra imm ans e) s = execSw i rb ra imm ans e s) ∧
    (∀ i rb ra imm ans e s, exec (.sd i rb ra imm ans e) s = execSd i rb ra imm ans e s) ∧
    (∀ i rb ra imm e s, exec (.beq i rb ra imm e) s = execBeq i rb ra imm e s) ∧
    (∀ i rb ra imm e s, exec (.bne i rb ra imm e) s = execBne i rb ra imm e s) ∧
    (∀ i rb ra imm e s, exec (.blt i rb ra imm e) s = execBlt i rb ra imm e s) ∧
    (∀ i rb ra imm e s, exec (.bge i rb ra imm e) s = execBge i rb ra imm e s) ∧
    (∀ i rb ra imm e s, exec (.bltu i rb ra imm e) s = execBltu i rb ra imm e s) ∧
    (∀ i rb ra imm e s, exec (.bgeu i rb ra imm e) s = execBgeu i rb ra imm e s) ∧
    (∀ i rd disp e s, exec (.jal i rd disp e) s = execJal i rd disp e s) ∧
    (∀ i rd ra imm e s, exec (.jalr i rd ra imm e) s = execJalr i rd ra imm e s) ∧
    (∀ i rd ra rb fn ans e s, exec (.atom i rd ra rb fn ans e) s = execAtom i rd ra rb fn ans e s) ∧
    (∀ i e s, exec (.fenceRw i e) s = execFenceRw i e s) ∧
    (∀ i e s, exec (.fenceW i e) s = execFenceW i e s) ∧
    (∀ i e s, exec (.fenceIo i e) s = execFenceIo i e s) ∧
    (∀ i e s, exec (.fenceI i e) s = execFenceI i e s) ∧
    (∀ i rd ra imm e s, exec (.csrrw i rd ra imm e) s = execCsrrw i rd ra imm e s) ∧
    (∀ i rd ra imm e s, exec (.csrrs i rd ra imm e) s = execCsrrs i rd ra imm e s) ∧
    (∀ i rd ra imm e s, exec (.csrrc i rd ra imm e) s = execCsrrc i rd ra imm e s) ∧
    (∀ i rd ra rb e s, exec (.msend i rd ra rb e) s = execMsend i rd ra rb e s) ∧
    (∀ i rd ra e s, exec (.mrecv i rd ra e) s = execMrecv i rd ra e s) ∧
    (∀ i e s, exec (.mwait i e) s = execMwait i e s) ∧
    (∀ i rd e s, exec (.mcount i rd e) s = execMcount i rd e s) ∧
    (∀ i e s, exec (.ecall i e) s = execEcall i e s) ∧
    (∀ i e s, exec (.breakOp i e) s = execBreakOp i e s) ∧
    (∀ i e s, exec (.eret i e) s = execEret i e s) ∧
    (∀ i e s, exec (.wfi i e) s = execWfi i e s) := by
  and_intros <;> intros <;> rfl

/-! ### The error register of the Wellhead (R531, R545) -/

/-- No error of the Wellhead's own register raises an alarm (R545). -/
theorem alarmOf_wellErr (f : Fld) : alarmOf R.WELL_ERR f = none := by
  have hblk : locate R.WELL_ERR = some (.well, 0, 0x20) := by decide
  simp [alarmOf, hblk]

/-- An error of the Wellhead's register changes what registers and messages hold, and nothing else. -/
theorem State.setErr_wellErr_keeps {β : Type} (p : State → β) (hreg : ∀ t o v, p (State.setReg t o v) = p t) (hsend : ∀ t x, p (State.send t x) = p t)
    (s : State) (f : Fld) : p (s.setErr R.WELL_ERR f) = p s := by
  have hvec : vectorOf R.WELL_ERR = some 2 := by decide
  simp only [State.setErr_noAlarm _ _ _ _ (alarmOf_wellErr f), State.setErrOnly, hvec, State.interruptIf]
  split
  · rcases State.interrupt_cases (s.setReg R.WELL_ERR (s.reg R.WELL_ERR ||| BitVec.ofNat 64 (1 * 2 ^ f.lo))) 2 with ⟨h, -⟩ | ⟨h, -⟩
    · rw [h, hsend, hreg]
    · rw [h, hreg, hreg]
  · exact hreg _ _ _

@[simp] theorem State.setErr_wellErr_pending (s : State) (f : Fld) : (s.setErr R.WELL_ERR f).pending = s.pending :=
  State.setErr_wellErr_keeps _ State.setReg_pending State.send_pending s f

@[simp] theorem State.setErr_wellErr_core (s : State) (f : Fld) (i : Nat) : (s.setErr R.WELL_ERR f).core i = s.core i :=
  State.setErr_wellErr_keeps (fun t => t.core i) (fun _ _ _ => rfl) (fun _ _ => rfl) s f

/-! ### Outcomes on a ready core -/

section Ready
variable {s t : State} {i : Fin 8} {f : WCore → WOut} (h : coreReady s i)
include h

theorem State.runOn_of_ready : s.runOn i .ok f = .next (s.runWord i (f (s.core i))) := by
  obtain ⟨hrun, hclock, hpc⟩ := h
  exact s.runOn_ready i f hrun hclock hpc

theorem State.runOn_of_retire {c : WCore} {pc : Nat} (hf : f (s.core i) = .retire t c pc) : s.runOn i .ok f = .next (retired t i c pc) := by
  rw [State.runOn_of_ready h, hf]
  rfl

/-- An instruction with a value for rd and the pc past itself (R121). -/
theorem State.runOn_of_write {c : WCore} {rd : Fin 32} {v : Nat} (hf : f (s.core i) = c.write t rd v) :
    s.runOn i .ok f = .next (retired t i (c.set rd v) ((c.pc + 4) % two64)) :=
  State.runOn_of_retire h hf

theorem State.runOn_of_exc {epc cause eval : Nat} (hf : f (s.core i) = .exc t epc cause eval) (hexl : (t.core i).exl = false) :
    s.runOn i .ok f = .next (entered t i epc cause eval) := by
  rw [State.runOn_of_ready h, hf, State.runWord, State.takeExc_entry _ _ _ _ _ hexl]
  rfl

/-- An exception of a core whose EXL is 1 stops it (R136). -/
theorem State.runOn_of_exc_stops {epc cause eval : Nat} (hf : f (s.core i) = .exc t epc cause eval) (hexl : (t.core i).exl = true) :
    ∃ u, s.runOn i .ok f = .next u ∧ (u.core i).st = .stopped := by
  refine ⟨_, State.runOn_of_ready h, ?_⟩
  rw [hf]
  simp only [State.runWord, State.takeExc, hexl, if_true, State.stopCore]
  have hcore : ∀ u : State, ((u.setCore i { t.core i with eval := eval, st := .stopped }).core i).st = .stopped := by simp
  split
  · rw [State.setErr_wellErr_core, hcore]
  · exact (congrArg WCore.st (State.setErr_wellErr_core _ _ _)).trans (hcore t)

end Ready

/-! ### Control registers (R132) -/

section Csr
variable {s t : State} {i op n : Nat} {c d : WCore} {rd ra : Fin 32} {imm : BitVec 16} {w : Bool} {f : Nat → Nat → Nat} {old : Nat}

theorem State.csrOp_of_reserved (h : bitsOf imm.toNat 12 4 ≠ 0) : s.csrOp i c op rd ra imm w f = .exc s c.pc ecIllegal (wordB op rd ra imm) := if_pos h

variable (hres : bitsOf imm.toNat 12 4 = 0) (hn : bitsOf imm.toNat 0 12 = n)
include hres hn

theorem State.csrOp_of_unlisted (h : s.csrRead i c n = none) : s.csrOp i c op rd ra imm w f = .exc s c.pc ecCsr (wordB op rd ra imm) := by
  simp [State.csrOp, hres, hn, h]

theorem State.csrOp_of_readOnly (h : csrReadOnly n = true) : s.csrOp i c op rd ra imm true f = .exc s c.pc ecCsr (wordB op rd ra imm) := by
  rcases hread : s.csrRead i c n with _ | ⟨t, d, old⟩
  · exact State.csrOp_of_unlisted hres hn hread
  · simp [State.csrOp, hres, hn, h, hread]

variable (hread : s.csrRead i c n = some (t, d, old))
include hread

theorem State.csrOp_of_noWrite : s.csrOp i c op rd ra imm false f = d.write t rd old := by simp [State.csrOp, hres, hn, hread]

theorem State.csrOp_of_write (h : csrReadOnly n = false) :
    s.csrOp i c op rd ra imm true f = (d.csrWrite n (f old (c.get ra))).write t rd old := by
  simp [State.csrOp, hres, hn, hread, h]

end Csr

end Sys2Proof.Machine
end

section
/-!
Every core command keeps every core's registers in form (R118, R132 to R136): what an instruction comes to leaves a core in order, and so does what
follows of it.
-/
namespace Sys2Proof

/-! ### What a table lists -/

theorem Tbl.mem_of_mem_insert {α : Type} {k : Nat} {v : α} {t : Tbl α} {e : Nat × α} (h : e ∈ Tbl.insert k v t) : e = (k, v) ∨ e ∈ t := by
  induction t with
  | nil => exact .inl (by simpa [Tbl.insert] using h)
  | cons x t ih =>
    unfold Tbl.insert at h
    split at h
    · simpa using h
    · rcases List.mem_cons.mp h with rfl | h
      · exact .inr (List.mem_cons_self ..)
      · exact (ih h).imp_right (List.mem_cons_of_mem _)

/-- A write lists nothing but its own entry. -/
theorem Tbl.mem_of_mem_set {α : Type} [DecidableEq α] {d : Nat → α} {t : Tbl α} {k : Nat} {v : α} {e : Nat × α} (h : e ∈ Tbl.set d t k v) :
    e = (k, v) ∨ e ∈ t := by
  have hremove : ∀ {x : Nat × α}, x ∈ Tbl.remove t k → x ∈ t := fun hx => (List.mem_filter.mp hx).1
  unfold Tbl.set at h
  split at h
  · exact .inr (hremove h)
  · exact (Tbl.mem_of_mem_insert h).imp_right hremove

/-- What a key holds is its default or listed. -/
theorem Tbl.get_eq_default_or_mem {α : Type} (d : Nat → α) (t : Tbl α) (k : Nat) : Tbl.get d t k = d k ∨ (k, Tbl.get d t k) ∈ t := by
  induction t with
  | nil => exact .inl rfl
  | cons x t ih =>
    obtain ⟨k', v⟩ := x
    unfold Tbl.get
    split
    · next h => exact .inr (by simp [h])
    · exact ih.imp_right (List.mem_cons_of_mem _)

end Sys2Proof

namespace Sys2Proof.Machine

/-! ### A core in order -/

section Core
variable {c : WCore} (hc : c.inOrder)
include hc

theorem WCore.inOrder_pc : c.pc < 2 ^ 64 := by
  obtain ⟨-, hpc, -⟩ := hc
  exact hpc

theorem WCore.inOrder_epc : c.epc < 2 ^ 64 := by
  obtain ⟨-, -, -, -, hepc, -⟩ := hc
  exact hepc

theorem WCore.get_lt (r : Fin 32) : c.get r < 2 ^ 64 := by
  obtain ⟨hx, -⟩ := hc
  unfold WCore.get
  split
  · decide
  · rcases Tbl.get_eq_default_or_mem (fun _ => 0) c.x r with h | h
    · rw [h]; decide
    · exact (hx _ h).2

theorem WCore.set_inOrder (r : Fin 32) (v : Nat) : (c.set r v).inOrder := by
  unfold WCore.set
  split
  · exact hc
  next hr =>
    obtain ⟨hx, hrest⟩ := hc
    refine ⟨fun e he => ?_, hrest⟩
    rcases Tbl.mem_of_mem_set (show e ∈ Tbl.set (fun _ => 0) c.x r (v % two64) from he) with rfl | he
    · exact ⟨fun h => hr (Fin.ext h), Nat.mod_lt _ (by decide)⟩
    · exact hx e he

theorem WCore.withSt_inOrder (st : CoreSt) : WCore.inOrder { c with st := st } := hc

/-- A core that has retired an instruction (R118). -/
theorem WCore.retired_inOrder {pc : Nat} (hpc : pc < 2 ^ 64) : WCore.inOrder { c with pc := pc, instret := (c.instret + 1) % two64 } := by
  obtain ⟨hx, -, hstatus, hestatus, hepc, hecause, heval, hevec, hie, htcmp, hscratch, hkslot, hcycle, -⟩ := hc
  exact ⟨hx, hpc, hstatus, hestatus, hepc, hecause, heval, hevec, hie, htcmp, hscratch, hkslot, hcycle, Nat.mod_lt _ (by decide)⟩

theorem WCore.withCycle_inOrder {v : Nat} (hv : v < 2 ^ 64) : WCore.inOrder { c with cycle := v } := by
  obtain ⟨hx, hpc, hstatus, hestatus, hepc, hecause, heval, hevec, hie, htcmp, hscratch, hkslot, -, hinstret⟩ := hc
  exact ⟨hx, hpc, hstatus, hestatus, hepc, hecause, heval, hevec, hie, htcmp, hscratch, hkslot, hv, hinstret⟩

theorem WCore.withEval_inOrder {v : Nat} (hv : v < 2 ^ 64) : WCore.inOrder { c with eval := v } := by
  obtain ⟨hx, hpc, hstatus, hestatus, hepc, hecause, -, hrest⟩ := hc
  exact ⟨hx, hpc, hstatus, hestatus, hepc, hecause, hv, hrest⟩

theorem WCore.withStatus_inOrder {v : Nat} (hv : v < 4) : WCore.inOrder { c with status := v } := by
  obtain ⟨hx, hpc, -, hrest⟩ := hc
  exact ⟨hx, hpc, hv, hrest⟩

/-- A core that has entered its handler (R134). -/
theorem WCore.enter_inOrder {epc cause eval : Nat} (hepc : epc < 2 ^ 64) (hcause : cause < 2 ^ 64) (heval : eval < 2 ^ 64) :
    (c.enter epc cause eval).inOrder := by
  obtain ⟨hx, -, hstatus, -, -, -, -, hevec, hrest⟩ := hc
  exact ⟨hx, hevec, (by decide : 2 < 4), Nat.lt_trans hstatus (by decide), hepc, hcause, heval, hevec, hrest⟩

/-- A write of a control register leaves it a word of its width (R132, R133). -/
theorem WCore.csrWrite_inOrder {v : Nat} (hv : v < 2 ^ 64) (n : Nat) : (c.csrWrite n v).inOrder := by
  obtain ⟨hx, hpc, hstatus, hestatus, hepc, hecause, heval, hevec, hie, htcmp, hscratch, hkslot, hcycle, hinstret⟩ := hc
  have hvec : v / 4 * 4 < 2 ^ 64 := by omega
  have hslot : v &&& 0xFF01FF < 2 ^ 24 := Nat.and_lt_two_pow _ (by decide)
  have hmode : v % 4 < 4 := Nat.mod_lt _ (by decide)
  unfold WCore.csrWrite
  split <;> refine ⟨hx, ?_, ?_, ?_, ?_, ?_, ?_, ?_, ?_, ?_, ?_, ?_, ?_, ?_⟩ <;> assumption

/-- What a read of a control register leaves is in order, and a register that may be written holds a word of 64 bits. -/
theorem State.csrRead_inOrder {s t : State} {i n old : Nat} {d : WCore} (h : s.csrRead i c n = some (t, d, old)) :
    t.pending = s.pending ∧ t.cores = s.cores ∧ d.inOrder ∧ (csrReadOnly n = false → old < 2 ^ 64) := by
  obtain ⟨hx, hpc, hstatus, hestatus, hepc, hecause, heval, hevec, hie, htcmp, hscratch, hkslot, hcycle, hinstret⟩ := id hc
  unfold State.csrRead at h
  split at h
  case h_17 => cases h
  case h_2 =>
    simp only [Option.some.injEq, Prod.mk.injEq] at h
    obtain ⟨rfl, rfl, rfl⟩ := h
    exact ⟨rfl, rfl, WCore.withCycle_inOrder hc (Nat.mod_lt _ (by decide)), fun _ => Nat.mod_lt _ (by decide)⟩
  all_goals
    simp only [Option.some.injEq, Prod.mk.injEq] at h
    obtain ⟨rfl, rfl, rfl⟩ := h
    refine ⟨rfl, rfl, hc, fun hro => ?_⟩
  case h_1 | h_3 | h_4 | h_12 | h_15 => exact absurd hro (by decide)
  all_goals omega

end Core

/-! ### States whose cores are in order -/

/-- A state's commands wait as in another, and its cores are in order. -/
def State.KeepsForm (s t : State) : Prop := t.pending = s.pending ∧ ∀ i, (t.core i).inOrder

section Form
variable {s t : State} (hs : s.KeepsForm t)
include hs

theorem State.KeepsForm.setCore (i : Nat) {c : WCore} (hc : c.inOrder) : s.KeepsForm (t.setCore i c) := by
  obtain ⟨hpending, hcores⟩ := hs
  refine ⟨hpending, fun k => ?_⟩
  by_cases hk : k = i
  · rw [hk, State.core_setCore_same]; exact hc
  · rw [State.core_setCore_ne _ _ _ _ hk]; exact hcores k

theorem State.KeepsForm.setErr_wellErr (f : Fld) : s.KeepsForm (t.setErr R.WELL_ERR f) := by
  obtain ⟨hpending, hcores⟩ := hs
  exact ⟨(State.setErr_wellErr_pending t f).trans hpending, fun k => by rw [State.setErr_wellErr_core]; exact hcores k⟩

theorem State.KeepsForm.stopCore (i : Nat) {c : WCore} (hc : c.inOrder) : s.KeepsForm (t.stopCore i c) := by
  have herr := (hs.setCore i (c := { c with st := .stopped }) hc).setErr_wellErr F.WELL_ERR_CORE_STOP
  unfold State.stopCore
  simp only
  split
  · exact herr
  · exact herr

/-- A synchronous exception, whether it is an entry or a stop (R134, R136). -/
theorem State.KeepsForm.takeExc (i : Nat) {epc cause eval : Nat} (hepc : epc < 2 ^ 64) (hcause : cause < 2 ^ 64) (heval : eval < 2 ^ 64) :
    s.KeepsForm (t.takeExc i epc cause eval) := by
  obtain ⟨-, hcores⟩ := id hs
  unfold State.takeExc
  simp only
  split
  · exact hs.stopCore i (WCore.withEval_inOrder (hcores i) heval)
  · exact hs.setCore i (WCore.enter_inOrder (hcores i) hepc hcause heval)

end Form

/-! ### Outcomes that leave a core in order -/

/-- What an instruction without an access of memory comes to on a state: it retires a core in order, waits, or raises, with words of 64 bits. -/
def WOut.InForm (s : State) : WOut → Prop
  | .stall => True
  | .replaced _ => False
  | .exc t epc cause eval => t = s ∧ epc < 2 ^ 64 ∧ cause < 2 ^ 64 ∧ eval < 2 ^ 64
  | .retire t c pc => t.pending = s.pending ∧ t.cores = s.cores ∧ c.inOrder ∧ pc < 2 ^ 64

theorem State.runWord_keepsForm {s : State} (hs : ∀ i, (s.core i).inOrder) (i : Nat) {o : WOut} (ho : o.InForm s) : s.KeepsForm (s.runWord i o) := by
  have hself : s.KeepsForm s := ⟨rfl, hs⟩
  cases o with
  | stall => exact hself
  | replaced t => exact ho.elim
  | exc t epc cause eval =>
    obtain ⟨rfl, hepc, hcause, heval⟩ := ho
    exact hself.takeExc i hepc hcause heval
  | retire t c pc =>
    obtain ⟨hpending, hcores, hc, hpc⟩ := ho
    have ht : s.KeepsForm t := ⟨hpending, fun k => by rw [State.core, hcores]; exact hs k⟩
    exact ht.setCore i (WCore.retired_inOrder hc hpc)

/-- An instruction whose own function keeps the form keeps it through every error of the core's memories, too (R124, R135, R507, R557). -/
theorem State.runOn_keepsForm {s : State} (hs : ∀ i, (s.core i).inOrder) (i : Nat) (ecc : Ecc) {f : WCore → WOut} (hf : (f (s.core i)).InForm s) :
    ∃ t, s.runOn i ecc f = .next t ∧ s.KeepsForm t := by
  have hself : s.KeepsForm s := ⟨rfl, hs⟩
  have hpc := WCore.inOrder_pc (hs i)
  rcases s.runOn_cases i ecc f with h | h | ⟨a, h⟩ | h | h
  · exact ⟨_, h, hself⟩
  · exact ⟨_, h, hself.takeExc i hpc (by decide) hpc⟩
  · exact ⟨_, h, (hself.takeExc i hpc (by decide) a.isLt).setErr_wellErr _⟩
  · exact ⟨_, h, (State.runWord_keepsForm hs i hf).setErr_wellErr _⟩
  · exact ⟨_, h, State.runWord_keepsForm hs i hf⟩

section Outcomes
variable {c : WCore} (hc : c.inOrder) (s : State)
include hc

theorem WCore.retirePast_inForm : (WOut.retire s c ((c.pc + 4) % two64)).InForm s := ⟨rfl, rfl, hc, Nat.mod_lt _ (by decide)⟩

theorem WCore.write_inForm (rd : Fin 32) (v : Nat) : (c.write s rd v).InForm s :=
  ⟨rfl, rfl, WCore.set_inOrder hc rd v, Nat.mod_lt _ (by decide)⟩

theorem WCore.jump_inForm (i : Nat) {target : Nat} (h : target < 2 ^ 64) : (c.jump s i target).InForm s := by
  unfold WCore.jump
  split
  · exact ⟨rfl, rfl, hc, h⟩
  · exact ⟨rfl, h, by decide, h⟩

theorem State.branchOp_inForm (i : Nat) (cond : Bool) (imm : BitVec 16) : (s.branchOp i c cond imm).InForm s := by
  unfold State.branchOp
  split
  · exact WCore.jump_inForm hc s i (Nat.mod_lt _ (by decide))
  · exact WCore.retirePast_inForm hc s

theorem WCore.exc_inForm {cause eval : Nat} (hcause : cause < 2 ^ 64) (heval : eval < 2 ^ 64) : (WOut.exc s c.pc cause eval).InForm s :=
  ⟨rfl, WCore.inOrder_pc hc, hcause, heval⟩

end Outcomes

theorem wordA_lt (rd ra rb : Fin 32) (fn : BitVec 11) : wordA 0 rd ra rb fn < 2 ^ 64 := by
  unfold wordA
  omega

theorem wordB_lt {op : Nat} (h : op < 64) (rd ra : Fin 32) (imm : BitVec 16) : wordB op rd ra imm < 2 ^ 64 := by
  unfold wordB
  omega

theorem State.csrOp_inForm {c : WCore} (hc : c.inOrder) (s : State) (i : Nat) {op : Nat} (hop : op < 64) (rd ra : Fin 32) (imm : BitVec 16) (w : Bool)
    {f : Nat → Nat → Nat} (hf : ∀ old v, old < 2 ^ 64 → v < 2 ^ 64 → f old v < 2 ^ 64) : (s.csrOp i c op rd ra imm w f).InForm s := by
  have hword := wordB_lt hop rd ra imm
  by_cases hres : bitsOf imm.toNat 12 4 = 0
  case neg =>
    rw [State.csrOp_of_reserved hres]
    exact WCore.exc_inForm hc s (by decide) hword
  rcases hread : s.csrRead i c (bitsOf imm.toNat 0 12) with _ | ⟨t, d, old⟩
  · rw [State.csrOp_of_unlisted hres rfl hread]
    exact WCore.exc_inForm hc s (by decide) hword
  obtain ⟨hpending, hcores, hd, hold⟩ := State.csrRead_inOrder hc hread
  have hwrite : ∀ e : WCore, e.inOrder → (e.write t rd old).InForm s := fun e he =>
    ⟨hpending, hcores, WCore.set_inOrder he rd old, Nat.mod_lt _ (by decide)⟩
  cases w with
  | false =>
    rw [State.csrOp_of_noWrite hres rfl hread]
    exact hwrite d hd
  | true =>
    cases hro : csrReadOnly (bitsOf imm.toNat 0 12) with
    | true =>
      rw [State.csrOp_of_readOnly hres rfl hro]
      exact WCore.exc_inForm hc s (by decide) hword
    | false =>
      rw [State.csrOp_of_write hres rfl hread hro]
      exact hwrite _ (WCore.csrWrite_inOrder hd (hf _ _ (hold hro) (WCore.get_lt hc ra)) _)

/-! ### Wakes, timers and interrupts (R133 to R136) -/

/-- The codes of an interrupt are 1 to 5 (R135). -/
theorem WCore.pendingCode_le {c : WCore} {k : Nat} (h : c.pendingCode = some k) : k ≤ 5 := by
  have hmem := List.mem_of_find?_eq_some h
  have hle : ∀ n ∈ [1, 2, 3, 4, 5], n ≤ 5 := by decide
  exact hle k hmem

section Rows
variable {s : State} (hs : ∀ i, (s.core i).inOrder)
include hs

theorem coreWake_keepsForm (i : Fin 8) : ∃ t, exec (.coreWake i) s = .next t ∧ s.KeepsForm t := by
  have hself : s.KeepsForm s := ⟨rfl, hs⟩
  show ∃ t, execCoreWake i s = .next t ∧ s.KeepsForm t
  simp only [execCoreWake]
  split
  · exact ⟨_, rfl, hself.setCore i (WCore.withSt_inOrder (hs i) .running)⟩
  · exact ⟨_, rfl, hself⟩

theorem timerInterrupt_keepsForm (i : Fin 8) : ∃ t, exec (.timerInterrupt i) s = .next t ∧ s.KeepsForm t := by
  have hself : s.KeepsForm s := ⟨rfl, hs⟩
  obtain ⟨-, -, -, -, -, -, -, -, -, htcmp, -⟩ := hs i
  show ∃ t, execTimerInterrupt i s = .next t ∧ s.KeepsForm t
  simp only [execTimerInterrupt]
  split
  · exact ⟨_, rfl, hself.setCore i (WCore.withCycle_inOrder (hs i) htcmp)⟩
  · exact ⟨_, rfl, hself⟩

theorem interruptEntry_keepsForm (i : Fin 8) : ∃ t, exec (.interruptEntry i) s = .next t ∧ s.KeepsForm t := by
  have hself : s.KeepsForm s := ⟨rfl, hs⟩
  show ∃ t, execInterruptEntry i s = .next t ∧ s.KeepsForm t
  simp only [execInterruptEntry]
  split
  · exact ⟨_, rfl, hself⟩
  next k hk =>
    have hcode : 2 ^ 63 + k < 2 ^ 64 := by have := WCore.pendingCode_le hk; omega
    have henter := WCore.enter_inOrder (hs i) (WCore.inOrder_pc (hs i)) hcode (Nat.mod_lt (Config.freeNat s.fresh) (by decide))
    have htick : s.KeepsForm s.tick := hself
    split
    · exact ⟨_, rfl, hself⟩
    · refine ⟨_, rfl, htick.setCore i ?_⟩
      split
      · exact henter
      · exact henter

/-! ### Every core command -/

theorem illegalInstr_keepsForm (i : Fin 8) (w : BitVec 32) (ecc : Ecc) : ∃ t, exec (.illegalInstr i w ecc) s = .next t ∧ s.KeepsForm t := by
  show ∃ t, execIllegalInstr i w ecc s = .next t ∧ s.KeepsForm t
  unfold execIllegalInstr
  split
  · exact ⟨s, rfl, rfl, hs⟩
  · exact State.runOn_keepsForm hs i ecc (WCore.exc_inForm (hs i) s (by decide) (by omega))

theorem alu_keepsForm (i : Fin 8) (rd ra rb : Fin 32) (fn : BitVec 11) (ecc : Ecc) : ∃ t, exec (.alu i rd ra rb fn ecc) s = .next t ∧ s.KeepsForm t := by
  simp only [exec_coreWord]
  refine State.runOn_keepsForm hs i ecc ?_
  split
  · exact WCore.exc_inForm (hs i) s (by decide) (wordA_lt rd ra rb fn)
  · split
    · exact WCore.exc_inForm (hs i) s (by decide) (wordA_lt rd ra rb fn)
    · exact WCore.write_inForm (hs i) s rd _

theorem shi_keepsForm (i : Fin 8) (rd ra : Fin 32) (imm : BitVec 16) (ecc : Ecc) : ∃ t, exec (.shi i rd ra imm ecc) s = .next t ∧ s.KeepsForm t := by
  simp only [exec_coreWord]
  refine State.runOn_keepsForm hs i ecc ?_
  simp only
  split
  · exact WCore.exc_inForm (hs i) s (by decide) (wordB_lt (by decide) rd ra imm)
  · exact WCore.write_inForm (hs i) s rd _

theorem fenceRw_keepsForm (i : Fin 8) (ecc : Ecc) : ∃ t, exec (.fenceRw i ecc) s = .next t ∧ s.KeepsForm t := by
  simp only [exec_coreWord]
  refine State.runOn_keepsForm hs i ecc ?_
  split
  · trivial
  · exact WCore.retirePast_inForm (c := { s.core i with stores := [] }) (hs i) s

/-- An instruction that waits leaves a core in order, whether it waits or not (R136, R139). -/
theorem waiting_inForm (i : Fin 8) (p : Prop) [Decidable p] (st : CoreSt) :
    (WOut.retire s (if p then s.core i else { s.core i with st := st }) (((s.core i).pc + 4) % two64)).InForm s := by
  refine ⟨rfl, rfl, ?_, Nat.mod_lt _ (by decide)⟩
  split
  · exact hs i
  · exact WCore.withSt_inOrder (hs i) st

theorem eret_keepsForm (i : Fin 8) (ecc : Ecc) : ∃ t, exec (.eret i ecc) s = .next t ∧ s.KeepsForm t := by
  simp only [exec_coreWord]
  exact State.runOn_keepsForm hs i ecc ⟨rfl, rfl, WCore.withStatus_inOrder (hs i) (Nat.mod_lt _ (by decide)), WCore.inOrder_epc (hs i)⟩

/-- A core command answers a state whose cores are in order, with the commands that wait as they were. -/
theorem coreCommand_keepsForm {c : Instr} (h : coreCommand c = true) : ∃ t, exec c s = .next t ∧ s.KeepsForm t := by
  cases c with
  | alu i rd ra rb fn ecc => exact alu_keepsForm hs i rd ra rb fn ecc
  | shi i rd ra imm ecc => exact shi_keepsForm hs i rd ra imm ecc
  | addi i rd ra imm ecc | andi i rd ra imm ecc | ori i rd ra imm ecc | xori i rd ra imm ecc | slti i rd ra imm ecc | sltiu i rd ra imm ecc
  | orhi i rd ra imm ecc | addpc i rd imm ecc | mcount i rd ecc =>
    simp only [exec_coreWord]
    exact State.runOn_keepsForm hs i ecc (WCore.write_inForm (hs i) s rd _)
  | beq i rb ra imm ecc | bne i rb ra imm ecc | blt i rb ra imm ecc | bge i rb ra imm ecc | bltu i rb ra imm ecc | bgeu i rb ra imm ecc =>
    simp only [exec_coreWord]
    exact State.runOn_keepsForm hs i ecc (State.branchOp_inForm (hs i) s i _ imm)
  | jal i rd disp ecc =>
    simp only [exec_coreWord]
    exact State.runOn_keepsForm hs i ecc (WCore.jump_inForm (WCore.set_inOrder (hs i) rd _) s i (Nat.mod_lt _ (by decide)))
  | jalr i rd ra imm ecc =>
    simp only [exec_coreWord]
    refine State.runOn_keepsForm hs i ecc (WCore.jump_inForm (WCore.set_inOrder (hs i) rd _) s i ?_)
    have hsum : ((s.core i).get ra + sext64 imm) % two64 < 2 ^ 64 := Nat.mod_lt _ (by decide)
    omega
  | fenceRw i ecc => exact fenceRw_keepsForm hs i ecc
  | fenceW i ecc | fenceIo i ecc | fenceI i ecc =>
    simp only [exec_coreWord]
    exact State.runOn_keepsForm hs i ecc (WCore.retirePast_inForm (hs i) s)
  | csrrw i rd ra imm ecc =>
    simp only [exec_coreWord]
    exact State.runOn_keepsForm hs i ecc (State.csrOp_inForm (hs i) s i (by decide) rd ra imm _ (fun _ _ _ hv => hv))
  | csrrs i rd ra imm ecc =>
    simp only [exec_coreWord]
    exact State.runOn_keepsForm hs i ecc (State.csrOp_inForm (hs i) s i (by decide) rd ra imm _ (fun _ _ hold hv => Nat.or_lt_two_pow hold hv))
  | csrrc i rd ra imm ecc =>
    simp only [exec_coreWord]
    exact State.runOn_keepsForm hs i ecc
      (State.csrOp_inForm (hs i) s i (by decide) rd ra imm _ (fun _ _ hold _ => Nat.lt_of_le_of_lt Nat.and_le_left hold))
  | mwait i ecc =>
    simp only [exec_coreWord]
    exact State.runOn_keepsForm hs i ecc (waiting_inForm hs i _ .mwait)
  | wfi i ecc =>
    simp only [exec_coreWord]
    exact State.runOn_keepsForm hs i ecc (waiting_inForm hs i _ .wfi)
  | ecall i ecc | breakOp i ecc =>
    simp only [exec_coreWord]
    exact State.runOn_keepsForm hs i ecc (WCore.exc_inForm (hs i) s (by decide) (by decide))
  | eret i ecc => exact eret_keepsForm hs i ecc
  | illegalInstr i w ecc => exact illegalInstr_keepsForm hs i w ecc
  | coreWake i => exact coreWake_keepsForm hs i
  | timerInterrupt i => exact timerInterrupt_keepsForm hs i
  | interruptEntry i => exact interruptEntry_keepsForm hs i
  | _ => cases h

end Rows

/-- Settles O16: the command in front keeps the form, and the commands behind it stay core commands. -/
theorem coresKeepTheirForm : Obligations.CoresKeepTheirForm := by
  unfold Obligations.CoresKeepTheirForm
  intro s t hcommands hs hstep
  rcases hp : s.pending with _ | ⟨c, rest⟩
  · rw [step_of_idle hp] at hstep
    cases hstep
    exact ⟨hcommands, hs⟩
  · have hsplit : s = { { s with pending := rest } with pending := c :: rest } := by rw [← hp]
    rw [hsplit, step_cons] at hstep
    rw [hp] at hcommands
    obtain ⟨u, hu, hpending, hcores⟩ := coreCommand_keepsForm (s := { s with pending := rest }) hs (hcommands c (List.mem_cons_self ..))
    cases hu.symm.trans hstep
    exact ⟨fun k hk => hcommands k (List.mem_cons_of_mem _ (by rwa [hpending] at hk)), hcores⟩

/-! ### The form at reset -/

theorem coreReset_inOrder (i : Nat) : (coreReset i).inOrder := by
  unfold coreReset
  split
  · unfold WCore.inOrder; decide
  · split <;> unfold WCore.inOrder <;> decide

/-- Settles O17: every core is as its own reset leaves it (R133, R142). -/
theorem coresInFormAtReset : Obligations.CoresInFormAtReset := by
  unfold Obligations.CoresInFormAtReset
  have hcore : ∀ i, State.reset.core i = coreReset i := fun _ => rfl
  refine ⟨fun i => (hcore i).symm ▸ coreReset_inOrder i, rfl, rfl, fun i r => ?_, fun i hi => ?_⟩
  · have hx : (coreReset i).x = [] := by unfold coreReset; split <;> [rfl; split <;> rfl]
    rw [hcore, WCore.get, hx]
    exact ite_self 0
  · rw [hcore, coreReset, if_neg (by omega)]
    split <;> rfl

end Sys2Proof.Machine
end

section
/-!
The functions of the ALU as operations on words (R122, R123): two's complement as `BitVec` reads it, then one lemma for each function that is not
the operation by definition.
-/
namespace Sys2Proof.Machine

/-! ### Two's complement -/

theorem signedOf_toNat {w : Nat} (a : BitVec w) : signedOf a.toNat w = a.toInt := by
  have hhalf : a.toNat < 2 ^ (w - 1) ↔ 2 * a.toNat < 2 ^ w := by
    cases w with
    | zero => simp [BitVec.eq_nil a]
    | succ n => rw [Nat.pow_succ, Nat.add_sub_cancel]; omega
  rw [signedOf, Nat.mod_eq_of_lt a.isLt, BitVec.toInt_eq_toNat_cond]
  simp only [hhalf, Int.ofNat_eq_natCast]
  split <;> simp

theorem unsignedOf_eq (x : Int) (w : Nat) : unsignedOf x w = (BitVec.ofInt w x).toNat := by
  rw [unsignedOf, BitVec.toNat_ofInt]
  norm_cast

theorem unsignedOf_lt (x : Int) (w : Nat) : unsignedOf x w < 2 ^ w := by
  rw [unsignedOf_eq]
  exact BitVec.isLt _

/-- The word of a number that a word's sign gives is that word. -/
theorem unsignedOf_toInt {w : Nat} (a : BitVec w) : unsignedOf a.toInt w = a.toNat := by
  rw [unsignedOf_eq, BitVec.ofInt_toInt]

/-! ### The functions, one by one -/

section Functions
variable (a b : BitVec 64)

theorem aluFn_sub : aluFn 64 .sub a.toNat b.toNat = (a - b).toNat := by
  simp only [aluFn, BitVec.toNat_sub]
  omega

theorem aluFn_sll : aluFn 64 .sll a.toNat b.toNat = (a <<< (b.toNat % 64)).toNat := by
  simp only [aluFn, BitVec.toNat_shiftLeft, Nat.shiftLeft_eq]

theorem aluFn_srl : aluFn 64 .srl a.toNat b.toNat = (a >>> (b.toNat % 64)).toNat := by
  simp only [aluFn, BitVec.toNat_ushiftRight, Nat.shiftRight_eq_div_pow]

theorem aluFn_sra : aluFn 64 .sra a.toNat b.toNat = (a.sshiftRight (b.toNat % 64)).toNat := by
  have hshift : a.toInt / 2 ^ (b.toNat % 64) = (a.sshiftRight (b.toNat % 64)).toInt := by
    rw [BitVec.toInt_sshiftRight, Int.shiftRight_eq_div_pow]
    norm_cast
  simp only [aluFn, signedOf_toNat, hshift, unsignedOf_toInt]

theorem aluFn_slt : aluFn 64 .slt a.toNat b.toNat = if a.toInt < b.toInt then 1 else 0 := by
  simp only [aluFn, signedOf_toNat]

theorem aluFn_min : aluFn 64 .min a.toNat b.toNat = (if b.toInt < a.toInt then b else a).toNat := by
  simp only [aluFn, signedOf_toNat, apply_ite BitVec.toNat]

theorem aluFn_max : aluFn 64 .max a.toNat b.toNat = (if a.toInt < b.toInt then b else a).toNat := by
  simp only [aluFn, signedOf_toNat, apply_ite BitVec.toNat]

theorem aluFn_minu : aluFn 64 .minu a.toNat b.toNat = (if b < a then b else a).toNat := by
  simp only [aluFn, BitVec.lt_def, apply_ite BitVec.toNat]

theorem aluFn_maxu : aluFn 64 .maxu a.toNat b.toNat = (if a < b then b else a).toNat := by
  simp only [aluFn, BitVec.lt_def, apply_ite BitVec.toNat]

/-- The high half of a product, signed: the product of the two words widened is that of their signed values. -/
theorem aluFn_mulh : aluFn 64 .mulh a.toNat b.toNat = (((a.signExtend 128 * b.signExtend 128) >>> 64).setWidth 64).toNat := by
  have hprod : a.signExtend 128 * b.signExtend 128 = BitVec.ofInt 128 (a.toInt * b.toInt) := (BitVec.ofInt_mul _ _).symm
  rw [hprod]
  simp only [aluFn, signedOf_toNat, unsignedOf, BitVec.toNat_setWidth, BitVec.toNat_ushiftRight, BitVec.toNat_ofInt, Nat.shiftRight_eq_div_pow]
  omega

theorem aluFn_mulhu : aluFn 64 .mulhu a.toNat b.toNat = (((a.setWidth 128 * b.setWidth 128) >>> 64).setWidth 64).toNat := by
  have hprod : a.toNat * b.toNat < 2 ^ 128 := (Nat.mul_lt_mul'' a.isLt b.isLt).trans_eq (by norm_num)
  simp only [aluFn, BitVec.toNat_setWidth, BitVec.toNat_ushiftRight, BitVec.toNat_mul, Nat.shiftRight_eq_div_pow]
  rw [Nat.mod_eq_of_lt (a.isLt.trans (by norm_num) : a.toNat < 2 ^ 128), Nat.mod_eq_of_lt (b.isLt.trans (by norm_num) : b.toNat < 2 ^ 128),
    Nat.mod_eq_of_lt hprod]

theorem toNat_eq_zero_iff : b.toNat = 0 ↔ b = 0 := by
  rw [← BitVec.toNat_inj]
  rfl

theorem aluFn_div : aluFn 64 .div a.toNat b.toNat = (if b = 0 then BitVec.allOnes 64 else a.sdiv b).toNat := by
  have hquot : BitVec.ofInt 64 (a.toInt.tdiv b.toInt) = a.sdiv b := by
    rw [← BitVec.toInt_inj, BitVec.toInt_ofInt, BitVec.toInt_sdiv]
  simp only [aluFn, divSigned, toNat_eq_zero_iff]
  split
  · simp
  · rw [signedOf_toNat, signedOf_toNat, unsignedOf_eq, hquot]

theorem aluFn_rem : aluFn 64 .rem a.toNat b.toNat = (if b = 0 then a else a.srem b).toNat := by
  simp only [aluFn, divSigned, toNat_eq_zero_iff]
  split
  · rfl
  · rw [signedOf_toNat, signedOf_toNat, ← BitVec.toInt_srem, unsignedOf_toInt]

theorem aluFn_divu : aluFn 64 .divu a.toNat b.toNat = (if b = 0 then BitVec.allOnes 64 else a / b).toNat := by
  simp only [aluFn, toNat_eq_zero_iff]
  split
  · simp
  · rw [BitVec.toNat_udiv]

theorem aluFn_remu : aluFn 64 .remu a.toNat b.toNat = (if b = 0 then a else a % b).toNat := by
  simp only [aluFn, toNat_eq_zero_iff]
  split
  · rfl
  · rw [BitVec.toNat_umod]

end Functions

/-! ### Every value fits 64 bits -/

theorem popCount_le (v n : Nat) : popCount v n ≤ n := by
  induction n with
  | zero => exact Nat.le_refl 0
  | succ n ih =>
    unfold popCount
    split <;> omega

theorem leadingZeros_le (v n : Nat) : leadingZeros v n ≤ n := by
  induction n with
  | zero => exact Nat.le_refl 0
  | succ n ih =>
    unfold leadingZeros
    split <;> omega

theorem trailingZeros_le (v i n : Nat) : trailingZeros v i n ≤ n := by
  induction n generalizing i with
  | zero => exact Nat.le_refl 0
  | succ n ih =>
    have := ih (i + 1)
    unfold trailingZeros
    split <;> omega

theorem aluFn_lt (k : AluFn) {a b : Nat} (ha : a < 2 ^ 64) (hb : b < 2 ^ 64) : aluFn 64 k a b < 2 ^ 64 := by
  have hcount : ∀ {n : Nat}, n ≤ 64 → n < 2 ^ 64 := fun h => Nat.lt_of_le_of_lt h (by decide)
  have hbit : ∀ p : Prop, [Decidable p] → (if p then 1 else 0) < 2 ^ 64 := fun p _ => by split <;> decide
  have hone : ∀ p : Prop, [Decidable p] → (if p then b else a) < 2 ^ 64 := fun p _ => by split <;> assumption
  cases k with
  | add | sub | sll | mul | mulhu => exact Nat.mod_lt _ (by decide)
  | sra | mulh => exact unsignedOf_lt _ 64
  | bitAnd => exact Nat.lt_of_le_of_lt Nat.and_le_left ha
  | bitOr => exact Nat.or_lt_two_pow ha hb
  | bitXor => exact Nat.xor_lt_two_pow ha hb
  | srl => exact Nat.lt_of_le_of_lt (Nat.div_le_self _ _) ha
  | slt | sltu => exact hbit _
  | min | max | minu | maxu => exact hone _
  | div =>
    simp only [aluFn, divSigned]
    split
    · exact Nat.sub_lt (by decide) (by decide)
    · exact unsignedOf_lt _ 64
  | rem =>
    simp only [aluFn, divSigned]
    split
    · exact ha
    · exact unsignedOf_lt _ 64
  | divu =>
    simp only [aluFn]
    split
    · decide
    · exact Nat.lt_of_le_of_lt (Nat.div_le_self _ _) ha
  | remu =>
    simp only [aluFn]
    split
    · exact ha
    · exact Nat.lt_of_le_of_lt (Nat.mod_le _ _) ha
  | popc => exact hcount (popCount_le _ _)
  | clz => exact hcount (leadingZeros_le _ _)
  | ctz => exact hcount (trailingZeros_le _ _ _)

/-- Settles O8: the functions that are the operation by definition, and the others by their lemmas. -/
theorem aluIsTheWordOperation : Obligations.AluIsTheWordOperation := by
  unfold Obligations.AluIsTheWordOperation
  intro a b
  exact ⟨(BitVec.toNat_add a b).symm, aluFn_sub a b, (BitVec.toNat_and a b).symm, (BitVec.toNat_or a b).symm, (BitVec.toNat_xor a b).symm,
    aluFn_sll a b, aluFn_srl a b, aluFn_sra a b, aluFn_slt a b, rfl, aluFn_min a b, aluFn_max a b, aluFn_minu a b, aluFn_maxu a b,
    (BitVec.toNat_mul a b).symm, aluFn_mulh a b, aluFn_mulhu a b, aluFn_div a b, aluFn_divu a b, aluFn_rem a b, aluFn_remu a b,
    fun k => aluFn_lt k a.isLt b.isLt⟩

end Sys2Proof.Machine
end

section
/-!
Register-register, immediate and pc-relative operations (R121 to R123) and branches and jumps (R121, R124, R127) of Chotaum-W.
-/
namespace Sys2Proof.Machine

/-! ### Operations that write rd -/

section Computes
variable {s : State} {i : Fin 8} (h : coreReady s i) {rd ra rb : Fin 32} {imm : BitVec 16} {fn : BitVec 11}
include h

/-- ALU of a listed FN writes what its function gives; RB is 0 where the function takes one operand (R122). -/
theorem exec_alu_of_listed {k : AluFn} (hk : aluOf fn.toNat = some k) (hrb : k ≠ .popc ∧ k ≠ .clz ∧ k ≠ .ctz ∨ rb = 0) :
    exec (.alu i rd ra rb fn .ok) s =
      .next (retired s i ((s.core i).set rd (aluFn 64 k ((s.core i).get ra) ((s.core i).get rb))) (pcPast (s.core i))) := by
  have hlegal : ¬ ((k = .popc ∨ k = .clz ∨ k = .ctz) ∧ rb ≠ 0) := by tauto
  simp only [exec_coreWord]
  refine State.runOn_of_write h ?_
  simp only [hk]
  exact if_neg hlegal

/-- SHI writes what its function gives of the amount, where IMM16[15:8] is 0 (R121). -/
theorem exec_shi_of_amount {q k v : Nat} (himm : imm.toNat = 64 * q + k) (hq : q < 4) (hk : k < 64)
    (hv : v = [aluFn 64 .sll ((s.core i).get ra) k, aluFn 64 .srl ((s.core i).get ra) k, aluFn 64 .sra ((s.core i).get ra) k,
      rotRight 64 ((s.core i).get ra) k].getD q 0) :
    exec (.shi i rd ra imm .ok) s = .next (retired s i ((s.core i).set rd v) (pcPast (s.core i))) := by
  have hreserved : bitsOf (64 * q + k) 8 8 = 0 := by unfold bitsOf; omega
  have hfunction : bitsOf (64 * q + k) 6 2 = q := by unfold bitsOf; omega
  have hamount : bitsOf (64 * q + k) 0 6 = k := by unfold bitsOf; omega
  simp only [exec_coreWord]
  refine State.runOn_of_write h ?_
  simp only [himm, hreserved, hfunction, hamount, ne_eq, not_true_eq_false, if_false, hv]
  interval_cases q <;> rfl

end Computes

theorem signedOf_sext64 (imm : BitVec 16) : signedOf (sext64 imm) 64 = imm.toInt := by
  rw [sext64, signedOf_toNat, BitVec.toInt_signExtend_of_le (by decide)]

/-- Settles O6: every operation comes to a write of rd. -/
theorem coreComputes : Obligations.CoreComputes := by
  unfold Obligations.CoreComputes
  intro i rd ra rb imm s h c done
  refine ⟨fun fn k hk hrb => exec_alu_of_listed h hk hrb, ?_, ?_, ?_, ?_, ?_, ?_, fun himm => ?_, fun hlo himm => ?_, fun hlo himm => ?_,
    fun hlo himm => ?_, ?_, ?_⟩
  case refine_5 =>
    simp only [exec_coreWord, execSlti, signedOf_sext64]
    exact State.runOn_of_write h rfl
  case refine_7 => exact exec_shi_of_amount (q := 0) h (by omega) (by decide) himm rfl
  case refine_8 => exact exec_shi_of_amount (q := 1) (k := imm.toNat - 0x40) h (by omega) (by decide) (by omega) rfl
  case refine_9 => exact exec_shi_of_amount (q := 2) (k := imm.toNat - 0x80) h (by omega) (by decide) (by omega) rfl
  case refine_10 => exact exec_shi_of_amount (q := 3) (k := imm.toNat - 0xC0) h (by omega) (by decide) (by omega) rfl
  all_goals
    simp only [exec_coreWord]
    exact State.runOn_of_write h rfl

/-! ### Division (R123) -/

theorem aluFn_by_zero (a : Nat) : aluFn 64 .div a 0 = 2 ^ 64 - 1 ∧ aluFn 64 .divu a 0 = 2 ^ 64 - 1 ∧ aluFn 64 .rem a 0 = a ∧ aluFn 64 .remu a 0 = a :=
  ⟨rfl, rfl, rfl, rfl⟩

/-- The quotient of −2^63 by −1 is 2^63 mod 2^64, and nothing remains. -/
theorem aluFn_overflow : aluFn 64 .div (2 ^ 63) (2 ^ 64 - 1) = 2 ^ 63 ∧ aluFn 64 .rem (2 ^ 63) (2 ^ 64 - 1) = 0 := by decide

/-- Settles O7: DIV, DIVU, REM and REMU are listed functions of the ALU. -/
theorem divisionNeverRaises : Obligations.DivisionNeverRaises := by
  unfold Obligations.DivisionNeverRaises
  intro i rd ra rb s h c gives
  have hlisted : ∀ {fn : BitVec 11} {k : AluFn}, aluOf fn.toNat = some k → k ≠ .popc ∧ k ≠ .clz ∧ k ≠ .ctz →
      gives fn (aluFn 64 k (c.get ra) (c.get rb)) := fun hk hbinary => exec_alu_of_listed h hk (.inl hbinary)
  have hdiv := hlisted (fn := 0x014) (k := .div) rfl (by decide)
  have hdivu := hlisted (fn := 0x015) (k := .divu) rfl (by decide)
  have hrem := hlisted (fn := 0x016) (k := .rem) rfl (by decide)
  have hremu := hlisted (fn := 0x017) (k := .remu) rfl (by decide)
  refine ⟨?_, fun hzero => ?_, fun hmin hneg => ?_⟩
  · rintro fn (rfl | rfl | rfl | rfl)
    exacts [⟨_, hdiv⟩, ⟨_, hdivu⟩, ⟨_, hrem⟩, ⟨_, hremu⟩]
  · rw [hzero] at hdiv hdivu hrem hremu
    exact ⟨hdiv, hdivu, hrem, hremu⟩
  · rw [hmin, hneg] at hdiv hrem
    obtain ⟨hquot, hrest⟩ := aluFn_overflow
    exact ⟨hquot ▸ hdiv, hrest ▸ hrem⟩

/-! ### Branches and jumps (R121, R124, R127) -/

theorem WCore.jump_of_fetchable {i t : Nat} (c : WCore) (s : State) (h : canFetch i t = true) : c.jump s i t = .retire s c t := if_pos h

/-- A target outside the executable ranges faults there (R124). -/
theorem WCore.jump_of_unfetchable {i t : Nat} (c : WCore) (s : State) (h : canFetch i t = false) : c.jump s i t = .exc s t ecFetch t :=
  if_neg (by simp [h])

theorem State.branchOp_of_fetchable {s : State} {i : Nat} {c : WCore} (cond : Bool) {imm : BitVec 16}
    (h : canFetch i ((c.pc + sext64 imm * 4) % two64) = true) :
    s.branchOp i c cond imm = .retire s c (if cond then (c.pc + sext64 imm * 4) % two64 else pcPast c) := by
  cases cond with
  | true => exact WCore.jump_of_fetchable c s h
  | false => rfl

/-- Settles O11: a branch retires at its target or past itself, a jump at its target. -/
theorem coreBranches : Obligations.CoreBranches := by
  unfold Obligations.CoreBranches
  refine ⟨?_, ?_, ?_, ?_⟩
  · intro i rb ra imm s h c a b t go hfetch
    have hbranch : ∀ cond : Bool, s.branchOp i c cond imm = .retire s c (if cond then t else pcPast c) := fun cond =>
      State.branchOp_of_fetchable cond hfetch
    have hne : decide (a ≠ b) = (a != b) := Bool.eq_iff_iff.mpr (by simp)
    simp only [exec_coreWord, hne]
    refine ⟨?_, ?_, ?_, ?_, ?_, ?_⟩
    all_goals exact State.runOn_of_retire h (hbranch _)
  · intro i rd imm s h c t hfetch
    simp only [exec_coreWord]
    exact State.runOn_of_retire h (WCore.jump_of_fetchable _ s hfetch)
  · intro i rd ra imm s h c t hfetch
    simp only [exec_coreWord]
    exact State.runOn_of_retire h (WCore.jump_of_fetchable _ s hfetch)
  · intro i rd ra imm s h hexl t hfetch
    simp only [exec_coreWord]
    exact State.runOn_of_exc h (WCore.jump_of_unfetchable _ s hfetch) hexl

end Sys2Proof.Machine
end

section
/-!
Loads and stores of Chotaum-W (R121, R124 to R126, R134, R136, R400), and the bytes of a core's SRAM.
-/
namespace Sys2Proof.Machine

/-! ### Bytes of a sparse memory -/

/-- A store leaves every byte outside it alone. -/
theorem get_tblStore_out (m : List Host.Cell) (a c : Nat) (d : List Byte) (h : c < a ∨ a + d.length ≤ c) :
    Tbl.get (fun _ => 0) (tblStore m a d) c = Tbl.get (fun _ => 0) m c := by
  induction d generalizing m a with
  | nil => rfl
  | cons b d ih =>
    rw [List.length_cons] at h
    rw [tblStore, ih _ _ (by omega), Tbl.get_set_ne _ _ _ _ _ (by omega)]

/-- What was stored is read back. -/
theorem tblBytes_tblStore (m : List Host.Cell) (a : Nat) (d : List Byte) : tblBytes (tblStore m a d) a d.length = d := by
  induction d generalizing m a with
  | nil => rfl
  | cons b d ih => rw [tblStore, List.length_cons, tblBytes, ih, get_tblStore_out _ _ _ _ (by omega), Tbl.get_set_same]

/-! ### The SRAM of a Wellhead core -/

theorem coreMap_sram {i a : Nat} (hi : i < 4) (h : a < 0x800000) : coreMap i a = .sram a := by simp [coreMap, hi, h]

section Sram
variable {i a : Nat} (hi : i < 4) (h : a < 0x800000) (s : State) (c : WCore) (ans : List SnoopAnswer)
include hi h

theorem State.coreLoad_sram (n : Nat) : s.coreLoad i c a n ans = (s, .val (tblBytes s.wsram a n)) := by
  simp [State.coreLoad, coreMap_sram hi h, hi]

theorem State.coreStore_sram (d : List Byte) : s.coreStore i c a d ans = ({ s with wsram := tblStore s.wsram a d }, some c) := by
  simp [State.coreStore, coreMap_sram hi h, hi]

end Sram

/-! ### What a load or a store comes to -/

section Access
variable {s t : State} {i n a : Nat} {c : WCore} {rd ra rb : Fin 32} {imm : BitVec 16} {ans : List SnoopAnswer} (signed : Bool)
  (ha : (c.get ra + sext64 imm) % two64 = a)
include ha

theorem State.loadOp_of_misaligned (h : a % n ≠ 0) : s.loadOp i c n signed rd ra imm ans = .exc s c.pc ecMisaligned a := by
  simp [State.loadOp, ha, h]

theorem State.storeOp_of_misaligned (h : a % n ≠ 0) : s.storeOp i c n rb ra imm ans = .exc s c.pc ecMisaligned a := by
  simp [State.storeOp, ha, h]

variable (halign : a % n = 0)
include halign

theorem State.loadOp_of_fault (h : s.coreLoad i c a n ans = (t, .fault)) : s.loadOp i c n signed rd ra imm ans = .exc t c.pc ecLoad a := by
  simp [State.loadOp, ha, halign, h]

theorem State.loadOp_of_poison {l : Nat} (h : s.coreLoad i c a n ans = (t, .poison l)) :
    s.loadOp i c n signed rd ra imm ans = .exc t c.pc ecPoison l := by
  simp [State.loadOp, ha, halign, h]

theorem State.loadOp_of_val {d : List Byte} (h : s.coreLoad i c a n ans = (t, .val d)) :
    s.loadOp i c n signed rd ra imm ans = c.write t rd (if signed then unsignedOf (signedOf (leNat d) (8 * n)) 64 else leNat d) := by
  simp [State.loadOp, ha, halign, h]

theorem State.storeOp_of_fault (h : s.coreStore i c a (leBytes (c.get rb) n) ans = (t, none)) :
    s.storeOp i c n rb ra imm ans = .exc t c.pc ecStore a := by
  simp [State.storeOp, ha, halign, h]

/-- A store that has not replaced the core itself retires (R125, R126). -/
theorem State.storeOp_of_stored {d : WCore} (h : s.coreStore i c a (leBytes (c.get rb) n) ans = (t, some d)) (hsame : s.sameCore t c d = true) :
    s.storeOp i c n rb ra imm ans = .retire t d ((c.pc + 4) % two64) := by
  simp [State.storeOp, ha, halign, h, hsame]

end Access

/-- A store that leaves the core itself in place leaves its pc. -/
theorem State.pc_of_sameCore {s t : State} {c d : WCore} (h : s.sameCore t c d = true) : d.pc = c.pc := by
  simp only [State.sameCore, Bool.and_eq_true, beq_iff_eq] at h
  obtain ⟨⟨-, hpc⟩, -⟩ := h
  exact hpc

/-- Settles O9: a load retires with the bytes read, a store with what it leaves of the core. -/
theorem coreLoadsAndStores : Obligations.CoreLoadsAndStores := by
  unfold Obligations.CoreLoadsAndStores
  refine ⟨?_, ?_, ?_⟩
  · intro i rd ra imm ans s t d h c a loads sx zx
    have hload : ∀ (n : Nat) (signed : Bool), loads n → s.loadOp i c n signed rd ra imm ans =
        c.write t rd (if signed then unsignedOf (signedOf (leNat d) (8 * n)) 64 else leNat d) := fun n signed ⟨halign, hval⟩ =>
      State.loadOp_of_val signed rfl halign hval
    simp only [exec_coreWord]
    exact ⟨fun hl => ⟨State.runOn_of_write h (hload 1 true hl), State.runOn_of_write h (hload 1 false hl)⟩,
      fun hl => ⟨State.runOn_of_write h (hload 2 true hl), State.runOn_of_write h (hload 2 false hl)⟩,
      fun hl => ⟨State.runOn_of_write h (hload 4 true hl), State.runOn_of_write h (hload 4 false hl)⟩,
      fun hl => State.runOn_of_write h (hload 8 true hl)⟩
  · intro i rb ra imm ans s t d h c a stores
    have hstore : ∀ n : Nat, stores n → s.storeOp i c n rb ra imm ans = .retire t d (pcPast d) := fun n ⟨halign, hmem, hsame⟩ => by
      rw [pcPast, State.pc_of_sameCore hsame]
      exact State.storeOp_of_stored rfl halign hmem hsame
    simp only [exec_coreWord]
    exact ⟨fun hs => State.runOn_of_retire h (hstore 1 hs), fun hs => State.runOn_of_retire h (hstore 2 hs),
      fun hs => State.runOn_of_retire h (hstore 4 hs), fun hs => State.runOn_of_retire h (hstore 8 hs)⟩
  · intro i s a n d ans ha
    exact ⟨State.coreLoad_sram i.isLt ha s _ ans n, State.coreStore_sram i.isLt ha s _ ans d, tblBytes_tblStore s.wsram a d, fun b => get_tblStore_out s.wsram a b d⟩

/-- Settles O10: what is misaligned or faults comes to an exception. -/
theorem coreFaultsOnAccess : Obligations.CoreFaultsOnAccess := by
  unfold Obligations.CoreFaultsOnAccess
  refine ⟨?_, ?_, ?_⟩
  · intro i rd ra imm ans s h hexl a mis
    have hload : ∀ (n : Nat) (signed : Bool), a % n ≠ 0 → s.loadOp i (s.core i) n signed rd ra imm ans = .exc s (s.core i).pc 5 a :=
      fun n signed hodd => State.loadOp_of_misaligned signed rfl hodd
    have hstore : ∀ n : Nat, a % n ≠ 0 → s.storeOp i (s.core i) n rd ra imm ans = .exc s (s.core i).pc 5 a :=
      fun n hodd => State.storeOp_of_misaligned rfl hodd
    simp only [exec_coreWord]
    exact ⟨fun ho => ⟨State.runOn_of_exc h (hload 2 true ho) hexl, State.runOn_of_exc h (hload 2 false ho) hexl,
        State.runOn_of_exc h (hstore 2 ho) hexl⟩,
      fun ho => ⟨State.runOn_of_exc h (hload 4 true ho) hexl, State.runOn_of_exc h (hload 4 false ho) hexl, State.runOn_of_exc h (hstore 4 ho) hexl⟩,
      fun ho => ⟨State.runOn_of_exc h (hload 8 true ho) hexl, State.runOn_of_exc h (hstore 8 ho) hexl⟩⟩
  · intro i rd ra imm ans s h hexl hodd
    simp only [exec_coreWord]
    exact State.runOn_of_exc_stops h (State.loadOp_of_misaligned true rfl hodd) hexl
  · intro i rd ra imm ans s t l h c a halign hexl
    simp only [exec_coreWord]
    exact ⟨fun hf => State.runOn_of_exc h (State.loadOp_of_fault true rfl halign hf) hexl,
      fun hp => State.runOn_of_exc h (State.loadOp_of_poison true rfl halign hp) hexl,
      fun hf => State.runOn_of_exc h (State.storeOp_of_fault rfl halign hf) hexl⟩

end Sys2Proof.Machine
end

section
/-!
Fences, ERET, waits, atomics, messages (R130, R131, R134, R136, R139) and control registers (R132, R133) of Chotaum-W.
-/
namespace Sys2Proof.Machine

/-- ATOM on an aligned word of a Wellhead core's SRAM writes what R131 says, nothing where a compare fails, and returns the old word. -/
theorem State.atomOp_sram {s : State} {i a : Nat} {c : WCore} {rd ra rb : Fin 32} {fn : BitVec 11} (ans : List SnoopAnswer) (hi : i < 4)
    (hfn : atomFnOk fn.toNat = true) (ha : c.get ra = a) (halign : a % 8 = 0) (hlt : a < 0x800000) :
    let old := leNat (tblBytes s.wsram a 8)
    s.atomOp i c rd ra rb fn ans = c.write (if fn.toNat % 16 = 0xA ∧ old ≠ c.get rd then s
      else { s with wsram := tblStore s.wsram a (leBytes (atomNew (fn.toNat % 16) old (c.get rb) (c.get rd)) 8) }) rd old := by
  have hgain : s.gainFor i a ans = s := by simp only [State.gainFor, coreMap_sram hi hlt]
  simp only [State.atomOp, hfn, ha, halign, coreMap_sram hi hlt, hgain, State.coreLoad_sram hi hlt, State.coreStore_sram hi hlt, Bool.not_true,
    Bool.false_eq_true, ne_eq, not_true_eq_false, if_false]
  split <;> rfl

/-- Settles O12: each comes to one retirement, ATOM, MSEND and MRECV over the SRAM of a Wellhead core. -/
theorem coreSystem : Obligations.CoreSystem := by
  unfold Obligations.CoreSystem
  refine ⟨?_, ?_, ?_⟩
  · intro i rd s h
    simp only [exec_coreWord]
    refine ⟨fun hstores => ?_, State.runOn_of_retire h rfl, State.runOn_of_retire h rfl, State.runOn_of_retire h rfl, State.runOn_of_retire h rfl,
      fun hip => ?_, fun hempty hnone => ?_, State.runOn_of_write h rfl⟩
    · have hself : { s.core i with stores := [] } = s.core i := by rw [← hstores]
      refine State.runOn_of_retire h ?_
      simp only [hstores, List.any_nil, Bool.false_eq_true, if_false, hself]
      rfl
    · exact State.runOn_of_retire h (by rw [if_neg (not_not.mpr hip)]; rfl)
    · have hwaits : ¬ ((s.core i).recvq ≠ [] ∨ (s.core i).pendingCode.isSome = true) := by simp [hempty, hnone]
      exact State.runOn_of_retire h (by rw [if_neg hwaits]; rfl)
  · intro i rd ra rb fn ans s h c a hfn halign hlt old
    simp only [exec_coreWord]
    exact State.runOn_of_write h (State.atomOp_sram ans i.isLt hfn rfl halign hlt)
  · intro i rd ra rb s h
    simp only [exec_coreWord]
    intro halign hlt
    have hsram := coreMap_sram i.isLt hlt
    refine ⟨fun hunits hroom => State.runOn_of_write h ?_, fun m q hq => State.runOn_of_write h ?_⟩
    · simp only [Fin.val_castLE, halign, hsram, Nat.not_le.mpr i.isLt, Nat.not_le.mpr hroom, hunits, i.isLt, ne_eq, not_true_eq_false, if_true, if_false,
        false_and]
    · simp only [Fin.val_castLE, halign, hsram, hq, i.isLt, ne_eq, not_true_eq_false, if_true, if_false]

/-! ### Control registers -/

@[simp] theorem WCore.csrWrite_pc (c : WCore) (n v : Nat) : (c.csrWrite n v).pc = c.pc := by
  unfold WCore.csrWrite
  split <;> rfl

/-- A read of a control register leaves the pc where it is. -/
theorem State.csrRead_pc {s t : State} {i n old : Nat} {c d : WCore} (h : s.csrRead i c n = some (t, d, old)) : d.pc = c.pc := by
  unfold State.csrRead at h
  split at h
  case h_17 => cases h
  all_goals
    simp only [Option.some.injEq, Prod.mk.injEq] at h
    obtain ⟨-, rfl, -⟩ := h
    rfl

/-- A control register instruction that reads, and perhaps writes, leaves the core past it. -/
theorem State.runOn_of_csr {s t : State} {i : Fin 8} {f : WCore → WOut} {d : WCore} {rd : Fin 32} {old : Nat} (h : coreReady s i)
    (hf : f (s.core i) = d.write t rd old) (hpc : d.pc = (s.core i).pc) : s.runOn i .ok f = .next (retired t i (d.set rd old) (pcPast (s.core i))) := by
  rw [State.runOn_of_write h hf, hpc]
  rfl

/-- An immediate of 12 bits names a control register and sets no reserved bit (R132). -/
theorem csrFields_of_number (n : BitVec 12) : bitsOf (n.setWidth 16).toNat 12 4 = 0 ∧ bitsOf (n.setWidth 16).toNat 0 12 = n.toNat := by
  have hn := n.isLt
  simp only [BitVec.toNat_setWidth, bitsOf]
  omega

/-- The control registers listed: a read of any other answers nothing (R132, R133). -/
theorem State.csrRead_isSome_iff (s : State) (i : Nat) (c : WCore) (n : Nat) : (s.csrRead i c n).isSome = true ↔
    n ∈ [0x000, 0x001, 0x002, 0x003, 0x010, 0x011, 0x012, 0x013, 0x014, 0x015, 0x016, 0x017, 0x018, 0x019, 0x020, 0x021] := by
  unfold State.csrRead
  split
  case h_17 => simp_all
  all_goals simp

theorem csrReadOnly_listed : (∀ n ∈ [0x000, 0x001, 0x002, 0x003, 0x017, 0x020], csrReadOnly n = true) ∧
    ∀ n ∈ [0x010, 0x011, 0x012, 0x013, 0x014, 0x015, 0x016, 0x018, 0x019, 0x021], csrReadOnly n = false := by decide

/-- Settles O13: CSRRW, CSRRS and CSRRC by the outcomes of the operation they share. -/
theorem controlRegisterInstructions : Obligations.ControlRegisterInstructions := by
  unfold Obligations.ControlRegisterInstructions
  refine ⟨?_, ?_, fun i n c s => s.csrRead_isSome_iff i c n, fun n => ⟨csrReadOnly_listed.1 n, csrReadOnly_listed.2 n⟩, fun i c s => ?_,
    fun c v hv => ?_⟩
  · intro i rd ra n s h c imm
    obtain ⟨hres, hn⟩ := csrFields_of_number n
    have hwrites : ra ≠ 0 → (ra != 0) = true := fun hra => by simpa using hra
    have hfault : ∀ {op : Nat} {w : Bool} {f : Nat → Nat → Nat}, s.csrRead i c n.toNat = none ∨ csrReadOnly n.toNat = true ∧ w = true →
        s.csrOp i c op rd ra imm w f = .exc s c.pc ecCsr (wordB op rd ra imm) := by
      rintro op w f (hnone | ⟨hro, rfl⟩)
      · exact State.csrOp_of_unlisted hres hn hnone
      · exact State.csrOp_of_readOnly hres hn hro
    simp only [exec_coreWord]
    refine ⟨fun t d old hread => ?_, fun hexl hbad => ⟨State.runOn_of_exc h (hfault (hbad.imp_right (⟨·, rfl⟩))) hexl, fun hbad' => ?_⟩⟩
    · have hpc := State.csrRead_pc hread
      have hpcWrite : ∀ v, (d.csrWrite n.toNat v).pc = c.pc := fun v => (d.csrWrite_pc n.toNat v).trans hpc
      refine ⟨fun hrw => State.runOn_of_csr h (State.csrOp_of_write hres hn hread hrw) (hpcWrite _), fun hrw hra => ?_, fun hra => ?_⟩
      · simp only [execCsrrs, execCsrrc, hwrites hra]
        exact ⟨State.runOn_of_csr h (State.csrOp_of_write hres hn hread hrw) (hpcWrite _),
          State.runOn_of_csr h (State.csrOp_of_write hres hn hread hrw) (hpcWrite _)⟩
      · subst hra
        exact ⟨State.runOn_of_csr h (State.csrOp_of_noWrite hres hn hread) hpc, State.runOn_of_csr h (State.csrOp_of_noWrite hres hn hread) hpc⟩
    · have hcase : s.csrRead i c n.toNat = none ∨ csrReadOnly n.toNat = true ∧ (ra != 0) = true := by
        rcases hbad' with hnone | hra
        · exact .inl hnone
        · exact hbad.imp_right (⟨·, hwrites hra⟩)
      exact ⟨State.runOn_of_exc h (hfault hcase) hexl, State.runOn_of_exc h (hfault hcase) hexl⟩
  · intro i rd ra imm s h hexl himm
    have hres : bitsOf imm.toNat 12 4 ≠ 0 := by
      unfold bitsOf
      omega
    simp only [exec_coreWord]
    exact ⟨State.runOn_of_exc h (State.csrOp_of_reserved hres) hexl, State.runOn_of_exc h (State.csrOp_of_reserved hres) hexl,
      State.runOn_of_exc h (State.csrOp_of_reserved hres) hexl⟩
  · refine ⟨?_, fun hi => ?_, fun hi => ?_, _, _, rfl, Nat.mod_lt _ (by decide), rfl⟩
    · simp only [List.forall_mem_cons]
      exact ⟨rfl, rfl, rfl, rfl, rfl, rfl, rfl, rfl, rfl, rfl, rfl, rfl, rfl, nofun⟩
    · simp only [State.csrRead, coreId, if_pos hi, and_self]
    · simp only [State.csrRead, coreId, if_neg (Nat.not_lt.mpr hi), and_self]
  · have hvec : v / 4 * 4 = v - v % 4 := by omega
    exact ⟨rfl, rfl, rfl, rfl, rfl, congrArg (fun e => { c with evec := e }) hvec, rfl, rfl, rfl, rfl⟩

end Sys2Proof.Machine
end

section
/-!
How a core enters its handler (R120, R124, R134 to R136, R557), and what happens to a core from outside (R133, R136, R139, R141, R142, R557).
-/
namespace Sys2Proof.Machine

/-! ### Exceptions of an instruction -/

/-- A pc outside the executable ranges raises FETCH_FAULT there, whatever the instruction (R124, R127). -/
theorem State.runOn_of_unfetchable {s : State} {i : Nat} (ecc : Ecc) (f : WCore → WOut) (hrun : (s.core i).st = .running)
    (hclock : s.islandStopped (coreIsland i) = false) (hpc : canFetch i (s.core i).pc = false) :
    s.runOn i ecc f = .next (s.takeExc i (s.core i).pc ecFetch (s.core i).pc) := by
  simp [State.runOn, hrun, hclock, hpc]

theorem exec_illegalInstr {i : Fin 8} {w : BitVec 32} (ecc : Ecc) (s : State) (h : legalWord w.toNat = false) :
    exec (.illegalInstr i w ecc) s = s.runOn i ecc fun c => .exc s c.pc ecIllegal w.toNat := if_neg (by simp [h])

/-- The pending and enabled interrupt of the lowest code enters the handler; no other register of the core changes but its own pending bit (R134, R135). -/
theorem exec_interruptEntry_of_pending {i : Fin 8} {k : Nat} {s : State} (hrun : (s.core i).st = .running) (hon : (s.core i).ieOn = true)
    (hcode : (s.core i).pendingCode = some k) : ∃ v irq, exec (.interruptEntry i) s =
      .next (s.tick.setCore i { (s.core i).enter (s.core i).pc (2 ^ 63 + k) v with irq := irq }) := by
  show ∃ v irq, execInterruptEntry i s = .next (s.tick.setCore i { (s.core i).enter (s.core i).pc (2 ^ 63 + k) v with irq := irq })
  simp only [execInterruptEntry, hcode, hrun, hon, ne_eq, not_true_eq_false, Bool.not_true, Bool.false_eq_true, or_self, if_false]
  split
  · exact ⟨Config.freeNat s.fresh % two64, _, rfl⟩
  · exact ⟨Config.freeNat s.fresh % two64, (s.core i).irq, rfl⟩

/-! ### Every instruction meets an error of the core's memories alike (R135, R557) -/

section Words
variable (i : Fin 8) (rd ra rb : Fin 32) (imm : BitVec 16) (disp : BitVec 21) (fn : BitVec 11) (ans : List SnoopAnswer) (s : State)

theorem coreWords_runOn (e : Ecc) : ∀ c ∈ coreWords i rd ra rb imm disp fn ans e, ∃ f, exec c s = s.runOn i e f := by
  unfold coreWords
  simp only [List.forall_mem_cons, List.not_mem_nil, IsEmpty.forall_iff, implies_true, and_true, exec_coreWord]
  and_intros
  all_goals exact ⟨_, rfl⟩

/-- What an instruction does on its own does not depend on the error of the core's memories. -/
theorem coreWords_runOn_alike (e e' : Ecc) : ∀ p ∈ (coreWords i rd ra rb imm disp fn ans e).zip (coreWords i rd ra rb imm disp fn ans e'),
    ∃ f, exec p.1 s = s.runOn i e f ∧ exec p.2 s = s.runOn i e' f := by
  unfold coreWords
  simp only [List.zip_cons_cons, List.zip_nil_left, List.forall_mem_cons, List.not_mem_nil, IsEmpty.forall_iff, implies_true, and_true, exec_coreWord]
  and_intros
  all_goals exact ⟨_, rfl, rfl⟩

end Words

/-- Settles O14: each entry by its own lemma. -/
theorem exceptionEntry : Obligations.ExceptionEntry := by
  unfold Obligations.ExceptionEntry
  refine ⟨fun i s h hexl => ?_, fun i s h hexl => ?_, fun i k s hrun hon hcode => ?_, fun i s hrun hclock hpc hexl => ?_,
    fun i rd ra rb imm disp fn ans s h => ⟨fun a hexl c hc => ?_, fun p hp t ht => ?_⟩⟩
  · simp only [exec_coreWord]
    refine ⟨State.runOn_of_exc h rfl hexl, State.runOn_of_exc h rfl hexl, fun w hw => ?_⟩
    rw [exec_illegalInstr _ _ hw]
    exact State.runOn_of_exc h rfl hexl
  · simp only [exec_coreWord]
    exact State.runOn_of_exc_stops h rfl hexl
  · obtain ⟨v, irq, hentry⟩ := exec_interruptEntry_of_pending hrun hon hcode
    refine ⟨_, v, hentry, rfl, ?_⟩
    simp only [State.core_setCore_same]
    exact ⟨rfl, rfl, rfl, rfl, rfl, rfl, rfl, fun j hj => State.core_setCore_ne _ _ _ _ hj⟩
  · simp only [exec_coreWord, execEcall, State.runOn_of_unfetchable _ _ hrun hclock hpc, State.takeExc_entry _ _ _ _ _ hexl]
    rfl
  · obtain ⟨hrun, hclock, hpc⟩ := h
    obtain ⟨f, hf⟩ := coreWords_runOn i rd ra rb imm disp fn ans s (.ue a) c hc
    rw [hf, s.runOn_ue i a f hrun hclock hpc, State.takeExc_entry _ _ _ _ _ hexl]
    rfl
  · obtain ⟨hrun, hclock, hpc⟩ := id h
    obtain ⟨f, hcorrected, hok⟩ := coreWords_runOn_alike i rd ra rb imm disp fn ans s .corrected .ok p hp
    rw [hok, State.runOn_of_ready h] at ht
    rw [hcorrected, s.runOn_corrected i f hrun hclock hpc, Host.Outcome.next.inj ht]

/-! ### Messages of cores (R138, R141) -/

section Messages
variable {s : State} {i : Fin 8} {d : Nat} {b : List Byte} {q : List (Nat × List Byte)} (hq : (s.core i).sendq = (d, b) :: q)
include hq

theorem State.msgsFrom_first : (s.msgsFrom (some i))[0]? = some (coreAddr i, d, b) := by simp [State.msgsFrom, hq]

theorem State.dropMsg_first : s.dropMsg (some i) 0 = s.setCore i { s.core i with sendq := q } := by simp [State.dropMsg, hq]

end Messages

theorem coreOf_coreAddr : ∀ j : Fin 4, coreOf (coreAddr j) = some j.val := by decide

theorem coreAddr_unicast : ∀ j : Fin 4, coreAddr j / 4096 < 8 := by decide

/-- A core whose receive queue has room takes a message. -/
theorem State.deliverMsg_of_room {s : State} {j : Fin 4} (src : Nat) (b : List Byte) (h : (s.core j).recvq.length < 64) :
    s.deliverMsg src (coreAddr j) b = some (s.setCore j { s.core j with recvq := (s.core j).recvq ++ [delivered src (coreAddr j) b] }) := by
  simp only [State.deliverMsg, coreOf_coreAddr, Nat.not_le.mpr h, if_false]

theorem exec_messageDelivery_first {i : Fin 8} {j : Fin 4} {b : List Byte} {q : List (Nat × List Byte)} {s : State} (hij : i.val ≠ j.val)
    (hq : (s.core i).sendq = (coreAddr j, b) :: q) (hroom : (s.core j).recvq.length < 64) :
    exec (.messageDelivery (some i) 0) s = .next ((s.setCore i { s.core i with sendq := q }).setCore j
      { s.core j with recvq := (s.core j).recvq ++ [delivered (coreAddr i) (coreAddr j) b] }) := by
  have hcore : (s.setCore i { s.core i with sendq := q }).core j = s.core j := State.core_setCore_ne _ _ _ _ hij.symm
  have hdeliver := State.deliverMsg_of_room (s := s.setCore i { s.core i with sendq := q }) (coreAddr i) b (by rw [hcore]; exact hroom)
  rw [hcore] at hdeliver
  show execMessageDelivery (some i) 0 s = _
  simp only [execMessageDelivery, State.msgsFrom_first hq, List.take_zero, List.any_nil, Bool.false_eq_true, if_false, coreAddr_unicast, if_true,
    State.dropMsg_first hq, hdeliver]

theorem exec_undeliverable_first {i : Fin 8} {d : Nat} {b : List Byte} {q : List (Nat × List Byte)} {s : State} (hq : (s.core i).sendq = (d, b) :: q) :
    exec (.undeliverable (some i) 0) s =
      .next (((s.setCore i { s.core i with sendq := q }).tick).postMsg d (coreAddr i) (undeliverable b s.fresh)) := by
  show execUndeliverable (some i) 0 s = _
  simp only [execUndeliverable, State.msgsFrom_first hq, State.dropMsg_first hq]
  rfl

/-! ### Wakes, timers and releases -/

theorem exec_coreWake (i : Fin 8) (s : State) : exec (.coreWake i) s =
    if ((s.core i).st = .wfi ∧ (s.core i).ip ≠ 0) ∨ ((s.core i).st = .mwait ∧ ((s.core i).recvq ≠ [] ∨ (s.core i).pendingCode.isSome)) then
      .next (s.setCore i { s.core i with st := .running })
    else .next s := rfl

theorem State.releaseCore_of_held {s : State} {i : Nat} (h : (s.core i).st = .held) : s.releaseCore i = s.setCore i { s.core i with st := .running } :=
  if_pos h

/-- Settles O15: each event by what it does of a core. -/
theorem coreEvents : Obligations.CoreEvents := by
  unfold Obligations.CoreEvents
  refine ⟨fun i s hwaits => ?_, fun i s hrun => ?_, fun i s hcycle => if_pos hcycle, fun i j b q s hij hq hroom => exec_messageDelivery_first hij hq hroom,
    fun i d b q s hq => exec_undeliverable_first hq, fun i s hheld => ?_, fun q s hheld => ?_, fun q s => rfl⟩
  · rw [exec_coreWake, if_pos (hwaits.imp_right (fun ⟨hst, hq⟩ => ⟨hst, .inl hq⟩))]
  · rw [exec_coreWake, if_neg (by simp [hrun])]
  · exact congrArg Host.Outcome.next (State.releaseCore_of_held (s := s.put _ _ _) hheld)
  · exact congrArg Host.Outcome.next (State.releaseCore_of_held (s := s.put _ _ _) hheld)

end Sys2Proof.Machine
end

section
/-!
The C slot of a bundle whose other slots are empty (R145, R147, R149, R154 to R157).
-/
namespace Sys2Proof.Machine

/-! ### Slots that have no effect -/

/-- An effect that sets no tile count and no weights and reports nothing leaves the program's record. -/
theorem TEff.onRun_eq_self {f : TEff} (hcount : f.count = none) (hmb : f.mb = none) (hreport : f.report = []) (r : TRun) : f.onRun r = r := by
  simp [TEff.onRun, hcount, hmb, hreport]

theorem TEff.counted_empty (t : Nat) (s : State) : ({} : TEff).counted t s = s := by simp [TEff.counted, State.countSat]

/-- The empty slots S, V and M of a bundle add nothing to its C slot. -/
theorem State.issued_of_onlyC (s : State) (t : Nat) (r : TRun) (j : Job) (x : Tarn) (ans : List SnoopAnswer) (f : TEff) :
    s.issued t r j x ans [{}, {}, {}, f] = s.issued t r j x ans [f] := by
  have htarn : ∀ x : Tarn, ({} : TEff).onTarn x = x := fun _ => rfl
  have hrun : ∀ r : TRun, ({} : TEff).onRun r = r := TEff.onRun_eq_self rfl rfl rfl
  have hfind : [{}, {}, {}, f].find? (fun f : TEff => f.ctl != .seq) = [f].find? (fun f : TEff => f.ctl != .seq) := rfl
  have hact : ∀ (s : State) (r : TRun), s.tAct t r j x ans ({} : TEff).act = s := fun _ _ => rfl
  simp only [State.issued, List.foldl_cons, List.foldl_nil, htarn, hrun, hfind, TEff.counted_empty, hact, Nat.zero_add]

/-- A slot that does no more than end the program: the bundle issues as an empty one, then the program ends (R156). -/
theorem State.issued_of_finish (s : State) (t : Nat) (r : TRun) (j : Job) (x : Tarn) (ans : List SnoopAnswer) :
    s.issued t r j x ans [{ act := .finish }] = (s.issued t r j x ans [{}]).endRun t (r.advance .seq) := by
  have hrun : ∀ a : TAct, ({ act := a } : TEff).onRun r = r := fun _ => TEff.onRun_eq_self rfl rfl rfl r
  simp only [State.issued, List.foldl_cons, List.foldl_nil, State.tAct, hrun]
  rfl

/-! ### What a C slot makes of its bundle -/

section Scalar
variable {s : State} {t : Nat} {e : TEnv} (h : envOf s t = some e) {c : COp}
include h

theorem State.issue_scalar : s.issue t { c := c } = s.issueOk t e.r e.j e.x { c := c } := State.issue_of_sound h (.inl rfl)

variable (hlive : e.r.failing = none) (hpc : e.r.pc < 4096)
include hlive hpc

theorem State.issue_scalar_of_eff {f : TEff} (hc : evalC e c = .eff f) : s.issue t { c := c } = only s t e f := by
  have hfree : ¬ conflict {} f = true := by simp [conflict]
  rw [State.issue_scalar h, State.issueOk_of_effects hlive hpc (eq_of_envOf h) rfl rfl rfl hc, if_neg hfree]
  exact State.issued_of_onlyC s t e.r e.j e.x [] f

theorem State.issue_scalar_of_exc {cause code : Nat} (hc : evalC e c = .exc cause code) : s.issue t { c := c } = s.progExc t e.r cause 3 code := by
  have hslots : slotResults e { c := c } = [(0, .eff {}), (1, .eff {}), (2, .eff {}), (3, .exc cause code)] := by rw [slotResults, hc]; rfl
  rw [State.issue_scalar h]
  exact State.issueOk_of_exc hlive hpc (eq_of_envOf h) (.inr (by simp [hslots])) (by rw [hslots]; rfl)

theorem State.issue_scalar_of_stall (hbad : c ≠ .bad) (hc : evalC e c = .stall) : s.issue t { c := c } = s := by
  rw [State.issue_scalar h]
  exact State.issueOk_of_stall hlive hpc (eq_of_envOf h) ⟨nofun, nofun, nofun, hbad⟩ ⟨(3, .stall), by simp [slotResults, hc], rfl⟩

end Scalar

/-! ### Words of block SRAM (R147) -/

theorem sextN_toNat {w : Nat} (imm : BitVec w) : sextN imm.toNat w = imm.toInt := signedOf_toNat imm

/-- An aligned word may be written where it lies in block SRAM and in no block area. -/
theorem sramWriteOk_word_iff {a : Nat} (halign : a % 4 = 0) : sramWriteOk a 4 = true ↔ a + 4 ≤ 0x200000 ∧ 0x30000 ≤ a % 0x100000 := by
  simp only [sramWriteOk, sramOut, sramBlock, Nat.reduceBNe, Nat.reduceAdd, Bool.true_and, Bool.not_or, Bool.not_and, Bool.and_eq_true,
    Bool.not_eq_eq_eq_not, Bool.not_true, decide_eq_false_iff_not, Bool.or_eq_true]
  omega

/-! ### The operations -/

section Operations
variable (e : TEnv) (td ta : Fin 16) (imm : BitVec 14)

theorem evalC_tld_of_word (halign : addrOff (e.x.treg ta) imm.toInt % 4 = 0) (hin : addrOff (e.x.treg ta) imm.toInt + 4 ≤ 0x200000) :
    evalC e (.tld td ta imm) = .eff { tw := [(td.val, leNat (e.x.sramBytes (addrOff (e.x.treg ta) imm.toInt) 4))] } := by
  simp [evalC, sextN_toNat, halign, sramOut, Nat.not_lt.mpr hin, Tarn.sramNum]

theorem evalC_tld_of_misaligned (halign : addrOff (e.x.treg ta) imm.toInt % 4 ≠ 0) : evalC e (.tld td ta imm) = .exc xcSramAlign := by
  simp [evalC, sextN_toNat, halign]

theorem evalC_tld_of_outside (halign : addrOff (e.x.treg ta) imm.toInt % 4 = 0) (hout : 0x200000 < addrOff (e.x.treg ta) imm.toInt + 4) :
    evalC e (.tld td ta imm) = .exc xcSramRange := by
  simp [evalC, sextN_toNat, halign, sramOut, hout]

theorem evalC_tst_of_writable (halign : addrOff (e.x.treg ta) imm.toInt % 4 = 0) (hok : sramWriteOk (addrOff (e.x.treg ta) imm.toInt) 4 = true) :
    evalC e (.tst td ta imm) = .eff { mem := [(addrOff (e.x.treg ta) imm.toInt, leBytes (e.x.treg td) 4)] } := by
  simp [evalC, sextN_toNat, halign, hok]

theorem evalC_tst_of_unwritable (halign : addrOff (e.x.treg ta) imm.toInt % 4 = 0) (hno : sramWriteOk (addrOff (e.x.treg ta) imm.toInt) 4 = false) :
    evalC e (.tst td ta imm) = .exc xcSramRange := by
  simp [evalC, sextN_toNat, halign, hno]

theorem evalC_loop_of_room (hlo : 1 ≤ imm.toNat) (hhi : imm.toNat ≤ 4096) (hroom : e.r.loops.length < 4) :
    evalC e (.loop ta imm) = .eff { ctl := .loop imm.toNat (e.x.treg ta) } := by
  have hlength : ¬ (imm.toNat = 0 ∨ 4096 < imm.toNat) := by omega
  have hdepth : ¬ (e.x.treg ta ≠ 0 ∧ 4 ≤ e.r.loops.length) := by omega
  simp only [evalC, if_neg hlength, if_neg hdepth]

end Operations

/-- Settles O43: each operation by what its slot comes to. -/
theorem tarnScalarSlots : Obligations.TarnScalarSlots := by
  unfold Obligations.TarnScalarSlots
  intro tarn s e h hlive hpc
  have eff : ∀ {c : COp} {f : TEff}, evalC e c = .eff f → (.next (s.issue tarn { c := c }) : Answer) = .next (only s tarn e f) :=
    fun hc => congrArg _ (State.issue_scalar_of_eff h hlive hpc hc)
  have exc : ∀ {c : COp} {k n : Nat}, evalC e c = .exc k n → (.next (s.issue tarn { c := c }) : Answer) = .next (s.progExc tarn e.r k 3 n) :=
    fun hc => congrArg _ (State.issue_scalar_of_exc h hlive hpc hc)
  have stall : ∀ {c : COp}, c ≠ .bad → evalC e c = .stall → (.next (s.issue tarn { c := c }) : Answer) = .next s :=
    fun hbad hc => congrArg _ (State.issue_scalar_of_stall h hlive hpc hbad hc)
  refine ⟨fun td ta tb fn hfn => eff (c := .talu td ta tb fn) (if_pos hfn),
    fun td ta fn4 imm v hv => eff (c := .talui td ta fn4 imm) (by simp only [evalC, hv]),
    fun td imm => eff (c := .tli td imm) rfl,
    fun td ta imm => ⟨fun halign hin => eff (c := .tld td ta imm) (evalC_tld_of_word e td ta imm halign hin),
      fun halign => exc (c := .tld td ta imm) (evalC_tld_of_misaligned e td ta imm halign),
      fun halign hout => exc (c := .tld td ta imm) (evalC_tld_of_outside e td ta imm halign hout)⟩,
    fun ts ta imm => ⟨fun halign hin hwork => eff (c := .tst ts ta imm) ?_, fun halign hin hblock => exc (c := .tst ts ta imm) ?_⟩,
    fun cond ta tb imm => ⟨fun htaken => eff (c := .br cond ta tb imm) ?_, fun hpast => eff (c := .br cond ta tb imm) ?_⟩,
    fun ta imm hlo hhi hroom => eff (c := .loop ta imm) (evalC_loop_of_room e ta imm hlo hhi hroom),
    fun td sa => ⟨eff (c := .sget td sa 0) rfl, eff (c := .sget td sa 1) rfl, eff (c := .sget td sa 2) rfl, eff (c := .sget td sa 3) rfl,
      eff (c := .sget td sa 4) rfl⟩,
    fun hnone => eff (c := .sync) (if_pos hnone),
    fun hopen => stall (c := .endProgram) nofun (if_neg (by simp [hopen])),
    fun hnone hcloses => (eff (c := .endProgram) (if_pos (by simp [hnone, hcloses]))).trans (congrArg _ (State.issued_of_finish s tarn e.r e.j e.x [])),
    fun hsome => ⟨stall (c := .sync) nofun (if_neg hsome), stall (c := .endProgram) nofun (if_neg (by simp [hsome]))⟩,
    fun imm => exc (c := .trap imm) rfl⟩
  · exact evalC_tst_of_writable e ts ta imm halign ((sramWriteOk_word_iff halign).mpr ⟨hin, hwork⟩)
  · refine evalC_tst_of_unwritable e ts ta imm halign (Bool.eq_false_iff.mpr fun hok => ?_)
    obtain ⟨-, hwork⟩ := (sramWriteOk_word_iff halign).mp hok
    exact absurd hwork (Nat.not_le.mpr hblock)
  · simp only [evalC, htaken, sextN_toNat]
  · simp only [evalC, hpast]

end Sys2Proof.Machine
end

section
/-!
The schedulers of a port (R380, R382) and Tarn dispatch (R164, R380 to R384, R392).
-/
namespace Sys2Proof.Machine

/-! ### The schedulers of a port (R380, R382) -/

section Port
variable {s : State} {port : Nat} {bulk : Bool} (ans : List SnoopAnswer)

/-- A scheduler whose turn it is, or that has the port to itself, serves its head item. -/
theorem State.serve_of_turn {u : State} {i : Ingress} (hturn : (s.adm port).bulkTurn = bulk ∨ ((s.adm port).sched (!bulk)).queues = [])
    (hi : s.takeItem port bulk = (u, some i)) : s.serve port bulk ans = u.runIngress ans i := by
  have hgo : ((s.adm port).bulkTurn != bulk && ((s.adm port).sched (!bulk)).queues != []) = false := by
    rcases hturn with h | h <;> simp [h]
  simp [State.serve, hgo, hi]

theorem State.takeItem_of_empty (h : ((s.adm port).sched bulk).queues = []) : s.takeItem port bulk = (s, none) := by
  simp [State.takeItem, Sched.pick, h]

theorem State.serve_of_empty (h : ((s.adm port).sched bulk).queues = []) : s.serve port bulk ans = s := by
  simp only [State.serve, State.takeItem_of_empty h, ite_self]

end Port

/-! ### Inlets top their queues up (R380, R386) -/

section TopUp
variable {β : Type} {p : State → β} (hp : ∀ t e x, p (State.setDisp t e x) = p t)
include hp

/-- A descriptor's joining its queue changes a dispatch source and nothing else. -/
theorem State.joinQueue_keeps (s : State) (e i : Nat) (l : Inlet) : p (s.joinQueue e i l) = p s := by
  unfold State.joinQueue
  extract_lets x q base f il
  split
  · rfl
  · exact hp _ _ _

theorem State.topUp_keeps (s : State) (i n : Nat) : p (s.topUp i n) = p s := by
  induction n generalizing s with
  | zero => rfl
  | succ n ih => exact (ih _).trans (State.joinQueue_keeps hp _ _ _ _)

theorem State.topUpAll_keeps (s : State) (e : Nat) : p (s.topUpAll e) = p s :=
  foldl_keeps p _ _ fun t a _ => State.topUp_keeps hp t a.1 a.2.untaken

end TopUp

@[simp] theorem State.reg_topUpAll (s : State) (e o : Nat) : (s.topUpAll e).reg o = s.reg o :=
  State.topUpAll_keeps (p := (·.reg o)) (fun _ _ _ => rfl) s e

@[simp] theorem State.jobs_topUpAll (s : State) (e : Nat) : (s.topUpAll e).jobs.jobs = s.jobs.jobs :=
  State.topUpAll_keeps (p := (·.jobs.jobs)) (fun _ _ _ => rfl) s e

/-! ### DISPATCH_SERVE (R164, R380 to R383) -/

/-- The job that a source takes for the next descriptor of an Inlet. -/
def State.nextTaken (s : State) (e i : Nat) : Job :=
  let l := s.inlet i
  let slot := l.started % l.slots
  { id := s.jobs.nextJob, inlet := i, slot := slot, engine := e, number := (s.disp e).jobs, st := .taken, desc := {}, mark := s.pair.nextMirror,
    fails := if l.aborts.contains slot then [1] else [] }

/-- Dispatch counts a job that it has taken and the `n` queues it passed over, and its source's Inlets top their queues up. -/
def State.dispatchCounted (s : State) (e n : Nat) : State :=
  (((s.bump R.JOB_CNT_STARTED).bump R.QOS_CNT_DISPATCHED).bump R.QOS_CNT_INELIGIBLE n).topUpAll e

@[simp] theorem State.jobs_dispatchCounted (s : State) (e n : Nat) : (s.dispatchCounted e n).jobs.jobs = s.jobs.jobs := State.jobs_topUpAll _ _

theorem State.started_dispatchCounted (s : State) (e n : Nat) : (s.dispatchCounted e n).reg R.JOB_CNT_STARTED = s.reg R.JOB_CNT_STARTED + 1 := by
  rw [State.dispatchCounted, State.reg_topUpAll, State.reg_bump_ne _ _ _ _ (by decide), State.reg_bump_ne _ _ _ _ (by decide), State.reg_bump_same]
  rfl

theorem State.dispatched_dispatchCounted (s : State) (e n : Nat) :
    (s.dispatchCounted e n).reg R.QOS_CNT_DISPATCHED = s.reg R.QOS_CNT_DISPATCHED + 1 := by
  rw [State.dispatchCounted, State.reg_topUpAll, State.reg_bump_ne _ _ _ _ (by decide), State.reg_bump_same, State.reg_bump_ne _ _ _ _ (by decide)]
  rfl

/-- A source that takes no job yet takes one for the Inlet whose turn it is. -/
theorem exec_dispatchServe_of_pick {e : Fin 9} {q : DispQ} {i : Nat} {s : State} (hl2 : s.rst.l2 = 0)
    (hidle : s.jobs.jobs.any (fun j => j.engine == e.val && (j.st == .taken || j.st == .waiting)) = false) (hroom : s.jobs.jobs.length < 16384)
    (hpick : s.pickDispatch e = some (q, i)) :
    ∃ (u : State) (n : Nat), exec (.dispatchServe e) s = .next (u.dispatchCounted e n) ∧ u.regs = s.regs ∧
      u.jobs.jobs = s.jobs.jobs ++ [s.nextTaken e i] := by
  have hgo : ¬ (s.rst.l2 ≠ 0 ∨ s.jobs.jobs.any (fun j => j.engine == e.val && (j.st == .taken || j.st == .waiting)) = true ∨ 16384 ≤ s.jobs.jobs.length) :=
    not_or.mpr ⟨not_not.mpr hl2, not_or.mpr ⟨Bool.eq_false_iff.mp hidle, Nat.not_le.mpr hroom⟩⟩
  show ∃ u n, execDispatchServe e s = .next (State.dispatchCounted u e n) ∧ _
  simp only [execDispatchServe, if_neg hgo, hpick]
  exact ⟨_, _, rfl, rfl, rfl⟩

/-- Settles O29: each scheduler by its turn, dispatch by the job it takes. -/
theorem schedulersServe : Obligations.SchedulersServe := by
  unfold Obligations.SchedulersServe
  refine ⟨fun port ans s i => ⟨fun hturn hi => ?_, fun hturn hi => ?_⟩, fun port ans s hreq hbulk => ⟨?_, ?_⟩,
    fun e q i s hl2 hidle hroom hpick => ?_, fun e s hpick => ?_, fun choice j s hfind hfails => ?_⟩
  · exact congrArg _ (State.serve_of_turn (bulk := false) ans hturn (Prod.ext rfl hi))
  · exact congrArg _ (State.serve_of_turn (bulk := true) ans hturn (Prod.ext rfl hi))
  · exact congrArg _ (State.serve_of_empty (bulk := false) ans hreq)
  · exact congrArg _ (State.serve_of_empty (bulk := true) ans hbulk)
  · obtain ⟨u, n, hexec, hregs, hjobs⟩ := exec_dispatchServe_of_pick hl2 hidle hroom hpick
    have hreg (o : Nat) : u.reg o = s.reg o := by simp only [State.reg, hregs]
    exact ⟨_, hexec, by rw [State.started_dispatchCounted, hreg], by rw [State.dispatched_dispatchCounted, hreg],
      s.nextTaken e i, (State.jobs_dispatchCounted _ _ _).trans hjobs, rfl, rfl, rfl, rfl, rfl⟩
  · exact if_pos hpick
  · show execDispatchCreditWaitEnd choice s = _
    simp only [execDispatchCreditWaitEnd, hfind, if_neg (not_not.mpr hfails)]

end Sys2Proof.Machine
end

section
/-!
Doorbells (R161, R162, R181, R182, R187, R387).
-/
namespace Sys2Proof.Machine

/-! ### A doorbell that is served (R162, R181) -/

section Served
variable {s : State} {ep txn word : Nat} (hon : s.jobsOn = true) (hinlet : s.inletOn (s.inlet (dbInlet word)) = true)
include hon hinlet

/-- A new tail within its range becomes the Inlet's, and the added descriptors join their queue. -/
theorem State.runDoorbell_of_tail (hop : dbOp word = 0) (htail : (s.inlet (dbInlet word)).tailOk (dbValue word) = true) :
    let t := (s.bump R.JOB_CNT_DOORBELL).setInlet (dbInlet word) { s.inlet (dbInlet word) with tail := dbValue word }
    s.runDoorbell ep txn word = (t.topUp (dbInlet word) (t.inlet (dbInlet word)).untaken).sendPkt (cmpTo ep txn 0) := by
  simp [State.runDoorbell, hon, hinlet, hop, htail, stOk]

theorem State.runDoorbell_of_abort (hop : dbOp word = 1) :
    s.runDoorbell ep txn word = ((s.bump R.JOB_CNT_DOORBELL).abortSlot (dbInlet word) (dbValue word)).sendPkt (cmpTo ep txn 0) := by
  simp [State.runDoorbell, hon, hinlet, hop, stOk]

end Served

/-- An abort of a slot that a job in flight holds reaches the job before its decision, and comes too late after it (R181, R182). -/
theorem State.abortSlot_of_job {s : State} {i slot : Nat} {j : Job} (h : s.jobs.jobs.find? (fun j => j.inlet == i && j.slot == slot) = some j) :
    s.abortSlot i slot = if j.decided then s.bump R.JOB_CNT_ABORT_LATE else s.failJob j.id 1 := by
  simp only [State.abortSlot, h]
  rfl

/-! ### The checks of R161 -/

/-- Whether admission would answer a doorbell RETRY_AFTER (R387). -/
def State.turnsAway (s : State) (port tenant cls : Nat) : Bool :=
  match (s.colour port tenant cls 1 false).2 with | .refused _ => true | .queued => false

/-- A doorbell as admission meets it: one that it turns away is counted (R191). -/
def State.doorbellOffered (s : State) (port ep tenant : Nat) : State := if s.turnsAway port tenant (s.epClass ep) then s.bump R.JOB_CNT_DB_REFUSED else s

/-- Checks 1 to 4 of R161 on a recorded doorbell, and its admission. -/
def State.doorbellChecks (s : State) (port ep txn word : Nat) (hold : Bool) : State :=
  let l := s.inlet (dbInlet word)
  if ep ≠ l.owner then s.refuseDoorbell ep txn (some F.JOB_ERR_DB_DENIED) stDoorbellDenied
  else if !s.inletOn l then s.refuseDoorbell ep txn (some F.JOB_ERR_DB_DISABLED) stInletDisabled
  else if dbOp word = 0 ∧ !l.tailOk (dbValue word) then s.refuseDoorbell ep txn (some F.JOB_ERR_DB_RANGE) stDoorbellRange
  else
    match (if dbOp word = 0 then s.headersFault l (dbValue word) else none) with
    | some va =>
      match s.access { endpoint := l.owner, srcKind := 0, srcIndex := l.port } l.asid va 1 false with
      | (s, .error q) => s.refuseDoorbell ep txn none (faultStatus q)
      | (s, .ok _) => s.refuseDoorbell ep txn none stFault
    | none =>
      let s := s.doorbellOffered port ep l.tenant
      match s.offer port l.tenant (s.epClass ep) 1 (creditsOf 32) false hold ep txn (.doorbell ep txn port word) with
      | (s, some (.doorbell e t _ w)) => s.runDoorbell e t w
      | (s, _) => s

/-- A well-formed doorbell of a live endpoint, not repeated, with the job unit on, comes to the checks of R161. -/
theorem State.doorbell_of_formed {s : State} {port w0 w1 : Nat} {payload : List Byte} {dt : Nat} (hold : Bool) :
    let u := (s.takeDelivered port (pkBytes w0 w1 payload)).portTime port dt
    let word := leNat (payload.take 4)
    u.isDead (pkEp w0) = false → (pkFormed w0 4 6 (inReserved w1) payload [16] && leNat (payload.drop 4) == 0 && dbOp word ≤ 1 && dbReserved word == 0) = true →
    u.rst.l2 = 0 → u.isDuplicate w0 = false → (u.record (pkEp w0) (pkTxn w0)).jobsOn = true →
    s.doorbell port w0 w1 payload dt hold = (u.record (pkEp w0) (pkTxn w0)).doorbellChecks port (pkEp w0) (pkTxn w0) word hold := by
  intro u word hdead hformed hl2 hdup hon
  refine (if_neg (Bool.eq_false_iff.mp hdead)).trans ((if_neg ?_).trans ((if_neg (not_not.mpr hl2)).trans ((if_neg (Bool.eq_false_iff.mp hdup)).trans
    ((if_neg ?_).trans rfl))))
  · exact Bool.eq_false_iff.mp (congrArg (!·) hformed)
  · exact Bool.eq_false_iff.mp (congrArg (!·) hon)

section Checks
variable {s : State} {port ep txn word : Nat} {hold : Bool}

theorem State.doorbellChecks_of_stranger (h : ep ≠ (s.inlet (dbInlet word)).owner) :
    s.doorbellChecks port ep txn word hold = s.refuseDoorbell ep txn (some F.JOB_ERR_DB_DENIED) 0x07 := if_pos h

variable (howner : ep = (s.inlet (dbInlet word)).owner)
include howner

theorem State.doorbellChecks_of_off (hoff : s.inletOn (s.inlet (dbInlet word)) = false) :
    s.doorbellChecks port ep txn word hold = s.refuseDoorbell ep txn (some F.JOB_ERR_DB_DISABLED) 0x08 := by
  unfold State.doorbellChecks
  extract_lets l
  rw [if_neg (not_not.mpr howner), if_pos (by simpa using hoff)]
  rfl

/-- The owner's doorbell to an Inlet that is on, whose tail passes checks 3 and 4 where it carries one, and that admission serves at once, takes effect. -/
theorem State.doorbellChecks_of_served {u v : State} (hinlet : s.inletOn (s.inlet (dbInlet word)) = true)
    (htail : dbOp word = 0 → (s.inlet (dbInlet word)).tailOk (dbValue word) = true ∧ s.headersFault (s.inlet (dbInlet word)) (dbValue word) = none)
    (hoffered : s.doorbellOffered port ep (s.inlet (dbInlet word)).tenant = v)
    (hserved : v.offer port (s.inlet (dbInlet word)).tenant (v.epClass ep) 1 (creditsOf 32) false hold ep txn (.doorbell ep txn port word) =
      (u, some (.doorbell ep txn port word))) :
    s.doorbellChecks port ep txn word hold = u.runDoorbell ep txn word := by
  have hrange : ¬ (dbOp word = 0 ∧ !((s.inlet (dbInlet word)).tailOk (dbValue word))) := fun ⟨hop, hbad⟩ => by simp [(htail hop).1] at hbad
  have hheaders : (if dbOp word = 0 then s.headersFault (s.inlet (dbInlet word)) (dbValue word) else none) = none :=
    ite_eq_right_iff.mpr fun hop => (htail hop).2
  simp only [State.doorbellChecks]
  rw [if_neg (not_not.mpr howner), if_neg (by simpa using hinlet), if_neg hrange, hheaders]
  simp only [hoffered, hserved]

end Checks

/-- Settles O33: DOORBELL_RING and DOORBELL_ABORT are one packet, which comes to the checks of R161. -/
theorem doorbellsReachInlets : Obligations.DoorbellsReachInlets := by
  unfold Obligations.DoorbellsReachInlets
  intro port w0 w1 payload dt hold s u ep txn word r l hdead hformed hl2 hdup hon
  have hchecks : s.doorbell port w0.toNat w1.toNat payload dt hold = r.doorbellChecks port ep txn word hold :=
    State.doorbell_of_formed hold hdead hformed hl2 hdup hon
  have hring : exec (.doorbellRing port w0 w1 payload dt hold) s = .next (r.doorbellChecks port ep txn word hold) := congrArg _ hchecks
  have habort : exec (.doorbellAbort port w0 w1 payload dt hold) s = .next (r.doorbellChecks port ep txn word hold) := congrArg _ hchecks
  rw [hring, habort]
  refine ⟨fun howner => ?_, fun howner hoff => ?_, fun howner hinlet => ?_⟩
  · rw [State.doorbellChecks_of_stranger howner]
    exact ⟨rfl, rfl⟩
  · rw [State.doorbellChecks_of_off howner hoff]
    exact ⟨rfl, rfl⟩
  · intro v o i hserved hon' hinlet'
    have hserved' : o = (o.1, some (.doorbell ep txn port word)) := Prod.ext rfl hserved
    refine ⟨fun hop htail hheaders htail' => ?_, fun hop j hj => ?_⟩
    · rw [State.doorbellChecks_of_served howner hinlet (fun _ => ⟨htail, hheaders⟩) rfl hserved']
      exact congrArg _ (State.runDoorbell_of_tail hon' hinlet' hop htail')
    · rw [State.doorbellChecks_of_served howner hinlet (fun h0 => absurd (h0.symm.trans hop) (by decide)) rfl hserved',
        State.runDoorbell_of_abort hon' hinlet' hop, State.abortSlot_of_job (s := o.1.bump R.JOB_CNT_DOORBELL) hj]

end Sys2Proof.Machine
end

section
/-!
Validation of a taken descriptor, the watchdog, and the second validation of a job that ingests first (R164 to R167, R182, R184).
-/
namespace Sys2Proof.Machine

/-! ### JOB_VALIDATE (R164, R166), stage by stage -/

/-- A job whose descriptor has passed checks 3 to 12 waits for its turn as a command, begins its ingest, or is launched, unless its source needs too many
slices (check 13). -/
def State.validJobStarts (s : State) (l : Inlet) (k : Job) (pick : List (Nat × Nat)) (ans : List SnoopAnswer) : Answer :=
  if k.desc.opcode = 0x10 then .next (s.putJob { k with st := .command })
  else match s.sourceOf l k.desc with
    | .error e => .next (s.finishJob k.id e)
    | .ok src =>
      if k.desc.opcode = 1 ∧ 4096 < slicesNeeded l (s.jobBlocks (k.ofSource src) src) then .next (s.finishJob k.id jsBadParams)
      else if k.desc.opcode = 2 ∨ k.desc.ingestFirst then .next (s.startIngest k)
      else .next (s.launch k src pick ans)

/-- The lines that were read: a poisoned one, or one of checks 3 to 12, completes the job. -/
def State.linesChecked (s : State) (l : Inlet) (k : Job) (head : List Byte) (poisoned : Bool) (pick : List (Nat × Nat)) (ans : List SnoopAnswer) : Answer :=
  if poisoned then .next (s.finishJob k.id jsPoisoned)
  else match s.checkDesc l head k.body with
    | some st => .next (s.finishJob k.id st)
    | none => s.validJobStarts l k pick ans

/-- The header has been read, and the lines it names are read in their turn. -/
def State.headerRead (s : State) (l : Inlet) (j : Job) (hd : List LineRead) (pick : List (Nat × Nat)) (ans : List SnoopAnswer) : Answer :=
  let head := hd.flatMap (·.data)
  let d := descOf head
  match s.readDesc l (l.slotVa j.slot + 64) (min d.lines (2 ^ (l.slotLog2 - 6)) - 1) ans with
  | (s, none) => .next ((s.putJob { j with desc := d }).finishJob j.id jsXlatFault)
  | (s, some bd) =>
    let k : Job := { j with desc := d, body := bd.flatMap (·.data) }
    (s.putJob k).linesChecked l k head ((hd ++ bd).any (fun r => r.poison)) pick ans

section Stages
variable {s : State} {j : Job} {source : Fin 9} (choice : List (Fin 4 × Fin 24)) (ans : List SnoopAnswer)
  (hfind : s.jobs.jobs.find? (fun j => j.engine == source.val && j.st == .taken) = some j)

section Header
include hfind

theorem exec_jobValidate_of_failed (hfails : j.fails ≠ []) :
    exec (.jobValidate source choice ans) s = .next (s.finishJob j.id ((firstFail j.fails).getD 1)) := by
  show execJobValidate source choice ans s = _
  simp only [execJobValidate, hfind, if_pos hfails]
  rfl

variable (hfails : j.fails = [])
include hfails

theorem exec_jobValidate_of_unread {u : State} (hread : s.readDesc (s.inlet j.inlet) ((s.inlet j.inlet).slotVa j.slot) 1 ans = (u, none)) :
    exec (.jobValidate source choice ans) s = .next (u.finishJob j.id 9) := by
  show execJobValidate source choice ans s = _
  simp only [execJobValidate, hfind, if_neg (not_not.mpr hfails), hread]
  rfl

theorem exec_jobValidate_of_header {u : State} {hd : List LineRead}
    (hread : s.readDesc (s.inlet j.inlet) ((s.inlet j.inlet).slotVa j.slot) 1 ans = (u, some hd)) :
    exec (.jobValidate source choice ans) s = u.headerRead (s.inlet j.inlet) j hd (choice.map (fun c => (c.1.val, c.2.val))) ans := by
  show execJobValidate source choice ans s = _
  simp only [execJobValidate, hfind, if_neg (not_not.mpr hfails), hread]
  rfl

end Header

variable {ans} {u : State} {l : Inlet} {hd bd : List LineRead} {pick : List (Nat × Nat)}

theorem State.headerRead_of_unread
    (hread : s.readDesc l (l.slotVa j.slot + 64) (min (descOf (hd.flatMap (·.data))).lines (2 ^ (l.slotLog2 - 6)) - 1) ans = (u, none)) :
    s.headerRead l j hd pick ans = .next ((u.putJob { j with desc := descOf (hd.flatMap (·.data)) }).finishJob j.id 9) := by
  simp only [State.headerRead, hread]
  rfl

theorem State.headerRead_of_lines
    (hread : s.readDesc l (l.slotVa j.slot + 64) (min (descOf (hd.flatMap (·.data))).lines (2 ^ (l.slotLog2 - 6)) - 1) ans = (u, some bd)) :
    let k : Job := { j with desc := descOf (hd.flatMap (·.data)), body := bd.flatMap (·.data) }
    s.headerRead l j hd pick ans = (u.putJob k).linesChecked l k (hd.flatMap (·.data)) ((hd ++ bd).any (fun r => r.poison)) pick ans := by
  simp only [State.headerRead, hread]

variable {k : Job} {head : List Byte} {poisoned : Bool}

theorem State.linesChecked_of_poison (h : poisoned = true) : s.linesChecked l k head poisoned pick ans = .next (s.finishJob k.id 0xA) := if_pos h

theorem State.linesChecked_of_fault {st : Nat} (hclean : poisoned = false) (h : s.checkDesc l head k.body = some st) :
    s.linesChecked l k head poisoned pick ans = .next (s.finishJob k.id st) := by
  simp [State.linesChecked, hclean, h]

theorem State.linesChecked_of_valid (hclean : poisoned = false) (h : s.checkDesc l head k.body = none) :
    s.linesChecked l k head poisoned pick ans = s.validJobStarts l k pick ans := by
  simp [State.linesChecked, hclean, h]

theorem State.validJobStarts_of_command (h : k.desc.opcode = 0x10) :
    s.validJobStarts l k pick ans = .next (s.putJob { k with st := .command }) := if_pos h

section Source
variable {src : Source} (hop : k.desc.opcode ≠ 0x10) (hsrc : s.sourceOf l k.desc = .ok src)
include hop hsrc

theorem State.validJobStarts_of_tooManySlices (hdec : k.desc.opcode = 1) (hneed : 4096 < slicesNeeded l (s.jobBlocks (k.ofSource src) src)) :
    s.validJobStarts l k pick ans = .next (s.finishJob k.id 6) := by
  simp only [State.validJobStarts, if_neg hop, hsrc, if_pos (And.intro hdec hneed)]
  rfl

variable (hfits : ¬ (k.desc.opcode = 1 ∧ 4096 < slicesNeeded l (s.jobBlocks (k.ofSource src) src)))
include hfits

theorem State.validJobStarts_of_ingest (hingest : k.desc.opcode = 2 ∨ k.desc.ingestFirst = true) :
    s.validJobStarts l k pick ans = .next (s.startIngest k) := by
  simp only [State.validJobStarts, if_neg hop, hsrc, if_neg hfits, if_pos hingest]

theorem State.validJobStarts_of_decode (hdecode : ¬ (k.desc.opcode = 2 ∨ k.desc.ingestFirst = true)) :
    s.validJobStarts l k pick ans = .next (s.launch k src pick ans) := by
  simp only [State.validJobStarts, if_neg hop, hsrc, if_neg hfits, if_neg hdecode]

end Source

end Stages

/-! ### JOB_TIMEOUT (R184) and DECODE_REVALIDATE (R167) -/

section InFlight
variable {s : State} {job : Nat} {j : Job} (hj : s.job job = some j)
include hj

theorem exec_jobTimeout_of_running (hst : j.st = .decode ∨ j.st = .ingest) (hdec : j.decided = false) :
    exec (.jobTimeout job) s = .next (s.failJob job 2) := by
  show execJobTimeout job s = _
  simp only [execJobTimeout, hj, hdec]
  exact if_pos ⟨hst, rfl⟩

theorem exec_jobTimeout_of_decided (hdec : j.decided = true) : exec (.jobTimeout job) s = .next s := by
  show execJobTimeout job s = _
  simp only [execJobTimeout, hj, hdec]
  exact if_neg fun h => Bool.noConfusion h.2

/-- The decode part of a job whose records are all committed is launched once checks 8 to 12 pass afresh. -/
theorem exec_decodeRevalidate_of_valid (choice : List (Fin 4 × Fin 24)) (ans : List SnoopAnswer) {src : Source} (hst : j.st = .ingest)
    (hfirst : j.desc.ingestFirst = true) (hall : j.desc.ingestCount ≤ j.committed) (hfails : j.fails = [])
    (hsrc : s.checkSource (s.inlet j.inlet) j.desc j.body = .ok src) :
    exec (.decodeRevalidate job choice ans) s = .next (s.launch j src (choice.map (fun c => (c.1.val, c.2.val))) ans) := by
  have hready : ¬ (j.st ≠ .ingest ∨ !j.desc.ingestFirst ∨ j.committed < j.desc.ingestCount) := by
    simp only [hst, hfirst]
    simpa using hall
  show execDecodeRevalidate job choice ans s = _
  simp only [execDecodeRevalidate, hj, if_neg hready, if_neg (not_not.mpr hfails), hsrc]

end InFlight

/-- Settles O34: JOB_VALIDATE stage by stage, the watchdog, and the second validation. -/
theorem jobsAreValidated : Obligations.JobsAreValidated := by
  unfold Obligations.JobsAreValidated
  refine ⟨fun source choice ans s j hfind => ?_, fun job j s hj => ⟨exec_jobTimeout_of_running hj, exec_jobTimeout_of_decided hj⟩,
    fun job choice ans j src s hj => exec_decodeRevalidate_of_valid hj choice ans⟩
  intro l pick h
  refine ⟨exec_jobValidate_of_failed choice ans hfind, fun hfails hhd => exec_jobValidate_of_unread choice ans hfind hfails (Prod.ext rfl hhd),
    fun hd hfails hhd => ?_⟩
  intro head d b
  rw [exec_jobValidate_of_header choice ans hfind hfails (Prod.ext rfl hhd)]
  refine ⟨fun hbd => State.headerRead_of_unread (Prod.ext rfl hbd), fun bd hbd => ?_⟩
  intro k t
  have hlines : h.1.headerRead l j hd pick ans = t.linesChecked l k head ((hd ++ bd).any (fun r => r.poison)) pick ans :=
    State.headerRead_of_lines (Prod.ext rfl hbd)
  rw [hlines]
  refine ⟨State.linesChecked_of_poison, fun hclean => ⟨fun st => State.linesChecked_of_fault hclean, fun hvalid => ?_⟩⟩
  rw [State.linesChecked_of_valid hclean hvalid]
  refine ⟨State.validJobStarts_of_command (k := k), fun src hop hsrc => ?_⟩
  intro need
  refine ⟨State.validJobStarts_of_tooManySlices (k := k) hop hsrc, fun hdec hneed hfirst => ?_, fun hingest => ?_, fun hdec hneed hfirst => ?_⟩
  · exact State.validJobStarts_of_ingest (k := k) hop hsrc (fun hmany => absurd hmany.2 (Nat.not_lt.mpr hneed)) (.inr hfirst)
  · exact State.validJobStarts_of_ingest (k := k) hop hsrc (fun hmany => absurd (hmany.1.symm.trans hingest) (by decide)) (.inl hingest)
  · exact State.validJobStarts_of_decode (k := k) hop hsrc (fun hmany => absurd hmany.2 (Nat.not_lt.mpr hneed)) (by simp [k, hdec, hfirst])

end Sys2Proof.Machine
end

section
/-!
Program images, bindings of Inlets, and the Inlet configuration commands (R159, R168, R170 to R172, R189, R190, R472, R473).
-/
namespace Sys2Proof.Machine

/-! ### Images of roles (R106, R172) -/

/-- A role's load changes its Tarn and shows in STATE; the job unit keeps what it holds. -/
theorem State.startLoad_jobs (s : State) (q r : Nat) : (s.startLoad q r).jobs = s.jobs := by
  unfold State.startLoad
  split
  · rfl
  next t _ =>
    extract_lets x u
    split <;> rfl

@[simp] theorem State.inlet_startLoad (s : State) (q r i : Nat) : (s.startLoad q r).inlet i = s.inlet i := by
  simp only [State.inlet, State.startLoad_jobs]

@[simp] theorem State.inlet_setRoleImage (s : State) (q r v i : Nat) : (s.setRoleImage q r v).inlet i = s.inlet i := (rfl)

@[simp] theorem State.inlet_resetRole (s : State) (p : Nat × Nat) (i : Nat) : (s.resetRole p).inlet i = s.inlet i := State.inlet_startLoad _ _ _ _

theorem State.images_resetRole (s : State) (p : Nat × Nat) : (s.resetRole p).jobs.images = s.jobs.images := by
  rw [State.resetRole, State.startLoad_jobs]
  rfl

/-- A role that is reset holds image 0x0001; the others keep theirs. -/
theorem State.roleImage_resetRole (s : State) {p : Nat × Nat} (hp : p.2 < 24) {q r : Nat} (hr : r < 24) :
    (s.resetRole p).roleImage q r = if (q, r) = p then 1 else s.roleImage q r := by
  obtain ⟨a, b⟩ := p
  have hkey : 32 * q + r = 32 * a + b ↔ (q, r) = (a, b) := by
    rw [Prod.mk.injEq]
    simp only at hp
    omega
  simp only [State.roleImage, State.resetRole, State.startLoad_jobs, State.setRoleImage, Tbl.get_set, hkey]

theorem State.roleImage_resetRoles (s : State) {l : List (Nat × Nat)} (hl : ∀ p ∈ l, p.2 < 24) {q r : Nat} (hr : r < 24) :
    (l.foldl State.resetRole s).roleImage q r = if (q, r) ∈ l then 1 else s.roleImage q r := by
  induction l generalizing s with
  | nil => rfl
  | cons p l ih =>
    rw [List.forall_mem_cons] at hl
    rw [List.foldl_cons, ih _ hl.2, State.roleImage_resetRole s hl.1 hr]
    by_cases hhead : (q, r) = p <;> by_cases htail : (q, r) ∈ l <;> simp [hhead, htail]

theorem mem_allRoles {q r : Nat} : (q, r) ∈ allRoles ↔ q < 4 ∧ r < 24 := by
  simp [allRoles]

/-! ### PROG_LOAD (R171, R472, R473) -/

/-- A signer may sign an image for a tenant, and the signature verifies. -/
def State.signatureGood (s : State) (tenant : Nat) (signed block : List Byte) : Bool :=
  s.signerOk (some tenant) (signerHash block) && Config.verifies (sigPubkey block) signed (sigSignature block)

section Load
variable {core : Nat} {ans : List SnoopAnswer} {s t u : State} {j : Job} {l : Inlet} {f : Found} {ls : List LineRead} {img : Image} {sig : Nat}

/-- The bytes of an image that PROG_LOAD reads, of the lines that hold them. -/
def imageBytes (j : Job) (ls : List LineRead) : List Byte := ((ls.flatMap (·.data)).drop (j.param 0 8 % 64)).take (j.param 8 4)

/-- An image that its signer may sign takes the lowest free PROG_ID from 0x0100 (R171). -/
def State.addImage (s : State) (l : Inlet) (img : Image) (signed block : List Byte) : State × CmdResult :=
  let id := firstGap (sortBy (fun k => k) (s.jobs.images.map (·.id))) 256
  ({ s with jobs := { s.jobs with images := s.jobs.images ++
    [{ img with id := id, tenant := l.tenant, measure := Config.shake256 signed 32, signer := signerHash block }] } }, { status := 0, result := id })

/-- What PROG_LOAD does with an image once it is read and its header is in range. -/
def State.placeImage (s : State) (l : Inlet) (img : Image) (signed block : List Byte) : State × CmdResult :=
  match s.verifyImage (some l.tenant) signed block with
  | (s, .malformed) => (s, .fail jsProgFormat)
  | (s, .refused) => (s, .fail jsProgSignature)
  | (s, .good) => if 32 ≤ s.jobs.images.length then (s, .fail jsProgLimit) else s.addImage l img signed block

section Formed
variable {signed block : List Byte} (hformed : sigFormed block = true)
include hformed

theorem State.placeImage_of_good (hgood : s.signatureGood l.tenant signed block = true) (hroom : s.jobs.images.length < 32) :
    s.placeImage l img signed block = s.addImage l img signed block := by
  have hverify : s.verifyImage (some l.tenant) signed block = (s, .good) := by
    simp only [State.signatureGood] at hgood
    simp [State.verifyImage, State.verdict, hformed, hgood]
  simp only [State.placeImage, hverify, if_neg (Nat.not_le.mpr hroom)]

/-- A signature that does not verify is counted and flagged. -/
theorem State.placeImage_of_refused (hbad : s.signatureGood l.tenant signed block = false) :
    s.placeImage l img signed block = ((s.bump R.SEC_CNT_VERIFY_FAIL).setErr R.SEC_ERR F.SEC_ERR_VERIFY_FAIL, .fail 0x40) := by
  have hverify : s.verifyImage (some l.tenant) signed block =
      ((s.bump R.SEC_CNT_VERIFY_FAIL).setErr R.SEC_ERR F.SEC_ERR_VERIFY_FAIL, .refused) := by
    simp only [State.signatureGood] at hbad
    simp [State.verifyImage, State.verdict, hformed, hbad]
  simp only [State.placeImage, hverify]
  rfl

end Formed

theorem State.progLoad_of_image (hn : j.param 8 4 ≠ 0)
    (hread : s.access { endpoint := l.owner, srcKind := 3, srcIndex := core } l.asid (j.param 0 8) (j.param 8 4) false = (t, .ok f))
    (hlines : t.readVa l.owner l.asid l.tenant (j.param 0 8 / 64 * 64) ans ((j.param 0 8 % 64 + j.param 8 4 + 63) / 64) = (u, ls))
    (hclean : ls.any (·.poison) = false) (himg : imageOf? (imageBytes j ls) = some (img, sig)) :
    State.progLoad core ans s j l = u.placeImage l img ((imageBytes j ls).take (j.param 8 4 - sig)) ((imageBytes j ls).drop (j.param 8 4 - sig)) := by
  unfold State.progLoad
  extract_lets va n
  rw [if_neg hn]
  simp only [va, n, hread, hlines]
  rw [if_neg (Bool.eq_false_iff.mp hclean)]
  simp only [show imageOf? (((ls.flatMap (·.data)).drop (j.param 0 8 % 64)).take (j.param 8 4)) = _ from himg]
  rfl

end Load

/-! ### PROG_UNLOAD (R171) -/

/-- An image that nothing is bound to goes, and the roles that held it are reset. -/
theorem State.progUnload_of_unbound {s : State} {j : Job} {l : Inlet} (hid : 256 ≤ j.param 0 2)
    (hown : s.jobs.images.any (fun i => i.id == j.param 0 2 && i.tenant == l.tenant) = true)
    (hfree : s.jobs.inlets.any (fun e => e.2.bound.elim false (fun b => b.prog == j.param 0 2)) = false) :
    let t := (allRoles.filter (fun p => s.roleImage p.1 p.2 == j.param 0 2)).foldl State.resetRole s
    s.progUnload j l = ({ t with jobs := { t.jobs with images := t.jobs.images.filter (fun i => i.id != j.param 0 2) } }, { status := 0 }) := by
  have hrange : ¬ (1 ≤ j.param 0 2 ∧ j.param 0 2 ≤ 255) := by omega
  simp only [State.progUnload, if_neg hrange, hown, hfree]
  rfl

/-- The roles reset are those that held the image. -/
theorem State.roleImage_unloaded (s : State) (id : Nat) {q r : Nat} (hq : q < 4) (hr : r < 24) :
    ((allRoles.filter (fun p => s.roleImage p.1 p.2 == id)).foldl State.resetRole s).roleImage q r =
      if s.roleImage q r = id then 1 else s.roleImage q r := by
  rw [State.roleImage_resetRoles s (fun p hp => (mem_allRoles.mp (List.mem_of_mem_filter hp)).2) hr]
  simp [List.mem_filter, mem_allRoles, hq, hr]

/-! ### Bindings (R172) -/

@[simp] theorem State.inlet_setInlet_same (s : State) (i : Nat) (l : Inlet) : (s.setInlet i l).inlet i = l := Tbl.get_set_same _ _ _ _

@[simp] theorem State.inlet_topUp (s : State) (k n i : Nat) : (s.topUp k n).inlet i = s.inlet i :=
  State.topUp_keeps (p := (·.inlet i)) (fun _ _ _ => rfl) s k n

/-- An Inlet bound or unbound holds its new binding. -/
theorem State.bound_rebind (s : State) (i : Nat) (b : Option Binding) : ((s.rebind i b).inlet i).bound = b := by
  simp [State.rebind]

/-- Giving a role an image and loading it leaves the Inlets as they are. -/
theorem State.inlet_loadRoles (s : State) (prog i : Nat) (l : List (Nat × Nat)) :
    (l.foldl (fun s p => (s.setRoleImage p.1 p.2 prog).startLoad p.1 p.2) s).inlet i = s.inlet i :=
  foldl_keeps (fun t : State => t.inlet i) _ _ (fun t p _ => by simp)

@[simp] theorem State.inlet_releaseRoles (s : State) (l : List (Nat × Nat)) (i : Nat) : (s.releaseRoles l).inlet i = s.inlet i :=
  foldl_keeps (fun t : State => t.inlet i) _ _ (fun t p _ => t.inlet_resetRole p i)

/-- INLET_BIND comes to the status of a check that fails, or binds the target Inlet to the image, with the roles asked for in each quadrant. -/
theorem State.inletBind_cases (choice : List (Nat × Nat)) (s : State) (j : Job) (l : Inlet) :
    (∃ st, st ≠ 0 ∧ State.inletBind choice s j l = (s, .fail st)) ∨
    ∃ (t : State) (b : Binding), State.inletBind choice s j l = (t, { status := 0, result := 4 * j.param 4 1 }) ∧
      (t.inlet (j.param 0 2)).bound = some b ∧ b.prog = j.param 2 2 := by
  unfold State.inletBind
  extract_lets i prog n pick roles old bound loaded
  split
  · exact .inl ⟨_, by decide, rfl⟩
  split
  · exact .inl ⟨_, by decide, rfl⟩
  split
  · exact .inl ⟨_, by decide, rfl⟩
  split
  · exact .inl ⟨_, by decide, rfl⟩
  split
  · exact .inl ⟨_, by decide, rfl⟩
  · refine .inr ⟨_, { prog := prog, roles := roles }, rfl, ?_, rfl⟩
    rw [State.inlet_releaseRoles, State.inlet_loadRoles, State.bound_rebind]

/-- At its turn INLET_BIND completes with the binding it has made, or with the status of its first failing check. -/
theorem exec_inletBind_of_turn {inlet : BitVec 12} (choice : List (Fin 4 × Fin 24)) {j : Job} {s : State} (h : turnOf s inlet.toNat 0x22 = some j) :
    let k : Job := { j with decided := true }
    let r := State.inletBind (choice.map (fun c => (c.1.val, c.2.val))) (s.putJob k) k (s.inlet inlet.toNat)
    (r.2.status = 0 → ∃ b, exec (.inletBind inlet choice) s = .next (r.1.complete k.id 0 (4 * j.param 4 1)) ∧ (r.1.inlet (j.param 0 2)).bound = some b ∧
      b.prog = j.param 2 2) ∧
    (r.2.status ≠ 0 → exec (.inletBind inlet choice) s = .next (r.1.complete k.id r.2.status 0)) := by
  intro k r
  have hexec : exec (.inletBind inlet choice) s = .next (commandEnds k [] r) := congrArg _ (State.runCommand_of_turn [] _ h)
  rw [hexec]
  obtain ⟨st, hst, hr⟩ | ⟨t, b, hr, hb⟩ := State.inletBind_cases (choice.map (fun c => (c.1.val, c.2.val))) (s.putJob k) k (s.inlet inlet.toNat)
  · rw [show r = _ from hr]
    exact ⟨fun h0 => absurd h0 hst, fun _ => rfl⟩
  · rw [show r = _ from hr]
    exact ⟨fun _ => ⟨b, rfl, hb⟩, fun h0 => absurd rfl h0⟩

/-- INLET_UNBIND of an Inlet: it is unbound and its roles are released, or it may not be named. -/
def State.inletUnbind (s : State) (j : Job) (l : Inlet) : State × CmdResult :=
  let i := j.param 0 2
  if !s.bindTarget l.tenant i then (s, .fail jsInletNotFound)
  else
    let old := (s.inlet i).bound.elim [] (·.roles)
    ((s.rebind i none).releaseRoles old, { status := jsOk })

theorem exec_inletUnbind (inlet : BitVec 12) (s : State) : exec (.inletUnbind inlet) s = .next (s.runCommand inlet.toNat 0x23 [] State.inletUnbind) := rfl

theorem State.inletUnbind_of_target {s : State} {j : Job} {l : Inlet} (h : s.bindTarget l.tenant (j.param 0 2) = true) :
    s.inletUnbind j l = ((s.rebind (j.param 0 2) none).releaseRoles ((s.inlet (j.param 0 2)).bound.elim [] (·.roles)), { status := 0 }) := by
  simp only [State.inletUnbind, h]
  rfl

/-! ### INLET_CONFIG_READ (R189, R190) -/

/-- The word of JOB_ICFG0 that shows an Inlet. -/
def Inlet.word0 (l : Inlet) : Nat :=
  l.owner + l.tenant * 2 ^ 12 + l.asid * 2 ^ 20 + l.port * 2 ^ 36 + (if l.enable then 2 ^ 39 else 0) + l.ringLog2 * 2 ^ 40
    + l.slotLog2 * 2 ^ 44 + l.qos * 2 ^ 49 + (if l.bound.isSome then 2 ^ 51 else 0)

/-- The word of JOB_ICFG3 that shows an Inlet's counts. -/
def Inlet.word3 (l : Inlet) : Nat := l.tail + l.started * 2 ^ 16 + l.completed * 2 ^ 32

section Shown
variable (s : State) (i : Nat)

theorem State.showInlet_icfg0 : (s.showInlet i).reg R.JOB_ICFG0 = BitVec.ofNat 64 (s.inlet i).word0 := by
  rw [State.showInlet, State.reg_setReg_ne _ _ _ _ (by decide), State.reg_setReg_ne _ _ _ _ (by decide), State.reg_setReg_ne _ _ _ _ (by decide),
    State.reg_setReg_same]
  rfl

theorem State.showInlet_icfg1 : (s.showInlet i).reg R.JOB_ICFG1 = BitVec.ofNat 64 (s.inlet i).ringVa := by
  rw [State.showInlet, State.reg_setReg_ne _ _ _ _ (by decide), State.reg_setReg_ne _ _ _ _ (by decide), State.reg_setReg_same]

theorem State.showInlet_icfg2 : (s.showInlet i).reg R.JOB_ICFG2 = BitVec.ofNat 64 (s.inlet i).cplVa := by
  rw [State.showInlet, State.reg_setReg_ne _ _ _ _ (by decide), State.reg_setReg_same]

theorem State.showInlet_icfg3 : (s.showInlet i).reg R.JOB_ICFG3 = BitVec.ofNat 64 (s.inlet i).word3 := by
  rw [State.showInlet, State.reg_setReg_same]
  rfl

end Shown

/-- Each field of JOB_ICFG0 shows its part of an Inlet whose parts are in range. -/
theorem Inlet.word0_fields {l : Inlet} (howner : l.owner < 2 ^ 12) (htenant : l.tenant < 2 ^ 8) (hasid : l.asid < 2 ^ 16) (hport : l.port < 8)
    (hring : l.ringLog2 ≤ 12) (hslot : l.slotLog2 ≤ 16) (hqos : l.qos < 4) :
    let v := (BitVec.ofNat 64 l.word0).toNat
    bitsOf v 0 12 = l.owner ∧ bitsOf v 12 8 = l.tenant ∧ bitsOf v 20 16 = l.asid ∧ bitsOf v 36 3 = l.port ∧ bitsOf v 39 1 = l.enable.toNat ∧
      bitsOf v 40 4 = l.ringLog2 ∧ bitsOf v 44 5 = l.slotLog2 ∧ bitsOf v 49 2 = l.qos ∧ bitsOf v 51 1 = l.bound.isSome.toNat := by
  have henable : (if l.enable then 2 ^ 39 else 0) = l.enable.toNat * 2 ^ 39 := by cases l.enable <;> rfl
  have hbound : (if l.bound.isSome then 2 ^ 51 else 0) = l.bound.isSome.toNat * 2 ^ 51 := by cases l.bound.isSome <;> rfl
  have henable1 := Bool.toNat_le l.enable
  have hbound1 := Bool.toNat_le l.bound.isSome
  simp only [Inlet.word0, henable, hbound, bitsOf, BitVec.toNat_ofNat]
  refine ⟨?_, ?_, ?_, ?_, ?_, ?_, ?_, ?_, ?_⟩ <;> omega

theorem Inlet.word3_fields {l : Inlet} (htail : l.tail < 2 ^ 16) (hstarted : l.started < 2 ^ 16) (hcompleted : l.completed < 2 ^ 16) :
    let v := (BitVec.ofNat 64 l.word3).toNat
    bitsOf v 0 16 = l.tail ∧ bitsOf v 16 16 = l.started ∧ bitsOf v 32 16 = l.completed := by
  simp only [Inlet.word3, bitsOf, BitVec.toNat_ofNat]
  refine ⟨?_, ?_, ?_⟩ <;> omega

theorem bitsOf_address {v : Nat} (h : v < 2 ^ 52) : bitsOf (BitVec.ofNat 64 v).toNat 0 52 = v := by
  simp only [bitsOf, BitVec.toNat_ofNat]
  omega

theorem toNat_bne_zero (b : Bool) : (b.toNat != 0) = b := by cases b <;> rfl

theorem Inlet.log2_le_of_inRange {l : Inlet} (h : l.inRange = true) : l.ringLog2 ≤ 12 ∧ l.slotLog2 ≤ 16 := by
  simp only [Inlet.inRange, Bool.and_eq_true, decide_eq_true_eq] at h
  omega

/-- An Inlet that fits the staging registers is staged as it is shown. -/
theorem State.stagedInlet_showInlet {s : State} {i : Nat} {l : Inlet} (hl : s.inlet i = l) (howner : l.owner < 2 ^ 12) (htenant : l.tenant < 2 ^ 8)
    (hasid : l.asid < 2 ^ 16) (hport : l.port < 8) (hrange : l.inRange = true) (hqos : l.qos < 4) (hringVa : l.ringVa < 2 ^ 52) (hcplVa : l.cplVa < 2 ^ 52) :
    (s.showInlet i).stagedInlet l = l ∧ (s.showInlet i).flag R.JOB_ICFG0 F.JOB_ICFG0_BOUND = l.bound.isSome := by
  subst hl
  obtain ⟨hring, hslot⟩ := Inlet.log2_le_of_inRange hrange
  obtain ⟨f0, f1, f2, f3, f4, f5, f6, f7, f8⟩ := Inlet.word0_fields howner htenant hasid hport hring hslot hqos
  simp only [State.stagedInlet, State.flag, State.get, State.showInlet_icfg0, State.showInlet_icfg1, State.showInlet_icfg2, F.JOB_ICFG0_OWNER,
    F.JOB_ICFG0_TENANT, F.JOB_ICFG0_ASID, F.JOB_ICFG0_PORT, F.JOB_ICFG0_ENABLE, F.JOB_ICFG0_RING_LOG2, F.JOB_ICFG0_SLOT_LOG2, F.JOB_ICFG0_QOS_CLASS,
    F.JOB_ICFG0_BOUND, F.JOB_ICFG1_RING_VA, F.JOB_ICFG2_CPL_VA, f0, f1, f2, f3, f4, f5, f6, f7, f8, bitsOf_address hringVa, bitsOf_address hcplVa,
    toNat_bne_zero, and_self]

theorem State.counts_showInlet {s : State} {i : Nat} {l : Inlet} (hl : s.inlet i = l) (htail : l.tail < 2 ^ 16) (hstarted : l.started < 2 ^ 16)
    (hcompleted : l.completed < 2 ^ 16) :
    (s.showInlet i).get R.JOB_ICFG3 F.JOB_ICFG3_TAIL = l.tail ∧ (s.showInlet i).get R.JOB_ICFG3 F.JOB_ICFG3_STARTED = l.started ∧
      (s.showInlet i).get R.JOB_ICFG3 F.JOB_ICFG3_COMPLETED = l.completed := by
  subst hl
  simp only [State.get, State.showInlet_icfg3]
  exact Inlet.word3_fields htail hstarted hcompleted

/-! ### INLET_CONFIG_WRITE (R159, R190) -/

/-- Whether an Inlet refuses a configuration. -/
def Inlet.refuses (l n : Inlet) : Bool :=
  (l.enable && !(({ n with enable := l.enable } : Inlet) == l)) || (!l.enable && n.enable && l.tail != l.completed) || !n.inRange

section Write
variable {s : State} {i : Nat} {l n : Inlet} (hsel : s.get R.JOB_ICFG_SEL F.JOB_ICFG_SEL_INLET = i) (hl : s.inlet i = l) (hn : s.stagedInlet l = n)
include hsel hl hn

theorem exec_inletConfigWrite_of_refused (h : l.refuses n = true) :
    exec .inletConfigWrite s = .next ((s.putFlag R.JOB_ICFG_CMD F.JOB_ICFG_CMD_FAIL true).setErr R.JOB_ERR F.JOB_ERR_ICFG_FAIL) := by
  subst hsel hl hn
  exact if_pos h

/-- A configuration that is not refused becomes the Inlet's, its counts zeroed when it is enabled. -/
theorem exec_inletConfigWrite_of_taken (h : l.refuses n = false) :
    exec .inletConfigWrite s = .next ((s.putFlag R.JOB_ICFG_CMD F.JOB_ICFG_CMD_FAIL false).setInlet i
      (if !l.enable && n.enable then { n with tail := 0, started := 0, completed := 0, aborts := [] } else n)) := by
  subst hsel hl hn
  exact if_neg (Bool.eq_false_iff.mp h)

end Write

theorem Inlet.refuses_of_disabled {l n : Inlet} (hl : l.enable = false) (hrange : n.inRange = true) :
    l.refuses n = (n.enable && l.tail != l.completed) := by
  simp [Inlet.refuses, hl, hrange]

theorem Inlet.refuses_of_enabled {l n : Inlet} (hl : l.enable = true) (hrange : n.inRange = true) :
    l.refuses n = !(({ n with enable := true } : Inlet) == l) := by
  simp [Inlet.refuses, hl, hrange]

theorem Inlet.refuses_of_outOfRange {l n : Inlet} (hrange : n.inRange = false) : l.refuses n = true := by
  simp [Inlet.refuses, hrange]

/-- An enabled Inlet with ENABLE cleared, and set again, is the Inlet. -/
theorem Inlet.enabled_disabled {l : Inlet} (hl : l.enable = true) : ({ ({ l with enable := false } : Inlet) with enable := true } : Inlet) = l := by
  cases l
  simp only at hl
  simp only [hl]

/-- Settles O41: each command by what it answers at its turn, each configuration command by what it shows or stores. -/
theorem programsAndBindings : Obligations.ProgramsAndBindings := by
  unfold Obligations.ProgramsAndBindings
  refine ⟨fun inlet core ans j img sig s h => ?_, fun inlet j s h => ?_, fun inlet choice j s h => exec_inletBind_of_turn choice h,
    fun inlet j s h => ?_, fun s => ?_, fun s => ?_⟩
  · intro l k n va a b w id hash good hn ha hclean himg hformed hroom
    obtain ⟨f, hf⟩ : ∃ f, a.2 = .ok f := by
      cases hres : a.2 with
      | error e => simp [hres, Except.toOption] at ha
      | ok f => exact ⟨f, rfl⟩
    have hload : State.progLoad core.val ans (s.putJob k) k l = b.1.placeImage l img (w.take (n - sig)) (w.drop (n - sig)) :=
      State.progLoad_of_image hn (Prod.ext rfl hf) rfl hclean himg
    by_cases hgood : good = true
    · have hanswer := hload.trans (State.placeImage_of_good hformed hgood hroom)
      exact congrArg _ ((State.runCommand_of_answer ans _ h hanswer).trans ((commandEnds_of_noReport rfl).trans (if_pos hgood).symm))
    · have hanswer := hload.trans (State.placeImage_of_refused hformed (Bool.eq_false_iff.mpr hgood))
      exact congrArg _ ((State.runCommand_of_answer ans _ h hanswer).trans ((commandEnds_of_noReport rfl).trans (if_neg hgood).symm))
  · intro l k u id hid hown hfree
    have hexec : exec (.progUnload inlet) s = .next (commandEnds k [] _) :=
      congrArg _ (State.runCommand_of_answer [] _ h (State.progUnload_of_unbound (j := k) hid hown hfree))
    refine ⟨_, hexec.trans (congrArg _ (commandEnds_of_noReport rfl)), ?_, fun q r hq hr => u.roleImage_unloaded id hq hr⟩
    exact congrArg (List.filter _) (foldl_keeps (fun t : State => t.jobs.images) _ _ (fun t p _ => t.images_resetRole p))
  · intro k htarget
    have hexec : exec (.inletUnbind inlet) s = .next (commandEnds k [] _) :=
      (exec_inletUnbind inlet s).trans (congrArg _ (State.runCommand_of_answer [] _ h (State.inletUnbind_of_target (j := k) htarget)))
    refine ⟨_, hexec.trans (congrArg _ (commandEnds_of_noReport rfl)), ?_⟩
    rw [State.inlet_releaseRoles]
    exact State.bound_rebind (s.putJob k) (j.param 0 2) none
  · intro l howner htenant hasid hport hrange hqos hringVa hcplVa htail hstarted hcompleted
    obtain ⟨hstaged, hbound⟩ := State.stagedInlet_showInlet (l := l) rfl howner htenant hasid hport hrange hqos hringVa hcplVa
    obtain ⟨ht, hs, hc⟩ := State.counts_showInlet (l := l) rfl htail hstarted hcompleted
    exact ⟨_, rfl, hstaged, ht, hs, hc, hbound⟩
  · intro i l n u
    refine ⟨fun hoff hon hrange hdone => ?_, fun hoff hoff' hrange => ?_, fun hon hcleared hrange => ?_, fun h => ?_⟩
    · have htaken : l.refuses n = false := by rw [Inlet.refuses_of_disabled hoff hrange, hdone, bne_self_eq_false, Bool.and_false]
      rw [exec_inletConfigWrite_of_taken (n := n) rfl rfl rfl htaken, if_pos (by rw [hoff, hon]; rfl)]
    · have htaken : l.refuses n = false := by rw [Inlet.refuses_of_disabled hoff hrange, hoff', Bool.false_and]
      rw [exec_inletConfigWrite_of_taken (n := n) rfl rfl rfl htaken, if_neg (by rw [hoff']; simp)]
    · have htaken : l.refuses n = false := by
        rw [Inlet.refuses_of_enabled hon (by rw [hcleared]; exact hrange), hcleared, Inlet.enabled_disabled hon, beq_self_eq_true, Bool.not_true]
      rw [exec_inletConfigWrite_of_taken (n := n) rfl rfl rfl htaken, if_neg (by rw [hon]; simp), hcleared]
    · refine exec_inletConfigWrite_of_refused rfl rfl rfl ?_
      by_cases hrange : n.inRange = true
      · obtain ⟨hon, hother⟩ | ⟨hoff, hon, hcounts⟩ | hout := h
        · rw [Inlet.refuses_of_enabled hon hrange, beq_eq_false_iff_ne.mpr hother, Bool.not_false]
        · rw [Inlet.refuses_of_disabled hoff hrange, hon, Bool.true_and, bne_iff_ne]
          exact hcounts
        · exact absurd hrange (Bool.eq_false_iff.mp hout)
      · exact Inlet.refuses_of_outOfRange (Bool.eq_false_iff.mpr hrange)

end Sys2Proof.Machine
end

section
/-!
What errors, alarms, messages to the partner and lines written leave alone: a part of the state that their own updates do not touch.
-/
namespace Sys2Proof.Machine

/-! ### Offsets beside the control registers of channel controllers (R229, R238) -/

/-- An offset that is no POND_CTRL and no SPILL_CTRL. -/
def besideChCtrl (o : Nat) : Prop := o < 0x1000000 ∨ 0x18C0000 ≤ o ∨ o % 0x4000 ≠ 8

theorem ne_chCtrl_of_beside {o u : Nat} (h : besideChCtrl o) (hu : u < 396) : o ≠ chCtrl u := by
  unfold besideChCtrl at h
  simp only [chCtrl, R.POND_CTRL, R.POND_BASE, R.SPILL_CTRL, R.SPILL_BASE]
  split <;> omega

theorem besideChCtrl_low {o : Nat} (h : o < 0x1000000) : besideChCtrl o := .inl h

theorem besideChCtrl_high {o : Nat} (h : 0x18C0000 ≤ o) : besideChCtrl o := .inr (.inl h)

theorem besideChCtrl_chErr (u : Nat) : besideChCtrl (chErr u) := by
  simp only [besideChCtrl, chErr, R.POND_ERR, R.POND_BASE, R.SPILL_ERR, R.SPILL_BASE]
  split <;> omega

theorem besideChCtrl_pondErr (u : Nat) : besideChCtrl (R.POND_ERR u) := by
  simp only [besideChCtrl, R.POND_ERR, R.POND_BASE]
  omega

theorem besideChCtrl_spillErr (j : Nat) : besideChCtrl (R.SPILL_ERR j) := by
  simp only [besideChCtrl, R.SPILL_ERR, R.SPILL_BASE]
  omega

theorem besideChCtrl_chRetrain (u : Nat) : besideChCtrl (chRetrain u) := by
  simp only [besideChCtrl, chRetrain, R.POND_RETRAIN, R.POND_BASE, R.SPILL_RETRAIN, R.SPILL_BASE]
  split <;> omega

theorem besideChCtrl_chCnt (u : Nat) {i : Nat} (h : i ≤ 11) : besideChCtrl (chCnt u i) := by
  simp only [besideChCtrl, chCnt, R.POND_BASE, R.SPILL_BASE]
  split <;> omega

theorem besideChCtrl_mere {n k : Nat} (hn : n ≤ 8) (hk : k < 0x10000) : besideChCtrl (R.MERE_BASE n + k) :=
  besideChCtrl_low (by simp only [R.MERE_BASE]; omega)

theorem besideChCtrl_rasStack (f : Nat) : besideChCtrl (R.RAS_STACK f) :=
  besideChCtrl_high (by simp only [R.RAS_STACK, R.RAS_BASE]; omega)

theorem besideChCtrl_alarmCnt (a : Nat) : besideChCtrl (R.MGMT_ALARMCNT a) :=
  besideChCtrl_high (by simp only [R.MGMT_ALARMCNT, R.MGMT_BASE]; omega)

/-! ### Errors, links and the mirror queue (R262, R278 to R285, R400, R434, R435, R532) -/

/-- A part of the state that updates of other registers, of what is sent, of interrupts, of links and of the queues toward the partner leave alone. -/
structure Aside {β : Type} (p : State → β) : Prop where
  setReg : ∀ s o v, besideChCtrl o → p (State.setReg s o v) = p s
  send : ∀ s x, p (State.send s x) = p s
  setCore : ∀ s i c, p (State.setCore s i c) = p s
  fab : ∀ (s : State) (f : Fabric), p { s with fab := f } = p s
  pair : ∀ (s : State) (q : Pair), p { s with pair := q } = p s
  ras : ∀ (s : State) (r : Ras), p { s with ras := r } = p s
  tick : ∀ s, p (State.tick s) = p s

/-- The error bits that raise an alarm (R545). -/
def alarmFields : List Fld :=
  [F.SPILL_ERR_DIMM_MISMATCH, F.MERE_ERR_BROKEN, F.PAIR_ERR_TWIN_LOST, F.PAIR_ERR_BASINS_LOST, F.PAIR_ERR_RING_LOST, F.DIR_ERR_DEATH,
   F.PWR_ERR_THERM_THROTTLE, F.PWR_ERR_VRM_FAULT, F.PWR_ERR_PMBUS_FAIL, F.CLK_ERR_SRC_FAIL, F.SEC_ERR_ID_LOW, F.SEC_ERR_ID_EXHAUSTED,
   F.SEC_ERR_DEBUG_REQ, F.XLAT_ERR_FQ_OVERFLOW, F.RAS_ERR_SCRUB_LATE]

theorem alarmOf_eq_none {f : Fld} (h : f ∉ alarmFields) (off : Nat) : alarmOf off f = none := by
  simp only [alarmFields, List.mem_cons, List.not_mem_nil, or_false, not_or] at h
  unfold alarmOf
  split <;> simp [h]

section Errors
variable {β : Type} {p : State → β} (hp : Aside p)
include hp

theorem Aside.put (s : State) {o : Nat} (f : Fld) (v : Nat) (ho : besideChCtrl o) : p (s.put o f v) = p s := hp.setReg _ _ _ ho

theorem Aside.putFlag (s : State) {o : Nat} (f : Fld) (b : Bool) (ho : besideChCtrl o) : p (s.putFlag o f b) = p s := hp.put s f _ ho

theorem Aside.bump (s : State) {o : Nat} (n : Nat) (ho : besideChCtrl o) : p (s.bump o n) = p s := hp.setReg _ _ _ ho

theorem Aside.bumpSat (s : State) {o : Nat} (f : Fld) (n : Nat) (ho : besideChCtrl o) : p (s.bumpSat o f n) = p s := hp.put s f _ ho

theorem Aside.interrupt (s : State) (v : Nat) : p (s.interrupt v) = p s := by
  rcases s.interrupt_cases v with ⟨e, -⟩ | ⟨e, -⟩ <;> rw [e]
  · exact hp.send _ _
  · exact hp.setReg _ _ _ (besideChCtrl_low (by decide))

theorem Aside.interruptIf (s t : State) (v : Nat) : p (State.interruptIf s t v) = p t := by
  unfold State.interruptIf
  split
  · exact hp.interrupt _ _
  · rfl

theorem Aside.setErrOnly (s : State) {o : Nat} (f : Fld) (v : Nat) (ho : besideChCtrl o) : p (s.setErrOnly o f v) = p s := by
  unfold State.setErrOnly
  extract_lets b t
  have ht : p t = p s := hp.setReg _ _ _ ho
  split
  · split
    · split
      · exact (hp.setCore _ _ _).trans ht
      · exact ht
    · exact ht
  · exact (hp.interruptIf _ _ _).trans ht

/-- An error bit that raises no alarm. -/
theorem Aside.setErr (s : State) {o : Nat} {f : Fld} (hf : f ∉ alarmFields) (ho : besideChCtrl o) : p (s.setErr o f) = p s := by
  rw [State.setErr_noAlarm _ _ _ _ (alarmOf_eq_none hf o)]
  exact hp.setErrOnly _ _ _ ho

theorem Aside.routeErr (s : State) (r : Route) : p (s.routeErr r) = p s := by
  unfold State.routeErr
  split
  · exact hp.setErr s (by decide) (besideChCtrl_pondErr _)
  · exact hp.setErr s (by decide) (besideChCtrl_spillErr _)
  · rfl

theorem Aside.logTag (s : State) (pa expected found : Nat) : p (s.logTag pa expected found) = p s := by
  have herr : besideChCtrl R.XLAT_TAGERR := besideChCtrl_low (by decide)
  unfold State.logTag
  extract_lets t u
  have ht : p t = p s := hp.bump _ _ (besideChCtrl_low (by decide))
  have hu : p u = p t := by
    unfold u
    split
    · rfl
    · rw [hp.put _ _ _ (besideChCtrl_low (by decide)), hp.put _ _ _ herr, hp.put _ _ _ herr, hp.put _ _ _ herr]
  exact (hp.setErr _ (by decide) (besideChCtrl_low (by decide))).trans (hu.trans ht)

theorem Aside.logUE (s : State) (pa : Nat) : p (s.logUE pa) = p s := by
  have hlog : besideChCtrl R.RAS_UELOG := besideChCtrl_high (by decide)
  unfold State.logUE
  extract_lets t u q v
  have ht : p t = p s := hp.bump _ _ (besideChCtrl_high (by decide))
  have hu : p u = p t := by
    unfold u
    split
    · rfl
    · rw [hp.put _ _ _ hlog, hp.put _ _ _ hlog]
  exact (hp.setErr _ (by decide) (besideChCtrl_high (by decide))).trans ((hp.ras _ _).trans (hu.trans ht))

end Errors

section Links
variable {β : Type} {p : State → β} (hp : Aside p) {n : Nat} (hn : n ≤ 8)
include hp hn

theorem Aside.setLink (s : State) (l : Link) : p (s.setLink n l) = p s := by
  have hstat : besideChCtrl (R.MERE_LINKSTAT n) := besideChCtrl_mere hn (by decide)
  rw [State.setLink_eq, hp.put _ _ _ hstat, hp.put _ _ _ hstat, hp.put _ _ _ hstat]
  exact hp.fab _ _

theorem Aside.updLink (s : State) (f : Link → Link) : p (s.updLink n f) = p s := hp.setLink hn _ _

theorem Aside.emitFlit (s : State) (header : Nat) (payload : List Byte) : p (s.emitFlit n header payload) = p s :=
  (hp.send _ _).trans (hp.updLink hn _ _)

theorem Aside.sendSequenced (s : State) (credit : Bool) (first : Nat) (payload : List Byte) (ends : List LinkPkt) :
    p (s.sendSequenced n credit first payload ends) = p s :=
  (hp.emitFlit hn _ _ _).trans ((hp.bump _ _ (besideChCtrl_mere hn (by decide))).trans (hp.setLink hn _ _))

theorem Aside.sendSlots (s : State) (k : LinkPkt) (first : Nat) (l : List (List Byte)) : p (s.sendSlots n k first l) = p s := by
  fun_induction State.sendSlots s n k first l with
  | case1 => rfl
  | case2 => exact hp.sendSequenced hn _ _ _ _ _
  | case3 _ _ _ _ _ ih => exact ih.trans (hp.sendSequenced hn _ _ _ _ _)

theorem Aside.setCredit (s : State) (c v : Nat) : p (s.setCredit n c v) = p s := by
  have hreg : besideChCtrl (creditAt n c).1 := by
    unfold creditAt
    split <;> exact besideChCtrl_mere hn (by decide)
  exact hp.put _ _ _ hreg

theorem Aside.sendPacket (s : State) (k : LinkPkt) : p (s.sendPacket n k) = p s := by
  unfold State.sendPacket
  extract_lets c t u
  have ht : p t = p s := hp.setCredit hn _ _ _
  have hu : p u = p t := by
    unfold u
    split
    · exact hp.updLink hn _ _
    · rfl
  exact (hp.sendSlots hn _ _ _ _).trans (hu.trans ht)

theorem Aside.pumpLink (s : State) (fuel : Nat) : p (s.pumpLink n fuel) = p s := by
  induction fuel generalizing s with
  | zero => rfl
  | succ fuel ih =>
    simp only [State.pumpLink]
    split
    · rfl
    · split
      · split
        · rfl
        · exact (ih _).trans ((hp.sendPacket hn _ _).trans (hp.setLink hn _ _))
      · split
        · exact (ih _).trans (hp.sendSequenced hn _ _ _ _ _)
        · rfl

theorem Aside.enqueue (s : State) (k : LinkPkt) : p (s.enqueue n k) = p s := (hp.pumpLink hn _ _).trans (hp.updLink hn _ _)

end Links

section Mirror
variable {β : Type} {p : State → β} (hp : Aside p)
include hp

theorem Aside.sendTwin (s : State) (op : String) (cls : Nat) (args : List Nat) (data : List Byte) : p (s.sendTwin op cls args data) = p s := by
  refine (foldl_keeps p _ _ fun t k _ => ?_).trans (hp.send _ _)
  refine (hp.enqueue (le_refl 8) _ _).trans ?_
  split
  · exact hp.fab _ _
  · rfl

theorem Aside.queueMirror (s : State) (pa shadow tag : Nat) : p (s.queueMirror pa shadow tag) = p s := by
  unfold State.queueMirror
  extract_lets x w _ t
  have ht : p t = p s := hp.pair _ _
  split
  · exact (hp.sendTwin _ _ _ _ _).trans ht
  · exact ht

theorem Aside.mirrorLine (s : State) (pa : Nat) : p (s.mirrorLine pa) = p s := by
  unfold State.mirrorLine
  split
  · rfl
  · split
    · split
      · exact hp.queueMirror _ _ _ _
      · rfl
    · split
      · exact hp.pair _ _
      · rfl

end Mirror

end Sys2Proof.Machine
end

section
/-!
Lines of the pool through their channels (R262, R400, R401, R463), and fills (R211).
-/
namespace Sys2Proof

/-- What a key reads depends on its own default alone. -/
theorem Tbl.get_congr {α : Type} {d e : Nat → α} {k : Nat} (t : Tbl α) (h : d k = e k) : Tbl.get d t k = Tbl.get e t k := by
  induction t with
  | nil => exact h
  | cons x t ih => simp only [Tbl.get, ih]

end Sys2Proof

namespace Sys2Proof.Machine

/-! ### What leaves the pool alone -/

theorem State.pool_aside : Aside State.pool where
  setReg _ _ _ _ := rfl
  send _ _ := rfl
  setCore _ _ _ := rfl
  fab _ _ := rfl
  pair _ _ := rfl
  ras _ _ := rfl
  tick _ := rfl

@[simp] theorem State.pool_wrote (s : State) (pa : Nat) : (s.wrote pa).pool = s.pool := by
  unfold State.wrote
  split <;> rfl

/-! ### A stored line -/

section Stored
variable (p : Pool) (pa : Nat) (x : Side) (d : List Byte)

/-- A line's bytes and side storage, as a write stores them. -/
def Pool.stored : Pool := (p.writeBytes (pa / 64 * 64) (d.take 64)).setLine (pa / 64 * 64) x

theorem Pool.stored_wf (h : p.wf = true) : (p.stored pa x d).wf = true := Pool.setLine_wf _ _ _ (Pool.writeBytes_wf _ _ _ h)

theorem Pool.byte_stored_out {a : Nat} (h : a < pa / 64 * 64 ∨ pa / 64 * 64 + 64 ≤ a) : (p.stored pa x d).byte a = p.byte a := by
  rw [Pool.stored, Pool.byte_setLine, Pool.byte_writeBytes_out]
  rw [List.length_take]
  omega

theorem Pool.line_stored_ne {q : Nat} (h : q / 64 ≠ pa / 64) : (p.stored pa x d).line q = p.line q := by
  rw [Pool.stored, Pool.line_setLine_ne _ _ _ _ (by omega), Pool.line_writeBytes]

theorem Pool.line_stored : (p.stored pa x d).line (pa / 64 * 64) = x := Pool.line_setLine_same _ _ _

theorem Pool.bytes_stored (h : d.length = 64) : (p.stored pa x d).bytes (pa / 64 * 64) 64 = d := by
  rw [Pool.stored, Pool.bytes_setLine, List.take_of_length_le h.le]
  simpa [h] using Pool.bytes_writeBytes p (pa / 64 * 64) d

end Stored

/-! ### Writes of a line (R262, R401) -/

theorem State.pool_storeLine (s : State) (la : Nat) (x : Side) (kslot tag : Nat) (poison : Bool) (d : List Byte) :
    (s.storeLine la x kslot tag poison d).pool = (s.pool.writeBytes la (d.take 64)).setLine la
      { x with poison := poison, valid := true, tag := tag, kslot := kslot, kgen := s.slotGen kslot } :=
  State.pool_wrote _ _

/-- The side storage of a line that a write under a key slot has stored: a valid check code, the write's poison mark, and the slot's key. -/
def Side.isStored (x : Side) (s : State) (kslot : Nat) (poison : Bool) : Prop :=
  x.valid = true ∧ x.poison = poison ∧ x.kslot = kslot ∧ x.kgen = s.slotGen kslot

/-- All that a write of a line can come to: it is performed, and the pool holds the line's bytes and side storage, or the pool is as before. -/
theorem State.writeLine_cases (s : State) (pa : Nat) (tenant : Option Nat) (kslot : Nat) (poison : Bool) (d : List Byte) (repair : Bool) :
    let r := s.writeLine pa tenant kslot poison d repair
    (r.2 ≠ .ok ∧ r.1.pool = s.pool) ∨
      (r.2 = .ok ∧ ∃ x : Side, x.isStored s kslot poison ∧ r.1.pool = s.pool.stored pa x d) := by
  have hstored : ∀ (t : State) (x : Side) (tag : Nat), t.pool = s.pool → t.sec = s.sec → ∃ y : Side, y.isStored s kslot poison ∧
      ((t.storeLine (pa / 64 * 64) x kslot tag poison d).mirrorLine (pa / 64 * 64)).pool = s.pool.stored pa y d := by
    intro t x tag hpool hsec
    have hgen : t.slotGen kslot = s.slotGen kslot := by simp only [State.slotGen, State.slot, hsec]
    refine ⟨{ x with poison := poison, valid := true, tag := tag, kslot := kslot, kgen := t.slotGen kslot }, ⟨rfl, rfl, rfl, hgen⟩, ?_⟩
    rw [State.pool_aside.mirrorLine, State.pool_storeLine, hpool, Pool.stored]
  intro r
  simp only [r, State.writeLine]
  split
  · split
    · exact .inl ⟨by simp, rfl⟩
    · split
      · exact .inr ⟨rfl, hstored _ _ _ rfl rfl⟩
      · split
        · exact .inr ⟨rfl, hstored _ _ _ rfl rfl⟩
        · split
          · exact .inl ⟨by simp, State.pool_aside.logTag _ _ _ _⟩
          · exact .inr ⟨rfl, hstored _ _ _ rfl rfl⟩
  · exact .inl ⟨by simp, State.pool_aside.routeErr _ _⟩

/-! ### Reads of a line (R262, R400, R463) -/

theorem length_poisonedLine (st : MemStat) : (poisonedLine st).data.length = 64 := by simp [poisonedLine, zeros]

theorem length_freeLine (f : Nat → Nat → Byte) (n : Nat) : (freeLine f n).length = 64 := by simp [freeLine]

theorem State.length_decrypt (s : State) (x : Side) (kslot : Nat) {d : List Byte} (h : d.length = 64) : (s.decrypt x kslot d).length = 64 := by
  unfold State.decrypt
  split
  · exact h
  · exact length_freeLine _ _

/-- A valid line's read counts its poison mark. -/
theorem State.pool_poisonRead (s : State) (b : Bool) : (if b then s.bump R.RAS_CNT_POISON_READ else s).pool = s.pool := by
  split <;> rfl

theorem State.readLine_keepsPool (s : State) (pa : Nat) (tenant : Option Nat) (kslot : Nat) (repair : Bool) :
    (s.readLine pa tenant kslot repair).1.pool = s.pool ∧ (s.readLine pa tenant kslot repair).2.data.length = 64 := by
  have hlen : ∀ (t : State) (x : Side), (t.decrypt x kslot (t.pool.bytes (pa / 64 * 64) 64)).length = 64 :=
    fun t x => t.length_decrypt x kslot (Pool.length_bytes _ _ _)
  unfold State.readLine
  extract_lets la
  split
  · exact ⟨rfl, length_poisonedLine _⟩
  · extract_lets t x
    split
    · exact ⟨rfl, length_poisonedLine _⟩
    · split
      · exact ⟨State.pool_aside.logUE _ _, length_freeLine _ _⟩
      · split
        · split
          · exact ⟨State.pool_aside.logTag _ _ _ _, length_poisonedLine _⟩
          · exact ⟨State.pool_poisonRead _ _, hlen _ _⟩
        · exact ⟨State.pool_poisonRead _ _, hlen _ _⟩
  · exact ⟨State.pool_aside.routeErr _ _, length_poisonedLine _⟩

/-! ### Fills (R211) -/

theorem lastFill_cons (f : Fill) (fills : List Fill) (pa : Nat) : lastFill (f :: fills) pa = if f.covers pa then some f else lastFill fills pa := by
  unfold lastFill
  cases h : f.covers pa <;> simp [h]

/-- A fill's pattern stands in every byte it covers; the others read as before. -/
theorem Pool.byte_fill (p : Pool) (f : Fill) (a : Nat) :
    (p.fill f).byte a = if f.covers a then BitVec.ofNat 8 (f.pattern / 2 ^ (8 * (a % 8))) else p.byte a := by
  rw [Pool.byte, Pool.fill, Tbl.get_clear]
  split
  · next h => simp [bgByte, lastFill_cons, h]
  · next h => exact Tbl.get_congr _ (by simp [bgByte, lastFill_cons, h])

/-- A fill's tag, validity and key stand in every line it covers; the others' side storage is as before. -/
theorem Pool.line_fill (p : Pool) (f : Fill) (a : Nat) : (p.fill f).line a =
    if f.covers (64 * (a / 64)) then { tag := f.tag, valid := f.valid, kslot := f.kslot, kgen := f.kgen } else p.line a := by
  rw [Pool.line, Pool.fill, Tbl.get_clear]
  split
  · next h => simp [bgSide, lastFill_cons, h]
  · next h => exact Tbl.get_congr _ (by simp [bgSide, lastFill_cons, h])

/-- Settles O38: a write of a line comes to one stored line or to nothing (`State.writeLine_cases`), and a stored line is read back. -/
theorem lineWritesKeepThePool : Obligations.LineWritesKeepThePool := by
  unfold Obligations.LineWritesKeepThePool
  refine ⟨fun s pa kslot tenant poison repair d hd hwf => ?_, fun s pa kslot tenant repair => s.readLine_keepsPool pa tenant kslot repair,
    fun p f hwf => ⟨Pool.fill_wf p f hwf, fun a ha => by simp [Pool.byte_fill, ha]⟩⟩
  intro r la
  rcases s.writeLine_cases pa tenant kslot poison d repair with ⟨hno, hpool⟩ | ⟨hok, x, ⟨hvalid, hpoison, hkslot, hkgen⟩, hpool⟩
  · exact ⟨hpool ▸ hwf, fun a _ => by rw [hpool], fun q _ => by rw [hpool], fun h => absurd h hno, fun _ => hpool⟩
  · rw [hpool]
    refine ⟨Pool.stored_wf _ _ _ _ hwf, fun a ha => Pool.byte_stored_out _ _ _ _ ha, fun q hq => Pool.line_stored_ne _ _ _ _ hq, fun _ => ?_,
      fun h => absurd hok h⟩
    rw [Pool.line_stored]
    exact ⟨Pool.bytes_stored _ _ _ _ hd, hvalid, hpoison, hkslot, hkgen⟩

end Sys2Proof.Machine
end

section
/-!
Channel controllers at work (R197 to R208, R215, R229, R420): requests that arrive and are issued, refresh, and retraining.
-/
namespace Sys2Proof.Machine

/-! ### A channel controller's record -/

theorem State.chan_setChan (s : State) (u v : Nat) (c : Chan) : (s.setChan u c).chan v = if v = u then c else s.chan v := Tbl.get_set _ _ _ _ _

@[simp] theorem State.chan_setChan_same (s : State) (u : Nat) (c : Chan) : (s.setChan u c).chan u = c := Tbl.get_set_same _ _ _ _

@[simp] theorem State.chan_updChan_same (s : State) (u : Nat) (f : Chan → Chan) : (s.updChan u f).chan u = f (s.chan u) := Tbl.get_set_same _ _ _ _

@[simp] theorem State.chan_setReg (s : State) (o : Nat) (v : BitVec 64) (u : Nat) : (s.setReg o v).chan u = s.chan u := (rfl)
@[simp] theorem State.chan_put (s : State) (o : Nat) (f : Fld) (v u : Nat) : (s.put o f v).chan u = s.chan u := (rfl)
@[simp] theorem State.chan_putFlag (s : State) (o : Nat) (f : Fld) (b : Bool) (u : Nat) : (s.putFlag o f b).chan u = s.chan u := (rfl)
@[simp] theorem State.chan_bump (s : State) (o n u : Nat) : (s.bump o n).chan u = s.chan u := (rfl)
@[simp] theorem State.chan_send (s : State) (x : Out) (u : Nat) : (s.send x).chan u = s.chan u := (rfl)

@[simp] theorem Chan.pc_setPc_same (c : Chan) (p : Nat) (x : PChan) : (c.setPc p x).pc p = x := by
  unfold Chan.setPc Chan.pc
  split <;> rfl

@[simp] theorem PChan.bank_setBank_same (c : PChan) (b : Nat) (k : Bank) : (c.setBank b k).bank b = k := Tbl.get_set_same _ _ _ _

theorem PChan.bank_setBank_ne (c : PChan) {a b : Nat} (k : Bank) (h : a ≠ b) : (c.setBank b k).bank a = c.bank a := Tbl.get_set_ne _ _ _ _ _ h

/-! ### Arrival (R195 to R197, R214, R229, R420) -/

/-- The request that the operands of POND_REQUEST make. -/
def State.arriving (s : State) (id level : Nat) (write : Bool) (la : Nat) (data : List Byte) (poison : Bool) (tenant : Option (BitVec 8))
    (kslot : BitVec 9) (repair : Bool) (tarn : Nat) : MemReq :=
  { id := id, level := level, write := write, pa := la, data := data, poison := poison, tenant := tenant.map (·.toNat), kslot := kslot.toNat,
    striped := (s.stripeOf la).isSome, repair := repair, aged := false, tarn := tarn }

section Arrival
variable (id : Nat) (level : Fin 4) (write : Bool) (pa : BitVec 48) (data : List Byte) (poison : Bool) (tenant : Option (BitVec 8)) (kslot : BitVec 9)
  (repair : Bool) (tarn : Fin 100) {u : Nat} {s : State}

theorem exec_pondRequest : exec (.pondRequest id level write pa data poison tenant kslot repair tarn) s =
    execPondRequest id level write pa data poison tenant kslot repair tarn s := rfl

theorem exec_pondRequest_of_room (hroute : s.routeOf (pa.toNat / 64 * 64) repair = .serve u) (hclock : s.islandStopped (chIsland u) = false) :
    let la := pa.toNat / 64 * 64
    let c := (s.chan u).pc (pcOf la)
    let r := s.arriving id level write la data poison tenant kslot repair tarn
    ((if write then c.wq else c.rq).filter (fun r => r.level == level.val)).length < queueCap write level →
    exec (.pondRequest id level write pa data poison tenant kslot repair tarn) s = .next (s.setChan u ((s.chan u).setPc (pcOf la)
      (if write then { c with wq := c.wq ++ [r] } else { c with rq := c.rq ++ [r] }))) := by
  intro la c r hroom
  simp only [exec_pondRequest, execPondRequest, hroute, hclock, Bool.false_eq_true, if_false]
  exact if_neg hroom.not_ge

theorem exec_pondRequest_of_full (hroute : s.routeOf (pa.toNat / 64 * 64) repair = .serve u) (hclock : s.islandStopped (chIsland u) = false)
    (hpond : u < 384) :
    let la := pa.toNat / 64 * 64
    let c := (s.chan u).pc (pcOf la)
    queueCap write level ≤ ((if write then c.wq else c.rq).filter (fun r => r.level == level.val)).length →
    exec (.pondRequest id level write pa data poison tenant kslot repair tarn) s = .next (s.setErr (R.POND_ERR u) F.POND_ERR_QUEUE_PROTO) := by
  intro la c hfull
  simp only [exec_pondRequest, execPondRequest, hroute, hclock, Bool.false_eq_true, if_false]
  exact (if_pos hfull).trans (by rw [if_pos hpond])

theorem exec_pondRequest_of_faulted (hroute : s.routeOf (pa.toNat / 64 * 64) repair = .faulted u) (hunit : unitOf (pa.toNat / 64 * 64) = some u) :
    exec (.pondRequest id level write pa data poison tenant kslot repair tarn) s =
      .next (s.send (if write then .memResp u id 1 false [] else .memResp u id 0 true (zeros 64))) := by
  simp only [exec_pondRequest, execPondRequest, hroute, hunit]

/-- A place that no channel serves, and that is not lost to a fault. -/
def Route.isRefused (r : Route) (u : Nat) : Prop := r = .spare u ∨ r = .unpopulated u ∨ r = .down u

theorem exec_pondRequest_of_refused (hroute : (s.routeOf (pa.toNat / 64 * 64) repair).isRefused u) (hunit : unitOf (pa.toNat / 64 * 64) = some u) :
    exec (.pondRequest id level write pa data poison tenant kslot repair tarn) s =
      .next ((s.routeErr (s.routeOf (pa.toNat / 64 * 64) repair)).send (.memResp u id 1 false [])) := by
  rcases hroute with h | h | h <;> simp only [exec_pondRequest, execPondRequest, h, hunit]

theorem exec_pondRequest_of_noUnit (hunit : unitOf (pa.toNat / 64 * 64) = none) :
    exec (.pondRequest id level write pa data poison tenant kslot repair tarn) s = .next (s.send (.memResp noUnit id 1 false [])) := by
  have hroute : s.routeOf (pa.toNat / 64 * 64) repair = .hole := by simp only [State.routeOf, hunit]
  simp only [exec_pondRequest, execPondRequest, hroute, hunit]

end Arrival

/-! ### Choice (R198 to R200, R103) -/

/-- The request chosen is of the queue, and no request of it that may be taken waits at a higher level. -/
theorem PChan.pick_eq_some {c : PChan} {q : List MemReq} {spill : Bool} {last : Nat} {r : MemReq} (h : c.pick q spill last = some r) :
    r ∈ q ∧ ∀ x, x ∈ q → firstOfLine q x = true → r.rank ≤ x.rank := by
  unfold PChan.pick at h
  extract_lets can at h
  split at h
  · cases h
  · next l hl =>
    extract_lets all at_ at h
    have hall : ∀ x ∈ at_, x ∈ all := by
      intro x hx
      unfold at_ at hx
      split at hx
      · split at hx
        · exact (List.mem_filter.mp hx).1
        · exact hx
      · exact hx
    have hr : r ∈ all := by
      rcases Option.or_eq_some_iff.mp h with hhit | ⟨-, hhead⟩
      · exact hall r (List.mem_of_find?_eq_some hhit)
      · exact hall r (List.mem_of_head? hhead)
    have hrank : r.rank = l := by simpa using (List.mem_filter.mp hr).2
    refine ⟨(List.mem_filter.mp (List.mem_filter.mp hr).1).1, fun x hx hfirst => ?_⟩
    by_contra hlt
    have hlow : x.rank < l := by omega
    obtain ⟨-, hmem, hnone⟩ := List.find?_range_eq_some.mp hl
    have hx' : x ∈ can := List.mem_filter.mpr ⟨hx, hfirst⟩
    exact absurd (hnone x.rank hlow) (by simp; exact ⟨x, hx', rfl⟩)

/-! ### Issue (R198, R200) -/

/-- What a pseudo-channel needs to issue: no pause, a clock, and a channel that serves. -/
structure State.mayIssue (s : State) (u p : Nat) : Prop where
  awake : ((s.chan u).pc p).paused = false
  clock : s.islandStopped (chIsland u) = false
  serves : s.chServes u = true

section Issue
variable {unit : Fin 396} {pc : Fin 2} {s : State} (hgo : s.mayIssue unit pc) (faults : IssueFaults)
include hgo

theorem exec_pondIssue_of_mayIssue : exec (.pondIssue unit pc faults) s =
    let c := (s.chan unit).pc pc
    let sd := c.side (s.get (chSched unit) F.POND_SCHED_WQ_HIGH)
    match c.pick (if sd.1 then c.wq else c.rq) (384 ≤ unit.val) (s.chan unit).lastTarn with
    | none => .next (s.issueRow unit pc faults.parity)
    | some r =>
      let k : PChan := if sd.1 then { c with wq := c.wq.eraseP (fun x => x.id == r.id), drainTo := sd.2 }
                       else { c with rq := c.rq.eraseP (fun x => x.id == r.id), drainTo := sd.2 }
      let t := s.setChan unit ((s.chan unit).setPc pc k)
      let t := if 384 ≤ unit.val ∧ r.rank = 1 ∧ !r.write then t.updChan unit (fun c => { c with lastTarn := r.tarn }) else t
      .next (((t.openFor unit pc r.pa faults.parity).serveReq unit c.wq r faults.errors).rowIssued unit pc r.pa) :=
  if_neg (by simp [hgo.awake, hgo.clock, hgo.serves])

end Issue

/-! ### Age, idle rows (R198, R199) -/

theorem exec_rowIdleClose_of_open {unit : Fin 396} {pc : Fin 2} {bank : Fin 16} {s : State}
    (h : (((s.chan unit).pc pc).bank bank).openRow.isSome = true) :
    let c := (s.chan unit).pc pc
    exec (.rowIdleClose unit pc bank) s = .next ((s.setChan unit ((s.chan unit).setPc pc
      (c.setBank bank { c.bank bank with openRow := none, hits := 0 }))).send (.dram unit "PRE" [pc, bank])) :=
  if_neg (by simp [Option.isSome_iff_ne_none.mp h])

/-! ### Refresh (R201, R208) -/

section Refresh
variable {unit : Fin 396} {pc : Fin 2} {s : State} (hruns : s.chRuns unit = true) (hclock : s.islandStopped (chIsland unit) = false) (postpone : Bool)
include hruns hclock

theorem exec_refreshInterval_of_running : exec (.refreshInterval unit pc postpone) s =
    let c := (s.chan unit).pc pc
    let b := c.refreshPtr % 16
    let waits := (c.rq ++ c.wq).any (fun r => bankOf r.pa == b)
    let t := s.setChan unit ((s.chan unit).setPc pc ({ c with refreshPtr := (b + 1) % 16 }.setBank b { c.bank b with owed := (c.bank b).owed + 1 }))
    if c.paused ∨ (postpone ∧ waits ∧ (c.bank b).owed < 8) then .next t else .next (t.refreshBank unit pc b) :=
  if_neg (by simp [hruns, hclock])

end Refresh

/-- A flag of another register keeps its value. -/
theorem State.flag_putFlag_ne (s : State) {o q : Nat} (f g : Fld) (b : Bool) (h : q ≠ o) : (s.putFlag o f b).flag q g = s.flag q g := by
  rw [State.flag, State.putFlag, State.get_put_ne _ _ _ _ _ _ h, State.flag]

theorem pondStatus_inj {i k : Nat} : R.POND_STATUS i = R.POND_STATUS k ↔ i = k := by
  simp only [R.POND_STATUS, R.POND_BASE]
  omega

theorem exists_channel_of_stack {i stack : Nat} (h : i / 32 = stack) : ∃ k ∈ List.range 32, i = 32 * stack + k :=
  ⟨i % 32, List.mem_range.mpr (Nat.mod_lt i (by decide)), by omega⟩

/-- The stack's Ponds show HOT as it stands; no other Pond's HOT changes. -/
theorem State.flag_hot_foldl (s : State) (stack i : Nat) (hot : Bool) :
    ((List.range 32).foldl (fun s c => s.putFlag (R.POND_STATUS (32 * stack + c)) F.POND_STATUS_HOT hot) s).flag (R.POND_STATUS i) F.POND_STATUS_HOT =
      if i / 32 = stack then hot else s.flag (R.POND_STATUS i) F.POND_STATUS_HOT := by
  have hother : ∀ (t : State) (c : Nat), i ≠ 32 * stack + c →
      (t.putFlag (R.POND_STATUS (32 * stack + c)) F.POND_STATUS_HOT hot).flag (R.POND_STATUS i) F.POND_STATUS_HOT =
        t.flag (R.POND_STATUS i) F.POND_STATUS_HOT :=
    fun t c hne => t.flag_putFlag_ne _ _ _ (fun e => hne (pondStatus_inj.mp e))
  split
  · next hi =>
    obtain ⟨k, hk, rfl⟩ := exists_channel_of_stack hi
    have hset : ∀ t : State, (t.putFlag (R.POND_STATUS (32 * stack + k)) F.POND_STATUS_HOT hot).flag (R.POND_STATUS (32 * stack + k))
        F.POND_STATUS_HOT = hot := fun t => t.flag_putFlag_same _ _ hot (by decide) rfl
    refine foldl_establishes (P := fun t : State => t.flag (R.POND_STATUS (32 * stack + k)) F.POND_STATUS_HOT = hot) hk s hset (fun t c _ ht => ?_)
    rcases eq_or_ne k c with rfl | hne
    · exact hset t
    · exact (hother t c (by omega)).trans ht
  · next hi =>
    refine foldl_keeps (fun t : State => t.flag (R.POND_STATUS i) F.POND_STATUS_HOT) _ s (fun t c hc => hother t c ?_)
    have := List.mem_range.mp hc
    omega

/-- A pseudo-channel whose tables are emptied and flags cleared, at the end of a refresh window. -/
def PChan.cleaned (x : PChan) : PChan :=
  (List.range 16).foldl (fun (x : PChan) b => x.setBank b { x.bank b with table := [], overflow := false, untrusted := false }) x

/-- A bank with an empty table and no flag. -/
def Bank.isClean (k : Bank) : Prop := k.table = [] ∧ k.overflow = false ∧ k.untrusted = false

theorem PChan.cleaned_isClean (x : PChan) {b : Nat} (hb : b < 16) : (x.cleaned.bank b).isClean := by
  have hset : ∀ y : PChan, ((y.setBank b { y.bank b with table := [], overflow := false, untrusted := false }).bank b).isClean := fun y => by
    rw [PChan.bank_setBank_same]
    exact ⟨rfl, rfl, rfl⟩
  refine foldl_establishes (P := fun y : PChan => (y.bank b).isClean) (List.mem_range.mpr hb) x hset (fun y a _ hy => ?_)
  rcases eq_or_ne b a with rfl | hne
  · exact hset y
  · rwa [PChan.bank_setBank_ne _ _ hne]

theorem PChan.openRow_cleaned (x : PChan) (b : Nat) : (x.cleaned.bank b).openRow = (x.bank b).openRow := by
  refine foldl_keeps (fun y : PChan => (y.bank b).openRow) _ x (fun y a _ => ?_)
  rcases eq_or_ne b a with rfl | hne
  · rw [PChan.bank_setBank_same]
  · rw [PChan.bank_setBank_ne _ _ hne]

theorem exec_refreshWindowEnd (unit : Fin 396) (s : State) : ∃ t : State, exec (.refreshWindowEnd unit) s = .next t ∧
    ∀ p, (t.chan unit).pc p = ((s.chan unit).pc p).cleaned := by
  refine ⟨_, rfl, fun p => ?_⟩
  rw [State.chan_bump, State.chan_setChan_same]
  unfold Chan.pc
  split <;> rfl

/-! ### Retraining (R202 to R205) -/

section Retraining
variable {unit : Fin 396} {s : State}

theorem exec_retrainPeriod_of_starter (hstarter : s.isStarter unit = true) (hruns : s.chRuns unit = true) (hno : (tokenRing unit).any s.hasToken = false) :
    exec (.retrainPeriod unit) s = .next (s.setToken unit true) :=
  if_neg (by simp [hstarter, hruns, hno])

theorem exec_retrainToken_of_stopped (htoken : s.hasToken unit = true) (hstopped : s.chRuns unit = false) :
    exec (.retrainToken unit) s = .next (s.passToken unit) :=
  (if_neg (by simp [htoken])).trans (if_pos (by simp [hstopped]))

theorem exec_retrainToken_of_running (htoken : s.hasToken unit = true) (hruns : s.chRuns unit = true) : exec (.retrainToken unit) s =
    match s.pausedPc unit with
    | none => .next (s.pausePc unit 0)
    | some p => .next ((s.updChan unit (fun (c : Chan) => c.setPc p { c.pc p with shortRow := 0 })).resumePc unit p) :=
  (if_neg (by simp [htoken])).trans (if_neg (by simp [hruns]))

/-- A short pause is counted, and shown in TRAIN_SHORT (R204). -/
def State.shortPause (s : State) (u p : Nat) : State :=
  ((s.updChan u (fun (c : Chan) => c.setPc p { c.pc p with shortRow := ((s.chan u).pc p).shortRow + 1 })).bump (chCnt u 8)).setErr
    (chErr u) F.POND_ERR_TRAIN_SHORT

theorem exec_pauseLimit_of_paused {p : Nat} (h : s.pausedPc unit = some p) : exec (.pauseLimit unit) s =
    if 3 ≤ ((s.chan unit).pc p).shortRow + 1 then
      .next (((s.shortPause unit p).faultChan unit).setErr (chErr unit) F.POND_ERR_RETRAIN_FAIL)
    else .next ((s.shortPause unit p).resumePc unit p) := by
  change execPauseLimit unit s = _
  simp only [execPauseLimit, h]
  rfl

end Retraining

/-- Settles O45: each row's own lemma says what it does; the request chosen is the least in rank by `PChan.pick_eq_some`. -/
theorem pondQueuesAndIssue : Obligations.PondQueuesAndIssue := by
  unfold Obligations.PondQueuesAndIssue
  refine ⟨?arrival, ?idleIssue, ?issue, ?age, ?idleRow, ?refresh, ?hot, ?window, ?period, ?token, ?limit⟩
  case arrival =>
    intro id level write pa data poison tenant kslot repair tarn u s la c n r i
    exact ⟨exec_pondRequest_of_room id level write pa data poison tenant kslot repair tarn,
      exec_pondRequest_of_full id level write pa data poison tenant kslot repair tarn,
      exec_pondRequest_of_faulted id level write pa data poison tenant kslot repair tarn,
      fun v => exec_pondRequest_of_refused id level write pa data poison tenant kslot repair tarn,
      exec_pondRequest_of_noUnit id level write pa data poison tenant kslot repair tarn⟩
  case idleIssue =>
    intro unit pc errs parity s c sd hawake hclock hserves hpick
    have hexec := exec_pondIssue_of_mayIssue (unit := unit) (pc := pc) ⟨hawake, hclock, hserves⟩ ⟨errs, parity⟩
    simp only [c, sd] at hpick
    simpa only [hpick] using hexec
  case issue =>
    intro unit pc errs parity r s c sd q hawake hclock hserves hpick k t t'
    have hexec := exec_pondIssue_of_mayIssue (unit := unit) (pc := pc) ⟨hawake, hclock, hserves⟩ ⟨errs, parity⟩
    simp only [c, sd, q] at hpick
    simp only [hpick, Bool.not_eq_true'] at hexec
    exact ⟨hexec, PChan.pick_eq_some hpick⟩
  case age =>
    intro unit pc id s c due up hlimit hdue
    exact if_neg (fun h => h.elim hlimit fun hnone => Bool.false_ne_true (((Bool.not_eq_true' _).mp hnone).symm.trans hdue))
  case idleRow =>
    intro unit pc bank s hopen
    refine ⟨_, exec_rowIdleClose_of_open hopen, ?_, fun b hb => ?_⟩ <;> rw [State.chan_send, State.chan_setChan_same, Chan.pc_setPc_same]
    · rw [PChan.bank_setBank_same]
    · rw [PChan.bank_setBank_ne _ _ hb]
  case refresh =>
    intro unit pc postpone s c b waits t hruns hclock
    have hexec := exec_refreshInterval_of_running (pc := pc) hruns hclock postpone
    refine ⟨fun hawake hissue => hexec.trans (if_neg ?_), fun hwait => hexec.trans (if_pos hwait)⟩
    rintro (hpaused | ⟨hpost, hwaits, howed⟩)
    · exact Bool.false_ne_true (hawake.symm.trans hpaused)
    · rcases hissue with h | h | h
      · exact Bool.false_ne_true (h.symm.trans hpost)
      · exact Bool.false_ne_true (h.symm.trans hwaits)
      · exact absurd howed h.not_gt
  case hot => exact fun stack hot s => ⟨_, rfl, fun i _ => s.flag_hot_foldl stack i hot⟩
  case window =>
    intro unit s
    obtain ⟨t, hexec, hpc⟩ := exec_refreshWindowEnd unit s
    refine ⟨t, hexec, fun p b hb => ?_⟩
    rw [hpc p]
    obtain ⟨htable, hoverflow, huntrusted⟩ := ((s.chan unit).pc p).cleaned_isClean hb
    exact ⟨htable, hoverflow, huntrusted, PChan.openRow_cleaned _ _⟩
  case period => exact fun unit s => exec_retrainPeriod_of_starter
  case token =>
    refine fun unit s htoken => ⟨exec_retrainToken_of_stopped htoken, fun hruns hno => ?_, fun p hruns hp => ?_⟩
    · simpa only [hno] using exec_retrainToken_of_running htoken hruns
    · simpa only [hp] using exec_retrainToken_of_running htoken hruns
  case limit =>
    intro unit p s hp n t
    have hexec := exec_pauseLimit_of_paused hp
    exact ⟨fun hfew => hexec.trans (if_neg (by omega)), fun hmany => hexec.trans (if_pos hmany)⟩

end Sys2Proof.Machine
end

section
/-!
What a channel's fault leaves as it stands (R204, R205, R229, R238, R410, R417, R420, R540, R545): its control register and its queues.
-/
namespace Sys2Proof.Machine

/-! ### Alarms and event records (R540, R542, R545) -/

/-- A part of the state that, beside these updates, those of memory, of event records, of translation, and of a channel's record outside its pseudo-channels
leave alone. -/
structure AsideMem {β : Type} (p : State → β) : Prop extends Aside p where
  pool : ∀ (s : State) (q : Pool), p { s with pool := q } = p s
  mgmt : ∀ (s : State) (m : Mgmt), p { s with mgmt := m } = p s
  xlat : ∀ (s : State) (x : Xlat), p { s with xlat := x } = p s
  updChan : ∀ (s : State) (u : Nat) (f : Chan → Chan), (∀ c, (f c).pc0 = c.pc0 ∧ (f c).pc1 = c.pc1) → p (s.updChan u f) = p s

section Alarms
variable {β : Type} {p : State → β} (hp : AsideMem p)
include hp

theorem AsideMem.noteRow (s : State) (u la : Nat) : p (s.noteRow u la) = p s := hp.updChan _ _ _ (fun _ => ⟨rfl, rfl⟩)

theorem AsideMem.wrote (s : State) (pa : Nat) : p (s.wrote pa) = p s := by
  unfold State.wrote
  split
  · rfl
  · exact (hp.noteRow _ _ _).trans (hp.bump _ _ (besideChCtrl_chCnt _ (by decide)))

theorem AsideMem.ringEvent (s : State) (r : EvRec) : p (s.ringEvent r) = p s := by
  unfold State.ringEvent
  extract_lets tail a m t
  have ht : p t = p s := (hp.mgmt { s with pool := t.pool } t.mgmt).trans (hp.pool s t.pool)
  rw [hp.interrupt, hp.put _ _ _ (besideChCtrl_high (by decide)), hp.wrote, ht]

theorem AsideMem.showHeld (s : State) : p s.showHeld = p s := by
  have hstatus : besideChCtrl R.MGMT_STATUS := besideChCtrl_high (by decide)
  rw [State.showHeld, hp.put _ _ _ hstatus, hp.putFlag _ _ _ hstatus]

theorem AsideMem.writeEvent (s : State) (r : EvRec) : p (s.writeEvent r) = p s := by
  unfold State.writeEvent
  split
  · exact hp.ringEvent _ _
  · extract_lets m t
    have ht : p t = p s := (hp.showHeld _).trans (hp.mgmt _ _)
    split
    · exact (hp.setErrOnly _ _ _ (besideChCtrl_high (by decide))).trans ht
    · exact ht

theorem AsideMem.raiseAlarm (s : State) (a : Alarm) : p (s.raiseAlarm a) = p s := by
  unfold State.raiseAlarm State.accumulateAlarm
  extract_lets t u
  have ht : p t = p s := hp.bumpSat _ _ _ (besideChCtrl_alarmCnt _)
  have hu : p u = p t := hp.setReg _ _ _ (besideChCtrl_high (by decide))
  split
  · exact ht
  · split
    · exact hu.trans ht
    · exact (hp.writeEvent _ _).trans (hu.trans ht)

theorem AsideMem.unitAlarm (s : State) (addr : Nat) (a : Alarm) : p (s.unitAlarm addr a) = p s := hp.mgmt _ _

end Alarms

/-! ### Lines and triplicated words (R262, R400, R401, R410, R411) -/

/-- The first of a pair, with something kept of the second. -/
def keepFirst {σ ρ τ : Type} (g : ρ → τ) (x : σ × ρ) : σ × τ := (x.1, g x.2)

theorem fst_keepFirst {σ ρ τ : Type} (g : ρ → τ) (x : σ × ρ) : (keepFirst g x).1 = x.1 := rfl

/-- One copy more of a triplicated word, read and judged. -/
def withCopy (w : Nat) (a : State × List (Bool × List Byte)) (k : Nat) : State × List (Bool × List Byte) :=
  keepFirst (fun (r : LineRead) => a.2 ++ [(r.stat != .ok || r.poison, r.data)]) (a.1.readLine (a.1.copyPa w k) none 256)

theorem fst_withCopy (w : Nat) (a : State × List (Bool × List Byte)) (k : Nat) :
    (withCopy w a k).1 = (a.1.readLine (a.1.copyPa w k) none 256).1 := by
  rw [withCopy, fst_keepFirst]

theorem State.loadCopies_eq (s : State) (w : Nat) : s.loadCopies w = [0, 1, 2].foldl (withCopy w) (s, []) := by
  unfold State.loadCopies
  refine congrArg (fun f => List.foldl f (s, []) [0, 1, 2]) (funext fun a => funext fun k => ?_)
  unfold withCopy
  generalize a.1.readLine (a.1.copyPa w k) none 256 = x
  obtain ⟨t, r⟩ := x
  rfl

/-- One triplicated word more, with the value its copies vote for. -/
def withVote (a : State × List (Nat × Option (List Byte))) (w : Nat) : State × List (Nat × Option (List Byte)) :=
  keepFirst (fun (c : List (Bool × List Byte)) => a.2 ++ [(w, voteTriple c)]) (a.1.loadCopies w)

theorem fst_withVote (a : State × List (Nat × Option (List Byte))) (w : Nat) : (withVote a w).1 = (a.1.loadCopies w).1 := by
  rw [withVote, fst_keepFirst]

/-- What no step of a fold changes in the first of a pair, the fold leaves alone. -/
theorem foldl_fst_keeps {σ τ α β : Type} (p : σ → β) {f : σ × τ → α → σ × τ} (l : List α) (a : σ × τ)
    (h : ∀ b, ∀ x ∈ l, p (f b x).1 = p b.1) : p (l.foldl f a).1 = p a.1 :=
  foldl_keeps (fun b : σ × τ => p b.1) l a h

section Lines
variable {β : Type} {p : State → β} (hp : AsideMem p)
include hp

theorem AsideMem.storeLine (s : State) (la : Nat) (x : Side) (kslot tag : Nat) (poison : Bool) (d : List Byte) :
    p (s.storeLine la x kslot tag poison d) = p s := (hp.wrote _ _).trans (hp.pool _ _)

theorem AsideMem.writeLine (s : State) (pa : Nat) (tenant : Option Nat) (kslot : Nat) (poison : Bool) (d : List Byte) (repair : Bool) :
    p (s.writeLine pa tenant kslot poison d repair).1 = p s := by
  have hstore : ∀ (t : State) (x : Side) (tag : Nat),
      p ((t.storeLine (pa / 64 * 64) x kslot tag poison d).mirrorLine (pa / 64 * 64)) = p t :=
    fun t x tag => (hp.mirrorLine _ _).trans (hp.storeLine _ _ _ _ _ _ _)
  unfold State.writeLine
  extract_lets la
  split
  · split
    · rfl
    · split
      · exact hstore _ _ _
      · split
        · exact (hstore _ _ _).trans (hp.bump _ _ (besideChCtrl_low (by decide)))
        · split
          · exact hp.logTag _ _ _ _
          · exact hstore _ _ _
  · exact hp.routeErr _ _

theorem AsideMem.readLine (s : State) (pa : Nat) (tenant : Option Nat) (kslot : Nat) (repair : Bool) :
    p (s.readLine pa tenant kslot repair).1 = p s := by
  have hpoison : ∀ (t : State) (b : Bool), p (if b then t.bump R.RAS_CNT_POISON_READ else t).tick = p t := by
    intro t b
    refine (hp.tick _).trans ?_
    split
    · exact hp.bump _ _ (besideChCtrl_high (by decide))
    · rfl
  unfold State.readLine
  extract_lets la
  split
  · rfl
  · extract_lets t x
    have ht : p t = p s := (hp.noteRow _ _ _).trans (hp.bump _ _ (besideChCtrl_chCnt _ (by decide)))
    split
    · exact ht
    · split
      · exact (hp.logUE _ _).trans ((hp.tick _).trans ht)
      · split
        · split
          · exact (hp.logTag _ _ _ _).trans ht
          · exact (hpoison _ _).trans ht
        · exact (hpoison _ _).trans ht
  · exact hp.routeErr _ _

theorem AsideMem.loadCopies (s : State) (w : Nat) : p (s.loadCopies w).1 = p s := by
  rw [State.loadCopies_eq]
  exact foldl_fst_keeps p _ _ (fun a k _ => (congrArg p (fst_withCopy w a k)).trans (hp.readLine _ _ _ _ _))

theorem AsideMem.storeCopies (s : State) (w : Nat) (v : List Byte) (l : List Nat) : p (s.storeCopies w v l) = p s :=
  foldl_keeps p _ _ (fun _ _ _ => hp.writeLine _ _ _ _ _ _ _)

theorem AsideMem.moveCopies (s : State) (f : Nat) : p (s.moveCopies f) = p s := by
  unfold State.moveCopies
  split
  · rfl
  · extract_lets words res t u
    have hvotes : res = words.foldl withVote (s, []) := by
      refine congrArg (fun f => List.foldl f (s, []) words) (funext fun a => funext fun w => ?_)
      unfold withVote
      generalize a.1.loadCopies w = x
      obtain ⟨v, c⟩ := x
      rfl
    have hres : p res.1 = p s := by
      rw [hvotes]
      exact foldl_fst_keeps p _ _ (fun a w _ => (congrArg p (fst_withVote a w)).trans (hp.loadCopies _ _))
    refine (foldl_keeps p _ _ (fun v x _ => ?_)).trans ((hp.ras _ _).trans hres)
    split
    · exact hp.storeCopies _ _ _ _
    · exact hp.raiseAlarm _ _

/-- A stack's degradation (R417). -/
theorem AsideMem.degrade (s : State) (f : Nat) : p (s.degrade f) = p s := by
  have hstack : besideChCtrl (R.RAS_STACK f) := besideChCtrl_rasStack f
  have hrebuild : besideChCtrl R.RAS_REBUILD := besideChCtrl_high (by decide)
  unfold State.degrade
  split
  · rfl
  · extract_lets t u
    have hu : p u = p s := by
      rw [hp.moveCopies, hp.raiseAlarm, hp.setErr _ (by decide) (besideChCtrl_high (by decide)), hp.put _ _ _ hstack]
    split
    · rw [State.startRebuild, hp.putFlag _ _ _ hrebuild, hp.put _ _ _ hrebuild, hp.put _ _ _ hstack, hp.put _ _ _ hstack, hu]
    · exact hu

end Lines

/-! ### Basins and their fills (R244, R480) -/

section Basins
variable {β : Type} {p : State → β} (hp : AsideMem p)
include hp

theorem AsideMem.setMeas (s : State) {r : Nat → Nat} (b : List Byte) (hr : ∀ w, besideChCtrl (r w)) : p (s.setMeas r b) = p s :=
  foldl_keeps p _ s (fun _ w _ => hp.setReg _ _ _ (hr w))

theorem AsideMem.recordChange (s : State) : p s.recordChange = p s := by
  have hsec : ∀ k, besideChCtrl (R.SEC_BASE + k) := fun k => besideChCtrl_high (by simp only [R.SEC_BASE]; omega)
  have hdata : ∀ w, besideChCtrl (R.SEC_MEXT_DATA w) := fun w => besideChCtrl_high (by simp only [R.SEC_MEXT_DATA, R.SEC_BASE]; omega)
  have hconfig : ∀ w, besideChCtrl (R.SEC_CONFIG_MEAS w) := fun w => besideChCtrl_high (by simp only [R.SEC_CONFIG_MEAS, R.SEC_BASE]; omega)
  rw [State.recordChange, State.extend, hp.put _ _ _ (besideChCtrl_high (by decide)), hp.setMeas _ _ hconfig, hp.tick, hp.setMeas _ _ hdata]

theorem AsideMem.xlatDone (s : State) (status res : Nat) : p (s.xlatDone status res) = p s := by
  have hcmd : besideChCtrl R.XLAT_CMD := besideChCtrl_low (by decide)
  rw [State.xlatDone, hp.setErr _ (by decide) (besideChCtrl_low (by decide)), hp.setReg _ _ _ (besideChCtrl_low (by decide)),
    hp.putFlag _ _ _ hcmd, hp.put _ _ _ hcmd]

theorem AsideMem.settleBasins (s : State) : p s.settleBasins = p s := by
  refine foldl_keeps p _ _ (fun t e _ => ?_)
  simp only
  split
  · rfl
  · split
    · exact hp.xlat _ _
    · exact (hp.xlatDone _ _ _).trans ((hp.recordChange _).trans (hp.xlat _ _))

theorem AsideMem.startFill (s : State) (u : Nat) (j : FillJob) : p (s.startFill u j) = p s :=
  (hp.updChan _ u (fun (c : Chan) => { c with fill := some j }) (fun _ => ⟨rfl, rfl⟩)).trans (hp.pool _ _)

theorem AsideMem.startBasinFill (s : State) (u : Nat) : p (s.startBasinFill u) = p s := by
  unfold State.startBasinFill
  split
  · split
    · exact (hp.startFill _ _ _).trans (hp.xlat _ _)
    · split
      · rfl
      · exact (hp.settleBasins _).trans ((hp.setErr _ (by decide) (besideChCtrl_chErr u)).trans (hp.xlat _ _))
  · rfl

end Basins

/-! ### The fault (R204, R205, R229, R238, R420) -/

section Fault
variable {β : Type} {p : State → β} (hp : AsideMem p)
include hp

theorem AsideMem.setToken (s : State) (u : Nat) (b : Bool) : p (s.setToken u b) = p s := hp.updChan _ _ _ (fun _ => ⟨rfl, rfl⟩)

theorem AsideMem.passToken (s : State) (u : Nat) : p (s.passToken u) = p s := by
  unfold State.passToken
  extract_lets t
  have ht : p t = p s := 
    (hp.updChan _ u (fun (c : Chan) => { c with tracked0 := false }) (fun _ => ⟨rfl, rfl⟩)).trans (hp.setToken _ _ _)
  split
  · exact ht
  · split
    · exact ht
    · exact (hp.setToken _ _ _).trans ht

theorem AsideMem.moveStarter (s : State) (u : Nat) : p (s.moveStarter u) = p s := by
  unfold State.moveStarter
  split
  · rfl
  · extract_lets t base
    have ht : p t = p s := hp.putFlag _ _ _ (besideChCtrl_chRetrain u)
    split
    · exact ht
    · exact (hp.putFlag _ _ _ (besideChCtrl_chRetrain _)).trans ht

end Fault

/-- A channel has faulted: FAULT stands, its requests are answered, and nothing of it is under test or paused. -/
def State.faultBegun (s : State) (u : Nat) : State :=
  ((s.putFlag (chCtrl u) F.POND_CTRL_FAULT true).flushChan u true).updChan u (fun (c : Chan) =>
    { c with test := [], pc0 := { c.pc0 with paused := false }, pc1 := { c.pc1 with paused := false } })

/-- What follows a fault, from the token's way on to the stack's degradation and the fills that wait (R205, R417). -/
theorem AsideMem.faultChan {β : Type} {p : State → β} (hp : AsideMem p) {s : State} {u : Nat} (h : s.chFaulted u = false) :
    p (s.faultChan u) = p (s.faultBegun u) := by
  rw [State.faultChan, if_neg (by simp [h])]
  extract_lets held t1 t2 t3 t4 t5 t6
  have h4 : p t4 = p t3 := by
    unfold t4
    split
    · exact hp.passToken _ _
    · rfl
  have h5 : p t5 = p t4 := (hp.unitAlarm _ _ _).trans (hp.moveStarter _ _)
  have h6 : p t6 = p t5 := by
    unfold t6
    split
    · exact (hp.degrade _ _).trans (hp.bumpSat _ _ _ (besideChCtrl_rasStack _))
    · rfl
  exact (hp.startBasinFill _ _).trans (h6.trans (h5.trans h4))

/-- A channel's control register, and its pseudo-channels. -/
def State.chFront (s : State) (u : Nat) : BitVec 64 × PChan × PChan := (s.reg (chCtrl u), (s.chan u).pc0, (s.chan u).pc1)

theorem State.chFront_updChan (s : State) (u v : Nat) (f : Chan → Chan) (hf : ∀ c, (f c).pc0 = c.pc0 ∧ (f c).pc1 = c.pc1) :
    (s.updChan v f).chFront u = s.chFront u := by
  have hchan : ((s.updChan v f).chan u).pc0 = (s.chan u).pc0 ∧ ((s.updChan v f).chan u).pc1 = (s.chan u).pc1 := by
    rw [State.updChan, State.chan_setChan]
    split
    · next h => exact h ▸ hf _
    · exact ⟨rfl, rfl⟩
  exact congrArg _ (Prod.ext hchan.1 hchan.2)

theorem State.chFront_aside {u : Nat} (hu : u < 396) : AsideMem (fun s => s.chFront u) where
  setReg s o v ho := by
    simp only [State.chFront, State.chan_setReg, State.reg_setReg_ne s o _ v (ne_chCtrl_of_beside ho hu).symm]
  send _ _ := rfl
  setCore _ _ _ := rfl
  fab _ _ := rfl
  pair _ _ := rfl
  ras _ _ := rfl
  tick _ := rfl
  pool _ _ := rfl
  mgmt _ _ := rfl
  xlat _ _ := rfl
  updChan s v f hf := s.chFront_updChan u v f hf

end Sys2Proof.Machine
end

section
/-!
Fills, training, faults and hold of channels (R204, R210 to R212, R217, R229, R238, R420).
-/
namespace Sys2Proof.Machine

/-! ### STATE (R230, R236, R238, R240) -/

/-- A register's fields depend on that register alone. -/
theorem State.flag_congr {s t : State} {o : Nat} (h : s.reg o = t.reg o) (g : Fld) : s.flag o g = t.flag o g := by
  rw [State.flag, State.get, h, State.flag, State.get]

theorem chCtrl_pond (i : Fin 384) : chCtrl i = R.POND_CTRL i := if_pos i.isLt

theorem State.chHeld_pond (s : State) (i : Fin 384) : s.chHeld i = false := by simp [State.chHeld]

theorem chCtrl_spill (j : Nat) : chCtrl (384 + j) = R.SPILL_CTRL j := by
  rw [chCtrl, if_neg (by omega), Nat.add_sub_cancel_left]

theorem State.chHeld_eq (s : State) (u : Nat) : s.chHeld u = (384 ≤ u && s.flag (chCtrl u) F.SPILL_CTRL_HOLD) := by
  unfold State.chHeld
  by_cases h : 384 ≤ u
  · rw [chCtrl, if_neg (by omega)]
  · simp [h]

theorem State.chState_of_faulted {s : State} {u : Nat} (h : s.chFaulted u = true) : s.chState u = 5 := if_pos h

theorem State.chState_of_held {s : State} {u : Nat} (hwell : s.chFaulted u = false) (h : s.chHeld u = true) : s.chState u = 6 := by
  simp [State.chState, hwell, h]

theorem State.chState_of_training {s : State} {u : Nat} (hwell : s.chFaulted u = false) (hheld : s.chHeld u = false)
    (hout : s.inL3 (chUnitKey u) = false) (h : s.chTraining u = true) : s.chState u = 1 := by
  simp [State.chState, hwell, hheld, hout, h]

/-- Nothing but a fill keeps a channel from being ready. -/
structure State.chClear (s : State) (u : Nat) : Prop where
  well : s.chFaulted u = false
  free : s.chHeld u = false
  out : s.inL3 (chUnitKey u) = false
  idle : s.chTraining u = false
  trained : (s.chan u).trained = true
  data : s.rst.l2 ≠ 2
  awake0 : (s.chan u).pc0.paused = false
  awake1 : (s.chan u).pc1.paused = false

theorem State.chState_of_clear {s : State} {u : Nat} (h : s.chClear u) (hfill : (s.chan u).fill = none) : s.chState u = 2 := by
  simp [State.chState, h.well, h.free, h.out, h.idle, h.trained, h.data, h.awake0, h.awake1, hfill]

/-- A choice that comes to what its first branch is not took the second. -/
theorem second_of_ite_eq {c : Prop} [Decidable c] {a b n : Nat} (h : (if c then a else b) = n) (ha : a ≠ n) : ¬ c ∧ b = n := by
  split at h
  · exact absurd h ha
  · next hc => exact ⟨hc, h⟩

theorem State.chClear_of_filling {s : State} {u : Nat} (h : s.chState u = 4) : s.chClear u := by
  obtain ⟨hwell, h⟩ := second_of_ite_eq h (by decide)
  obtain ⟨hheld, h⟩ := second_of_ite_eq h (by decide)
  obtain ⟨hidle, h⟩ := second_of_ite_eq h (by decide)
  obtain ⟨htrained, h⟩ := second_of_ite_eq h (by decide)
  obtain ⟨hreset, h⟩ := second_of_ite_eq h (by decide)
  obtain ⟨hawake, -⟩ := second_of_ite_eq h (by decide)
  simp only [Bool.or_eq_true, beq_iff_eq, not_or, Bool.not_eq_true, Bool.not_eq_false'] at *
  exact ⟨hwell, hheld.1, hreset.2, hidle, by simpa using htrained, hreset.1, hawake.1, hawake.2⟩

/-- A channel that is clear stays clear while its control register, the resets and its record, but for the fill, stay as they are. -/
theorem State.chClear.congr {s t : State} {u : Nat} (h : s.chClear u) (hreg : t.reg (chCtrl u) = s.reg (chCtrl u)) (hrst : t.rst = s.rst)
    (hchan : t.chan u = { s.chan u with fill := (t.chan u).fill }) : t.chClear u where
  well := (State.flag_congr hreg _).trans h.well
  free := by rw [State.chHeld_eq, State.flag_congr hreg, ← State.chHeld_eq, h.free]
  out := by rw [State.inL3, hrst]; exact h.out
  idle := (State.flag_congr hreg _).trans h.idle
  trained := by rw [hchan]; exact h.trained
  data := by rw [hrst]; exact h.data
  awake0 := by rw [hchan]; exact h.awake0
  awake1 := by rw [hchan]; exact h.awake1

/-! ### Faults (R204, R229, R420) -/

/-- A channel's record with its queues answered. -/
def Chan.drained (c : Chan) : Chan :=
  { c with pc0 := { c.pc0 with rq := [], wq := [], drainTo := none }, pc1 := { c.pc1 with rq := [], wq := [], drainTo := none } }

/-- The answers of a wrapper add to what has been sent alone. -/
theorem State.flushChan_keeps {β : Type} (p : State → β) (hsend : ∀ t x, p (State.send t x) = p t) (s : State) (u : Nat) (faulted : Bool) :
    p (s.flushChan u faulted) = p (s.setChan u (s.chan u).drained) := foldl_keeps p _ _ (fun _ _ _ => hsend _ _)

@[simp] theorem State.chan_flushChan (s : State) (u : Nat) (faulted : Bool) : (s.flushChan u faulted).chan u = (s.chan u).drained :=
  (State.flushChan_keeps (fun t => t.chan u) (fun _ _ => rfl) s u faulted).trans (State.chan_setChan_same _ _ _)

@[simp] theorem State.reg_flushChan (s : State) (u : Nat) (faulted : Bool) (o : Nat) : (s.flushChan u faulted).reg o = s.reg o :=
  State.flushChan_keeps (fun t => t.reg o) (fun _ _ => rfl) s u faulted

@[simp] theorem State.reg_updChan (s : State) (u : Nat) (f : Chan → Chan) (o : Nat) : (s.updChan u f).reg o = s.reg o := (rfl)

theorem State.chFront_faultBegun (s : State) (u : Nat) : (s.faultBegun u).chFront u = ((s.putFlag (chCtrl u) F.POND_CTRL_FAULT true).reg (chCtrl u),
    { (s.chan u).pc0 with rq := [], wq := [], drainTo := none, paused := false },
    { (s.chan u).pc1 with rq := [], wq := [], drainTo := none, paused := false }) := by
  simp only [State.chFront, State.faultBegun, State.chan_updChan_same, State.chan_flushChan, State.chan_putFlag, State.reg_updChan,
    State.reg_flushChan, Chan.drained]

section Fault
variable {s : State} {u : Nat} (hu : u < 396)
include hu

theorem State.chFront_faultChan (h : s.chFaulted u = false) : (s.faultChan u).chFront u = ((s.putFlag (chCtrl u) F.POND_CTRL_FAULT true).reg (chCtrl u),
    { (s.chan u).pc0 with rq := [], wq := [], drainTo := none, paused := false },
    { (s.chan u).pc1 with rq := [], wq := [], drainTo := none, paused := false }) :=
  ((State.chFront_aside hu).faultChan h).trans (s.chFront_faultBegun u)

theorem State.chFaulted_faultChan : (s.faultChan u).chFaulted u = true := by
  by_cases h : s.chFaulted u = true
  · rw [State.faultChan, if_pos h, h]
  · have hreg := congrArg Prod.fst (State.chFront_faultChan hu (Bool.eq_false_iff.mpr h))
    exact (State.flag_congr hreg _).trans (s.flag_putFlag_same _ _ true (by decide) rfl)

/-- A fault leaves the other fields of the control register as they are. -/
theorem State.flag_faultChan (g : Fld) (hg : F.POND_CTRL_FAULT.lo + F.POND_CTRL_FAULT.w ≤ g.lo ∨ g.lo + g.w ≤ F.POND_CTRL_FAULT.lo) :
    (s.faultChan u).flag (chCtrl u) g = s.flag (chCtrl u) g := by
  by_cases h : s.chFaulted u = true
  · rw [State.faultChan, if_pos h]
  · have hreg := congrArg Prod.fst (State.chFront_faultChan hu (Bool.eq_false_iff.mpr h))
    exact (State.flag_congr hreg _).trans (s.flag_putFlag_disjoint _ _ _ true (by decide) hg)

end Fault

/-! ### The beginning of a fill (R210, R211) -/

/-- The lines of a fill that has begun are not valid. -/
theorem State.line_startFill (s : State) (u : Nat) (j : FillJob) {a : Nat} (h : j.fill.covers (64 * (a / 64)) = true) :
    ((s.startFill u j).pool.line a).valid = false := by
  have hline := Pool.line_fill s.pool { j.fill with valid := false } a
  rw [if_pos (show Fill.covers { j.fill with valid := false } _ = true from h)] at hline
  exact congrArg Side.valid hline

section PondFill
variable {pond : Fin 384} (sender tag : BitVec 16) {first count : BitVec 32} (pattern : Word) {kslot : BitVec 16} (tenant : BitVec 8)
  {pcmask : BitVec 8} {repair : Bool} {s : State}

theorem exec_pondFill_of_faulted (h : s.chFaulted pond = true) :
    exec (.pondFill pond sender tag first count pattern kslot tenant pcmask repair) s = .next (s.fillReply pond sender.toNat tag.toNat 2 0) := if_pos h

theorem exec_pondFill_of_empty (hwell : s.chFaulted pond = false) (h : s.slotFull kslot.toNat = false) :
    exec (.pondFill pond sender tag first count pattern kslot tenant pcmask repair) s = .next (s.fillReply pond sender.toNat tag.toNat 1 0) :=
  (if_neg (by simp [hwell])).trans (if_pos (by simp [h]))

/-- The fill that the operands of POND_FILL make. -/
def State.pondFillJob (s : State) (pond sender tag first count pattern kslot tenant pcmask : Nat) : FillJob :=
  { sender := sender, tag := tag, count := count, lines := count * 256 * popCount pcmask 2,
    fill := { range := .rows pond first count pcmask, pattern := pattern, kslot := kslot, kgen := s.slotGen kslot, tag := tenant } }

theorem exec_pondFill_of_ready (hwell : s.chFaulted pond = false) (hcount : count.toNat ≠ 0) (hmask : pcmask.toNat ≠ 0) (hmask3 : pcmask.toNat ≤ 3)
    (hrange : first.toNat + count.toNat ≤ (if repair then 65536 else 61440)) (hfull : s.slotFull kslot.toNat = true) (hruns : s.chRuns pond = true)
    (hfill : (s.chan pond).fill = none) : exec (.pondFill pond sender tag first count pattern kslot tenant pcmask repair) s =
      .next (s.startFill pond (s.pondFillJob pond sender.toNat tag.toNat first.toNat count.toNat pattern.toNat kslot.toNat tenant.toNat pcmask.toNat)) := by
  have hrows : first.toNat + count.toNat ≤ 65536 ∧ (repair = false → first.toNat + count.toNat ≤ 61440) := by
    cases repair
    · exact ⟨le_trans hrange (by decide), fun _ => hrange⟩
    · exact ⟨hrange, nofun⟩
  change execPondFill pond sender tag first count pattern kslot tenant pcmask repair s = _
  simp only [execPondFill, hwell, if_neg hcount, Bool.false_eq_true, if_false]
  exact if_neg (by simpa [hmask, hmask3, hrows.1, hfull, hruns, hfill] using hrows.2)

end PondFill

/-- The fill that the operands of SPILL_FILL make. -/
def State.spillFillJob (s : State) (spill sender tag first count pattern kslot tenant : Nat) : FillJob :=
  { sender := sender, tag := tag, count := count, lines := count * 1024,
    fill := { range := .chunks spill first count, pattern := pattern, kslot := kslot, kgen := s.slotGen kslot, tag := tenant } }

theorem exec_spillFill_of_ready {spill : Fin 12} (sender tag : BitVec 16) {first count : BitVec 32} (pattern : Word) {kslot : BitVec 16}
    (tenant : BitVec 8) {s : State} (hwell : s.chFaulted (384 + spill.val) = false) (hcount : count.toNat ≠ 0)
    (hrange : first.toNat + count.toNat ≤ s.spillBytes spill / 65536) (hfull : s.slotFull kslot.toNat = true) (hruns : s.chRuns (384 + spill.val) = true)
    (hfill : (s.chan (384 + spill.val)).fill = none) : exec (.spillFill spill sender tag first count pattern kslot tenant) s =
      .next (s.startFill (384 + spill.val)
        (s.spillFillJob spill sender.toNat tag.toNat first.toNat count.toNat pattern.toNat kslot.toNat tenant.toNat)) := by
  change execSpillFill spill sender tag first count pattern kslot tenant s = _
  simp only [execSpillFill, hwell, if_neg hcount, Bool.false_eq_true, if_false]
  exact if_neg (by simp [hrange, hfull, hruns, hfill])

/-! ### The end of a fill (R210, R211) -/

theorem Fill.covers_congr {f g : Fill} (h : f.range = g.range) (a : Nat) : f.covers a = g.covers a := by
  rw [Fill.covers, h, Fill.covers]

/-- Fills that do not cover a place may go. -/
theorem lastFill_filter {keep : Fill → Bool} {a : Nat} (fills : List Fill) (h : ∀ f, keep f = false → f.covers a = false) :
    lastFill (fills.filter keep) a = lastFill fills a := by
  induction fills with
  | nil => rfl
  | cons f fills ih =>
    cases hk : keep f
    · simp [hk, ih, lastFill_cons, h f hk]
    · simp [hk, ih, lastFill_cons]

/-- The pool without the marks of a fill that has run to its end. -/
def Pool.unmarked (p : Pool) (r : FillRange) : Pool := { p with fills := p.fills.filter (fun f => !(f.range == r && !f.valid)) }

theorem Pool.byte_unmarked (p : Pool) {f : Fill} {a : Nat} (h : f.covers a = false) : (p.unmarked f.range).byte a = p.byte a := by
  refine Tbl.get_congr _ ?_
  have hkeep : ∀ g : Fill, (!(g.range == f.range && !g.valid)) = false → g.covers a = false := by
    intro g hg
    have hrange : g.range = f.range := by simp at hg; exact hg.1
    exact (Fill.covers_congr hrange a).trans h
  simp only [bgByte, Pool.unmarked, lastFill_filter _ hkeep]

/-- A reply with STATUS 0 adds to the messages alone. -/
theorem State.fillReply_ok_keeps {β : Type} (p : State → β) (hp : ∀ (t : State) (m : List HMsg) (n : Nat), p { t with msgs := m, fresh := n } = p t)
    (t : State) (v sender tag done : Nat) : p (t.fillReply v sender tag 0 done) = p t := by
  unfold State.fillReply
  extract_lets body x
  rw [if_pos rfl]
  exact hp t _ _

@[simp] theorem State.chan_fillWritten (s : State) (u : Nat) (j : FillJob) (done v : Nat) : (s.fillWritten u j done).chan v = s.chan v := (rfl)

section FillEnds
variable {s : State} {u : Nat} {j : FillJob} (hmsg : j.basin = none)
include hmsg

theorem State.fillEnds_of_message (status done : Nat) : s.fillEnds u j status done =
    ((s.updChan u (fun (c : Chan) => { c with fill := none })).fillWritten u j done).fillReply u j.sender j.tag status (min done j.count) := by
  simp only [State.fillEnds, hmsg]

theorem State.chan_fillEnds : (s.fillEnds u j 0 j.count).chan u = { s.chan u with fill := none } := by
  rw [State.fillEnds_of_message hmsg]
  exact (State.fillReply_ok_keeps (fun t => t.chan u) (fun _ _ _ => rfl) _ _ _ _ _).trans (by
    rw [State.chan_fillWritten, State.chan_updChan_same])

theorem State.rst_fillEnds : (s.fillEnds u j 0 j.count).rst = s.rst := by
  rw [State.fillEnds_of_message hmsg]
  exact State.fillReply_ok_keeps (fun t => t.rst) (fun _ _ _ => rfl) _ _ _ _ _

theorem State.ctrl_fillEnds (hu : u < 396) : (s.fillEnds u j 0 j.count).reg (chCtrl u) = s.reg (chCtrl u) := by
  rw [State.fillEnds_of_message hmsg]
  refine (State.fillReply_ok_keeps (fun t => t.reg (chCtrl u)) (fun _ _ _ => rfl) _ _ _ _ _).trans ?_
  exact State.reg_bump_ne _ _ _ _ (ne_chCtrl_of_beside (besideChCtrl_chCnt u (by decide)) hu).symm

theorem State.pool_fillEnds (hwhole : j.fill.range.upTo j.count = j.fill.range) :
    (s.fillEnds u j 0 j.count).pool = (s.pool.unmarked j.fill.range).fill j.fill := by
  rw [State.fillEnds_of_message hmsg]
  refine (State.fillReply_ok_keeps State.pool (fun _ _ _ => rfl) _ _ _ _ _).trans ?_
  simp only [State.fillWritten, min_self, hwhole, beq_self_eq_true, Bool.and_true]
  rfl

end FillEnds

theorem exec_fillDone_of_filling {unit : Fin 396} (done : BitVec 32) {j : FillJob} {s : State} (hfill : (s.chan unit).fill = some j)
    (hwell : s.chFaulted unit = false) : exec (.fillDone unit done) s = .next (s.fillEnds unit j 0 j.count) := by
  change execFillDone unit done s = _
  simp [execFillDone, hfill, hwell]

/-! ### Training (R212, R229, R238) -/

theorem exec_pondTrain_of_disabled {pond : Fin 384} {s : State} (hoff : s.chEnabled pond = false) (hwell : s.chFaulted pond = false) :
    exec (.pondTrain pond) s = .next (s.putFlag (R.POND_CTRL pond) F.POND_CTRL_TRAIN true) := if_neg (by simp [hoff, hwell])

section TrainSpill
variable {spill : Fin 12} {s : State} (hoff : s.chEnabled (384 + spill.val) = false) (hfree : s.flag (R.SPILL_CTRL spill) F.SPILL_CTRL_HOLD = false)
  (hwell : s.chFaulted (384 + spill.val) = false) {dimms : List (Nat × Nat)}
include hoff hfree hwell

theorem exec_spillTrain_of_idle : exec (.spillTrain spill dimms) s =
    let d := dimms.take 2
    let t := s.spillRead spill dimms
    .next (if 1 < d.length ∧ d[0]? ≠ d[1]? then
      (t.put (R.SPILL_STATUS spill) F.SPILL_STATUS_CAP_GIB 0).setErr (R.SPILL_ERR spill) F.SPILL_ERR_DIMM_MISMATCH
    else if d = [] then t.put (R.SPILL_STATUS spill) F.SPILL_STATUS_CAP_GIB 0
    else (t.put (R.SPILL_STATUS spill) F.SPILL_STATUS_CAP_GIB (d.foldl (fun n x => n + x.2) 0)).putFlag (R.SPILL_CTRL spill) F.SPILL_CTRL_TRAIN true) :=
  congrArg Host.Outcome.next (if_neg (by simp [hoff, hfree, hwell]))

theorem exec_spillTrain_of_alike (hd : dimms.take 2 ≠ []) (halike : dimms.length < 2 ∨ dimms[0]? = dimms[1]?) :
    exec (.spillTrain spill dimms) s = .next (((s.spillRead spill dimms).put (R.SPILL_STATUS spill) F.SPILL_STATUS_CAP_GIB
      ((dimms.take 2).foldl (fun n x => n + x.2) 0)).putFlag (R.SPILL_CTRL spill) F.SPILL_CTRL_TRAIN true) := by
  rw [exec_spillTrain_of_idle hoff hfree hwell]
  refine congrArg Host.Outcome.next ((if_neg ?_).trans (if_neg hd))
  rintro ⟨htwo, hdiffer⟩
  rcases halike with h | h
  · rw [List.length_take] at htwo
    omega
  · exact hdiffer (by simpa using h)

theorem exec_spillTrain_of_none : exec (.spillTrain spill []) s =
    .next ((s.spillRead spill []).put (R.SPILL_STATUS spill) F.SPILL_STATUS_CAP_GIB 0) := by
  rw [exec_spillTrain_of_idle hoff hfree hwell]
  exact congrArg Host.Outcome.next ((if_neg (by simp)).trans (if_pos rfl))

theorem exec_spillTrain_of_unlike {a b : Nat × Nat} (h : b ≠ a) : exec (.spillTrain spill [a, b]) s =
    .next (((s.spillRead spill [a, b]).put (R.SPILL_STATUS spill) F.SPILL_STATUS_CAP_GIB 0).setErr (R.SPILL_ERR spill) F.SPILL_ERR_DIMM_MISMATCH) := by
  rw [exec_spillTrain_of_idle hoff hfree hwell]
  exact congrArg Host.Outcome.next (if_pos ⟨by simp, by simpa using Ne.symm h⟩)

end TrainSpill

/-- A channel's record once training has succeeded: the repair resources that the stack or DIMM reports, and its mark. -/
def Chan.passed (c : Chan) (res : List (Fin 16 × Nat)) : Chan :=
  { c with soft := res.foldl (fun t r => Tbl.set (fun _ => 0) t r.1 r.2) [], trained := true }

/-- A channel whose training has succeeded. -/
def State.trainingPassed (s : State) (u : Nat) (res : List (Fin 16 × Nat)) : State :=
  (s.putFlag (chCtrl u) F.POND_CTRL_TRAIN false).updChan u (fun (c : Chan) => c.passed res)

theorem State.reg_trainingPassed (s : State) (res : List (Fin 16 × Nat)) (u o : Nat) :
    (s.trainingPassed u res).reg o = (s.putFlag (chCtrl u) F.POND_CTRL_TRAIN false).reg o :=
  State.reg_updChan _ _ _ _

theorem State.chan_trainingPassed (s : State) (res : List (Fin 16 × Nat)) (u : Nat) : (s.trainingPassed u res).chan u = (s.chan u).passed res := by
  rw [State.trainingPassed, State.chan_updChan_same, State.chan_putFlag]

theorem State.rst_trainingPassed (s : State) (res : List (Fin 16 × Nat)) (u : Nat) : (s.trainingPassed u res).rst = s.rst := by
  rw [State.trainingPassed, State.updChan, State.setChan_rst, State.putFlag_rst]

section TrainingDone
variable {unit : Fin 396} {s : State} (htrain : s.flag (chCtrl unit) F.POND_CTRL_TRAIN = true) (res : List (Fin 16 × Nat))
include htrain

theorem exec_trainingDone_of_failed : exec (.trainingDone unit false res) s = .next
    (((s.putFlag (chCtrl unit) F.POND_CTRL_TRAIN false).updChan unit (fun (c : Chan) => { c with trained := false })).faultChan unit) :=
  (if_neg (by simp [State.chTraining, htrain])).trans (if_pos rfl)

theorem exec_trainingDone_of_passed : exec (.trainingDone unit true res) s = .next (if unit.val < 384 then s.trainingPassed unit res
    else (s.trainingPassed unit res).put R.GLOB_CAP F.GLOB_CAP_SPILL_MASK
      ((s.trainingPassed unit res).get R.GLOB_CAP F.GLOB_CAP_SPILL_MASK ||| 2 ^ (unit.val - 384))) := by
  have hgo : ¬ (!s.chTraining unit) = true := by simp [State.chTraining, htrain]
  change execTrainingDone unit true res s = _
  rw [execTrainingDone]
  refine (if_neg hgo).trans ((if_neg (by simp)).trans ?_)
  split
  · rfl
  · rfl

/-- What a successful training shows at the channel. -/
theorem exec_trainingDone_shows : ∃ t : State, exec (.trainingDone unit true res) s = .next t ∧
    t.reg (chCtrl unit) = (s.putFlag (chCtrl unit) F.POND_CTRL_TRAIN false).reg (chCtrl unit) ∧ t.rst = s.rst ∧
    t.chan unit = (s.chan unit).passed res := by
  have hglob : chCtrl unit ≠ R.GLOB_CAP := (ne_chCtrl_of_beside (besideChCtrl_low (by decide)) unit.isLt).symm
  refine ⟨_, exec_trainingDone_of_passed htrain res, ?_, ?_, ?_⟩
  · split
    · exact State.reg_trainingPassed _ _ _ _
    · rw [State.reg_put_ne _ _ _ _ _ hglob, State.reg_trainingPassed]
  · split
    · exact State.rst_trainingPassed _ _ _
    · rw [State.put_rst, State.rst_trainingPassed]
  · split
    · exact State.chan_trainingPassed _ _ _
    · rw [State.chan_put, State.chan_trainingPassed]

end TrainingDone

/-! ### HOLD (R217, R238) -/

section Hold
variable {spill : Fin 12} {s : State}

theorem exec_spillHold_of_occupied (h : s.spillEmpty spill = false) :
    exec (.spillHold spill true) s = .next (s.setErr (R.SPILL_ERR spill) F.SPILL_ERR_HOLD_REFUSED) := by
  change execSpillHold spill true s = _
  simp [execSpillHold, h]

/-- A channel as HOLD takes it out of use: its requests answered, untrained, held and disabled. -/
def State.heldSpill (s : State) (j : Nat) : State :=
  ((((s.flushChan (384 + j) false).updChan (384 + j) (fun (c : Chan) => { c with trained := false })).putFlag (R.SPILL_CTRL j) F.SPILL_CTRL_HOLD true).putFlag
    (R.SPILL_CTRL j) F.SPILL_CTRL_ENABLE false)

theorem exec_spillHold_of_empty (h : s.spillEmpty spill = true) : ∃ t : State, exec (.spillHold spill true) s = .next t ∧
    t.reg (R.SPILL_CTRL spill) = (s.heldSpill spill).reg (R.SPILL_CTRL spill) := by
  have hu : 384 + spill.val < 396 := by omega
  have hexec : exec (.spillHold spill true) s =
      .next (if (s.heldSpill spill).hasToken (384 + spill) then (s.heldSpill spill).passToken (384 + spill) else s.heldSpill spill) := by
    change execSpillHold spill true s = _
    unfold execSpillHold
    exact (if_pos rfl).trans (if_neg (by simp [h]))
  refine ⟨_, hexec, ?_⟩
  split
  · have hfront := (State.chFront_aside hu).passToken (s.heldSpill spill) (384 + spill.val)
    exact chCtrl_spill spill ▸ congrArg Prod.fst hfront
  · rfl

theorem State.flag_heldSpill_hold (j : Nat) : (s.heldSpill j).flag (R.SPILL_CTRL j) F.SPILL_CTRL_HOLD = true :=
  (State.flag_putFlag_disjoint _ _ _ _ _ (by decide) (by decide)).trans (State.flag_putFlag_same _ _ _ _ (by decide) rfl)

theorem State.flag_heldSpill_enable (j : Nat) : (s.heldSpill j).flag (R.SPILL_CTRL j) F.SPILL_CTRL_ENABLE = false :=
  State.flag_putFlag_same _ _ _ _ (by decide) rfl

theorem State.flag_heldSpill_fault (j : Nat) : (s.heldSpill j).flag (R.SPILL_CTRL j) F.POND_CTRL_FAULT = s.flag (R.SPILL_CTRL j) F.POND_CTRL_FAULT := by
  rw [State.heldSpill, State.flag_putFlag_disjoint _ _ _ _ _ (by decide) (by decide), State.flag_putFlag_disjoint _ _ _ _ _ (by decide) (by decide)]
  exact State.flag_congr (by rw [State.reg_updChan, State.reg_flushChan]) _

end Hold

/-- Settles O46: what a fill leaves is `Pool.byte_fill` and `Pool.line_fill`; what a fault leaves of a channel is `State.chFront_faultChan`. -/
theorem fillsAndTraining : Obligations.FillsAndTraining := by
  unfold Obligations.FillsAndTraining
  refine ⟨?pondFill, ?spillFill, ?fillDone, ?pond, ?spillTrain, ?trainingDone, ?hold⟩
  case pondFill =>
    intro pond sender tag first count pattern kslot tenant pcmask repair s i
    refine ⟨fun hwell hcount hmask hmask3 hrange hfull hruns hfill => ?_, exec_pondFill_of_empty sender tag pattern tenant,
      exec_pondFill_of_faulted sender tag pattern tenant⟩
    have hexec := exec_pondFill_of_ready sender tag pattern tenant hwell hcount hmask hmask3 hrange hfull hruns hfill
    refine ⟨hexec, fun t ht a ha => ?_⟩
    cases hexec.symm.trans ht
    exact s.line_startFill _ _ ha
  case spillFill =>
    intro spill sender tag first count pattern kslot tenant s u hwell hcount hrange hfull hruns hfill f
    exact exec_spillFill_of_ready sender tag pattern tenant hwell hcount hrange hfull hruns hfill
  case fillDone =>
    refine fun unit done j s hfill hwell => ⟨exec_fillDone_of_filling done hfill hwell, fun hmsg hwhole => ?_⟩
    intro t
    have hchan : t.chan unit = { s.chan unit with fill := none } := State.chan_fillEnds hmsg
    have hpool : t.pool = (s.pool.unmarked j.fill.range).fill j.fill := State.pool_fillEnds hmsg hwhole
    have hnone : (t.chan unit).fill = none := by rw [hchan]
    refine ⟨hnone, fun h4 => ?_, fun a ha => ?_, fun a ha => ?_, fun a ha => ?_⟩
    · have hclear := (State.chClear_of_filling h4).congr (State.ctrl_fillEnds hmsg unit.isLt) (State.rst_fillEnds hmsg) (hnone.symm ▸ hchan)
      exact State.chState_of_clear hclear hnone
    · rw [hpool, Pool.byte_fill, if_pos ha]
    · rw [hpool, Pool.line_fill, if_pos ha]
    · rw [hpool, Pool.byte_fill, if_neg (by simp [ha]), Pool.byte_unmarked _ ha]
  case pond =>
    refine fun pond s => ⟨fun hoff hwell => ⟨exec_pondTrain_of_disabled hoff hwell, fun hout => ?_⟩, fun hwell => ⟨_, rfl, ?_⟩⟩
    · refine State.chState_of_training ?_ (State.chHeld_pond _ pond) hout ?_
      · rw [State.chFaulted, chCtrl_pond, State.flag_putFlag_disjoint _ _ _ _ _ (by decide) (by decide), ← chCtrl_pond]
        exact hwell
      · rw [State.chTraining, chCtrl_pond]
        exact State.flag_putFlag_same _ _ _ _ (by decide) rfl
    · have hu : pond.val < 396 := by omega
      have hfaulted := State.chFaulted_faultChan (s := s) hu
      obtain ⟨hpc0, hpc1⟩ := Prod.ext_iff.mp (congrArg Prod.snd (State.chFront_faultChan hu hwell))
      refine ⟨hfaulted, State.chState_of_faulted hfaulted, congrArg PChan.rq hpc0, congrArg PChan.wq hpc0, congrArg PChan.rq hpc1,
        congrArg PChan.wq hpc1, congrArg PChan.paused hpc0, congrArg PChan.paused hpc1⟩
  case spillTrain =>
    intro spill part gib s hoff hfree hwell t
    refine ⟨?_, ?_, exec_spillTrain_of_none hoff hfree hwell, fun p g hne => exec_spillTrain_of_unlike hoff hfree hwell hne⟩
    · have htwo := exec_spillTrain_of_alike (dimms := [(part, gib), (part, gib)]) hoff hfree hwell (by simp) (.inr rfl)
      simpa [State.spillRead] using htwo
    · have hone := exec_spillTrain_of_alike (dimms := [(part, gib)]) hoff hfree hwell (by simp) (.inl (by simp))
      simpa [State.spillRead] using hone
  case trainingDone =>
    intro unit ok res s htrain
    cases ok with
    | false =>
      refine ⟨_, exec_trainingDone_of_failed htrain res, ?_, nofun, fun _ => State.chFaulted_faultChan unit.isLt⟩
      rw [State.flag_faultChan unit.isLt _ (by decide), State.flag_congr (State.reg_updChan _ _ _ _)]
      exact State.flag_putFlag_same _ _ _ _ (by decide) rfl
    | true =>
      obtain ⟨t, hexec, hreg, hrst, hchan⟩ := exec_trainingDone_shows htrain res
      have hidle : t.flag (chCtrl unit) F.POND_CTRL_TRAIN = false :=
        (State.flag_congr hreg _).trans (State.flag_putFlag_same _ _ _ _ (by decide) rfl)
      have hother : ∀ g : Fld, g.lo + g.w ≤ 2 ∨ 3 ≤ g.lo → t.flag (chCtrl unit) g = s.flag (chCtrl unit) g := fun g hg =>
        (State.flag_congr hreg _).trans (State.flag_putFlag_disjoint _ _ _ _ _ (by decide) hg.symm)
      have hsame : t.chFaulted unit = s.chFaulted unit := hother _ (by decide)
      refine ⟨t, hexec, hidle, fun _ => ⟨congrArg Chan.trained hchan, hsame, fun hwell hout hdata hfree hawake0 hawake1 hfill => ?_⟩, nofun⟩
      have hclear : t.chClear unit :=
        { well := hsame.trans hwell
          free := by rw [State.chHeld_eq, hother _ (by decide), ← State.chHeld_eq, hfree]
          out := by rw [State.inL3, hrst]; exact hout
          idle := hidle
          trained := congrArg Chan.trained hchan
          data := by rw [hrst]; exact hdata
          awake0 := (congrArg (fun c => c.pc0.paused) hchan).trans hawake0
          awake1 := (congrArg (fun c => c.pc1.paused) hchan).trans hawake1 }
      exact State.chState_of_clear hclear ((congrArg Chan.fill hchan).trans hfill)
  case hold =>
    refine fun spill s => ⟨fun hempty hwell => ?_, exec_spillHold_of_occupied, fun _ => rfl⟩
    obtain ⟨t, hexec, hreg⟩ := exec_spillHold_of_empty hempty
    have hflag : ∀ g, t.flag (R.SPILL_CTRL spill) g = (s.heldSpill spill).flag (R.SPILL_CTRL spill) g := State.flag_congr hreg
    have hhold : t.flag (R.SPILL_CTRL spill) F.SPILL_CTRL_HOLD = true := (hflag _).trans (State.flag_heldSpill_hold _)
    rw [State.chFaulted, chCtrl_spill] at hwell
    refine ⟨t, hexec, hhold, ?_, State.chState_of_held ?_ ?_⟩
    · rw [State.chEnabled, chCtrl_spill]
      exact (hflag _).trans (State.flag_heldSpill_enable _)
    · rw [State.chFaulted, chCtrl_spill]
      exact (hflag _).trans ((State.flag_heldSpill_fault _).trans hwell)
    · rw [State.chHeld_eq, chCtrl_spill, hhold]
      simp

end Sys2Proof.Machine
end

section
/-!
Coherent requests reach their home (R342, R348, R351, R378).
-/
namespace Sys2Proof.Machine

/-- A request that passes its port, translation and its scheduler runs at its home in the state these leave. -/
theorem State.coherent_of_homeward {s t : State} {op : HomeOp} {code : Nat} {lens : List Nat} {port : Fin 8} {w0 w1 : Word} {payload : List Byte}
    {dt : Nat} {hold : Bool} {r : HomeReq} (h : homeward s op code lens port w0 w1 payload dt hold = some (t, r)) :
    s.coherent op code lens port w0.toNat w1.toNat payload dt hold = t.runHome r := by
  unfold homeward at h
  unfold State.coherent
  dsimp only at h
  generalize s.arrives port w0.toNat w1.toNat payload dt _ = a at h ⊢
  rcases a with ⟨s₁, _ | _⟩
  case false => cases h
  case true =>
    dsimp only at h ⊢
    generalize s₁.access _ _ _ _ _ = x at h ⊢
    rcases x with ⟨s₂, q | f⟩
    case error => cases h
    case ok =>
      dsimp only at h ⊢
      split at h
      case isTrue => cases h
      case isFalse hpass =>
        obtain ⟨hstill, hkey⟩ : s₂.onTheMove f = false ∧ (s₂.slotFull f.tenant = false → op = .wrFull) := by simpa using hpass
        rw [if_neg (by simp [hstill]), if_neg (by simpa using hkey)]
        split at h
        case h_1 t' r' hoffer =>
          cases h
          rw [hoffer]
        case h_2 => cases h

/-- A request that grants joins its endpoint to the basin's sharer set first (R351). -/
theorem State.runHome_of_grants {r : HomeReq} (h : r.op.grants = true) (t : State) : t.runHome r = (t.joinSharers r.basin r.ep).serveHome r := by
  rw [State.runHome, if_pos h]

theorem State.runHome_of_not_grants {r : HomeReq} (h : r.op.grants = false) (t : State) : t.runHome r = t.serveHome r := by
  rw [State.runHome, h, if_neg Bool.false_ne_true]

/-- A WRITEBACK that is well formed and translated is neither coloured nor queued (R342, R376). -/
theorem execWriteback_of_found {port : Fin 8} {w0 w1 : Word} {payload : List Byte} {s t u : State} {f : Found}
    (harrives : s.arrivesQuiet port w0.toNat w1.toNat payload (pkFormed w0.toNat 1 3 (adReserved w1.toNat) payload [64]) = (t, true))
    (hfound : t.access { endpoint := pkEp w0.toNat, srcKind := 0, srcIndex := port } (adAsid w1.toNat) (adVa w1.toNat) 64 true = (u, .ok f)) :
    execWriteback port w0 w1 payload s = .next (u.runHome (homeReq .writeback port w0.toNat w1.toNat f payload)) := by
  simp only [execWriteback, harrives, hfound]

/-- Settles O21: the five requests by `State.coherent_of_homeward`, a WRITEBACK by its own lemma. -/
theorem coherentRequests : Obligations.CoherentRequests := by
  unfold Obligations.CoherentRequests
  refine ⟨fun port w0 w1 payload dt hold s t r => ?requests, fun port w0 w1 payload s f => ?writeback⟩
  case requests =>
    have hgo {op : HomeOp} {code : Nat} {lens : List Nat} (h : homeward s op code lens port w0 w1 payload dt hold = some (t, r)) :
        Host.Outcome.next (s.coherent op code lens port w0.toNat w1.toNat payload dt hold) = (.next (t.runHome r) : Answer) :=
      congrArg _ (State.coherent_of_homeward h)
    refine ⟨hgo, hgo, hgo, hgo, hgo, fun hop => State.runHome_of_grants ?_ t, fun hop => State.runHome_of_not_grants ?_ t⟩
    · rcases hop with h | h | h <;> rw [h] <;> rfl
    · rcases hop with h | h | h <;> rw [h] <;> rfl
  case writeback =>
    intro q x harrives hfound
    have hx : x.2 = .ok f := by
      cases hres : x.2 with
      | error b => rw [hres] at hfound; cases hfound
      | ok g => rw [hres] at hfound; cases hfound; rfl
    exact execWriteback_of_found (Prod.ext rfl harrives) (Prod.ext rfl hx)

end Sys2Proof.Machine
end

section
/-!
Commands that make and remove tenants, endpoints and contexts (R242, R261, R264 to R266, R431).
-/
namespace Sys2Proof.Machine

/-! ### What a change toward the partner and a command's end leave alone (R266, R434, R480) -/

theorem Aside.toPartner {β : Type} {p : State → β} (hp : Aside p) (s : State) (what : String) (args : List Nat) : p (s.toPartner what args) = p s := by
  unfold State.toPartner
  split
  · exact hp.sendTwin _ _ _ _ _
  · rfl

theorem State.xlat_aside : Aside State.xlat where
  setReg _ _ _ _ := rfl
  send _ _ := rfl
  setCore _ _ _ := rfl
  fab _ _ := rfl
  pair _ _ := rfl
  ras _ _ := rfl
  tick _ := rfl

theorem State.jobs_aside : Aside State.jobs where
  setReg _ _ _ _ := rfl
  send _ _ := rfl
  setCore _ _ _ := rfl
  fab _ _ := rfl
  pair _ _ := rfl
  ras _ _ := rfl
  tick _ := rfl

@[simp] theorem State.toPartner_xlat (s : State) (what : String) (args : List Nat) : (s.toPartner what args).xlat = s.xlat :=
  State.xlat_aside.toPartner s what args

@[simp] theorem State.toPartner_jobs (s : State) (what : String) (args : List Nat) : (s.toPartner what args).jobs = s.jobs :=
  State.jobs_aside.toPartner s what args

@[simp] theorem State.toPartner_kv (s : State) (what : String) (args : List Nat) : (s.toPartner what args).kv = s.kv := by
  unfold State.toPartner
  split
  · exact State.sendTwin_kv _ _ _ _ _
  · rfl

@[simp] theorem State.recordChange_xlat (s : State) : s.recordChange.xlat = s.xlat := by
  have hmeas (t : State) (r : Nat → Nat) (b : List Byte) : (t.setMeas r b).xlat = t.xlat := State.setMeas_keeps _ State.setReg_xlat t r b
  rw [State.recordChange, State.extend, State.put_xlat, hmeas, State.tick, hmeas]

/-- A record in the measurements changes registers of the security block alone (R480, R487). -/
theorem State.reg_recordChange_ne (s : State) {o : Nat} (h : o < R.SEC_BASE) : s.recordChange.reg o = s.reg o := by
  have hne (k : Nat) : o ≠ R.SEC_BASE + k := by omega
  have hcmd : o ≠ R.SEC_MEXT_CMD := hne 0x50
  have hdata (w : Nat) : o ≠ R.SEC_MEXT_DATA w := by rw [R.SEC_MEXT_DATA, Nat.add_assoc]; exact hne _
  have hconfig (w : Nat) : o ≠ R.SEC_CONFIG_MEAS w := by rw [R.SEC_CONFIG_MEAS, Nat.add_assoc]; exact hne _
  rw [State.recordChange, State.extend, State.reg_put_ne _ _ _ _ _ hcmd, State.reg_setMeas_ne _ _ _ _ (fun w _ => hconfig w), State.reg_tick,
    State.reg_setMeas_ne _ _ _ _ (fun w _ => hdata w)]

@[simp] theorem State.xlatDone_xlat (s : State) (status res : Nat) : (s.xlatDone status res).xlat = s.xlat :=
  (State.xlat_aside.setErr _ (by decide) (besideChCtrl_low (by decide))).trans rfl

/-- CMD_DONE changes the error register and what its vector's message leaves pending, nothing else of the registers. -/
theorem State.reg_setErr_cmdDone_ne (s : State) {o : Nat} (hpba : o ≠ pbaReg) (herr : o ≠ R.XLAT_ERR) :
    (s.setErr R.XLAT_ERR F.XLAT_ERR_CMD_DONE).reg o = s.reg o := by
  rw [State.setErr_noAlarm _ _ _ _ (alarmOf_eq_none (by decide) _)]
  exact State.setErrOnly_ne _ _ _ _ _ hpba herr

/-- A command's end changes registers of the translation block alone, beside the pending bits of vectors (R264, R266). -/
theorem State.reg_xlatDone_ne (s : State) (status res : Nat) {o : Nat} (hpba : o ≠ pbaReg) (h : R.XLAT_CMDRES < o) :
    (s.xlatDone status res).reg o = s.reg o := by
  have hcmd : o ≠ R.XLAT_CMD := (lt_trans (by decide) h).ne'
  have herr : o ≠ R.XLAT_ERR := (lt_trans (by decide) h).ne'
  rw [State.xlatDone, State.reg_setErr_cmdDone_ne _ hpba herr, State.reg_setReg_ne _ _ _ _ h.ne', State.reg_putFlag_ne _ _ _ _ _ hcmd,
    State.reg_put_ne _ _ _ _ _ hcmd]

/-- STATUS reads back what the command ended with. -/
theorem State.status_xlatDone (s : State) (status res : Nat) : (s.xlatDone status res).get R.XLAT_CMD F.XLAT_CMD_STATUS = status % 16 := by
  rw [State.xlatDone, State.get, State.reg_setErr_cmdDone_ne _ (by decide) (by decide), ← State.get, State.get_setReg_ne _ _ _ _ _ (by decide), State.putFlag,
    State.get_put_disjoint _ _ _ _ _ (by decide) (by decide), State.get_put_same _ _ _ _ (by decide)]
  rfl

/-! ### Bits of a register and of an argument -/

theorem bitOf_eq_testBit (v i : Nat) : bitOf v i = v.testBit i := by
  rw [bitOf, Nat.testBit_eq_decide_div_mod_eq]
  rfl

/-- A bit of a register taken out of it reads 0. -/
theorem bitOf_and_without (v : BitVec 64) {i : Nat} (hi : i < 64) : bitOf (v &&& BitVec.ofNat 64 (2 ^ 64 - 1 - 2 ^ i)).toNat i = false := by
  have hbit : 2 ^ i < 2 ^ 64 := Nat.pow_lt_pow_right (by decide) hi
  have hmask : (BitVec.ofNat 64 (2 ^ 64 - 1 - 2 ^ i)).toNat = 2 ^ 64 - (2 ^ i + 1) := by
    rw [BitVec.toNat_ofNat, Nat.sub_sub, Nat.add_comm 1, Nat.mod_eq_of_lt (Nat.sub_lt (Nat.two_pow_pos 64) (Nat.succ_pos _))]
  rw [bitOf_eq_testBit, BitVec.toNat_and, hmask, Nat.testBit_and, Nat.testBit_two_pow_sub_succ hbit, Nat.testBit_two_pow_self, Bool.not_true, Bool.and_false,
    Bool.and_false]

/-- The bits of a number from bit k up to bit n are 0 where it is below 2^k. -/
theorem land_high_eq_zero_iff {a n k : Nat} (ha : a < 2 ^ n) (hk : k ≤ n) : a &&& (2 ^ n - 1 - (2 ^ k - 1)) = 0 ↔ a < 2 ^ k := by
  have hmask : 2 ^ n - 1 - (2 ^ k - 1) = 2 ^ n - (2 ^ k - 1 + 1) := by omega
  have hlow : 2 ^ k - 1 < 2 ^ n := (Nat.sub_lt (Nat.two_pow_pos k) one_pos).trans_le (Nat.pow_le_pow_right (by decide) hk)
  have habove {m i : Nat} (h : a < 2 ^ m) (hi : m ≤ i) : a.testBit i = false :=
    Nat.testBit_lt_two_pow (h.trans_le (Nat.pow_le_pow_right (by decide) hi))
  have hbit (i : Nat) : (a &&& (2 ^ n - 1 - (2 ^ k - 1))).testBit i = (a.testBit i && (decide (i < n) && !decide (i < k))) := by
    rw [hmask, Nat.testBit_and, Nat.testBit_two_pow_sub_succ hlow, Nat.testBit_two_pow_sub_one]
  refine ⟨fun h => Nat.lt_pow_two_of_testBit a fun i hi => ?_, fun h => Nat.eq_of_testBit_eq fun i => ?_⟩
  · rcases lt_or_ge i n with hin | hin
    · simpa [h, hin, Nat.not_lt.mpr hi] using (hbit i).symm
    · exact habove ha hin
  · rw [hbit, Nat.zero_testBit]
    rcases lt_or_ge i k with hi | hi
    · simp [hi]
    · rw [habove h hi, Bool.false_and]

/-! ### A command that is run (R264, R265, R431) -/

theorem cmdReady_iff {s : State} {fields : Nat} : cmdReady s fields = true ↔
    s.flag R.XLAT_CMD F.XLAT_CMD_BUSY = false ∧ s.arg 0 &&& (2 ^ 64 - 1 - fields) = 0 ∧ s.arg 1 = 0 ∧ s.arg 2 = 0 := by
  simp [cmdReady, and_assoc]

theorem State.xlatCmd_of_ready {s : State} {fields : Nat} (h : cmdReady s fields = true) (f : State → State) : s.xlatCmd fields f = f s := by
  obtain ⟨hidle, harg0, harg1, harg2⟩ := cmdReady_iff.mp h
  rw [State.xlatCmd, hidle, if_neg Bool.false_ne_true, if_neg (by simp only [harg0, harg1, harg2, ne_eq, not_true_eq_false, or_self, not_false_iff])]

theorem State.xlatCmd_of_busy {s : State} (h : s.flag R.XLAT_CMD F.XLAT_CMD_BUSY = true) (fields : Nat) (f : State → State) : s.xlatCmd fields f = s :=
  if_pos h

/-- While the pair is not formed, or the partner refuses nothing, the change is made here and sent. -/
theorem State.withPartner_of_accepted {s : State} {partner : Nat} (h : s.formed = false ∨ partner = 0) (what : String) (args : List Nat)
    (f : State → State) : s.withPartner partner what args f = f (s.toPartner what args) :=
  if_neg (by rcases h with h | h <;> simp [h])

theorem State.arg_lt (s : State) (i : Nat) : s.arg i < 2 ^ 64 := BitVec.isLt _

/-- A command with the further argument bit FORCE is ready too where it is 0 (R265). -/
theorem cmdReady_unforced {s : State} {k : Nat} (hk : k ≤ 63) (h : cmdReady s (2 ^ k - 1) = true) :
    cmdReady s (2 ^ k - 1 + 2 ^ 63) = true ∧ bitOf (s.arg 0) 63 = false := by
  obtain ⟨hidle, harg0, harg1, harg2⟩ := cmdReady_iff.mp h
  have hlow : s.arg 0 < 2 ^ k := (land_high_eq_zero_iff (s.arg_lt 0) (by omega)).mp harg0
  have htop : s.arg 0 < 2 ^ 63 := hlow.trans_le (Nat.pow_le_pow_right (by decide) hk)
  have hfields : 2 ^ 64 - 1 - (2 ^ k - 1 + 2 ^ 63) = 2 ^ 63 - 1 - (2 ^ k - 1) := by omega
  refine ⟨cmdReady_iff.mpr ⟨hidle, ?_, harg1, harg2⟩, by rw [bitOf, Nat.div_eq_of_lt htop]; rfl⟩
  rw [hfields]
  exact (land_high_eq_zero_iff htop hk).mpr hlow

/-! ### Work that waits for an invalidation (R253, R256, R265) -/

/-- What a sent invalidation leaves alone, beside the caches and the list of those in flight. -/
theorem State.startInv_keeps {β : Type} (p : State → β)
    (hcaches : ∀ (t : State) (c : Tbl (List XEnt)), p { t with xlat := { t.xlat with caches := c } } = p t)
    (hinvs : ∀ (t : State) (l : List Inv) (n : Nat), p { t with xlat := { t.xlat with invs := l, nextInv := n } } = p t)
    (s : State) (stage space lo len : Nat) (w : InvWaiter) (before : List Pending) (change : Option Nat) :
    p (s.startInv stage space lo len w before change) = p s :=
  (hinvs _ _ _).trans (foldl_keeps p _ s fun _ _ _ => hcaches _ _)

section Begun
variable (s : State) (a : Nat)

@[simp] theorem State.beginContext_regs : (s.beginContext a).regs = s.regs :=
  State.startInv_keeps State.regs (fun _ _ => rfl) (fun _ _ _ => rfl) _ _ _ _ _ _ _ _

@[simp] theorem State.beginContext_waiting : (s.beginContext a).xlat.waiting = s.xlat.waiting :=
  State.startInv_keeps (fun t => t.xlat.waiting) (fun _ _ => rfl) (fun _ _ _ => rfl) _ _ _ _ _ _ _ _

theorem State.s1_beginContext : (s.beginContext a).xlat.s1 = s.xlat.s1.filter (fun e => e.asid != a) :=
  State.startInv_keeps (fun t => t.xlat.s1) (fun _ _ => rfl) (fun _ _ _ => rfl) _ _ _ _ _ _ _ _

theorem State.cmdRes_beginContext : (s.beginContext a).xlat.cmdRes = (s.xlat.s1.filter (fun e => e.asid == a)).length :=
  State.startInv_keeps (fun t => t.xlat.cmdRes) (fun _ _ => rfl) (fun _ _ _ => rfl) _ _ _ _ _ _ _ _

theorem State.contextOf_beginContext : (s.beginContext a).contextOf a = none := by
  have hcontexts : (s.beginContext a).xlat.contexts = Tbl.set (fun _ => none) s.xlat.contexts a none :=
    State.startInv_keeps (fun t => t.xlat.contexts) (fun _ _ => rfl) (fun _ _ _ => rfl) _ _ _ _ _ _ _ _
  rw [State.contextOf, hcontexts, Tbl.get_set_same]

end Begun

/-- With nothing waiting, no work begins. -/
theorem State.pumpInvs_of_idle {s : State} (h : s.xlat.waiting = []) (n : Nat) : s.pumpInvs n = s := by
  cases n with
  | zero => rfl
  | succ n => simp [State.pumpInvs, h]

/-- With sixteen invalidations in flight, no work begins. -/
theorem State.pumpInvs_of_full {s : State} (h : 16 ≤ s.xlat.invs.length) (n : Nat) : s.pumpInvs n = s := by
  cases n with
  | zero => rfl
  | succ n => exact if_pos h

/-- A command's own work may always begin. -/
def InvWork.ofCommand : InvWork → Bool
  | .sync _ => false
  | _ => true

theorem State.workReady_of_command (s : State) (q : List InvWork) (i : Nat) {w : InvWork} (h : w.ofCommand = true) : s.workReady q i w = true := by
  cases w with
  | sync r => cases h
  | context a => rfl
  | destroy id => rfl

/-- The state with a queue of its own, and no command before the queue. -/
def State.withQueue (s : State) (l : List InvWork) : State := { s with xlat := { s.xlat with waiting := l, cmdWait := none } }

/-- The only work that waits begins, where a place is free. -/
theorem State.pumpInvs_withQueue_one {s : State} {w : InvWork} (hw : w.ofCommand = true) (hroom : s.xlat.invs.length < 16) (n : Nat) :
    (s.withQueue [w]).pumpInvs (n + 1) = ((s.withQueue []).beginWork w).pumpInvs n := by
  have hgo : ¬ 16 ≤ (s.withQueue [w]).xlat.invs.length := Nat.not_le.mpr hroom
  rw [State.pumpInvs, if_neg hgo]
  simp [State.withQueue, List.range_succ, State.workReady_of_command _ _ _ hw]

/-- With nothing waiting and a place in flight, a command's work begins at once. -/
theorem State.pumpWork_joinInvs_of_free {s : State} {w : InvWork} (hw : w.ofCommand = true) (hwait : s.xlat.waiting = []) (hcmd : s.xlat.cmdWait = none)
    (hroom : s.xlat.invs.length < 16) : (s.joinInvs w).pumpWork = (s.beginWork w).pumpInvs 65 := by
  have hjoin : s.joinInvs w = s.withQueue [w] := by simp [State.joinInvs, State.withQueue, hwait, ← hcmd]
  have hself : s.withQueue [] = s := by rw [State.withQueue, ← hwait, ← hcmd]
  rw [hjoin, State.pumpWork, State.pumpInvs_withQueue_one hw hroom, hself]

/-- BUSY stands in every state that has the registers of a command's start. -/
theorem State.busy_of_regs {s t : State} (h : t.regs = (s.putFlag R.XLAT_CMD F.XLAT_CMD_BUSY true).regs) : t.flag R.XLAT_CMD F.XLAT_CMD_BUSY = true := by
  rw [State.flag, State.get, State.reg, h]
  exact State.flag_putFlag_same s _ _ true (by decide) rfl

/-- A command's work that begins at once: BUSY is set, and the work begins (R256, R264). -/
theorem State.commandWork_of_free {s : State} {w : InvWork} (hw : w.ofCommand = true) (hwait : s.xlat.waiting = []) (hcmd : s.xlat.cmdWait = none)
    (hroom : s.xlat.invs.length < 16) : s.commandWork w = ((s.putFlag R.XLAT_CMD F.XLAT_CMD_BUSY true).beginWork w).pumpInvs 65 :=
  State.pumpWork_joinInvs_of_free hw hwait hcmd hroom

/-- With sixteen invalidations in flight, a command's work waits. -/
theorem State.commandWork_of_full {s : State} (w : InvWork) (h : 16 ≤ s.xlat.invs.length) :
    s.commandWork w = (s.putFlag R.XLAT_CMD F.XLAT_CMD_BUSY true).joinInvs w := by
  refine State.pumpInvs_of_full ?_ 66
  unfold State.joinInvs
  split <;> exact h

/-! ### The commands (R265) -/

section Commands
variable {s : State} {partner : Fin 10}

/-- ENDPOINT_UNBIND of a bound endpoint that holds nothing: its DIR_DEAD bit clears, its binding goes. -/
def State.unbound (s : State) (e : Nat) : State :=
  let off := R.DIR_DEAD (e / 64)
  let t := s.setReg off (s.reg off &&& BitVec.ofNat 64 (2 ^ 64 - 1 - 2 ^ (e % 64)))
  { t with xlat := { t.xlat with bound := Tbl.set (fun _ => none) t.xlat.bound e none } }

theorem State.boundTo_unbound (e k : Nat) : (s.unbound e).boundTo k = if k = e then none else s.boundTo k := by
  have hbound : (s.unbound e).xlat.bound = Tbl.set (fun _ => none) s.xlat.bound e none := rfl
  rw [State.boundTo, hbound, Tbl.get_set, State.boundTo]

theorem State.isDead_unbound (e : Nat) : (s.unbound e).isDead e = false := by
  have hreg : (s.unbound e).reg (R.DIR_DEAD (e / 64)) = s.reg (R.DIR_DEAD (e / 64)) &&& BitVec.ofNat 64 (2 ^ 64 - 1 - 2 ^ (e % 64)) :=
    State.reg_setReg_same _ _ _
  rw [State.isDead, hreg, bitOf_and_without _ (Nat.mod_lt _ (by decide))]

theorem State.boundTo_congr {s t : State} (h : s.xlat = t.xlat) {k : Nat} : s.boundTo k = t.boundTo k := by rw [State.boundTo, h, State.boundTo]

/-- What a command's end and the record of a change leave of the tables and of the dead endpoints (R266, R480). -/
theorem State.boundTo_recorded (t : State) (k : Nat) : (t.recordChange.xlatDone xsOk 0).boundTo k = t.boundTo k := by
  rw [State.boundTo_congr ((State.xlatDone_xlat _ _ _).trans (State.recordChange_xlat _))]

theorem State.isDead_recorded (t : State) {e : Nat} (he : e < 4096) : (t.recordChange.xlatDone xsOk 0).isDead e = t.isDead e := by
  have hlow : R.XLAT_CMDRES < R.DIR_DEAD (e / 64) := by
    simp only [R.XLAT_CMDRES, R.XLAT_BASE, R.DIR_DEAD, R.DIR_BASE]
    omega
  have hhigh : R.DIR_DEAD (e / 64) < R.SEC_BASE := by
    simp only [R.SEC_BASE, R.DIR_DEAD, R.DIR_BASE]
    omega
  have hpba : R.DIR_DEAD (e / 64) ≠ pbaReg := (lt_trans (by decide) hlow).ne'
  rw [State.isDead, State.reg_xlatDone_ne _ _ _ hpba hlow, State.reg_recordChange_ne _ hhigh, State.isDead]

/-- ENDPOINT_UNBIND without FORCE of a bound endpoint that holds nothing (R265, R362). -/
theorem exec_endpointUnbind_of_free {e : Nat} (he : bitsOf (s.arg 0) 0 12 = e) (hready : cmdReady s (2 ^ 12 - 1) = true)
    (hok : s.formed = false ∨ partner.val = 0) (hbound : (s.boundTo e).isSome = true) (hfree : s.endpointHolds e = false) :
    exec (.endpointUnbind partner) s = .next (((s.toPartner "ENDPOINT_UNBIND" [e]).unbound e).recordChange.xlatDone xsOk 0) := by
  subst he
  obtain ⟨hforced, hforce⟩ := cmdReady_unforced (by decide) hready
  have hexec : exec (.endpointUnbind partner) s = .next _ := congrArg Host.Outcome.next (State.xlatCmd_of_ready hforced _)
  dsimp only at hexec
  rw [hexec, Option.isNone_eq_false_iff.mpr hbound, if_neg Bool.false_ne_true, hforce, hfree, if_neg (by decide),
    State.withPartner_of_accepted hok, if_neg Bool.false_ne_true]
  rfl

theorem exec_endpointUnbind_of_holding {e : Nat} (he : bitsOf (s.arg 0) 0 12 = e) (hready : cmdReady s (2 ^ 12 - 1) = true)
    (hbound : (s.boundTo e).isSome = true) (hholds : s.endpointHolds e = true) : exec (.endpointUnbind partner) s = .next (s.xlatFail xsBusy) := by
  subst he
  obtain ⟨hforced, hforce⟩ := cmdReady_unforced (by decide) hready
  have hexec : exec (.endpointUnbind partner) s = .next _ := congrArg Host.Outcome.next (State.xlatCmd_of_ready hforced _)
  dsimp only at hexec
  rw [hexec, Option.isNone_eq_false_iff.mpr hbound, if_neg Bool.false_ne_true, hforce, hholds, if_pos (by decide)]

/-- CONTEXT_DESTROY of an ASID in use is work that waits for an invalidation (R265). -/
theorem exec_contextDestroy {a : Nat} (ha : bitsOf (s.arg 0) 0 16 = a) (hready : cmdReady s (2 ^ 16 - 1) = true)
    (hok : s.formed = false ∨ partner.val = 0) (hold : (s.contextOf a).isSome = true) :
    exec (.contextDestroy partner) s = .next ((s.toPartner "CONTEXT_DESTROY" [a]).commandWork (.context a)) := by
  subst ha
  have hexec : exec (.contextDestroy partner) s = .next _ := congrArg Host.Outcome.next (State.xlatCmd_of_ready hready _)
  dsimp only at hexec
  rw [hexec, Option.isNone_eq_false_iff.mpr hold, if_neg Bool.false_ne_true, State.withPartner_of_accepted hok]

/-- CONTEXT_DESTROY begins at once where nothing waits and a place is free. -/
theorem State.commandWork_context_of_free (a : Nat) (hwait : s.xlat.waiting = []) (hcmd : s.xlat.cmdWait = none) (hroom : s.xlat.invs.length < 16) :
    s.commandWork (.context a) = (s.putFlag R.XLAT_CMD F.XLAT_CMD_BUSY true).beginContext a := by
  have hbegun : ((s.putFlag R.XLAT_CMD F.XLAT_CMD_BUSY true).beginContext a).xlat.waiting = [] := (State.beginContext_waiting _ _).trans hwait
  rw [State.commandWork_of_free rfl hwait hcmd hroom]
  exact State.pumpInvs_of_idle hbegun 65

end Commands

/-- Settles O47: each command by its checks in turn, what waits for an invalidation by `State.commandWork_of_free` and `State.commandWork_of_full`. -/
theorem tenantsEndpointsContexts : Obligations.TenantsEndpointsContexts := by
  unfold Obligations.TenantsEndpointsContexts
  refine ⟨?tenantCreate, fun partner s hbusy => congrArg Host.Outcome.next (State.xlatCmd_of_busy hbusy _ _), ?tenantDestroy, ?endpointBind, ?endpointUnbind,
    ?contextCreate, ?contextDestroy, fun head s => ⟨fun hle => if_neg (Nat.not_lt.mpr hle), fun hlt => if_pos hlt⟩⟩
  case tenantCreate =>
    intro partner s hready hok
    have hexec : exec (.tenantCreate partner) s = .next _ := congrArg Host.Outcome.next (State.xlatCmd_of_ready hready _)
    dsimp only at hexec ⊢
    rw [hexec]
    refine ⟨fun hlo hhi hnew hkey => ?_, fun hzero => ?_, fun hlo hhi hold => ?_, fun hlo hhi hnew hkey => ?_⟩
    · rw [if_neg (by omega), if_neg (by simp [hnew]), if_neg (by simp [hkey]), State.withPartner_of_accepted hok]
      rfl
    · rw [if_pos (.inl hzero)]
      rfl
    · rw [if_neg (by omega), if_pos hold]
      rfl
    · rw [if_neg (by omega), if_neg (by simp [hnew]), if_pos (by simp [hkey])]
      rfl
  case tenantDestroy =>
    intro partner s hready hok
    have hexec : exec (.tenantDestroy partner) s = .next _ := congrArg Host.Outcome.next (State.xlatCmd_of_ready hready _)
    dsimp only at hexec ⊢
    intro hold
    rw [hexec, Option.isNone_eq_false_iff.mpr hold, if_neg Bool.false_ne_true]
    refine ⟨fun hfree => ?_, fun hused => ?_⟩
    · rw [hfree, if_neg Bool.false_ne_true, State.withPartner_of_accepted hok]
      rfl
    · rw [if_pos hused]
      rfl
  case endpointBind =>
    intro partner s hready hok
    have hexec : exec (.endpointBind partner) s = .next _ := congrArg Host.Outcome.next (State.xlatCmd_of_ready hready _)
    dsimp only at hexec ⊢
    intro hold hfree
    rw [hexec, Option.isNone_eq_false_iff.mpr hold, if_neg Bool.false_ne_true, if_neg (by simp [hfree]), State.withPartner_of_accepted hok]
    rfl
  case endpointUnbind =>
    intro partner s hready hok e hbound
    refine ⟨fun hfree => ?_, exec_endpointUnbind_of_holding rfl hready hbound⟩
    have he : e < 4096 := bitsOf_lt _ _ 12
    refine ⟨_, exec_endpointUnbind_of_free rfl hready hok hbound hfree, ?_, ?_, fun k hk => ?_, State.status_xlatDone _ _ _⟩
    · rw [State.boundTo_recorded, State.boundTo_unbound, if_pos rfl]
    · rw [State.isDead_recorded _ he, State.isDead_unbound]
    · rw [State.boundTo_recorded, State.boundTo_unbound, if_neg hk, State.boundTo_congr (State.toPartner_xlat _ _ _)]
  case contextCreate =>
    intro partner s hready hok
    have hexec : exec (.contextCreate partner) s = .next _ := congrArg Host.Outcome.next (State.xlatCmd_of_ready hready _)
    dsimp only at hexec ⊢
    intro hold hfree
    rw [hexec, Option.isNone_eq_false_iff.mpr hold, if_neg Bool.false_ne_true, if_neg (by simp [hfree]), State.withPartner_of_accepted hok]
    rfl
  case contextDestroy =>
    intro partner s hready hok a u hold
    have hx : u.xlat = s.xlat := State.toPartner_xlat _ _ _
    rw [exec_contextDestroy rfl hready hok hold, ← hx]
    exact ⟨fun hwait hcmd hroom => ⟨congrArg Host.Outcome.next (State.commandWork_context_of_free a hwait hcmd hroom), State.contextOf_beginContext _ _,
      State.s1_beginContext _ _, State.busy_of_regs (State.beginContext_regs _ _), State.cmdRes_beginContext _ _⟩,
      fun hfull => congrArg Host.Outcome.next (State.commandWork_of_full _ hfull)⟩

end Sys2Proof.Machine
end

section
/-!
Basins, syncs and invalidations (R244, R246, R250 to R256, R595).
-/
namespace Sys2Proof.Machine

/-! ### Basins, and what lives in them, after a change toward the partner (R431) -/

theorem State.basin_setBasin_same (s : State) (id : Nat) (x : Option Basin) : (s.setBasin id x).basin id = x := by
  rw [State.basin, State.setBasin, Tbl.get_set_same]

section Partner
variable (s : State) (what : String) (args : List Nat)

@[simp] theorem State.basin_toPartner (id : Nat) : (s.toPartner what args).basin id = s.basin id := by
  rw [State.basin, State.toPartner_xlat, State.basin]

@[simp] theorem State.seqsIn_toPartner (id : Nat) : (s.toPartner what args).seqsIn id = s.seqsIn id := by
  rw [State.seqsIn, State.toPartner_kv, State.seqsIn]

@[simp] theorem State.versionsIn_toPartner (id : Nat) : (s.toPartner what args).versionsIn id = s.versionsIn id := by
  rw [State.versionsIn, State.toPartner_kv, State.versionsIn]

@[simp] theorem State.inFlight_toPartner : (s.toPartner what args).inFlight = s.inFlight := by
  rw [State.inFlight, State.toPartner_jobs, State.inFlight]

end Partner

/-! ### BASIN_CREATE (R244, R595) -/

/-- The basin that BASIN_CREATE makes of its arguments and the runs reserved for its parts (R244). -/
def BasinArgs.making (a : BasinArgs) (m k f : List Run) (shadow : List Nat) : Basin :=
  let two (l : List Run) (n : Nat) : List Run := if a.kind = 2 then shadowOf l (shadow.drop n) else []
  { tenant := a.tenant, kind := a.kind, pattern := a.real, quad := a.quad, tpa := a.tpa, size := a.size, pool := a.pool, spill := a.spill,
    mapped := m, poolRuns := k, spillRuns := f, shadowMapped := two m 0, shadowPool := two k m.length, shadowSpill := two f (m.length + k.length),
    closing := false, destroyed := false, waitJobs := [], shadowHere := false, takenOver := false, moving := false, making := true }

section Create
variable {s : State} {a : BasinArgs} {m k f : List Run} {id : Nat}

/-- A BASIN_CREATE that passes checks 2 to 8 of R595, with no refusal of the partner. -/
theorem State.basinCreate_of_passing (shadow : List Nat) (htenant : (s.tenantOf a.tenant).isSome = true) (hclear : s.overlaps a = false)
    (hcount : s.basins.length < 1024) (hshare : s.formed = false ∨ (s.basins.filter (fun e => !e.2.shadowHere)).length < 512)
    (hpair : a.kind = 2 → s.formed = true) (hm : s.reserve s.allRuns a.real a.quad a.tpa a.size = some m)
    (hk : s.reserve (s.allRuns ++ m) a.real a.quad 0 a.pool = some k) (hf : s.reserve (s.allRuns ++ m ++ k) 4 0 0 a.spill = some f)
    (hentries : s.s2Used + s.entriesOf m ≤ 65536) (hid : s.freeBasin = some id) :
    s.basinCreate a 0 shadow = (((s.putFlag R.XLAT_CMD F.XLAT_CMD_BUSY true).toPartner "BASIN_CREATE" [id, a.tenant, a.kind]).setBasin id
      (some (a.making m k f shadow))).fillRuns id a.tenant (m ++ k ++ f) := by
  have hlimit : ¬ (1024 ≤ s.basins.length ∨ (s.formed = true ∧ 512 ≤ (s.basins.filter (fun e => !e.2.shadowHere)).length)) := by
    rintro (h | ⟨hformed, h⟩)
    · exact Nat.not_le.mpr hcount h
    · rcases hshare with h' | h'
      · exact Bool.false_ne_true (h'.symm.trans hformed)
      · exact Nat.not_le.mpr h' h
  unfold State.basinCreate
  dsimp only
  rw [Option.isNone_eq_false_iff.mpr htenant, hclear, if_neg Bool.false_ne_true, if_neg (by simp [xsOverlap]), if_neg hlimit,
    if_neg (by simpa [xsPartner] using hpair), if_neg (by simp [xsKeyAbsent]), hm]
  dsimp only
  rw [hk]
  dsimp only
  rw [hf]
  dsimp only
  rw [if_neg (Nat.not_lt.mpr hentries), if_neg (by simp), hid]
  simp [BasinArgs.making]

theorem exec_basinCreate_of_formed {partner : Fin 10} {shadow : List Nat} (hidle : s.flag R.XLAT_CMD F.XLAT_CMD_BUSY = false)
    (hlock : s.flag R.XLAT_CFG F.XLAT_CFG_LOCK = true) (hok : s.basinArgs.ok s.unitBytes = true) :
    exec (.basinCreate partner shadow) s = .next (s.basinCreate s.basinArgs partner shadow) := by
  show execBasinCreate partner shadow s = _
  rw [execBasinCreate, hidle, if_neg Bool.false_ne_true]
  dsimp only
  rw [hlock, hok, if_neg (by decide)]

end Create

/-- With no fill of a basin in the making left, the only basin is made, and its BASIN_CREATE completes (R244). -/
theorem State.settleBasins_of_filled {s : State} {id : Nat} {b : Basin} (hone : s.basins = [(id, b)]) (hmaking : b.making = true)
    (hfills : s.xlat.fills.any (fun f => f.basin == id) = false) (hchans : s.chans.any (fun c => c.2.fill.elim false (fun j => j.basin == some id)) = false)
    (hshadow : b.shadowHere = false) : s.settleBasins = (s.setBasin id (some { b with making := false })).recordChange.xlatDone 0 id := by
  rw [State.settleBasins, hone, List.foldl_cons, List.foldl_nil]
  simp [hmaking, hfills, hchans, hshadow]

/-! ### BASIN_DESTROY and BASIN_UNITS_FREE (R246) -/

section Destroy
variable {s : State} {id : Nat} {b : Basin}

/-- A basin with nothing open in it closes: the jobs in flight are remembered (R246), and what an L2 reset would give back (R270). -/
def State.closed (s : State) (id : Nat) (b : Basin) : State :=
  let t := s.setBasin id (some { b with closing := true, waitJobs := s.inFlight })
  { t with xlat := { t.xlat with cmdRes := 0, undo := s.basinUndo id } }

/-- The destruction of a basin with nothing open in it begins: it closes, and its stage-2 entries are invalidated. -/
theorem State.beginDestroy_of_empty (hbasin : s.basin id = some b) (hseqs : s.seqsIn id = []) (hversions : s.versionsIn id = []) :
    s.beginDestroy id = (s.closed id b).startInv 2 b.tenant b.tpa b.size .command (s.affected 2 b.tenant b.tpa b.size) := by
  rw [State.beginDestroy, hbasin]
  dsimp only
  rw [hseqs, List.foldl_nil, hversions, List.foldl_nil]
  rfl

theorem State.beginDestroy_shows (hbasin : s.basin id = some b) (hseqs : s.seqsIn id = []) (hversions : s.versionsIn id = []) :
    (s.beginDestroy id).basin id = some { b with closing := true, waitJobs := s.inFlight } ∧ (s.beginDestroy id).xlat.waiting = s.xlat.waiting ∧
      (s.beginDestroy id).regs = s.regs := by
  have hclosed : (s.closed id b).basin id = some { b with closing := true, waitJobs := s.inFlight } :=
    State.basin_setBasin_same s id (some { b with closing := true, waitJobs := s.inFlight })
  rw [State.beginDestroy_of_empty hbasin hseqs hversions]
  exact ⟨(State.startInv_keeps (fun t => t.basin id) (fun _ _ => rfl) (fun _ _ _ => rfl) _ _ _ _ _ _ _ _).trans hclosed,
    State.startInv_keeps (fun t => t.xlat.waiting) (fun _ _ => rfl) (fun _ _ _ => rfl) _ _ _ _ _ _ _ _,
    State.startInv_keeps State.regs (fun _ _ => rfl) (fun _ _ _ => rfl) _ _ _ _ _ _ _ _⟩

variable {partner : Fin 10} (hid : bitsOf (s.arg 0) 0 10 = id) (hready : cmdReady s (2 ^ 10 - 1) = true) (hbasin : s.basin id = some b)
  (hlives : b.destroyed = false) (hopen : b.closing = false) (hserved : b.servedHere = true)
include hid hready hbasin hlives hopen hserved

/-- BASIN_DESTROY without FORCE of a basin with nothing open in it is work that waits for an invalidation. -/
theorem exec_basinDestroy_of_empty (hok : s.formed = false ∨ partner.val = 0) (hseqs : s.seqsIn id = []) (hversions : s.versionsIn id = []) :
    exec (.basinDestroy partner) s = .next ((s.toPartner "BASIN_DESTROY" [id]).commandWork (.destroy id)) := by
  subst hid
  obtain ⟨hforced, hforce⟩ := cmdReady_unforced (by decide) hready
  have hexec : exec (.basinDestroy partner) s = .next _ := congrArg Host.Outcome.next (State.xlatCmd_of_ready hforced _)
  dsimp only at hexec
  rw [hexec, hbasin]
  dsimp only
  rw [if_neg (by simp [hlives, hopen, hserved]), hseqs, hversions, if_neg (by simp), State.withPartner_of_accepted hok]

theorem exec_basinDestroy_of_open (hseqs : s.seqsIn id ≠ []) : exec (.basinDestroy partner) s = .next (s.xlatFail xsBusy) := by
  subst hid
  obtain ⟨hforced, hforce⟩ := cmdReady_unforced (by decide) hready
  have hexec : exec (.basinDestroy partner) s = .next _ := congrArg Host.Outcome.next (State.xlatCmd_of_ready hforced _)
  dsimp only at hexec
  rw [hexec, hbasin]
  dsimp only
  rw [if_neg (by simp [hlives, hopen, hserved]), hforce, if_pos (by simp [hseqs])]

end Destroy

/-- BASIN_DESTROY begins at once where nothing waits, a place is free and nothing is open in the basin: it closes, and BUSY stands. -/
theorem State.commandWork_destroy_of_free {s : State} {id : Nat} {b : Basin} (hbasin : s.basin id = some b) (hseqs : s.seqsIn id = [])
    (hversions : s.versionsIn id = []) (hwait : s.xlat.waiting = []) (hcmd : s.xlat.cmdWait = none) (hroom : s.xlat.invs.length < 16) :
    (s.commandWork (.destroy id)).basin id = some { b with closing := true, waitJobs := s.inFlight } ∧
      (s.commandWork (.destroy id)).flag R.XLAT_CMD F.XLAT_CMD_BUSY = true := by
  obtain ⟨hclosed, hidle, hregs⟩ := State.beginDestroy_shows (s := s.putFlag R.XLAT_CMD F.XLAT_CMD_BUSY true) hbasin hseqs hversions
  rw [State.commandWork_of_free rfl hwait hcmd hroom, State.beginWork, State.pumpInvs_of_idle (hidle.trans hwait)]
  exact ⟨hclosed, State.busy_of_regs hregs⟩

/-- The state once a destroyed basin's identity, blocks and sequences are free (R246). -/
def State.freed (s : State) (id : Nat) (b : Basin) : State :=
  let k := s.kv
  let ours (x : Nat × Option Seq) : Bool := x.2.elim false (fun q => q.basin == id)
  State.setBasin { s with kv := { k with
    blks := k.blks.filter (fun x => !(x.2.elim false (fun y => y.basin == id)))
    seqs := k.seqs.filter (fun x => !ours x)
    gens := (k.seqs.filter ours).foldl (fun g x => Tbl.upd (fun _ => 0) g x.1 (fun n => (n + 1) % 2 ^ 14)) k.gens
    old := k.old.filter (fun o => !b.holds s.unitBytes o.pa)
    moves := k.moves.filter (fun m => !b.holds s.unitBytes m.dst) } } id none

theorem exec_basinUnitsFree_of_done {s : State} {basin : BitVec 10} {b : Basin} (hbasin : s.basin basin.toNat = some b) (hgone : b.destroyed = true)
    (hdone : s.allDone b.waitJobs = true) : exec (.basinUnitsFree basin) s = .next (s.freed basin.toNat b) := by
  show execBasinUnitsFree basin s = _
  rw [execBasinUnitsFree, hbasin]
  dsimp only
  rw [if_neg (by simp [hgone, hdone])]
  simp only [Bool.not_not]
  rfl

/-! ### TABLE_SYNC (R250 to R253) -/

/-- The packets of a sync have its class, OP and lengths, and are complete and in order (R250, R309). -/
def syncFormed (w0 w1 : Nat) (lines : List Byte) : Bool :=
  pkClass w0 == 4 && pkOp w0 == 7 && pkLen16 w0 == 4 && ptReserved w1 == 0 && ptSeq w1 == 0 && lines.length == 64 * ptTotal w1 && ptTotal w1 ≤ 64

/-- A tenant whose driver is an endpoint (R252). -/
def State.drivenBy (s : State) (ep t : Nat) : Bool := (s.tenantOf t).elim false (fun x => x.driver == ep)

/-- A sync that its port admits: refused by checks 1 and 2 of R252, or served at once at an idle port. -/
theorem exec_tableSync_of_admitted {port : Fin 8} {w0 w1 : Word} {lines : List Byte} {dt k ep : Nat} {s u : State} {r : SyncReq}
    (hk : ptTotal w1.toNat = k) (hep : pkEp w0.toNat = ep) (hr : syncReq ep (pkTxn w0.toNat) k lines = r)
    (harrives : (s.takeSync port w0.toNat w1.toNat lines k).arrives port w0.toNat w1.toNat (lines.take 64) dt
      (syncFormed w0.toNat w1.toNat lines) = (u, true)) :
    (u.xlat.tenants.any (fun e => u.drivenBy ep e.1) = false →
      exec (.tableSync port w0 w1 lines dt false) s = .next (u.answerSync ep r.tid r.tag .denied)) ∧
    (u.xlat.tenants.any (fun e => u.drivenBy ep e.1) = true → u.contextOf r.asid = none →
      exec (.tableSync port w0 w1 lines dt false) s = .next (u.answerSync ep r.tid r.tag .context)) ∧
    (∀ c v t i, u.xlat.tenants.any (fun e => u.drivenBy ep e.1) = true → u.contextOf r.asid = some t → u.drivenBy ep t = true →
      u.colour port t (u.epClass ep) k false = (c, .queued) → c.portIdle port = true →
      (c.putItem port t (c.epClass ep) k (2 * k) false (.sync r)).takeItem port false = (v, some i) →
      exec (.tableSync port w0 w1 lines dt false) s = .next (v.runIngress [] i)) := by
  subst hk hep hr
  unfold syncFormed at harrives
  unfold State.drivenBy
  have hexec : exec (.tableSync port w0 w1 lines dt false) s = execTableSync port w0 w1 lines dt false s := rfl
  rw [hexec, execTableSync]
  dsimp only
  rw [harrives]
  dsimp only
  refine ⟨fun hdrives => ?_, fun hdrives hnone => ?_, fun c v t i hdrives hcontext hdriver hcolour hidle htake => ?_⟩
  · rw [hdrives, Bool.not_false, if_pos rfl]
  · rw [hdrives, Bool.not_true, if_neg Bool.false_ne_true, hnone]
  · rw [hdrives, Bool.not_true, if_neg Bool.false_ne_true, hcontext]
    dsimp only
    rw [if_neg (by simp [hdriver]), hcolour]
    dsimp only
    rw [hidle, if_neg (by decide), htake]

/-- Settles O48: each command by its checks in turn, BASIN_DESTROY's start by `State.commandWork_destroy_of_free`,
a sync's answers by `exec_tableSync_of_admitted`. -/
theorem basinsAndSyncs : Obligations.BasinsAndSyncs := by
  unfold Obligations.BasinsAndSyncs
  refine ⟨?create, ?settle, ?destroy, ?free, ?sync, ?done⟩
  case create =>
    intro partner shadow m k f id s a hidle hlock hok htenant hclear hcount hshare hpair hpartner hm hk hf hentries hid
    rw [exec_basinCreate_of_formed hidle hlock hok, hpartner]
    exact congrArg Host.Outcome.next (State.basinCreate_of_passing shadow htenant hclear hcount hshare hpair hm hk hf hentries hid)
  case settle => exact fun id b s => State.settleBasins_of_filled
  case destroy =>
    intro partner b s hready hok id hbasin hlives hopen hserved
    refine ⟨fun hseqs hversions hwait hcmd hroom => ⟨_, exec_basinDestroy_of_empty rfl hready hbasin hlives hopen hserved hok hseqs hversions, ?_⟩,
      exec_basinDestroy_of_open rfl hready hbasin hlives hopen hserved⟩
    rw [← State.inFlight_toPartner s "BASIN_DESTROY" [id]]
    exact State.commandWork_destroy_of_free ((s.basin_toPartner _ _ _).trans hbasin) ((s.seqsIn_toPartner _ _ _).trans hseqs)
      ((s.versionsIn_toPartner _ _ _).trans hversions) (by rwa [State.toPartner_xlat]) (by rwa [State.toPartner_xlat]) (by rwa [State.toPartner_xlat])
  case free =>
    intro basin b s hbasin hgone hdone
    exact ⟨_, exec_basinUnitsFree_of_done hbasin hgone hdone, State.basin_setBasin_same _ _ _, rfl, rfl, rfl⟩
  case sync =>
    intro port w0 w1 lines dt s k ep formed a u r drives hgo
    obtain ⟨hdenied, hnone, hserved⟩ := exec_tableSync_of_admitted (port := port) (w0 := w0) (w1 := w1) (lines := lines) (dt := dt) (s := s) (u := u)
      rfl rfl rfl (Prod.ext rfl hgo)
    refine ⟨hdenied, hnone, ?_⟩
    intro t i hdrives hcontext hdriver c v hqueued hidle htake
    exact hserved c.1 v.1 t i hdrives hcontext hdriver (Prod.ext rfl hqueued) hidle (Prod.ext rfl htake)
  case done =>
    intro id i s hfind u g c due
    have hslow : s.xlat.invs.any (fun x => x.id == id) = true :=
      List.any_eq_true.mpr ⟨i, List.mem_of_find?_eq_some hfind, List.find?_some (p := fun (x : Inv) => x.id == id) hfind⟩
    have hexec : exec (.invalidationDone id) s = execInvalidationDone id s := rfl
    rw [hexec, execInvalidationDone, hfind]
    refine ⟨fun hdue => if_pos hdue, fun ep tid tag asid hdue hwaiter => ?_, fun hdue hwaiter => ?_, fun hdue hwaiter => ?_, if_pos hslow⟩
    all_goals refine (if_neg (Bool.eq_false_iff.mp hdue)).trans ?_
    · rw [hwaiter]
    · rw [hwaiter]
      rfl
    · rw [hwaiter]

end Sys2Proof.Machine
end

section
/-!
A link end (R271 to R303): what registers, errors and flits leave of it, what a control flit shows of it, and what training, a request and a retrain do.
-/
namespace Sys2Proof.Machine

/-! ### Where a link's registers stand (R298) -/

theorem mere_ne_pbaReg (n k : Nat) : R.MERE_BASE n + k ≠ pbaReg := by
  unfold R.MERE_BASE pbaReg R.GLOB_BASE
  omega

theorem portid_ne_linkstat (n : Nat) : R.MERE_PORTID n ≠ R.MERE_LINKSTAT n := mere_offsets n _ _ (by decide)

theorem linkstat_ne_ctrl (n : Nat) : R.MERE_LINKSTAT n ≠ R.MERE_CTRL n := mere_offsets n _ _ (by decide)

theorem linkstat_ne_err (n : Nat) : R.MERE_LINKSTAT n ≠ R.MERE_ERR n := mere_offsets n _ _ (by decide)

theorem portid_ne_err (n : Nat) : R.MERE_PORTID n ≠ R.MERE_ERR n := mere_offsets n _ _ (by decide)

theorem cntRetrains_ne_linkstat (n : Nat) : R.MERE_CNT_RETRAINS n ≠ R.MERE_LINKSTAT n := mere_offsets n _ _ (by decide)

theorem mere_ne_lanestat (n i : Nat) {k : Nat} (hk : k < 0x200) : R.MERE_BASE n + k ≠ R.MERE_LANESTAT n i := by
  simp only [R.MERE_LANESTAT]
  omega

theorem mere_ne_creditAt (n c : Nat) {k : Nat} (h0 : k ≠ 0x38) (h1 : k ≠ 0x40) : R.MERE_BASE n + k ≠ (creditAt n c).1 := by
  unfold creditAt
  split
  · exact mere_offsets n k 0x38 h0
  · exact mere_offsets n k 0x38 h0
  · exact mere_offsets n k 0x38 h0
  · exact mere_offsets n k 0x40 h1
  · exact mere_offsets n k 0x40 h1
  · exact mere_offsets n k 0x40 h1

/-! ### Errors (R302, R532) -/

@[simp] theorem State.interruptIf_fab (s t : State) (v : Nat) : (State.interruptIf s t v).fab = t.fab := by
  unfold State.interruptIf
  split
  · rcases t.interrupt_cases v with ⟨e, -⟩ | ⟨e, -⟩ <;> rw [e] <;> rfl
  · rfl

@[simp] theorem State.setErrOnly_fab (s : State) (o : Nat) (f : Fld) (v : Nat) : (s.setErrOnly o f v).fab = s.fab := by
  unfold State.setErrOnly
  extract_lets b t
  split
  · split
    · split <;> rfl
    · rfl
  · exact State.interruptIf_fab s t _

/-- An error bit that raises no alarm leaves the fabric alone. -/
theorem State.setErr_fab (s : State) (o : Nat) {f : Fld} (hf : f ∉ alarmFields) : (s.setErr o f).fab = s.fab := by
  rw [State.setErr_noAlarm _ _ _ _ (alarmOf_eq_none hf o), State.setErrOnly_fab]

theorem State.link_setErr (s : State) (n o : Nat) {f : Fld} (hf : f ∉ alarmFields) : (s.setErr o f).link n = s.link n := by
  rw [State.link, State.setErr_fab s o hf, State.link]

/-- An error bit that raises no alarm changes its own register and the pending bits alone. -/
theorem State.reg_setErr_ne (s : State) {o p : Nat} {f : Fld} (hf : f ∉ alarmFields) (hpba : p ≠ pbaReg) (hp : p ≠ o) :
    (s.setErr o f).reg p = s.reg p := by
  rw [State.setErr_noAlarm _ _ _ _ (alarmOf_eq_none hf o)]
  exact State.setErrOnly_ne _ _ _ _ _ hpba hp

/-! ### What a control flit shows of a link end (R272, R280, R288) -/

/-- What a control flit shows of a link end beside its own words: the lanes in use, ACK and PORT_ID. -/
def State.ctlView (s : State) (n : Nat) : List Nat × Nat × Word := (s.lanesUsed n, s.ackOf n, s.reg (R.MERE_PORTID n))

theorem ctlOut_congr {s t : State} {n : Nat} (h : t.ctlView n = s.ctlView n) (c : Ctl) : ctlOut t n c = ctlOut s n c := by
  simp only [State.ctlView, Prod.mk.injEq] at h
  obtain ⟨hlanes, hack, hport⟩ := h
  simp only [ctlOut, hlanes, hack, hport]

section View
variable {s t : State} {n : Nat}

theorem State.lanesUsed_congr (hw : t.get (R.MERE_LINKSTAT n) F.MERE_LINKSTAT_WIDTH = s.get (R.MERE_LINKSTAT n) F.MERE_LINKSTAT_WIDTH)
    (hm : t.get (R.MERE_LINKSTAT n) F.MERE_LINKSTAT_GOOD_MASK = s.get (R.MERE_LINKSTAT n) F.MERE_LINKSTAT_GOOD_MASK) :
    t.lanesUsed n = s.lanesUsed n := by
  simp only [State.lanesUsed, hw, hm]

/-- A state with the same LINKSTAT, PORTID and link record shows the same. -/
theorem State.ctlView_congr (hstat : t.reg (R.MERE_LINKSTAT n) = s.reg (R.MERE_LINKSTAT n)) (hport : t.reg (R.MERE_PORTID n) = s.reg (R.MERE_PORTID n))
    (hlink : t.link n = s.link n) : t.ctlView n = s.ctlView n := by
  have hlanes : t.lanesUsed n = s.lanesUsed n := State.lanesUsed_congr (by simp only [State.get, hstat]) (by simp only [State.get, hstat])
  simp only [State.ctlView, State.ackOf, hlanes, hport, hlink]

theorem State.ctlView_setReg_ne {o : Nat} (v : BitVec 64) (hstat : R.MERE_LINKSTAT n ≠ o) (hport : R.MERE_PORTID n ≠ o) :
    (s.setReg o v).ctlView n = s.ctlView n :=
  State.ctlView_congr (State.reg_setReg_ne _ _ _ _ hstat) (State.reg_setReg_ne _ _ _ _ hport) (State.link_setReg _ _ _ _)

theorem State.ctlView_setErr {o : Nat} {f : Fld} (hf : f ∉ alarmFields) (hstat : R.MERE_LINKSTAT n ≠ o) (hport : R.MERE_PORTID n ≠ o) :
    (s.setErr o f).ctlView n = s.ctlView n :=
  State.ctlView_congr (State.reg_setErr_ne s hf (mere_ne_pbaReg _ _) hstat) (State.reg_setErr_ne s hf (mere_ne_pbaReg _ _) hport)
    (State.link_setErr s n o hf)

variable (s n)

@[simp] theorem State.lanesUsed_setLinkState (v : Nat) : (s.setLinkState n v).lanesUsed n = s.lanesUsed n :=
  State.lanesUsed_congr (State.get_put_disjoint _ _ _ _ _ (by decide) (by decide)) (State.get_put_disjoint _ _ _ _ _ (by decide) (by decide))

@[simp] theorem State.ctlView_setLinkState (v : Nat) : (s.setLinkState n v).ctlView n = s.ctlView n := by
  simp only [State.ctlView, State.ackOf, State.lanesUsed_setLinkState, State.link_setLinkState,
    State.reg_setLinkState_ne _ n _ v (portid_ne_linkstat n)]

/-- A new record of a link shows the same when it keeps E. -/
theorem State.ctlView_setLink {l : Link} (h : l.expect = (s.link n).expect) : (s.setLink n l).ctlView n = s.ctlView n := by
  have hlanes : (s.setLink n l).lanesUsed n = s.lanesUsed n := s.lanesUsed_updLink n (fun _ => l)
  simp only [State.ctlView, State.ackOf, hlanes, State.link_setLink_same, h, State.reg_setLink_ne _ n _ l (portid_ne_linkstat n)]

theorem State.ctlView_updLink {f : Link → Link} (h : (f (s.link n)).expect = (s.link n).expect) : (s.updLink n f).ctlView n = s.ctlView n :=
  State.ctlView_setLink s n h

end View

/-! ### Control flits (R274, R288) -/

section Control
variable (s : State) (n : Nat) (c : Ctl)

@[simp] theorem State.linkState_sendControl : (s.sendControl n c).linkState n = s.linkState n := State.linkState_emitFlit _ _ _ _

@[simp] theorem State.link_sendControl : (s.sendControl n c).link n = { s.link n with unreported := 0 } := State.link_emitFlit _ _ _ _

theorem State.reg_sendControl_ne {o : Nat} (h : o ≠ R.MERE_LINKSTAT n) : (s.sendControl n c).reg o = s.reg o := State.reg_emitFlit_ne _ _ _ _ _ h

/-- Out of ACTIVE a control flit goes out replicated. -/
theorem State.out_sendControl (h : s.linkState n ≠ lsActive) : (s.sendControl n c).out = s.out ++ [ctlOut s n c] := by
  have hrep : (s.linkState n != lsActive) = true := bne_iff_ne.mpr h
  rw [State.sendControl, State.out_emitFlit, hrep, ctlOut]

@[simp] theorem State.linkState_sendCtl : (s.sendCtl n c).linkState n = s.linkState n := by
  rw [State.sendCtl, State.linkState_sendControl, State.linkState_updLink]

@[simp] theorem State.link_sendCtl : (s.sendCtl n c).link n = { s.link n with ctl := some c, unreported := 0 } := by
  rw [State.sendCtl, State.link_sendControl, State.link_updLink_same]

theorem State.reg_sendCtl_ne {o : Nat} (h : o ≠ R.MERE_LINKSTAT n) : (s.sendCtl n c).reg o = s.reg o := by
  rw [State.sendCtl, State.reg_sendControl_ne _ _ _ h, State.reg_updLink_ne _ _ _ _ h]

theorem State.out_sendCtl (h : s.linkState n ≠ lsActive) : (s.sendCtl n c).out = s.out ++ [ctlOut s n c] := by
  rw [State.sendCtl, State.out_sendControl _ _ _ (by rwa [State.linkState_updLink]), State.out_updLink,
    ctlOut_congr (State.ctlView_updLink s n rfl)]

end Control

/-! ### OFF and DETECT (R287, R299) -/

section Detect
variable (s : State) (n : Nat)

/-- Of LINKSTAT, taking the width away writes WIDTH and GOOD_MASK. -/
theorem State.get_noWidth (f : Fld) : (s.noWidth n).get (R.MERE_LINKSTAT n) f =
    ((s.put (R.MERE_LINKSTAT n) F.MERE_LINKSTAT_WIDTH 3).put (R.MERE_LINKSTAT n) F.MERE_LINKSTAT_GOOD_MASK 0).get (R.MERE_LINKSTAT n) f :=
  foldl_keeps (fun t : State => t.get (R.MERE_LINKSTAT n) f) _ _ fun _ i _ => State.get_put_ne _ _ _ _ _ _ (mere_ne_lanestat n i (by decide))

@[simp] theorem State.linkState_noWidth : (s.noWidth n).linkState n = s.linkState n := by
  rw [State.linkState, State.get_noWidth, State.get_put_disjoint _ _ _ _ _ (by decide) (by decide),
    State.get_put_disjoint _ _ _ _ _ (by decide) (by decide), State.linkState]

theorem State.width_noWidth : (s.noWidth n).get (R.MERE_LINKSTAT n) F.MERE_LINKSTAT_WIDTH = 3 := by
  rw [State.get_noWidth, State.get_put_disjoint _ _ _ _ _ (by decide) (by decide), State.get_put_same _ _ _ _ (by decide)]
  rfl

theorem State.mask_noWidth : (s.noWidth n).get (R.MERE_LINKSTAT n) F.MERE_LINKSTAT_GOOD_MASK = 0 := by
  rw [State.get_noWidth, State.get_put_same _ _ _ _ (by decide)]
  rfl

theorem State.linkState_goOff : (s.goOff n).linkState n = lsOff := by
  rw [State.goOff, State.linkState_noWidth, State.linkState_setLinkState]
  rfl

theorem State.linkState_setCredit (c v : Nat) : (s.setCredit n c v).linkState n = s.linkState n :=
  State.linkState_put_ne _ _ _ _ _ (mere_ne_creditAt _ _ (by decide) (by decide))

theorem State.link_setCredit (c v : Nat) : (s.setCredit n c v).link n = s.link n := State.link_put _ _ _ _ _

theorem State.linkState_home (h : Home) : State.linkState { s with home := h } n = s.linkState n := rfl

theorem State.linkState_enterDetect : (s.enterDetect n).linkState n = lsDetect := by
  unfold State.enterDetect
  extract_lets l t u ts v
  have ht : t.linkState n = lsDetect := by
    refine (State.linkState_put_ne _ _ _ _ _ (linkstat_ne_ctrl n)).trans ?_
    rw [State.linkState_noWidth, State.linkState_setLinkState]
    rfl
  have hu : u.linkState n = t.linkState n := foldl_keeps (fun x : State => x.linkState n) _ _ fun x c _ => x.linkState_setCredit n c 0
  rw [State.linkState_setLink, State.linkState_home]
  exact hu.trans ht

/-- A full training begins with a record afresh, but for the packets that arrived whole, those to be sent, and the counts of the link's past. -/
theorem State.link_enterDetect : (s.enterDetect n).link n =
    { full := true, delivered := (s.link n).delivered, retrains := (s.link n).retrains, corrected := (s.link n).corrected, queue := (s.link n).left } :=
  State.link_setLink_same _ _ _

end Detect

/-! ### Requests and retrains (R289, R290) -/

section Retrain
variable {s : State} {n : Nat}

theorem State.linkActive_of_linkState (h : s.linkState n = lsActive) : s.linkActive n = true := by
  rw [State.linkActive, h]
  rfl

/-- What a request changes of a link's record. -/
def Link.asking (l : Link) (rank : Nat) (all : Bool) : Link := { l with ownReq := some rank, rank := rank, testAll := all, proceeded := false }

/-- A request from ACTIVE: QUIESCE, and REQ is sent; of a retrain when fewer than three lie in the window. -/
theorem State.startRetrain_of_active {rank : Nat} {all : Bool} (hactive : s.linkState n = lsActive)
    (hfew : rank < 2 ∨ (s.recentRetrains n).length < 3) : s.startRetrain n rank all =
      ((s.setLink n ((s.link n).asking rank all)).setLinkState n lsQuiesce).sendCtl n { code := ctlReq, rank := rank } := by
  have hroom : ¬(2 ≤ rank ∧ 3 ≤ (s.recentRetrains n).length) := by omega
  simp [State.startRetrain, State.linkActive_of_linkState hactive, hroom, Link.asking]

/-- What holds once a request has gone out. -/
theorem State.startRetrain_asks {rank : Nat} {all : Bool} (hactive : s.linkState n = lsActive)
    (hfew : rank < 2 ∨ (s.recentRetrains n).length < 3) :
    (s.startRetrain n rank all).linkState n = lsQuiesce ∧ ((s.startRetrain n rank all).link n).ownReq = some rank ∧
      ((s.startRetrain n rank all).link n).testAll = all ∧
      (s.startRetrain n rank all).out = s.out ++ [ctlOut s n { code := ctlReq, rank := rank }] ∧
      ∀ o, o ≠ R.MERE_LINKSTAT n → (s.startRetrain n rank all).reg o = s.reg o := by
  have hquiesce (t : State) : (t.setLinkState n lsQuiesce).linkState n = lsQuiesce := by rw [State.linkState_setLinkState]; rfl
  rw [State.startRetrain_of_active hactive hfew]
  refine ⟨?_, ?_, ?_, ?_, fun o ho => ?_⟩
  · rw [State.linkState_sendCtl, hquiesce]
  · rw [State.link_sendCtl, State.link_setLinkState, State.link_setLink_same]
    rfl
  · rw [State.link_sendCtl, State.link_setLinkState, State.link_setLink_same]
    rfl
  · rw [State.out_sendCtl _ _ _ (by rw [hquiesce]; decide), State.out_setLinkState, State.out_setLink,
      ctlOut_congr ((State.ctlView_setLinkState _ _ _).trans (State.ctlView_setLink s n (l := (s.link n).asking rank all) rfl))]
  · rw [State.reg_sendCtl_ne _ _ _ ho, State.reg_setLinkState_ne _ _ _ _ ho, State.reg_setLink_ne _ _ _ _ ho]

end Retrain

section Proceed
variable (s : State) (n rank : Nat) (own : Bool)

/-- A link of which a request proceeds: the retrain or width change is counted, and its record says whose request it is (R289, R303). -/
def State.proceeding : State :=
  (s.bump (R.MERE_CNT_RETRAINS n)).setLink n
    { s.link n with ownReq := none, rank := rank, proceeded := own, ctl := none, testAll := (s.link n).testAll && own,
                    retrains := s.recentRetrains n ++ (if 2 ≤ rank then [(s.reg R.WELL_MCYCLE).toNat] else []) }

/-- The peer's width change leads to CONFIG. -/
theorem State.proceed_widthChange : s.proceed n 1 false = (s.proceeding n 1 false).setLinkState n lsConfig := rfl

/-- A retrain leads to EQUALISE, with no test results. -/
theorem State.proceed_retrain (h : 2 ≤ rank) : s.proceed n rank own =
    ((s.proceeding n rank own).updLink n (fun l => { l with ownPass := none, peerPass := none })).setLinkState n lsEqualise :=
  if_neg (by omega)

@[simp] theorem State.out_proceeding : (s.proceeding n rank own).out = s.out := State.out_setLink _ _ _

theorem State.proceeded_proceeding : ((s.proceeding n rank own).link n).proceeded = own := by
  rw [State.proceeding, State.link_setLink_same]

theorem State.retrains_proceeding : (s.proceeding n rank own).reg (R.MERE_CNT_RETRAINS n) = s.reg (R.MERE_CNT_RETRAINS n) + 1 := by
  rw [State.proceeding, State.reg_setLink_ne _ _ _ _ (cntRetrains_ne_linkstat n), State.reg_bump_same]
  rfl

end Proceed

end Sys2Proof.Machine
end

section
/-!
A link's training from OFF to TEST (R271, R287, R291, R299).
-/
namespace Sys2Proof.Machine

/-! ### ENABLE (R287, R299, R588) -/

section Enable
variable (s : State) (n : Nat)

theorem State.linkFree_putFlag_ctrl (f : Fld) (b : Bool) : (s.putFlag (R.MERE_CTRL n) f b).linkFree n = s.linkFree n := by
  have hstatus : R.GLOB_STATUS ≠ R.MERE_CTRL n := by
    unfold R.GLOB_STATUS R.GLOB_BASE R.MERE_CTRL R.MERE_BASE
    omega
  have hphase := State.get_put_ne s _ _ f F.GLOB_STATUS_PHASE (if b then 1 else 0) hstatus
  exact congrArg (fun p => decide (3 ≤ p) && s.rst.l2 == 0 && !s.inL3 (unitKey 2 n)) hphase

theorem State.linkState_putFlag_ctrl (f : Fld) (b : Bool) : (s.putFlag (R.MERE_CTRL n) f b).linkState n = s.linkState n :=
  State.linkState_put_ne _ _ _ _ _ (linkstat_ne_ctrl n)

end Enable

theorem exec_mereEnable_of_free {n : Fin 9} {s : State} (hoff : s.linkState n = lsOff) (hfree : s.linkFree n = true) :
    exec (.mereEnable n true) s = .next ((s.putFlag (R.MERE_CTRL n) F.MERE_CTRL_ENABLE true).enterDetect n) :=
  congrArg Host.Outcome.next (if_pos ⟨(State.linkState_putFlag_ctrl _ _ _ _).trans hoff, (State.linkFree_putFlag_ctrl _ _ _ _).trans hfree⟩)

/-- ENABLE 0 ends in OFF, an ACTIVE link by way of a break. -/
theorem exec_mereEnable_false (n : Fin 9) (s : State) : let t := s.putFlag (R.MERE_CTRL n) F.MERE_CTRL_ENABLE false
    exec (.mereEnable n false) s = .next ((if t.linkActive n then t.breakLink n else t).goOff n) := rfl

/-! ### Signal and equalisation (R271, R287) -/

theorem exec_signalDetect (n : Fin 9) (lanes : BitVec 16) (s : State) : exec (.signalDetect n lanes) s =
    if s.linkState n = lsDetect ∧ fewestLanes n ≤ popCount lanes.toNat (lanesOf n) then .next (s.setLinkState n lsEqualise) else .next s := rfl

theorem exec_equaliseDone_of_equalise {n : Fin 9} {s : State} (h : s.linkState n = lsEqualise) :
    exec (.equaliseDone n) s = .next (s.setLinkState n lsTest) := if_pos h

/-! ### The lane test (R291) -/

/-- What the test says of a lane: locked, and the bit errors; a lane with no result did not lock. -/
def laneResult (results : List (Nat × Bool × Nat)) (i : Nat) : Bool × Nat := (results.find? (fun r => r.1 == i)).elim (false, 0) (·.2)

def laneBad (results : List (Nat × Bool × Nat)) (i : Nat) : Bool := !(laneResult results i).1 || decide (16 < (laneResult results i).2)

/-- A lane passes when it has a result that locked with at most 16 bit errors. -/
theorem not_laneBad (results : List (Nat × Bool × Nat)) (i : Nat) :
    (!laneBad results i) = (results.find? (fun r => r.1 == i)).any (fun r => r.2.1 && decide (r.2.2 ≤ 16)) := by
  unfold laneBad laneResult
  cases results.find? (fun r => r.1 == i) with
  | none => rfl
  | some r =>
    change (!(!r.2.1 || decide (16 < r.2.2))) = (r.2.1 && decide (r.2.2 ≤ 16))
    rw [Bool.not_or, Bool.not_not, ← decide_not, decide_eq_decide.mpr not_lt]

/-- The mask of the tested lanes that passed. -/
def passMask (s : State) (n : Nat) (results : List (Nat × Bool × Nat)) : Nat :=
  ((s.lanesTested n).filter (fun i => !laneBad results i)).foldl (fun m i => m + 2 ^ i) 0

/-- The result of a lane is shown in its LANESTAT. -/
def State.showLane (results : List (Nat × Bool × Nat)) (n : Nat) (s : State) (i : Nat) : State :=
  (s.put (R.MERE_LANESTAT n i) F.MERE_LANESTAT_TEST_ERR (satAdd 0 (min (laneResult results i).2 65535) 65535)).putFlag
    (R.MERE_LANESTAT n i) F.MERE_LANESTAT_FAILED (laneBad results i)

/-- The results of the tested lanes are shown, and LANE_FAIL is set when one failed. -/
def State.lanesShown (s : State) (n : Nat) (results : List (Nat × Bool × Nat)) : State :=
  let t := (s.lanesTested n).foldl (State.showLane results n) s
  if (s.lanesTested n).any (laneBad results) then t.setErr (R.MERE_ERR n) F.MERE_ERR_LANE_FAIL else t

section Test
variable (s : State) (n : Nat) (results : List (Nat × Bool × Nat))

/-- What no write of LANESTAT and no LANE_FAIL changes, the results leave alone. -/
theorem State.lanesShown_keeps {β : Type} (p : State → β) (hput : ∀ t i f v, p (State.put t (R.MERE_LANESTAT n i) f v) = p t)
    (herr : ∀ t, p (State.setErr t (R.MERE_ERR n) F.MERE_ERR_LANE_FAIL) = p t) : p (s.lanesShown n results) = p s := by
  have hlanes : p ((s.lanesTested n).foldl (State.showLane results n) s) = p s :=
    foldl_keeps p _ s fun t i _ => (hput _ i _ _).trans (hput t i _ _)
  unfold State.lanesShown
  extract_lets t
  split
  · exact (herr _).trans hlanes
  · exact hlanes

@[simp] theorem State.link_lanesShown : (s.lanesShown n results).link n = s.link n :=
  s.lanesShown_keeps n results (fun t => t.link n) (fun _ _ _ _ => State.link_put _ _ _ _ _) (fun t => State.link_setErr t n _ (by decide))

@[simp] theorem State.linkState_lanesShown : (s.lanesShown n results).linkState n = s.linkState n :=
  s.lanesShown_keeps n results (fun t => t.linkState n)
    (fun _ i _ _ => State.linkState_put_ne _ _ _ _ _ (mere_ne_lanestat n i (by decide)))
    (fun t => by
      simp only [State.linkState, State.get, State.reg_setErr_ne t (show F.MERE_ERR_LANE_FAIL ∉ alarmFields by decide)
        (show R.MERE_LINKSTAT n ≠ pbaReg from mere_ne_pbaReg _ _) (linkstat_ne_err n)])

@[simp] theorem State.ctlView_lanesShown : (s.lanesShown n results).ctlView n = s.ctlView n :=
  s.lanesShown_keeps n results (fun t => t.ctlView n)
    (fun _ i _ _ => State.ctlView_setReg_ne _ (mere_ne_lanestat n i (by decide)) (mere_ne_lanestat n i (by decide)))
    (fun _ => State.ctlView_setErr (by decide) (linkstat_ne_err n) (portid_ne_err n))

/-- This end's test has ended: its results are shown, its mask is recorded and sent. -/
def State.laneTested : State :=
  ((s.lanesShown n results).updLink n (fun l => { l with ownPass := some (passMask s n results) })).sendCtl n
    { code := ctlTestDone, mask := passMask s n results }

@[simp] theorem State.link_laneTested : (s.laneTested n results).link n =
    { s.link n with ownPass := some (passMask s n results), ctl := some { code := ctlTestDone, mask := passMask s n results }, unreported := 0 } := by
  rw [State.laneTested, State.link_sendCtl, State.link_updLink_same, State.link_lanesShown]

theorem State.linkState_laneTested : (s.laneTested n results).linkState n = s.linkState n := by
  rw [State.laneTested, State.linkState_sendCtl, State.linkState_updLink, State.linkState_lanesShown]

theorem State.out_laneTested (h : s.linkState n ≠ lsActive) :
    (s.laneTested n results).out = (s.lanesShown n results).out ++ [ctlOut s n { code := ctlTestDone, mask := passMask s n results }] := by
  have hview : ((s.lanesShown n results).updLink n (fun l => { l with ownPass := some (passMask s n results) })).ctlView n = s.ctlView n :=
    (State.ctlView_updLink _ n rfl).trans (s.ctlView_lanesShown n results)
  rw [State.laneTested, State.out_sendCtl _ _ _ (by rwa [State.linkState_updLink, State.linkState_lanesShown]), State.out_updLink, ctlOut_congr hview]

end Test

/-- With no report of the peer no mask is formed. -/
theorem State.formMask_of_no_peer {s : State} {n : Nat} (h : (s.link n).peerPass = none) : s.formMask n = s := by
  simp [State.formMask, h]

theorem exec_laneTestDone_of_test {n : Fin 9} {results : List (Nat × Bool × Nat)} {s : State} (htest : s.linkState n = lsTest)
    (hown : (s.link n).ownPass = none) (hpeer : (s.link n).peerPass = none) : exec (.laneTestDone n results) s = .next (s.laneTested n results) := by
  have hexec : exec (.laneTestDone n results) s = .next ((s.laneTested n results).formMask n) := if_pos ⟨htest, hown⟩
  rw [hexec, State.formMask_of_no_peer (by rw [State.link_laneTested, hpeer])]

/-- A report that finds the link in EQUALISE is recorded. -/
theorem exec_testDone_of_equalise {n : Fin 9} {mask : BitVec 16} {s : State} (h : s.linkState n = lsEqualise) :
    exec (.testDone n mask) s = .next (s.updLink n (fun l => { l with peerPass := some mask.toNat })) := by
  have hexec : exec (.testDone n mask) s = .next (s.takeTestDone n mask.toNat) := rfl
  have hnot : ¬ (s.updLink n (fun l => { l with peerPass := some mask.toNat })).linkState n = lsTest := by
    rw [State.linkState_updLink, h]
    decide
  rw [hexec, State.takeTestDone, if_pos (.inr h)]
  exact congrArg Host.Outcome.next (if_neg hnot)

/-- Settles O2: each command by its lemma; DETECT by `State.linkState_enterDetect` and `State.link_enterDetect`, OFF by what no width leaves. -/
theorem linkTrains : Obligations.LinkTrains := by
  unfold Obligations.LinkTrains
  refine ⟨?enable, ?detect, ?off, ?signal, ?few, ?equalise, ?test, ?peer⟩
  case enable => exact fun n s => exec_mereEnable_of_free
  case detect =>
    intro n s
    rw [State.link_enterDetect]
    exact ⟨s.linkState_enterDetect n, rfl, rfl, rfl, rfl⟩
  case off =>
    intro n s
    exact ⟨_, exec_mereEnable_false n s, State.linkState_goOff _ _, State.width_noWidth _ _, State.mask_noWidth _ _⟩
  case signal =>
    intro n lanes s hdetect hlanes
    rw [exec_signalDetect, if_pos ⟨hdetect, hlanes⟩]
  case few =>
    intro n lanes s hfew
    rw [exec_signalDetect, if_neg fun h => by omega]
  case equalise => exact fun n s => exec_equaliseDone_of_equalise
  case test =>
    intro n results s htest hown hpeer
    have hinactive : s.linkState n ≠ lsActive := by
      rw [htest]
      decide
    refine ⟨_, passMask s n results, exec_laneTestDone_of_test htest hown hpeer, ?_, ?_, ?_, ?_, ?_⟩
    · rw [State.linkState_laneTested, htest]
    · rw [State.link_laneTested]
    · simp only [passMask, not_laneBad]
    · rw [State.link_laneTested]
    · rw [State.out_laneTested s n results hinactive, List.getLast?_concat]
  case peer => exact fun n mask s => exec_testDone_of_equalise

end Sys2Proof.Machine
end

section
/-!
Flits, acknowledgements, NAKs, replays and credit timeouts of a link (R273 to R286).
-/
namespace Sys2Proof.Machine

/-! ### FLIT_RECEIVE (R273, R274, R279) -/

section Receive
variable {n : Fin 9} {rep : Bool} {parts : List (Nat × List Byte)} {cw : List (Nat × Nat)} {s : State}

/-- On a link that hears and whose island runs, a flit is counted and judged. -/
theorem exec_flitReceive_of_hearing (hhears : s.linkHears n = true) (hruns : s.islandStopped (portIsland n) = false) :
    exec (.flitReceive n rep parts cw) s = ((s.countFec n cw).flitIn n rep parts cw).elim (.next (((s.countFec n cw).bump (R.MERE_CNT_CRC_FAIL n)).nak n))
      (fun f => .next (if n = 8 then ((s.countFec n cw).takeFlit n f).changesHeld else (s.countFec n cw).takeFlit n f).pumpAll) := by
  have hexec : exec (.flitReceive n rep parts cw) s = execFlitReceive n rep parts cw s := rfl
  rw [hexec, execFlitReceive, if_neg (by simp [hhears, hruns])]
  dsimp only
  cases (s.countFec n cw).flitIn n rep parts cw with
  | none => rfl
  | some f => rfl

/-- In OFF and DETECT nothing is received. -/
theorem exec_flitReceive_of_deaf (h : s.linkState n < lsEqualise) : exec (.flitReceive n rep parts cw) s = .next s := by
  have hdeaf : s.linkHears n = false := decide_eq_false (Nat.not_le.mpr h)
  exact if_pos (.inl (by rw [hdeaf]; rfl))

end Receive

/-! ### NAKs (R279) -/

section Nak
variable {s : State} {n : Nat}

theorem State.nak_of_new (h : (s.link n).nakFor ≠ some (s.link n).expect) :
    s.nak n = ((s.updLink n (fun l => { l with nakFor := some (s.link n).expect })).bump (R.MERE_CNT_NAKS n)).sendIdle n true := if_neg h

theorem State.nak_of_sent (h : (s.link n).nakFor = some (s.link n).expect) : s.nak n = s := if_pos h

end Nak

/-! ### The next flit in order (R275, R277, R279 to R281, R285) -/

/-- The header of a flit of FTYPE 0 that returns no credits, by its fields. -/
structure PlainHeader (hdr seq ack : Nat) : Prop where
  seq : bitsOf hdr 0 12 = seq
  ack : bitsOf hdr 12 12 = ack
  nak : bitOf hdr 24 = false
  ftype : bitsOf hdr 25 2 = 0
  count0 : bitsOf hdr 35 8 = 0
  count1 : bitsOf hdr 46 8 = 0

theorem plainHeader {seq ack : Nat} (hs : seq < 4096) (ha : ack < 4096) : PlainHeader (seq + ack * 2 ^ 12) seq ack where
  seq := by unfold bitsOf; omega
  ack := by unfold bitsOf; omega
  nak := by unfold bitOf; rw [beq_eq_false_iff_ne]; omega
  ftype := by unfold bitsOf; omega
  count0 := by unfold bitsOf; omega
  count1 := by unfold bitsOf; omega

/-- An ACK of the flit before the oldest held frees none. -/
theorem Link.ackFrees_before_oldest (l : Link) : l.ackFrees ((l.oldest + 4095) % 4096) = some 0 := by
  have hnone : ((l.oldest + 4095) % 4096 + 4097 - l.oldest) % 4096 = 0 := by omega
  simp only [Link.ackFrees, hnone, l.held.length.zero_le, if_true]

/-- Slots of zeros hold no packet. -/
theorem splitPackets_zeros {k : Nat} (fuel : Nat) (h : 16 ≤ k) : splitPackets (fuel + 1) (List.replicate k 0) = ([], []) := by
  have hzero : ((List.replicate k (0 : Byte)).take 16).all (· == 0) = true := by simp [List.take_replicate]
  rw [splitPackets, if_neg (by rw [List.length_replicate]; omega), if_pos hzero]

section Next
variable {s : State} {n : Nat}

theorem State.takeCredit_none (c : Nat) : s.takeCredit n c 0 = s := if_pos (.inl rfl)

/-- A link with nothing queued and nothing owed has nothing to send. -/
theorem State.flush_of_idle (hqueue : (s.link n).queue = []) (howed : (s.link n).owed = [0, 0, 0, 0, 0, 0]) : s.flush n = s :=
  s.pumpLink_empty n _ hqueue howed

/-- An ACK that acknowledges nothing new, without a NAK, changes nothing. -/
theorem State.takeAck_nothing_new : s.takeAck n (((s.link n).oldest + 4095) % 4096) false = s := by
  rw [State.takeAck, (s.link n).ackFrees_before_oldest]
  rfl

/-- The record of a link that has taken a flit without packets. -/
def Link.accepted (l : Link) : Link := { l with expect := (l.expect + 1) % 4096, nakFor := none, unreported := l.unreported + 1, partSlots := [] }

/-- A sequenced flit without packets and credit returns, on a link with nothing to send and room for one more unreported, is taken and counted. -/
theorem State.acceptFlit_zeros {hdr seq ack : Nat} (hhdr : PlainHeader hdr seq ack) (hqueue : (s.link n).queue = [])
    (howed : (s.link n).owed = [0, 0, 0, 0, 0, 0]) (hroom : (s.link n).unreported < 63) (hpart : (s.link n).partSlots = []) :
    s.acceptFlit n hdr (List.replicate 240 0) = (s.setLink n (s.link n).accepted).bump (R.MERE_CNT_FLITS_RX n) := by
  unfold State.acceptFlit
  extract_lets l r t u v w
  have hr : r = ([], []) := by
    simp only [r, l, hhdr.ftype, hpart, List.nil_append, if_true, splitPackets_zeros 15 (by decide : 16 ≤ 240)]
  have ht : t = s.setLink n (s.link n).accepted := by
    simp only [t, hr, List.append_nil]
    rfl
  have hu : u.link n = (s.link n).accepted := by rw [State.link_bump, ht, State.link_setLink_same]
  have hv : v = u := by simp only [v, hhdr.count0, hhdr.count1, State.takeCredit_none]
  have hw : w = u := by
    rw [show w = v.flush n from rfl, hv]
    exact State.flush_of_idle (by rw [hu]; exact hqueue) (by rw [hu]; exact howed)
  have hfew : (u.link n).unreported < 64 := by
    rw [hu]
    exact Nat.succ_lt_succ hroom
  rw [hw, if_neg fun h => by omega, show u = t.bump (R.MERE_CNT_FLITS_RX n) from rfl, ht]

/-- The next flit in order, which acknowledges nothing new, on an ACTIVE link. -/
theorem State.takeFlit_next {f : List Byte} (hactive : s.linkActive n = true)
    (hhdr : leNat (f.take 8) = (s.link n).expect + ((s.link n).oldest + 4095) % 4096 * 2 ^ 12) (hexpect : (s.link n).expect < 4096)
    (hzeros : (f.drop 8).take 240 = List.replicate 240 0) (hqueue : (s.link n).queue = [])
    (howed : (s.link n).owed = [0, 0, 0, 0, 0, 0]) (hroom : (s.link n).unreported < 63) (hpart : (s.link n).partSlots = []) :
    s.takeFlit n f = (s.setLink n (s.link n).accepted).bump (R.MERE_CNT_FLITS_RX n) := by
  have hplain : PlainHeader (leNat (f.take 8)) (s.link n).expect (((s.link n).oldest + 4095) % 4096) := by
    rw [hhdr]
    exact plainHeader hexpect (Nat.mod_lt _ (by decide))
  have hack : (s.takeAck n (((s.link n).oldest + 4095) % 4096) false).flush n = s := by
    rw [State.takeAck_nothing_new, State.flush_of_idle hqueue howed]
  have hhears : s.linkHears n = true := by
    have hstate : s.linkState n = lsActive := eq_of_beq hactive
    rw [State.linkHears, hstate]
    rfl
  have hnext : ((s.link n).expect + 4096 - (s.link n).expect) % 4096 = 0 := by omega
  simp only [State.takeFlit, hplain.ack, hplain.nak, hplain.ftype, hplain.seq, hack, hhears, hnext, hzeros]
  exact State.acceptFlit_zeros hplain hqueue howed hroom hpart

end Next

/-! ### Timers (R279, R280, R282) -/

theorem exec_nakRepeatTimer_of_sent {n : Fin 9} {s : State} (hhears : s.linkHears n = true) (hsent : (s.link n).nakFor = some (s.link n).expect) :
    exec (.nakRepeatTimer n) s = .next ((s.bump (R.MERE_CNT_NAKS n)).sendIdle n true) := if_pos ⟨hhears, hsent⟩

theorem exec_ackHoldTimer_of_unreported {n : Fin 9} {s : State} (hhears : s.linkHears n = true) (hdue : (s.link n).unreported ≠ 0) :
    exec (.ackHoldTimer n) s = .next (s.sendIdle n false) := if_pos ⟨hhears, hdue⟩

/-- What goes out of a held flit (R274, R278, R281). -/
def heldOut (s : State) (n : Nat) (f : HeldFlit) : Out :=
  .flit n (s.linkState n != lsActive) (s.lanesUsed n)
    (flitOf (flitHeader f.seq (s.ackOf n) false (if f.credit then ftCredit else ftPayload) f.first f.returns) f.payload)

section Held
variable (s : State) (n : Nat)

@[simp] theorem State.link_emitHeld (f : HeldFlit) : (s.emitHeld n f).link n = { s.link n with unreported := 0 } := by
  rw [State.emitHeld, State.link_emitFlit, State.link_bump]

theorem State.reg_emitHeld_ne (f : HeldFlit) {o : Nat} (hstat : o ≠ R.MERE_LINKSTAT n) (htx : o ≠ R.MERE_CNT_FLITS_TX n) :
    (s.emitHeld n f).reg o = s.reg o := by
  rw [State.emitHeld, State.reg_emitFlit_ne _ _ _ _ _ hstat, State.reg_bump_ne _ _ _ _ htx]

/-- A count of flits sent does not show. -/
theorem State.lanesUsed_bump (o k : Nat) (h : R.MERE_LINKSTAT n ≠ o) : (s.bump o k).lanesUsed n = s.lanesUsed n :=
  State.lanesUsed_congr (State.get_bump_ne _ _ _ _ _ h) (State.get_bump_ne _ _ _ _ _ h)

theorem linkstat_ne_cntFlitsTx (n : Nat) : R.MERE_LINKSTAT n ≠ R.MERE_CNT_FLITS_TX n := mere_offsets n _ _ (by decide)

theorem cntFlitsRx_ne_linkstat (n : Nat) : R.MERE_CNT_FLITS_RX n ≠ R.MERE_LINKSTAT n := mere_offsets n _ _ (by decide)

theorem linkstat_ne_cntReplays (n : Nat) : R.MERE_LINKSTAT n ≠ R.MERE_CNT_REPLAYS n := mere_offsets n _ _ (by decide)

theorem State.out_emitHeld (f : HeldFlit) : (s.emitHeld n f).out = s.out ++ [heldOut s n f] := by
  rw [State.emitHeld, State.out_emitFlit, State.linkState_bump_ne _ _ _ _ (linkstat_ne_cntFlitsTx n),
    State.lanesUsed_bump _ _ _ _ (linkstat_ne_cntFlitsTx n), State.bump_out, heldOut]

theorem State.linkState_emitHeld (f : HeldFlit) : (s.emitHeld n f).linkState n = s.linkState n := by
  rw [State.emitHeld, State.linkState_emitFlit, State.linkState_bump_ne _ _ _ _ (linkstat_ne_cntFlitsTx n)]

theorem State.lanesUsed_send (x : Out) : (s.send x).lanesUsed n = s.lanesUsed n := rfl

theorem State.lanesUsed_emitFlit (h : Nat) (d : List Byte) : (s.emitFlit n h d).lanesUsed n = s.lanesUsed n := by
  rw [State.emitFlit, State.lanesUsed_send, State.lanesUsed_updLink]

theorem State.lanesUsed_emitHeld (f : HeldFlit) : (s.emitHeld n f).lanesUsed n = s.lanesUsed n := by
  rw [State.emitHeld, State.lanesUsed_emitFlit, State.lanesUsed_bump _ _ _ _ (linkstat_ne_cntFlitsTx n)]

/-- What has gone out does not change what the next held flit looks like. -/
theorem heldOut_emitHeld (f : HeldFlit) : heldOut (s.emitHeld n f) n = heldOut s n := by
  funext g
  simp only [heldOut, State.linkState_emitHeld, State.lanesUsed_emitHeld, State.ackOf, State.link_emitHeld]

/-- Flits sent again go out in order. -/
theorem State.out_foldl_emitHeld (l : List HeldFlit) : (l.foldl (fun s f => s.emitHeld n f) s).out = s.out ++ l.map (heldOut s n) := by
  induction l generalizing s with
  | nil => simp
  | cons f l ih => simp only [List.foldl_cons, ih, State.out_emitHeld, heldOut_emitHeld, List.map_cons, List.append_assoc, List.singleton_append]

/-- The held flits go out again, and the replay is counted. -/
def State.replayed : State := (s.link n).held.foldl (fun s f => s.emitHeld n f) (s.bump (R.MERE_CNT_REPLAYS n))

theorem State.out_replayed : (s.replayed n).out = s.out ++ (s.link n).held.map (heldOut s n) := by
  have hout : heldOut (s.bump (R.MERE_CNT_REPLAYS n)) n = heldOut s n := by
    funext f
    simp only [heldOut, State.linkState_bump_ne _ _ _ _ (linkstat_ne_cntReplays n), State.lanesUsed_bump _ _ _ _ (linkstat_ne_cntReplays n),
      State.ackOf, State.link_bump]
  rw [State.replayed, State.out_foldl_emitHeld, hout, State.bump_out]

/-- Replaying keeps all of a link's record but the count of unreported flits. -/
theorem State.link_replayed_keeps {β : Type} (q : Link → β) (h : ∀ l : Link, q { l with unreported := 0 } = q l) :
    q ((s.replayed n).link n) = q (s.link n) := by
  rw [State.replayed, foldl_keeps (fun t : State => q (t.link n)) _ _ fun t f _ => by rw [State.link_emitHeld, h], State.link_bump]

theorem State.replays_replayed : (s.replayed n).reg (R.MERE_CNT_REPLAYS n) = s.reg (R.MERE_CNT_REPLAYS n) + 1 := by
  rw [State.replayed, foldl_keeps (fun t : State => t.reg (R.MERE_CNT_REPLAYS n)) _ _ fun t f _ =>
    State.reg_emitHeld_ne t n f (linkstat_ne_cntReplays n).symm (mere_offsets n _ _ (by decide)), State.reg_bump_same]
  rfl

/-- The first or second replay in a row is one more. -/
theorem State.replay_of_few (hheld : (s.link n).held ≠ []) (hfew : (s.link n).replays < 2) :
    s.replay n = (s.replayed n).updLink n (fun l => { l with replays := (s.link n).replays + 1 }) := by
  have hkept : ((s.replayed n).link n).replays = (s.link n).replays := s.link_replayed_keeps n Link.replays fun _ => rfl
  have hreplay : s.replay n = (s.replayed n).updLink n (fun l => { l with replays := l.replays + 1 }) :=
    (if_neg hheld).trans (if_pos (Nat.succ_lt_succ hfew))
  rw [hreplay, State.updLink, hkept, State.updLink]

end Held

/-- REPLAY_TIMEOUT on an ACTIVE link, the first or second in a row. -/
theorem exec_replayTimeout_of_few {n : Fin 9} {s : State} (hactive : s.linkActive n = true) (hheld : (s.link n).held ≠ [])
    (hfew : (s.link n).replays < 2) :
    exec (.replayTimeout n) s = .next ((s.replayed n).updLink n (fun l => { l with replays := (s.link n).replays + 1 })) := by
  have hexec : exec (.replayTimeout n) s = .next (s.replay n) := if_pos hactive
  rw [hexec, State.replay_of_few s n hheld hfew]

theorem exec_creditTimeout_of_starved {n : Fin 9} {c : Fin 6} {s : State} (h : s.creditStarved n c = true) :
    exec (.creditTimeout n c) s = .next ((s.setErr (R.MERE_ERR n) F.MERE_ERR_CREDIT_TIMEOUT).breakLink n) := if_pos h

/-- Settles O3: what arrives by `exec_flitReceive_of_hearing` and `State.takeFlit_next`, a replay by the lemmas of `State.replayed`. -/
theorem linkAcknowledges : Obligations.LinkAcknowledges := by
  unfold Obligations.LinkAcknowledges
  refine ⟨?bad, ?good, ?deaf, ?nak, ?sent, ?next, ?nakRepeat, ?ackHold, ?replay, ?credit⟩
  case bad =>
    intro n rep parts cw s hhears hruns hnone
    rw [exec_flitReceive_of_hearing hhears hruns, hnone, Option.elim_none]
  case good =>
    intro n rep parts cw f s hhears hruns hsome
    rw [exec_flitReceive_of_hearing hhears hruns, hsome, Option.elim_some]
  case deaf => exact fun n rep parts cw s => exec_flitReceive_of_deaf
  case nak => exact fun n s => State.nak_of_new
  case sent => exact fun n s => State.nak_of_sent
  case next =>
    intro n f s hactive hhdr hexpect _ hzeros hqueue howed hroom hpart
    rw [State.takeFlit_next hactive hhdr hexpect hzeros hqueue howed hroom hpart, State.link_bump, State.link_setLink_same, State.reg_bump_same,
      State.reg_setLink_ne _ _ _ _ (cntFlitsRx_ne_linkstat n)]
    exact ⟨rfl, rfl, rfl⟩
  case nakRepeat => exact fun n s => exec_nakRepeatTimer_of_sent
  case ackHold =>
    intro n s hhears hdue
    refine ⟨exec_ackHoldTimer_of_unreported hhears hdue, ?_, State.out_emitFlit _ _ _ _⟩
    rw [State.sendIdle, State.link_emitFlit]
  case replay =>
    intro n s hactive hheld hfew
    have hstriped : (s.linkState n != lsActive) = false := by rw [eq_of_beq (show (s.linkState n == lsActive) = true from hactive)]; rfl
    refine ⟨_, exec_replayTimeout_of_few hactive hheld hfew, ?_, ?_, ?_, ?_⟩
    · rw [State.link_updLink_same]
    · rw [State.link_updLink_same]
      exact s.link_replayed_keeps n Link.held fun _ => rfl
    · rw [State.reg_updLink_ne _ _ _ _ (linkstat_ne_cntReplays n).symm, State.replays_replayed]
    · rw [State.out_updLink, State.out_replayed]
      refine congrArg (fun g => s.out ++ (s.link n).held.map g) (funext fun f => ?_)
      rw [heldOut, hstriped]
  case credit => exact fun n c s => exec_creditTimeout_of_starved

end Sys2Proof.Machine
end

section
/-!
A link's requests, configuration and retrain limits (R284, R287 to R290).
-/
namespace Sys2Proof.Machine

/-! ### REQ and FOLLOW (R289) -/

section Requests
variable {s : State} {n : Nat}

/-- The state in which a link that takes the peer's request has answered FOLLOW. -/
def State.followed (s : State) (n : Nat) : State := (s.setLinkState n lsQuiesce).sendControl n { code := ctlFollow }

theorem State.out_followed : (s.followed n).out = s.out ++ [ctlOut s n { code := ctlFollow }] := by
  have hquiesce : (s.setLinkState n lsQuiesce).linkState n ≠ lsActive := by
    rw [State.linkState_setLinkState]
    decide
  rw [State.followed, State.out_sendControl _ _ _ hquiesce, State.out_setLinkState, ctlOut_congr (s.ctlView_setLinkState n lsQuiesce)]

theorem State.reg_followed_ne {o : Nat} (h : o ≠ R.MERE_LINKSTAT n) : (s.followed n).reg o = s.reg o := by
  rw [State.followed, State.reg_sendControl_ne _ _ _ h, State.reg_setLinkState_ne _ _ _ _ h]

/-- A width change that the peer asks for is followed at once. -/
theorem State.takeReq_widthChange (hactive : s.linkState n = lsActive) (portId : Nat) :
    s.takeReq n 1 portId = ((s.followed n).proceeding n 1 false).setLinkState n lsConfig := by
  have htake : s.takeReq n 1 portId = s.followReq n 1 := by
    rw [State.takeReq, if_neg Nat.one_ne_zero, if_pos hactive]
  have hfollow : s.followReq n 1 = (s.followed n).proceed n 1 false := if_neg fun h => absurd h.1 (by decide)
  rw [htake, hfollow, State.proceed_widthChange]

theorem State.takeFollow_of_quiesce {rank : Nat} (hquiesce : s.linkState n = lsQuiesce) (hown : (s.link n).ownReq = some rank) :
    s.takeFollow n = s.proceed n rank true := by
  rw [State.takeFollow, hown]
  exact if_pos hquiesce

end Requests

/-! ### CONFIG (R272, R284, R288) -/

section Config
variable {s : State} {n : Nat}

@[simp] theorem State.link_meetPeer (full : Bool) (portId : Word) (k : Nat) : (s.meetPeer n full portId).link k = s.link k := by
  unfold State.meetPeer
  split
  · rw [State.link_setReg, State.link_setErr _ _ _ (by decide)]
  · exact State.link_setReg _ _ _ _

theorem State.reg_meetPeer_ne (full : Bool) (portId : Word) {o : Nat} (hpba : o ≠ pbaReg) (herr : o ≠ R.MERE_ERR n) (hpeer : o ≠ R.MERE_PEERID n) :
    (s.meetPeer n full portId).reg o = s.reg o := by
  unfold State.meetPeer
  rw [State.reg_setReg_ne _ _ _ _ hpeer]
  split
  · exact State.reg_setErr_ne _ (by decide) hpba herr
  · rfl

/-- The width a CONFIG brings follows from WIDTH_MAX, which meeting the peer leaves alone. -/
theorem State.configWidth_meetPeer (full : Bool) (portId : Word) (width mask : Nat) :
    (s.meetPeer n full portId).configWidth n width mask = s.configWidth n width mask := by
  have hctrl : (s.meetPeer n full portId).reg (R.MERE_CTRL n) = s.reg (R.MERE_CTRL n) :=
    State.reg_meetPeer_ne full portId (mere_ne_pbaReg _ _) (mere_offsets n _ _ (by decide)) (mere_offsets n _ _ (by decide))
  have hmax : (s.meetPeer n full portId).get (R.MERE_CTRL n) F.MERE_CTRL_WIDTH_MAX = s.get (R.MERE_CTRL n) F.MERE_CTRL_WIDTH_MAX := by
    rw [State.get, hctrl, State.get]
  rw [State.configWidth, State.widthFor, hmax, State.configWidth, State.widthFor]

/-- The peer's advertisement becomes the send credits; E stays. -/
theorem State.expect_takeAdvert (adv : List Nat) : ((s.takeAdvert n adv).link n).expect = (s.link n).expect := by
  rw [State.takeAdvert, foldl_keeps (fun t : State => (t.link n).expect) _ _ fun t c _ => by rw [State.link_setCredit], State.link_updLink_same]

/-- A CONFIG with this end's own PORT_ID. -/
theorem State.takeConfig_of_clash {width mask nextSeq : Nat} {adv : List Nat} (hconfig : s.linkState n = lsConfig) :
    s.takeConfig n width (s.reg (R.MERE_PORTID n)) mask nextSeq adv =
      ((s.meetPeer n (s.link n).full (s.reg (R.MERE_PORTID n))).setErr (R.MERE_ERR n) F.MERE_ERR_ID_CLASH).failConfig n := by
  have hactive : (lsConfig == lsActive) = false := rfl
  simp only [State.takeConfig, hconfig, hactive, beq_self_eq_true, Bool.false_and, Bool.not_true, Bool.or_false, Bool.false_eq_true, if_false, if_true]

/-- The peer is met, and in a full training its advertisement taken. -/
def State.configTaken (s : State) (n : Nat) (portId : Word) (adv : List Nat) : State :=
  if (s.link n).full then (s.meetPeer n true portId).takeAdvert n adv else s.meetPeer n false portId

theorem State.expect_configTaken (portId : Word) (adv : List Nat) : ((s.configTaken n portId adv).link n).expect = (s.link n).expect := by
  unfold State.configTaken
  split
  · rw [State.expect_takeAdvert, State.link_meetPeer]
  · rw [State.link_meetPeer]

/-- A CONFIG of another port, of a width this end can take, with credits enough. -/
theorem State.takeConfig_of_fit {width w mask nextSeq : Nat} {portId : Word} {adv : List Nat} (hconfig : s.linkState n = lsConfig)
    (hother : s.reg (R.MERE_PORTID n) ≠ portId) (hwidth : s.configWidth n width mask = some w)
    (hadv : (s.link n).full = true → creditsRefused adv = false) :
    s.takeConfig n width portId mask nextSeq adv =
      ((s.configTaken n portId adv).sendControl n { code := ctlConfigAck, nextSeq := (s.link n).expect }).enterActive n w mask nextSeq
        (!(s.link n).full) := by
  have hactive : (lsConfig == lsActive) = false := rfl
  have hexpect := State.expect_configTaken (s := s) (n := n) portId adv
  unfold State.configTaken at hexpect ⊢
  simp only [State.takeConfig, hconfig, hactive, beq_self_eq_true, Bool.false_and, Bool.not_true, Bool.or_false, Bool.false_eq_true, if_false, if_neg hother,
    State.configWidth_meetPeer, hwidth]
  cases hfull : (s.link n).full with
  | true =>
    rw [hfull, if_pos rfl] at hexpect
    simp only [hadv hfull, Bool.and_false, Bool.false_eq_true, if_false, if_true, hexpect]
  | false =>
    rw [hfull, if_neg Bool.false_ne_true] at hexpect
    simp only [Bool.false_and, Bool.false_eq_true, if_false, hexpect]

end Config

theorem exec_config (n : Fin 9) (width : Nat) (portId : Word) (mask : BitVec 16) (nextSeq : BitVec 12) (advert : List (BitVec 16)) (s : State) :
    exec (.config n width portId mask nextSeq advert) s =
      .next (s.takeConfig n width portId mask.toNat nextSeq.toNat (advert.map (·.toNat))).pumpAll := rfl

/-! ### CONFIG_ACK (R288) -/

/-- The widths of a link are told apart by their codes. -/
theorem find_widthOf (n : Fin 9) {w : Nat} (hw : w < 3) : [0, 1, 2].find? (fun k => widthOf n k == widthOf n w) = some w := by
  have hall : ∀ (n : Fin 9) (w : Fin 3), [0, 1, 2].find? (fun k => widthOf n k == widthOf n w) = some w.val := by decide
  exact hall n ⟨w, hw⟩

theorem exec_configAck_of_config {n : Fin 9} {w : Nat} {c : Ctl} {nextSeq : BitVec 12} {s : State} (hconfig : s.linkState n = lsConfig) (hw : w < 3)
    (hctl : (s.link n).ctl = some c) (hcode : c.code = ctlConfig) (hwidth : c.width = widthOf n w) :
    exec (.configAck n nextSeq) s = .next (s.enterActive n w c.mask nextSeq.toNat true) := by
  have hexec : exec (.configAck n nextSeq) s = .next (s.takeConfigAck n nextSeq.toNat) := rfl
  rw [hexec, State.takeConfigAck, hctl]
  simp only [hcode, ne_eq, not_true, if_false, hconfig, if_true, hwidth, find_widthOf n hw, Option.getD_some]

/-! ### Repeats, timeouts and limits (R288, R290) -/

theorem exec_controlRepeat_of_ctl {n : Fin 9} {c : Ctl} {s : State} (hctl : (s.link n).ctl = some c) :
    exec (.controlRepeat n) s = .next (s.sendControl n c) := by
  have hexec : exec (.controlRepeat n) s = execControlRepeat n s := rfl
  rw [hexec, execControlRepeat, hctl]

theorem exec_configTimeout_of_ctl {n : Fin 9} {c : Ctl} {s : State} (hctl : (s.link n).ctl = some c) (hcode : c.code = ctlReq ∨ c.code = ctlConfig) :
    exec (.configTimeout n) s = .next (s.failConfig n) := by
  have hexec : exec (.configTimeout n) s = execConfigTimeout n s := rfl
  rw [hexec, execConfigTimeout, hctl]
  exact if_pos hcode

theorem exec_retrainLimit_of_retrain {n : Fin 9} {s : State} (hup : lsEqualise ≤ s.linkState n) (hactive : s.linkState n ≠ lsActive)
    (hfull : (s.link n).full = false) (hrank : 2 ≤ (s.link n).rank) : exec (.retrainLimit n) s = .next (s.breakLink n) := by
  have hinactive : s.linkActive n = false := beq_eq_false_iff_ne.mpr hactive
  exact if_pos ⟨hup, by rw [hinactive]; rfl, by rw [hfull]; rfl, hrank⟩

/-- Settles O4: a request by what proceeding leaves (counted in CNT_RETRAINS as log entry 13 says), CONFIG by `State.takeConfig_of_clash` and
`State.takeConfig_of_fit`. -/
theorem linkNegotiates : Obligations.LinkNegotiates := by
  unfold Obligations.LinkNegotiates
  refine ⟨?req, ?follow, ?clash, ?config, ?configAck, ?again, ?timeout, ?limit⟩
  case req =>
    intro n portId s hactive
    have hexec : exec (.req n 1 portId) s = .next (s.takeReq n 1 portId.toNat) := rfl
    refine ⟨_, hexec.trans (congrArg _ (State.takeReq_widthChange hactive _)), ?_, ?_, ?_⟩
    · rw [State.linkState_setLinkState]
      rfl
    · rw [State.out_setLinkState, State.out_proceeding, State.out_followed]
    · rw [State.reg_setLinkState_ne _ _ _ _ (cntRetrains_ne_linkstat n), State.retrains_proceeding, State.reg_followed_ne (cntRetrains_ne_linkstat n)]
  case follow =>
    intro n rank s hrank hquiesce hown
    have hexec : exec (.follow n) s = .next (s.takeFollow n) := rfl
    refine ⟨_, hexec.trans (congrArg _ ((State.takeFollow_of_quiesce hquiesce hown).trans (s.proceed_retrain n rank true hrank))), ?_, ?_, ?_, ?_⟩
    · rw [State.linkState_setLinkState]
      rfl
    · rw [State.link_setLinkState, State.link_updLink_same]
      exact s.proceeded_proceeding n rank true
    · rw [State.link_setLinkState, State.link_updLink_same]
    · rw [State.reg_setLinkState_ne _ _ _ _ (cntRetrains_ne_linkstat n), State.reg_updLink_ne _ _ _ _ (cntRetrains_ne_linkstat n),
        State.retrains_proceeding]
  case clash =>
    intro n width mask nextSeq advert s hconfig
    rw [exec_config, State.takeConfig_of_clash hconfig]
  case config =>
    intro n width w portId mask nextSeq advert s hconfig hother hwidth hadv
    rw [exec_config, State.takeConfig_of_fit hconfig hother hwidth hadv, State.configTaken]
  case configAck => exact fun n w c nextSeq s => exec_configAck_of_config
  case again => exact fun n c s => exec_controlRepeat_of_ctl
  case timeout => exact fun n c s => exec_configTimeout_of_ctl
  case limit => exact fun n s => exec_retrainLimit_of_retrain

end Sys2Proof.Machine
end

section
/-!
The writes and events that drive a link, and its routes (R289 to R299).
-/
namespace Sys2Proof.Machine

/-! ### Lane errors, RETRAIN, WIDEN and BREAK (R290, R291, R299) -/

theorem exec_laneErrorBurst_of_reached {b : LaneBurst} {s : State} (hlane : b.lane.val < lanesOf b.link)
    (htime : b.us ≤ s.get (R.MERE_LANECFG b.link) F.MERE_LANECFG_WINDOW_US)
    (hthr : s.get (R.MERE_LANECFG b.link) F.MERE_LANECFG_UNCORR_THR ≤ b.uncorrectable ∨
      16 * s.get (R.MERE_LANECFG b.link) F.MERE_LANECFG_CORR_THR ≤ b.corrected) :
    exec (.laneErrorBurst b) s = .next (s.startRetrain b.link 3 false) := if_pos ⟨hlane, htime, hthr⟩

theorem portid_ne_ctrl (n : Nat) : R.MERE_PORTID n ≠ R.MERE_CTRL n := mere_offsets n _ _ (by decide)

section Ctrl
variable {s : State} {n : Nat}

/-- A write of CTRL leaves the window of retrains as it stands. -/
theorem State.recentRetrains_putFlag_ctrl (f : Fld) (b : Bool) : (s.putFlag (R.MERE_CTRL n) f b).recentRetrains n = s.recentRetrains n := by
  have hcycle : R.WELL_MCYCLE ≠ R.MERE_CTRL n := by
    unfold R.WELL_MCYCLE R.WELL_BASE R.MERE_CTRL R.MERE_BASE
    omega
  have hwindow : (s.putFlag (R.MERE_CTRL n) f b).get (R.MERE_TIMERS n) F.MERE_TIMERS_RETRAIN_WINDOW =
      s.get (R.MERE_TIMERS n) F.MERE_TIMERS_RETRAIN_WINDOW := State.get_put_ne _ _ _ _ _ _ (mere_offsets n _ _ (by decide))
  rw [State.recentRetrains, State.link_putFlag, State.reg_putFlag_ne _ _ _ _ _ hcycle, hwindow, State.recentRetrains]

/-- A one-bit command of CTRL that asks for a retrain of an ACTIVE link. -/
theorem State.startRetrain_of_ctrl {f : Fld} {all : Bool} (htop : f.lo + f.w ≤ 64) (hbit : f.w = 1) (hactive : s.linkState n = lsActive)
    (hfew : (s.recentRetrains n).length < 3) : ∃ t, (s.putFlag (R.MERE_CTRL n) f true).startRetrain n 3 all = t ∧ t.linkState n = lsQuiesce ∧
      (t.link n).ownReq = some 3 ∧ (t.link n).testAll = all ∧ t.out = s.out ++ [ctlOut s n { code := ctlReq, rank := 3 }] ∧
      t.flag (R.MERE_CTRL n) f = true := by
  obtain ⟨hstate, hown, hall, hout, hreg⟩ := State.startRetrain_asks (rank := 3) (all := all) ((s.linkState_putFlag_ctrl n f true).trans hactive)
    (.inr (by rwa [State.recentRetrains_putFlag_ctrl]))
  have hview : (s.putFlag (R.MERE_CTRL n) f true).ctlView n = s.ctlView n :=
    State.ctlView_setReg_ne _ (linkstat_ne_ctrl n) (portid_ne_ctrl n)
  refine ⟨_, rfl, hstate, hown, hall, ?_, ?_⟩
  · rw [hout, State.putFlag_out, ctlOut_congr hview]
  · rw [State.flag, State.get, hreg _ (linkstat_ne_ctrl n).symm]
    exact State.flag_putFlag_same s _ f true htop hbit

end Ctrl

theorem exec_mereBreak_of_on {n : Fin 9} {s : State} (hon : s.linkState n ≠ lsOff) :
    exec (.mereBreak n) s = .next ((s.putFlag (R.MERE_CTRL n) F.MERE_CTRL_BREAK true).breakLink n) :=
  if_neg (by rwa [State.linkState_putFlag_ctrl])

/-! ### WIDTH_CHANGE (R290, R299, R301) -/

/-- WIDTH_MAX and EXCLUDE as written. -/
def State.widthWritten (s : State) (n w exclude : Nat) : State :=
  (s.put (R.MERE_CTRL n) F.MERE_CTRL_WIDTH_MAX w).put (R.MERE_LANECFG n) F.MERE_LANECFG_EXCLUDE exclude

theorem exec_widthChange_of_exclude {n : Fin 9} {w : Fin 4} {exclude : BitVec 16} {s : State} (hw : w.val < 3)
    (hchange : exclude.toNat ≠ s.get (R.MERE_LANECFG n) F.MERE_LANECFG_EXCLUDE) :
    exec (.widthChange n w exclude) s = .next ((s.widthWritten n w exclude.toNat).startRetrain n 1 false) := by
  have hexec : exec (.widthChange n w exclude) s = execWidthChange n w exclude s := rfl
  have hbelow : ¬ w.val = 3 := by omega
  have hwritten : (exclude.toNat != s.get (R.MERE_LANECFG n) F.MERE_LANECFG_EXCLUDE) = true := bne_iff_ne.mpr hchange
  simp only [hexec, execWidthChange, if_neg hbelow, hwritten, Bool.or_true, if_true, State.widthWritten]

section Width
variable (s : State) (n w exclude : Nat)

theorem ctrl_ne_lanecfg : R.MERE_CTRL n ≠ R.MERE_LANECFG n := mere_offsets n _ _ (by decide)

theorem linkstat_ne_lanecfg : R.MERE_LINKSTAT n ≠ R.MERE_LANECFG n := mere_offsets n _ _ (by decide)

theorem portid_ne_lanecfg : R.MERE_PORTID n ≠ R.MERE_LANECFG n := mere_offsets n _ _ (by decide)

theorem State.linkState_widthWritten : (s.widthWritten n w exclude).linkState n = s.linkState n := by
  rw [State.widthWritten, State.linkState_put_ne _ _ _ _ _ (linkstat_ne_lanecfg n), State.linkState_put_ne _ _ _ _ _ (linkstat_ne_ctrl n)]

theorem State.ctlView_widthWritten : (s.widthWritten n w exclude).ctlView n = s.ctlView n :=
  (State.ctlView_setReg_ne _ (linkstat_ne_lanecfg n) (portid_ne_lanecfg n)).trans (State.ctlView_setReg_ne _ (linkstat_ne_ctrl n) (portid_ne_ctrl n))

theorem State.out_widthWritten : (s.widthWritten n w exclude).out = s.out := by
  rw [State.widthWritten, State.put_out, State.put_out]

theorem State.widthMax_widthWritten (hw : w < 4) : (s.widthWritten n w exclude).get (R.MERE_CTRL n) F.MERE_CTRL_WIDTH_MAX = w := by
  rw [State.widthWritten, State.get_put_ne _ _ _ _ _ _ (ctrl_ne_lanecfg n), State.get_put_same _ _ _ _ (by decide)]
  exact Nat.mod_eq_of_lt hw

theorem State.exclude_widthWritten (h : exclude < 2 ^ 16) : (s.widthWritten n w exclude).get (R.MERE_LANECFG n) F.MERE_LANECFG_EXCLUDE = exclude := by
  rw [State.widthWritten, State.get_put_same _ _ _ _ (by decide)]
  exact Nat.mod_eq_of_lt h

end Width

/-! ### Route entries (R295, R297) -/

theorem locate_route {e : Nat} (he : e < 4096) : locate (R.ROUTE e) = some (.mere, 0, 0x8000 + 8 * e) := by
  unfold R.ROUTE R.MERE_BASE locate
  rw [if_neg (by omega), if_neg (by omega), if_neg (by omega), if_neg (by omega), if_neg (by omega), if_pos (by omega)]
  simp only [Option.some.injEq, Prod.mk.injEq, true_and]
  omega

theorem fieldsAt_route {e : Nat} (he : e < 4096) : fieldsAt (R.ROUTE e) = [F.ROUTE_PRIMARY, F.ROUTE_ALT, F.ROUTE_VALID, F.ROUTE_ON_ALT] := by
  rw [fieldsAt, locate_route he]
  change fieldsMERE 0 (0x8000 + 8 * e) = _
  have hcounter : decide (0x8000 + 8 * e < 0x148) = false := decide_eq_false (by omega)
  have hlane : decide (0x8000 + 8 * e < 0x240) = false := decide_eq_false (by omega)
  have hroute : decide (0x8000 ≤ 0x8000 + 8 * e) = true := decide_eq_true (by omega)
  have haligned : ((0x8000 + 8 * e) % 8 == 0) = true := beq_iff_eq.mpr (by omega)
  unfold fieldsMERE
  split
  case h_14 =>
    rw [hcounter, Bool.and_false, Bool.false_and, if_neg Bool.false_ne_true, if_neg (show ¬ 0 = 8 by decide), hlane, Bool.and_false, Bool.false_and,
      if_neg Bool.false_ne_true, hroute, haligned]
    rfl
  all_goals omega

/-- No entry is valid after reset. -/
theorem regReset_route {e : Nat} (he : e < 4096) : regReset (R.ROUTE e) = 0 := by
  rw [regReset, fieldsAt_route he]
  rfl

section Routes
variable {s : State} {n e : Nat}

/-- The entries that name a port as primary are among the written ones. -/
theorem State.mem_routesOf (he : e < 4096) (hvalid : s.route e F.ROUTE_VALID = 1) (hprimary : s.route e F.ROUTE_PRIMARY = n) : e ∈ s.routesOf n := by
  have hwritten : R.ROUTE e ∈ Tbl.keys s.regs := by
    rcases Tbl.get_eq_default_or_mem regReset s.regs (R.ROUTE e) with h | h
    · have hzero : s.reg (R.ROUTE e) = 0 := h.trans (regReset_route he)
      rw [State.route, State.get, hzero] at hvalid
      exact absurd hvalid (by decide)
    · exact List.mem_map_of_mem (f := Prod.fst) h
  have hrange : R.ROUTE 0 ≤ R.ROUTE e ∧ R.ROUTE e < R.ROUTE 4096 := by
    unfold R.ROUTE
    omega
  have hindex : (R.ROUTE e - R.ROUTE 0) / 8 = e := by
    unfold R.ROUTE
    omega
  rw [State.routesOf, List.mem_filter]
  refine ⟨List.mem_map.mpr ⟨R.ROUTE e, List.mem_filter.mpr ⟨hwritten, by simpa using hrange⟩, hindex⟩, by simp [hvalid, hprimary]⟩

theorem route_injective {e d : Nat} (h : e ≠ d) : R.ROUTE e ≠ R.ROUTE d := by
  unfold R.ROUTE
  omega

theorem State.onAlt_put (t : State) (e : Nat) : (t.put (R.ROUTE e) F.ROUTE_ON_ALT 0).route e F.ROUTE_ON_ALT = 0 := State.get_put_same _ _ _ _ (by decide)

/-- Of the entries that go back, each one's traffic uses its primary port. -/
theorem State.onAlt_reverted {l : List Nat} (h : e ∈ l) :
    (l.foldl (fun s e => s.put (R.ROUTE e) F.ROUTE_ON_ALT 0) s).route e F.ROUTE_ON_ALT = 0 := by
  refine foldl_establishes (P := fun t => t.route e F.ROUTE_ON_ALT = 0) h s (fun t => ?_) fun t d _ ht => ?_
  · exact t.onAlt_put e
  · by_cases hd : e = d
    · subst hd
      exact t.onAlt_put e
    · exact (t.get_put_ne _ _ _ _ _ (route_injective hd)).trans ht

end Routes

theorem exec_routeRevert_of_active {n : Fin 8} {s : State} (hactive : s.linkState n = lsActive)
    (hrevert : s.get (R.MERE_CTRL n) F.MERE_CTRL_REVERT_MS ≠ 0) :
    exec (.routeRevert n) s = .next ((s.routesOf n).foldl (fun s e => s.put (R.ROUTE e) F.ROUTE_ON_ALT 0) s) :=
  if_pos ⟨State.linkActive_of_linkState hactive, hrevert⟩

/-! ### CLIENT_UNREACHABLE (R295) -/

/-- A client is noted as unreachable, once. -/
def State.noteUnreachable (s : State) (e : Nat) : State :=
  { s with fab := { s.fab with unreach := if s.fab.unreach.contains e then s.fab.unreach else s.fab.unreach ++ [e] } }

theorem State.mem_noteUnreachable (s : State) (e : Nat) : e ∈ (s.noteUnreachable e).fab.unreach := by
  change e ∈ if s.fab.unreach.contains e then s.fab.unreach else s.fab.unreach ++ [e]
  split
  next h => exact List.contains_iff_mem.mp h
  next => simp

theorem exec_clientUnreachable_of_waiting {ep : BitVec 12} {s : State} (hvalid : s.route ep.toNat F.ROUTE_VALID = 1)
    (hprimary : s.linkActive (s.route ep.toNat F.ROUTE_PRIMARY) = false) (halt : s.linkActive (s.route ep.toNat F.ROUTE_ALT) = false)
    (hwaits : (s.link (s.route ep.toNat F.ROUTE_PRIMARY)).queue.any (fun q => q.ep == ep.toNat) = true) :
    exec (.clientUnreachable ep) s =
      .next ((s.noteUnreachable ep.toNat).setErr (R.MERE_ERR (s.route ep.toNat F.ROUTE_PRIMARY)) F.MERE_ERR_CLIENT_UNREACHABLE) := by
  have hany : ((s.link (s.route ep.toNat F.ROUTE_PRIMARY)).queue ++ (s.link (s.route ep.toNat F.ROUTE_ALT)).queue).any (fun q => q.ep == ep.toNat) = true := by
    rw [List.any_append, hwaits, Bool.true_or]
  exact if_pos ⟨hvalid, by rw [hprimary]; rfl, by rw [halt]; rfl, hany⟩

/-! ### ROUTE_WRITE (R297) -/

/-- An entry as written. -/
def State.routeWritten (s : State) (e v : Nat) : State :=
  (((s.put (R.ROUTE e) F.ROUTE_PRIMARY (bitsOf v 0 3)).put (R.ROUTE e) F.ROUTE_ALT (bitsOf v 3 3)).putFlag (R.ROUTE e) F.ROUTE_VALID (bitOf v 6)).put
    (R.ROUTE e) F.ROUTE_ON_ALT 0

theorem exec_routeWrite (ep : BitVec 12) (v : Word) (s : State) : exec (.routeWrite ep v) s =
    if bitOf v.toNat 6 = true ∧ bitsOf v.toNat 0 3 = bitsOf v.toNat 3 3 then .next (s.setErr (R.MERE_ERR 0) F.MERE_ERR_ROUTE_REFUSED)
    else .next (s.routeWritten ep.toNat v.toNat) := rfl

section Written
variable (s : State) (e v : Nat)

theorem State.onAlt_routeWritten : (s.routeWritten e v).route e F.ROUTE_ON_ALT = 0 := State.onAlt_put _ e

theorem State.valid_routeWritten : (s.routeWritten e v).flag (R.ROUTE e) F.ROUTE_VALID = bitOf v 6 := by
  rw [State.routeWritten, State.flag, State.get_put_disjoint _ _ _ _ _ (by decide) (by decide)]
  exact State.flag_putFlag_same _ _ _ _ (by decide) rfl

theorem State.alt_routeWritten : (s.routeWritten e v).route e F.ROUTE_ALT = bitsOf v 3 3 := by
  rw [State.routeWritten, State.route, State.get_put_disjoint _ _ _ _ _ (by decide) (by decide), State.putFlag,
    State.get_put_disjoint _ _ _ _ _ (by decide) (by decide), State.get_put_same _ _ _ _ (by decide)]
  exact Nat.mod_eq_of_lt (bitsOf_lt v 3 3)

theorem State.primary_routeWritten : (s.routeWritten e v).route e F.ROUTE_PRIMARY = bitsOf v 0 3 := by
  rw [State.routeWritten, State.route, State.get_put_disjoint _ _ _ _ _ (by decide) (by decide), State.putFlag,
    State.get_put_disjoint _ _ _ _ _ (by decide) (by decide), State.get_put_disjoint _ _ _ _ _ (by decide) (by decide),
    State.get_put_same _ _ _ _ (by decide)]
  exact Nat.mod_eq_of_lt (bitsOf_lt v 0 3)

theorem State.reg_routeWritten_ne {o : Nat} (h : o ≠ R.ROUTE e) : (s.routeWritten e v).reg o = s.reg o := by
  rw [State.routeWritten, State.reg_put_ne _ _ _ _ _ h, State.reg_putFlag_ne _ _ _ _ _ h, State.reg_put_ne _ _ _ _ _ h, State.reg_put_ne _ _ _ _ _ h]

end Written

/-- Settles O5: the requests by `State.startRetrain_asks`, the routes by what each entry holds once written. -/
theorem linkCommands : Obligations.LinkCommands := by
  unfold Obligations.LinkCommands
  refine ⟨?burst, ?retrain, ?widen, ?breaks, ?width, ?revert, ?unreachable, ?write, ?refused⟩
  case burst =>
    intro n lane uncorr corr us s hactive hfew hlane htime hthr
    rw [exec_laneErrorBurst_of_reached (b := ⟨n, lane, uncorr, corr, us⟩) hlane htime hthr, State.startRetrain_of_active hactive (.inr hfew), Link.asking]
  case retrain =>
    intro n s hactive hfew
    obtain ⟨t, ht, hstate, hown, -, hout, hflag⟩ := State.startRetrain_of_ctrl (f := F.MERE_CTRL_RETRAIN) (all := false) (by decide) rfl hactive hfew
    exact ⟨t, congrArg Host.Outcome.next ht, hstate, hown, hout, hflag⟩
  case widen =>
    intro n s hactive hfew
    obtain ⟨t, ht, hrest⟩ := State.startRetrain_of_ctrl (f := F.MERE_CTRL_WIDEN) (all := true) (by decide) rfl hactive hfew
    exact ⟨t, congrArg Host.Outcome.next ht, hrest⟩
  case breaks => exact fun n s => exec_mereBreak_of_on
  case width =>
    intro n w exclude s hactive hw hchange
    obtain ⟨hstate, hown, -, hout, hreg⟩ := State.startRetrain_asks (rank := 1) (all := false)
      ((s.linkState_widthWritten n w exclude.toNat).trans hactive) (.inl (by decide))
    refine ⟨_, exec_widthChange_of_exclude hw hchange, hstate, hown, ?_, ?_, ?_⟩
    · rw [State.get, hreg _ (linkstat_ne_ctrl n).symm]
      exact s.widthMax_widthWritten n w _ w.isLt
    · rw [State.get, hreg _ (linkstat_ne_lanecfg n).symm]
      exact s.exclude_widthWritten n w _ exclude.isLt
    · rw [hout, ctlOut_congr (s.ctlView_widthWritten n w exclude.toNat), State.out_widthWritten]
  case revert =>
    intro n s hactive hrevert
    exact ⟨_, exec_routeRevert_of_active hactive hrevert, fun e he hvalid hprimary => State.onAlt_reverted (State.mem_routesOf he hvalid hprimary)⟩
  case unreachable =>
    intro ep s hvalid hprimary halt hwaits
    refine ⟨_, exec_clientUnreachable_of_waiting hvalid hprimary halt hwaits, ?_, ?_⟩
    · rw [State.setErr_fab _ _ (by decide)]
      exact s.mem_noteUnreachable _
    · rw [State.setErr_noAlarm _ _ _ _ (alarmOf_eq_none (by decide) _), State.setErrOnly_same _ _ _ _ (show R.MERE_ERR _ ≠ pbaReg from mere_ne_pbaReg _ _)]
      rfl
  case write =>
    intro ep v s hformed
    have hother : ¬(bitOf v.toNat 6 = true ∧ bitsOf v.toNat 0 3 = bitsOf v.toNat 3 3) := by
      rintro ⟨hvalid, hsame⟩
      rcases hformed with h | h
      · rw [hvalid] at h
        exact absurd h (by decide)
      · exact h hsame
    exact ⟨_, (exec_routeWrite ep v s).trans (if_neg hother), s.primary_routeWritten _ _, s.alt_routeWritten _ _, s.valid_routeWritten _ _,
      s.onAlt_routeWritten _ _, fun o ho => s.reg_routeWritten_ne _ _ ho⟩
  case refused => exact fun ep v s hvalid hsame => (exec_routeWrite ep v s).trans (if_pos ⟨hvalid, hsame⟩)

end Sys2Proof.Machine
end

section
/-!
Requests that a port turns away (R309, R362, R588) and packets on the mesh (R321 to R331).
-/
namespace Sys2Proof.Machine

/-! ### A request that arrives (R309, R362, R588) -/

section Arriving
variable {s a : State} {port w0 w1 dt : Nat} {payload : List Byte} {formed : Bool} (hclass : pkClass w0 = 4)
  (ha : (s.takeDelivered port (pkBytes w0 w1 payload)).portTime port dt = a)
include hclass ha

theorem State.arrives_of_duplicate (hdup : a.isDuplicate w0 = true) : s.arrives port w0 w1 payload dt formed = (a, false) := by
  simp [State.arrives, hclass, ha, hdup]

variable (hdup : a.isDuplicate w0 = false)
include hdup

theorem State.arrives_of_dead (hdead : (a.record (pkEp w0) (pkTxn w0)).isDead (pkEp w0) = true) :
    s.arrives port w0 w1 payload dt formed = ((a.record (pkEp w0) (pkTxn w0)).sendPkt (cmpTo (pkEp w0) (pkTxn w0) stDenied), false) := by
  simp [State.arrives, hclass, ha, hdup, hdead]

variable (hlive : (a.record (pkEp w0) (pkTxn w0)).isDead (pkEp w0) = false)
include hlive

theorem State.arrives_of_malformed : s.arrives port w0 w1 payload dt false =
    ((a.record (pkEp w0) (pkTxn w0)).badPacket.sendPkt (cmpTo (pkEp w0) (pkTxn w0) stUnsupported), false) := by
  simp [State.arrives, State.malformed, hclass, ha, hdup, hlive]

theorem State.arrives_of_early {hint : Nat} (hturned : (a.record (pkEp w0) (pkTxn w0)).turnAway = some hint) :
    s.arrives port w0 w1 payload dt true = ((a.record (pkEp w0) (pkTxn w0)).retryAfter (pkEp w0) (pkTxn w0) hint, false) := by
  simp [State.arrives, hclass, ha, hdup, hlive, hturned]

end Arriving

theorem State.turnAway_of_early {s : State} (h : s.get R.GLOB_STATUS F.GLOB_STATUS_PHASE < 4) : s.turnAway = some 1000 := if_pos h

/-- A request that its port turns away goes no further. -/
theorem exec_rdShared_of_turned {port : Fin 8} {w0 w1 : Word} {payload : List Byte} {dt : Nat} (hold : Bool) {s t : State}
    (h : s.arrives port w0.toNat w1.toNat payload dt (pkFormed w0.toNat 4 1 (adReserved w1.toNat) payload [0]) = (t, false)) :
    exec (.rdShared port w0 w1 payload dt hold) s = .next t := by
  show Host.Outcome.next (s.coherent .rdShared 1 [0] port w0.toNat w1.toNat payload dt hold) = _
  rw [State.coherent, h]

/-- Settles O22: each by what its arrival leaves, checked in the order of `State.arrives`. -/
theorem requestsTurnedAway : Obligations.RequestsTurnedAway := by
  unfold Obligations.RequestsTurnedAway
  intro port w0 w1 payload dt hold s a u formed hclass
  refine ⟨fun hdup => ?duplicate, fun hdup => ⟨fun hdead => ?dead, fun hlive hbad => ?malformed, fun hlive hgood hphase => ?early⟩⟩
  all_goals apply exec_rdShared_of_turned
  case duplicate => exact State.arrives_of_duplicate hclass rfl hdup
  case dead => exact State.arrives_of_dead hclass rfl hdup hdead
  case malformed => exact (congrArg _ hbad).trans (State.arrives_of_malformed hclass rfl hdup hlive)
  case early => exact (congrArg _ hgood).trans (State.arrives_of_early hclass rfl hdup hlive (State.turnAway_of_early hphase))

/-! ### A packet at its destination (R327 to R331) -/

/-- Leaving a state with no reassembly entries changes nothing where it holds none. -/
theorem State.with_txns_nil {s : State} (h : s.mesh.txns = []) : ({ s with mesh := { s.mesh with txns := [] } } : State) = s := by
  rw [← h]

/-- The reassembly entry that a transaction's first packet opens (R328). -/
def firstEntry (w : Nat) : MeshTxn :=
  { sx := sbSrcX w, sy := sbSrcY w, sport := sbSrcPort w, tid := sbTid w, dx := sbDestX w, dy := sbDestY w, dport := sbDestPort w,
    total := sbTotal w, got := [sbPseq w] }

theorem exec_meshPacketArrival_of_noUnit {sb : BitVec 96} (s : State)
    (h : (unitAtPort (sbDestX sb.toNat) (sbDestY sb.toNat) (sbDestPort sb.toNat)).isNone = true) :
    exec (.meshPacketArrival sb) s = .next ((s.setErr R.SHAL_ERR F.SHAL_ERR_UNROUTABLE).returnReservation sb.toNat) := if_pos h

/-- The first packet of a transaction, at a unit that no wrapper holds, completes it or opens its entry. -/
theorem exec_meshPacketArrival_of_first {sb : BitVec 96} {s : State} {w : Nat} (hw : sb.toNat = w)
    (hunit : (unitAtPort (sbDestX w) (sbDestY w) (sbDestPort w)).any (fun u => !s.meshHeld u) = true) (hnone : s.mesh.txns = [])
    (hseq : sbPseq w < sbTotal w) (hlast : sbLast w = true → sbPseq w + 1 = sbTotal w) :
    exec (.meshPacketArrival sb) s = if sbTotal w = 1 then
        .next ((s.returnReservation w).send (.mesh "COMPLETE"
          [sbDestX w, sbDestY w, sbDestPort w, sbSrcX w, sbSrcY w, sbSrcPort w, sbTid w, sbTotal w]))
      else .next { s with mesh := { s.mesh with txns := [firstEntry w] } } := by
  obtain ⟨u, hu, hfree⟩ := (Option.any_eq_true _ _).mp hunit
  have hheld : s.meshHeld u = false := by simpa using hfree
  have hgood : ¬ (sbTotal w ≤ sbPseq w) ∧ ¬ (sbLast w = true ∧ ¬ sbPseq w + 1 = sbTotal w) := ⟨by omega, fun h => h.2 (hlast h.1)⟩
  show execMeshPacketArrival sb s = _
  simp [execMeshPacketArrival, hw, hu, hheld, hnone, hgood, firstEntry, eq_comm (a := 1), State.with_txns_nil hnone]

/-! ### A router's cycle (R323 to R327) -/

/-- A fold over steps that change nothing. -/
theorem foldl_of_idle {α β : Type} {f : β → α → β} {l : List α} {b : β} (h : ∀ q ∈ l, f b q = b) : l.foldl f b = b := by
  induction l with
  | nil => rfl
  | cons q l ih =>
    rw [List.foldl_cons, h q List.mem_cons_self]
    exact ih fun r hr => h r (List.mem_cons_of_mem _ hr)

/-- A fold in which one element alone does anything. -/
theorem foldl_of_only {α β : Type} {f : β → α → β} {l : List α} {p : α} (hp : p ∈ l) (hl : l.Nodup) (hidle : ∀ b, ∀ q ≠ p, f b q = b) (b : β) :
    l.foldl f b = f b p := by
  obtain ⟨l₁, l₂, rfl⟩ := List.append_of_mem hp
  obtain ⟨-, hright, hleft⟩ := List.nodup_append.mp hl
  have hbefore : ∀ q ∈ l₁, f b q = b := fun q hq => hidle b q (hleft q hq p List.mem_cons_self)
  have hafter : ∀ q ∈ l₂, f (f b p) q = f b p := fun q hq => hidle _ q fun h => (List.nodup_cons.mp hright).1 (h ▸ hq)
  rw [List.foldl_append, foldl_of_idle hbefore, List.foldl_cons, foldl_of_idle hafter]

/-- The order in which a router's ports are offered the free links: round robin from one of them (R323). -/
def portOrder (first : Nat) : List Nat := (List.range 4).map (fun i => (first + i) % 4)

theorem mem_portOrder {p : Nat} (hp : p < 4) (first : Nat) : p ∈ portOrder first :=
  List.mem_map.mpr ⟨(p + 3 * first) % 4, List.mem_range.mpr (Nat.mod_lt _ (by decide)), by omega⟩

theorem nodup_portOrder (first : Nat) : (portOrder first).Nodup :=
  List.nodup_range.map_on fun i hi j hj h => by
    rw [List.mem_range] at hi hj
    omega

/-- The links of a router that lead to another (R321). -/
def routerLinks (x y : Nat) : List Nat := (List.range 4).filter (fun l => (linkAt x y l).isSome)

theorem routerLinks_ne_nil (x : Fin 16) (y : Fin 12) : routerLinks x y ≠ [] := by
  by_cases hx : x.val + 1 < 16
  · exact List.ne_nil_of_mem (a := 0) (List.mem_filter.mpr ⟨by decide, by simp [linkAt, hx]⟩)
  · exact List.ne_nil_of_mem (a := 1) (List.mem_filter.mpr ⟨by decide, by simp [linkAt, show 0 < x.val by omega]⟩)

theorem State.inject_nil (s : State) (x y : Nat) (free : List Nat) : s.inject x y free [] = s := by
  rw [State.inject]
  exact congrArg Prod.fst (foldl_of_idle fun _ _ => rfl)

/-- A unicast packet's injection, before it is routed: it holds its reservation and is counted, its port starves no more, and the next port has the turn
(R323, R325, R327). -/
def State.injected (s : State) (x y p w : Nat) : State :=
  let u := ((s.noteInjected w).bump R.SHAL_CNT_INJECTED).unstarve x y p
  { u with mesh := { u.mesh with turn := Tbl.set (fun _ => 0) u.mesh.turn (16 * y + x) ((p + 1) % 4) } }

/-- One unicast packet waits, at a port that may inject, and a link is free: it is injected and routed. -/
theorem State.inject_of_one {s : State} {x y p w : Nat} {free : List Nat} (hp : p < 4) (hfree : free ≠ []) (hmay : s.mayInject x y p = true)
    (hbegin : s.mayBegin w = true) (hmc : sbMc w = 0) : s.inject x y free [(p, w)] = (State.routeOne (s.injected x y p w) w x y free).1 := by
  rw [State.inject]
  refine congrArg Prod.fst ((foldl_of_only (mem_portOrder hp _) (nodup_portOrder _) (fun acc q hq => ?_) _).trans ?_)
  · simp [Ne.symm hq]
  · simp [hfree, hmay, hbegin, hmc, State.injected]

/-- A unicast packet at its destination's router is delivered at its port (R323). -/
theorem State.routeOne_of_home {w x y : Nat} (s : State) (free : List Nat) (hmc : sbMc w = 0) (hx : sbDestX w = x) (hy : sbDestY w = y) (hrow : y < 12) :
    State.routeOne s w x y free = (s.ejectAt w x y (sbDestPort w), free) := by
  have hsomewhere : sbNowhere w = false := by simp [sbNowhere, hmc, hy, hrow]
  simp [State.routeOne, hsomewhere, hmc, hx, hy]

section Hop
variable (x : Fin 16) (y : Fin 12) (s : State)

/-- One packet arrives: aged to `w`, it is routed (R323, R325). -/
theorem exec_meshHop_of_arrival {a : BitVec 96 × Bool} {w : Nat} (hw : sbSetAge a.1.toNat (sbAge a.1.toNat + (if a.2 then 3 else 1)) = w) :
    exec (.meshHop x y [a] []) s = .next (State.routeOne (s.countCycleAt x y) w x y (routerLinks x y)).1 := by
  show execMeshHop x y [a] [] s = _
  simp only [execMeshHop, List.take_succ_cons, List.take_nil, List.map_cons, List.map_nil, List.foldl_cons, List.foldl_nil, insertByAge, hw,
    State.inject_nil, routerLinks]

theorem exec_meshHop_of_injection (p : Fin 4) (sb : BitVec 96) :
    exec (.meshHop x y [] [(p, sb)]) s = .next ((s.countCycleAt x y).inject x y (routerLinks x y) [(p.val, sb.toNat)]) := rfl

theorem exec_meshHop_of_nothing : exec (.meshHop x y [] []) s = .next (s.countCycleAt x y) := congrArg Host.Outcome.next (State.inject_nil _ _ _ _)

end Hop

/-! ### Alarms of the mesh (R325, R336) -/

theorem State.mesh_aside : Aside State.mesh where
  setReg _ _ _ _ := rfl
  send _ _ := rfl
  setCore _ _ _ := rfl
  fab _ _ := rfl
  pair _ _ := rfl
  ras _ _ := rfl
  tick _ := rfl

/-- An error bit that raises no alarm reads as set. -/
theorem State.flag_setErr_same (s : State) {o : Nat} {f : Fld} (hf : f ∉ alarmFields) (hpba : o ≠ pbaReg) (hlo : f.lo < 64) (hw : 0 < f.w) :
    (s.setErr o f).flag o f = true := by
  have hreg : (s.setErr o f).reg o = s.reg o ||| BitVec.ofNat 64 (1 * 2 ^ f.lo) := by
    rw [State.setErr_noAlarm _ _ _ _ (alarmOf_eq_none hf o), State.setErrOnly_same _ _ _ _ hpba]
  have hmod : 2 ^ f.lo % 2 ^ 64 = 2 ^ f.lo := Nat.mod_eq_of_lt (Nat.pow_lt_pow_right (by decide) hlo)
  have hbit : (bitsOf ((s.setErr o f).reg o).toNat f.lo f.w).testBit 0 = true := by
    rw [hreg, BitVec.toNat_or, BitVec.toNat_ofNat, one_mul, hmod, bitsOf, Nat.testBit_mod_two_pow, Nat.testBit_div_two_pow, Nat.zero_add,
      Nat.testBit_or, Nat.testBit_two_pow_self, Bool.or_true, decide_eq_true hw, Bool.true_and]
  refine bne_iff_ne.mpr fun hzero => ?_
  rw [State.get] at hzero
  simp [hzero] at hbit

/-- The first port that starves is noted, and raises the throttle (R325). -/
theorem exec_starvationThrottle_of_first {x : Fin 16} {y : Fin 12} {p : Fin 4} {s : State} (hnone : s.mesh.starved = [])
    (hfirst : s.flag R.SHAL_STATUS F.SHAL_STATUS_THROTTLE = false) :
    exec (.starvationThrottle x y p) s =
      .next (((({ s with mesh := { s.mesh with starved := [(x.val, y.val, p.val)] } } : State).put R.SHAL_STATUS F.SHAL_STATUS_THROTTLE 1).bump
        R.SHAL_CNT_STARVE_EVENTS).setErr R.SHAL_ERR F.SHAL_ERR_THROTTLE) := by
  show execStarvationThrottle x y p s = _
  simp [execStarvationThrottle, hfirst, hnone]

/-- Settles O30: arrivals by `exec_meshPacketArrival_of_first`, a hop by what it routes or injects, the throttle by what each of its registers keeps. -/
theorem meshPackets : Obligations.MeshPackets := by
  unfold Obligations.MeshPackets
  refine ⟨?noUnit, ?only, ?several, ?home, ?inject, ?nothing, ?starves, ?aged⟩
  case noUnit => exact fun sb s => exec_meshPacketArrival_of_noUnit s
  case only =>
    intro sb s w hunit hnone htotal hseq
    rw [exec_meshPacketArrival_of_first (w := w) rfl hunit hnone (by omega) (fun _ => by omega), if_pos htotal, htotal]
  case several =>
    intro sb s w hunit hnone htotal hseq hlast
    exact (exec_meshPacketArrival_of_first (w := w) rfl hunit hnone hseq (fun h => absurd h (by simp [hlast]))).trans (if_neg (by omega))
  case home =>
    intro x y sb crossed s w hmc hx hy
    rw [exec_meshHop_of_arrival x y s (a := (sb, crossed)) (w := w) rfl, State.routeOne_of_home _ _ hmc hx hy y.isLt]
  case inject =>
    intro x y p sb s w c u hmay hbegin hmc
    rw [exec_meshHop_of_injection, State.inject_of_one p.isLt (routerLinks_ne_nil x y) hmay hbegin hmc]
    rfl
  case nothing => exact fun x y s => exec_meshHop_of_nothing x y s
  case starves =>
    intro x y p s hnone hfirst
    refine ⟨_, exec_starvationThrottle_of_first hnone hfirst, ?_, ?_, ?_, State.flag_setErr_same _ (by decide) (by decide) (by decide) (by decide)⟩
    · rw [State.mesh_aside.setErr _ (by decide) (besideChCtrl_low (by decide)), State.bump_mesh, State.put_mesh]
    · rw [State.flag, State.get, State.reg_setErr_ne _ (by decide) (by decide) (by decide), State.reg_bump_ne _ _ _ _ (by decide), ← State.get,
        State.get_put_same _ _ _ _ (by decide)]
      rfl
    · rw [State.reg_setErr_ne _ (by decide) (by decide) (by decide), State.reg_bump_same, State.reg_put_ne _ _ _ _ _ (by decide)]
      rfl
  case aged => exact fun sb s h => if_pos h

end Sys2Proof.Machine
end

section
/-!
A client declared dead (R362, R363).
-/
namespace Sys2Proof.Machine

/-! ### Registers below the channel controllers that an alarm leaves alone (R540, R545) -/

section LowRegisters
variable {o : Nat} (hpba : o ≠ pbaReg) (hlow : o < 0x1000000)
include hlow

theorem ne_chCnt_of_low (u i : Nat) : o ≠ chCnt u i := by
  simp only [chCnt, R.POND_BASE, R.SPILL_BASE]
  split <;> omega

theorem ne_mgmt_of_low (k : Nat) : o ≠ R.MGMT_BASE + k := by
  simp only [R.MGMT_BASE]
  omega

theorem State.reg_wrote_low (s : State) (pa : Nat) : (s.wrote pa).reg o = s.reg o := by
  unfold State.wrote
  split
  · rfl
  · exact (State.reg_updChan _ _ _ _).trans (State.reg_bump_ne _ _ _ _ (ne_chCnt_of_low hlow _ _))

theorem State.reg_showHeld_low (s : State) : s.showHeld.reg o = s.reg o := by
  have hstatus : o ≠ R.MGMT_STATUS := ne_mgmt_of_low hlow _
  rw [State.showHeld, State.reg_put_ne _ _ _ _ _ hstatus, State.reg_putFlag_ne _ _ _ _ _ hstatus]

include hpba

theorem State.reg_ringEvent_low (s : State) (r : EvRec) : (s.ringEvent r).reg o = s.reg o := by
  have hptr : o ≠ R.MGMT_EVT_PTR := ne_mgmt_of_low hlow _
  unfold State.ringEvent
  rw [State.interrupt_reg _ _ _ hpba, State.reg_put_ne _ _ _ _ _ hptr, State.reg_wrote_low hlow]
  rfl

theorem State.reg_writeEvent_low (s : State) (r : EvRec) : (s.writeEvent r).reg o = s.reg o := by
  unfold State.writeEvent
  extract_lets m t
  have ht : t.reg o = s.reg o := State.reg_showHeld_low hlow _
  split
  · exact State.reg_ringEvent_low hpba hlow s r
  · split
    · exact (State.setErrOnly_ne _ _ _ _ _ hpba (ne_mgmt_of_low hlow _)).trans ht
    · exact ht

/-- An alarm of the Wellhead's own blocks changes registers of the management block and of channels alone, beside the pending bits of vectors. -/
theorem State.reg_raiseAlarm_low (s : State) (a : Alarm) : (s.raiseAlarm a).reg o = s.reg o := by
  have hcount : o ≠ R.MGMT_ALARMCNT a.bit := by
    rw [R.MGMT_ALARMCNT, Nat.add_assoc]
    exact ne_mgmt_of_low hlow _
  unfold State.raiseAlarm State.accumulateAlarm
  extract_lets t u
  have ht : t.reg o = s.reg o := State.reg_bumpSat_ne _ _ _ _ _ hcount
  have hu : u.reg o = t.reg o := State.reg_setReg_ne _ _ _ _ (ne_mgmt_of_low hlow _)
  split
  · exact ht
  · split
    · exact hu.trans ht
    · exact (State.reg_writeEvent_low hpba hlow u _).trans (hu.trans ht)

end LowRegisters

/-! ### Bits that an error or a mark sets (R362, R371, R373) -/

theorem bitOf_or_two_pow (v : BitVec 64) {i : Nat} (hi : i < 64) (j : Nat) :
    bitOf (v ||| BitVec.ofNat 64 (2 ^ i)).toNat j = (bitOf v.toNat j || decide (i = j)) := by
  have hbit : 2 ^ i % 2 ^ 64 = 2 ^ i := Nat.mod_eq_of_lt (Nat.pow_lt_pow_right (by decide) hi)
  rw [bitOf_eq_testBit, bitOf_eq_testBit, BitVec.toNat_or, BitVec.toNat_ofNat, hbit, Nat.testBit_or, Nat.testBit_two_pow]

/-- A field of one bit is set where its bit is 1. -/
theorem State.flag_eq_bitOf (s : State) (o : Nat) {f : Fld} (hf : f.w = 1) : s.flag o f = bitOf (s.reg o).toNat f.lo := by
  rw [State.flag, State.get, hf, bitsOf, bitOf, pow_one]
  rcases Nat.mod_two_eq_zero_or_one ((s.reg o).toNat / 2 ^ f.lo) with h | h <;> rw [h] <;> rfl

/-! ### The mark, the error bit and the count (R362, R363) -/

/-- An offset of the directory block (R369). -/
def inDir (o : Nat) : Prop := R.DIR_BASE ≤ o ∧ o < R.DIR_BASE + 0x10000

theorem inDir_err : inDir R.DIR_ERR := ⟨by decide, by decide⟩

theorem inDir_deaths : inDir R.DIR_CNT_DEATHS := ⟨by decide, by decide⟩

theorem inDir_dead {f : Nat} (hf : f < 4096) : inDir (R.DIR_DEAD (f / 64)) := by
  simp only [inDir, R.DIR_DEAD]
  omega

theorem inDir.ne_pba {o : Nat} (h : inDir o) : o ≠ pbaReg := (lt_of_lt_of_le (by decide) h.1).ne'

theorem inDir.low {o : Nat} (h : inDir o) : o < 0x1000000 := by
  obtain ⟨-, htop⟩ := h
  simp only [R.DIR_BASE] at htop
  omega

theorem dirDead_ne {o : Nat} (h : o < R.DIR_DEAD 0) (k : Nat) : R.DIR_DEAD k ≠ o := (h.trans_le (Nat.le_add_right _ _)).ne'

/-- DEATH raises the alarm of a dead client (R545). -/
theorem State.setErr_death (s : State) : s.setErr R.DIR_ERR F.DIR_ERR_DEATH = (s.setErrOnly R.DIR_ERR F.DIR_ERR_DEATH).raiseAlarm .clientDead := by
  have halarm : alarmOf R.DIR_ERR F.DIR_ERR_DEATH = some (none, .clientDead) := by decide
  simp only [State.setErr, halarm]

theorem State.reg_setErr_death_ne (s : State) {o : Nat} (ho : inDir o) (hne : o ≠ R.DIR_ERR) : (s.setErr R.DIR_ERR F.DIR_ERR_DEATH).reg o = s.reg o := by
  rw [State.setErr_death, State.reg_raiseAlarm_low ho.ne_pba ho.low, State.setErrOnly_ne _ _ _ _ _ ho.ne_pba hne]

theorem State.reg_setErr_death_same (s : State) :
    (s.setErr R.DIR_ERR F.DIR_ERR_DEATH).reg R.DIR_ERR = s.reg R.DIR_ERR ||| BitVec.ofNat 64 (1 * 2 ^ F.DIR_ERR_DEATH.lo) := by
  rw [State.setErr_death, State.reg_raiseAlarm_low inDir_err.ne_pba inDir_err.low, State.setErrOnly_same _ _ _ _ inDir_err.ne_pba]

/-- What a death leaves in the directory's own registers: the bit in DIR_DEAD, DEATH, and one more in DIR_CNT_DEATHS. -/
def State.markedDead (s : State) (e : Nat) : State :=
  ((s.setReg (R.DIR_DEAD (e / 64)) (s.reg (R.DIR_DEAD (e / 64)) ||| BitVec.ofNat 64 (2 ^ (e % 64)))).setErr R.DIR_ERR F.DIR_ERR_DEATH).bump
    R.DIR_CNT_DEATHS

section MarkedDead
variable (s : State) (e : Nat)

theorem State.isDead_markedDead {f : Nat} (hf : f < 4096) : (s.markedDead e).isDead f = (s.isDead f || decide (e = f)) := by
  have hreg : (s.markedDead e).reg (R.DIR_DEAD (f / 64)) = if R.DIR_DEAD (f / 64) = R.DIR_DEAD (e / 64)
      then s.reg (R.DIR_DEAD (e / 64)) ||| BitVec.ofNat 64 (2 ^ (e % 64)) else s.reg (R.DIR_DEAD (f / 64)) := by
    rw [State.markedDead, State.reg_bump_ne _ _ _ _ (dirDead_ne (by decide) _), State.reg_setErr_death_ne _ (inDir_dead hf) (dirDead_ne (by decide) _),
      State.reg_setReg]
  rw [State.isDead, State.isDead, hreg]
  by_cases hword : f / 64 = e / 64
  · have hsame : e % 64 = f % 64 ↔ e = f := by omega
    rw [hword, if_pos rfl, bitOf_or_two_pow _ (Nat.mod_lt _ (by decide)), decide_eq_decide.mpr hsame]
  · have hne : R.DIR_DEAD (f / 64) ≠ R.DIR_DEAD (e / 64) := by
      simp only [R.DIR_DEAD]
      omega
    have hother : e ≠ f := fun h => hword (h ▸ rfl)
    rw [if_neg hne, decide_eq_false hother, Bool.or_false]

theorem State.flag_death_markedDead : (s.markedDead e).flag R.DIR_ERR F.DIR_ERR_DEATH = true := by
  rw [State.flag_eq_bitOf _ _ rfl, State.markedDead, State.reg_bump_ne _ _ _ _ (by decide), State.reg_setErr_death_same, one_mul,
    bitOf_or_two_pow _ (by decide), decide_eq_true rfl, Bool.or_true]

theorem State.deaths_markedDead : (s.markedDead e).reg R.DIR_CNT_DEATHS = s.reg R.DIR_CNT_DEATHS + 1 := by
  rw [State.markedDead, State.reg_bump_same, State.reg_setErr_death_ne _ inDir_deaths (by decide),
    State.reg_setReg_ne _ _ _ _ (dirDead_ne (by decide) _).symm]
  rfl

/-- A mark leaves alone what an alarm leaves alone. -/
theorem AsideMem.markedDead {β : Type} {p : State → β} (hp : AsideMem p) (he : e < 4096) : p (s.markedDead e) = p s := by
  have hdir {o : Nat} (h : inDir o) : besideChCtrl o := besideChCtrl_low h.low
  rw [State.markedDead, hp.bump _ _ (hdir inDir_deaths), State.setErr_death, hp.raiseAlarm, hp.setErrOnly _ _ _ (hdir inDir_err),
    hp.setReg _ _ _ (hdir (inDir_dead he))]

end MarkedDead

/-! ### What an alarm and a link leave alone of the homes, the Inlets and the pins -/

theorem State.home_asideMem : AsideMem State.home where
  setReg _ _ _ _ := rfl
  send _ _ := rfl
  setCore _ _ _ := rfl
  fab _ _ := rfl
  pair _ _ := rfl
  ras _ _ := rfl
  tick _ := rfl
  pool _ _ := rfl
  mgmt _ _ := rfl
  xlat _ _ := rfl
  updChan _ _ _ _ := rfl

theorem State.jobs_asideMem : AsideMem State.jobs where
  toAside := State.jobs_aside
  pool _ _ := rfl
  mgmt _ _ := rfl
  xlat _ _ := rfl
  updChan _ _ _ _ := rfl

@[simp] theorem State.markedDead_kv (s : State) (e : Nat) : (s.markedDead e).kv = s.kv := by
  rw [State.markedDead, State.bump_kv, State.setErr_kv, State.setReg_kv]

/-! ### The Notify packets of a dead client (R180) -/

/-- Taking a client's Notify packets off the links keeps what changes of link records and of the count of lost ones keep. -/
theorem State.dropNotifies_keeps {β : Type} {p : State → β} (hlink : ∀ t, ∀ n < 8, ∀ f, p (State.updLink t n f) = p t)
    (hlost : ∀ t, p (State.notifyLost t) = p t) (s : State) (e : Nat) : p (s.dropNotifies e) = p s := by
  refine foldl_keeps p _ _ fun t n hn => ?_
  dsimp only
  split
  · exact (foldl_keeps p _ _ fun u _ _ => hlost u).trans (hlink t n (List.mem_range.mp hn) _)
  · rfl

theorem Aside.dropNotifies {β : Type} {p : State → β} (hp : Aside p) (s : State) (e : Nat) : p (s.dropNotifies e) = p s :=
  State.dropNotifies_keeps (fun t _ hn f => hp.updLink (le_of_lt hn) t f)
    (fun t => (hp.setErr _ (by decide) (besideChCtrl_low (by decide))).trans (hp.bump t 1 (besideChCtrl_low (by decide)))) s e

theorem State.reg_dropNotifies_dir {o : Nat} (ho : inDir o) (s : State) (e : Nat) : (s.dropNotifies e).reg o = s.reg o := by
  have hjob (k : Nat) : o ≠ R.JOB_BASE + k := (ho.2.trans_le ((by decide : R.DIR_BASE + 0x10000 ≤ R.JOB_BASE).trans (Nat.le_add_right _ k))).ne
  refine State.dropNotifies_keeps (p := fun t => t.reg o) (fun t n hn f => State.reg_updLink_ne _ _ _ _ ?_) (fun t => ?_) s e
  · have hdir : R.DIR_BASE ≤ o := ho.1
    simp only [R.DIR_BASE] at hdir
    simp only [R.MERE_LINKSTAT, R.MERE_BASE]
    omega
  · exact (State.reg_setErr_ne _ (by decide) ho.ne_pba (hjob _)).trans (State.reg_bump_ne _ _ _ _ (hjob _))

/-! ### A death with nothing of the client's in the homes (R363) -/

theorem State.dropPins_of_none {s : State} (h : s.kv.pins = []) (e : Nat) : s.dropPins e = s := by
  rw [State.dropPins, h, List.filter_nil, ← h]

theorem State.pumpHome_of_none {s : State} (h : s.home.waiting = []) (n : Nat) : s.pumpHome n = s := by
  cases n with
  | zero => rfl
  | succ n => simp [State.pumpHome, h]

theorem State.with_home {s : State} {x : Home} (h : s.home = x) : ({ s with home := x } : State) = s := by
  rw [← h]

theorem foldl_filter_of_nil {α β : Type} {f : β → α → β} {q : α → Bool} {l : List α} (h : l = []) (b : β) : (l.filter q).foldl f b = b := by
  rw [h, List.filter_nil, List.foldl_nil]

section EmptyHome
variable {s : State} (hhome : s.home = {})
include hhome

theorem State.dropClient_of_empty (e : Nat) : s.dropClient e = s := by
  rw [State.dropClient, hhome]
  rfl

theorem State.leaveSharers_of_empty (e : Nat) (k : SweepKind) : s.leaveSharers e k = s := by
  rw [State.leaveSharers, hhome]
  rfl

theorem State.settleTxns_of_empty : s.settleTxns = s := by
  have hpump : s.pumpAll = s := State.pumpHome_of_none (by rw [hhome]) _
  simpa [State.settleTxns, hhome] using hpump

/-- The death of a client is its mark, and its Notify packets lost, where the homes are empty and nobody holds a pin or an Inlet. -/
theorem State.declareDead_of_alone {e : Nat} (he : e < 4096) (hlive : s.isDead e = false) (hpins : s.kv.pins = []) (hinlets : s.jobs.inlets = []) :
    s.declareDead e = (s.markedDead e).dropNotifies e := by
  have hmhome : (s.markedDead e).home = {} := (State.home_asideMem.markedDead s e he).trans hhome
  have hmpins : (s.markedDead e).kv.pins = [] := by rw [State.markedDead_kv, hpins]
  have hdhome : ((s.markedDead e).dropNotifies e).home = {} := (State.home_asideMem.toAside.dropNotifies _ _).trans hmhome
  have hdinlets : ((s.markedDead e).dropNotifies e).jobs.inlets = [] := by
    rw [State.jobs_aside.dropNotifies, State.jobs_asideMem.markedDead s e he, hinlets]
  unfold State.declareDead
  rw [hlive, if_neg Bool.false_ne_true]
  extract_lets off s₁ s₂ h theirs gone s₃ s₄ s₅ mine s₆
  have hempty : h = {} := hmhome
  have hkeep : s₃ = s.markedDead e := by
    have hrest : ({ h with waiting := h.waiting.filter (fun r => !theirs r), txns := h.txns.map (·.excuse e) } : Home) = {} := by
      rw [hempty]
      rfl
    exact (congrArg (fun x : Home => ({ s₂ with home := x } : State)) hrest).trans (State.with_home hmhome)
  have hsent : s₄ = s.markedDead e := (foldl_filter_of_nil (congrArg Home.waiting hempty) s₃).trans hkeep
  have hdrop : s₅ = (s.markedDead e).dropNotifies e := by
    simp only [s₅, hsent, State.dropClient_of_empty hmhome, State.dropPins_of_none hmpins]
  have hinlet : s₆ = (s.markedDead e).dropNotifies e := (foldl_filter_of_nil (by rw [hdrop, hdinlets]) s₅).trans hdrop
  rw [hinlet, State.leaveSharers_of_empty hdhome, State.settleTxns_of_empty hdhome]

end EmptyHome

/-- Settles O28: the death is the mark alone, read register by register; a second one finds the bit set. -/
theorem declaredDeadIsMarked : Obligations.DeclaredDeadIsMarked := by
  unfold Obligations.DeclaredDeadIsMarked
  refine ⟨fun s e he hlive hhome hpins hinlets => ?_, fun s e hdead => if_pos hdead⟩
  intro t
  have ht {o : Nat} (ho : inDir o) : t.reg o = (s.markedDead e).reg o := by
    rw [← State.reg_dropNotifies_dir ho (s.markedDead e) e, ← State.declareDead_of_alone hhome he hlive hpins hinlets]
  have hdead {f : Nat} (hf : f < 4096) : t.isDead f = (s.isDead f || decide (e = f)) := by
    rw [← State.isDead_markedDead s e hf, State.isDead, ht (inDir_dead hf), State.isDead]
  refine ⟨?_, fun f hf hne => ?_, ?_, ?_⟩
  · rw [hdead he, decide_eq_true rfl, Bool.or_true]
  · rw [hdead hf, decide_eq_false hne.symm, Bool.or_false]
  · rw [State.flag_congr (ht inDir_err), State.flag_death_markedDead]
  · rw [ht inDir_deaths, State.deaths_markedDead]

end Sys2Proof.Machine
end

section
/-!
The home's table (R345 to R356), and what answers its snoops and grants (R346, R350, R361, R373).
-/
namespace Sys2Proof.Machine

/-! ### The snoops of a request, by the state it finds (R348, R349, R352, R356) -/

theorem HomeOp.reads_iff {op : HomeOp} : op.reads = true ↔ op = .rdShared ∨ op = .rdOnce := by
  cases op <;> decide

/-- Requests that leave no copy but the requester's (R348). -/
def HomeOp.invalidates : HomeOp → Bool
  | .rdOwn | .claim | .wrFull => true
  | _ => false

theorem HomeOp.invalidates_iff {op : HomeOp} : op.invalidates = true ↔ op = .rdOwn ∨ op = .claim ∨ op = .wrFull := by
  cases op <;> decide

/-- A request that reads is neither a writeback nor a recall, and invalidates nothing. -/
theorem HomeOp.request_of_reads {op : HomeOp} (h : op.reads = true) : op ≠ .writeback ∧ op ≠ .recall ∧ op ≠ .wrFull := by
  revert h
  cases op <;> decide

theorem HomeOp.request_of_invalidates {op : HomeOp} (h : op.invalidates = true) : op ≠ .writeback ∧ op ≠ .recall ∧ op.reads = false := by
  revert h
  cases op <;> decide

section Plan
variable {s : State} {r : HomeReq} {p : List Nat}

section Request
variable (hwb : r.op ≠ .writeback) (hrec : r.op ≠ .recall)
include hwb hrec

theorem State.plan_i : s.plan r .i p = none := by
  simp only [State.plan]

theorem State.plan_s : s.plan r .s p =
    if r.op.reads then (s.nearest r.pa p).map (fun e => (.fwd, some [e]))
    else if r.op = .rdOwn ∨ (r.op = .claim ∧ p.contains r.ep) then some (.inv, some (p.filter (· != r.ep))) else some (.inv, some p) := by
  simp only [State.plan]

theorem State.plan_sb : s.plan r .sb p = if r.op.reads then none else some (.inv, none) := by
  simp only [State.plan]

theorem State.plan_ex : s.plan r .ex p = if p = [r.ep] ∧ r.op ≠ .wrFull then none
    else some (if r.op.reads then .shared else .inv, if p = [] then none else some p) := by
  simp only [State.plan]

/-- The owner's own request finds no other holder. -/
theorem State.plan_ex_of_owner (hown : r.op ≠ .wrFull) : s.plan r .ex [r.ep] = none := by
  rw [State.plan_ex hwb hrec, if_pos ⟨rfl, hown⟩]

end Request

section Reads
variable (hreads : r.op.reads = true)
include hreads

theorem State.plan_s_of_reads : s.plan r .s p = (s.nearest r.pa p).map (fun e => (.fwd, some [e])) := by
  obtain ⟨hwb, hrec, -⟩ := HomeOp.request_of_reads hreads
  rw [State.plan_s hwb hrec, if_pos hreads]

theorem State.plan_sb_of_reads : s.plan r .sb p = none := by
  obtain ⟨hwb, hrec, -⟩ := HomeOp.request_of_reads hreads
  rw [State.plan_sb hwb hrec, if_pos hreads]

theorem State.plan_ex_of_reads (hother : p ≠ [r.ep]) : s.plan r .ex p = some (.shared, if p = [] then none else some p) := by
  obtain ⟨hwb, hrec, -⟩ := HomeOp.request_of_reads hreads
  rw [State.plan_ex hwb hrec, if_neg (fun h => hother h.1), if_pos hreads]

end Reads

section Invalidates
variable (hinv : r.op.invalidates = true)
include hinv

theorem State.plan_s_of_invalidates :
    s.plan r .s p = some (.inv, some (if r.op = .rdOwn ∨ (r.op = .claim ∧ r.ep ∈ p) then p.filter (· != r.ep) else p)) := by
  obtain ⟨hwb, hrec, hreads⟩ := HomeOp.request_of_invalidates hinv
  rw [State.plan_s hwb hrec, hreads, if_neg Bool.false_ne_true]
  simp only [List.contains_iff_mem]
  split <;> rfl

theorem State.plan_sb_of_invalidates : s.plan r .sb p = some (.inv, none) := by
  obtain ⟨hwb, hrec, hreads⟩ := HomeOp.request_of_invalidates hinv
  rw [State.plan_sb hwb hrec, hreads, if_neg Bool.false_ne_true]

theorem State.plan_ex_of_invalidates (hother : p ≠ [r.ep] ∨ r.op = .wrFull) : s.plan r .ex p = some (.inv, if p = [] then none else some p) := by
  obtain ⟨hwb, hrec, hreads⟩ := HomeOp.request_of_invalidates hinv
  rw [State.plan_ex hwb hrec, hreads, if_neg (fun h => hother.elim (· h.1) h.2), if_neg Bool.false_ne_true]

end Invalidates

end Plan

/-! ### The next state (R345, R348, R352) -/

section NextDir
variable {r : HomeReq} {p keeps : List Nat} {st : DirSt}

theorem nextDir_of_owns (h : r.op = .rdOwn ∨ r.op = .claim) : nextDir r st p keeps = (.ex, [r.ep]) := by
  unfold nextDir
  rcases h with h | h <;> rw [h]

theorem nextDir_of_writes (h : r.op = .wrFull ∨ r.op = .writeback) : nextDir r st p keeps = (.i, []) := by
  unfold nextDir
  rcases h with h | h <;> rw [h]

section RdShared
variable (h : r.op = .rdShared)
include h

theorem nextDir_i_of_rdShared : nextDir r .i p keeps = (.s, [r.ep]) := by
  unfold nextDir
  rw [h]

theorem nextDir_sb_of_rdShared : nextDir r .sb p keeps = (.sb, []) := by
  unfold nextDir
  rw [h]

/-- A new sharer's pointer is added; a fourth makes the entry SB (R352). -/
theorem nextDir_s_of_rdShared (hnew : r.ep ∉ p) : nextDir r .s p keeps = if 3 ≤ p.length then (.sb, []) else (.s, p ++ [r.ep]) := by
  have hroom : 3 < (p ++ [r.ep]).length ↔ 3 ≤ p.length := by simp
  unfold nextDir
  simp only [h, List.contains_iff_mem, if_neg hnew, hroom]

/-- From EX, the requester joins what the owner keeps. -/
theorem nextDir_ex_of_rdShared (hnew : r.ep ∉ keeps) (hroom : keeps.length < 3) : nextDir r .ex p keeps = (.s, keeps ++ [r.ep]) := by
  have hfew : ¬ 3 < (keeps ++ [r.ep]).length := by simpa using hroom
  unfold nextDir
  simp only [h, List.contains_iff_mem, if_neg hnew, if_neg hfew]

end RdShared

section RdOnce
variable (h : r.op = .rdOnce)
include h

theorem nextDir_of_rdOnce (hst : st ≠ .ex) : nextDir r st p keeps = (st, p) := by
  unfold nextDir
  simp only [h]

theorem nextDir_ex_of_rdOnce : nextDir r .ex p keeps =
    if p = [r.ep] then (.ex, p) else if keeps = [] then (.i, []) else if 3 < keeps.length then (.sb, []) else (.s, keeps) := by
  unfold nextDir
  rw [h]

end RdOnce

end NextDir

/-- Settles O23: the snoops row by row by `State.plan_i`, `State.plan_s`, `State.plan_sb` and `State.plan_ex`, then the next states by the request. -/
theorem directoryTable : Obligations.DirectoryTable := by
  unfold Obligations.DirectoryTable
  intro s r p keeps o
  have hother (hne : o ≠ r.ep) : [o] ≠ [r.ep] := fun h => hne (List.singleton_inj.mp h)
  have hinv {op : HomeOp} (h : r.op = op) (hop : op.invalidates = true) : r.op.invalidates = true := h ▸ hop
  refine ⟨fun hrec hwb => State.plan_i hwb hrec, fun h => State.plan_s_of_reads (HomeOp.reads_iff.mpr h), ?sOwn, ?sClaim, ?sClaimNew, ?sFull,
    fun h => State.plan_sb_of_reads (HomeOp.reads_iff.mpr h), fun h => State.plan_sb_of_invalidates (HomeOp.invalidates_iff.mpr h),
    fun hne h => State.plan_ex_of_reads (HomeOp.reads_iff.mpr h) (hother hne), ?exOwn, ?exFull, ?exOwner,
    fun h => State.plan_ex_of_reads (HomeOp.reads_iff.mpr h) (List.cons_ne_nil _ _).symm,
    fun h => State.plan_ex_of_invalidates (HomeOp.invalidates_iff.mpr h) (.inl (List.cons_ne_nil _ _).symm),
    nextDir_i_of_rdShared, ?joins, ?fourth, nextDir_sb_of_rdShared, ?exJoins, fun _ => nextDir_of_owns, fun _ => nextDir_of_writes, ?once, ?exOnce⟩
  case sOwn =>
    intro h
    rw [State.plan_s_of_invalidates (hinv h rfl), if_pos (.inl h)]
  case sClaim =>
    intro h hmem
    rw [State.plan_s_of_invalidates (hinv h rfl), if_pos (.inr ⟨h, hmem⟩)]
  case sClaimNew =>
    intro h hnew
    rw [State.plan_s_of_invalidates (hinv h rfl), if_neg (by simp [h, hnew])]
  case sFull =>
    intro h
    rw [State.plan_s_of_invalidates (hinv h rfl), if_neg (by simp [h])]
  case exOwn =>
    intro hne h
    exact State.plan_ex_of_invalidates (HomeOp.invalidates_iff.mpr (h.imp_right .inl)) (.inl (hother hne))
  case exFull => exact fun h => State.plan_ex_of_invalidates (hinv h rfl) (.inr h)
  case exOwner =>
    rintro (h | h | h | h) <;> exact State.plan_ex_of_owner (by simp [h]) (by simp [h]) (by simp [h])
  case joins =>
    intro h hnew hroom
    rw [nextDir_s_of_rdShared h hnew, if_neg hroom.not_ge]
  case fourth =>
    intro h hnew hfull
    rw [nextDir_s_of_rdShared h hnew, if_pos hfull]
  case exJoins =>
    intro h hne
    exact ⟨nextDir_ex_of_rdShared h (by simp [hne.symm]) (by simp), nextDir_ex_of_rdShared h List.not_mem_nil (by decide)⟩
  case once =>
    intro h
    refine ⟨nextDir_of_rdOnce h (by decide), nextDir_of_rdOnce h (by decide), nextDir_of_rdOnce h (by decide), ?_⟩
    rw [nextDir_ex_of_rdOnce h, if_pos rfl]
  case exOnce =>
    intro h hne
    simp only [nextDir_ex_of_rdOnce h, if_neg (hother hne)]
    exact ⟨rfl, rfl⟩

/-! ### A client's answers to snoops (R346, R361, R373) -/

section SnpRsp
variable {s t : State} {port : Fin 8} {w0 w1 : Word}
  (harrives : s.arrivesQuiet port w0.toNat w1.toNat []
    (pkFormed w0.toNat 2 1 (adReserved w1.toNat) [] [0] && pkStatus w0.toNat ≤ 4) = (t, true))
include harrives

/-- The first answer of an open snoop, other than RSP_WB_INFLIGHT and before its data. -/
theorem exec_snpRsp_of_open {d : DirTxn} {r : SnoopRec} (hopen : t.snoopTxn (pkEp w0.toNat) (pkTxn w0.toNat) = some d)
    (hrec : d.rec? (pkEp w0.toNat) (pkTxn w0.toNat) = some r) (hanswer : r.answer = none) (hdata : r.data = none) (hheld : pkStatus w0.toNat ≠ 4) :
    exec (.snpRsp port w0 w1) s = .next (((t.putTxn (d.setRec (pkEp w0.toNat) (pkTxn w0.toNat)
      (fun r => { r with answer := some (pkStatus w0.toNat) }))).checkTxn d.req.pa).pumpAll) := by
  show execSnpRsp port w0 w1 s = _
  simp [execSnpRsp, harrives, hopen, hrec, hanswer, hdata, hheld]

theorem exec_snpRsp_of_none (hnone : t.snoopTxn (pkEp w0.toNat) (pkTxn w0.toNat) = none) :
    exec (.snpRsp port w0 w1) s = .next (t.dirProto 2 (t.namedLine (pkEp w0.toNat) w1.toNat) (pkEp w0.toNat)) := by
  show execSnpRsp port w0 w1 s = _
  simp only [execSnpRsp, harrives, hnone]

end SnpRsp

section FwdData
variable {s t : State} {port : Fin 8} {w0 w1 : Word} {payload : List Byte}
  (harrives : s.arrivesQuiet port w0.toNat w1.toNat payload (pkFormed w0.toNat 1 2 (adReserved w1.toNat) payload [64]) = (t, true))
include harrives

/-- The data of an open snoop, before its answer. -/
theorem exec_fwdData_of_open {d : DirTxn} {r : SnoopRec} (hopen : t.snoopTxn (pkEp w0.toNat) (pkTxn w0.toNat) = some d)
    (hrec : d.rec? (pkEp w0.toNat) (pkTxn w0.toNat) = some r) (hanswer : r.answer = none) (hdata : r.data = none) :
    exec (.fwdData port w0 w1 payload) s = .next (((t.putTxn (d.setRec (pkEp w0.toNat) (pkTxn w0.toNat)
      (fun r => { r with data := some (pkPoison w0.toNat, payload) }))).checkTxn d.req.pa).pumpAll) := by
  show execFwdData port w0 w1 payload s = _
  simp [execFwdData, harrives, hopen, hrec, hanswer, hdata]

theorem exec_fwdData_of_none (hnone : t.snoopTxn (pkEp w0.toNat) (pkTxn w0.toNat) = none) :
    exec (.fwdData port w0 w1 payload) s = .next (t.dirProto 3 (t.namedLine (pkEp w0.toNat) w1.toNat) (pkEp w0.toNat)) := by
  show execFwdData port w0 w1 payload s = _
  simp only [execFwdData, harrives, hnone]

end FwdData

/-! ### Acknowledgements (R350, R373) -/

section CompletionAck
variable {s t : State} {port : Fin 8} {w0 w1 : Word}
  (harrives : s.arrivesQuiet port w0.toNat w1.toNat [] (pkFormed w0.toNat 0 1 (inReserved w1.toNat) [] [0]) = (t, true))
include harrives

/-- A client's acknowledgement of a grant. -/
theorem exec_completionAck_of_granted {d : DirTxn}
    (hgrant : t.home.txns.find? (fun x => x.granted && x.req.ep == pkEp w0.toNat && x.req.txn == pkTxn w0.toNat) = some d) :
    exec (.completionAck port w0 w1) s = .next ((t.putTxn { d with granted := false }).endTxn d.req.pa) := by
  show execCompletionAck port w0 w1 s = _
  simp only [execCompletionAck, harrives, hgrant]

theorem exec_completionAck_of_none
    (hnone : t.home.txns.find? (fun x => x.granted && x.req.ep == pkEp w0.toNat && x.req.txn == pkTxn w0.toNat) = none) :
    exec (.completionAck port w0 w1) s = .next (t.dirProto 1 0 (pkEp w0.toNat)) := by
  show execCompletionAck port w0 w1 s = _
  simp only [execCompletionAck, harrives, hnone]

end CompletionAck

/-- Settles O24: each packet by what it finds, after an arrival that passes it on. -/
theorem snoopsAndAcks : Obligations.SnoopsAndAcks := by
  unfold Obligations.SnoopsAndAcks
  refine ⟨fun port w0 w1 s => ?answer, fun port w0 w1 payload s => ?data, fun port w0 w1 s => ?ack⟩
  case answer =>
    intro q s₁ hpasses
    have harrives : q = (s₁, true) := Prod.ext rfl hpasses
    exact ⟨fun t r => exec_snpRsp_of_open harrives, exec_snpRsp_of_none harrives⟩
  case data =>
    intro q s₁ hpasses
    have harrives : q = (s₁, true) := Prod.ext rfl hpasses
    exact ⟨fun t r => exec_fwdData_of_open harrives, exec_fwdData_of_none harrives⟩
  case ack =>
    intro q s₁ mine hpasses
    have harrives : q = (s₁, true) := Prod.ext rfl hpasses
    exact ⟨fun t => exec_completionAck_of_granted harrives, exec_completionAck_of_none harrives⟩

end Sys2Proof.Machine
end

section
/-!
Admission of one packet at a port whose queue for its key is empty (R385 to R387).
-/
namespace Sys2Proof.Machine

/-- A tenant's buckets for a port and a scheduler, filled up to the port's time. -/
def State.bucketOf (s : State) (port t : Nat) (bulk : Bool) : Bucket :=
  s.refill t (s.adm port).now (Tbl.get (fun _ => {}) (s.adm port).buckets (2 * t + (if bulk then 1 else 0)))

/-- Those buckets replaced. -/
def State.setBucket (u s : State) (port t : Nat) (bulk : Bool) (b : Bucket) : State :=
  u.setAdm port { s.adm port with buckets := Tbl.set (fun _ => {}) (s.adm port).buckets (2 * t + (if bulk then 1 else 0)) b }

/-- The scheduler of a port is as full as YELLOW_THR % of its receive credits. -/
def State.yellowFull (s : State) (port : Nat) (bulk : Bool) : Prop :=
  s.get R.QOS_CFG F.QOS_CFG_YELLOW_THR * (if bulk then 6144 else 2048) ≤ 100 * ((s.adm port).sched bulk).occupancy

theorem State.refill_c_le (s : State) (t now : Nat) (b : Bucket) : (s.refill t now b).c ≤ 1024 * s.cbs t := Nat.min_le_right _ _

theorem State.refill_p_le (s : State) (t now : Nat) (b : Bucket) : (s.refill t now b).p ≤ 1024 * s.pbs t := Nat.min_le_right _ _

section Colour
variable {s : State} {port t cls : Nat} {bulk : Bool} (hempty : ((s.adm port).sched bulk).queue t cls = [])
include hempty

/-- With PIR 0 no bucket is looked at. -/
theorem State.colour_of_unlimited (hpir : s.pir t = 0) : s.colour port t cls 1 bulk = (s.bump (R.QOS_TCNT t 0), .queued) := by
  simp only [State.colour, hempty, ne_eq, not_true_eq_false, false_and, if_false, hpir, if_true]

variable (hpir : s.pir t ≠ 0)
include hpir

/-- An item with too few tokens in the peak bucket is red. -/
theorem State.colour_of_red (hp : (s.bucketOf port t bulk).p < 1024 * min 1 (s.pbs t)) : s.colour port t cls 1 bulk =
    (((s.bump (R.QOS_TCNT t 2)).setErr R.QOS_ERR F.QOS_ERR_RED).setBucket s port t bulk (s.bucketOf port t bulk),
      .refused (min (max (s.get R.QOS_CFG F.QOS_CFG_RETRY_MIN_US)
        ((1024 * min 1 (s.pbs t) - (s.bucketOf port t bulk).p + 1024 * s.pir t - 1) / (1024 * s.pir t))) 65535)) := by
  unfold State.bucketOf at hp
  simp only [State.colour, hempty, ne_eq, not_true_eq_false, false_and, if_false, hpir, hp, if_true]
  rfl

variable (hp : 1024 * min 1 (s.pbs t) ≤ (s.bucketOf port t bulk).p)
include hp

section Yellow
variable (hc : (s.bucketOf port t bulk).c < 1024 * min 1 (s.cbs t))
include hc

/-- An item with its tokens in the peak bucket alone is yellow. -/
theorem State.colour_of_yellow (hroom : ¬ s.yellowFull port bulk) : s.colour port t cls 1 bulk =
    ((s.bump (R.QOS_TCNT t 1)).setBucket s port t bulk
      { s.bucketOf port t bulk with p := (s.bucketOf port t bulk).p - 1024 * min 1 (s.pbs t) }, .queued) := by
  unfold State.bucketOf at hp hc
  unfold State.yellowFull at hroom
  simp only [State.colour, hempty, ne_eq, not_true_eq_false, false_and, if_false, hpir, hp.not_gt, hc, if_true, hroom]
  rfl

/-- A scheduler that is too full refuses a yellow item, which takes nothing. -/
theorem State.colour_of_yellowRefused (hfull : s.yellowFull port bulk) : s.colour port t cls 1 bulk =
    (((s.bump (R.QOS_TCNT t 3)).setErr R.QOS_ERR F.QOS_ERR_YELLOW_REFUSED).setBucket s port t bulk (s.bucketOf port t bulk),
      .refused (s.get R.QOS_CFG F.QOS_CFG_RETRY_MIN_US)) := by
  unfold State.bucketOf at hp hc
  unfold State.yellowFull at hfull
  simp only [State.colour, hempty, ne_eq, not_true_eq_false, false_and, if_false, hpir, hp.not_gt, hc, if_true, hfull]
  rfl

end Yellow

/-- An item with its tokens in both buckets is green and takes them from each. -/
theorem State.colour_of_green (hc : 1024 * min 1 (s.cbs t) ≤ (s.bucketOf port t bulk).c) : s.colour port t cls 1 bulk =
    ((s.bump (R.QOS_TCNT t 0)).setBucket s port t bulk
      { s.bucketOf port t bulk with p := (s.bucketOf port t bulk).p - 1024 * min 1 (s.pbs t),
                                    c := (s.bucketOf port t bulk).c - 1024 * min 1 (s.cbs t) }, .queued) := by
  unfold State.bucketOf at hp hc
  simp only [State.colour, hempty, ne_eq, not_true_eq_false, false_and, if_false, hpir, hp.not_gt, hc.not_gt]
  rfl

end Colour

/-- Settles O26: the colour by the buckets' contents, peak bucket first. -/
theorem admissionColours : Obligations.AdmissionColours := by
  unfold Obligations.AdmissionColours
  intro s port t cls bulk hempty
  exact ⟨s.refill_c_le _ _ _, s.refill_p_le _ _ _, State.colour_of_unlimited hempty, State.colour_of_red hempty, State.colour_of_yellow hempty,
    State.colour_of_yellowRefused hempty, State.colour_of_green hempty⟩

end Sys2Proof.Machine
end

section
/-!
Rows under self-test and their repair, the scrub, uncorrectable lines and triplicated words (R400 to R411).
-/
namespace Sys2Proof.Machine

/-! ### The correctable-error log (R402) -/

theorem State.chan_aside (u : Nat) : Aside (fun s => s.chan u) where
  setReg _ _ _ _ := rfl
  send _ _ := rfl
  setCore _ _ _ := rfl
  fab _ _ := rfl
  pair _ _ := rfl
  ras _ _ := rfl
  tick _ := rfl

theorem celog_ne_cnt (u e v k : Nat) (hk : k < 0x10000) : R.RAS_CELOG u e v ≠ R.RAS_BASE + k := by
  simp only [R.RAS_CELOG]
  omega

theorem celog_ne_pba (u e v : Nat) : R.RAS_CELOG u e v ≠ pbaReg := by
  have hpba : pbaReg = 0x9000 := rfl
  rw [hpba]
  simp only [R.RAS_CELOG, R.RAS_BASE]
  omega

theorem celog_ne_err (u e v : Nat) : R.RAS_CELOG u e v ≠ R.RAS_ERR := by
  simp only [R.RAS_CELOG, R.RAS_ERR]
  omega

@[simp] theorem State.celogState_setCelogState (s : State) (u e v : Nat) : (s.setCelogState u e v).celogState u e = v % 8 :=
  State.get_put_same _ _ _ _ (by decide)

theorem State.celogState_bump (s : State) (u e k : Nat) (hk : k < 0x10000) : (s.bump (R.RAS_BASE + k)).celogState u e = s.celogState u e :=
  State.get_bump_ne _ _ _ _ _ (celog_ne_cnt u e 1 k hk)

theorem State.celogState_setErr (s : State) (u e : Nat) {f : Fld} (hf : f ∉ alarmFields) : (s.setErr R.RAS_ERR f).celogState u e = s.celogState u e := by
  rw [State.celogState, State.get, State.reg_setErr_ne s hf (celog_ne_pba u e 1) (celog_ne_err u e 1), State.celogState, State.get]

@[simp] theorem State.chan_setCelogState (s : State) (u e v w : Nat) : (s.setCelogState u e v).chan w = s.chan w := State.chan_put _ _ _ _ _

/-! ### Self-tests (R403, R404) -/

/-- The row of a log entry is under test. -/
def Chan.tested (c : Chan) (x : SeepTest) : Chan := { c with order := c.order.filter (· != x.entry), test := c.test ++ [x] }

theorem Chan.testOf_tested {c : Chan} {x : SeepTest} (h : c.testOf x.pc = none) : (c.tested x).testOf x.pc = some x := by
  simp only [Chan.testOf] at h
  simp [Chan.testOf, Chan.tested, h]

theorem exec_targetedSelfTest_of_row {unit : Fin 396} {pc : Fin 2} {e : Nat} {s : State} (hserves : s.chServes unit = true)
    (hawake : ((s.chan unit).pc pc).paused = false) (hfree : (s.chan unit).testOf pc = none)
    (hrow : (s.chan unit).order.find? (fun e => s.celogValid unit e && pcOf (s.celogPa unit e) == pc.val) = some e) :
    exec (.targetedSelfTest unit pc) s = .next ((s.setChan unit ((s.chan unit).tested
      { pc := pc, bank := bankOf (s.celogPa unit e), row := rowOf (s.celogPa unit e), entry := e })).setCelogState unit e 2) := by
  show execTargetedSelfTest unit pc s = _
  simp only [execTargetedSelfTest, hserves, hawake, hfree, hrow]
  rfl

/-- The test of a row has ended, with the row's count of transient outcomes. -/
def State.testEnded (s : State) (u pc key n : Nat) : State :=
  s.setChan u { s.chan u with test := (s.chan u).test.filter (fun y => y.pc != pc), transient := Tbl.set (fun _ => 0) (s.chan u).transient key n }

section HoldEnd
variable {unit : Fin 396} {pc : Fin 2} {x : SeepTest} {s : State} (htest : (s.chan unit).testOf pc = some x)
  (hawake : ((s.chan unit).pc pc).paused = false)
include htest hawake

theorem exec_selfTestHoldEnd_of_miscompare :
    exec (.selfTestHoldEnd unit pc true) s = .next ((s.testEnded unit pc (rowKey (s.celogPa unit x.entry)) 0).repairRow unit x) := by
  show execSelfTestHoldEnd unit pc true s = _
  simp only [execSelfTestHoldEnd, htest, hawake]
  rfl

theorem exec_selfTestHoldEnd_of_transient
    (hfew : Tbl.get (fun _ => 0) (s.chan unit).transient (rowKey (s.celogPa unit x.entry)) + 1 < 3) :
    exec (.selfTestHoldEnd unit pc false) s = .next (((s.testEnded unit pc (rowKey (s.celogPa unit x.entry))
      (Tbl.get (fun _ => 0) (s.chan unit).transient (rowKey (s.celogPa unit x.entry)) + 1)).bump R.RAS_CNT_TEST_TRANSIENT).setCelogState unit x.entry 3) := by
  show execSelfTestHoldEnd unit pc false s = _
  simp only [execSelfTestHoldEnd, htest, hawake]
  simp [hfew.not_ge, State.testEnded]

/-- A third transient outcome counts as a lasting fault. -/
theorem exec_selfTestHoldEnd_of_third
    (hmany : 3 ≤ Tbl.get (fun _ => 0) (s.chan unit).transient (rowKey (s.celogPa unit x.entry)) + 1) :
    exec (.selfTestHoldEnd unit pc false) s =
      .next (((s.testEnded unit pc (rowKey (s.celogPa unit x.entry)) 0).bump R.RAS_CNT_TEST_TRANSIENT).repairRow unit x) := by
  show execSelfTestHoldEnd unit pc false s = _
  simp only [execSelfTestHoldEnd, htest, hawake]
  simp [hmany, State.testEnded]

end HoldEnd

/-- A lasting fault has been counted. -/
def State.lasting (s : State) : State := (s.bump R.RAS_CNT_TEST_LASTING).setErr R.RAS_ERR F.RAS_ERR_LASTING

@[simp] theorem State.chan_lasting (s : State) (u : Nat) : s.lasting.chan u = s.chan u :=
  (State.chan_aside u).setErr _ (by decide) (besideChCtrl_high (by decide))

/-- A repair of a tested row, as the repair list holds it (R405). -/
def SeepTest.repair (x : SeepTest) (u : Nat) (spare : Option Nat) : Repair := { unit := u, pc := x.pc, bank := x.bank, row := x.row, spare := spare, hard := false }

/-- A soft repair of a bank has been used. -/
def Chan.softUsed (c : Chan) (bank : Nat) : Chan := { c with soft := Tbl.set (fun _ => 0) c.soft bank (Tbl.get (fun _ => 0) c.soft bank - 1) }

/-- A repair has entered the repair list. -/
def State.repairListed (s : State) (r : Repair) : State := { s with ras := { s.ras with repairs := s.ras.repairs ++ [r] } }

section RepairRow
variable {s : State} {u : Nat} {x : SeepTest}

theorem State.repairRow_of_soft (hleft : 0 < Tbl.get (fun _ => 0) (s.chan u).soft x.bank) : s.repairRow u x =
    (((s.lasting.setChan u ((s.chan u).softUsed x.bank)).repairListed (x.repair u none)).setCelogState u x.entry 4).bump R.RAS_CNT_SOFT_REPAIRS := by
  unfold State.repairRow
  rw [← State.lasting]
  simp only [State.chan_lasting, hleft, if_true]
  rfl

theorem State.repairRow_of_retired {d : Chan} (hleft : Tbl.get (fun _ => 0) (s.chan u).soft x.bank = 0) (hu : u < 384)
    (hretire : (s.chan u).retireRow x.pc x.bank x.row = some d) : s.repairRow u x =
    (((s.lasting.setChan u d).repairListed (x.repair u ((d.remap.head?).map (·.2.2.2)))).setCelogState u x.entry 5).bump R.RAS_CNT_ROW_RETIRES := by
  unfold State.repairRow
  rw [← State.lasting]
  simp only [State.chan_lasting, hleft, lt_irrefl, if_false, hu, if_true, hretire]
  rfl

theorem State.repairRow_of_none (hleft : Tbl.get (fun _ => 0) (s.chan u).soft x.bank = 0) (hu : 384 ≤ u) :
    s.repairRow u x = (s.lasting.setCelogState u x.entry 6).setErr R.RAS_ERR F.RAS_ERR_REPAIR_FAIL := by
  unfold State.repairRow
  rw [← State.lasting]
  simp only [State.chan_lasting, hleft, lt_irrefl, if_false, hu.not_gt]

@[simp] theorem State.chan_repairListed (s : State) (r : Repair) (u : Nat) : (s.repairListed r).chan u = s.chan u := (rfl)

end RepairRow

/-! ### The scrub (R406, R407) -/

/-- The patrol has read one line more of a channel. -/
def State.patrolled (s : State) (u : Nat) : State :=
  ((s.updChan u (fun c => { c with patrol := (c.patrol + 1) % s.patrolLines u })).bump R.RAS_CNT_SCRUB_LINES).bump (chCnt u 0)

/-- What the patrol makes of a line it has read, under the error pattern it finds. -/
def State.scrubbed (s : State) (u la : Nat) (errors : List (Nat × Nat)) : State :=
  if !(s.pool.line la).valid then s.logUE la
  else match s.decodeLine u la errors with
    | .clean => if (s.pool.line la).poison then s.bump R.RAS_CNT_POISON_READ else s
    | .corrected k d => ((s.logCE u la k d).bump R.RAS_CNT_SCRUB_FIXED).bump (chCnt u 1)
    | .uncorrectable => (s.spoilLine la).logUE la

section Scrubbed
variable {s : State} {u la : Nat} {errors : List (Nat × Nat)}

theorem State.scrubbed_of_invalid (h : (s.pool.line la).valid = false) : s.scrubbed u la errors = s.logUE la := by
  rw [State.scrubbed, h]
  rfl

variable (hvalid : (s.pool.line la).valid = true)
include hvalid

theorem State.scrubbed_of_clean (h : s.decodeLine u la errors = .clean) :
    s.scrubbed u la errors = if (s.pool.line la).poison then s.bump R.RAS_CNT_POISON_READ else s := by
  rw [State.scrubbed, hvalid, h]
  rfl

theorem State.scrubbed_of_uncorrectable (h : s.decodeLine u la errors = .uncorrectable) : s.scrubbed u la errors = (s.spoilLine la).logUE la := by
  rw [State.scrubbed, hvalid, h]
  rfl

theorem State.scrubbed_of_corrected {k : Nat} {d : Option Nat} (h : s.decodeLine u la errors = .corrected k d) :
    s.scrubbed u la errors = ((s.logCE u la k d).bump R.RAS_CNT_SCRUB_FIXED).bump (chCnt u 1) := by
  rw [State.scrubbed, hvalid, h]
  rfl

end Scrubbed

theorem exec_scrubRead_of_patrolled {pa : BitVec 48} {errors : List (Nat × Nat)} {u : Nat} {s : State} (hunit : unitOf (pa.toNat / 64 * 64) = some u)
    (hon : s.flag R.RAS_CTRL F.RAS_CTRL_SCRUB_EN = true) (hserves : s.chServes u = true) (hpatrols : s.patrols u (pa.toNat / 64 * 64) = true)
    (hup : s.stewardUp (unitQuad u) = true) (hbackground : s.pwr.background = true) :
    exec (.scrubRead pa errors) s = .next ((s.patrolled u).scrubbed u (pa.toNat / 64 * 64) errors) := by
  show execScrubRead pa errors s = _
  simp only [execScrubRead, hunit, hon, hserves, hpatrols, hup, hbackground, Bool.not_true, Bool.false_eq_true, or_self, if_false]
  rw [← State.patrolled, State.scrubbed]
  split
  · rfl
  · cases (s.patrolled u).decodeLine u (pa.toNat / 64 * 64) errors <;> rfl

/-! ### Uncorrectable lines (R408) -/

/-- A line no longer waits for its rewriting. -/
def State.ueTaken (s : State) (l : Nat) : State := { s with ras := { s.ras with ueLines := s.ras.ueLines.filter (· != l) } }

theorem State.contains_ueTaken (s : State) (l : Nat) : (s.ueTaken l).ras.ueLines.contains l = false := by
  simp [State.ueTaken]

/-- A lost line's side storage as it is rewritten: valid with the poison mark, OWNED and cold, under the tag of its basin's tenant. -/
def State.ueSide (s : State) (la : Nat) : Side :=
  let tag := ((s.basinAt la).map (·.2.tenant)).getD 0
  { s.pool.line la with poison := true, summary := 2, heat := 0, tag := tag, valid := true }

/-- A lost line rewritten, with bytes that no rule states. -/
def State.ueRewritten (s : State) (la : Nat) : State :=
  State.wrote { s.tick with pool := (s.pool.writeBytes la (freeLine Config.asRead s.fresh)).setLine la (s.ueSide la) } la

theorem State.line_ueRewritten (s : State) (la : Nat) : (s.ueRewritten la).pool.line la = s.ueSide la := by
  rw [State.ueRewritten, State.pool_wrote, Pool.line_setLine_same]

@[simp] theorem State.wrote_ras (s : State) (pa : Nat) : (s.wrote pa).ras = s.ras := by
  unfold State.wrote
  split <;> rfl

section UeRewrite
variable {pa : BitVec 48} {u : Nat} {s : State} (hunit : unitOf (pa.toNat / 64 * 64) = some u)
  (hwaits : s.ras.ueLines.contains (pa.toNat / 64 * 64 / 64) = true) (hserves : s.chServes u = true)
include hunit hwaits hserves

theorem exec_ueRewrite_of_good (hvalid : (s.pool.line (pa.toNat / 64 * 64)).valid = true) :
    exec (.ueRewrite pa) s = .next (s.ueTaken (pa.toNat / 64 * 64 / 64)) := by
  show execUeRewrite pa s = _
  simp only [execUeRewrite, hunit, hwaits, hserves, hvalid]
  rfl

section Lost
variable (hbad : (s.pool.line (pa.toNat / 64 * 64)).valid = false)
include hbad

theorem exec_ueRewrite_of_striped {q : Run} {b : Nat × Basin} (hstripe : s.stripeOf (pa.toNat / 64 * 64) = some q)
    (hbasin : s.basinAt (pa.toNat / 64 * 64) = some b) :
    exec (.ueRewrite pa) s = .next ((s.ueTaken (pa.toNat / 64 * 64 / 64)).rebuildLine (pa.toNat / 64 * 64) b.2.tenant) := by
  have hstripe' : (s.ueTaken (pa.toNat / 64 * 64 / 64)).stripeOf (pa.toNat / 64 * 64) = some q := hstripe
  have hbasin' : (s.ueTaken (pa.toNat / 64 * 64 / 64)).basinAt (pa.toNat / 64 * 64) = some b := hbasin
  unfold State.ueTaken at hstripe' hbasin'
  show execUeRewrite pa s = _
  simp only [execUeRewrite, hunit, hwaits, hserves, hbad, hstripe', hbasin', Option.map_some]
  rfl

theorem exec_ueRewrite_of_plain (hplain : s.stripeOf (pa.toNat / 64 * 64) = none) :
    exec (.ueRewrite pa) s = .next ((s.ueTaken (pa.toNat / 64 * 64 / 64)).ueRewritten (pa.toNat / 64 * 64)) := by
  have hplain' : (s.ueTaken (pa.toNat / 64 * 64 / 64)).stripeOf (pa.toNat / 64 * 64) = none := hplain
  unfold State.ueTaken at hplain'
  show execUeRewrite pa s = _
  simp only [execUeRewrite, hunit, hwaits, hserves, hbad, hplain']
  rfl

end Lost

end UeRewrite

/-! ### Triplicated words (R411) -/

/-- What READ_TRIPLE makes of the copies it has loaded. -/
def State.tripleRead (word : Nat) (c : State × List (Bool × List Byte)) : State :=
  match voteTriple c.2 with
  | none => (c.1.raiseAlarm .tripleLost).send (.result "READ_TRIPLE_LOST" [word])
  | some v => (c.1.storeCopies word v ([0, 1, 2].filter (fun k => (c.2.drop k).head?.elim false (fun x => x.1 || x.2 != v)))).send
      (.result "READ_TRIPLE" (word :: v.map (·.toNat)))

section TripleRead
variable {word : Nat} {c : State × List (Bool × List Byte)}

theorem State.tripleRead_of_lost (h : voteTriple c.2 = none) :
    State.tripleRead word c = (c.1.raiseAlarm .tripleLost).send (.result "READ_TRIPLE_LOST" [word]) := by
  simp only [State.tripleRead, h]

theorem State.tripleRead_of_vote {v : List Byte} (h : voteTriple c.2 = some v) : State.tripleRead word c =
    (c.1.storeCopies word v ([0, 1, 2].filter (fun k => (c.2.drop k).head?.elim false (fun x => x.1 || x.2 != v)))).send
      (.result "READ_TRIPLE" (word :: v.map (·.toNat))) := by
  simp only [State.tripleRead, h]

end TripleRead

/-- An equation of the function itself: the kernel would reduce the loads of an application. -/
theorem execReadTriple_eq : execReadTriple = fun word s => .next (State.tripleRead word.toNat (s.loadCopies word.toNat)) := by
  delta execReadTriple
  funext word s
  generalize s.loadCopies word.toNat = x
  obtain ⟨t, c⟩ := x
  unfold State.tripleRead
  dsimp only
  cases voteTriple c <;> rfl

theorem exec_readTriple (word : BitVec 22) (s : State) : exec (.readTriple word) s = .next (State.tripleRead word.toNat (s.loadCopies word.toNat)) := by
  show execReadTriple word s = _
  rw [execReadTriple_eq]
section Vote
variable {v w x : List Byte}

theorem voteTriple_of_firstTwo : voteTriple [(false, v), (false, v), (false, w)] = some v := by
  simp [voteTriple]

theorem voteTriple_of_outer : voteTriple [(false, v), (true, w), (false, v)] = some v := by
  simp [voteTriple]

/-- The value of the only good copy. -/
theorem voteTriple_of_one : voteTriple [(true, v), (false, w), (true, x)] = some w := by
  simp [voteTriple]

theorem voteTriple_of_bad : voteTriple [(true, v), (true, w), (true, x)] = none := by
  simp [voteTriple]

/-- Good copies that all differ carry no vote. -/
theorem voteTriple_of_unlike (hvw : v ≠ w) (hwx : w ≠ x) (hvx : v ≠ x) : voteTriple [(false, v), (false, w), (false, x)] = none := by
  simp [voteTriple, hvw, hwx, hvx, hvw.symm, hwx.symm, hvx.symm]

theorem voteTriple_of_unlikeTwo (hvw : v ≠ w) : voteTriple [(false, v), (false, w), (true, x)] = none := by
  simp [voteTriple, hvw, hvw.symm]

end Vote

theorem exec_writeTriple (word : BitVec 22) {value : List Byte} (s : State) (hlen : value.length = 64) :
    exec (.writeTriple word value) s = .next (s.storeCopies word.toNat value [0, 1, 2]) := by
  have hcut : (value ++ zeros 64).take 64 = value := by rw [← hlen, List.take_left']; rfl
  show execWriteTriple word value s = _
  rw [execWriteTriple, hcut]

/-! ### Freed log entries (R402) -/

/-- An entry of the log is empty, and its row waits for no test. -/
def State.celogCleared (s : State) (u e : Nat) : State :=
  ((s.setReg (R.RAS_CELOG u e 0) 0).setReg (R.RAS_CELOG u e 1) 0).updChan u (fun c => { c with order := c.order.filter (· != e) })

section CelogCleared
variable (s : State) (u e : Nat)

theorem State.celogValid_celogCleared : (s.celogCleared u e).celogValid u e = false := by
  have hne : R.RAS_CELOG u e 0 ≠ R.RAS_CELOG u e 1 := by simp only [R.RAS_CELOG]; omega
  have hreg : (s.celogCleared u e).reg (R.RAS_CELOG u e 0) = 0 := by
    rw [State.celogCleared, State.reg_updChan, State.reg_setReg_ne _ _ _ _ hne, State.reg_setReg_same]
  rw [State.celogValid, State.flag, State.get, hreg]
  rfl

theorem State.celogState_celogCleared : (s.celogCleared u e).celogState u e = 0 := by
  have hreg : (s.celogCleared u e).reg (R.RAS_CELOG u e 1) = 0 := by
    rw [State.celogCleared, State.reg_updChan, State.reg_setReg_same]
  rw [State.celogState, State.get, hreg]
  rfl

theorem State.notMem_celogCleared : e ∉ ((s.celogCleared u e).chan u).order := by
  rw [State.celogCleared, State.chan_updChan_same]
  simp

end CelogCleared

theorem exec_celogClear_of_idle {unit : Fin 396} {entry : Fin 16} {s : State} (hidle : s.celogState unit entry ≠ 2)
    (hvalid : s.celogValid unit entry = true) : exec (.celogClear unit entry) s = .next (s.celogCleared unit entry) :=
  if_neg (by simp [hidle, hvalid])

/-- Settles O49. -/
theorem rowsAreTestedAndRepaired : Obligations.RowsAreTestedAndRepaired := by
  unfold Obligations.RowsAreTestedAndRepaired
  refine ⟨?begins, ?ends, ?repairs, ?scrub, ?late, ?rewrite, ?read, ?vote, ?write, ?clear⟩
  case begins =>
    intro unit pc e s hserves hawake hfree hrow
    refine ⟨_, exec_targetedSelfTest_of_row hserves hawake hfree hrow, State.celogState_setCelogState _ _ _ _, ?_, ?_⟩
    · rw [State.chan_setCelogState, State.chan_setChan_same]
      simp [Chan.tested]
    · rw [State.chan_setCelogState, State.chan_setChan_same]
      exact Chan.testOf_tested hfree
  case ends =>
    intro unit pc x s htest hawake
    exact ⟨exec_selfTestHoldEnd_of_transient htest hawake, exec_selfTestHoldEnd_of_third htest hawake, exec_selfTestHoldEnd_of_miscompare htest hawake⟩
  case repairs =>
    intro u x s hu hx left
    refine ⟨fun hleft => ?_, fun d hleft hpond hretire => ?_, fun hleft hspill => ?_⟩
    · rw [State.repairRow_of_soft hleft]
      refine ⟨(State.celogState_bump _ _ _ _ (by decide)).trans (State.celogState_setCelogState _ _ _ _), ?_⟩
      rw [State.chan_bump, State.chan_setCelogState, State.chan_repairListed, State.chan_setChan_same]
      exact Tbl.get_set_same _ _ _ _
    · rw [State.repairRow_of_retired hleft hpond hretire]
      refine ⟨(State.celogState_bump _ _ _ _ (by decide)).trans (State.celogState_setCelogState _ _ _ _), ?_⟩
      rw [State.chan_bump, State.chan_setCelogState, State.chan_repairListed, State.chan_setChan_same]
    · rw [State.repairRow_of_none hleft hspill]
      refine ⟨(State.celogState_setErr _ _ _ (by decide)).trans (State.celogState_setCelogState _ _ _ _), ?_⟩
      rw [(State.chan_aside u).setErr _ (by decide) (besideChCtrl_high (by decide)), State.chan_setCelogState, State.chan_lasting]
  case scrub =>
    intro pa errors u s la hunit hon hserves hpatrols hup hbackground t
    have hexec := exec_scrubRead_of_patrolled (errors := errors) hunit hon hserves hpatrols hup hbackground
    exact ⟨fun hbad => hexec.trans (congrArg _ (State.scrubbed_of_invalid hbad)),
      fun hvalid hdec => hexec.trans (congrArg _ (State.scrubbed_of_clean hvalid hdec)),
      fun hvalid hdec => hexec.trans (congrArg _ (State.scrubbed_of_uncorrectable hvalid hdec)),
      fun k d hvalid hdec => hexec.trans (congrArg _ (State.scrubbed_of_corrected hvalid hdec))⟩
  case late => exact fun unit s hon => if_neg (by simp [hon])
  case rewrite =>
    intro pa u s la hunit hwaits hserves
    refine ⟨fun hbad hplain => ⟨_, exec_ueRewrite_of_plain hunit hwaits hserves hbad hplain, ?_, State.line_ueRewritten _ _⟩,
      fun q b hbad => exec_ueRewrite_of_striped hunit hwaits hserves hbad, exec_ueRewrite_of_good hunit hwaits hserves⟩
    rw [State.ueRewritten, State.wrote_ras]
    exact State.contains_ueTaken _ _
  case read =>
    intro word s
    rw [exec_readTriple]
    generalize s.loadCopies word.toNat = c
    exact ⟨fun hvote => congrArg _ (State.tripleRead_of_lost hvote), fun v hvote => congrArg _ (State.tripleRead_of_vote hvote)⟩
  case vote =>
    intro v w x
    exact ⟨voteTriple_of_firstTwo, voteTriple_of_outer, voteTriple_of_one, voteTriple_of_bad,
      fun hvw hwx hvx => ⟨voteTriple_of_unlike hvw hwx hvx, voteTriple_of_unlikeTwo hvw⟩⟩
  case write => exact fun word value s hlen => exec_writeTriple word s hlen
  case clear =>
    intro unit entry s hidle hvalid
    refine ⟨_, exec_celogClear_of_idle hidle hvalid, ?_, ?_, ?_⟩
    · exact State.celogValid_celogCleared _ _ _
    · exact State.notMem_celogCleared _ _ _
    · exact State.celogState_celogCleared _ _ _

end Sys2Proof.Machine
end

section
/-!
What an error bit, an alarm and an event record leave as they stand (R532, R539, R540, R545).
-/
namespace Sys2Proof.Machine

/-! ### Registers below the management block (R531, R545) -/

theorem State.reg_setErr_low {p : Nat} (hpba : p ≠ pbaReg) (hlow : p < 0x1000000) (s : State) {o : Nat} (f : Fld) (hp : p ≠ o) :
    (s.setErr o f).reg p = s.reg p := by
  have hbit : (s.setErrOnly o f).reg p = s.reg p := State.setErrOnly_ne _ _ _ _ _ hpba hp
  unfold State.setErr
  split
  · exact hbit
  · exact (State.reg_raiseAlarm_low hpba hlow _ _).trans hbit
  · exact hbit

theorem State.setErr_of_alarm (s : State) {o : Nat} {f : Fld} {a : Alarm} (h : alarmOf o f = some (none, a)) :
    s.setErr o f = (s.setErrOnly o f).raiseAlarm a := by
  rw [State.setErr, h]

theorem State.reg_setErr_same_low {o : Nat} (hpba : o ≠ pbaReg) (hlow : o < 0x1000000) (s : State) (f : Fld) :
    (s.setErr o f).reg o = s.reg o ||| BitVec.ofNat 64 (1 * 2 ^ f.lo) := by
  have hbit : (s.setErrOnly o f).reg o = s.reg o ||| BitVec.ofNat 64 (1 * 2 ^ f.lo) := State.setErrOnly_same _ _ _ _ hpba
  unfold State.setErr
  split
  · exact hbit
  · exact (State.reg_raiseAlarm_low hpba hlow _ _).trans hbit
  · exact hbit

/-- An error bit reads 1 once it is set, whether or not it raises an alarm. -/
theorem State.flag_setErr_low {o : Nat} (hpba : o ≠ pbaReg) (hlow : o < 0x1000000) (s : State) {f : Fld} (hlo : f.lo < 64) (hw : f.w = 1) :
    (s.setErr o f).flag o f = true := by
  rw [State.flag_eq_bitOf _ _ hw, State.reg_setErr_same_low hpba hlow, one_mul, bitOf_or_two_pow _ hlo, decide_eq_true rfl, Bool.or_true]

/-! ### Parts of the state -/

/-- A part of the state that holds no register, no memory, no core, no event record and no channel. -/
structure Apart {β : Type} (p : State → β) : Prop where
  setReg : ∀ s o v, p (State.setReg s o v) = p s
  send : ∀ s x, p (State.send s x) = p s
  setCore : ∀ s i c, p (State.setCore s i c) = p s
  pool : ∀ (s : State) (q : Pool), p { s with pool := q } = p s
  mgmt : ∀ (s : State) (m : Mgmt), p { s with mgmt := m } = p s
  setChan : ∀ s u c, p (State.setChan s u c) = p s

section
variable {β : Type} {p : State → β} (hp : Apart p)
include hp

theorem Apart.put (s : State) (o : Nat) (f : Fld) (v : Nat) : p (s.put o f v) = p s := hp.setReg _ _ _

theorem Apart.putFlag (s : State) (o : Nat) (f : Fld) (b : Bool) : p (s.putFlag o f b) = p s := hp.setReg _ _ _

theorem Apart.bump (s : State) (o n : Nat) : p (s.bump o n) = p s := hp.setReg _ _ _

theorem Apart.interrupt (s : State) (v : Nat) : p (s.interrupt v) = p s := by
  rcases s.interrupt_cases v with ⟨e, -⟩ | ⟨e, -⟩ <;> rw [e]
  · exact hp.send _ _
  · exact hp.setReg _ _ _

theorem Apart.interruptIf (s t : State) (v : Nat) : p (State.interruptIf s t v) = p t := by
  unfold State.interruptIf
  split
  · exact hp.interrupt _ _
  · rfl

theorem Apart.raiseIrq (s : State) (i code : Nat) : p (s.raiseIrq i code) = p s := hp.setCore _ _ _

theorem Apart.raiseWell (s : State) (code : Nat) : p (s.raiseWell code) = p s :=
  foldl_keeps p _ s (fun t i _ => hp.raiseIrq t i code)

theorem Apart.setErrOnly (s : State) (o : Nat) (f : Fld) (v : Nat) : p (s.setErrOnly o f v) = p s := by
  unfold State.setErrOnly
  extract_lets b t
  have ht : p t = p s := hp.setReg _ _ _
  split
  · split
    · split
      · exact (hp.raiseIrq _ _ _).trans ht
      · exact ht
    · exact ht
  · exact (hp.interruptIf _ _ _).trans ht

theorem Apart.wrote (s : State) (pa : Nat) : p (s.wrote pa) = p s := by
  unfold State.wrote
  split
  · rfl
  · exact (hp.setChan _ _ _).trans (hp.bump _ _ _)

theorem Apart.ringEvent (s : State) (r : EvRec) : p (s.ringEvent r) = p s := by
  unfold State.ringEvent
  extract_lets tail a m t
  have ht : p t = p s := (hp.mgmt { s with pool := t.pool } t.mgmt).trans (hp.pool s t.pool)
  rw [hp.interrupt, hp.put, hp.wrote, ht]

theorem Apart.writeEvent (s : State) (r : EvRec) : p (s.writeEvent r) = p s := by
  unfold State.writeEvent
  split
  · exact hp.ringEvent _ _
  · extract_lets m t
    have ht : p t = p s := (hp.put _ _ _ _).trans ((hp.putFlag _ _ _ _).trans (hp.mgmt _ _))
    split
    · exact (hp.setErrOnly _ _ _ _).trans ht
    · exact ht

theorem Apart.raiseAlarm (s : State) (a : Alarm) : p (s.raiseAlarm a) = p s := by
  unfold State.raiseAlarm State.accumulateAlarm
  extract_lets t u
  have ht : p t = p s := hp.setReg _ _ _
  have hu : p u = p t := hp.setReg _ _ _
  split
  · exact ht
  · split
    · exact hu.trans ht
    · exact (hp.writeEvent _ _).trans (hu.trans ht)

theorem Apart.unitAlarm (s : State) (addr : Nat) (a : Alarm) : p (s.unitAlarm addr a) = p s := hp.mgmt _ _

theorem Apart.setErr (s : State) (o : Nat) (f : Fld) (v : Nat) : p (s.setErr o f v) = p s := by
  unfold State.setErr
  extract_lets t
  have ht : p t = p s := hp.setErrOnly _ _ _ _
  split
  · exact ht
  · exact (hp.raiseAlarm _ _).trans ht
  · exact (hp.unitAlarm _ _ _).trans ht

end

theorem State.pair_apart : Apart State.pair where
  setReg _ _ _ := rfl
  send _ _ := rfl
  setCore _ _ _ := rfl
  pool _ _ := rfl
  mgmt _ _ := rfl
  setChan _ _ _ := rfl

theorem State.rst_apart : Apart State.rst where
  setReg _ _ _ := rfl
  send _ _ := rfl
  setCore _ _ _ := rfl
  pool _ _ := rfl
  mgmt _ _ := rfl
  setChan _ _ _ := rfl

end Sys2Proof.Machine
end

section
/-!
The states of the pair, its paths, the fence and the takeover (R441 to R446, R449, R551).
-/
namespace Sys2Proof.Machine

/-! ### PAIR_STATUS (R430, R442) -/

@[simp] theorem State.pairState_setPairState (s : State) (v : Nat) : (s.setPairState v).pairState = v % 8 := State.get_put_same _ _ _ _ (by decide)

/-- A field of PAIR_STATUS other than STATE. -/
theorem State.flag_setPairState (s : State) (v : Nat) {f : Fld} (hf : 3 ≤ f.lo) : (s.setPairState v).flag R.PAIR_STATUS f = s.flag R.PAIR_STATUS f := by
  rw [State.flag, State.setPairState, State.get_put_disjoint _ _ F.PAIR_STATUS_STATE f _ (by decide) (Or.inl hf), State.flag]

theorem State.pairState_putFlag (s : State) {f : Fld} (b : Bool) (hf : f.lo + f.w ≤ 64) (hlow : 3 ≤ f.lo) :
    (s.putFlag R.PAIR_STATUS f b).pairState = s.pairState :=
  State.get_put_disjoint _ _ _ _ _ hf (Or.inr hlow)

theorem State.flag_setErr_status (s : State) {o : Nat} (f g : Fld) (ho : R.PAIR_STATUS ≠ o) :
    (s.setErr o f).flag R.PAIR_STATUS g = s.flag R.PAIR_STATUS g :=
  State.flag_congr (State.reg_setErr_low (by decide) (by decide) s f ho) g

theorem State.pairState_congr {s t : State} (h : s.reg R.PAIR_STATUS = t.reg R.PAIR_STATUS) : s.pairState = t.pairState := by
  rw [State.pairState, State.get, h, State.pairState, State.get]

@[simp] theorem State.pairState_setErr (s : State) (f : Fld) : (s.setErr R.PAIR_ERR f).pairState = s.pairState :=
  State.pairState_congr (State.reg_setErr_low (by decide) (by decide) s f (by decide))

/-! ### The writes that were kept (R444) -/

/-- Only in EXPOSED are there writes to serve. -/
theorem State.serveKept_of_state {s : State} (h : s.pairState ≠ 3) : s.serveKept = s := if_pos (Or.inl h)

/-- While a path is lost they are kept. -/
theorem State.serveKept_of_lost {s : State} (h : s.twinOk = false ∨ s.ringOk = false) : s.serveKept = s := by
  by_cases hst : s.pairState = 3
  · refine if_pos (Or.inr ?_)
    rw [State.keepsShadows, Bool.and_eq_true, Bool.not_eq_true', Bool.and_eq_false_iff]
    exact ⟨beq_iff_eq.mpr hst, h⟩
  · exact State.serveKept_of_state hst

theorem State.setTwinOk_false (s : State) : s.setTwinOk false = s.putFlag R.PAIR_STATUS F.PAIR_STATUS_TWIN_OK false :=
  State.serveKept_of_lost (Or.inl (State.flag_putFlag_same _ _ _ _ (by decide) (by decide)))

theorem State.setRingOk_false (s : State) : s.setRingOk false = s.putFlag R.PAIR_STATUS F.PAIR_STATUS_RING_OK false :=
  State.serveKept_of_lost (Or.inr (State.flag_putFlag_same _ _ _ _ (by decide) (by decide)))

theorem State.setTwinOk_true {s : State} (h : s.pairState ≠ 3) : s.setTwinOk true = s.putFlag R.PAIR_STATUS F.PAIR_STATUS_TWIN_OK true :=
  State.serveKept_of_state (by rwa [State.pairState_putFlag _ _ (by decide) (by decide)])

@[simp] theorem State.pairState_setTwinOk_false (s : State) : (s.setTwinOk false).pairState = s.pairState := by
  rw [State.setTwinOk_false, State.pairState_putFlag _ _ (by decide) (by decide)]

@[simp] theorem State.pairState_setRingOk_false (s : State) : (s.setRingOk false).pairState = s.pairState := by
  rw [State.setRingOk_false, State.pairState_putFlag _ _ (by decide) (by decide)]

@[simp] theorem State.twinOk_setTwinOk_false (s : State) : (s.setTwinOk false).twinOk = false := by
  rw [State.setTwinOk_false, State.twinOk, State.flag_putFlag_same _ _ _ _ (by decide) (by decide)]

@[simp] theorem State.ringOk_setRingOk_false (s : State) : (s.setRingOk false).ringOk = false := by
  rw [State.setRingOk_false, State.ringOk, State.flag_putFlag_same _ _ _ _ (by decide) (by decide)]

@[simp] theorem State.ringOk_setTwinOk_false (s : State) : (s.setTwinOk false).ringOk = s.ringOk := by
  rw [State.setTwinOk_false, State.ringOk, State.flag_putFlag_disjoint _ _ _ _ _ (by decide) (by decide), State.ringOk]

@[simp] theorem State.twinOk_setRingOk_false (s : State) : (s.setRingOk false).twinOk = s.twinOk := by
  rw [State.setRingOk_false, State.twinOk, State.flag_putFlag_disjoint _ _ _ _ _ (by decide) (by decide), State.twinOk]

@[simp] theorem State.twinOk_setErr (s : State) (f : Fld) : (s.setErr R.PAIR_ERR f).twinOk = s.twinOk := State.flag_setErr_status _ _ _ (by decide)

@[simp] theorem State.ringOk_setErr (s : State) (f : Fld) : (s.setErr R.PAIR_ERR f).ringOk = s.ringOk := State.flag_setErr_status _ _ _ (by decide)

theorem State.paired_of_formed {s : State} (h : s.pairState = 2) : s.paired = true := by rw [State.paired, h]; rfl

/-! ### A path of a formed controller (R441, R442) -/

/-- The Twin path counts as lost. -/
def State.twinLost (s : State) : State := (s.setTwinOk false).setErr R.PAIR_ERR F.PAIR_ERR_TWIN_LOST

/-- The ring path counts as lost. -/
def State.ringLost (s : State) : State := (s.setRingOk false).setErr R.PAIR_ERR F.PAIR_ERR_RING_LOST

@[simp] theorem State.twinLost_pairState (s : State) : s.twinLost.pairState = s.pairState := by simp [State.twinLost]

@[simp] theorem State.twinLost_ringOk (s : State) : s.twinLost.ringOk = s.ringOk := by simp [State.twinLost]

@[simp] theorem State.ringLost_pairState (s : State) : s.ringLost.pairState = s.pairState := by simp [State.ringLost]

@[simp] theorem State.ringLost_twinOk (s : State) : s.ringLost.twinOk = s.twinOk := by simp [State.ringLost]

theorem exec_twinPathLost_of_held {s : State} (hlink : s.linkActive 8 = true) (hcopy : s.pair.sinceCopy < s.get R.PAIR_CFG F.PAIR_CFG_MISS_LIMIT) :
    exec .twinPathLost s = .next s := by
  show execTwinPathLost s = _
  simp [execTwinPathLost, hlink, hcopy]

theorem exec_ringPathLost_of_held {s : State} (h : s.seenOn s.mgmt.hb0 = true ∨ s.seenOn s.mgmt.hb1 = true) : exec .ringPathLost s = .next s := by
  show execRingPathLost s = _
  rcases h with h | h <;> simp [execRingPathLost, h]

section TwinLost
variable {s : State} (htwin : s.twinOk = true) (hformed : s.pairState = 2)
  (hlost : s.linkActive 8 = false ∨ s.get R.PAIR_CFG F.PAIR_CFG_MISS_LIMIT ≤ s.pair.sinceCopy)
include htwin hformed hlost

theorem execTwinPathLost_of_formed :
    execTwinPathLost s = if s.ringOk then .next s.twinLost.enterExposed else .next (s.twinLost.beginFence true) := by
  have hheld : ¬ (!s.twinOk || (s.linkActive 8 && s.pair.sinceCopy < s.get R.PAIR_CFG F.PAIR_CFG_MISS_LIMIT)) = true := by
    rcases hlost with h | h
    · simp [htwin, h]
    · simp [htwin, h.not_gt]
  have hstate : s.twinLost.pairState = 2 := by rw [s.twinLost_pairState, hformed]
  unfold execTwinPathLost
  rw [if_neg hheld, ← State.twinLost]
  cases hring : s.ringOk <;> simp [State.paired_of_formed hstate, hstate, hring]

theorem exec_twinPathLost_exposes (hring : s.ringOk = true) : exec .twinPathLost s = .next s.twinLost.enterExposed := by
  show execTwinPathLost s = _
  rw [execTwinPathLost_of_formed htwin hformed hlost, if_pos hring]

theorem exec_twinPathLost_fences (hring : s.ringOk = false) : exec .twinPathLost s = .next (s.twinLost.beginFence true) := by
  show execTwinPathLost s = _
  rw [execTwinPathLost_of_formed htwin hformed hlost, if_neg (by simp [hring])]

end TwinLost

section RingLost
variable {s : State} (hring : s.ringOk = true) (hformed : s.pairState = 2) (h0 : s.seenOn s.mgmt.hb0 = false) (h1 : s.seenOn s.mgmt.hb1 = false)
include hring hformed h0 h1

theorem execRingPathLost_of_formed : execRingPathLost s = if s.twinOk then .next s.ringLost else .next (s.ringLost.beginFence true) := by
  have hheld : ¬ (!s.ringOk || s.seenOn s.mgmt.hb0 || s.seenOn s.mgmt.hb1) = true := by simp [hring, h0, h1]
  have hstate : s.ringLost.pairState = 2 := by rw [s.ringLost_pairState, hformed]
  unfold execRingPathLost
  rw [if_neg hheld, ← State.ringLost]
  cases htwin : s.twinOk <;> simp [State.paired_of_formed hstate, htwin]

theorem exec_ringPathLost_notes (htwin : s.twinOk = true) : exec .ringPathLost s = .next s.ringLost := by
  show execRingPathLost s = _
  rw [execRingPathLost_of_formed hring hformed h0 h1, if_pos htwin]

theorem exec_ringPathLost_fences (htwin : s.twinOk = false) : exec .ringPathLost s = .next (s.ringLost.beginFence true) := by
  show execRingPathLost s = _
  rw [execRingPathLost_of_formed hring hformed h0 h1, if_neg (by simp [htwin])]

end RingLost

/-- A controller that is EXPOSED, with the units of its queued mirror writes marked for the resync, before those are acknowledged locally. -/
def State.exposed (s : State) : State :=
  let t := (s.setPairState 3).setErr R.PAIR_ERR F.PAIR_ERR_EXPOSED
  let marks := t.pair.mirror.foldl (fun m (w : MirrorWrite) => if w.ctl.isSome || m.contains (w.pa / 65536) then m else m ++ [w.pa / 65536]) t.pair.resync
  { t with pair := { t.pair with resync := marks } }

theorem State.exposed_pairState (s : State) : s.exposed.pairState = 3 :=
  (State.pairState_setErr _ _).trans (State.pairState_setPairState s 3)

theorem State.exposed_flag (s : State) : s.exposed.flag R.PAIR_ERR F.PAIR_ERR_EXPOSED = true :=
  State.flag_setErr_low (by decide) (by decide) _ (by decide) rfl

/-! ### The fence (R445) -/

theorem State.assertFence_status (s : State) (g : Fld) :
    s.assertFence.flag R.PAIR_STATUS g = (s.putFlag R.PAIR_STATUS F.PAIR_STATUS_FENCE_OUT true).flag R.PAIR_STATUS g :=
  State.flag_setErr_status _ _ _ (by decide)

theorem State.assertFence_pairState (s : State) : s.assertFence.pairState = s.pairState := by
  unfold State.assertFence
  rw [State.pairState_setErr]
  exact State.pairState_putFlag s _ (by decide) (by decide)

theorem State.assertFence_rst (s : State) : s.assertFence.rst = { s.rst with fenceLand := true } := State.rst_apart.setErr _ _ _ _

theorem State.assertFence_pair (s : State) : s.assertFence.pair = { s.pair with fenceWait := false, fenceHeld := false } := State.pair_apart.setErr _ _ _ _

theorem State.assertFence_fenceOut (s : State) : s.assertFence.flag R.PAIR_STATUS F.PAIR_STATUS_FENCE_OUT = true := by
  rw [s.assertFence_status, State.flag_putFlag_same _ _ _ _ (by decide) (by decide)]

theorem State.assertFence_fenced (s : State) : s.assertFence.flag R.PAIR_ERR F.PAIR_ERR_FENCED = true :=
  State.flag_setErr_low (by decide) (by decide) _ (by decide) rfl

theorem State.beginFence_of_noDelay (s : State) : s.beginFence false = (s.setPairState 4).assertFence := rfl

theorem State.beginFence_pairState (delay : Bool) (s : State) : (s.beginFence delay).pairState = 4 := by
  unfold State.beginFence
  extract_lets t
  have ht : t.pairState = 4 := State.pairState_setPairState s 4
  split
  · exact ht
  · exact t.assertFence_pairState.trans ht

/-! ### The takeover (R446) -/

theorem State.takeover_pairState (s : State) : s.takeover.pairState = 6 := by
  unfold State.takeover
  extract_lets a b c
  generalize State.adoptBasins _ = x
  rw [State.pairState_setErr, State.pairState_setPairState]

/-- The fence is held. -/
def State.fenceNoted (s : State) : State := { s with pair := { s.pair with fenceHeld := true } }

/-- What follows once the fence is held: the command that waits runs, or an automatic takeover. -/
theorem exec_fenceHeld_of_asserted {s : State} (hstate : s.pairState = 4) (hland : s.rst.fenceLand = true) (hheld : s.pair.fenceHeld = false) :
    exec .fenceHeld s = .next (if s.pairBusy then s.fenceNoted.takeover.pairStatus 0
      else if s.flag R.PAIR_CFG F.PAIR_CFG_AUTO_TAKEOVER then s.fenceNoted.takeover else s.fenceNoted) := by
  show execFenceHeld s = _
  have hgo : ¬ (s.pairState ≠ 4 ∨ (!s.rst.fenceLand) = true ∨ s.pair.fenceHeld = true) := by simp [hstate, hland, hheld]
  unfold execFenceHeld
  rw [if_neg hgo, apply_ite Host.Outcome.next, apply_ite Host.Outcome.next]
  rfl

section Takeover
variable {s : State} (hidle : s.pairBusy = false)
include hidle

theorem exec_takeover_of_held (hstate : s.pairState = 4) (hheld : s.pair.fenceHeld = true) : exec .takeover s = .next (s.takeover.pairStatus 0) := by
  show execTakeover s = _
  unfold execTakeover
  rw [if_neg (by simp [hidle]), if_neg (by simp [hstate]), if_pos hheld]

theorem exec_takeover_of_waiting (hstate : s.pairState = 4) (hheld : s.pair.fenceHeld = false) :
    exec .takeover s = .next (s.putFlag R.PAIR_CMD F.PAIR_CMD_BUSY true) := by
  show execTakeover s = _
  unfold execTakeover
  rw [if_neg (by simp [hidle]), if_neg (by simp [hstate]), if_neg (by simp [hheld])]

theorem exec_takeover_of_other (hstate : s.pairState ≠ 4) : exec .takeover s = .next (s.pairStatus 2) := by
  show execTakeover s = _
  unfold execTakeover
  rw [if_neg (by simp [hidle]), if_pos hstate]

end Takeover

/-- Settles O51, row by row of R442's table. -/
theorem pathsOfAFormedPair : Obligations.PathsOfAFormedPair := by
  unfold Obligations.PathsOfAFormedPair
  refine ⟨fun s _ => ⟨exec_twinPathLost_of_held, exec_ringPathLost_of_held⟩, fun s htwin hformed hlost => ?twin, fun s hring hformed h0 h1 => ?ring,
    fun s => ⟨s.exposed, rfl, s.exposed_pairState, s.exposed_flag⟩, State.beginFence_pairState, fun s hstate hland => ?held,
    State.takeover_pairState⟩
  case twin => exact ⟨exec_twinPathLost_exposes htwin hformed hlost, exec_twinPathLost_fences htwin hformed hlost⟩
  case ring => exact ⟨exec_ringPathLost_notes hring hformed h0 h1, exec_ringPathLost_fences hring hformed h0 h1⟩
  case held =>
    refine ⟨fun hheld hauto hidle => ?_, fun hheld hbusy => ?_, fun hheld hidle => exec_takeover_of_held hidle hstate hheld⟩
    · rw [exec_fenceHeld_of_asserted hstate hland hheld, if_neg (by simp [hidle]), if_pos hauto]
      rfl
    · rw [exec_fenceHeld_of_asserted hstate hland hheld, if_pos hbusy]
      rfl

/-! ### The goodbye notice (R443, R551) -/

/-- The record of a partner's goodbye is made, and the Wellhead's cores are interrupted. -/
def State.goodbyeNoted (s : State) (body : List Byte) : State :=
  let t := s.setErr R.PAIR_ERR F.PAIR_ERR_GOODBYE
  let u := (t.writeEvent { kind := 3, code := 0, count := 0, mcycle := (t.reg R.WELL_MCYCLE).toNat, body := padTo 32 body }).raiseWell 4
  { u with pair := { u.pair with goodbye := true } }

/-- The paths that were held count as lost. -/
def State.pathsLost (s : State) : State :=
  let s := if s.twinOk then s.setErr R.PAIR_ERR F.PAIR_ERR_TWIN_LOST else s
  let s := if s.ringOk then s.setErr R.PAIR_ERR F.PAIR_ERR_RING_LOST else s
  (s.setTwinOk false).setRingOk false

theorem State.pathsLost_twinOk (s : State) : s.pathsLost.twinOk = false := by simp [State.pathsLost]

theorem State.pathsLost_ringOk (s : State) : s.pathsLost.ringOk = false := by simp [State.pathsLost]

theorem State.pathsLost_pair (s : State) : s.pathsLost.pair = s.pair := by
  unfold State.pathsLost
  extract_lets t u
  have ht : t.pair = s.pair := by
    unfold t
    split
    · exact State.pair_apart.setErr _ _ _ _
    · rfl
  have hu : u.pair = t.pair := by
    unfold u
    split
    · exact State.pair_apart.setErr _ _ _ _
    · rfl
  rw [State.setRingOk_false, State.setTwinOk_false, State.putFlag_pair, State.putFlag_pair, hu, ht]

theorem exec_goodbye_of_formed {body : List Byte} {s : State} (hfirst : s.pair.goodbye = false) (hformed : s.pairState = 2) :
    exec (.goodbye body false) s = .next ((s.goodbyeNoted body).pathsLost.beginFence false) := by
  have hpair : (s.setErr R.PAIR_ERR F.PAIR_ERR_GOODBYE).pair = s.pair := State.pair_apart.setErr _ _ _ _
  have hpaired : (s.setErr R.PAIR_ERR F.PAIR_ERR_GOODBYE).paired = true := State.paired_of_formed (by rw [State.pairState_setErr, hformed])
  show execGoodbye body false s = _
  unfold execGoodbye
  simp only [Bool.false_and, Bool.false_eq_true, if_false, hpair, hfirst, hpaired, if_true]
  rfl

/-- A fence with no delay, of a controller whose paths are lost. -/
theorem State.fencedAtOnce (s : State) (htwin : s.twinOk = false) (hring : s.ringOk = false) :
    (s.beginFence false).twinOk = false ∧ (s.beginFence false).ringOk = false ∧ (s.beginFence false).pairState = 4 ∧
      (s.beginFence false).rst.fenceLand = true ∧ (s.beginFence false).flag R.PAIR_STATUS F.PAIR_STATUS_FENCE_OUT = true := by
  refine ⟨?_, ?_, s.beginFence_pairState false, ?_, State.assertFence_fenceOut _⟩
  · rw [State.twinOk, State.beginFence_of_noDelay, State.assertFence_status, State.flag_putFlag_disjoint _ _ _ _ _ (by decide) (by decide),
      State.flag_setPairState _ _ (by decide), ← State.twinOk, htwin]
  · rw [State.ringOk, State.beginFence_of_noDelay, State.assertFence_status, State.flag_putFlag_disjoint _ _ _ _ _ (by decide) (by decide),
      State.flag_setPairState _ _ (by decide), ← State.ringOk, hring]
  · rw [State.beginFence_of_noDelay, State.assertFence_rst]

theorem State.goodbyeNoted_goodbye (s : State) (body : List Byte) : (s.goodbyeNoted body).pair.goodbye = true := rfl

theorem State.beginFence_goodbye (s : State) : (s.beginFence false).pair.goodbye = s.pair.goodbye := by
  rw [State.beginFence_of_noDelay, State.assertFence_pair]
  rfl

theorem exec_fenceDelayExpiry_of_waiting {s : State} (h : s.pair.fenceWait = true) : exec .fenceDelayExpiry s = .next s.assertFence := if_pos h

/-! ### The fence is released (R449) -/

/-- The fence is asserted no more. -/
def State.fenceHigh (s : State) : State :=
  let s := { s with rst := { s.rst with fenceLand := false }, pair := { s.pair with fenceHeld := false } }
  s.putFlag R.PAIR_STATUS F.PAIR_STATUS_FENCE_OUT false

/-- PARTNER_RST_OUT_L is driven high again, and the command completes with OK. -/
def State.fenceReleased (s : State) : State := (s.fenceHigh.send (.land "PARTNER_RST_OUT_L" true)).pairStatus 0

theorem State.get_pairStatus_same (s : State) (v : Nat) : (s.pairStatus v).get R.PAIR_CMD F.PAIR_CMD_STATUS = v % 2 ^ F.PAIR_CMD_STATUS.w :=
  State.get_put_same _ _ _ _ (by decide)

theorem State.reg_pairStatus (s : State) (v : Nat) {o : Nat} (ho : o ≠ R.PAIR_CMD) : (s.pairStatus v).reg o = s.reg o := by
  rw [State.pairStatus, State.reg_put_ne _ _ _ _ _ ho, State.reg_putFlag_ne _ _ _ _ _ ho]

theorem State.fenceReleased_fenceOut (s : State) : s.fenceReleased.flag R.PAIR_STATUS F.PAIR_STATUS_FENCE_OUT = false := by
  have hcmd : s.fenceReleased.reg R.PAIR_STATUS = s.fenceHigh.reg R.PAIR_STATUS := State.reg_pairStatus _ 0 (by decide)
  rw [State.flag_congr hcmd, State.fenceHigh, State.flag_putFlag_same _ _ _ _ (by decide) (by decide)]

theorem State.fenceReleased_status (s : State) : s.fenceReleased.get R.PAIR_CMD F.PAIR_CMD_STATUS = 0 := by
  rw [State.fenceReleased, State.get_pairStatus_same, Nat.zero_mod]

section Kept
variable (s : State)

theorem State.fenceReleased_rst : s.fenceReleased.rst = { s.rst with fenceLand := false } := by simp [State.fenceReleased, State.pairStatus, State.fenceHigh]

theorem State.fenceReleased_pair : s.fenceReleased.pair = { s.pair with fenceHeld := false } := by simp [State.fenceReleased, State.pairStatus, State.fenceHigh]

theorem State.fenceReleased_pool : s.fenceReleased.pool = s.pool := by simp [State.fenceReleased, State.pairStatus, State.fenceHigh]

theorem State.fenceReleased_home : s.fenceReleased.home = s.home := by simp [State.fenceReleased, State.pairStatus, State.fenceHigh]

theorem State.fenceReleased_kv : s.fenceReleased.kv = s.kv := by simp [State.fenceReleased, State.pairStatus, State.fenceHigh]

theorem State.fenceReleased_jobs : s.fenceReleased.jobs = s.jobs := by simp [State.fenceReleased, State.pairStatus, State.fenceHigh]

end Kept

section Release
variable {s : State} (hidle : s.pairBusy = false)
include hidle

theorem exec_fenceRelease_of_high (hland : s.rst.fenceLand = false) : exec .fenceRelease s = .next (s.pairStatus 2) := by
  show execFenceRelease s = _
  unfold execFenceRelease
  rw [if_neg (by simp [hidle]), if_pos (by simp [hland])]

theorem exec_fenceRelease_of_asserted (hland : s.rst.fenceLand = true) : exec .fenceRelease s = .next s.fenceReleased := by
  show execFenceRelease s = _
  unfold execFenceRelease
  rw [if_neg (by simp [hidle]), if_neg (by simp [hland])]
  rfl

end Release

/-- Settles O52: the goodbye, and each command of the fence and of the takeover. -/
theorem pairPathsAndFence : Obligations.PairPathsAndFence := by
  unfold Obligations.PairPathsAndFence
  refine ⟨fun body s hfirst hformed => ?goodbye, fun delay s => ?begin, fun s => exec_fenceDelayExpiry_of_waiting, fun s => ?asserted,
    fun s => exec_fenceHeld_of_asserted, fun s hidle => ⟨exec_takeover_of_held hidle, exec_takeover_of_waiting hidle, exec_takeover_of_other hidle⟩,
    fun s hidle => ⟨exec_fenceRelease_of_high hidle, fun hland => ?released⟩⟩
  case goodbye =>
    refine ⟨_, exec_goodbye_of_formed hfirst hformed, ?_, State.fencedAtOnce _ (State.pathsLost_twinOk _) (State.pathsLost_ringOk _)⟩
    rw [State.beginFence_goodbye, State.pathsLost_pair, State.goodbyeNoted_goodbye]
  case begin =>
    rw [← State.flag_setPairState s 4 (by decide)]
    rfl
  case asserted =>
    refine ⟨?_, ?_, s.assertFence_fenceOut, s.assertFence_fenced⟩
    · rw [s.assertFence_rst]
    · rw [s.assertFence_pair]
  case released =>
    exact ⟨s.fenceReleased, exec_fenceRelease_of_asserted hidle hland, by rw [s.fenceReleased_rst], s.fenceReleased_fenceOut, by rw [s.fenceReleased_pair],
      s.fenceReleased_status, s.fenceReleased_pool, s.fenceReleased_home, s.fenceReleased_kv, s.fenceReleased_jobs⟩

end Sys2Proof.Machine
end

section
/-!
What memory accesses, the links and alarms leave as it stands: registers outside their own (R262, R278 to R285, R400 to R411, R434, R435, R545).
-/
namespace Sys2Proof.Machine

/-! ### Registers that accesses write -/

/-- The registers that accesses to memory, the links and alarms may write: MSI-X pending bits, the ports, translation, channels, RAS but for the state of the
stacks, the configuration measurement, and management. -/
def noisy (o : Nat) : Prop :=
  o = pbaReg ∨ (0x200000 ≤ o ∧ o < 0x290000) ∨ (0x400000 ≤ o ∧ o < 0x480000) ∨
    (0x1000000 ≤ o ∧ o < 0x1D00000 ∧ ¬ (0x1C00060 ≤ o ∧ o < 0x1C000C0)) ∨
    (0x1D00050 ≤ o ∧ o < 0x1D000E0 ∧ o ≠ R.SEC_SVN) ∨ 0x1E00000 ≤ o

theorem noisy_mgmt {o : Nat} (h : 0x1E00000 ≤ o) : noisy o := by
  simp only [noisy]
  omega

theorem noisy_mere {n k : Nat} (hn : n ≤ 8) (hk : k < 0x10000) : noisy (R.MERE_BASE n + k) := by
  simp only [noisy, R.MERE_BASE]
  omega

theorem noisy_xlat {o : Nat} (h : 0x400000 ≤ o ∧ o < 0x480000) : noisy o := by
  simp only [noisy]
  omega

theorem noisy_ras {o : Nat} (h : 0x1C00000 ≤ o ∧ o < 0x1D00000) (hstack : o < 0x1C00060 ∨ 0x1C000C0 ≤ o) : noisy o := by
  simp only [noisy]
  omega

theorem noisy_chCnt {u : Nat} (hu : u < 396) {i : Nat} (hi : i ≤ 11) : noisy (chCnt u i) := by
  simp only [noisy, chCnt, R.POND_BASE, R.SPILL_BASE]
  split <;> omega

theorem noisy_pondErr {u : Nat} (hu : u < 396) : noisy (R.POND_ERR u) := by
  simp only [noisy, R.POND_ERR, R.POND_BASE]
  omega

theorem noisy_spillErr {j : Nat} (hj : j < 12) : noisy (R.SPILL_ERR j) := by
  simp only [noisy, R.SPILL_ERR, R.SPILL_BASE]
  omega

theorem noisy_chErr {u : Nat} (hu : u < 396) : noisy (chErr u) := by
  simp only [noisy, chErr, R.POND_ERR, R.POND_BASE, R.SPILL_ERR, R.SPILL_BASE]
  split <;> omega

theorem noisy_chCtrl {u : Nat} (hu : u < 396) : noisy (chCtrl u) := by
  simp only [noisy, chCtrl, R.POND_CTRL, R.POND_BASE, R.SPILL_CTRL, R.SPILL_BASE]
  split <;> omega

theorem noisy_chRetrain {u : Nat} (hu : u < 396) : noisy (chRetrain u) := by
  simp only [noisy, chRetrain, R.POND_RETRAIN, R.POND_BASE, R.SPILL_RETRAIN, R.SPILL_BASE]
  split <;> omega

theorem noisy_config {w : Nat} (hw : w < 4) : noisy (R.SEC_CONFIG_MEAS w) := by
  simp only [noisy, R.SEC_CONFIG_MEAS, R.SEC_SVN, R.SEC_BASE]
  omega

theorem noisy_data {w : Nat} (hw : w < 4) : noisy (R.SEC_MEXT_DATA w) := by
  simp only [noisy, R.SEC_MEXT_DATA, R.SEC_SVN, R.SEC_BASE]
  omega

theorem noisy_mextCmd : noisy R.SEC_MEXT_CMD := by
  simp only [noisy, R.SEC_MEXT_CMD, R.SEC_SVN, R.SEC_BASE]
  omega

theorem unitOf_lt {pa u : Nat} (h : unitOf pa = some u) : u < 396 := by
  unfold unitOf at h
  split at h
  · next hfast =>
    have hstack : fastStack pa < 12 := by
      simp only [fastTop] at hfast
      simp only [fastStack, bitsOf]
      omega
    have hchannel : fastChannel pa < 2 ^ 5 := Nat.xor_lt_two_pow (Nat.mod_lt _ (by decide)) (Nat.mod_lt _ (by decide))
    obtain rfl := Option.some_inj.mp h
    omega
  · split at h
    · cases h
    · split at h
      · next hlow hspill =>
        have hchan : spillChan pa < 12 := by
          simp only [spillBase] at hlow hspill
          simp only [spillChan, spillBase, bitsOf]
          omega
        obtain rfl := Option.some_inj.mp h
        omega
      · cases h

theorem State.unit_of_serve {s : State} {la u : Nat} {repair : Bool} (h : s.routeOf la repair = .serve u) : u < 396 := by
  unfold State.routeOf at h
  split at h
  · cases h
  · next v hv =>
    have hlt := unitOf_lt hv
    split at h
    · cases h
    · split at h
      · cases h
      · split at h
        · cases h
        · split at h <;> cases h
          exact hlt

/-! ### Errors and alarms -/

/-- A part of the state that accesses to memory, the links and alarms leave alone: registers that are loud, the noisy ones among them, are not of it. -/
structure Spared (loud : Nat → Prop) {β : Type} (p : State → β) : Prop where
  covers : ∀ o, noisy o → loud o
  setReg : ∀ s o v, loud o → p (State.setReg s o v) = p s
  send : ∀ s x, p (State.send s x) = p s
  tick : ∀ s, p (State.tick s) = p s
  setCore : ∀ s i c, p (State.setCore s i c) = p s
  setChan : ∀ s u c, p (State.setChan s u c) = p s
  pool : ∀ (s : State) (q : Pool), p { s with pool := q } = p s
  mgmt : ∀ (s : State) (m : Mgmt), m.fatal = s.mgmt.fatal → p { s with mgmt := m } = p s
  fab : ∀ (s : State) (f : Fabric), p { s with fab := f } = p s
  pair : ∀ (s : State) (q : Pair), p { s with pair := q } = p s
  ras : ∀ (s : State) (r : Ras), p { s with ras := r } = p s
  xlat : ∀ (s : State) (x : Xlat), p { s with xlat := x } = p s

theorem State.reg_spared {o : Nat} (ho : ¬ noisy o) : Spared noisy (fun s => s.reg o) where
  covers _ hq := hq
  setReg s q v hq := State.reg_setReg_ne s q o v (fun e => ho (e ▸ hq))
  send _ _ := (rfl)
  tick _ := (rfl)
  setCore _ _ _ := (rfl)
  setChan _ _ _ := (rfl)
  pool _ _ := (rfl)
  mgmt _ _ _ := (rfl)
  fab _ _ := (rfl)
  pair _ _ := (rfl)
  ras _ _ := (rfl)
  xlat _ _ := (rfl)

section Errors
variable {loud : Nat → Prop} {β : Type} {p : State → β} (hp : Spared loud p)
include hp

/-- The Twin link's registers. -/
theorem Spared.twin : ∀ k, k < 0x10000 → loud (R.MERE_BASE 8 + k) := fun _ hk => hp.covers _ (noisy_mere (le_refl 8) hk)

theorem Spared.put (s : State) {o : Nat} (f : Fld) (v : Nat) (ho : loud o) : p (s.put o f v) = p s := hp.setReg _ _ _ ho

theorem Spared.putFlag (s : State) {o : Nat} (f : Fld) (b : Bool) (ho : loud o) : p (s.putFlag o f b) = p s := hp.setReg _ _ _ ho

theorem Spared.bump (s : State) {o : Nat} (n : Nat) (ho : loud o) : p (s.bump o n) = p s := hp.setReg _ _ _ ho

theorem Spared.interrupt (s : State) (v : Nat) : p (s.interrupt v) = p s := by
  rcases s.interrupt_cases v with ⟨e, -⟩ | ⟨e, -⟩ <;> rw [e]
  · exact hp.send _ _
  · exact hp.setReg _ _ _ (hp.covers _ (Or.inl rfl))

theorem Spared.interruptIf (s t : State) (v : Nat) : p (State.interruptIf s t v) = p t := by
  unfold State.interruptIf
  split
  · exact hp.interrupt _ _
  · rfl

theorem Spared.raiseIrq (s : State) (i code : Nat) : p (s.raiseIrq i code) = p s := hp.setCore _ _ _

theorem Spared.raiseWell (s : State) (code : Nat) : p (s.raiseWell code) = p s := foldl_keeps p _ s (fun t i _ => hp.raiseIrq t i code)

theorem Spared.setErrOnly (s : State) {o : Nat} (f : Fld) (v : Nat) (ho : ∀ (t : State) w, p (t.setReg o w) = p t) : p (s.setErrOnly o f v) = p s := by
  unfold State.setErrOnly
  extract_lets b t
  have ht : p t = p s := ho _ _
  split
  · split
    · split
      · exact (hp.raiseIrq _ _ _).trans ht
      · exact ht
    · exact ht
  · exact (hp.interruptIf _ _ _).trans ht

theorem Spared.wrote (s : State) (pa : Nat) : p (s.wrote pa) = p s := by
  unfold State.wrote
  split
  · rfl
  · next h => exact (hp.setChan _ _ _).trans (hp.bump _ _ (hp.covers _ (noisy_chCnt (unitOf_lt h) (by decide))))

theorem Spared.ringEvent (s : State) (r : EvRec) : p (s.ringEvent r) = p s := by
  unfold State.ringEvent
  extract_lets tail a m t
  have ht : p t = p s := (hp.mgmt { s with pool := t.pool } t.mgmt rfl).trans (hp.pool s t.pool)
  rw [hp.interrupt, hp.put _ _ _ (hp.covers _ (noisy_mgmt (by decide))), hp.wrote, ht]

theorem Spared.writeEvent (s : State) (r : EvRec) : p (s.writeEvent r) = p s := by
  unfold State.writeEvent
  split
  · exact hp.ringEvent _ _
  · extract_lets m t
    have ht : p t = p s := (hp.put _ _ _ (hp.covers _ (noisy_mgmt (by decide)))).trans ((hp.putFlag _ _ _ (hp.covers _ (noisy_mgmt (by decide)))).trans (hp.mgmt _ _ rfl))
    split
    · exact (hp.setErrOnly _ _ _ (fun u w => hp.setReg _ _ _ (hp.covers _ (noisy_mgmt (by decide))))).trans ht
    · exact ht

theorem Spared.raiseAlarm (s : State) (a : Alarm) : p (s.raiseAlarm a) = p s := by
  unfold State.raiseAlarm State.accumulateAlarm
  extract_lets t u
  have ht : p t = p s := hp.setReg _ _ _ (hp.covers _ (noisy_mgmt (by simp only [R.MGMT_ALARMCNT, R.MGMT_BASE]; omega)))
  have hu : p u = p t := hp.setReg _ _ _ (hp.covers _ (noisy_mgmt (by decide)))
  split
  · exact ht
  · split
    · exact hu.trans ht
    · exact (hp.writeEvent _ _).trans (hu.trans ht)

theorem Spared.unitAlarm (s : State) (addr : Nat) (a : Alarm) : p (s.unitAlarm addr a) = p s := hp.mgmt _ _ rfl

/-- An error bit of a register that the part does not hold. -/
theorem Spared.setErrAt (s : State) {o : Nat} (f : Fld) (v : Nat) (ho : ∀ (t : State) w, p (t.setReg o w) = p t) : p (s.setErr o f v) = p s := by
  unfold State.setErr
  extract_lets t
  have ht : p t = p s := hp.setErrOnly _ _ _ ho
  split
  · exact ht
  · exact (hp.raiseAlarm _ _).trans ht
  · exact (hp.unitAlarm _ _ _).trans ht

theorem Spared.setErr (s : State) {o : Nat} (f : Fld) (ho : loud o) : p (s.setErr o f) = p s := hp.setErrAt s f 1 (fun t w => hp.setReg t o w ho)

end Errors

/-! ### Links and the mirror queue -/

section Links
variable {loud : Nat → Prop} {β : Type} {p : State → β} (hp : Spared loud p) {n : Nat} (hn : ∀ k, k < 0x10000 → loud (R.MERE_BASE n + k))
include hp hn

theorem Spared.setLink (s : State) (l : Link) : p (s.setLink n l) = p s := by
  have hstat : loud (R.MERE_LINKSTAT n) := hn _ (by decide)
  rw [State.setLink_eq, hp.put _ _ _ hstat, hp.put _ _ _ hstat, hp.put _ _ _ hstat]
  exact hp.fab _ _

theorem Spared.sendSequenced (s : State) (credit : Bool) (first : Nat) (payload : List Byte) (ends : List LinkPkt) :
    p (s.sendSequenced n credit first payload ends) = p s :=
  ((hp.send _ _).trans (hp.setLink hn _ _)).trans ((hp.bump _ _ (hn _ (by decide))).trans (hp.setLink hn _ _))

theorem Spared.sendSlots (s : State) (k : LinkPkt) (first : Nat) (l : List (List Byte)) : p (s.sendSlots n k first l) = p s := by
  fun_induction State.sendSlots s n k first l with
  | case1 => rfl
  | case2 => exact hp.sendSequenced hn _ _ _ _ _
  | case3 _ _ _ _ _ ih => exact ih.trans (hp.sendSequenced hn _ _ _ _ _)

theorem Spared.setCredit (s : State) (c v : Nat) : p (s.setCredit n c v) = p s := by
  have hreg : loud (creditAt n c).1 := by
    unfold creditAt
    split <;> exact hn _ (by decide)
  exact hp.put _ _ _ hreg

theorem Spared.sendPacket (s : State) (k : LinkPkt) : p (s.sendPacket n k) = p s := by
  unfold State.sendPacket
  extract_lets c t u
  have ht : p t = p s := hp.setCredit hn _ _ _
  have hu : p u = p t := by
    unfold u
    split
    · exact hp.setLink hn _ _
    · rfl
  exact (hp.sendSlots hn _ _ _ _).trans (hu.trans ht)

theorem Spared.pumpLink (s : State) (fuel : Nat) : p (s.pumpLink n fuel) = p s := by
  induction fuel generalizing s with
  | zero => rfl
  | succ fuel ih =>
    simp only [State.pumpLink]
    split
    · rfl
    · split
      · split
        · rfl
        · exact (ih _).trans ((hp.sendPacket hn _ _).trans (hp.setLink hn _ _))
      · split
        · exact (ih _).trans (hp.sendSequenced hn _ _ _ _ _)
        · rfl

theorem Spared.takeDelivered (s : State) (bs : List Byte) : p (s.takeDelivered n bs) = p s := by
  unfold State.takeDelivered
  extract_lets l
  split
  · exact (hp.pumpLink hn _ _).trans (hp.setLink hn _ _)
  · rfl

end Links

section Mirror
variable {loud : Nat → Prop} {β : Type} {p : State → β} (hp : Spared loud p)
include hp

theorem Spared.sendTwin (s : State) (op : String) (cls : Nat) (args : List Nat) (data : List Byte) : p (s.sendTwin op cls args data) = p s := by
  refine (foldl_keeps p _ _ fun t k _ => ?_).trans (hp.send _ _)
  refine ((hp.pumpLink hp.twin _ _).trans (hp.setLink hp.twin _ _)).trans ?_
  split
  · exact hp.fab _ _
  · rfl

theorem Spared.queueMirror (s : State) (pa shadow tag : Nat) : p (s.queueMirror pa shadow tag) = p s := by
  unfold State.queueMirror
  extract_lets x w _ t
  have ht : p t = p s := hp.pair _ _
  split
  · exact (hp.sendTwin _ _ _ _ _).trans ht
  · exact ht

theorem Spared.mirrorLine (s : State) (pa : Nat) : p (s.mirrorLine pa) = p s := by
  unfold State.mirrorLine
  split
  · rfl
  · split
    · split
      · exact hp.queueMirror _ _ _ _
      · rfl
    · split
      · exact hp.pair _ _
      · rfl

theorem Spared.changePartner (s : State) (what : String) (args : List Nat) : p (s.changePartner what args) = p s := by
  unfold State.changePartner
  split
  · exact (hp.sendTwin _ _ _ _ _).trans (hp.pair _ _)
  · rfl

end Mirror

/-! ### Lines and triplicated words -/

section Lines
variable {loud : Nat → Prop} {β : Type} {p : State → β} (hp : Spared loud p)
include hp

theorem Spared.logTag (s : State) (pa expected found : Nat) : p (s.logTag pa expected found) = p s := by
  have herr : loud R.XLAT_TAGERR := hp.covers _ (noisy_xlat (by decide))
  unfold State.logTag
  extract_lets t u
  have ht : p t = p s := hp.bump _ _ (hp.covers _ (noisy_xlat (by decide)))
  have hu : p u = p t := by
    unfold u
    split
    · rfl
    · rw [hp.put _ _ _ (hp.covers _ (noisy_xlat (by decide))), hp.put _ _ _ herr, hp.put _ _ _ herr, hp.put _ _ _ herr]
  exact (hp.setErr _ _ (hp.covers _ (noisy_xlat (by decide)))).trans (hu.trans ht)

theorem Spared.logUE (s : State) (pa : Nat) : p (s.logUE pa) = p s := by
  have hlog : loud R.RAS_UELOG := hp.covers _ (noisy_ras (by decide) (by decide))
  unfold State.logUE
  extract_lets t u q v
  have ht : p t = p s := hp.bump _ _ (hp.covers _ (noisy_ras (by decide) (by decide)))
  have hu : p u = p t := by
    unfold u
    split
    · rfl
    · rw [hp.put _ _ _ hlog, hp.put _ _ _ hlog]
  exact (hp.setErr _ _ (hp.covers _ (noisy_ras (by decide) (by decide)))).trans ((hp.ras _ _).trans (hu.trans ht))

/-- A route names a channel that there is. -/
theorem Spared.routeErr (s t : State) (la : Nat) (repair : Bool) : p (t.routeErr (s.routeOf la repair)) = p t := by
  unfold State.routeOf
  split
  · rfl
  · next u h =>
    have hu := unitOf_lt h
    have hspill : u - 384 < 12 := by omega
    split
    · exact hp.setErr _ _ (hp.covers _ (noisy_pondErr hu))
    · split
      · rw [State.routeErr]
        exact hp.setErr _ _ (hp.covers _ (noisy_spillErr hspill))
      · split
        · rfl
        · split <;> rfl

theorem Spared.storeLine (s : State) (la : Nat) (x : Side) (kslot tag : Nat) (poison : Bool) (d : List Byte) :
    p (s.storeLine la x kslot tag poison d) = p s := (hp.wrote _ _).trans (hp.pool _ _)

theorem Spared.writeLine (s : State) (pa : Nat) (tenant : Option Nat) (kslot : Nat) (poison : Bool) (d : List Byte) (repair : Bool) :
    p (s.writeLine pa tenant kslot poison d repair).1 = p s := by
  have hstore : ∀ (t : State) (x : Side) (tag : Nat),
      p ((t.storeLine (pa / 64 * 64) x kslot tag poison d).mirrorLine (pa / 64 * 64)) = p t :=
    fun t x tag => (hp.mirrorLine _ _).trans (hp.storeLine _ _ _ _ _ _ _)
  unfold State.writeLine
  extract_lets la
  split
  · split
    · rfl
    · split
      · exact hstore _ _ _
      · split
        · exact (hstore _ _ _).trans (hp.bump _ _ (hp.covers _ (noisy_xlat (by decide))))
        · split
          · exact hp.logTag _ _ _ _
          · exact hstore _ _ _
  · exact hp.routeErr _ _ _ _

theorem Spared.readLine (s : State) (pa : Nat) (tenant : Option Nat) (kslot : Nat) (repair : Bool) :
    p (s.readLine pa tenant kslot repair).1 = p s := by
  have hpoison : ∀ (t : State) (b : Bool), p (if b then t.bump R.RAS_CNT_POISON_READ else t).tick = p t := by
    intro t b
    refine (hp.tick _).trans ?_
    split
    · exact hp.bump _ _ (hp.covers _ (noisy_ras (by decide) (by decide)))
    · rfl
  unfold State.readLine
  extract_lets la
  split
  · rfl
  · next u hserve =>
    extract_lets t x
    have ht : p t = p s := (hp.setChan _ _ _).trans (hp.bump _ _ (hp.covers _ (noisy_chCnt (State.unit_of_serve hserve) (by decide))))
    split
    · exact ht
    · split
      · exact (hp.logUE _ _).trans ((hp.tick _).trans ht)
      · split
        · split
          · exact (hp.logTag _ _ _ _).trans ht
          · exact (hpoison _ _).trans ht
        · exact (hpoison _ _).trans ht
  · exact hp.routeErr _ _ _ _

theorem Spared.loadCopies (s : State) (w : Nat) : p (s.loadCopies w).1 = p s := by
  rw [State.loadCopies_eq]
  exact foldl_fst_keeps p _ _ (fun a k _ => (congrArg p (fst_withCopy w a k)).trans (hp.readLine _ _ _ _ _))

theorem Spared.storeCopies (s : State) (w : Nat) (v : List Byte) (l : List Nat) : p (s.storeCopies w v l) = p s :=
  foldl_keeps p _ _ (fun _ _ _ => hp.writeLine _ _ _ _ _ _ _)

theorem Spared.moveCopies (s : State) (f : Nat) : p (s.moveCopies f) = p s := by
  unfold State.moveCopies
  split
  · rfl
  · extract_lets words res t u
    have hvotes : res = words.foldl withVote (s, []) := by
      refine congrArg (fun f => List.foldl f (s, []) words) (funext fun a => funext fun w => ?_)
      unfold withVote
      generalize a.1.loadCopies w = x
      obtain ⟨v, c⟩ := x
      rfl
    have hres : p res.1 = p s := by
      rw [hvotes]
      exact foldl_fst_keeps p _ _ (fun a w _ => (congrArg p (fst_withVote a w)).trans (hp.loadCopies _ _))
    refine (foldl_keeps p _ _ (fun v x _ => ?_)).trans ((hp.ras _ _).trans hres)
    split
    · exact hp.storeCopies _ _ _ _
    · exact hp.raiseAlarm _ _

end Lines

/-! ### Basins and their fills -/

section Basins
variable {loud : Nat → Prop} {β : Type} {p : State → β} (hp : Spared loud p)
include hp

theorem Spared.recordChange (s : State) : p s.recordChange = p s := by
  have hmeas : ∀ (t : State) (r : Nat → Nat) (b : List Byte), (∀ w, w < 4 → loud (r w)) → p (t.setMeas r b) = p t :=
    fun t r b hr => foldl_keeps p _ t (fun _ w hw => hp.setReg _ _ _ (hr w (by simpa using hw)))
  rw [State.recordChange, State.extend, hp.put _ _ _ (hp.covers _ noisy_mextCmd), hmeas _ _ _ (fun _ hw => hp.covers _ (noisy_config hw)), hp.tick, hmeas _ _ _ (fun _ hw => hp.covers _ (noisy_data hw))]

theorem Spared.xlatDone (s : State) (status res : Nat) : p (s.xlatDone status res) = p s := by
  have hcmd : loud R.XLAT_CMD := hp.covers _ (noisy_xlat (by decide))
  rw [State.xlatDone, hp.setErr _ _ (hp.covers _ (noisy_xlat (by decide))), hp.setReg _ _ _ (hp.covers _ (noisy_xlat (by decide))), hp.putFlag _ _ _ hcmd, hp.put _ _ _ hcmd]

theorem Spared.settleBasins (s : State) : p s.settleBasins = p s := by
  refine foldl_keeps p _ _ (fun t e _ => ?_)
  simp only
  split
  · rfl
  · split
    · exact hp.xlat _ _
    · exact (hp.xlatDone _ _ _).trans ((hp.recordChange _).trans (hp.xlat _ _))

theorem Spared.startBasinFill (s : State) {u : Nat} (hu : u < 396) : p (s.startBasinFill u) = p s := by
  unfold State.startBasinFill
  split
  · split
    · exact (hp.setChan _ _ _).trans ((hp.pool _ _).trans (hp.xlat _ _))
    · split
      · rfl
      · exact (hp.settleBasins _).trans ((hp.setErr _ _ (hp.covers _ (noisy_chErr hu))).trans (hp.xlat _ _))
  · rfl

theorem Spared.fillRuns (s : State) (basin tenant : Nat) (rs : List Run) : p (s.fillRuns basin tenant rs) = p s := by
  unfold State.fillRuns
  extract_lets l x t
  have ht : p t = p s := hp.xlat _ _
  split
  · exact (hp.settleBasins _).trans ht
  · exact (foldl_keeps p _ _ (fun v u hu => hp.startBasinFill _ (List.mem_range.mp hu))).trans ht

end Basins

end Sys2Proof.Machine
end

section
/-!
The pair verifies, forms, joins, copies, resyncs and switches back (R439, R440, R444, R450, R451, R483, R591).
-/
namespace Sys2Proof.Machine

/-! ### PAIR_STATUS is beside the memory, the links and the Twin link (R430, R434, R444) -/

theorem State.pairStatus_spared : Spared noisy (fun s => s.reg R.PAIR_STATUS) := State.reg_spared (by unfold noisy; decide)

theorem State.reg_setSlot_status (s : State) (k : Nat) (x : KeySlot) : (s.setSlot k x).reg R.PAIR_STATUS = s.reg R.PAIR_STATUS := (rfl)

section Sink
variable {loud : Nat → Prop} {β : Type} {p : State → β} (hp : Spared loud p)
include hp

theorem Spared.storeMirror (s : State) (pa : Nat) (poison : Bool) (summary heat : Nat) (d : List Byte) :
    p (s.storeMirror pa poison summary heat d).1 = p s := by
  unfold State.storeMirror
  split
  · rfl
  · next b _ =>
    have hw : p (s.writeLine pa (some b.tenant) b.tenant poison d).1 = p s := hp.writeLine _ _ _ _ _ _ _
    generalize s.writeLine pa (some b.tenant) b.tenant poison d = x at hw ⊢
    obtain ⟨t, st⟩ := x
    cases st
    case ok => exact (hp.pool _ _).trans hw
    all_goals exact hw

/-- One line more of a mirror write, with the worse of the answers. -/
def mirrorStep (map : Nat) (side : List (Nat × Nat)) (pa : Nat) (d : List Byte) (a : State × MemStat) (i : Nat) : State × MemStat :=
  keepFirst (worse a.2) (a.1.storeMirror (pa + 64 * i) (bitOf map i) (side.getD i (0, 0)).1 (side.getD i (0, 0)).2 ((d.drop (64 * i)).take 64))

theorem Spared.sinkMirror (s : State) (w0 w1 : Nat) (payload : List Byte) (side : List (Nat × Nat)) : p (s.sinkMirror w0 w1 payload side) = p s := by
  unfold State.sinkMirror
  extract_lets one d map r
  have hr : r = (List.range (d.length / 64)).foldl (mirrorStep map side (phPa w1) d) (s, .ok) := by
    refine congrArg (fun f => List.foldl f (s, MemStat.ok) _) (funext fun a => funext fun i => ?_)
    unfold mirrorStep
    extract_lets x
    generalize a.1.storeMirror (phPa w1 + 64 * i) (bitOf map i) x.1 x.2 ((d.drop (64 * i)).take 64) = y
    obtain ⟨t, st⟩ := y
    rfl
  have hstored : p r.1 = p s := by
    rw [hr]
    exact foldl_fst_keeps p _ _ (fun a i _ => (congrArg p (fst_keepFirst _ _)).trans (hp.storeMirror _ _ _ _ _ _))
  exact (hp.sendTwin _ _ _ _ _).trans ((hp.takeDelivered hp.twin _ _).trans hstored)

theorem Spared.serveKept (s : State) : p s.serveKept = p s := by
  unfold State.serveKept
  split
  · rfl
  · exact (foldl_keeps p _ _ (fun t w _ => hp.sinkMirror _ _ _ _ _)).trans (hp.pair _ _)

end Sink

theorem State.twinOk_congr {s t : State} (h : s.reg R.PAIR_STATUS = t.reg R.PAIR_STATUS) : s.twinOk = t.twinOk := State.flag_congr h _

theorem State.twinOk_setTwinOk (s : State) (b : Bool) : (s.setTwinOk b).twinOk = b := by
  rw [State.setTwinOk, State.twinOk_congr (State.pairStatus_spared.serveKept _), State.twinOk, State.flag_putFlag_same _ _ _ _ (by decide) (by decide)]

theorem State.pairState_setTwinOk (s : State) (b : Bool) : (s.setTwinOk b).pairState = s.pairState := by
  rw [State.setTwinOk, State.pairState_congr (State.pairStatus_spared.serveKept _), State.pairState_putFlag _ _ (by decide) (by decide)]

theorem State.twinOk_setPairState (s : State) (v : Nat) : (s.setPairState v).twinOk = s.twinOk := State.flag_setPairState s v (by decide)

/-! ### FORMED is entered -/

/-- The copies of a formation that begins start afresh. -/
def State.startedAfresh (s : State) : State :=
  { s with pair := { s.pair with resync := [], partnerExposed := false, sinceCopy := 0, lastCopy := none, goodbye := false } }

theorem State.enterFormed_eq (s : State) : s.enterFormed = (s.startedAfresh.setTwinOk true).setPairState 2 := rfl

theorem State.enterFormed_pairState (s : State) : s.enterFormed.pairState = 2 := State.pairState_setPairState _ 2

theorem State.enterFormed_twinOk (s : State) : s.enterFormed.twinOk = true := by
  rw [State.enterFormed_eq, State.twinOk_setPairState, State.twinOk_setTwinOk]

/-- A controller that is not EXPOSED has no kept write to serve as it enters FORMED. -/
theorem State.enterFormed_of_state {s : State} (h : s.pairState ≠ 3) :
    s.enterFormed = (s.startedAfresh.putFlag R.PAIR_STATUS F.PAIR_STATUS_TWIN_OK true).setPairState 2 := by
  have hstate : s.startedAfresh.pairState ≠ 3 := h
  rw [State.enterFormed_eq, State.setTwinOk_true hstate]

section Formed
variable {s : State} (h : s.pairState ≠ 3)
include h

theorem State.enterFormed_pool : s.enterFormed.pool = s.pool := by rw [State.enterFormed_of_state h]; rfl

theorem State.enterFormed_home : s.enterFormed.home = s.home := by rw [State.enterFormed_of_state h]; rfl

theorem State.enterFormed_kv : s.enterFormed.kv = s.kv := by rw [State.enterFormed_of_state h]; rfl

end Formed

/-! ### Verification (R483) -/

/-- The partner counts as tried. -/
def State.authTried (s : State) : State := { s with pair := { s.pair with authTried := true } }

section Auth
variable {cert block report sig nonce theirs : List Byte} {s : State} (hlink : s.linkActive 8 = true) (hfirst : s.pair.authTried = false)
include hlink hfirst

theorem exec_partnerAuth_of_unable {accepted : Bool} (h : s.secFlag F.SEC_STATUS_ID_READY = false ∨ s.secFlag F.SEC_STATUS_DEBUG_LATCH = true) :
    exec (.partnerAuth cert block report sig nonce theirs accepted) s =
      .next ((s.authTried.verifyImage none cert block).1.setErr R.SEC_ERR F.SEC_ERR_PARTNER_AUTH) := by
  have hcan : (s.authTried.secFlag F.SEC_STATUS_ID_READY && !s.authTried.secFlag F.SEC_STATUS_DEBUG_LATCH) = false := by
    rcases h with h | h
    · exact (congrArg (· && _) h).trans (Bool.false_and _)
    · exact (congrArg (fun b => _ && !b) h).trans (Bool.and_false _)
  show execPartnerAuth cert block report sig nonce theirs accepted s = _
  unfold execPartnerAuth
  rw [if_neg (by simp [hlink, hfirst]), ← State.authTried]
  simp only [hcan, Bool.false_and, Bool.false_eq_true, if_false]

/-- The certificate and the report that go to the partner. -/
def State.authSent (s : State) (theirs : List Byte) : State :=
  (s.signNext (s.reportBody none theirs)).1.sendTwin "AUTH" 5 []
    (Config.certificate ++ s.reportBody none theirs ++ (s.signNext (s.reportBody none theirs)).2)

theorem exec_partnerAuth_of_able (hready : s.secFlag F.SEC_STATUS_ID_READY = true) (hlatch : s.secFlag F.SEC_STATUS_DEBUG_LATCH = false) :
    exec (.partnerAuth cert block report sig nonce theirs true) s =
      let sent := s.authTried.authSent theirs
      .next (if s.authTried.partnerOk cert block report sig nonce then
          { sent with pair := { sent.pair with authed := true, partnerKek := (report.drop 256).take 1568 } }
        else (sent.verifyImage none cert block).1.setErr R.SEC_ERR F.SEC_ERR_PARTNER_AUTH) := by
  have hcan : (s.authTried.secFlag F.SEC_STATUS_ID_READY && !s.authTried.secFlag F.SEC_STATUS_DEBUG_LATCH) = true := by
    have : s.authTried.secFlag F.SEC_STATUS_DEBUG_LATCH = false := hlatch
    rw [this]
    exact (congrArg (· && true) hready).trans rfl
  show execPartnerAuth cert block report sig nonce theirs true s = _
  unfold execPartnerAuth
  rw [if_neg (by simp [hlink, hfirst]), ← State.authTried]
  simp only [hcan, if_true, Bool.true_and]
  unfold State.authSent
  generalize s.authTried.signNext _ = x
  obtain ⟨t, g⟩ := x
  rw [apply_ite Host.Outcome.next]

end Auth

/-! ### The partner's objects (R431, R439, R591) -/

/-- What neither translation nor the key slots hold, the partner's objects leave alone. -/
theorem State.takeObjects_keeps {β : Type} {p : State → β} (hxlat : ∀ (s : State) (x : Xlat), p { s with xlat := x } = p s)
    (hslot : ∀ (s : State) (k : Nat) (x : KeySlot), p (s.setSlot k x) = p s) (s : State) (m : CopyMsg) : p (s.takeObjects m) = p s := by
  unfold State.takeObjects
  extract_lets x none' tn bd ct asids y t u
  have ht : p t = p s := hxlat _ _
  have hu : p u = p t := foldl_keeps p _ _ (fun v e _ => by
    split
    · rfl
    · exact hslot _ _ _)
  exact (foldl_keeps p _ _ (fun v k _ => hslot _ _ _)).trans (hu.trans ht)

/-- A part that the links leave alone is not changed by sending the keys. -/
theorem State.sendKeys_keeps {β : Type} {p : State → β} (hsend : ∀ s op c args d, p (State.sendTwin s op c args d) = p s)
    (htick : ∀ s, p (State.tick s) = p s) (s : State) : p s.sendKeys = p s :=
  foldl_keeps p _ _ (fun _ _ _ => (htick _).trans (hsend _ _ _ _ _))

/-- The objects of both sides have been exchanged. -/
def State.objectsTaken (s : State) (m : CopyMsg) : State :=
  (s.sendTwin "OBJECTS" 5 [s.xlat.tenants.length, s.xlat.bound.length, s.xlat.contexts.length] []).sendKeys.takeObjects m

theorem State.objectsTaken_keeps {β : Type} {p : State → β} (hxlat : ∀ (s : State) (x : Xlat), p { s with xlat := x } = p s)
    (hslot : ∀ (s : State) (k : Nat) (x : KeySlot), p (s.setSlot k x) = p s) (hsend : ∀ s op c args d, p (State.sendTwin s op c args d) = p s)
    (htick : ∀ s, p (State.tick s) = p s) (s : State) (m : CopyMsg) : p (s.objectsTaken m) = p s :=
  (State.takeObjects_keeps hxlat hslot _ m).trans ((State.sendKeys_keeps hsend htick _).trans (hsend _ _ _ _ _))

theorem State.objectsTaken_pairState (s : State) (m : CopyMsg) : (s.objectsTaken m).pairState = s.pairState :=
  State.pairState_congr (State.objectsTaken_keeps (p := fun t => t.reg R.PAIR_STATUS) (fun _ _ => rfl) State.reg_setSlot_status
    (fun _ _ _ _ _ => State.pairStatus_spared.sendTwin _ _ _ _ _) (fun _ => rfl) s m)

theorem State.objectsTaken_pool (s : State) (m : CopyMsg) : (s.objectsTaken m).pool = s.pool :=
  State.objectsTaken_keeps (fun _ _ => rfl) State.setSlot_pool (fun _ _ _ _ _ => State.pool_aside.sendTwin _ _ _ _ _) (fun _ => rfl) s m

theorem State.objectsTaken_home (s : State) (m : CopyMsg) : (s.objectsTaken m).home = s.home :=
  State.objectsTaken_keeps (fun _ _ => rfl) State.setSlot_home (fun _ _ _ _ _ => State.home_asideMem.sendTwin _ _ _ _ _) (fun _ => rfl) s m

theorem State.objectsTaken_kv (s : State) (m : CopyMsg) : (s.objectsTaken m).kv = s.kv :=
  State.objectsTaken_keeps (fun _ _ => rfl) State.setSlot_kv State.sendTwin_kv (fun _ => rfl) s m

section Form
variable {partner : Fin 7} {basins : Bool} {objects : CopyMsg} {s : State} (hsolo : s.pairState = 0) (hauth : s.pair.authed = true)
  (hlink : s.linkActive 8 = true)
include hsolo hauth hlink

theorem execPairForm_of_solo : execPairForm partner basins objects s =
    if partner = 0 then
      if basins || s.basins != [] || s.clashes objects then .next (s.setErr R.PAIR_ERR F.PAIR_ERR_TWIN_LOST) else .next (s.objectsTaken objects).enterFormed
    else if partner = 6 then .next (s.setPairState 1) else .next s :=
  if_neg (by simp [hsolo, hauth, hlink])

theorem exec_pairForm_of_clear (hpartner : partner = 0) (hbasins : basins = false) (hnone : s.basins = []) (hclash : s.clashes objects = false) :
    exec (.pairForm partner basins objects) s = .next (s.objectsTaken objects).enterFormed := by
  show execPairForm partner basins objects s = _
  rw [execPairForm_of_solo hsolo hauth hlink, if_pos hpartner, if_neg (by simp [hbasins, hnone, hclash])]

theorem exec_pairForm_of_clash (hpartner : partner = 0) (h : basins = true ∨ s.basins ≠ [] ∨ s.clashes objects = true) :
    exec (.pairForm partner basins objects) s = .next (s.setErr R.PAIR_ERR F.PAIR_ERR_TWIN_LOST) := by
  show execPairForm partner basins objects s = _
  rw [execPairForm_of_solo hsolo hauth hlink, if_pos hpartner, if_pos]
  rcases h with h | h | h <;> simp [h]

theorem exec_pairForm_of_survivor (hpartner : partner = 6) : exec (.pairForm partner basins objects) s = .next (s.setPairState 1) := by
  show execPairForm partner basins objects s = _
  rw [execPairForm_of_solo hsolo hauth hlink, if_neg (by simp [hpartner]), if_pos hpartner]

end Form

/-! ### ADMIT (R450) -/

section Admit
variable {answer : Fin 5} {shadow : List Nat} {s : State} (hidle : s.pairBusy = false)
include hidle

theorem exec_admitPartner_of_other (hstate : s.pairState ≠ 6) : exec (.admitPartner answer shadow) s = .next (s.pairStatus 2) := by
  show execAdmit answer shadow s = _
  unfold execAdmit
  rw [if_neg (by simp [hidle]), if_pos hstate]

theorem exec_admitPartner_of_noPartner (hstate : s.pairState = 6) (h : s.linkActive 8 = false ∨ s.pair.authed = false) :
    exec (.admitPartner answer shadow) s = .next (s.pairStatus 3) := by
  show execAdmit answer shadow s = _
  unfold execAdmit
  rw [if_neg (by simp [hidle]), if_neg (by simp [hstate]), if_pos (by simpa using h)]

section Linked
variable (hstate : s.pairState = 6) (hlink : s.linkActive 8 = true) (hauth : s.pair.authed = true)
include hstate hlink hauth

theorem exec_admitPartner_of_refused (h : answer ≠ 0) : exec (.admitPartner answer shadow) s = .next (s.pairStatus answer) := by
  show execAdmit answer shadow s = _
  unfold execAdmit
  rw [if_neg (by simp [hidle]), if_neg (by simp [hstate]), if_neg (by simp [hlink, hauth]), if_pos h]

/-- The survivor waits until the partner holds every line copied. -/
def State.admitBegun (s : State) : State :=
  State.putFlag { s with pair := { s.pair with admitting := some s.pair.nextMirror } } R.PAIR_CMD F.PAIR_CMD_BUSY true

theorem exec_admitPartner_of_accepted (h : answer = 0) : ∃ t : State, exec (.admitPartner answer shadow) s = .next t.admitBegun := by
  show ∃ t : State, execAdmit answer shadow s = .next t.admitBegun
  unfold execAdmit
  rw [if_neg (by simp [hidle]), if_neg (by simp [hstate]), if_neg (by simp [hlink, hauth]), if_neg (by simp [h])]
  exact ⟨_, rfl⟩

end Linked
end Admit

theorem State.admitBegun_busy (s : State) : s.admitBegun.pairBusy = true := State.flag_putFlag_same _ _ _ _ (by decide) (by decide)

/-- The copy to the joining controller is over. -/
def State.admitEnded (s : State) : State := { s with pair := { s.pair with admitting := none } }

section Pump
variable {n : Nat} {s : State} (hcopy : s.pair.admitting = some n)
include hcopy

theorem State.pumpAdmit_eq : s.pumpAdmit =
    if !s.linkActive 8 then s.admitEnded.ackLocally.pairStatus 3
    else if s.pair.mirror.any (fun w => w.id < n) then s else s.admitEnded.enterFormed.pairStatus 0 := by
  simp only [State.pumpAdmit, hcopy]
  rfl

theorem State.pumpAdmit_of_lost (hlink : s.linkActive 8 = false) : s.pumpAdmit = s.admitEnded.ackLocally.pairStatus 3 := by
  rw [State.pumpAdmit_eq hcopy, if_pos (by simp [hlink])]

theorem State.pumpAdmit_of_copying (hlink : s.linkActive 8 = true) (h : s.pair.mirror.any (fun w => w.id < n) = true) : s.pumpAdmit = s := by
  rw [State.pumpAdmit_eq hcopy, if_neg (by simp [hlink]), if_pos h]

theorem State.pumpAdmit_of_copied (hlink : s.linkActive 8 = true) (h : s.pair.mirror.any (fun w => w.id < n) = false) :
    s.pumpAdmit = s.admitEnded.enterFormed.pairStatus 0 := by
  rw [State.pumpAdmit_eq hcopy, if_neg (by simp [hlink]), if_neg (by simp [h])]

end Pump

theorem State.pairState_pairStatus (s : State) (v : Nat) : (s.pairStatus v).pairState = s.pairState :=
  State.pairState_congr (State.reg_pairStatus s v (by decide))

theorem State.twinOk_pairStatus (s : State) (v : Nat) : (s.pairStatus v).twinOk = s.twinOk := State.twinOk_congr (State.reg_pairStatus s v (by decide))

/-! ### Copies (R440) -/

/-- The objects and basins of a copy, and its number, are taken in. -/
def State.copyTaken (s : State) (m : CopyMsg) : State := ((s.takeObjects m).takeBasins m).put R.PAIR_STATUS F.PAIR_STATUS_COPY_SEQ m.n

/-- The copy stands as the newest, and the Wellhead's cores are interrupted. -/
def State.copyStands (s : State) (m : CopyMsg) : State :=
  State.raiseWell { s with pair := { s.pair with copy := m.rest, sinceCopy := 0, lastCopy := some m.n } } 4

theorem State.copyStands_pair (s : State) (m : CopyMsg) :
    (s.copyStands m).pair = { s.pair with copy := m.rest, sinceCopy := 0, lastCopy := some m.n } := State.pair_apart.raiseWell _ _

theorem State.copyStands_status (s : State) (m : CopyMsg) : (s.copyStands m).reg R.PAIR_STATUS = s.reg R.PAIR_STATUS :=
  State.pairStatus_spared.raiseWell _ _

theorem State.takeBasins_status (s : State) (m : CopyMsg) : (s.takeBasins m).reg R.PAIR_STATUS = s.reg R.PAIR_STATUS := by
  unfold State.takeBasins
  extract_lets t
  have ht : t.reg R.PAIR_STATUS = s.reg R.PAIR_STATUS := foldl_keeps (fun u => u.reg R.PAIR_STATUS) _ s (fun u b _ => by
    split
    · exact State.pairStatus_spared.xlat _ _
    · rfl)
  refine (foldl_keeps (fun u => u.reg R.PAIR_STATUS) _ t (fun u e _ => ?_)).trans ht
  simp only
  split
  · split
    · exact State.pairStatus_spared.xlat _ _
    · rfl
  · exact (State.pairStatus_spared.fillRuns _ _ _ _).trans (State.pairStatus_spared.xlat _ _)

theorem State.copyTaken_pairState (s : State) (m : CopyMsg) : (s.copyTaken m).pairState = s.pairState := by
  have hobjects : (s.takeObjects m).reg R.PAIR_STATUS = s.reg R.PAIR_STATUS :=
    State.takeObjects_keeps (p := fun t => t.reg R.PAIR_STATUS) (fun _ _ => rfl) State.reg_setSlot_status s m
  have hput : (s.copyTaken m).pairState = ((s.takeObjects m).takeBasins m).pairState := State.get_put_disjoint _ _ _ _ _ (by decide) (by decide)
  rw [hput, State.pairState_congr (State.takeBasins_status _ m), State.pairState_congr hobjects]

theorem State.copyTaken_seq (s : State) (m : CopyMsg) :
    (s.copyTaken m).get R.PAIR_STATUS F.PAIR_STATUS_COPY_SEQ = m.n % 2 ^ F.PAIR_STATUS_COPY_SEQ.w := State.get_put_same _ _ _ _ (by decide)

/-- Whether a copy is taken: from a verified partner over an ACTIVE link, newer than the last, and one that the state admits. -/
def State.copyDue (s : State) (m : CopyMsg) : Bool :=
  s.linkActive 8 && s.pair.authed && (if s.pairState == 1 then m.full || (s.pairState == 1 && s.pair.lastCopy.isSome && !m.full) else
    s.pairState == 2 || s.pairState == 3) && s.pair.lastCopy.elim true (fun n => n < m.n)

theorem execCopyCommit_eq (m : CopyMsg) (s : State) : execCopyCommit m s =
    if !s.copyDue m then .next s
    else .next (State.copyStands (if s.pairState == 1 && s.pair.lastCopy.isSome && !m.full then (s.copyTaken m).enterFormed
      else (s.copyTaken m).setTwinOk true) m) := rfl

theorem exec_copyCommit_of_old {m : CopyMsg} {s : State} {n : Nat} (hlast : s.pair.lastCopy = some n) (hold : m.n ≤ n) :
    exec (.copyCommit m) s = .next s := by
  show execCopyCommit m s = _
  rw [execCopyCommit_eq, if_pos (by simp [State.copyDue, hlast, hold.not_gt])]

section Commit
variable {m : CopyMsg} {s : State} (hlink : s.linkActive 8 = true) (hauth : s.pair.authed = true)
include hlink hauth

/-- A copy that does not take the controller to FORMED: of a FORMED one, or the full one of a joining one. -/
theorem exec_copyCommit_of_newer (h : s.pairState = 2 ∨ (s.pairState = 1 ∧ m.full = true))
    (hnew : s.pair.lastCopy.elim true (fun n => n < m.n) = true) : exec (.copyCommit m) s = .next (((s.copyTaken m).setTwinOk true).copyStands m) := by
  have hdue : s.copyDue m = true := by rcases h with h | ⟨h, hfull⟩ <;> simp [State.copyDue, *]
  have hno : (s.pairState == 1 && s.pair.lastCopy.isSome && !m.full) = false := by rcases h with h | ⟨h, hfull⟩ <;> simp [*]
  show execCopyCommit m s = _
  rw [execCopyCommit_eq, if_neg (by simp [hdue]), hno, if_neg Bool.false_ne_true]

theorem exec_copyCommit_of_first {n : Nat} (hstate : s.pairState = 1) (hfull : m.full = false) (hlast : s.pair.lastCopy = some n) (hnew : n < m.n) :
    exec (.copyCommit m) s = .next ((s.copyTaken m).enterFormed.copyStands m) := by
  have hdue : s.copyDue m = true := by simp [State.copyDue, hlink, hauth, hstate, hlast, hfull, hnew]
  show execCopyCommit m s = _
  rw [execCopyCommit_eq, if_neg (by simp [hdue]), if_pos (by simp [hstate, hlast, hfull])]

end Commit

/-- A copy taken outside EXPOSED sets TWIN_OK alone beside it. -/
theorem State.copySeen_status {s : State} {m : CopyMsg} :
    (((s.copyTaken m).setTwinOk true).copyStands m).pairState = s.pairState ∧ (((s.copyTaken m).setTwinOk true).copyStands m).twinOk = true := by
  refine ⟨?_, ?_⟩
  · rw [State.pairState_congr (State.copyStands_status _ m), State.pairState_setTwinOk, State.copyTaken_pairState]
  · rw [State.twinOk_congr (State.copyStands_status _ m), State.twinOk_setTwinOk]

theorem State.copySeen_seq {s : State} {m : CopyMsg} : (((s.copyTaken m).setTwinOk true).copyStands m).get R.PAIR_STATUS F.PAIR_STATUS_COPY_SEQ =
    m.n % 2 ^ F.PAIR_STATUS_COPY_SEQ.w := by
  rw [State.get, State.copyStands_status, State.setTwinOk, State.pairStatus_spared.serveKept, ← State.get, State.putFlag,
    State.get_put_disjoint _ _ _ _ _ (by decide) (by decide), State.copyTaken_seq]

/-! ### Resync and switching back (R444, R451) -/

theorem exec_resyncDone_of_held {s : State} (hstate : s.pairState = 3) (htwin : s.twinOk = true) (hring : s.ringOk = true) :
    exec .resyncDone s = .next (((s.pair.resync.foldl State.resyncUnit { s with pair := { s.pair with resync := [] } }).setPairState 2).setErr
      R.PAIR_ERR F.PAIR_ERR_RESYNC_DONE) :=
  if_neg (by simp [hstate, htwin, hring])

/-- The basin's identity and ALL stand in PAIR_CMD. -/
def State.switchAsked (s : State) (basin : Nat) (all : Bool) : State := (s.put R.PAIR_CMD F.PAIR_CMD_BASIN basin).putFlag R.PAIR_CMD F.PAIR_CMD_ALL all

theorem State.switchAsked_pairState (s : State) (basin : Nat) (all : Bool) : (s.switchAsked basin all).pairState = s.pairState := by
  rw [State.pairState, State.switchAsked, State.putFlag, State.get_put_ne _ _ _ _ _ _ (by decide), State.get_put_ne _ _ _ _ _ _ (by decide),
    ← State.pairState]

/-- The basins taken over from the partner. -/
def State.takenOver (s : State) : List Nat := (s.basins.filter (fun e => e.2.takenOver && !e.2.destroyed)).map (·.1)

/-- A basin moves from now on, and waits for the jobs in flight. -/
def State.startMoving (s : State) (id : Nat) : State :=
  match s.basin id with
  | some b => s.setBasin id (some { b with moving := true, waitJobs := s.inFlight })
  | none => s

section Switch
variable {basin : BitVec 10} {all : Bool} (ans : List SnoopAnswer) {s : State} (hidle : s.pairBusy = false)
include hidle

theorem exec_switchBack_of_other (hstate : s.pairState ≠ 2) :
    exec (.switchBack basin all ans) s = .next ((s.switchAsked basin.toNat all).pairStatus 2) := by
  show execSwitchBack basin all ans s = _
  unfold execSwitchBack
  rw [if_neg (by simp [hidle])]
  exact if_pos (by rwa [← State.switchAsked, State.switchAsked_pairState])

section Formed
variable (hstate : s.pairState = 2) {l : List Nat}
  (hl : l = if all then (s.switchAsked basin.toNat all).takenOver else (s.switchAsked basin.toNat all).takenOver.filter (· == basin.toNat))
include hstate hl

theorem execSwitchBack_of_formed : execSwitchBack basin all ans s =
    let t := s.switchAsked basin.toNat all
    if l = [] then .next (t.pairStatus (if all then 0 else 1))
    else .next ((State.putFlag { l.foldl State.startMoving t with
      pair := { (l.foldl State.startMoving t).pair with switching := l } } R.PAIR_CMD F.PAIR_CMD_BUSY true).pumpSwitch ans) := by
  unfold execSwitchBack
  rw [if_neg (by simp [hidle]), hl]
  exact if_neg (by rw [← State.switchAsked, State.switchAsked_pairState]; simp [hstate])

theorem exec_switchBack_of_none (hnone : l = []) :
    exec (.switchBack basin all ans) s = .next ((s.switchAsked basin.toNat all).pairStatus (if all then 0 else 1)) := by
  show execSwitchBack basin all ans s = _
  rw [execSwitchBack_of_formed ans hidle hstate hl]
  exact if_pos hnone

theorem exec_switchBack_of_some (hsome : l ≠ []) : exec (.switchBack basin all ans) s =
    let u := l.foldl State.startMoving (s.switchAsked basin.toNat all)
    .next ((State.putFlag { u with pair := { u.pair with switching := l } } R.PAIR_CMD F.PAIR_CMD_BUSY true).pumpSwitch ans) := by
  show execSwitchBack basin all ans s = _
  rw [execSwitchBack_of_formed ans hidle hstate hl]
  exact if_neg hsome

end Formed
end Switch

/-- Settles O53, command by command. -/
theorem pairFormsAndSwitches : Obligations.PairFormsAndSwitches := by
  unfold Obligations.PairFormsAndSwitches
  refine ⟨fun cert block report sig nonce theirs accepted s hlink hfirst => exec_partnerAuth_of_unable hlink hfirst,
    fun cert block report sig nonce theirs s hlink hfirst => exec_partnerAuth_of_able hlink hfirst, ?form, ?joining, ?pump, ?formed, ?full, ?first,
    fun m s n => exec_copyCommit_of_old, fun s => exec_resyncDone_of_held, ?switch⟩
  case form =>
    refine fun partner basins objects s hsolo hauth hlink => ⟨fun hpartner hbasins hnone hclash => ?_, exec_pairForm_of_clash hsolo hauth hlink,
      exec_pairForm_of_survivor hsolo hauth hlink⟩
    have hstate : (s.objectsTaken objects).pairState ≠ 3 := by simp [State.objectsTaken_pairState, hsolo]
    exact ⟨_, exec_pairForm_of_clear hsolo hauth hlink hpartner hbasins hnone hclash, State.enterFormed_pairState _, State.enterFormed_twinOk _,
      (State.enterFormed_pool hstate).trans (s.objectsTaken_pool objects), (State.enterFormed_home hstate).trans (s.objectsTaken_home objects),
      (State.enterFormed_kv hstate).trans (s.objectsTaken_kv objects)⟩
  case joining =>
    refine fun answer shadow s hidle => ⟨exec_admitPartner_of_other hidle, exec_admitPartner_of_noPartner hidle, exec_admitPartner_of_refused hidle,
      fun hstate hlink hauth hanswer => ?_⟩
    obtain ⟨t, ht⟩ := exec_admitPartner_of_accepted (shadow := shadow) hidle hstate hlink hauth hanswer
    exact ⟨t.admitBegun, ht, t.admitBegun_busy, rfl⟩
  case pump =>
    refine fun n s hcopy => ⟨State.pumpAdmit_of_lost hcopy, State.pumpAdmit_of_copying hcopy, fun hlink hcopied => ?_⟩
    have hpump := State.pumpAdmit_of_copied hcopy hlink hcopied
    refine ⟨hpump, ?_, ?_, ?_⟩ <;> rw [hpump]
    · rw [State.pairState_pairStatus, State.enterFormed_pairState]
    · rw [State.twinOk_pairStatus, State.enterFormed_twinOk]
    · rw [State.get_pairStatus_same, Nat.zero_mod]
  case formed =>
    intro m s hlink hauth hstate hnew
    obtain ⟨hpair, htwin⟩ := State.copySeen_status (s := s) (m := m)
    refine ⟨_, exec_copyCommit_of_newer hlink hauth (.inl hstate) hnew, ?_, ?_, ?_, hpair.trans hstate, htwin, State.copySeen_seq⟩ <;>
      rw [State.copyStands_pair]
  case full =>
    intro m s hlink hauth hstate hfull hnew
    obtain ⟨hpair, -⟩ := State.copySeen_status (s := s) (m := m)
    refine ⟨_, exec_copyCommit_of_newer hlink hauth (.inr ⟨hstate, hfull⟩) hnew, hpair.trans hstate, ?_, ?_⟩ <;> rw [State.copyStands_pair]
  case first =>
    intro m n s hlink hauth hstate hfull hlast hnew
    refine ⟨_, exec_copyCommit_of_first hlink hauth hstate hfull hlast hnew, ?_, ?_, ?_, ?_⟩
    · rw [State.pairState_congr (State.copyStands_status _ m), State.enterFormed_pairState]
    · rw [State.twinOk_congr (State.copyStands_status _ m), State.enterFormed_twinOk]
    · rw [State.copyStands_pair]
    · rw [State.copyStands_pair]
  case switch =>
    refine fun basin all ans s hidle => ⟨exec_switchBack_of_other ans hidle, fun hstate hall hnot => ?_, fun hstate hall hnone => ?_,
      fun l hstate hl hsome => exec_switchBack_of_some ans hidle hstate hl hsome⟩
    · subst hall
      have hmem : basin.toNat ∉ (s.switchAsked basin.toNat false).takenOver := hnot
      have hnone : (s.switchAsked basin.toNat false).takenOver.filter (· == basin.toNat) = [] := by
        refine List.filter_eq_nil_iff.mpr (fun id hid h => hmem ?_)
        rwa [beq_iff_eq.mp h] at hid
      exact exec_switchBack_of_none (l := []) ans hidle hstate (by rw [if_neg Bool.false_ne_true, hnone]) rfl
    · subst hall
      exact exec_switchBack_of_none (l := []) ans hidle hstate (by rw [if_pos rfl]; exact hnone.symm) rfl

end Sys2Proof.Machine
end

section
/-!
The commands of RAS_CMD, and rebuild (R405, R417 to R419, R422, R426).
-/
namespace Sys2Proof.Machine

/-! ### Busy and refused commands -/

section Busy
variable {target : Fin 16} {s : State} (hbusy : s.rasBusy = true)
include hbusy

theorem exec_stackFail_of_busy : exec (.stackFail target) s = .next s := if_pos hbusy

theorem exec_rebuild_of_busy : exec (.rebuild target) s = .next s := if_pos hbusy

theorem exec_evacuate_of_busy (ans : List SnoopAnswer) : exec (.evacuate target ans) s = .next s := if_pos hbusy

theorem exec_hardRepair_of_busy : exec (.hardRepair target) s = .next s := if_pos hbusy

theorem exec_retest_of_busy : exec (.retest target) s = .next s := if_pos hbusy

end Busy

/-! ### RAS_CMD's answer -/

theorem State.reg_rasStatus (s : State) (target v : Nat) {o : Nat} (ho : o ≠ R.RAS_CMD) : (s.rasStatus target v).reg o = s.reg o := by
  rw [State.rasStatus, State.reg_put_ne _ _ _ _ _ ho, State.reg_put_ne _ _ _ _ _ ho]

theorem State.rasStatus_status (s : State) (target v : Nat) : (s.rasStatus target v).get R.RAS_CMD F.RAS_CMD_STATUS = v % 8 :=
  State.get_put_same _ _ _ _ (by decide)

theorem State.rasStatus_target (s : State) (target v : Nat) : (s.rasStatus target v).get R.RAS_CMD F.RAS_CMD_TARGET = target % 16 := by
  rw [State.rasStatus, State.get_put_disjoint _ _ _ _ _ (by decide) (by decide), State.get_put_same _ _ _ _ (by decide)]
  rfl

/-! ### A stack fails (R417) -/

theorem chCtrl_ne {u v : Nat} (hne : u ≠ v) (hu : u < 396) (hv : v < 396) : chCtrl u ≠ chCtrl v := by
  simp only [chCtrl, R.POND_CTRL, R.POND_BASE, R.SPILL_CTRL, R.SPILL_BASE]
  split <;> split <;> omega

/-- Another channel's fault leaves a fault that stands. -/
theorem State.chFaulted_faultChan_other {s : State} {u v : Nat} (hne : u ≠ v) (hu : u < 396) (hv : v < 396) :
    (s.faultChan v).chFaulted u = s.chFaulted u := by
  by_cases h : s.chFaulted v = true
  · rw [State.faultChan, if_pos h]
  · have hfront := congrArg Prod.fst ((State.chFront_aside hu).faultChan (Bool.eq_false_iff.mpr h))
    refine State.flag_congr (hfront.trans ?_) _
    show (s.faultBegun v).reg (chCtrl u) = s.reg (chCtrl u)
    rw [State.faultBegun, State.reg_updChan, State.reg_flushChan, State.reg_putFlag_ne _ _ _ _ _ (chCtrl_ne hne hu hv)]

/-- Every Pond of a stack has faulted, each in turn. -/
def State.pondsFailed (s : State) (f : Nat) : State := (List.range 32).foldl (fun s c => s.faultChan (32 * f + c)) s

theorem State.pondsFailed_faulted (s : State) {f c : Nat} (hf : f < 12) (hc : c < 32) : (s.pondsFailed f).chFaulted (32 * f + c) = true := by
  refine foldl_establishes (P := fun t : State => t.chFaulted (32 * f + c) = true) (List.mem_range.mpr hc) s
    (fun t => State.chFaulted_faultChan (by omega)) (fun t d hd ht => ?_)
  have hd' := List.mem_range.mp hd
  rcases eq_or_ne c d with rfl | hne
  · exact State.chFaulted_faultChan (by omega)
  · rw [State.chFaulted_faultChan_other (by omega) (by omega) (by omega), ht]

/-! ### The state of a stack -/

theorem State.rasStack_spared {f : Nat} (hf : f < 12) : Spared noisy (fun s => s.reg (R.RAS_STACK f)) := by
  have hpba : pbaReg = 0x9000 := rfl
  refine State.reg_spared ?_
  simp only [noisy, hpba, R.RAS_STACK, R.RAS_BASE, R.SEC_SVN, R.SEC_BASE]
  omega

theorem State.stackState_congr {s t : State} {f : Nat} (h : s.reg (R.RAS_STACK f) = t.reg (R.RAS_STACK f)) : s.stackState f = t.stackState f := by
  rw [State.stackState, State.get, h, State.stackState, State.get]

theorem State.stackState_startRebuild (s : State) {f : Nat} (hf : f < 12) : (s.startRebuild f).stackState f = 2 := by
  have hne : R.RAS_STACK f ≠ R.RAS_REBUILD := by
    simp only [R.RAS_STACK, R.RAS_REBUILD, R.RAS_BASE]
    omega
  rw [State.stackState, State.startRebuild, State.putFlag, State.get_put_ne _ _ _ _ _ _ hne, State.get_put_ne _ _ _ _ _ _ hne,
    State.get_put_disjoint _ _ _ _ _ (by decide) (by decide), State.get_put_same _ _ _ _ (by decide)]
  rfl

/-- A stack that serves is degraded, or under rebuild at once. -/
theorem State.stackState_degrade {s : State} {f : Nat} (hf : f < 12) (h : s.stackState f = 0) :
    (s.degrade f).stackState f = 1 ∨ (s.degrade f).stackState f = 2 := by
  have hp := State.rasStack_spared hf
  unfold State.degrade
  rw [if_neg (by simp [h])]
  extract_lets t u
  split
  · exact .inr (u.stackState_startRebuild hf)
  · refine .inl ?_
    have ht : t.reg (R.RAS_STACK f) = (s.put (R.RAS_STACK f) F.RAS_STACK_STATE 1).reg (R.RAS_STACK f) :=
      (hp.raiseAlarm _ _).trans (hp.setErr _ _ (noisy_ras (by decide) (by decide)))
    rw [State.stackState_congr ((hp.moveCopies t f).trans ht), State.stackState, State.get_put_same _ _ _ _ (by decide)]
    rfl

theorem State.rasStack_moveStarter {s : State} {f u : Nat} (hf : f < 12) (hu : u < 384) :
    (s.moveStarter u).reg (R.RAS_STACK f) = s.reg (R.RAS_STACK f) := by
  have hp := State.rasStack_spared hf
  unfold State.moveStarter
  split
  · rfl
  · extract_lets t base
    have ht : t.reg (R.RAS_STACK f) = s.reg (R.RAS_STACK f) := hp.putFlag _ _ _ (noisy_chRetrain (by omega))
    split
    · exact ht
    · next v hv =>
      have hlt : v < 396 := by
        obtain ⟨k, hk, rfl⟩ := List.mem_map.mp (List.mem_of_find?_eq_some hv)
        have hlt := List.mem_range.mp hk
        have hbase : base = 32 * (u / 32) := rfl
        omega
      exact (hp.putFlag _ _ _ (noisy_chRetrain hlt)).trans ht

theorem State.rasStack_passToken {s : State} {f u : Nat} (hf : f < 12) : (s.passToken u).reg (R.RAS_STACK f) = s.reg (R.RAS_STACK f) := by
  have hp := State.rasStack_spared hf
  unfold State.passToken
  extract_lets t
  have ht : t.reg (R.RAS_STACK f) = s.reg (R.RAS_STACK f) := (hp.setChan _ _ _).trans (hp.setChan _ _ _)
  split
  · exact ht
  · split
    · exact ht
    · exact (hp.setChan _ _ _).trans ht

/-- A fault of one more Pond of a stack that no longer serves whole leaves its STATE. -/
theorem State.stackState_faultChan {s : State} {f u : Nat} (hf : f < 12) (hu : u < 384) (hstack : stackOf u = f) (h : s.stackState f ≠ 0) :
    (s.faultChan u).stackState f = s.stackState f := by
  have hp := State.rasStack_spared hf
  unfold State.faultChan
  split
  · rfl
  · extract_lets held t1 t2 t3 t4 t5 t6
    have h3 : t3.reg (R.RAS_STACK f) = s.reg (R.RAS_STACK f) :=
      (hp.setChan _ _ _).trans ((State.reg_flushChan _ _ _ _).trans (hp.putFlag _ _ _ (noisy_chCtrl (by omega))))
    have h4 : t4.reg (R.RAS_STACK f) = t3.reg (R.RAS_STACK f) := by
      unfold t4
      split
      · exact State.rasStack_passToken hf
      · rfl
    have h5 : t5.reg (R.RAS_STACK f) = t4.reg (R.RAS_STACK f) := (hp.unitAlarm _ _ _).trans (State.rasStack_moveStarter hf hu)
    have hstate : t5.stackState f = s.stackState f := State.stackState_congr (h5.trans (h4.trans h3))
    have hcount : (t5.bumpSat (R.RAS_STACK f) F.RAS_STACK_PONDS_FAULTED).stackState f = t5.stackState f :=
      State.get_put_disjoint _ _ _ _ _ (by decide) (by decide)
    have h6 : t6.stackState f = s.stackState f := by
      unfold t6
      rw [hstack, State.degrade, if_pos (by rw [hcount, hstate]; exact h), hcount, hstate]
    rw [State.stackState_congr (hp.startBasinFill t6 (show u < 396 by omega)), h6]

theorem State.stackState_pondsFailed {s : State} {f : Nat} (hf : f < 12) (h : s.stackState f ≠ 0) : (s.pondsFailed f).stackState f = s.stackState f := by
  refine List.foldlRecOn (List.range 32) _ (motive := fun t : State => t.stackState f = s.stackState f) rfl (fun t ht c hc => ?_)
  have hc' := List.mem_range.mp hc
  have hstack : stackOf (32 * f + c) = f := by
    simp only [stackOf]
    omega
  rw [State.stackState_faultChan hf (by omega) hstack (by rw [ht]; exact h), ht]

section Commands
variable {target : Fin 16} {s : State} (hidle : s.rasBusy = false)
include hidle

theorem exec_stackFail_of_stack (h : target.val < 12) :
    exec (.stackFail target) s = .next (((s.degrade target).pondsFailed target).rasStatus target 0) := by
  show execStackFail target s = _
  unfold execStackFail
  rw [if_neg (by simp [hidle]), if_neg (by omega)]
  rfl

theorem exec_stackFail_of_noStack (h : 12 ≤ target.val) : exec (.stackFail target) s = .next (s.rasStatus target 1) := by
  show execStackFail target s = _
  unfold execStackFail
  rw [if_neg (by simp [hidle]), if_pos h]

/-! ### Rebuild, evacuation, repairs and retests -/

theorem exec_rebuild_of_active (h : s.flag R.RAS_REBUILD F.RAS_REBUILD_ACTIVE = true) : exec (.rebuild target) s = .next (s.rasStatus target 2) := by
  show execRebuild target s = _
  unfold execRebuild
  rw [if_neg (by simp [hidle]), if_pos h]

section NotActive
variable (hactive : s.flag R.RAS_REBUILD F.RAS_REBUILD_ACTIVE = false)
include hactive

theorem exec_rebuild_of_degraded (hstack : target.val < 12) (hstate : s.stackState target = 1) (hspare : s.spareFree = true) :
    exec (.rebuild target) s = .next ((s.startRebuild target).rasStatus target 0) := by
  show execRebuild target s = _
  unfold execRebuild
  rw [if_neg (by simp [hidle]), if_neg (by simp [hactive]), if_neg (by simp [hstate, hspare, hstack])]

theorem exec_rebuild_of_other (hstate : s.stackState target ≠ 1) : exec (.rebuild target) s = .next (s.rasStatus target 1) := by
  show execRebuild target s = _
  unfold execRebuild
  rw [if_neg (by simp [hidle]), if_neg (by simp [hactive]), if_pos (.inr (.inl hstate))]

end NotActive

/-- A channel's basins begin to leave it. -/
def State.evacBegun (s : State) (f : Nat) : State :=
  ((({ s with ras := { s.ras with evac := some f } } : State).putFlag R.RAS_CMD F.RAS_CMD_BUSY true).put R.RAS_CMD F.RAS_CMD_TARGET f)

theorem exec_evacuate_of_populated (ans : List SnoopAnswer) (hchannel : target.val < 12) (h : s.spillBytes target ≠ 0) :
    exec (.evacuate target ans) s = .next ((s.evacBegun target).evacPass ans) := by
  show execEvacuate target ans s = _
  unfold execEvacuate
  rw [if_neg (by simp [hidle]), if_neg (by simp [h, hchannel])]
  rfl

theorem exec_evacuate_of_unpopulated (ans : List SnoopAnswer) (h : s.spillBytes target = 0) :
    exec (.evacuate target ans) s = .next (s.rasStatus target 1) := by
  show execEvacuate target ans s = _
  unfold execEvacuate
  rw [if_neg (by simp [hidle]), if_pos (.inr h)]

theorem exec_hardRepair_of_enabled (h : (List.range 32).any (fun c => s.chEnabled (32 * target.val + c)) = true) :
    exec (.hardRepair target) s = .next (s.rasStatus target 1) := by
  show execHardRepair target s = _
  unfold execHardRepair
  rw [if_neg (by simp [hidle]), if_pos (.inr h)]

end Commands

/-- The soft repairs of a stack's Ponds made permanent. -/
def hardened (f : Nat) (l : List Repair) : List Repair :=
  l.map (fun r => if r.unit / 32 = f ∧ r.unit < 384 ∧ r.spare = none then { r with hard := true } else r)

theorem hard_of_mem_hardened {f : Nat} {l : List Repair} {r : Repair} (hr : r ∈ hardened f l) (hunit : r.unit / 32 = f) (hpond : r.unit < 384)
    (hsoft : r.spare = none) : r.hard = true := by
  obtain ⟨q, -, rfl⟩ := List.mem_map.mp hr
  by_cases h : q.unit / 32 = f ∧ q.unit < 384 ∧ q.spare = none
  · rw [if_pos h]
  · rw [if_neg h] at hunit hpond hsoft
    exact absurd ⟨hunit, hpond, hsoft⟩ h

/-- The stack's repairs have been made permanent. -/
def State.hardened (s : State) (f : Nat) : State := { s with ras := { s.ras with repairs := Machine.hardened f s.ras.repairs } }

section Commands
variable {target : Fin 16} {s : State} (hidle : s.rasBusy = false)
include hidle

theorem exec_hardRepair_of_disabled (hstack : target.val < 12) (h : (List.range 32).any (fun c => s.chEnabled (32 * target.val + c)) = false) :
    exec (.hardRepair target) s = .next ((s.hardened target).rasStatus target 0) := by
  show execHardRepair target s = _
  unfold execHardRepair
  rw [if_neg (by simp [hidle]), if_neg (by rw [h]; simp [hstack])]
  rfl

section Logged
variable {u e : Nat} (hunit : unitOf (s.get R.RAS_CMDARG F.RAS_CMDARG_PA / 64 * 64) = some u)
  (hentry : s.celogOf u (s.get R.RAS_CMDARG F.RAS_CMDARG_PA / 64 * 64) = some e)
include hunit hentry

theorem exec_retest_of_logged :
    exec (.retest target) s = .next (if s.celogState u e = 2 then s.rasStatus target 0 else (s.awaitTest u e).rasStatus target 0) := by
  show execRetest target s = _
  unfold execRetest
  rw [if_neg (by simp [hidle])]
  simp only [hunit, hentry]

end Logged
end Commands

/-! ### Rebuild (R419) -/

section Rebuild
variable {s : State} (hactive : s.flag R.RAS_REBUILD F.RAS_REBUILD_ACTIVE = true) (hl2 : s.rst.l2 = 0) (hback : s.pwr.background = true)
include hactive hl2 hback

theorem exec_rebuildUnit_of_left {n : Nat} (hn : s.nextStripeUnit (s.watermark (s.get R.RAS_REBUILD F.RAS_REBUILD_STACK)) = some n)
    (hshare : 100 * (s.ras.rebuildBytes + s.rebuildCost (s.get R.RAS_REBUILD F.RAS_REBUILD_STACK) n) ≤ s.get R.RAS_REBUILD F.RAS_REBUILD_PCT * 2 ^ 25) :
    exec .rebuildUnit s =
      let f := s.get R.RAS_REBUILD F.RAS_REBUILD_STACK
      let moved := s.ras.rebuildBytes + s.rebuildCost f n
      .next ((((List.range 64).foldl (fun (s : State) k => s.rebuildOne f n k) ({ s with ras := { s.ras with rebuildBytes := moved } } : State)).put
        (R.RAS_STACK f) F.RAS_STACK_WATERMARK (n + 1)).bump R.RAS_CNT_REBUILT_UNITS) := by
  show execRebuildUnit s = _
  unfold execRebuildUnit
  rw [if_neg (by simp [hactive, hl2, hback])]
  simp only [hn]
  exact if_neg hshare.not_gt

theorem exec_rebuildUnit_of_none (hn : s.nextStripeUnit (s.watermark (s.get R.RAS_REBUILD F.RAS_REBUILD_STACK)) = none) :
    exec .rebuildUnit s = .next (((s.putFlag R.RAS_REBUILD F.RAS_REBUILD_ACTIVE false).put (R.RAS_STACK (s.get R.RAS_REBUILD F.RAS_REBUILD_STACK))
      F.RAS_STACK_STATE 3).setErr R.RAS_ERR F.RAS_ERR_REBUILD_DONE) := by
  show execRebuildUnit s = _
  unfold execRebuildUnit
  rw [if_neg (by simp [hactive, hl2, hback])]
  simp only [hn]

end Rebuild

/-- Settles O50, command by command. -/
theorem rasCommandsRun : Obligations.RasCommandsRun := by
  unfold Obligations.RasCommandsRun
  refine ⟨fun target ans s hbusy => ⟨exec_stackFail_of_busy hbusy, exec_rebuild_of_busy hbusy, exec_evacuate_of_busy hbusy ans,
      exec_hardRepair_of_busy hbusy, exec_retest_of_busy hbusy⟩,
    fun target s hidle => ⟨fun hstack => ?fails, exec_stackFail_of_noStack hidle⟩,
    fun target s hidle => ⟨exec_rebuild_of_active hidle, exec_rebuild_of_degraded hidle, fun hactive _ => exec_rebuild_of_other hidle hactive⟩,
    fun target ans s hidle => ⟨exec_evacuate_of_populated hidle ans, exec_evacuate_of_unpopulated hidle ans⟩,
    fun target s hidle hstack => ⟨exec_hardRepair_of_enabled hidle, fun hon => ?hard⟩, fun target u e s hidle => ?retest,
    fun s hactive hl2 hback => ⟨fun n hn hshare => exec_rebuildUnit_of_left hactive hl2 hback hn hshare, exec_rebuildUnit_of_none hactive hl2 hback⟩⟩
  case fails =>
    refine ⟨_, exec_stackFail_of_stack hidle hstack, fun c hc => ?_, State.rasStatus_status _ _ _, ?_, fun hserving => ?_⟩
    · have hne : chCtrl (32 * target.val + c) ≠ R.RAS_CMD := by
        rw [chCtrl, if_pos (by omega)]
        simp only [R.POND_CTRL, R.POND_BASE, R.RAS_CMD, R.RAS_BASE]
        omega
      exact (State.flag_congr (State.reg_rasStatus _ _ _ hne) _).trans (State.pondsFailed_faulted _ hstack hc)
    · rw [State.rasStatus_target, Nat.mod_eq_of_lt target.isLt]
    · have hne : R.RAS_STACK target ≠ R.RAS_CMD := by
        simp only [R.RAS_STACK, R.RAS_CMD, R.RAS_BASE]
        omega
      have hdegraded := State.stackState_degrade hstack hserving
      rwa [State.stackState_congr (State.reg_rasStatus _ _ _ hne), State.stackState_pondsFailed hstack (by omega)]
  case hard =>
    refine ⟨_, exec_hardRepair_of_disabled hidle hstack hon, State.rasStatus_status _ _ _, fun r hr => ?_⟩
    have hmem : r ∈ Machine.hardened target.val s.ras.repairs := hr
    exact hard_of_mem_hardened hmem
  case retest =>
    intro pa hunit hentry
    have hexec := exec_retest_of_logged (target := target) hidle hunit hentry
    exact ⟨fun hstate => hexec.trans (by rw [if_neg hstate]), fun hstate => hexec.trans (by rw [if_pos hstate])⟩

end Sys2Proof.Machine
end

section
/-!
The feeds, the power-cap loop, and the limits of temperature and voltage (R452 to R455, R461, R514 to R518).
-/
namespace Sys2Proof.Machine

/-! ### The levers (R514, R515) -/

theorem State.pwr_apart : Apart State.pwr where
  setReg _ _ _ := rfl
  send _ _ := rfl
  setCore _ _ _ := rfl
  pool _ _ := rfl
  mgmt _ _ := rfl
  setChan _ _ _ := rfl

theorem issueF_cons (l : List Bool) : issueF (true :: l) = issueF l - 1 := by
  simp only [issueF, List.filter_cons_of_pos, List.length_cons]
  omega

theorem issueF_le (l : List Bool) : issueF l ≤ 16 := Nat.sub_le _ _

/-- Each step of F brings it down by one, until it stands at 8. -/
theorem issueF_holdEight (l : List Bool) (n : Nat) : issueF (holdEight l n) ≤ max 8 (issueF l - n) := by
  induction n generalizing l with
  | zero => exact le_max_right _ _
  | succ n ih =>
    rw [holdEight]
    split
    · have h := ih (true :: l)
      rw [issueF_cons] at h
      omega
    · omega

theorem issueF_heldEight (l : List Bool) : issueF (holdEight l 16) ≤ 8 := by
  have h := issueF_holdEight l 16
  have hle := issueF_le l
  omega

/-- Steps of the operating point are no steps of F. -/
theorem issueF_points (n : Nat) (l : List Bool) : issueF (List.replicate n false ++ l) = issueF l := by
  have hnone : (List.replicate n false).filter (·) = [] := List.filter_eq_nil_iff.mpr (fun b hb => by simp [List.eq_of_mem_replicate hb])
  rw [issueF, issueF, List.filter_append, hnone, List.nil_append]

theorem pointSteps_points (n : Nat) (l : List Bool) : pointSteps (List.replicate n false ++ l) = n + pointSteps l := by
  have hall : (List.replicate n false).filter (!·) = List.replicate n false := List.filter_eq_self.mpr (fun b hb => by simp [List.eq_of_mem_replicate hb])
  rw [pointSteps, pointSteps, List.filter_append, hall, List.length_append, List.length_replicate]

section Tighten
variable {s : State} {l : List Bool}

theorem State.tighten_of_issue (h : 8 < issueF l) : s.tighten l = some (true :: l) := if_pos h

theorem State.tighten_of_point (h : issueF l ≤ 8) (hpoint : s.pointOf l < 3) :
    s.tighten l = some (List.replicate (s.pointOf l + 1 - pointSteps l) false ++ l) := (if_neg h.not_gt).trans (if_pos hpoint)

theorem State.tighten_of_last (h : issueF l ≤ 8) (hpoint : s.pointOf l = 3) : s.tighten l = if 1 < issueF l then some (true :: l) else none :=
  (if_neg h.not_gt).trans (if_neg (by omega))

theorem State.pointOf_raised (hpoint : s.pointOf l < 3) :
    s.pointOf (List.replicate (s.pointOf l + 1 - pointSteps l) false ++ l) = s.pointOf l + 1 := by
  unfold State.pointOf at hpoint ⊢
  rw [pointSteps_points]
  omega

end Tighten

/-! ### What the levers in force leave (R515) -/

/-- The temperatures that PWR_STATUS shows, die and stacks. -/
def State.temps (s : State) : Nat × Nat := (s.get R.PWR_STATUS F.PWR_STATUS_TJ_MAX_C, s.get R.PWR_STATUS F.PWR_STATUS_TSTK_MAX_C)

theorem State.temps_congr {s t : State} (h : s.reg R.PWR_STATUS = t.reg R.PWR_STATUS) : s.temps = t.temps := by simp only [State.temps, State.get, h]

theorem State.temps_put (s : State) {f : Fld} (v : Nat) (hf : f.lo + f.w ≤ 16) : (s.put R.PWR_STATUS f v).temps = s.temps := by
  have hj : f.lo + f.w ≤ F.PWR_STATUS_TJ_MAX_C.lo := hf
  have hk : f.lo + f.w ≤ F.PWR_STATUS_TSTK_MAX_C.lo := hf.trans (by decide)
  rw [State.temps, State.get_put_disjoint _ _ _ _ _ (hf.trans (by decide)) (.inl hj), State.get_put_disjoint _ _ _ _ _ (hf.trans (by decide)) (.inl hk),
    State.temps]

theorem State.temps_setErr (s : State) (f : Fld) : (s.setErr R.PWR_ERR f).temps = s.temps :=
  State.temps_congr (State.reg_setErr_low (by decide) (by decide) s f (by decide))

theorem State.temps_bump (s : State) {o : Nat} (ho : R.PWR_STATUS ≠ o) (n : Nat) : (s.bump o n).temps = s.temps :=
  State.temps_congr (State.reg_bump_ne _ _ _ _ ho)

/-- A change of the operating point is counted. -/
def State.pointCounted (s : State) (l : List Bool) : State :=
  if s.get R.PWR_STATUS F.PWR_STATUS_POINT != s.pointOf l then s.bump R.PWR_CNT_PT_CHANGES else s

/-- F, the point and CAP_ACTIVE show the steps. -/
def State.stepsShown (s : State) (f p : Nat) : State :=
  ((s.put R.PWR_STATUS F.PWR_STATUS_ISSUE_F f).put R.PWR_STATUS F.PWR_STATUS_POINT p).putFlag R.PWR_STATUS F.PWR_STATUS_CAP_ACTIVE (f < 16 || 0 < p)

/-- The power-cap loop's own state. -/
def State.withPwr (s : State) (x : Pwr) : State := { s with pwr := x }

theorem State.reg_withPwr (s : State) (x : Pwr) (o : Nat) : (s.withPwr x).reg o = s.reg o := (rfl)

theorem State.putSteps_eq (s : State) (l : List Bool) :
    s.putSteps l = ((s.pointCounted l).stepsShown (issueF l) (s.pointOf l)).withPwr
      { (s.pointCounted l).pwr with steps := l, background := issueF l == 16 && s.pointOf l == 0 } := rfl

theorem State.reg_pointCounted (s : State) (l : List Bool) {o : Nat} (ho : o ≠ R.PWR_CNT_PT_CHANGES) : (s.pointCounted l).reg o = s.reg o := by
  unfold State.pointCounted
  split
  · exact State.reg_bump_ne _ _ _ _ ho
  · rfl

theorem State.pointCounted_pwr (s : State) (l : List Bool) : (s.pointCounted l).pwr = s.pwr := by
  unfold State.pointCounted
  split <;> rfl

theorem State.reg_putSteps (s : State) (l : List Bool) {o : Nat} (hstatus : o ≠ R.PWR_STATUS) (hcount : o ≠ R.PWR_CNT_PT_CHANGES) :
    (s.putSteps l).reg o = s.reg o := by
  have hshown : ((s.pointCounted l).stepsShown (issueF l) (s.pointOf l)).reg o = (s.pointCounted l).reg o := by
    rw [State.stepsShown, State.reg_putFlag_ne _ _ _ _ _ hstatus, State.reg_put_ne _ _ _ _ _ hstatus, State.reg_put_ne _ _ _ _ _ hstatus]
  rw [State.putSteps_eq, State.reg_withPwr, hshown, State.reg_pointCounted s l hcount]

theorem State.temps_stepsShown (s : State) (f p : Nat) : (s.stepsShown f p).temps = s.temps := by
  rw [State.stepsShown, State.putFlag, State.temps_put _ _ (by decide), State.temps_put _ _ (by decide), State.temps_put _ _ (by decide)]

theorem State.temps_putSteps (s : State) (l : List Bool) : (s.putSteps l).temps = s.temps := by
  have hcounted : (s.pointCounted l).temps = s.temps := State.temps_congr (State.reg_pointCounted s l (by decide))
  rw [State.putSteps_eq, State.temps_congr (State.reg_withPwr _ _ _), State.temps_stepsShown, hcounted]

theorem State.putSteps_pwr (s : State) (l : List Bool) :
    (s.putSteps l).pwr = { s.pwr with steps := l, background := issueF l == 16 && s.pointOf l == 0 } := by
  rw [State.putSteps_eq, State.withPwr, s.pointCounted_pwr l]

theorem State.issueF_putSteps (s : State) (l : List Bool) : (s.putSteps l).get R.PWR_STATUS F.PWR_STATUS_ISSUE_F = issueF l := by
  have hshown : ((s.pointCounted l).stepsShown (issueF l) (s.pointOf l)).get R.PWR_STATUS F.PWR_STATUS_ISSUE_F = issueF l := by
    rw [State.stepsShown, State.putFlag, State.get_put_disjoint _ _ _ _ _ (by decide) (by decide),
      State.get_put_disjoint _ _ _ _ _ (by decide) (by decide), State.get_put_same _ _ _ _ (by decide)]
    exact Nat.mod_eq_of_lt (Nat.lt_of_le_of_lt (issueF_le l) (by decide))
  rw [State.putSteps_eq, State.get, State.reg_withPwr, ← State.get, hshown]

/-! ### A sample (R515, R516) -/

/-- What a sample shows. -/
def State.sampleSeen (s : State) (p : Option Nat) (tj tstk : Nat) : State := (s.telemetry p.isSome).showSample p tj tstk

/-- A die at the throttle temperature is reported. -/
def State.sampleWarned (s : State) (tj : Nat) : State :=
  if decide (s.get R.PWR_THERM F.PWR_THERM_THROTTLE_C ≤ tj) then s.setErr R.PWR_ERR F.PWR_ERR_THERM_THROTTLE else s

/-- The count of samples in a row below the cap's hysteresis. -/
def State.relaxed (s : State) (n : Nat) : State := { s with pwr := { s.pwr with relax := n % 10 } }

/-- The levers follow the sample: one step tighter above the cap, one step back after ten samples below it. -/
def State.sampleStepped (s : State) (l : List Bool) (was above : Bool) (n : Nat) : State :=
  if above then
    match s.tighten l with
    | some l => if was then s.putSteps l else (s.putSteps l).setErr R.PWR_ERR F.PWR_ERR_CAP_ACTIVE
    | none => s.setErr R.PWR_ERR F.PWR_ERR_CAP_MISSED
  else if n = 10 ∧ !s.blind then s.putSteps (l.drop 1)
  else s.putSteps l

/-- With no telemetry F is held at 8 under a cap below 1,050 W. -/
def State.heldBlind (s : State) (cap : Nat) : State := if s.blind && cap < 1050 then s.putSteps (holdEight s.pwr.steps 16) else s

/-- A millisecond in which a flag stands is counted. -/
def State.msCounted (s : State) (msEnd : Bool) (f : Fld) (c : Nat) : State := if msEnd && s.flag R.PWR_STATUS f then s.bump c else s

/-- Whether a sample is above the cap, or the die at the throttle temperature. -/
def State.sampleAbove (s : State) (p : Option Nat) (tj : Nat) : Bool :=
  p.elim false (fun w => s.capW < w) || decide (s.get R.PWR_THERM F.PWR_THERM_THROTTLE_C ≤ tj)

/-- The stages of a sample: what it shows, the warning, the levers, and what is counted of the millisecond that ends. -/
theorem exec_pwrSample_stages (power : Option (BitVec 12)) (tj tstk : BitVec 8) (msEnd : Bool) (s : State) : ∃ (u t w : State) (was : Bool) (n : Nat),
    u = s.sampleSeen (power.map (·.toNat)) tj.toNat tstk.toNat ∧ t = u.sampleWarned tj.toNat ∧
    w = (t.relaxed n).sampleStepped t.pwr.steps was (u.sampleAbove (power.map (·.toNat)) tj.toNat) n ∧
    exec (.pwrSample power tj tstk msEnd) s = .next (((w.heldBlind u.capW).msCounted msEnd F.PWR_STATUS_CAP_ACTIVE R.PWR_CNT_CAP_MS).msCounted
      msEnd F.PWR_STATUS_THERM_ACTIVE R.PWR_CNT_THERM_MS) := by
  show ∃ (u t w : State) (was : Bool) (n : Nat), _ ∧ _ ∧ _ ∧ execPwrSample power tj tstk msEnd s = _
  unfold execPwrSample
  extract_lets p u cap lim hot t above sum low was l n m v w x count
  have ht : t = u.sampleWarned tj.toNat := rfl
  have habove : above = u.sampleAbove p tj.toNat := rfl
  have hl : l = t.pwr.steps := rfl
  have hu : u = s.sampleSeen p tj.toNat tstk.toNat := rfl
  clear_value n t u
  have hv : v = t.relaxed n := rfl
  have hw : w = v.sampleStepped l was above n := by
    unfold w State.sampleStepped
    generalize v.tighten l = x
    cases x <;> rfl
  exact ⟨u, t, w, was, n, hu, ht, by rw [← habove, ← hl, hw, hv], rfl⟩

/-! ### What a sample shows (R516) -/

theorem State.telemetry_feed (s : State) (b : Bool) {o : Nat} (hpba : o ≠ pbaReg) (hlow : o < 0x1000000) (ho : o ≠ R.PWR_ERR) :
    (s.telemetry b).reg o = s.reg o := by
  unfold State.telemetry
  split
  · rfl
  · extract_lets bad first m t
    have ht : t.reg o = s.reg o := rfl
    split
    · exact (State.reg_setErr_low hpba hlow t _ ho).trans ht
    · exact ht

/-- The registers that a sample shows. -/
def State.shown (s : State) (avg tj tstk : Nat) (hot : Bool) : State :=
  (((s.put R.PWR_FEED_STATUS F.PWR_FEED_STATUS_POWER_W (min avg 2047)).put R.PWR_STATUS F.PWR_STATUS_TJ_MAX_C (min tj 255)).put
    R.PWR_STATUS F.PWR_STATUS_TSTK_MAX_C (min tstk 255)).putFlag R.PWR_STATUS F.PWR_STATUS_THERM_ACTIVE hot

theorem State.showSample_eq (s : State) (p : Option Nat) (tj tstk : Nat) : ∃ (x : Pwr) (avg : Nat) (hot : Bool),
    x.steps = s.pwr.steps ∧ x.pmbusGood = s.pwr.pmbusGood ∧ s.showSample p tj tstk = (s.withPwr x).shown avg tj tstk hot := by
  unfold State.showSample
  extract_lets l avg whole m t u
  exact ⟨t.pwr, avg, _, rfl, rfl, rfl⟩

theorem State.temps_shown (s : State) (avg : Nat) {tj tstk : Nat} (hot : Bool) (hj : tj < 256) (hk : tstk < 256) :
    (s.shown avg tj tstk hot).temps = (tj, tstk) := by
  rw [State.shown, State.putFlag, State.temps_put _ _ (by decide), State.temps,
    State.get_put_disjoint _ _ F.PWR_STATUS_TSTK_MAX_C F.PWR_STATUS_TJ_MAX_C _ (by decide) (by decide), State.get_put_same _ _ _ _ (by decide),
    State.get_put_same _ _ _ _ (by decide), min_eq_left (by omega), min_eq_left (by omega)]
  exact Prod.ext (Nat.mod_eq_of_lt hj) (Nat.mod_eq_of_lt hk)

/-- A sample shows its temperatures. -/
theorem State.temps_sampleSeen (s : State) (p : Option Nat) {tj tstk : Nat} (hj : tj < 256) (hk : tstk < 256) :
    (s.sampleSeen p tj tstk).temps = (tj, tstk) := by
  obtain ⟨x, avg, hot, -, -, h⟩ := (s.telemetry p.isSome).showSample_eq p tj tstk
  rw [State.sampleSeen, h, State.temps_shown _ _ _ hj hk]

theorem State.temps_sampleWarned (s : State) (tj : Nat) : (s.sampleWarned tj).temps = s.temps := by
  unfold State.sampleWarned
  split
  · exact s.temps_setErr _
  · rfl

theorem State.temps_sampleStepped (s : State) (l : List Bool) (was above : Bool) (n : Nat) : (s.sampleStepped l was above n).temps = s.temps := by
  unfold State.sampleStepped
  split
  · split
    · split
      · exact s.temps_putSteps _
      · exact (State.temps_setErr _ _).trans (s.temps_putSteps _)
    · exact s.temps_setErr _
  · split <;> exact s.temps_putSteps _

theorem State.temps_heldBlind (s : State) (cap : Nat) : (s.heldBlind cap).temps = s.temps := by
  unfold State.heldBlind
  split
  · exact s.temps_putSteps _
  · rfl

theorem State.temps_msCounted (s : State) (msEnd : Bool) (f : Fld) {c : Nat} (hc : R.PWR_STATUS ≠ c) : (s.msCounted msEnd f c).temps = s.temps := by
  unfold State.msCounted
  split
  · exact s.temps_bump hc 1
  · rfl

/-! ### A sample above the cap (R515) -/

theorem State.sampleSeen_good (s : State) (w tj tstk : Nat) (hgood : s.pwr.pmbusGood = 10) :
    (s.sampleSeen (some w) tj tstk).pwr.steps = s.pwr.steps ∧ (s.sampleSeen (some w) tj tstk).pwr.pmbusGood = 10 := by
  obtain ⟨x, avg, hot, hsteps, hpmbus, h⟩ := (s.telemetry true).showSample_eq (some w) tj tstk
  have hpwr : (s.sampleSeen (some w) tj tstk).pwr = x := congrArg State.pwr h
  rw [hpwr, hsteps, hpmbus]
  exact ⟨rfl, by simp [State.telemetry, hgood]⟩

theorem State.reg_sampleSeen (s : State) (p : Option Nat) (tj tstk : Nat) {o : Nat} (hpba : o ≠ pbaReg) (hlow : o < 0x1000000) (herr : o ≠ R.PWR_ERR)
    (hfeed : o ≠ R.PWR_FEED_STATUS) (hstatus : o ≠ R.PWR_STATUS) : (s.sampleSeen p tj tstk).reg o = s.reg o := by
  obtain ⟨x, avg, hot, -, -, h⟩ := (s.telemetry p.isSome).showSample_eq p tj tstk
  rw [State.sampleSeen, h, State.shown, State.reg_putFlag_ne _ _ _ _ _ hstatus, State.reg_put_ne _ _ _ _ _ hstatus, State.reg_put_ne _ _ _ _ _ hstatus,
    State.reg_put_ne _ _ _ _ _ hfeed, State.reg_withPwr, State.telemetry_feed _ _ hpba hlow herr]

theorem State.single_sampleSeen (s : State) (p : Option Nat) (tj tstk : Nat) :
    (s.sampleSeen p tj tstk).flag R.PWR_FEED_STATUS F.PWR_FEED_STATUS_SINGLE = s.flag R.PWR_FEED_STATUS F.PWR_FEED_STATUS_SINGLE := by
  obtain ⟨x, avg, hot, -, -, h⟩ := (s.telemetry p.isSome).showSample_eq p tj tstk
  have htelemetry : ((s.telemetry p.isSome).withPwr x).reg R.PWR_FEED_STATUS = s.reg R.PWR_FEED_STATUS :=
    s.telemetry_feed _ (by decide) (by decide) (by decide)
  rw [State.sampleSeen, h, State.shown, State.flag, State.putFlag, State.get_put_ne _ _ _ _ _ _ (by decide), State.get_put_ne _ _ _ _ _ _ (by decide),
    State.get_put_ne _ _ _ _ _ _ (by decide), State.get_put_disjoint _ _ _ _ _ (by decide) (by decide), ← State.flag, State.flag_congr htelemetry]

/-- A sample leaves the cap in force. -/
theorem State.capW_sampleSeen (s : State) (p : Option Nat) (tj tstk : Nat) : (s.sampleSeen p tj tstk).capW = s.capW := by
  have hcfg : (s.sampleSeen p tj tstk).reg R.PWR_FEED_CFG = s.reg R.PWR_FEED_CFG :=
    s.reg_sampleSeen p tj tstk (by decide) (by decide) (by decide) (by decide) (by decide)
  have hcap : (s.sampleSeen p tj tstk).reg R.PWR_CAP = s.reg R.PWR_CAP :=
    s.reg_sampleSeen p tj tstk (by decide) (by decide) (by decide) (by decide) (by decide)
  rw [State.capW, State.capW, State.single_sampleSeen, State.get, State.get, hcfg, hcap, State.get, State.get]

theorem State.sampleWarned_pwr (s : State) (tj : Nat) : (s.sampleWarned tj).pwr = s.pwr := by
  unfold State.sampleWarned
  split
  · exact State.pwr_apart.setErr _ _ _ _
  · rfl

theorem State.ctrl_sampleWarned (s : State) (tj : Nat) : (s.sampleWarned tj).reg R.PWR_CTRL = s.reg R.PWR_CTRL := by
  unfold State.sampleWarned
  split
  · exact State.reg_setErr_low (by decide) (by decide) s _ (by decide)
  · rfl

/-- A step of the levers depends on TARN_MAXPT alone. -/
theorem State.tighten_congr {s t : State} (h : s.reg R.PWR_CTRL = t.reg R.PWR_CTRL) (l : List Bool) : s.tighten l = t.tighten l := by
  have hpoint : s.pointOf l = t.pointOf l := by simp only [State.pointOf, State.get, h]
  simp only [State.tighten, hpoint]

theorem State.pwr_msCounted (s : State) (msEnd : Bool) (f : Fld) (c : Nat) : (s.msCounted msEnd f c).pwr = s.pwr := by
  unfold State.msCounted
  split <;> rfl

theorem State.reg_msCounted (s : State) (msEnd : Bool) (f : Fld) {o c : Nat} (hc : o ≠ c) : (s.msCounted msEnd f c).reg o = s.reg o := by
  unfold State.msCounted
  split
  · exact State.reg_bump_ne _ _ _ _ hc
  · rfl

/-- Telemetry that has been good ten times in a row holds nothing. -/
theorem State.heldBlind_of_good {s : State} (h : s.pwr.pmbusGood = 10) (cap : Nat) : s.heldBlind cap = s := if_neg (by simp [State.blind, h])

section Above
variable {s : State} {l m : List Bool} (was : Bool) (n : Nat)

theorem State.sampleStepped_of_step (h : s.tighten l = some m) : (s.sampleStepped l was true n).pwr =
    { s.pwr with steps := m, background := issueF m == 16 && s.pointOf m == 0 } := by
  unfold State.sampleStepped
  rw [if_pos rfl, h]
  simp only
  split
  · exact s.putSteps_pwr m
  · exact (State.pwr_apart.setErr _ _ _ _).trans (s.putSteps_pwr m)

theorem State.sampleStepped_of_none (h : s.tighten l = none) : s.sampleStepped l was true n = s.setErr R.PWR_ERR F.PWR_ERR_CAP_MISSED := by
  unfold State.sampleStepped
  rw [if_pos rfl, h]

end Above

/-- A readable sample above the cap, with good telemetry: one step tighter where one is left, else CAP_MISSED. -/
theorem exec_pwrSample_of_above {x : BitVec 12} {tj tstk : BitVec 8} {ms : Bool} {s t : State} (hcap : s.capW < x.toNat) (hgood : s.pwr.pmbusGood = 10)
    (hexec : exec (.pwrSample (some x) tj tstk ms) s = .next t) :
    (∀ l, s.tighten s.pwr.steps = some l → t.pwr.steps = l) ∧
      (s.tighten s.pwr.steps = none → t.pwr.steps = s.pwr.steps ∧ t.flag R.PWR_ERR F.PWR_ERR_CAP_MISSED = true) := by
  obtain ⟨u, v, w, was, n, hu, hv, hw, hstages⟩ := exec_pwrSample_stages (some x) tj tstk ms s
  obtain ⟨hsteps, hpmbus⟩ := s.sampleSeen_good x.toNat tj.toNat tstk.toNat hgood
  rw [Option.map_some] at hu hw
  rw [← hu] at hsteps hpmbus
  have habove : u.sampleAbove (some x.toNat) tj.toNat = true := by
    have hlt : u.capW < x.toNat := by rw [hu, State.capW_sampleSeen]; exact hcap
    simp [State.sampleAbove, hlt]
  have hvpwr : v.pwr = u.pwr := by rw [hv, State.sampleWarned_pwr]
  have htighten : (v.relaxed n).tighten v.pwr.steps = s.tighten s.pwr.steps := by
    rw [hvpwr, hsteps]
    refine State.tighten_congr ?_ _
    show v.reg R.PWR_CTRL = s.reg R.PWR_CTRL
    rw [hv, State.ctrl_sampleWarned, hu, State.reg_sampleSeen _ _ _ _ (by decide) (by decide) (by decide) (by decide) (by decide)]
  have hpwr : (v.relaxed n).pwr.pmbusGood = 10 ∧ (v.relaxed n).pwr.steps = s.pwr.steps := by
    show v.pwr.pmbusGood = 10 ∧ v.pwr.steps = s.pwr.steps
    rw [hvpwr]
    exact ⟨hpmbus, hsteps⟩
  rw [habove] at hw
  have hend : t = ((w.heldBlind u.capW).msCounted ms F.PWR_STATUS_CAP_ACTIVE R.PWR_CNT_CAP_MS).msCounted ms F.PWR_STATUS_THERM_ACTIVE R.PWR_CNT_THERM_MS :=
    Host.Outcome.next.inj (hexec.symm.trans hstages)
  have htpwr : t.pwr = (w.heldBlind u.capW).pwr := by rw [hend, State.pwr_msCounted, State.pwr_msCounted]
  refine ⟨fun l hl => ?_, fun hnone => ?_⟩
  · have hwpwr := State.sampleStepped_of_step was n (htighten.trans hl)
    rw [← hw] at hwpwr
    rw [htpwr, State.heldBlind_of_good (by rw [hwpwr]; exact hpwr.1), hwpwr]
  · have hmissed := State.sampleStepped_of_none was n (htighten.trans hnone)
    rw [← hw] at hmissed
    have hwpwr : w.pwr = (v.relaxed n).pwr := by rw [hmissed, State.pwr_apart.setErr]
    have hheld : w.heldBlind u.capW = w := State.heldBlind_of_good (by rw [hwpwr]; exact hpwr.1) _
    refine ⟨by rw [htpwr, hheld, hwpwr, hpwr.2], ?_⟩
    have hreg : t.reg R.PWR_ERR = w.reg R.PWR_ERR := by
      rw [hend, State.reg_msCounted _ _ _ (by decide), State.reg_msCounted _ _ _ (by decide), hheld]
    rw [State.flag_congr hreg, hmissed, State.flag_setErr_low (by decide) (by decide) _ (by decide) rfl]

/-- Every sample is answered, and its temperatures stand. -/
theorem exec_pwrSample_shows (power : Option (BitVec 12)) (tj tstk : BitVec 8) (ms : Bool) (s : State) :
    ∃ t : State, exec (.pwrSample power tj tstk ms) s = .next t ∧ t.temps = (tj.toNat, tstk.toNat) := by
  obtain ⟨u, v, w, was, n, hu, hv, hw, hstages⟩ := exec_pwrSample_stages power tj tstk ms s
  refine ⟨_, hstages, ?_⟩
  have hrelaxed : (v.relaxed n).temps = v.temps := rfl
  rw [State.temps_msCounted _ _ _ (by decide), State.temps_msCounted _ _ _ (by decide), State.temps_heldBlind, hw, State.temps_sampleStepped, hrelaxed,
    hv, State.temps_sampleWarned, hu, State.temps_sampleSeen _ _ tj.isLt tstk.isLt]

/-! ### The feeds (R452 to R455) -/

theorem okFld_lo (b : Bool) : (okFld b).lo + (okFld b).w ≤ 2 := by cases b <;> decide

theorem vrmFld_lo (b : Bool) : 5 ≤ (vrmFld b).lo ∧ (vrmFld b).lo + (vrmFld b).w ≤ 7 := by cases b <;> decide

/-- A feed is absent. -/
def State.feedAbsent (s : State) (b : Bool) : State :=
  let t := s.putFlag R.PWR_FEED_STATUS (okFld b) false
  { t with pwr := { t.pwr with bothOk := 0 } }

theorem exec_feedLoss_of_window {b : Bool} {s : State} (h : s.pwr.feedWindow = true) : exec (.feedLoss b false) s = .next (s.feedAbsent b) := if_pos h

/-- A feed is lost, and the other carries the load. -/
def State.feedAlone (s : State) (b : Bool) : State :=
  (s.putFlag R.PWR_FEED_STATUS F.PWR_FEED_STATUS_SINGLE true).putFlag R.PWR_FEED_STATUS (lostFld b) true

theorem exec_feedLoss_of_good {b : Bool} {s : State} (hwindow : s.pwr.feedWindow = false) (hgood : s.feedGood b = true) (hother : s.feedGood (!b) = true) :
    exec (.feedLoss b false) s =
      .next ((State.interruptIf (s.feedAbsent b) ((s.feedAbsent b).feedAlone b) 4).raiseAlarm .feedLost).throttle := by
  have hopen : ¬ (s.feedAbsent b).pwr.feedWindow = true := by
    show ¬ s.pwr.feedWindow = true
    simp [hwindow]
  show execFeedLoss b false s = _
  unfold execFeedLoss
  extract_lets other was t u
  exact (if_neg hopen).trans ((if_neg (by simp [other, hother])).trans (if_pos hgood))

theorem State.throttle_of_cap {s : State} (h : s.get R.PWR_FEED_CFG F.PWR_FEED_CFG_CAP_W = 1050) : s.throttle = s := if_pos h

theorem State.throttle_of_less {s : State} (h : s.get R.PWR_FEED_CFG F.PWR_FEED_CFG_CAP_W ≠ 1050) :
    s.throttle = (s.putSteps (holdEight s.pwr.steps 16)).withPwr { (s.putSteps (holdEight s.pwr.steps 16)).pwr with background := false, relax := 0 } :=
  if_neg h

/-- Half issue rate, and no background work. -/
theorem State.throttled {s : State} (h : s.get R.PWR_FEED_CFG F.PWR_FEED_CFG_CAP_W ≠ 1050) :
    s.throttle.pwr.background = false ∧ issueF s.throttle.pwr.steps ≤ 8 ∧ s.throttle.get R.PWR_STATUS F.PWR_STATUS_ISSUE_F ≤ 8 := by
  rw [State.throttle_of_less h]
  refine ⟨rfl, ?_, ?_⟩
  · show issueF (s.putSteps (holdEight s.pwr.steps 16)).pwr.steps ≤ 8
    rw [State.putSteps_pwr]
    exact issueF_heldEight _
  · rw [State.get, State.reg_withPwr, ← State.get, State.issueF_putSteps]
    exact issueF_heldEight _

/-- A feed, or its VRM group, is back. -/
def State.feedBack (s : State) (b vrm : Bool) : State :=
  if vrm then s.putFlag R.PWR_FEED_STATUS (vrmFld b) false else s.putFlag R.PWR_FEED_STATUS (okFld b) true

theorem exec_feedReturn (b vrm : Bool) (s : State) : exec (.feedReturn b vrm) s = .next ((s.feedBack b vrm).withPwr { (s.feedBack b vrm).pwr with bothOk := 0 }) := rfl

theorem State.single_feedBack (s : State) (b vrm : Bool) :
    (s.feedBack b vrm).get R.PWR_FEED_STATUS F.PWR_FEED_STATUS_SINGLE = s.get R.PWR_FEED_STATUS F.PWR_FEED_STATUS_SINGLE := by
  obtain ⟨hlow, hhigh⟩ := vrmFld_lo b
  have hok := okFld_lo b
  unfold State.feedBack
  split
  · exact State.get_put_disjoint _ _ _ _ _ (hhigh.trans (by decide)) (.inr ((show F.PWR_FEED_STATUS_SINGLE.lo + F.PWR_FEED_STATUS_SINGLE.w ≤ 5 by decide).trans hlow))
  · exact State.get_put_disjoint _ _ _ _ _ (hok.trans (by decide)) (.inl hok)

theorem State.flag_feedBack (s : State) (b vrm : Bool) : (s.feedBack b vrm).flag R.PWR_FEED_STATUS (if vrm then vrmFld b else okFld b) = !vrm := by
  cases vrm
  · exact State.flag_putFlag_same _ _ _ _ ((okFld_lo b).trans (by decide)) (by cases b <;> rfl)
  · exact State.flag_putFlag_same _ _ _ _ ((vrmFld_lo b).2.trans (by decide)) (by cases b <;> rfl)

theorem State.reg_feedBack (s : State) (b vrm : Bool) {o : Nat} (ho : o ≠ R.PWR_FEED_STATUS) : (s.feedBack b vrm).reg o = s.reg o := by
  unfold State.feedBack
  split <;> exact State.reg_putFlag_ne _ _ _ _ _ ho

/-- Both feeds carry the load again. -/
def State.restored (s : State) : State :=
  (s.putFlag R.PWR_FEED_STATUS F.PWR_FEED_STATUS_SINGLE false).putFlag R.PWR_FEED_CMD F.PWR_FEED_CMD_FAIL false

theorem exec_restore_of_present {s : State} (ha : s.feedGood false = true) (hb : s.feedGood true = true) (hlong : 1000 ≤ s.pwr.bothOk) :
    exec .restore s = .next s.restored := if_pos (by simp [ha, hb, hlong])

theorem exec_restore_of_other {s : State} (h : s.feedGood false = false ∨ s.feedGood true = false ∨ s.pwr.bothOk < 1000) :
    exec .restore s = .next (s.putFlag R.PWR_FEED_CMD F.PWR_FEED_CMD_FAIL true) := by
  refine if_neg ?_
  rcases h with h | h | h
  · simp [h]
  · simp [h]
  · simp [h.not_ge]

theorem State.restored_single (s : State) : s.restored.flag R.PWR_FEED_STATUS F.PWR_FEED_STATUS_SINGLE = false := by
  rw [State.restored, State.flag_putFlag_ne _ _ _ _ (by decide), State.flag_putFlag_same _ _ _ _ (by decide) (by decide)]

theorem State.reg_restored (s : State) {o : Nat} (hstatus : o ≠ R.PWR_FEED_STATUS) (hcmd : o ≠ R.PWR_FEED_CMD) : s.restored.reg o = s.reg o := by
  rw [State.restored, State.reg_putFlag_ne _ _ _ _ _ hcmd, State.reg_putFlag_ne _ _ _ _ _ hstatus]

/-! ### Temperature and voltage (R517, R518) -/

theorem exec_thermtrip_of_hot {tj : BitVec 8} {stack : Bool} {s : State} (h : s.get R.PWR_THERM F.PWR_THERM_TRIP_C ≤ tj.toNat ∨ stack = true) :
    exec (.thermtrip tj stack) s =
      .next ((State.send { s with rst := { s.rst with thermHold := true, tripLand := true } } (.land "THERMTRIP_L" false)).raiseReset 7) := by
  refine if_neg ?_
  rcases h with h | h
  · simp [h.not_gt]
  · simp [h]

theorem exec_thermtrip_of_cool {tj : BitVec 8} {stack : Bool} {s : State} (h : tj.toNat < s.get R.PWR_THERM F.PWR_THERM_TRIP_C) (hstack : stack = false) :
    exec (.thermtrip tj stack) s = .next s := if_pos (by simp [h, hstack])

theorem exec_thermtripRelease_of_cool {tj : BitVec 8} {s : State} (hhold : s.rst.thermHold = true) (h : tj.toNat < 100) :
    exec (.thermtripRelease tj) s = .next (State.send { s with rst := { s.rst with thermHold := false, tripLand := false } } (.land "THERMTRIP_L" true)) :=
  if_neg (by simp [hhold, h.not_ge])

theorem exec_vmon_of_rail (s : State) : exec (.vmon false) s = .next (s.raiseReset 9) := rfl

theorem exec_vmon_of_pulse {s : State} (h : s.pulsing = true) : exec (.vmon true) s = .next (s.abortPulse.raiseReset 9) := if_pos h

theorem exec_vmon_of_noPulse {s : State} (h : s.pulsing = false) : exec (.vmon true) s = .next s := if_neg (by simp [h])

theorem exec_vmonWarn_of_noPulse {s : State} (h : s.pulsing = false) : exec (.vmonWarn true) s = .next s := if_pos (by simp [h])

theorem exec_vmonWarn_of_rail (s : State) : exec (.vmonWarn false) s = .next (s.setErr R.PWR_ERR F.PWR_ERR_VMON_WARN) := rfl

/-- Settles O54: the feeds, the samples and the limits, row by row. -/
theorem feedsSamplesAndLimits : Obligations.FeedsSamplesAndLimits := by
  unfold Obligations.FeedsSamplesAndLimits
  refine ⟨fun b s => exec_feedLoss_of_window, fun b s hwindow hgood hother => exec_feedLoss_of_good hwindow hgood hother, fun s => State.throttled,
    fun s => State.throttle_of_cap, fun s => rfl, fun b vrm s => ?back, fun s ha hb hlong => ?restore, fun s => exec_restore_of_other,
    fun power tj tstk ms s => ?sample, fun l s _ => ?step, fun tj stack s => ⟨exec_thermtrip_of_hot, exec_thermtrip_of_cool⟩,
    fun tj s => exec_thermtripRelease_of_cool, fun s => ⟨exec_vmon_of_rail s, exec_vmon_of_pulse, fun h => ⟨exec_vmon_of_noPulse h, exec_vmonWarn_of_noPulse h⟩,
      exec_vmonWarn_of_rail s⟩⟩
  case back =>
    refine ⟨_, exec_feedReturn b vrm s, ?_, ?_, fun o ho => ?_⟩
    · rw [State.get, State.reg_withPwr, ← State.get, State.single_feedBack]
    · exact (State.flag_congr (State.reg_withPwr _ _ _) _).trans (s.flag_feedBack b vrm)
    · rw [State.reg_withPwr, State.reg_feedBack _ _ _ ho]
  case restore =>
    exact ⟨s.restored, exec_restore_of_present ha hb hlong, s.restored_single, rfl, fun o => State.reg_restored s⟩
  case sample =>
    obtain ⟨t, hexec, htemps⟩ := exec_pwrSample_shows power tj tstk ms s
    refine ⟨t, hexec, congrArg Prod.fst htemps, congrArg Prod.snd htemps, fun w hpower hcap hgood => ?_⟩
    subst hpower
    exact exec_pwrSample_of_above hcap hgood hexec
  case step =>
    refine ⟨fun h => ⟨_, State.tighten_of_issue h, ?_⟩, fun h hpoint => ⟨_, State.tighten_of_point h hpoint, State.pointOf_raised hpoint, issueF_points _ _⟩,
      fun h hpoint hlast => ⟨_, (State.tighten_of_last h hpoint).trans (if_pos hlast), ?_⟩, fun h hpoint =>
      (State.tighten_of_last (h.trans (by decide)) hpoint).trans (if_neg h.not_gt)⟩
    · rw [issueF_cons]
      omega
    · rw [issueF_cons]
      omega

end Sys2Proof.Machine
end

section
/-!
What the homes leave as it stands: clocks, resets, power, keys, jobs (R340 to R361).
-/
namespace Sys2Proof.Machine

theorem keeps_ite {β : Type} {c : Prop} [Decidable c] {x : β} (p : State → β) {a b : State} (ha : p a = x) (hb : p b = x) :
    p (if c then a else b) = x := by
  split
  · exact ha
  · exact hb

/-- A part of the state that holds no register, no memory, no link, no core, no channel, no home, no translation and no pair. -/
structure Distant {β : Type} (p : State → β) : Prop extends Spared (fun _ => True) p where
  home : ∀ (s : State) (h : Home), p { s with home := h } = p s

theorem State.clk_distant : Distant State.clk where
  covers _ _ := trivial
  setReg _ _ _ _ := rfl
  send _ _ := rfl
  tick _ := rfl
  setCore _ _ _ := rfl
  setChan _ _ _ := rfl
  pool _ _ := rfl
  mgmt _ _ _ := rfl
  fab _ _ := rfl
  pair _ _ := rfl
  ras _ _ := rfl
  xlat _ _ := rfl
  home _ _ := rfl

/-! ### Stripes (R412 to R416) -/

section Stripes
variable {β : Type} {p : State → β} (hp : Distant p)
include hp

theorem Distant.writeStored (s : State) (pa : Nat) (x : Side) (d : List Byte) (repair : Bool) : p (s.writeStored pa x d repair).1 = p s := by
  unfold State.writeStored
  extract_lets la
  split
  · exact (hp.wrote _ _).trans (hp.pool _ _)
  · exact hp.routeErr _ _ _ _

theorem Distant.readStored (s : State) (pa : Nat) (repair : Bool) : p (s.readStored pa repair).1 = p s := by
  unfold State.readStored
  extract_lets la
  split
  · rfl
  · extract_lets t x
    have ht : p t = p s := (hp.setChan _ _ _).trans (hp.bump _ _ trivial)
    split
    · refine Eq.trans ?_ ht
      split
      · exact hp.bump _ _ trivial
      · rfl
    · exact (hp.logUE _ _).trans ((hp.tick _).trans ht)
  · exact hp.routeErr _ _ _ _

theorem Distant.readMember (s : State) (m o : Nat) : p (s.readMember m o).1 = p s := by
  unfold State.readMember
  split
  · rfl
  · next a rep _ =>
    have h := hp.readStored s a rep
    generalize s.readStored a rep = x at h ⊢
    obtain ⟨t, r⟩ := x
    exact h

theorem Distant.xorMembers (s : State) (o : Nat) (l : List Nat) : p (s.xorMembers o l).1 = p s := by
  induction l generalizing s with
  | nil => rfl
  | cons m l ih =>
    have h := hp.readMember s m o
    unfold State.xorMembers
    generalize s.readMember m o = x at h ⊢
    obtain ⟨t, ok, d⟩ := x
    have h2 := ih t
    simp only
    generalize State.xorMembers t o l = y at h2 ⊢
    obtain ⟨u, ok', d'⟩ := y
    exact h2.trans h

theorem Distant.reconstruct (s : State) (m o : Nat) : p (s.reconstruct m o).1 = p s := by
  have h := hp.xorMembers s o ((List.range 12).filter (· != m))
  unfold State.reconstruct
  generalize s.xorMembers o ((List.range 12).filter (· != m)) = x at h ⊢
  obtain ⟨t, ok, d⟩ := x
  simp only
  split
  · exact h
  · simp only
    exact (hp.setErr t.tick _ trivial).trans ((hp.tick t).trans h)

theorem Distant.recomputeParity (s : State) (q m o : Nat) (bad : Bool) (new : List Byte) : p (s.recomputeParity q m o bad new) = p s := by
  have h := hp.xorMembers s o ((List.range 12).filter (fun i => i != m && i != q))
  unfold State.recomputeParity
  generalize s.xorMembers o ((List.range 12).filter (fun i => i != m && i != q)) = x at h ⊢
  obtain ⟨t, ok, d⟩ := x
  simp only
  split
  · exact h
  · exact (hp.writeStored _ _ _ _ _).trans h

theorem Distant.memRead (s : State) (pa : Nat) (tenant : Option Nat) (kslot : Nat) : p (s.memRead pa tenant kslot).1 = p s := by
  have hrebuilt : ∀ t : State, p (t.reconstruct (fastStack (pa / 64 * 64)) (bitsOf (pa / 64 * 64) 0 36)).1 = p t := fun t => hp.reconstruct _ _ _
  unfold State.memRead
  split
  · exact hp.readLine _ _ _ _ _
  · extract_lets la m o key rebuilt
    have hr : ∀ t : State, p (rebuilt t).1 = p t := fun t => by
      have h := hrebuilt t
      unfold rebuilt
      generalize t.reconstruct m o = x at h ⊢
      obtain ⟨u, ok, d⟩ := x
      exact (hp.bump _ _ trivial).trans h
    split
    · split
      · rfl
      · have h := hr s
        generalize rebuilt s = x at h ⊢
        obtain ⟨u, ok, r⟩ := x
        exact h
    · extract_lets x
      split
      · exact hp.readLine _ _ _ _ _
      · have h := (hr (s.bump R.RAS_CNT_UE)).trans (hp.bump _ _ trivial)
        generalize rebuilt (s.bump R.RAS_CNT_UE) = y at h ⊢
        obtain ⟨u, ok, r⟩ := y
        exact (hp.writeStored _ _ _ _ _).trans h

theorem Distant.memWrite (s : State) (pa : Nat) (tenant : Option Nat) (kslot : Nat) (poison : Bool) (d : List Byte) :
    p (s.memWrite pa tenant kslot poison d).1 = p s := by
  unfold State.memWrite
  split
  · exact hp.writeLine _ _ _ _ _ _ _
  · extract_lets la m o q
    split
    · split
      · rfl
      · exact (hp.recomputeParity _ _ _ _ _ _).trans (hp.pool _ _)
    · next a rep _ =>
      extract_lets old was
      have h := hp.writeLine s a tenant kslot poison d rep
      generalize s.writeLine a tenant kslot poison d rep = x at h ⊢
      obtain ⟨t, st⟩ := x
      simp only
      split
      · exact h
      · split
        · exact h
        · next pp prep _ =>
          split
          · have h2 := hp.readStored t pp prep
            generalize t.readStored pp prep = y at h2 ⊢
            obtain ⟨u, r⟩ := y
            exact (hp.writeStored _ _ _ _ _).trans (h2.trans h)
          · exact (hp.recomputeParity _ _ _ _ _ _).trans h

theorem Distant.markPoison (s : State) (pa : Nat) : p (s.markPoison pa) = p s := by
  unfold State.markPoison
  extract_lets mark
  have hmark : ∀ (t : State) (a : Nat), p (mark t a) = p t := fun t a => (hp.wrote _ _).trans (hp.pool _ _)
  split
  · exact hmark _ _
  · generalize s.memberPa _ _ = x
    cases x with
    | none => rfl
    | some q => exact hmark _ _
  · rfl

end Stripes

/-! ### Packets (R295, R311, R436) -/

section Packets
variable {β : Type} {p : State → β} (hp : Distant p)
include hp

theorem Distant.notifyLost (s : State) : p s.notifyLost = p s := (hp.setErr _ _ trivial).trans (hp.bump _ _ trivial)

theorem Distant.markRoute (s : State) (e n : Nat) : p (s.markRoute e n) = p s := by
  unfold State.markRoute
  split
  · exact hp.put _ _ _ trivial
  · split
    · exact hp.put _ _ _ trivial
    · rfl

theorem Distant.updLink (s : State) (n : Nat) (f : Link → Link) : p (s.updLink n f) = p s := hp.setLink (fun _ _ => trivial) _ _

theorem Distant.noWay (s : State) (k : LinkPkt) : p (s.noWay k) = p s := by
  unfold State.noWay
  split
  · exact hp.notifyLost _
  · split
    · exact hp.fab _ _
    · rfl

theorem Distant.sendPkt (s : State) (k : PktOut) : p (s.sendPkt k) = p s := by
  unfold State.sendPkt
  split
  · exact hp.notifyLost _
  · extract_lets t u port v
    have ht : p t = p s := hp.send _ _
    have hu : p u = p t := by
      unfold u
      split
      · exact hp.fab _ _
      · rfl
    have hv : p v = p u := by
      unfold v
      split
      · split
        · rfl
        · exact hp.updLink _ _ _
      · rfl
    have h := hv.trans (hu.trans ht)
    clear_value port v
    cases port with
    | none => exact (hp.noWay _ _).trans h
    | some n => exact (hp.pumpLink (fun _ _ => trivial) _ _).trans ((hp.updLink _ _ _).trans ((hp.markRoute _ _ _).trans h))

theorem Distant.respondAfter (s : State) (m : Nat) (k : PktOut) : p (s.respondAfter m k) = p s := by
  unfold State.respondAfter
  split
  · exact hp.sendPkt _ _
  · exact hp.pair _ _

end Packets

/-! ### Directory entries (R344 to R360) -/

section Entries
variable {β : Type} {p : State → β} (hp : Distant p)
include hp

theorem Distant.setSummary (s : State) (pa v : Nat) : p (s.setSummary pa v) = p s := by
  unfold State.setSummary
  split
  · rfl
  · exact (hp.mirrorLine _ _).trans ((hp.wrote _ _).trans (hp.pool _ _))

theorem Distant.setDir (s : State) (pa : Nat) (st : DirSt) (ptrs : List Nat) (imask : Nat) : p (s.setDir pa st ptrs imask) = p s := by
  unfold State.setDir
  split
  · exact (hp.setSummary _ _ _).trans (hp.home _ _)
  · exact (hp.home _ _).trans (hp.home _ _)

theorem Distant.poisonLine (s : State) (pa : Nat) : p (s.poisonLine pa) = p s := by
  unfold State.poisonLine
  exact (hp.setErr _ _ trivial).trans ((hp.bump _ _ trivial).trans ((hp.mirrorLine _ _).trans (hp.markPoison _ _)))

theorem Distant.dirProto (s : State) (kind pa ep : Nat) : p (s.dirProto kind pa ep) = p s := by
  unfold State.dirProto
  extract_lets t
  have ht : p t = p s := by
    unfold t
    split
    · rfl
    · rw [hp.put _ _ _ trivial, hp.put _ _ _ trivial, hp.put _ _ _ trivial, hp.put _ _ _ trivial]
  exact (hp.setErr _ _ trivial).trans ht

theorem Distant.markCached (s : State) (b pa : Nat) : p (s.markCached b pa) = p s := by
  unfold State.markCached
  split
  · rfl
  · extract_lets k h t
    have ht : p t = p s := hp.home _ _
    split
    · exact ht
    · exact (hp.changePartner _ _ _).trans ((hp.home _ _).trans ht)

theorem Distant.recallInternal (s : State) (pa : Nat) : p (s.recallInternal pa) = p s := by
  unfold State.recallInternal
  extract_lets e
  split
  · rfl
  · split
    · exact (hp.setDir _ _ _ _ _).trans (hp.send _ _)
    · exact (hp.home _ _).trans (hp.send _ _)

theorem Distant.shareInternal (s : State) (pa : Nat) : p (s.shareInternal pa) = p s := by
  unfold State.shareInternal
  extract_lets e
  split
  · exact (hp.home _ _).trans (hp.send _ _)
  · rfl

theorem Distant.sendSnoop (s : State) (k : SnpKind) (bcast : Bool) (tenant : Nat) (r : SnoopRec) : p (s.sendSnoop k bcast tenant r) = p s := by
  unfold State.sendSnoop
  extract_lets t u
  have ht : p t = p s := hp.bump _ _ trivial
  have hu : p u = p t := by
    unfold u
    split
    · exact hp.bump _ _ trivial
    · rfl
  exact (hp.sendPkt _ _).trans (hu.trans ht)

theorem Distant.snoopClient (s : State) (k : SnpKind) (bcast : Bool) (tenant : Nat) (al : List (Nat × Nat)) (ep : Nat) :
    p (s.snoopClient k bcast tenant al ep).1 = p s := by
  unfold State.snoopClient
  split
  · simp only
    exact (hp.setErr _ _ trivial).trans (hp.bump _ _ trivial)
  · exact foldl_fst_keeps p al (s, []) (fun a x _ => (hp.sendSnoop _ _ _ _ _).trans (hp.home _ _))

theorem Distant.demote (s : State) (pa : Nat) : p (s.demote pa) = p s := by
  unfold State.demote
  extract_lets e t v w
  have ht : p t = p s := by
    unfold t
    split
    · rfl
    · exact hp.send _ _
  exact (hp.bump _ _ trivial).trans ((hp.setSummary _ _ _).trans ((hp.home _ _).trans ht))

end Entries

/-! ### Transactions (R348 to R361) -/

section Transactions
variable {β : Type} {p : State → β} (hp : Distant p)
include hp

theorem Distant.responseLine (s : State) (r : HomeReq) (sup : Option (Bool × List Byte)) : p (s.responseLine r sup).1 = p s := by
  unfold State.responseLine
  split
  · rfl
  · exact hp.memRead _ _ _ _

theorem Distant.freeCredits (t : DirTxn) (s : State) : p (t.freeCredits s) = p s := by
  unfold DirTxn.freeCredits
  cases t.reserve with
  | none => rfl
  | some n =>
    simp only [Option.elim_some]
    unfold State.unreserve
    exact hp.updLink _ _ _

theorem Distant.putTxn (s : State) (t : DirTxn) : p (s.putTxn t) = p s := hp.home _ _

theorem Distant.dropTxn (s : State) (pa : Nat) : p (s.dropTxn pa) = p s := hp.home _ _

theorem Distant.respondWbs (m tenant : Nat) (l : List (Nat × Nat × Bool × List Byte)) (s : State) :
    p (l.foldl (fun s w => s.respondAfter m (cmpFor tenant w.1 w.2.1 stOk)) s) = p s :=
  foldl_keeps p l s (fun _ _ _ => hp.respondAfter _ _ _)

theorem Distant.finishTxn (s : State) (t : DirTxn) : p (s.finishTxn t) = p s := by
  unfold State.finishTxn
  extract_lets r m g two s1 sup written s2 s3 nx imask close
  have h1 : p s1 = p s := by
    unfold s1
    split
    · exact (hp.dirProto _ _ _ _).trans (hp.poisonLine _ _)
    · rfl
  have h2 : p s2 = p s1 := by
    unfold s2
    cases sup with
    | none => rfl
    | some d =>
      simp only
      split
      · exact hp.memWrite _ _ _ _ _ _
      · rfl
  have h3 : p s3 = p s := (hp.respondWbs _ _ _ _).trans (h2.trans h1)
  have hclose : ∀ (u : State) (b : Bool), p (close u b) = p u := fun u b => by
    unfold close
    simp only
    split
    · exact hp.putTxn _ _
    · exact hp.dropTxn _ _
  clear_value close s3 s2 nx imask sup
  have hdata : p (match s3.memWrite r.pa (some r.tenant) r.tenant r.poison r.data with
      | (u, st) => close ((u.respondAfter m (cmpFor r.tenant r.ep r.txn st.code)).setDir r.pa .i [] 0) false) = p s := by
    have h := hp.memWrite s3 r.pa (some r.tenant) r.tenant r.poison r.data
    generalize s3.memWrite r.pa (some r.tenant) r.tenant r.poison r.data = x at h ⊢
    obtain ⟨u, st⟩ := x
    exact (hclose _ _).trans ((hp.setDir _ _ _ _ _).trans ((hp.respondAfter _ _ _).trans (h.trans h3)))
  split
  · exact (hclose _ _).trans ((hp.setDir _ _ _ _ _).trans h3)
  · exact hdata
  · split
    · exact hdata
    · exact (hclose _ _).trans ((hp.sendPkt _ _).trans ((hp.bump _ _ trivial).trans h3))
  · split
    · refine (hclose _ _).trans ((hp.setDir _ _ _ _ _).trans ((hp.respondAfter _ _ _).trans ((hp.markCached _ _ _).trans ?_)))
      exact (hp.freeCredits _ _).trans h3
    · have hrl : p (s3.responseLine r sup).1 = p s := (hp.responseLine _ _ _).trans h3
      have hfwd := keeps_ite (c := (t.kind == SnpKind.fwd && sup.isSome) = true) p ((hp.bump (o := R.DIR_CNT_FWD_SUPPLY) _ 1 trivial).trans hrl) hrl
      have hmark := keeps_ite (c := r.op.grants = true) p ((hp.markCached _ r.basin r.pa).trans hfwd) hfwd
      have hclaim := keeps_ite (c := r.op = HomeOp.claim) p ((hp.bump (o := R.DIR_CNT_CLAIM_DATA) _ 1 trivial).trans hmark) hmark
      split
      · exact (hclose _ _).trans ((hp.setDir _ _ _ _ _).trans ((hp.sendPkt _ _).trans ((hp.freeCredits _ _).trans hfwd)))
      · exact (hclose _ _).trans ((hp.setDir _ _ _ _ _).trans ((hp.respondAfter _ _ _).trans hclaim))

theorem Distant.checkTxn (s : State) (pa : Nat) : p (s.checkTxn pa) = p s := by
  unfold State.checkTxn
  split
  · rfl
  · split
    · exact hp.finishTxn _ _
    · rfl

theorem Distant.snoopAll (k : SnpKind) (bcast : Bool) (tenant : Nat) (al : List (Nat × Nat)) (l : List Nat) (acc : State × List SnoopRec) :
    p (l.foldl (fun acc e =>
      let x := State.snoopClient acc.1 k bcast tenant al e
      (x.1, acc.2 ++ x.2)) acc).1 = p acc.1 :=
  foldl_fst_keeps p l acc (fun _ _ _ => hp.snoopClient _ _ _ _ _ _)

theorem Distant.beginTxn (s : State) (r : HomeReq) : p (s.beginTxn r) = p s := by
  unfold State.beginTxn
  extract_lets hit s1 s2 s3 a port s4 base start
  have h1 : p s1 = p s := by
    unfold s1
    split
    · rfl
    · exact hp.bump _ _ trivial
  have h2 : p s2 = p s1 := by
    unfold s2
    split
    · exact hp.shareInternal _ _
    · rfl
  have h3 : p s3 = p s2 := by
    unfold s3
    split
    · rfl
    · exact hp.recallInternal _ _
  have h4 : p s4 = p s3 := by
    unfold s4
    clear_value port s3
    cases port with
    | none => rfl
    | some n =>
      simp only [Option.elim_some]
      exact hp.updLink _ _ _
  have h := h4.trans (h3.trans (h2.trans h1))
  have hstart : ∀ (u : State) (t : DirTxn), p (start u t) = p u := fun u t => by
    unfold start
    exact (hp.checkTxn _ _).trans (hp.home _ _)
  clear_value start base s4 port
  split
  · exact (hstart _ _).trans h
  · next k who _ =>
    extract_lets targets s5 res
    have h5 : p s5 = p s4 := by
      unfold s5
      split
      · exact hp.bump _ _ trivial
      · rfl
    exact (hstart _ _).trans ((hp.snoopAll _ _ _ _ _ _).trans (h5.trans h))

theorem Distant.pumpHome (s : State) (n : Nat) : p (s.pumpHome n) = p s := by
  induction n generalizing s with
  | zero => rfl
  | succ n ih =>
    unfold State.pumpHome
    extract_lets q
    split
    · rfl
    · split
      · rfl
      · split
        · rfl
        · exact (ih _).trans ((hp.beginTxn _ _).trans (hp.home _ _))
        · exact (ih _).trans ((hp.beginTxn _ _).trans (hp.bump _ _ trivial))
        · exact (ih _).trans (hp.demote _ _)
        · exact (ih _).trans ((hp.beginTxn _ _).trans (hp.home _ _))

theorem Distant.pumpAll (s : State) : p s.pumpAll = p s := hp.pumpHome _ _

end Transactions

end Sys2Proof.Machine
end

section
/-!
Clock sources, islands, switching and fallback (R505 to R510, R552).
-/
namespace Sys2Proof.Machine

theorem State.clk_apart : Apart State.clk where
  setReg _ _ _ := rfl
  send _ _ := rfl
  setCore _ _ _ := rfl
  pool _ _ := rfl
  mgmt _ _ := rfl
  setChan _ _ _ := rfl

/-! ### PLLs and stopped islands (R507, R508) -/

section Islands
variable (s : State) (i : Nat) (b : Bool)

theorem State.pllStable_setPll : (s.setPll i b).pllStable i = b := Tbl.get_set_same _ _ _ _

theorem State.islandStopped_setStopped : (s.setStopped i b).islandStopped i = b := Tbl.get_set_same _ _ _ _

theorem State.pllStable_setStopped : (s.setStopped i b).pllStable = s.pllStable := rfl

theorem State.islandStopped_setPll : (s.setPll i b).islandStopped = s.islandStopped := rfl

theorem State.clk_setLand (v : Nat) : (s.setLand i v).clk = s.clk := rfl

theorem State.islandStopped_congr {s t : State} (h : t.clk = s.clk) : t.islandStopped = s.islandStopped := by
  funext i
  rw [State.islandStopped, h, ← State.islandStopped]

theorem State.pllStable_congr {s t : State} (h : t.clk = s.clk) : t.pllStable = s.pllStable := by
  funext i
  rw [State.pllStable, h, ← State.pllStable]

theorem State.clk_fuseLands (l : List Nat) : (s.fuseLands l).clk = s.clk := foldl_keeps State.clk l s (fun _ _ _ => State.clk_setLand _ _ _)

theorem State.clk_stopIsland : (s.stopIsland i).clk = (s.setStopped i true).clk := by
  unfold State.stopIsland
  extract_lets t
  split
  · exact State.clk_fuseLands _ _
  · rfl

/-- What a stopped island held back goes on; no clock moves by it. -/
theorem State.clk_resumeIsland : (s.resumeIsland i).clk = (s.setStopped i false).clk := by
  unfold State.resumeIsland
  extract_lets t
  split
  · exact foldl_keeps State.clk _ _ (fun _ _ _ => State.clk_setLand _ _ _)
  · split
    · exact State.clk_distant.pumpLink (fun _ _ => trivial) _ _
    · exact State.clk_distant.pumpAll _

end Islands

/-! ### Failure and fallback (R507, R510) -/

section Failure
variable {s : State} {i : Nat}

theorem State.fallBack_of_not (f : Fld) (h : s.flag R.CLK_CFG F.CLK_CFG_WELL_AUTOFALL = false ∨ s.srcReady 4 = false) : s.fallBack i f = (s, false) := by
  unfold State.fallBack
  rcases h with h | h <;> simp [h]

theorem State.fallBack_of_ready (f : Fld) (hauto : s.flag R.CLK_CFG F.CLK_CFG_WELL_AUTOFALL = true) (hring : s.srcReady 4 = true)
    (hsel : s.flag R.CLK_SEL f = false) :
    s.fallBack i f = (((s.putFlag R.CLK_SEL f true).setPll i false).setErr R.CLK_ERR F.CLK_ERR_AUTOFALL, true) := by
  unfold State.fallBack
  simp [hauto, hring, hsel]

theorem State.failIsland_stops (hrun : s.pllStable i = true)
    (hno : i ≠ wellIsland ∧ i ≠ secIsland ∨ s.flag R.CLK_CFG F.CLK_CFG_WELL_AUTOFALL = false ∨ s.srcReady 4 = false) :
    s.failIsland i = (s.setPll i false).stopIsland i := by
  unfold State.failIsland
  extract_lets running t
  rw [if_neg (by simp [running, hrun])]
  split
  · next hi =>
    have h : s.flag R.CLK_CFG F.CLK_CFG_WELL_AUTOFALL = false ∨ s.srcReady 4 = false := by
      rcases hno with ⟨h1, h2⟩ | h
      · exact absurd hi (by simp [h1, h2])
      · exact h
    rw [State.fallBack_of_not _ h]
  · rfl

theorem State.failIsland_falls (hrun : s.pllStable wellIsland = true) (hauto : s.flag R.CLK_CFG F.CLK_CFG_WELL_AUTOFALL = true)
    (hring : s.srcReady 4 = true) (hsel : s.flag R.CLK_SEL F.CLK_SEL_WELL_SRC = false) :
    s.failIsland wellIsland = ((s.putFlag R.CLK_SEL F.CLK_SEL_WELL_SRC true).setPll wellIsland false).setErr R.CLK_ERR F.CLK_ERR_AUTOFALL := by
  unfold State.failIsland
  extract_lets running t
  rw [if_neg (by simp [running, hrun]), if_pos (Or.inl rfl), if_pos rfl, State.fallBack_of_ready _ hauto hring hsel]

end Failure

/-! ### CLK_SEL (R509) -/

/-- One field of CLK_SEL as a write leaves it: the value written, where the source that it names is ready; else a refusal. -/
def State.selectClock (s : State) (value bit : Nat) (f : Fld) (ok : Bool) : State :=
  if ok then s.putFlag R.CLK_SEL f (bitOf value bit) else s.setErr R.CLK_ERR F.CLK_ERR_SWITCH_REFUSED

section Select
variable (s : State) (value bit : Nat) {f g : Fld} (ok : Bool)

theorem State.flag_selectClock (hf : f.lo + f.w ≤ 64) (hw : f.w = 1) :
    (s.selectClock value bit f ok).flag R.CLK_SEL f = if ok then bitOf value bit else s.flag R.CLK_SEL f := by
  unfold State.selectClock
  split
  · exact State.flag_putFlag_same _ _ _ _ hf hw
  · rw [State.flag, State.get, State.reg_setErr_low (by decide) (by decide) _ _ (by decide), ← State.get, ← State.flag]

theorem State.flag_selectClock_disjoint (hf : f.lo + f.w ≤ 64) (hd : f.lo + f.w ≤ g.lo ∨ g.lo + g.w ≤ f.lo) :
    (s.selectClock value bit f ok).flag R.CLK_SEL g = s.flag R.CLK_SEL g := by
  unfold State.selectClock
  split
  · exact State.flag_putFlag_disjoint _ _ _ _ _ hf hd
  · rw [State.flag, State.get, State.reg_setErr_low (by decide) (by decide) _ _ (by decide), ← State.get, ← State.flag]

theorem State.refused_selectClock (h : ok = false ∨ s.flag R.CLK_ERR F.CLK_ERR_SWITCH_REFUSED = true) :
    (s.selectClock value bit f ok).flag R.CLK_ERR F.CLK_ERR_SWITCH_REFUSED = true := by
  unfold State.selectClock
  split
  · next hok => exact (State.flag_putFlag_ne _ _ _ _ (by decide)).trans (h.resolve_left (by simp [hok]))
  · exact State.flag_setErr_low (by decide) (by decide) _ (by decide) rfl

end Select

/-! ### The Twin link's retrain (R290, R509) -/

section Retrain
variable {loud : Nat → Prop} {β : Type} {p : State → β} (hp : Spared loud p) {n : Nat} (hn : ∀ k, k < 0x10000 → loud (R.MERE_BASE n + k))
include hp hn

theorem Spared.setLinkState (s : State) (v : Nat) : p (s.setLinkState n v) = p s := by
  have hstat : loud (R.MERE_LINKSTAT n) := hn _ (by decide)
  exact hp.put _ _ _ hstat

theorem Spared.noWidth (s : State) : p (s.noWidth n) = p s := by
  have hstat : loud (R.MERE_LINKSTAT n) := hn _ (by decide)
  have hlanes : lanesOf n ≤ 16 := by
    unfold lanesOf
    split <;> omega
  have hlane : ∀ i < lanesOf n, loud (R.MERE_LANESTAT n i) := fun i hi => by
    rw [R.MERE_LANESTAT, Nat.add_assoc]
    exact hn _ (by omega)
  unfold State.noWidth
  extract_lets t
  have ht : p t = p s := (hp.put _ _ _ hstat).trans (hp.put _ _ _ hstat)
  exact (foldl_keeps p _ _ (fun _ i hi => hp.put _ _ _ (hlane i (List.mem_range.mp hi)))).trans ht

theorem Spared.sendCtl (s : State) (c : Ctl) : p (s.sendCtl n c) = p s := by
  unfold State.sendCtl State.sendControl
  exact (hp.send _ _).trans ((hp.setLink hn _ _).trans (hp.setLink hn _ _))

theorem Spared.enterDetect (hhome : ∀ (s : State) (h : Home), p { s with home := h } = p s) (s : State) : p (s.enterDetect n) = p s := by
  have hctrl : loud (R.MERE_CTRL n) := hn _ (by decide)
  unfold State.enterDetect
  extract_lets l t u ts
  have ht : p t = p s := (hp.put _ _ _ hctrl).trans ((hp.noWidth hn _).trans (hp.setLinkState hn _ _))
  have hu : p u = p t := foldl_keeps p _ _ (fun _ _ _ => hp.setCredit hn _ _ _)
  exact (hp.setLink hn _ _).trans ((hhome _ _).trans (hu.trans ht))

/-- A retrain of the Twin link, or the break that a fourth one brings, writes nothing but the link's own registers. -/
theorem Spared.startRetrain (hhome : ∀ (s : State) (h : Home), p { s with home := h } = p s) (h8 : n = 8) (s : State) (rank : Nat) (all : Bool) :
    p (s.startRetrain n rank all) = p s := by
  have herr : loud (R.MERE_ERR n) := hn _ (by decide)
  have hbreaks : loud (R.MERE_CNT_BREAKS n) := hn _ (by decide)
  unfold State.startRetrain
  split
  · rfl
  · split
    · unfold State.breakLink
      extract_lets t
      rw [if_pos h8]
      exact (hp.enterDetect hn hhome _).trans ((hp.bump _ _ hbreaks).trans (hp.setErr _ _ herr))
    · exact (hp.sendCtl hn _ _).trans ((hp.setLinkState hn _ _).trans (hp.setLink hn _ _))

end Retrain

/-- The clock registers stand apart from the Twin link's retrain. -/
theorem State.reg_twinRetrain {o : Nat} (ho : ¬ noisy o) (s : State) (rank : Nat) (all : Bool) : (s.startRetrain 8 rank all).reg o = s.reg o :=
  (State.reg_spared ho).startRetrain (State.reg_spared ho).twin (fun _ _ => (rfl)) rfl s rank all

/-- Whether the source is ready that a value of CLK_SEL names for an island with a PLL. -/
def State.ringOrPll (s : State) (value bit i : Nat) : Bool := if bitOf value bit then s.srcReady 4 else s.srcReady 0 && s.pllStable i

/-- Whether the reference is ready that a value of CLK_SEL names for the Twin link. -/
def State.twinSource (s : State) (value : Nat) : Bool := s.srcReady (if bitOf value 2 then 2 else 1)

/-- The three fields of CLK_SEL as a write leaves them. -/
def State.selectAll (s : State) (value : Nat) : State :=
  ((s.selectClock value 0 F.CLK_SEL_WELL_SRC (s.ringOrPll value 0 wellIsland)).selectClock value 1 F.CLK_SEL_SEC_SRC (s.ringOrPll value 1 secIsland)).selectClock
    value 2 F.CLK_SEL_TWIN_SRC (s.twinSource value)

section SelectAll
variable (s : State) (value : Nat)

theorem State.flag_selectAll_well : (s.selectAll value).flag R.CLK_SEL F.CLK_SEL_WELL_SRC =
    if s.ringOrPll value 0 wellIsland then bitOf value 0 else s.flag R.CLK_SEL F.CLK_SEL_WELL_SRC := by
  rw [State.selectAll, State.flag_selectClock_disjoint _ _ _ _ (by decide) (by decide), State.flag_selectClock_disjoint _ _ _ _ (by decide) (by decide),
    State.flag_selectClock _ _ _ _ (by decide) rfl]

theorem State.flag_selectAll_sec : (s.selectAll value).flag R.CLK_SEL F.CLK_SEL_SEC_SRC =
    if s.ringOrPll value 1 secIsland then bitOf value 1 else s.flag R.CLK_SEL F.CLK_SEL_SEC_SRC := by
  rw [State.selectAll, State.flag_selectClock_disjoint _ _ _ _ (by decide) (by decide), State.flag_selectClock _ _ _ _ (by decide) rfl,
    State.flag_selectClock_disjoint _ _ _ _ (by decide) (by decide)]

theorem State.flag_selectAll_twin : (s.selectAll value).flag R.CLK_SEL F.CLK_SEL_TWIN_SRC =
    if s.twinSource value then bitOf value 2 else s.flag R.CLK_SEL F.CLK_SEL_TWIN_SRC := by
  rw [State.selectAll, State.flag_selectClock _ _ _ _ (by decide) rfl, State.flag_selectClock_disjoint _ _ _ _ (by decide) (by decide),
    State.flag_selectClock_disjoint _ _ _ _ (by decide) (by decide)]

theorem State.refused_selectAll (h : s.ringOrPll value 0 wellIsland = false ∨ s.ringOrPll value 1 secIsland = false ∨ s.twinSource value = false) :
    (s.selectAll value).flag R.CLK_ERR F.CLK_ERR_SWITCH_REFUSED = true := by
  unfold State.selectAll
  rcases h with h | h | h
  · exact State.refused_selectClock _ _ _ _ (Or.inr (State.refused_selectClock _ _ _ _ (Or.inr (State.refused_selectClock _ _ _ _ (Or.inl h)))))
  · exact State.refused_selectClock _ _ _ _ (Or.inr (State.refused_selectClock _ _ _ _ (Or.inl h)))
  · exact State.refused_selectClock _ _ _ _ (Or.inl h)

end SelectAll

/-- What a write of CLK_SEL leaves: each field in turn, and the Twin link retrained where its source has changed. -/
theorem exec_clkSelWrite (value : BitVec 3) (s : State) :
    ∃ u : State, exec (.clkSelWrite value) s = .next u ∧ ∀ o, ¬ noisy o → u.reg o = (s.selectAll value.toNat).reg o := by
  show ∃ u, execClkSelWrite value s = .next u ∧ _
  unfold execClkSelWrite
  extract_lets one ring t1 t
  refine ⟨_, rfl, fun o ho => ?_⟩
  split
  · rfl
  · exact State.reg_twinRetrain ho _ _ _

/-! ### The Oxbow bypass (R552) -/

theorem State.bypassOpen_aonLost (s : State) : (State.driveOxbow s { s with rst := { s.rst with aonOk := false } }).bypassOpen = false := by
  rw [State.bypassOpen, State.driveOxbow_rst]
  rfl

/-- Settles O55, by the branches of each command; the homes that a resumed island lets go on move no clock. -/
theorem clocksSwitchAndStop : Obligations.ClocksSwitchAndStop := by
  unfold Obligations.ClocksSwitchAndStop
  refine ⟨?source, ?pll, ?unlock, ?stops, ?falls, ?reference, ?select, ?aon⟩
  case source =>
    intro n s hn
    extract_lets t
    show execSourceStable false n s = _
    unfold execSourceStable
    rw [if_neg (by simp), if_neg (by omega)]
  case pll =>
    intro n s hn hsrc
    have hexec : exec (.sourceStable true n) s =
        .next (if (s.setPll n.toNat true).islandStopped n.toNat then (s.setPll n.toNat true).resumeIsland n.toNat else s.setPll n.toNat true) := by
      show execSourceStable true n s = _
      unfold execSourceStable
      extract_lets i t
      rw [if_pos rfl, if_neg (by simp [i, hsrc]; omega)]
    refine ⟨_, hexec, ?_⟩
    split
    · have h := State.clk_resumeIsland (s.setPll n.toNat true) n.toNat
      rw [State.pllStable_congr h, State.islandStopped_congr h, State.pllStable_setStopped]
      exact ⟨State.pllStable_setPll _ _ _, State.islandStopped_setStopped _ _ _⟩
    · next hrun => exact ⟨State.pllStable_setPll _ _ _, by simpa using hrun⟩
  case unlock =>
    intro n s hn hsrc
    show execRefclkFail true n s = _
    unfold execRefclkFail
    rw [if_pos rfl, if_neg (by simp [hsrc]; omega)]
  case stops =>
    intro i s hrun hno
    have h := State.clk_stopIsland (s.setPll i false) i
    rw [State.failIsland_stops hrun hno, State.islandStopped_congr h, State.pllStable_congr h, State.pllStable_setStopped]
    exact ⟨State.islandStopped_setStopped _ _ _, State.pllStable_setPll _ _ _⟩
  case falls =>
    intro s hrun hauto hring hsel
    rw [State.failIsland_falls hrun hauto hring hsel]
    have hflag : (((s.putFlag R.CLK_SEL F.CLK_SEL_WELL_SRC true).setPll wellIsland false).setErr R.CLK_ERR F.CLK_ERR_AUTOFALL).flag R.CLK_SEL F.CLK_SEL_WELL_SRC
        = true := by
      rw [State.flag, State.get, State.reg_setErr_low (by decide) (by decide) _ _ (by decide)]
      exact State.flag_putFlag_same s R.CLK_SEL F.CLK_SEL_WELL_SRC true (by decide) rfl
    refine ⟨?_, ?_, State.flag_setErr_low (by decide) (by decide) _ (by decide) rfl⟩
    · rw [State.clkSourceOf, if_pos rfl, if_pos hflag]
    · rw [State.islandStopped_congr (State.clk_apart.setErr _ _ _ _)]
      rfl
  case reference =>
    intro n s hn
    extract_lets t twin fail
    have hexec : exec (.refclkFail false n) s = .next (fail (if n.toNat == 1 && t.flag R.CLK_CFG F.CLK_CFG_TWIN_AUTOFALL && t.srcReady 2 &&
        !t.flag R.CLK_SEL F.CLK_SEL_TWIN_SRC then
        ((t.putFlag R.CLK_SEL F.CLK_SEL_TWIN_SRC true).setErr R.CLK_ERR F.CLK_ERR_AUTOFALL).startRetrain 8 3 false else t)) := by
      show execRefclkFail false n s = _
      unfold execRefclkFail
      rw [if_neg (by simp), if_neg (by omega)]
    have hone : (n.toNat == 1) = decide (n = 1) := by
      rw [beq_eq_decide]
      exact decide_eq_decide.mpr ⟨fun h => BitVec.eq_of_toNat_eq h, fun h => h ▸ rfl⟩
    have htwin : (n.toNat == 1 && t.flag R.CLK_CFG F.CLK_CFG_TWIN_AUTOFALL && t.srcReady 2 && !t.flag R.CLK_SEL F.CLK_SEL_TWIN_SRC) = true ↔ twin := by
      simp [twin, hone, and_assoc]
    exact ⟨fun h => by rw [hexec, if_pos (htwin.mpr h)], fun h => by rw [hexec, if_neg (fun hb => h (htwin.mp hb))]⟩
  case select =>
    intro value s
    obtain ⟨u, hu, hreg⟩ := exec_clkSelWrite value s
    have hsel : ∀ f, u.flag R.CLK_SEL f = (s.selectAll value.toNat).flag R.CLK_SEL f := fun f => by
      rw [State.flag, State.get, hreg R.CLK_SEL (by unfold noisy; decide)]
      rfl
    have herr : u.flag R.CLK_ERR F.CLK_ERR_SWITCH_REFUSED = (s.selectAll value.toNat).flag R.CLK_ERR F.CLK_ERR_SWITCH_REFUSED := by
      rw [State.flag, State.get, hreg R.CLK_ERR (by unfold noisy; decide)]
      rfl
    have hbit : ∀ b, value.getLsbD b = bitOf value.toNat b := fun b => by rw [bitOf_eq_testBit, BitVec.testBit_toNat]
    refine ⟨u, hu, ?_, ?_⟩
    · intro b hb
      obtain rfl | rfl : b = 0 ∨ b = 1 := by omega
      · exact ⟨by rw [hbit]; exact (hsel _).trans (State.flag_selectAll_well _ _),
          fun hno => herr.trans (State.refused_selectAll _ _ (Or.inl (by rw [hbit] at hno; exact hno)))⟩
      · exact ⟨by rw [hbit]; exact (hsel _).trans (State.flag_selectAll_sec _ _),
          fun hno => herr.trans (State.refused_selectAll _ _ (Or.inr (Or.inl (by rw [hbit] at hno; exact hno))))⟩
    · rw [hbit]
      exact ⟨(hsel _).trans (State.flag_selectAll_twin _ _), fun hno => herr.trans (State.refused_selectAll _ _ (Or.inr (Or.inr hno)))⟩
  case aon =>
    intro s
    exact ⟨_, rfl, State.bypassOpen_aonLost s, State.driveOxbow_keeps State.regs (fun _ _ => (rfl)) _ _,
      State.driveOxbow_pool _ _, State.driveOxbow_keeps State.home (fun _ _ => (rfl)) _ _, State.driveOxbow_keeps State.kv (fun _ _ => (rfl)) _ _,
      State.driveOxbow_keeps State.jobs (fun _ _ => (rfl)) _ _⟩

end Sys2Proof.Machine
end

section
/-!
Tenant keys, the identity, measurements, reports and the debug port (R469 to R488).
-/
namespace Sys2Proof.Machine

theorem State.sec_spared : Spared (fun _ => True) State.sec where
  covers _ _ := trivial
  setReg _ _ _ _ := rfl
  send _ _ := rfl
  tick _ := rfl
  setCore _ _ _ := rfl
  setChan _ _ _ := rfl
  pool _ _ := rfl
  mgmt _ _ _ := rfl
  fab _ _ := rfl
  pair _ _ := rfl
  ras _ _ := rfl
  xlat _ _ := rfl

theorem State.jobs_spared : Spared (fun _ => True) State.jobs where
  covers _ _ := trivial
  setReg _ _ _ _ := rfl
  send _ _ := rfl
  tick _ := rfl
  setCore _ _ _ := rfl
  setChan _ _ _ := rfl
  pool _ _ := rfl
  mgmt _ _ _ := rfl
  fab _ _ := rfl
  pair _ _ := rfl
  ras _ _ := rfl
  xlat _ _ := rfl

/-- What a blob is checked against, once the mailbox area has been read (R469). -/
theorem exec_importKey {slot : BitVec 9} {partner : Option (BitVec 32)} {s : State} (hbusy : s.flag R.SEC_KCMD F.SEC_KCMD_BUSY = false)
    (hclk : s.islandStopped secIsland = false) (rd : State × Bool × List Byte)
    (hrd : (if inMailbox (s.get R.SEC_KARG F.SEC_KARG_BUF) 1664 then s.readMail (s.get R.SEC_KARG F.SEC_KARG_BUF) 1664 else (s, false, [])) = rd) :
    (∀ st, rd.1.importCheck slot.toNat partner.isSome rd.2.1 rd.2.2 = .error st → exec (.importKey slot partner) s =
      .next (((rd.1.bump R.SEC_CNT_IMPORT_FAIL).setErr R.SEC_ERR F.SEC_ERR_IMPORT_FAIL).keyStatus slot.toNat st)) ∧
    (∀ k, rd.1.importCheck slot.toNat partner.isSome rd.2.1 rd.2.2 = .ok k →
      let u := if rd.1.formed then rd.1.sendKey slot.toNat (partner.elim 0 (·.toNat)) k else rd.1
      exec (.importKey slot partner) s =
        .next ((((u.setSlot slot.toNat { full := true, gen := ((u.slot slot.toNat).gen + 1) % 2 ^ 32, key := k }).writeMail
          (s.get R.SEC_KARG F.SEC_KARG_BUF) (zeros 1664)).bump R.SEC_CNT_IMPORTS).keyStatus slot.toNat 0)) := by
  obtain ⟨r, ok, b⟩ := rd
  constructor
  · intro st h
    show execImport slot partner s = _
    unfold execImport
    extract_lets n buf inside
    rw [if_neg (by simp [hbusy, hclk]), hrd]
    simp only
    rw [show r.importCheck n partner.isSome ok b = .error st from h]
  · intro k h u
    show execImport slot partner s = _
    unfold execImport
    extract_lets n buf inside
    rw [if_neg (by simp [hbusy, hclk]), hrd]
    simp only
    rw [show r.importCheck n partner.isSome ok b = .ok k from h]

/-! ### The checks of a blob (R469) -/

section Check
variable {s : State} {n : Nat} {partner readable : Bool} {b : List Byte}

/-- A blob that can be read, for a tenant slot, in the form of R467, for that slot. -/
def Shaped (n : Nat) (readable : Bool) (b : List Byte) : Prop :=
  readable = true ∧ n < 256 ∧ leNat ((b.drop 0).take 4) = 0x59504B57 ∧ leNat ((b.drop 4).take 2) = n ∧ leNat ((b.drop 6).take 2) = 0 ∧
    leNat ((b.drop 20).take 4) = 0

/-- The checks of a blob after its form. -/
def State.checkShaped (s : State) (n : Nat) (partner : Bool) (b : List Byte) : Except Nat (List Byte) :=
  if (s.slot n).full then .error 4
  else if leNat ((b.drop 8).take 8) ≠ s.shadow.chip % 2 ^ 56 ∨ leNat ((b.drop 16).take 4) ≠ (s.slot n).gen then .error 3
  else match s.unwrapBlob b with
    | none => .error 2
    | some k => if k.take 32 = k.drop 32 then .error 2 else if s.formed && !partner then .error 7 else .ok k

theorem State.importCheck_latched (h : s.secFlag F.SEC_STATUS_DEBUG_LATCH = true) : s.importCheck n partner readable b = .error 6 := by
  unfold State.importCheck
  exact if_pos h

theorem State.importCheck_misshapen (hl : ¬ s.secFlag F.SEC_STATUS_DEBUG_LATCH = true) (h : ¬ Shaped n readable b) :
    s.importCheck n partner readable b = .error 1 := by
  unfold State.importCheck
  refine (if_neg hl).trans (if_pos ?_)
  by_contra hno
  simp only [not_or, Bool.not_eq_true, Bool.not_eq_false', not_le, not_not] at hno
  exact h hno

theorem State.importCheck_shaped (hl : ¬ s.secFlag F.SEC_STATUS_DEBUG_LATCH = true) (h : Shaped n readable b) :
    s.importCheck n partner readable b = s.checkShaped n partner b := by
  obtain ⟨hread, hn, hmagic, hslot, hrest, hzero⟩ := h
  unfold State.importCheck
  refine (if_neg hl).trans ((if_neg ?_).trans ?_)
  · rintro (h | h | h | h | h | h)
    · rw [hread] at h
      exact absurd h (by decide)
    · omega
    · exact h hmagic
    · exact h hslot
    · exact h hrest
    · exact h hzero
  · unfold State.checkShaped
    generalize s.unwrapBlob b = x
    cases x <;> rfl

end Check

/-! ### Erasing (R471) -/

section Slots
variable (s : State) (k : Nat) (x : KeySlot)

theorem State.slot_setSlot_same : (s.setSlot k x).slot k = x := Tbl.get_set_same _ _ _ _

theorem State.slot_setSlot_ne {j : Nat} (h : j ≠ k) : (s.setSlot k x).slot j = s.slot j := Tbl.get_set_ne _ _ _ _ _ h

theorem State.slot_congr {s t : State} (h : t.sec = s.sec) : t.slot = s.slot := by
  funext i
  rw [State.slot, h, ← State.slot]

theorem State.reg_setSlot (o : Nat) : (s.setSlot k x).reg o = s.reg o := (rfl)

end Slots

theorem Aside.changePartner {β : Type} {p : State → β} (hp : Aside p) (s : State) (what : String) (args : List Nat) : p (s.changePartner what args) = p s := by
  unfold State.changePartner
  split
  · exact (hp.sendTwin _ _ _ _ _).trans (hp.pair _ _)
  · rfl

theorem State.keyAfter_cases (s : State) (m : Nat) : s.keyAfter m = s ∨
    ∃ q, s.keyAfter m = ({ s with pair := q } : State).putFlag R.SEC_KCMD F.SEC_KCMD_BUSY true := by
  unfold State.keyAfter
  split
  · exact Or.inl rfl
  · exact Or.inr ⟨_, rfl⟩

/-- A part of the state that holds no pair and no key-command register is not touched by the wait for the partner. -/
theorem State.keyAfter_keeps {β : Type} {p : State → β} (hpair : ∀ (s : State) (q : Pair), p { s with pair := q } = p s)
    (hreg : ∀ s v, p (State.setReg s R.SEC_KCMD v) = p s) (s : State) (m : Nat) : p (s.keyAfter m) = p s := by
  rcases s.keyAfter_cases m with h | ⟨q, h⟩ <;> rw [h]
  exact (hreg _ _).trans (hpair _ _)

theorem State.kcmdStatus_keyAfter (s : State) (m : Nat) : (s.keyAfter m).get R.SEC_KCMD F.SEC_KCMD_STATUS = s.get R.SEC_KCMD F.SEC_KCMD_STATUS := by
  rcases s.keyAfter_cases m with h | ⟨q, h⟩ <;> rw [h]
  rw [State.putFlag, State.get_put_disjoint _ _ _ _ _ (by decide) (by decide)]
  rfl

theorem State.kcmdStatus_keyStatus (s : State) (n v : Nat) : (s.keyStatus n v).get R.SEC_KCMD F.SEC_KCMD_STATUS = v % 2 ^ F.SEC_KCMD_STATUS.w :=
  State.get_put_same _ _ _ _ (by decide)

/-- The slot empty with its next GEN, in the state that has the partner told (R471). -/
def State.slotErased (s : State) (n : Nat) : State :=
  (s.changePartner "KEY_ERASE" [n]).setSlot n { full := false, gen := ((s.slot n).gen + 1) % 2 ^ 32, key := [] }

/-- The erased slot's count, status and wait for the partner. -/
def State.eraseDone (s : State) (n m : Nat) : State := ((s.bump R.SEC_CNT_ERASES).keyStatus n 0).keyAfter m

theorem State.tenantOf_putFlag (s : State) (o : Nat) (f : Fld) (b : Bool) (n : Nat) : (s.putFlag o f b).tenantOf n = s.tenantOf n := (rfl)

section Erase
variable {slot : BitVec 9} {force : Bool} {s : State} (hbusy : s.flag R.SEC_KCMD F.SEC_KCMD_BUSY = false) (hclk : s.islandStopped secIsland = false)
include hbusy hclk

theorem exec_erase_system (hn : 256 ≤ slot.toNat) : exec (.erase slot force) s = .next ((s.putFlag R.SEC_KCMD F.SEC_KCMD_FORCE force).keyStatus slot.toNat 1) := by
  show execErase slot force s = _
  unfold execErase
  rw [if_neg (by simp [hbusy, hclk]), if_pos hn]

theorem exec_erase_inUse (hn : slot.toNat < 256) (ht : (s.tenantOf slot.toNat).isSome = true) (hf : force = false) :
    exec (.erase slot force) s = .next ((s.putFlag R.SEC_KCMD F.SEC_KCMD_FORCE force).keyStatus slot.toNat 5) := by
  show execErase slot force s = _
  unfold execErase
  rw [if_neg (by simp [hbusy, hclk]), if_neg (by omega), if_pos (by rw [State.tenantOf_putFlag, ht, hf]; rfl)]

theorem exec_erase_empties (hn : slot.toNat < 256) (h : (s.tenantOf slot.toNat).isSome = false ∨ force = true) :
    exec (.erase slot force) s = .next (((s.putFlag R.SEC_KCMD F.SEC_KCMD_FORCE force).slotErased slot.toNat).eraseDone slot.toNat s.pair.nextMirror) := by
  have hten := s.tenantOf_putFlag R.SEC_KCMD F.SEC_KCMD_FORCE force slot.toNat
  have hpair := s.putFlag_pair R.SEC_KCMD F.SEC_KCMD_FORCE force
  show execErase slot force s = _
  unfold execErase
  rw [← hpair]
  generalize s.putFlag R.SEC_KCMD F.SEC_KCMD_FORCE force = u at hten ⊢
  rw [if_neg (by simp [hbusy, hclk]), if_neg (by omega), if_neg (by rw [hten]; rcases h with h | h <;> simp [h])]
  rfl

end Erase

theorem State.eraseDone_keeps {β : Type} {p : State → β} (hpair : ∀ (s : State) (q : Pair), p { s with pair := q } = p s)
    (hreg : ∀ s o v, p (State.setReg s o v) = p s) (s : State) (n m : Nat) : p (s.eraseDone n m) = p s :=
  (State.keyAfter_keeps hpair (fun _ _ => hreg _ _ _) _ _).trans ((hreg _ _ _).trans ((hreg _ _ _).trans (hreg _ _ _)))

theorem State.sec_eraseDone (s : State) (n m : Nat) : (s.eraseDone n m).sec = s.sec := s.eraseDone_keeps (p := State.sec) (fun _ _ => rfl) (fun _ _ _ => rfl) n m

theorem State.pool_eraseDone (s : State) (n m : Nat) : (s.eraseDone n m).pool = s.pool :=
  s.eraseDone_keeps (p := State.pool) (fun _ _ => rfl) (fun _ _ _ => rfl) n m

theorem State.pool_slotErased (s : State) (n : Nat) : (s.slotErased n).pool = s.pool := State.pool_aside.changePartner s _ _

theorem State.slot_slotErased_same (s : State) (n : Nat) : (s.slotErased n).slot n = { full := false, gen := ((s.slot n).gen + 1) % 2 ^ 32, key := [] } :=
  State.slot_setSlot_same _ _ _

theorem State.slot_slotErased_ne (s : State) {n k : Nat} (h : k ≠ n) : (s.slotErased n).slot k = s.slot k :=
  (State.slot_setSlot_ne _ _ _ h).trans (congrFun (State.slot_congr (State.sec_spared.changePartner s _ _)) k)

/-! ### Queries and reports (R476, R481, R488) -/

theorem exec_query {slot : BitVec 9} {s : State} (hbusy : s.flag R.SEC_KCMD F.SEC_KCMD_BUSY = false) (hclk : s.islandStopped secIsland = false)
    (hn : slot.toNat < 256) : exec (.query slot) s = .next (((s.putFlag R.SEC_KSTAT F.SEC_KSTAT_STATE (s.slot slot.toNat).full).put R.SEC_KSTAT
      F.SEC_KSTAT_GEN (s.slot slot.toNat).gen).keyStatus slot.toNat 0) := by
  show execQuery slot s = _
  unfold execQuery
  rw [if_neg (by simp [hbusy, hclk]), if_neg (by omega)]

/-- The tenant of the report that SEC_ACMD names: none for node scope. -/
def State.reportScope (s : State) : Option Nat :=
  if s.flag R.SEC_ACMD F.SEC_ACMD_SCOPE then some (s.get R.SEC_ACMD F.SEC_ACMD_TENANT) else none

/-- The buffer of the report lies in the mailbox area. -/
def State.reportFits (s : State) : Bool :=
  inMailbox (s.get R.SEC_AARG F.SEC_AARG_BUF) (1824 + 80 * (s.imageEntries s.reportScope).length + 9893)

section Report
variable {s : State}

theorem State.runReport_latched (hl : s.secFlag F.SEC_STATUS_DEBUG_LATCH = true) :
    s.runReport = (s.putFlag R.SEC_ACMD F.SEC_ACMD_BUSY false).reportStatus 0 2 := if_pos hl

theorem State.runReport_spent (hl : ¬ s.secFlag F.SEC_STATUS_DEBUG_LATCH = true) (hs : s.secFlag F.SEC_STATUS_ID_EXHAUSTED = true) :
    s.runReport = (s.putFlag R.SEC_ACMD F.SEC_ACMD_BUSY false).reportStatus 0 3 := (if_neg hl).trans (if_pos hs)

section Sound
variable (hl : ¬ s.secFlag F.SEC_STATUS_DEBUG_LATCH = true) (hs : ¬ s.secFlag F.SEC_STATUS_ID_EXHAUSTED = true)
include hl hs

theorem State.runReport_bad (hb : s.secFlag F.SEC_STATUS_ID_STATE_BAD = true) :
    s.runReport = (s.putFlag R.SEC_ACMD F.SEC_ACMD_BUSY false).reportStatus 0 4 := (if_neg hl).trans ((if_neg hs).trans (if_pos hb))

variable (hb : ¬ s.secFlag F.SEC_STATUS_ID_STATE_BAD = true)
include hb

theorem State.runReport_outside (hf : ¬ s.reportFits = true) : s.runReport = (s.putFlag R.SEC_ACMD F.SEC_ACMD_BUSY false).reportStatus 0 1 := by
  have hno : (!s.reportFits) = true := by simpa using hf
  exact (if_neg hl).trans ((if_neg hs).trans ((if_neg hb).trans (if_pos hno)))

theorem State.runReport_waits (hf : s.reportFits = true) (hr : ¬ s.secFlag F.SEC_STATUS_ID_READY = true) :
    s.runReport = s.putFlag R.SEC_ACMD F.SEC_ACMD_BUSY true := by
  have hin : ¬ (!s.reportFits) = true := by simp [hf]
  have hno : (!s.secFlag F.SEC_STATUS_ID_READY) = true := by simpa using hr
  exact (if_neg hl).trans ((if_neg hs).trans ((if_neg hb).trans ((if_neg hin).trans (if_pos hno))))

theorem State.runReport_signs (hf : s.reportFits = true) (hr : s.secFlag F.SEC_STATUS_ID_READY = true) :
    let rd := (s.putFlag R.SEC_ACMD F.SEC_ACMD_BUSY false).readMail (s.get R.SEC_AARG F.SEC_AARG_BUF) 32
    let body := rd.1.reportBody s.reportScope rd.2.2
    let sg := rd.1.signNext body
    s.runReport = (sg.1.writeMail (s.get R.SEC_AARG F.SEC_AARG_BUF) (body ++ sg.2)).reportStatus (body ++ sg.2).length 0 := by
  have hin : ¬ (!s.reportFits) = true := by simp [hf]
  have hno : ¬ (!s.secFlag F.SEC_STATUS_ID_READY) = true := by simp [hr]
  refine (if_neg hl).trans ((if_neg hs).trans ((if_neg hb).trans ((if_neg hin).trans ((if_neg hno).trans ?_))))
  generalize (s.putFlag R.SEC_ACMD F.SEC_ACMD_BUSY false).readMail (s.get R.SEC_AARG F.SEC_AARG_BUF) 32 = rd
  obtain ⟨u, ok, nonce⟩ := rd
  simp only
  rfl

end Sound

end Report

/-- SEC_ACMD as REPORT leaves its arguments. -/
def State.reportAsked (s : State) (scope : Bool) (tenant : BitVec 8) : State :=
  (s.putFlag R.SEC_ACMD F.SEC_ACMD_SCOPE scope).put R.SEC_ACMD F.SEC_ACMD_TENANT tenant.toNat

section Asked
variable (s : State) (scope : Bool) (tenant : BitVec 8)

theorem exec_report {s : State} {scope : Bool} {tenant : BitVec 8} (hbusy : s.flag R.SEC_ACMD F.SEC_ACMD_BUSY = false)
    (hclk : s.islandStopped secIsland = false) : exec (.report scope tenant) s = .next (s.reportAsked scope tenant).runReport := by
  show execReport scope tenant s = _
  unfold execReport
  rw [if_neg (by simp [hbusy, hclk])]
  rfl

theorem State.reportScope_asked : (s.reportAsked scope tenant).reportScope = if scope then some tenant.toNat else none := by
  have hscope : (s.reportAsked scope tenant).flag R.SEC_ACMD F.SEC_ACMD_SCOPE = scope := by
    rw [State.flag, State.reportAsked, State.get_put_disjoint _ _ _ _ _ (by decide) (by decide), ← State.flag]
    exact State.flag_putFlag_same _ _ _ _ (by decide) rfl
  have htenant : (s.reportAsked scope tenant).get R.SEC_ACMD F.SEC_ACMD_TENANT = tenant.toNat :=
    (State.get_put_same _ _ _ _ (by decide)).trans (Nat.mod_eq_of_lt tenant.isLt)
  rw [State.reportScope, hscope, htenant]

theorem State.reg_reportAsked {o : Nat} (h : o ≠ R.SEC_ACMD) : (s.reportAsked scope tenant).reg o = s.reg o := by
  rw [State.reportAsked, State.reg_put_ne _ _ _ _ _ h, State.reg_putFlag_ne _ _ _ _ _ h]

theorem State.secFlag_reportAsked (f : Fld) : (s.reportAsked scope tenant).secFlag f = s.secFlag f := by
  rw [State.secFlag, State.flag, State.get, State.reg_reportAsked _ _ _ (by decide)]
  rfl

theorem State.buffer_reportAsked : (s.reportAsked scope tenant).get R.SEC_AARG F.SEC_AARG_BUF = s.get R.SEC_AARG F.SEC_AARG_BUF := by
  rw [State.get, State.reg_reportAsked _ _ _ (by decide)]
  rfl

theorem State.reportFits_asked : (s.reportAsked scope tenant).reportFits = inMailbox (s.get R.SEC_AARG F.SEC_AARG_BUF)
    (1824 + 80 * ((s.reportAsked scope tenant).imageEntries (if scope then some tenant.toNat else none)).length + 9893) := by
  rw [State.reportFits, State.reportScope_asked, State.buffer_reportAsked]

end Asked

/-! ### Signing (R477) -/

/-- The counter moved on, and the flash record raised before it is reached. -/
def State.indexSpent (s : State) : State :=
  { s with sec := { s.sec with next := s.sec.next + 1 },
           flash := { s.flash with idState := match s.flash.idState with
             | some (c, v) => some (c, if s.sec.next + 1 = v ∧ v < s.sec.limit then v + 1024 else v)
             | none => none } }

/-- The signature counted, and the counter's mirror stored. -/
def State.indexStored (s : State) : State :=
  (s.indexSpent.bump R.SEC_CNT_SIGNATURES).storeCopies (Config.counterWord % 2 ^ 22) (padTo 64 (leBytes (s.sec.next + 1) 8)) [0, 1, 2]

theorem State.signNext_fst (s : State) (msg : List Byte) : (s.signNext msg).1 =
    if s.sec.next + 1 = s.indexStored.sec.limit then s.indexStored.putFlag R.SEC_STATUS F.SEC_STATUS_ID_READY false else s.indexStored := (rfl)

theorem State.sec_indexStored (s : State) : s.indexStored.sec = s.indexSpent.sec := by
  unfold State.indexStored
  exact (State.sec_spared.storeCopies _ _ _ _).trans (State.sec_spared.bump _ _ trivial)

theorem State.sec_signNext (s : State) (msg : List Byte) : (s.signNext msg).1.sec = s.indexSpent.sec := by
  rw [State.signNext_fst]
  split
  · exact (State.sec_spared.putFlag _ _ _ trivial).trans s.sec_indexStored
  · exact s.sec_indexStored

theorem State.next_indexSpent (s : State) : s.indexSpent.sec.next = s.sec.next + 1 := (rfl)

/-! ### Measurements (R480) -/

theorem exec_extend (s : State) :
    exec .extend s = .next ((s.setMeas R.SEC_CONFIG_MEAS (padTo 32 (Config.shake256 (s.meas R.SEC_CONFIG_MEAS ++ s.meas R.SEC_MEXT_DATA) 32))).put R.SEC_MEXT_CMD
      F.SEC_MEXT_CMD_EXTENDS (s.get R.SEC_MEXT_CMD F.SEC_MEXT_CMD_EXTENDS + 1)) := by
  have hget : (s.setMeas R.SEC_CONFIG_MEAS (padTo 32 (Config.shake256 (s.meas R.SEC_CONFIG_MEAS ++ s.meas R.SEC_MEXT_DATA) 32))).get R.SEC_MEXT_CMD
      F.SEC_MEXT_CMD_EXTENDS = s.get R.SEC_MEXT_CMD F.SEC_MEXT_CMD_EXTENDS := by
    rw [State.get, State.reg_setMeas_ne _ _ _ _ (by decide)]
    rfl
  rw [← hget]
  rfl

/-! ### Fuses (R474, R476, R478) -/

theorem exec_commit_there {s : State} (burned hold : Bool) (h : s.get R.SEC_SVN F.SEC_SVN_RUN_SVN ≤ s.fuses.svn) : exec (.commit burned hold) s = .next s := by
  show execCommit burned hold s = _
  unfold execCommit
  exact if_pos h

theorem exec_commit_failed {s : State} (hold : Bool) (h : s.fuses.svn < s.get R.SEC_SVN F.SEC_SVN_RUN_SVN) :
    exec (.commit false hold) s = .next s.idBad := by
  show execCommit false hold s = _
  unfold execCommit
  exact (if_neg (by omega)).trans (if_pos rfl)

/-- The SVN fuses burned up to an SVN, the last pulse still driven or not. -/
def State.svnBurned (s : State) (v : Nat) (hold : Bool) : State :=
  { s with fuses := { s.fuses with svn := v }, shadow := { s.shadow with svn := v }, rst := { s.rst with burning := s.rst.burning || hold },
           sec := { s.sec with pulseSvn := hold } }

theorem exec_commit_burned {s : State} (hold : Bool) (h : s.fuses.svn < s.get R.SEC_SVN F.SEC_SVN_RUN_SVN) :
    exec (.commit true hold) s = .next ((s.svnBurned (s.get R.SEC_SVN F.SEC_SVN_RUN_SVN) hold).put R.SEC_STATUS F.SEC_STATUS_SVN_FUSED
      (s.get R.SEC_SVN F.SEC_SVN_RUN_SVN)) := by
  show execCommit true hold s = _
  unfold execCommit
  exact (if_neg (by omega)).trans (if_neg (by decide))

theorem State.fuses_svnBurned (s : State) (v : Nat) (hold : Bool) : (s.svnBurned v hold).fuses = { s.fuses with svn := v } := (rfl)

theorem State.flash_svnBurned (s : State) (v : Nat) (hold : Bool) : (s.svnBurned v hold).flash = s.flash := (rfl)

section AlarmFrames

theorem State.fuses_apart : Apart State.fuses where
  setReg _ _ _ := rfl
  send _ _ := rfl
  setCore _ _ _ := rfl
  pool _ _ := rfl
  mgmt _ _ := rfl
  setChan _ _ _ := rfl

theorem State.flash_apart : Apart State.flash where
  setReg _ _ _ := rfl
  send _ _ := rfl
  setCore _ _ _ := rfl
  pool _ _ := rfl
  mgmt _ _ := rfl
  setChan _ _ _ := rfl

end AlarmFrames

/-- An error of the security block leaves the block's other registers. -/
theorem State.reg_secErr (s : State) (f : Fld) {o : Nat} (ho : ¬ noisy o) (hne : o ≠ R.SEC_ERR) : (s.setErr R.SEC_ERR f).reg o = s.reg o :=
  (State.reg_spared ho).setErrAt s f 1 (fun t w => State.reg_setReg_ne t _ _ w hne)

theorem not_noisy_secStatus : ¬ noisy R.SEC_STATUS := by
  unfold noisy
  decide

theorem not_noisy_acmd : ¬ noisy R.SEC_ACMD := by
  unfold noisy
  decide

/-- A report waits for a chunk (R476). -/
def State.reportWaits (s : State) : Bool := s.flag R.SEC_ACMD F.SEC_ACMD_BUSY

theorem State.reportWaits_congr {s t : State} (h : t.reg R.SEC_ACMD = s.reg R.SEC_ACMD) : t.reportWaits = s.reportWaits := by
  rw [State.reportWaits, State.flag, State.get, h]
  rfl

theorem State.reportWaits_idBad (s : State) : s.idBad.reportWaits = s.reportWaits := by
  refine State.reportWaits_congr ?_
  rw [State.idBad, State.reg_secErr _ _ not_noisy_acmd (by decide), State.reg_putFlag_ne _ _ _ _ _ (by decide)]

/-- The routine that reserves a chunk may run (R476). -/
structure State.Reserves (s : State) : Prop where
  notReady : s.secFlag F.SEC_STATUS_ID_READY = false
  noLatch : s.secFlag F.SEC_STATUS_DEBUG_LATCH = false
  sound : s.secFlag F.SEC_STATUS_ID_STATE_BAD = false
  noPulse : s.rst.burning = false
  booted : s.rst.booted = true
  clocked : s.islandStopped secIsland = false
  noReport : s.reportWaits = false

/-- A report that waited is made. -/
def State.retryReport (s : State) : State := if s.reportWaits then s.runReport else s

/-- The flash record is ahead of the fuses. -/
def State.recordAhead (s : State) : Bool := s.flash.idState.elim false (fun r => s.fuses.chunks ≤ r.1)

/-- The next chunk's fuse burned. -/
def State.chunkFused (s : State) : State :=
  { s with fuses := { s.fuses with chunks := s.fuses.chunks + 1 }, shadow := { s.shadow with chunks := s.fuses.chunks + 1 } }

/-- The fuse shown, with the warning when few are left. -/
def State.chunkBurned (s : State) : State :=
  let t := s.chunkFused.put R.SEC_STATUS F.SEC_STATUS_CHUNKS (s.fuses.chunks + 1)
  if 2048 - (s.fuses.chunks + 1) < 64 then t.setErr R.SEC_ERR F.SEC_ERR_ID_LOW else t

theorem exec_reserveChunk {s : State} (h : s.Reserves) (reads1 hold : Bool) : exec (.reserveChunk reads1 hold) s =
    if s.recordAhead then .next s.idBad.retryReport
    else if 2048 ≤ s.fuses.chunks then
      .next ((s.putFlag R.SEC_STATUS F.SEC_STATUS_ID_EXHAUSTED true).setErr R.SEC_ERR F.SEC_ERR_ID_EXHAUSTED).retryReport
    else if !reads1 then .next s.idBad.retryReport
    else if hold then .next { s.chunkBurned with sec := { s.chunkBurned.sec with burning := some s.fuses.chunks }, rst := { s.chunkBurned.rst with burning := true } }
    else .next (s.chunkBurned.chunkReady s.fuses.chunks) := by
  show execReserveChunk reads1 hold s = _
  unfold execReserveChunk
  exact if_neg (by simp [h.notReady, h.noLatch, h.sound, h.noPulse, h.booted, h.clocked])

theorem State.retryReport_idle {s : State} (h : s.reportWaits = false) : s.retryReport = s := by
  rw [State.retryReport, h]
  rfl

section Burned
variable (s : State)

theorem State.chunkBurned_keeps {β : Type} {p : State → β} (hp : Apart p) : p s.chunkBurned = p s.chunkFused := by
  unfold State.chunkBurned
  extract_lets t
  have ht : p t = p s.chunkFused := hp.put _ _ _ _
  exact keeps_ite p ((hp.setErr _ _ _ _).trans ht) ht

theorem State.reportWaits_chunkBurned : s.chunkBurned.reportWaits = s.reportWaits := by
  unfold State.chunkBurned
  extract_lets t
  have ht : t.reg R.SEC_ACMD = s.reg R.SEC_ACMD := State.reg_put_ne s.chunkFused _ _ _ _ (by decide)
  exact State.reportWaits_congr (keeps_ite (fun s => s.reg R.SEC_ACMD) ((State.reg_secErr _ _ not_noisy_acmd (by decide)).trans ht) ht)

/-- The flash record written ahead, and the chunk's indices the next ones. -/
def State.chunkRecorded (s : State) (k : Nat) : State :=
  { s with sec := { s.sec with next := k * 2 ^ 20, limit := (k + 1) * 2 ^ 20, burning := none },
           flash := { s.flash with idState := some (k, k * 2 ^ 20 + 1024) } }

theorem State.chunkReady_idle {s : State} (k : Nat) (h : s.reportWaits = false) :
    s.chunkReady k = (s.chunkRecorded k).putFlag R.SEC_STATUS F.SEC_STATUS_ID_READY true := by
  have hwait : ((s.chunkRecorded k).putFlag R.SEC_STATUS F.SEC_STATUS_ID_READY true).reportWaits = false :=
    (State.reportWaits_congr (State.reg_putFlag_ne _ _ _ _ _ (by decide))).trans h
  exact State.retryReport_idle hwait

theorem State.chunks_chunkBurned : s.chunkBurned.fuses.chunks = s.fuses.chunks + 1 := by
  rw [s.chunkBurned_keeps State.fuses_apart]
  rfl

theorem State.flash_chunkFused : s.chunkFused.flash = s.flash := (rfl)

/-- A chunk's pulse still driven as the command ends. -/
def State.pulseHeld (s : State) (k : Nat) : State := { s with sec := { s.sec with burning := some k }, rst := { s.rst with burning := true } }

theorem State.fuses_pulseHeld (k : Nat) : (s.pulseHeld k).fuses = s.fuses := (rfl)
theorem State.rst_pulseHeld (k : Nat) : (s.pulseHeld k).rst = { s.rst with burning := true } := (rfl)
theorem State.sec_pulseHeld (k : Nat) : (s.pulseHeld k).sec = { s.sec with burning := some k } := (rfl)
theorem State.flash_pulseHeld (k : Nat) : (s.pulseHeld k).flash = s.flash := (rfl)

theorem State.fuses_chunkRecorded (k : Nat) : (s.chunkRecorded k).fuses = s.fuses := (rfl)
theorem State.next_chunkRecorded (k : Nat) : (s.chunkRecorded k).sec.next = k * 2 ^ 20 := (rfl)
theorem State.limit_chunkRecorded (k : Nat) : (s.chunkRecorded k).sec.limit = (k + 1) * 2 ^ 20 := (rfl)
theorem State.idState_chunkRecorded (k : Nat) : (s.chunkRecorded k).flash.idState = some (k, k * 2 ^ 20 + 1024) := (rfl)

end Burned

section Reserve
variable {s : State} (h : s.Reserves)
include h

theorem exec_reserveChunk_ahead {reads1 hold : Bool} (ha : s.recordAhead = true) : exec (.reserveChunk reads1 hold) s = .next s.idBad := by
  rw [exec_reserveChunk h, if_pos ha, State.retryReport_idle (by rw [State.reportWaits_idBad, h.noReport])]

variable (ha : ¬ s.recordAhead = true)
include ha

theorem exec_reserveChunk_spent {reads1 hold : Bool} (hk : 2048 ≤ s.fuses.chunks) : exec (.reserveChunk reads1 hold) s =
    .next ((s.putFlag R.SEC_STATUS F.SEC_STATUS_ID_EXHAUSTED true).setErr R.SEC_ERR F.SEC_ERR_ID_EXHAUSTED) := by
  have hidle : ((s.putFlag R.SEC_STATUS F.SEC_STATUS_ID_EXHAUSTED true).setErr R.SEC_ERR F.SEC_ERR_ID_EXHAUSTED).reportWaits = false := by
    rw [State.reportWaits_congr (s := s), h.noReport]
    rw [State.reg_secErr _ _ not_noisy_acmd (by decide), State.reg_putFlag_ne _ _ _ _ _ (by decide)]
  rw [exec_reserveChunk h, if_neg ha, if_pos hk, State.retryReport_idle hidle]

variable (hk : s.fuses.chunks < 2048)
include hk

theorem exec_reserveChunk_failed {hold : Bool} : exec (.reserveChunk false hold) s = .next s.idBad := by
  rw [exec_reserveChunk h, if_neg ha, if_neg (by omega), if_pos (by decide), State.retryReport_idle (by rw [State.reportWaits_idBad, h.noReport])]

theorem exec_reserveChunk_held : exec (.reserveChunk true true) s = .next (s.chunkBurned.pulseHeld s.fuses.chunks) := by
  rw [exec_reserveChunk h, if_neg ha, if_neg (by omega), if_neg (by decide), if_pos rfl]
  rfl

theorem exec_reserveChunk_ready : exec (.reserveChunk true false) s =
    .next ((s.chunkBurned.chunkRecorded s.fuses.chunks).putFlag R.SEC_STATUS F.SEC_STATUS_ID_READY true) := by
  rw [exec_reserveChunk h, if_neg ha, if_neg (by omega), if_neg (by decide), if_neg (by decide),
    State.chunkReady_idle _ (by rw [State.reportWaits_chunkBurned, h.noReport])]

end Reserve

/-! ### The debug port (R484 to R486) -/

theorem Spared.sendRing {loud : Nat → Prop} {β : Type} {p : State → β} (hp : Spared loud p) (s : State) (dest type : Nat) (payload : List Byte) :
    p (s.sendRing dest type payload) = p s := by
  unfold State.sendRing
  split
  · rfl
  · exact (hp.send _ _).trans (hp.send _ _)

theorem Spared.sendGoodbye {loud : Nat → Prop} {β : Type} {p : State → β} (hp : Spared loud p) (s : State) (reason cause info : Nat) :
    p (s.sendGoodbye reason cause info) = p s :=
  (hp.sendRing _ _ _ _).trans ((hp.sendRing _ _ _ _).trans ((hp.sendRing _ _ _ _).trans (hp.sendTwin _ _ _ _ _)))

theorem exec_dbgReq_refused {s : State} (h : ¬ (s.secFlag F.SEC_STATUS_DBG_FUSE = true ∧ s.flag R.SEC_CTRL F.SEC_CTRL_DBG_ALLOW = true)) :
    exec .dbgReq s = .next (s.setErr R.SEC_ERR F.SEC_ERR_DEBUG_REFUSED) := by
  show execDbgReq s = _
  unfold execDbgReq
  refine if_pos ?_
  rw [State.jtagAccepts, Bool.not_eq_true', ← Bool.not_eq_true, Bool.and_eq_true]
  exact h

/-- The latch of debug access, and its event. -/
def State.debugLatched (s : State) : State := (s.putFlag R.SEC_STATUS F.SEC_STATUS_DEBUG_LATCH true).setErr R.SEC_ERR F.SEC_ERR_DEBUG_REQ

/-- How far the opening of the chains has come. -/
def State.setOpening (s : State) (n : Nat) : State := { s with sec := { s.sec with opening := n } }

/-- The opening of the chains begins with the goodbye notice (R485). -/
def State.openingBegun (s : State) : State := (s.setOpening 1).sendGoodbye 3 0 0

/-- Inlets of a list closed. -/
def State.closeListed (s : State) (l : List Nat) : State := l.foldl (fun s i => s.setInlet i { s.inlet i with enable := false }) s

theorem exec_dbgReq_opens {s : State} (hfuse : s.secFlag F.SEC_STATUS_DBG_FUSE = true) (hallow : s.flag R.SEC_CTRL F.SEC_CTRL_DBG_ALLOW = true)
    (hfirst : s.sec.opening = 0) :
    exec .dbgReq s = .next (s.debugLatched.openingBegun.closeListed (s.debugLatched.openingBegun.jobs.inlets.map (·.1))) := by
  have hacc : ¬ (!s.jtagAccepts .dbgReq) = true := by simp [State.jtagAccepts, hfuse, hallow]
  have hone : ¬ (!(s.sec.opening == 0)) = true := by simp [hfirst]
  show execDbgReq s = _
  unfold execDbgReq
  exact (if_neg hacc).trans (if_neg hone)

theorem State.inlet_setInlet_ne (s : State) (j : Nat) (x : Inlet) {i : Nat} (h : i ≠ j) : (s.setInlet j x).inlet i = s.inlet i := Tbl.get_set_ne _ _ _ _ _ h

section Close
variable (s : State) (l : List Nat)

theorem State.closeListed_keeps {β : Type} {p : State → β} (hp : ∀ s i x, p (State.setInlet s i x) = p s) : p (s.closeListed l) = p s :=
  foldl_keeps p l s (fun _ _ _ => hp _ _ _)

/-- Closing a list of Inlets opens no other. -/
theorem State.enable_closeListed (i : Nat) (h : i ∉ l → (s.inlet i).enable = false) : ((s.closeListed l).inlet i).enable = false := by
  induction l generalizing s with
  | nil => exact h (List.not_mem_nil)
  | cons j l ih =>
    refine ih _ (fun hi => ?_)
    by_cases hij : i = j
    · rw [hij, State.inlet_setInlet_same]
    · rw [State.inlet_setInlet_ne _ _ _ hij]
      exact h (by simp [hij, hi])

theorem State.enable_closeAll (i : Nat) : ((s.closeListed (s.jobs.inlets.map (·.1))).inlet i).enable = false := by
  refine State.enable_closeListed _ _ _ (fun hi => ?_)
  rcases Tbl.get_eq_default_or_mem (fun _ => {}) s.jobs.inlets i with h | h
  · rw [State.inlet, h]
  · exact absurd (List.mem_map_of_mem h) hi

end Close

section Opening
variable (s : State)

theorem State.reg_setOpening (n o : Nat) : (s.setOpening n).reg o = s.reg o := (rfl)

theorem State.opening_setOpening (n : Nat) : (s.setOpening n).sec.opening = n := (rfl)

theorem State.reg_openingBegun {o : Nat} (ho : ¬ noisy o) : s.openingBegun.reg o = s.reg o := by
  unfold State.openingBegun
  exact (Spared.sendGoodbye (State.reg_spared ho) _ _ _ _).trans (State.reg_setOpening _ _ _)

theorem State.latch_openingBegun : s.debugLatched.openingBegun.secFlag F.SEC_STATUS_DEBUG_LATCH = true := by
  rw [State.secFlag, State.flag, State.get, State.reg_openingBegun _ not_noisy_secStatus, State.debugLatched,
    State.reg_secErr _ _ not_noisy_secStatus (by decide)]
  exact State.flag_putFlag_same s R.SEC_STATUS F.SEC_STATUS_DEBUG_LATCH true (by decide) rfl

theorem State.opening_openingBegun : s.openingBegun.sec.opening = 1 := by
  unfold State.openingBegun
  rw [State.sec_spared.sendGoodbye, State.opening_setOpening]

end Opening

/-! ### Zeroising (R485) -/

/-- Slots zeroised by number. -/
def zeroSlot (t : Tbl KeySlot) (k : Nat) : Tbl KeySlot := Tbl.set slotReset t k { Tbl.get slotReset t k with full := false, key := [] }

/-- All 264 slots zeroised. -/
def zeroSlots (t : Tbl KeySlot) : Tbl KeySlot := (List.range 264).foldl zeroSlot t

theorem zeroed_slots (t : Tbl KeySlot) {k : Nat} (hk : k < 264) :
    (Tbl.get slotReset (zeroSlots t) k).full = false ∧ (Tbl.get slotReset (zeroSlots t) k).key = [] := by
  unfold zeroSlots
  refine foldl_establishes (P := fun t => (Tbl.get slotReset t k).full = false ∧ (Tbl.get slotReset t k).key = []) (List.mem_range.mpr hk) t ?_ ?_
  · intro t
    rw [zeroSlot, Tbl.get_set_same]
    exact ⟨rfl, rfl⟩
  · intro t j _ ht
    rw [zeroSlot, Tbl.get_set]
    split
    · exact ⟨rfl, rfl⟩
    · exact ht

/-- What DEBUG_ZEROISE leaves. -/
def State.chainsOpen (s : State) : State :=
  (s.zeroise.setOpening 2).putFlag R.SEC_STATUS F.SEC_STATUS_DEBUG_OPEN true

theorem exec_debugZeroise {s : State} (h : s.sec.opening = 1) : exec .debugZeroise s = .next s.chainsOpen := by
  show execDebugZeroise s = _
  unfold execDebugZeroise
  exact if_neg (by simp [h])

section Open
variable (s : State)

theorem State.sec_chainsOpen : s.chainsOpen.sec = { s.zeroise.sec with opening := 2 } := (rfl)

theorem State.sec_zeroise : s.zeroise.sec = { s.sec with slots := zeroSlots s.sec.slots, kek := 0, seeds := false } := by
  unfold State.zeroise zeroSlots
  generalize List.range 264 = l
  rfl

theorem State.slot_chainsOpen (k : Nat) : s.chainsOpen.slot k = Tbl.get slotReset (zeroSlots s.sec.slots) k := by
  rw [State.slot, State.sec_chainsOpen, State.sec_zeroise]

theorem State.pair_zeroise : s.zeroise.pair = { s.pair with partnerKek := [] } := by
  unfold State.zeroise
  generalize List.range 264 = l
  rfl

theorem State.pool_zeroise : s.zeroise.pool = s.pool := by
  unfold State.zeroise
  generalize List.range 264 = l
  rfl

theorem State.kekValid_zeroise : s.zeroise.secFlag F.SEC_STATUS_KEK_VALID = false := by
  unfold State.zeroise
  generalize List.range 264 = l
  exact State.flag_putFlag_same _ _ _ _ (by decide) rfl

theorem State.secFlag_setOpening (n : Nat) (f : Fld) : (s.setOpening n).secFlag f = s.secFlag f := (rfl)

theorem State.kekValid_chainsOpen : s.chainsOpen.secFlag F.SEC_STATUS_KEK_VALID = false := by
  rw [State.chainsOpen, State.secFlag, State.flag_putFlag_disjoint _ _ _ _ _ (by decide) (by decide), ← State.secFlag, State.secFlag_setOpening,
    State.kekValid_zeroise]

theorem State.debugOpen_chainsOpen : s.chainsOpen.flag R.SEC_STATUS F.SEC_STATUS_DEBUG_OPEN = true :=
  State.flag_putFlag_same (s.zeroise.setOpening 2) _ _ _ (by decide) rfl

theorem State.pair_chainsOpen : s.chainsOpen.pair = s.zeroise.pair := (rfl)

theorem State.pool_chainsOpen : s.chainsOpen.pool = s.zeroise.pool := (rfl)

end Open

/-- Settles O56, by the checks and branches of each command. -/
theorem keysIdentityAndDebug : Obligations.KeysIdentityAndDebug := by
  unfold Obligations.KeysIdentityAndDebug
  refine ⟨?imports, ?checks, ?erases, ?queries, ?reports, ?signs, exec_extend, ?commits, ?reserves, ?asks, ?zeroises⟩
  case imports =>
    intro slot partner s hbusy hclk rd n
    exact exec_importKey hbusy hclk rd rfl
  case checks =>
    intro n partner readable b s field latched shaped fresh
    have hshaped : shaped ↔ Shaped n readable b := Iff.rfl
    refine ⟨State.importCheck_latched, fun hl h => State.importCheck_misshapen hl h, fun hl h hfull => ?_, fun hl h hfull hno => ?_,
      fun hl h hfull hyes hk => ?_, fun k hl h hfull hyes hk => ?_⟩
    · rw [State.importCheck_shaped hl h, State.checkShaped, if_pos hfull]
    · rw [State.importCheck_shaped hl h, State.checkShaped, if_neg (by simp [hfull]), if_pos (by by_contra hc; exact hno (by simpa [fresh, field] using hc))]
    · rw [State.importCheck_shaped hl h, State.checkShaped, if_neg (by simp [hfull]), if_neg (by simpa [fresh, field] using hyes), hk]
    · rw [State.importCheck_shaped hl h, State.checkShaped, if_neg (by simp [hfull]), if_neg (by simpa [fresh, field] using hyes), hk]
      simp only [Bool.and_eq_true, Bool.not_eq_true']
  case erases =>
    intro slot force s hbusy hclk n
    have hslot := State.slot_congr (State.sec_spared.putFlag s F.SEC_KCMD_FORCE force (o := R.SEC_KCMD) trivial)
    refine ⟨exec_erase_system hbusy hclk, exec_erase_inUse hbusy hclk, fun hn h => ⟨_, exec_erase_empties hbusy hclk hn h, ?_, fun k hk => ?_, ?_, ?_⟩⟩
    · rw [State.slot_congr (State.sec_eraseDone _ _ _), State.slot_slotErased_same, hslot]
    · rw [State.slot_congr (State.sec_eraseDone _ _ _), State.slot_slotErased_ne _ hk, hslot]
    · rw [State.pool_eraseDone, State.pool_slotErased, State.pool_putFlag]
    · rw [State.eraseDone, State.kcmdStatus_keyAfter, State.kcmdStatus_keyStatus]
      rfl
  case queries => exact fun slot s hbusy hclk hn => exec_query hbusy hclk hn
  case reports =>
    intro scope tenant s hbusy hclk t done of buf fits latched spent bad ready
    have hexec := exec_report (scope := scope) (tenant := tenant) hbusy hclk
    have hset : ∀ {f}, s.secFlag f = true → (s.reportAsked scope tenant).secFlag f = true := fun h => (s.secFlag_reportAsked _ _ _).trans h
    have hunset : ∀ {f}, ¬ s.secFlag f = true → ¬ (s.reportAsked scope tenant).secFlag f = true := fun h => by rwa [s.secFlag_reportAsked]
    have hfits : (s.reportAsked scope tenant).reportFits = true ↔ fits := by rw [State.reportFits_asked]; rfl
    refine ⟨fun hl => ?_, fun hl hs => ?_, fun hl hs hb => ?_, fun hl hs hb hf => ?_, fun hl hs hb hf hr => ?_, fun hl hs hb hf hr => ?_⟩
    · rw [hexec, State.runReport_latched (hset hl)]
      rfl
    · rw [hexec, State.runReport_spent (hunset hl) (hset hs)]
      rfl
    · rw [hexec, State.runReport_bad (hunset hl) (hunset hs) (hset hb)]
      rfl
    · rw [hexec, State.runReport_outside (hunset hl) (hunset hs) (hunset hb) (fun h => hf (hfits.mp h))]
      rfl
    · rw [hexec, State.runReport_waits (hunset hl) (hunset hs) (hunset hb) (hfits.mpr hf) (hunset hr)]
      rfl
    · rw [hexec, State.runReport_signs (hunset hl) (hunset hs) (hunset hb) (hfits.mpr hf) (hset hr), State.reportScope_asked, State.buffer_reportAsked]
      rfl
  case signs =>
    intro msg s
    exact ⟨(rfl), by rw [State.sec_signNext, State.next_indexSpent]⟩
  case commits =>
    intro burned hold s v
    refine ⟨exec_commit_there _ _, exec_commit_failed _, fun h => ⟨_, exec_commit_burned hold h, ?_, State.get_put_same _ _ _ _ (by decide), ?_⟩⟩
    · rw [State.fuses_apart.put, State.fuses_svnBurned]
    · rw [State.flash_apart.put, State.flash_svnBurned]
  case reserves =>
    intro reads1 hold s hready hlatch hbad hpulse hboot hclk hidle k behind
    have hres : s.Reserves := ⟨hready, hlatch, hbad, hpulse, hboot, hclk, hidle⟩
    have hb : s.recordAhead = true ↔ behind := Iff.rfl
    refine ⟨exec_reserveChunk_ahead hres, fun hn => exec_reserveChunk_spent hres (mt hb.mp hn), fun hn hk => exec_reserveChunk_failed hres (mt hb.mp hn) hk,
      fun hn hk => ⟨_, exec_reserveChunk_ready hres (mt hb.mp hn) hk, ?_, ?_, ?_, ?_, ?_⟩, fun hn hk => ⟨_, exec_reserveChunk_held hres (mt hb.mp hn) hk, ?_, ?_, ?_, ?_⟩⟩
    · rw [State.fuses_apart.putFlag, State.fuses_chunkRecorded, State.chunks_chunkBurned]
    · rw [State.sec_spared.putFlag _ _ _ trivial, State.next_chunkRecorded]
    · rw [State.sec_spared.putFlag _ _ _ trivial, State.limit_chunkRecorded]
    · rw [State.flash_apart.putFlag, State.idState_chunkRecorded]
    · exact State.flag_putFlag_same _ _ _ _ (by decide) rfl
    · rw [State.fuses_pulseHeld, State.chunks_chunkBurned]
    · rw [State.rst_pulseHeld]
    · rw [State.sec_pulseHeld]
    · rw [State.flash_pulseHeld, State.chunkBurned_keeps _ State.flash_apart, State.flash_chunkFused]
  case asks =>
    intro s
    refine ⟨exec_dbgReq_refused, fun hfuse hallow hfirst => ⟨_, exec_dbgReq_opens hfuse hallow hfirst, ?_, ?_, State.enable_closeAll _⟩⟩
    · rw [State.closeListed_keeps (p := fun s => s.secFlag F.SEC_STATUS_DEBUG_LATCH) _ _ (fun _ _ _ => (rfl))]
      exact State.latch_openingBegun _
    · rw [State.closeListed_keeps (p := State.sec) _ _ (fun _ _ _ => (rfl))]
      exact State.opening_openingBegun _
  case zeroises =>
    intro s h
    refine ⟨_, exec_debugZeroise h, fun k hk => ?_, ?_, ?_, ?_, s.kekValid_chainsOpen, s.debugOpen_chainsOpen, ?_, ?_⟩
    · rw [State.slotFull, State.slot_chainsOpen]
      exact zeroed_slots _ hk
    · rw [State.sec_chainsOpen, State.sec_zeroise]
    · rw [State.sec_chainsOpen, State.sec_zeroise]
    · rw [State.pair_chainsOpen, State.pair_zeroise]
    · rw [State.sec_chainsOpen]
    · rw [State.pool_chainsOpen, State.pool_zeroise]

end Sys2Proof.Machine
end

section
/-!
Reset sources and levels, and what a reset takes and keeps (R492 to R503, R520).
-/
namespace Sys2Proof.Machine

/-! ### RST_LEVELMAP (R520) -/

theorem foldl_entries (f : Nat → Nat × Nat → Nat) (a b c d e : Nat × Nat) (v : Nat) : [a, b, c, d, e].foldl f v = f (f (f (f (f v a) b) c) d) e := rfl

theorem fixedMap_eq (v : Nat) : fixedMap v =
    setBits (setBits (setBits (setBits (setBits (v % 2 ^ 24) (2 * 0) 2 0) (2 * 4) 2 1) (2 * 5) 2 2) (2 * 7) 2 1) (2 * 9) 2 1 := foldl_entries _ _ _ _ _ _ _

theorem fixedMap_lt (v : Nat) : fixedMap v < 2 ^ 24 := by
  rw [fixedMap_eq]
  exact setBits_lt _ _ _ _ _ (by decide) (setBits_lt _ _ _ _ _ (by decide) (setBits_lt _ _ _ _ _ (by decide)
    (setBits_lt _ _ _ _ _ (by decide) (setBits_lt _ _ _ _ _ (by decide) (Nat.mod_lt _ (by decide))))))

theorem toNat_fixedMap (v : Nat) : (BitVec.ofNat 64 (fixedMap v)).toNat = fixedMap v := by
  rw [BitVec.toNat_ofNat]
  exact Nat.mod_eq_of_lt (lt_trans (fixedMap_lt v) (by decide))

theorem bits_fixedMap_four (v : Nat) : bitsOf (fixedMap v) (2 * 4) 2 = 1 := by
  rw [fixedMap_eq, bitsOf_setBits_below _ _ _ _ _ _ (by decide), bitsOf_setBits_below _ _ _ _ _ _ (by decide), bitsOf_setBits_below _ _ _ _ _ _ (by decide),
    bitsOf_setBits_same]
  rfl

theorem bits_fixedMap_five (v : Nat) : bitsOf (fixedMap v) (2 * 5) 2 = 2 := by
  rw [fixedMap_eq, bitsOf_setBits_below _ _ _ _ _ _ (by decide), bitsOf_setBits_below _ _ _ _ _ _ (by decide), bitsOf_setBits_same]
  rfl

theorem bits_fixedMap_seven (v : Nat) : bitsOf (fixedMap v) (2 * 7) 2 = 1 := by
  rw [fixedMap_eq, bitsOf_setBits_below _ _ _ _ _ _ (by decide), bitsOf_setBits_same]
  rfl

theorem bits_fixedMap_nine (v : Nat) : bitsOf (fixedMap v) (2 * 9) 2 = 1 := by
  rw [fixedMap_eq, bitsOf_setBits_same]
  rfl

/-- The level that a map entry names. -/
theorem State.levelFor_of_bits {s : State} {src n : Nat} (h0 : src ≠ 0) (hn : n = 1 ∨ n = 2) (h : bitsOf (s.reg R.RST_LEVELMAP).toNat (2 * src) 2 = n) :
    s.levelFor src = some n := by
  rw [State.levelFor, if_neg h0, h]
  rcases hn with rfl | rfl <;> rfl

/-! ### Recording a source (R496) -/

theorem State.reg_recordCause (s : State) (src : Nat) {o : Nat} (h : o ≠ R.RST_CAUSE) : (s.recordCause src).reg o = s.reg o := State.reg_put_ne _ _ _ _ _ h

theorem State.cause_recordCause (s : State) {src : Nat} (h : src < 12) :
    (s.recordCause src).get R.RST_CAUSE F.RST_CAUSE_CAUSE = (s.get R.RST_CAUSE F.RST_CAUSE_CAUSE ||| 2 ^ src) := by
  have hlt : s.get R.RST_CAUSE F.RST_CAUSE_CAUSE < 2 ^ 12 := bitsOf_lt _ _ _
  rw [State.recordCause, State.get_put_same _ _ _ _ (by decide)]
  exact Nat.mod_eq_of_lt (Nat.or_lt_two_pow hlt (Nat.pow_lt_pow_right (by decide) h))

theorem State.rst_recordCause (s : State) (src : Nat) : (s.recordCause src).rst = s.rst := (rfl)

/-- The most severe of a request that is held and a new one. -/
def worstOf (l src : Nat) : Option (Nat × Nat) → Nat × Nat
  | none => (l, src)
  | some h => if l < h.1 then (l, src) else h

/-- A request held until the pulse ends, and counted (R497). -/
def State.holdRequest (s : State) (l src : Nat) : State :=
  State.bumpSat { s with rst := { s.rst with heldReset := some (worstOf l src s.rst.heldReset) } } R.RST_DELAY F.RST_DELAY_DELAYED

section Raise
variable {s : State} {src l : Nat}

theorem State.raiseAt_none : s.raiseAt src none = s.recordCause src := rfl

theorem State.raiseAt_some : s.raiseAt src (some l) =
    if (s.recordCause src).rst.active.any (fun a => a.1 ≤ l) then s.recordCause src
    else if (s.recordCause src).rst.burning then (s.recordCause src).holdRequest l src
    else (s.recordCause src).takeReset l src := by
  unfold State.raiseAt State.holdRequest
  generalize s.recordCause src = t
  simp only
  generalize t.rst.heldReset = x
  cases x <;> rfl

theorem State.raiseAt_covered (h : (s.recordCause src).rst.active.any (fun a => a.1 ≤ l) = true) : s.raiseAt src (some l) = s.recordCause src := by
  rw [State.raiseAt_some, if_pos h]

theorem State.raiseAt_taken (h : (s.recordCause src).rst.active.any (fun a => a.1 ≤ l) = false) (hb : (s.recordCause src).rst.burning = false) :
    s.raiseAt src (some l) = (s.recordCause src).takeReset l src := by
  rw [State.raiseAt_some, if_neg (by simp [h]), if_neg (by simp [hb])]

theorem State.raiseAt_held (h : (s.recordCause src).rst.active.any (fun a => a.1 ≤ l) = false) (hb : (s.recordCause src).rst.burning = true) :
    s.raiseAt src (some l) = (s.recordCause src).holdRequest l src := by
  rw [State.raiseAt_some, if_neg (by simp [h]), if_pos hb]

theorem State.held_holdRequest : (s.holdRequest l src).rst.heldReset = some (worstOf l src s.rst.heldReset) := by
  rw [State.holdRequest, State.bumpSat_rst]

theorem State.pool_holdRequest : (s.holdRequest l src).pool = s.pool := by
  rw [State.holdRequest, State.bumpSat_pool]

theorem State.pool_recordCause : (s.recordCause src).pool = s.pool := (rfl)

end Raise

/-! ### Fields from the fuse shadow (R14, R502) -/

/-- The fields of GLOB_ID, RST_LEVELMAP and SEC_STATUS that the fuses give. -/
def State.fuseFields (s : State) (f : Fuses) : State :=
  ((((((s.put R.GLOB_ID F.GLOB_ID_STEPPING f.stepping).put R.GLOB_ID F.GLOB_ID_PCI_VENDOR f.vendor).setReg R.RST_LEVELMAP
    (BitVec.ofNat 64 (fixedMap f.levelMap))).putFlag R.SEC_STATUS F.SEC_STATUS_ID_EXHAUSTED (f.chunks == 2048)).putFlag R.SEC_STATUS F.SEC_STATUS_DBG_FUSE f.dbg).put
    R.SEC_STATUS F.SEC_STATUS_CHUNKS f.chunks).put R.SEC_STATUS F.SEC_STATUS_SVN_FUSED f.svn

/-- The words of the first signer's hash. -/
def State.fuseSigner (s : State) (f : Fuses) : State := (List.range 4).foldl (fun s w => s.setReg (R.SEC_SIGNER_HASH 0 w) (BitVec.ofNat 64 (f.signer0.getD w 0))) s

/-- One port's number and the chip's. -/
def State.fusePort (f : Fuses) (s : State) (n : Nat) : State := (s.put (R.MERE_PORTID n) F.MERE_PORTID_PORT n).put (R.MERE_PORTID n) F.MERE_PORTID_CHIP f.chip

theorem State.loadShadow_eq (s : State) : s.loadShadow = (List.range 9).foldl (State.fusePort s.shadow) ((s.fuseFields s.shadow).fuseSigner s.shadow) := rfl

section Shadow
variable (s : State) (f : Fuses)

theorem State.reg_fuseSigner {o : Nat} (h : ∀ w, o ≠ R.SEC_SIGNER_HASH 0 w) : (s.fuseSigner f).reg o = s.reg o :=
  foldl_keeps (fun t => t.reg o) _ s (fun _ w _ => State.reg_setReg_ne _ _ _ _ (h w))

theorem State.reg_fusePorts {o : Nat} (h : ∀ n < 9, o ≠ R.MERE_PORTID n) : ((List.range 9).foldl (State.fusePort f) s).reg o = s.reg o :=
  foldl_keeps (fun t => t.reg o) _ s (fun t n hn => by
    have hne := h n (List.mem_range.mp hn)
    rw [State.fusePort, State.reg_put_ne _ _ _ _ _ hne, State.reg_put_ne _ _ _ _ _ hne])

theorem State.reg_fuseFields {o : Nat} (h : o ≠ R.GLOB_ID ∧ o ≠ R.RST_LEVELMAP ∧ o ≠ R.SEC_STATUS) : (s.fuseFields f).reg o = s.reg o := by
  obtain ⟨hid, hmap, hstat⟩ := h
  rw [State.fuseFields, State.reg_put_ne _ _ _ _ _ hstat, State.reg_put_ne _ _ _ _ _ hstat, State.reg_putFlag_ne _ _ _ _ _ hstat,
    State.reg_putFlag_ne _ _ _ _ _ hstat, State.reg_setReg_ne _ _ _ _ hmap, State.reg_put_ne _ _ _ _ _ hid, State.reg_put_ne _ _ _ _ _ hid]

theorem not_signer {o : Nat} (h : o < 0x1D01000) (w : Nat) : o ≠ R.SEC_SIGNER_HASH 0 w := by
  simp only [R.SEC_SIGNER_HASH, R.SEC_BASE]
  omega

theorem not_portId {o : Nat} (h : o < 0x200000 ∨ 0x290000 ≤ o) : ∀ n < 9, o ≠ R.MERE_PORTID n := fun n hn => by
  simp only [R.MERE_PORTID, R.MERE_BASE]
  omega

theorem State.reg_loadShadow {o : Nat} (h : o ≠ R.GLOB_ID ∧ o ≠ R.RST_LEVELMAP ∧ o ≠ R.SEC_STATUS) (hs : o < 0x1D01000)
    (hp : o < 0x200000 ∨ 0x290000 ≤ o) : s.loadShadow.reg o = s.reg o := by
  rw [State.loadShadow_eq, State.reg_fusePorts _ _ (not_portId hp), State.reg_fuseSigner _ _ (not_signer hs), State.reg_fuseFields _ _ h]

theorem State.levelMap_loadShadow : s.loadShadow.reg R.RST_LEVELMAP = BitVec.ofNat 64 (fixedMap s.shadow.levelMap) := by
  rw [State.loadShadow_eq, State.reg_fusePorts _ _ (not_portId (by decide)), State.reg_fuseSigner _ _ (not_signer (by decide)), State.fuseFields,
    State.reg_put_ne _ _ _ _ _ (by decide), State.reg_put_ne _ _ _ _ _ (by decide), State.reg_putFlag_ne _ _ _ _ _ (by decide),
    State.reg_putFlag_ne _ _ _ _ _ (by decide), State.reg_setReg_same]

/-- A flag of SEC_STATUS outside the fields that the fuses give. -/
theorem State.secFlag_loadShadow {g : Fld} (h : g = F.SEC_STATUS_DEBUG_LATCH ∨ g = F.SEC_STATUS_DEBUG_OPEN) :
    s.loadShadow.flag R.SEC_STATUS g = s.flag R.SEC_STATUS g := by
  have hreg : s.loadShadow.reg R.SEC_STATUS = (s.fuseFields s.shadow).reg R.SEC_STATUS := by
    rw [State.loadShadow_eq, State.reg_fusePorts _ _ (not_portId (by decide)), State.reg_fuseSigner _ _ (not_signer (by decide))]
  have hget : (s.fuseFields s.shadow).get R.SEC_STATUS g = s.get R.SEC_STATUS g := by
    rcases h with rfl | rfl
    all_goals
      rw [State.fuseFields, State.get_put_disjoint _ _ _ _ _ (by decide) (by decide), State.get_put_disjoint _ _ _ _ _ (by decide) (by decide),
        State.putFlag, State.get_put_disjoint _ _ _ _ _ (by decide) (by decide), State.putFlag, State.get_put_disjoint _ _ _ _ _ (by decide) (by decide),
        State.get_setReg_ne _ _ _ _ _ (by decide), State.get_put_ne _ _ _ _ _ _ (by decide), State.get_put_ne _ _ _ _ _ _ (by decide)]
  rw [State.flag, State.get, hreg, ← State.get, hget, ← State.flag]

theorem State.loadShadow_keeps {β : Type} {p : State → β} (hreg : ∀ s o v, p (State.setReg s o v) = p s) : p s.loadShadow = p s := by
  have hports : ∀ t, p ((List.range 9).foldl (State.fusePort s.shadow) t) = p t := fun t =>
    foldl_keeps p _ t (fun _ _ _ => (hreg _ _ _).trans (hreg _ _ _))
  have hsigner : ∀ t, p (State.fuseSigner t s.shadow) = p t := fun t => foldl_keeps p _ t (fun _ _ _ => hreg _ _ _)
  have hput : ∀ t o f v, p (State.put t o f v) = p t := fun _ _ _ _ => hreg _ _ _
  have hflag : ∀ t o f b, p (State.putFlag t o f b) = p t := fun _ _ _ _ => hreg _ _ _
  rw [State.loadShadow_eq, hports, hsigner, State.fuseFields, hput, hput, hflag, hflag, hreg, hput, hput]

theorem State.fuseLands_keeps {β : Type} {p : State → β} (hland : ∀ s i v, p (State.setLand s i v) = p s) (l : List Nat) : p (s.fuseLands l) = p s :=
  foldl_keeps p l s (fun _ _ _ => hland _ _ _)

end Shadow

/-! ### Chip resets (R492, R496) -/

/-- What a chip reset keeps of the state, the rest at its reset value. -/
def State.chipKept (s : State) : State :=
  let latched : Bool := s.flag R.SEC_STATUS F.SEC_STATUS_DEBUG_LATCH
  { State.reset with
    pending := s.pending, out := s.out, fresh := s.fresh, fuses := s.fuses, shadow := s.shadow, flash := s.flash,
    regs := Tbl.clear s.regs (fun o => !keepsL1 o), ras := { repairs := s.ras.repairs },
    sec := { slots := if latched then emptySystemSlots else [], opening := s.sec.opening, seeds := !latched || s.sec.seeds },
    rst := { s.rst with l2 := 0, burning := false, heldReset := none, units := [], wdog := false, booted := false, recovery := false, pcie := false },
    clk := { s.clk with pllStable := [] }, pwr := s.pwr }

/-- The registers that a chip reset sets beside those of the fuses. -/
def State.chipFields (s : State) (t : State) : State :=
  (((t.put R.CLK_SRCSTAT F.CLK_SRCSTAT_READY (s.get R.CLK_SRCSTAT F.CLK_SRCSTAT_READY &&& 0x11)).putFlag R.SEC_STATUS F.SEC_STATUS_DEBUG_LATCH
    (s.flag R.SEC_STATUS F.SEC_STATUS_DEBUG_LATCH)).putFlag R.SEC_STATUS F.SEC_STATUS_DEBUG_OPEN
    (s.flag R.SEC_STATUS F.SEC_STATUS_DEBUG_OPEN)).putFlag R.PAIR_STATUS F.PAIR_STATUS_FENCE_OUT s.rst.fenceLand

theorem State.chipReset_eq (s : State) : s.chipReset = (s.chipFields s.chipKept).loadShadow.fuseLands secLands := rfl

section Chip
variable (s : State)

/-- A part of the state that holds no register and no land is as the chip reset keeps it. -/
theorem State.chipReset_keeps {β : Type} {p : State → β} (hreg : ∀ s o v, p (State.setReg s o v) = p s) (hland : ∀ s i v, p (State.setLand s i v) = p s) :
    p s.chipReset = p s.chipKept := by
  have hput : ∀ t o f v, p (State.put t o f v) = p t := fun _ _ _ _ => hreg _ _ _
  have hflag : ∀ t o f b, p (State.putFlag t o f b) = p t := fun _ _ _ _ => hreg _ _ _
  rw [State.chipReset_eq, State.fuseLands_keeps _ hland, State.loadShadow_keeps _ hreg, State.chipFields, hflag, hflag, hflag, hput]

theorem State.reg_setLand (i v o : Nat) : (s.setLand i v).reg o = s.reg o := (rfl)

theorem State.reg_chipKept (o : Nat) : s.chipKept.reg o = if keepsL1 o then s.reg o else regReset o := by
  have h := State.reg_clearRegs s (fun o => !keepsL1 o) o
  have hsame : s.chipKept.reg o = (s.clearRegs (fun o => !keepsL1 o)).reg o := (rfl)
  rw [hsame, h]
  cases keepsL1 o <;> rfl

/-- A register outside those that the chip reset sets. -/
theorem State.reg_chipReset {o : Nat} (h : o ≠ R.GLOB_ID ∧ o ≠ R.RST_LEVELMAP ∧ o ≠ R.SEC_STATUS) (hs : o < 0x1D01000)
    (hp : o < 0x200000 ∨ 0x290000 ≤ o) (hc : o ≠ R.CLK_SRCSTAT) (hpair : o ≠ R.PAIR_STATUS) :
    s.chipReset.reg o = if keepsL1 o then s.reg o else regReset o := by
  obtain ⟨-, -, hstat⟩ := id h
  rw [State.chipReset_eq, State.fuseLands_keeps (p := fun t => t.reg o) _ (fun _ _ _ => State.reg_setLand _ _ _ _), State.reg_loadShadow _ h hs hp,
    State.chipFields, State.reg_putFlag_ne _ _ _ _ _ hpair, State.reg_putFlag_ne _ _ _ _ _ hstat, State.reg_putFlag_ne _ _ _ _ _ hstat,
    State.reg_put_ne _ _ _ _ _ hc, State.reg_chipKept]

theorem State.flag_setLand (i v o : Nat) (f : Fld) : (s.setLand i v).flag o f = s.flag o f := (rfl)

theorem State.latch_chipReset : s.chipReset.flag R.SEC_STATUS F.SEC_STATUS_DEBUG_LATCH = s.flag R.SEC_STATUS F.SEC_STATUS_DEBUG_LATCH := by
  rw [State.chipReset_eq, State.fuseLands_keeps (p := fun t => t.flag R.SEC_STATUS F.SEC_STATUS_DEBUG_LATCH) _ (fun _ _ _ => State.flag_setLand _ _ _ _ _),
    State.secFlag_loadShadow _ (Or.inl rfl), State.chipFields, State.flag_putFlag_ne _ _ _ _ (by decide),
    State.flag_putFlag_disjoint _ _ _ _ _ (by decide) (by decide), State.flag_putFlag_same _ _ _ _ (by decide) rfl]

theorem State.open_chipReset : s.chipReset.flag R.SEC_STATUS F.SEC_STATUS_DEBUG_OPEN = s.flag R.SEC_STATUS F.SEC_STATUS_DEBUG_OPEN := by
  rw [State.chipReset_eq, State.fuseLands_keeps (p := fun t => t.flag R.SEC_STATUS F.SEC_STATUS_DEBUG_OPEN) _ (fun _ _ _ => State.flag_setLand _ _ _ _ _),
    State.secFlag_loadShadow _ (Or.inr rfl), State.chipFields, State.flag_putFlag_ne _ _ _ _ (by decide), State.flag_putFlag_same _ _ _ _ (by decide) rfl]

theorem State.phase_chipReset : s.chipReset.phase = 0 := by
  have hreg : s.chipReset.reg R.GLOB_STATUS = regReset R.GLOB_STATUS :=
    s.reg_chipReset (by decide) (by decide) (by decide) (by decide) (by decide)
  rw [State.phase, State.get, hreg]
  decide

end Chip

/-! ### The power-cap loop after a reset (R453) -/

/-- SINGLE stands while a feed is absent, once the first window is over. -/
def State.loopFeeds (s : State) : State :=
  if (s.flag R.PWR_FEED_STATUS F.PWR_FEED_STATUS_A_OK && s.flag R.PWR_FEED_STATUS F.PWR_FEED_STATUS_B_OK) || s.pwr.feedWindow then s
  else s.putFlag R.PWR_FEED_STATUS F.PWR_FEED_STATUS_SINGLE true

/-- The loop's record as it starts. -/
def State.loopStarts (s : State) : State :=
  let one : Bool := s.flag R.PWR_FEED_STATUS F.PWR_FEED_STATUS_SINGLE
  { s with pwr := { s.pwr with steps := if one then List.replicate 8 true else [], relax := 0, background := !one } }

theorem State.restartLoop_eq (s : State) : s.restartLoop =
    if s.loopFeeds.flag R.PWR_FEED_STATUS F.PWR_FEED_STATUS_SINGLE then
      (s.loopFeeds.loopStarts.put R.PWR_STATUS F.PWR_STATUS_ISSUE_F 8).putFlag R.PWR_STATUS F.PWR_STATUS_CAP_ACTIVE true
    else s.loopFeeds.loopStarts := rfl

section Loop
variable (s : State)

theorem State.reg_loopStarts (o : Nat) : s.loopStarts.reg o = s.reg o := (rfl)

theorem State.reg_loopFeeds {o : Nat} (h : o ≠ R.PWR_FEED_STATUS) : s.loopFeeds.reg o = s.reg o :=
  keeps_ite (fun t => t.reg o) rfl (State.reg_putFlag_ne _ _ _ _ _ h)

theorem State.reg_restartLoop {o : Nat} (hf : o ≠ R.PWR_FEED_STATUS) (hp : o ≠ R.PWR_STATUS) : s.restartLoop.reg o = s.reg o := by
  have hstart : s.loopFeeds.loopStarts.reg o = s.reg o := (State.reg_loopStarts _ _).trans (s.reg_loopFeeds hf)
  rw [State.restartLoop_eq]
  refine keeps_ite (fun t => t.reg o) ?_ hstart
  rw [State.reg_putFlag_ne _ _ _ _ _ hp, State.reg_put_ne _ _ _ _ _ hp, hstart]

theorem State.restartLoop_keeps {β : Type} {p : State → β} (hreg : ∀ s o v, p (State.setReg s o v) = p s)
    (hpwr : ∀ (s : State) (x : Pwr), p { s with pwr := x } = p s) : p s.restartLoop = p s := by
  have hfeeds : p s.loopFeeds = p s := keeps_ite p rfl (hreg _ _ _)
  have hstart : p s.loopFeeds.loopStarts = p s := (hpwr _ _).trans hfeeds
  rw [State.restartLoop_eq]
  exact keeps_ite p ((hreg _ _ _).trans ((hreg _ _ _).trans hstart)) hstart

end Loop

/-! ### Power-on resets (R492, R496) -/

/-- The state that a power-on reset begins from: no fuse shadow, no latch of debug access, no fence. -/
def State.powerBegun (s : State) : State :=
  let t : State := { s with shadow := {}, rst := { s.rst with fenceLand := false } }
  (t.putFlag R.SEC_STATUS F.SEC_STATUS_DEBUG_LATCH false).putFlag R.SEC_STATUS F.SEC_STATUS_DEBUG_OPEN false

/-- A power-on reset clears what a chip reset keeps. -/
def State.powerCleared (s t : State) : State :=
  State.clearRegs { t with sec := { t.sec with opening := if s.sec.opening = 1 then 1 else 0, seeds := true },
                           rst := { t.rst with fused := false, lands := [], fenceLand := false, tripLand := false, thermHold := false },
                           pwr := { feedWindow := s.powerBegun.pwr.feedWindow } }
    (fun o => o == R.PWR_FEED_STATUS || o == R.RST_LEVELMAP || (List.range 9).any (fun n => o == R.MERE_PORTID n))

theorem State.powerReset_eq (s : State) : s.powerReset =
    (((s.powerCleared s.powerBegun.chipReset).put R.PWR_FEED_STATUS F.PWR_FEED_STATUS_A_OK (s.get R.PWR_FEED_STATUS F.PWR_FEED_STATUS_A_OK)).put
      R.PWR_FEED_STATUS F.PWR_FEED_STATUS_B_OK (s.get R.PWR_FEED_STATUS F.PWR_FEED_STATUS_B_OK)).restartLoop := rfl

section Power
variable (s : State)

theorem State.reg_powerBegun {o : Nat} (h : o ≠ R.SEC_STATUS) : s.powerBegun.reg o = s.reg o :=
  (State.reg_putFlag_ne _ _ _ _ _ h).trans (State.reg_putFlag_ne _ _ _ _ _ h)

theorem State.reg_powerCleared (t : State) (o : Nat) : (s.powerCleared t).reg o =
    if o == R.PWR_FEED_STATUS || o == R.RST_LEVELMAP || (List.range 9).any (fun n => o == R.MERE_PORTID n) then regReset o else t.reg o :=
  State.reg_clearRegs _ _ _

theorem State.cause_powerReset : s.powerReset.reg R.RST_CAUSE = s.reg R.RST_CAUSE := by
  have hchip : s.powerBegun.chipReset.reg R.RST_CAUSE = s.powerBegun.reg R.RST_CAUSE :=
    (State.reg_chipReset _ (by decide) (by decide) (by decide) (by decide) (by decide)).trans (if_pos rfl)
  rw [State.powerReset_eq, State.reg_restartLoop _ (by decide) (by decide), State.reg_put_ne _ _ _ _ _ (by decide), State.reg_put_ne _ _ _ _ _ (by decide),
    State.reg_powerCleared, if_neg (by decide), hchip, State.reg_powerBegun _ (by decide)]

/-- A part of the state that a power-on reset treats as a chip reset does. -/
theorem State.powerReset_keeps {β : Type} {p : State → β} (hreg : ∀ s o v, p (State.setReg s o v) = p s)
    (hpwr : ∀ (s : State) (x : Pwr), p { s with pwr := x } = p s) (hclear : ∀ s t, p (State.powerCleared s t) = p t) :
    p s.powerReset = p s.powerBegun.chipReset := by
  rw [State.powerReset_eq, State.restartLoop_keeps _ hreg hpwr]
  exact (hreg _ _ _).trans ((hreg _ _ _).trans (hclear _ _))

end Power

/-! ### Data-plane resets (R116, R192) -/

section Data
variable {β : Type} {p : State → β} (hstat : ∀ s n v, p (State.setReg s (R.TARN_STATUS n) v) = p s) (htarn : ∀ s i x, p (State.setTarn s i x) = p s)
include hstat htarn

theorem State.tarnDrops_keeps (s : State) (id : Nat) (e : Nat × Tarn) :
    p (if e.2.run.elim false (fun r => r.job == id) then (s.setTarn e.1 (e.2.without (· == id))).restState e.1 else s.setTarn e.1 (e.2.without (· == id))) = p s := by
  have h := htarn s e.1 (e.2.without (· == id))
  generalize s.setTarn e.1 (e.2.without (· == id)) = t at h ⊢
  refine keeps_ite p (Eq.trans ?_ h) h
  unfold State.restState
  exact keeps_ite p (hstat _ _ _) rfl

variable (hjobs : ∀ (s : State) (j : Jobs), p { s with jobs := j } = p s)
include hjobs

theorem State.dropWork_keeps (s : State) (id : Nat) : p (s.dropWork id) = p s := by
  unfold State.dropWork
  extract_lets t
  have ht : p t = p s := foldl_keeps p _ s (fun u e _ => State.tarnDrops_keeps hstat htarn u id e)
  exact (hjobs _ _).trans ht

theorem State.haltJobs_keeps (s : State) (q : Job → Bool) : p (s.haltJobs q) = p s := by
  unfold State.haltJobs
  extract_lets hit l t
  exact (hjobs _ _).trans (foldl_keeps p _ s (fun _ _ _ => State.dropWork_keeps hstat htarn hjobs _ _))

end Data

/-- One Tarn as a data-plane reset begins. -/
def State.tarnStops (s : State) (t : Nat) : State :=
  let n := (s.tarn t).queue.foldl (fun n h => n + h.slices.length) 0
  let s := if n = 0 then s else s.bump (R.TARN_CNT_FAILED t) n
  s.putFlag (R.TARN_CTRL t) F.TARN_CTRL_ENABLE false

theorem State.beginL2_eq (s : State) : s.beginL2 = ((List.range 100).foldl State.tarnStops s).haltJobs (fun _ => true) := rfl

theorem State.tarnStops_keeps {β : Type} {p : State → β} {n : Nat} (hfail : ∀ s v, p (State.setReg s (R.TARN_CNT_FAILED n) v) = p s)
    (hctrl : ∀ s v, p (State.setReg s (R.TARN_CTRL n) v) = p s) (s : State) : p (s.tarnStops n) = p s := by
  unfold State.tarnStops
  extract_lets k t
  exact (hctrl _ _).trans (keeps_ite p rfl (hfail _ _))

theorem State.beginL2_keeps {β : Type} {p : State → β} (hreg : ∀ s n k v, p (State.setReg s (R.TARN_BASE n + k) v) = p s)
    (htarn : ∀ s i x, p (State.setTarn s i x) = p s) (hjobs : ∀ (s : State) (j : Jobs), p { s with jobs := j } = p s) (s : State) : p s.beginL2 = p s := by
  rw [State.beginL2_eq, State.haltJobs_keeps (fun s n v => hreg s n _ v) htarn hjobs]
  exact foldl_keeps p _ s (fun t n _ => State.tarnStops_keeps (fun s v => hreg s n _ v) (fun s v => hreg s n _ v) t)

theorem State.enable_tarnStops (s : State) (n : Nat) : (s.tarnStops n).flag (R.TARN_CTRL n) F.TARN_CTRL_ENABLE = false :=
  State.flag_putFlag_same _ _ _ _ (by decide) rfl

/-- A data-plane reset clears the ENABLE of every Tarn. -/
theorem State.enable_beginL2 (s : State) {n : Nat} (hn : n < 100) : s.beginL2.flag (R.TARN_CTRL n) F.TARN_CTRL_ENABLE = false := by
  have hapart : ∀ m k, k ≠ 8 → k < 0x4000 → R.TARN_CTRL n ≠ R.TARN_BASE m + k := fun m k hk hlt => by
    simp only [R.TARN_CTRL, R.TARN_BASE]
    omega
  have hkeep : ∀ (s : State) o v, R.TARN_CTRL n ≠ o → (s.setReg o v).flag (R.TARN_CTRL n) F.TARN_CTRL_ENABLE = s.flag (R.TARN_CTRL n) F.TARN_CTRL_ENABLE :=
    fun s o v h => by rw [State.flag, State.get_setReg_ne _ _ _ _ _ h, ← State.flag]
  rw [State.beginL2_eq, State.haltJobs_keeps (p := fun t => t.flag (R.TARN_CTRL n) F.TARN_CTRL_ENABLE)
    (fun s m v => hkeep s _ v (hapart m 0x10 (by decide) (by decide))) (fun _ _ _ => (rfl)) (fun _ _ => (rfl))]
  refine foldl_establishes (P := fun t => t.flag (R.TARN_CTRL n) F.TARN_CTRL_ENABLE = false) (List.mem_range.mpr hn) s (fun t => t.enable_tarnStops n)
    (fun t m _ ht => ?_)
  by_cases hm : m = n
  · rw [hm]
    exact t.enable_tarnStops n
  · refine (State.tarnStops_keeps (p := fun t => t.flag (R.TARN_CTRL n) F.TARN_CTRL_ENABLE) (fun s v => hkeep s _ v (hapart m 0x150 (by decide) (by decide)))
      (fun s v => hkeep s _ v ?_) t).trans ht
    simp only [R.TARN_CTRL, R.TARN_BASE]
    omega

/-! ### Taking a reset (R492, R495, R520) -/

/-- What a level does, before RST_LAST shows it. -/
def State.levelTaken (s : State) (l : Nat) : State := if l = 0 then s.powerReset else if l = 1 then s.chipReset.restartLoop else if l = 2 then s.beginL2 else s

/-- RST_LAST as a reset leaves it. -/
def State.lastShown (s : State) (l src : Nat) : State :=
  let t := (s.put R.RST_LAST F.RST_LAST_LEVEL l).put R.RST_LAST F.RST_LAST_SOURCE src
  if l = 1 then t.bumpSat R.RST_LAST F.RST_LAST_L1_COUNT else if l = 2 then t.bumpSat R.RST_LAST F.RST_LAST_L2_COUNT else t

/-- The reset in progress. -/
def State.inReset (s : State) (l src : Nat) : State := { s with rst := { s.rst with active := some (l, src), l2 := if l = 2 then 1 else 0 } }

theorem State.takeReset_eq (s : State) (l src : Nat) : s.takeReset l src = State.driveOxbow s (((s.levelTaken l).lastShown l src).inReset l src) := rfl

section Take
variable (s : State) (l src : Nat)

theorem State.rst_inReset : (s.inReset l src).rst = { s.rst with active := some (l, src), l2 := if l = 2 then 1 else 0 } := rfl

theorem State.reg_inReset (o : Nat) : (s.inReset l src).reg o = s.reg o := (rfl)

theorem State.rst_takeReset : (s.takeReset l src).rst = { (s.levelTaken l).rst with active := some (l, src), l2 := if l = 2 then 1 else 0 } := by
  have hlast : ((s.levelTaken l).lastShown l src).rst = (s.levelTaken l).rst :=
    keeps_ite State.rst (State.rst_apart.setReg _ _ _) (keeps_ite State.rst (State.rst_apart.setReg _ _ _) rfl)
  rw [State.takeReset_eq, State.driveOxbow_rst, State.rst_inReset, hlast]

/-- A part of the state that holds no register, no output and no reset record is as the level leaves it. -/
theorem State.takeReset_keeps {β : Type} {p : State → β} (hreg : ∀ s v, p (State.setReg s R.RST_LAST v) = p s) (hsend : ∀ s x, p (State.send s x) = p s)
    (hrst : ∀ (s : State) (r : Rst), p { s with rst := r } = p s) : p (s.takeReset l src) = p (s.levelTaken l) := by
  rw [State.takeReset_eq, State.driveOxbow_keeps p hsend]
  refine (hrst _ _).trans ?_
  have ht : p (((s.levelTaken l).put R.RST_LAST F.RST_LAST_LEVEL l).put R.RST_LAST F.RST_LAST_SOURCE src) = p (s.levelTaken l) :=
    (hreg _ _).trans (hreg _ _)
  exact keeps_ite p ((hreg _ _).trans ht) (keeps_ite p ((hreg _ _).trans ht) ht)

theorem State.get_takeReset {f : Fld} (hf : f = F.RST_LAST_LEVEL ∨ f = F.RST_LAST_SOURCE) :
    (s.takeReset l src).get R.RST_LAST f = (((s.levelTaken l).put R.RST_LAST F.RST_LAST_LEVEL l).put R.RST_LAST F.RST_LAST_SOURCE src).get R.RST_LAST f := by
  have hl1 : F.RST_LAST_L1_COUNT.Apart f := by rcases hf with rfl | rfl <;> decide
  have hl2 : F.RST_LAST_L2_COUNT.Apart f := by rcases hf with rfl | rfl <;> decide
  rw [State.takeReset_eq, State.get, State.driveOxbow_reg, State.reg_inReset, ← State.get]
  refine keeps_ite (fun t => t.get R.RST_LAST f) ?_ (keeps_ite (fun t => t.get R.RST_LAST f) ?_ rfl)
  · exact State.get_put_disjoint _ _ _ _ _ (by decide) hl1
  · exact State.get_put_disjoint _ _ _ _ _ (by decide) hl2

theorem State.lastLevel_takeReset (hl : l ≤ 2) : (s.takeReset l src).get R.RST_LAST F.RST_LAST_LEVEL = l := by
  rw [State.get_takeReset _ _ _ (Or.inl rfl), State.get_put_disjoint _ _ _ _ _ (by decide) (by decide), State.get_put_same _ _ _ _ (by decide)]
  exact Nat.mod_eq_of_lt (by show l < 4; omega)

theorem State.lastSource_takeReset (hs : src < 12) : (s.takeReset l src).get R.RST_LAST F.RST_LAST_SOURCE = src := by
  rw [State.get_takeReset _ _ _ (Or.inr rfl), State.get_put_same _ _ _ _ (by decide)]
  exact Nat.mod_eq_of_lt (by show src < 16; omega)

end Take

/-! ### What each level keeps -/

/-- What each level leaves alone when a chip reset and a power-on reset do. -/
theorem State.levelTaken_keeps {β : Type} {p : State → β} (hreg : ∀ s o v, p (State.setReg s o v) = p s) (hland : ∀ s i v, p (State.setLand s i v) = p s)
    (hpwr : ∀ (s : State) (x : Pwr), p { s with pwr := x } = p s) (hclear : ∀ s t, p (State.powerCleared s t) = p t)
    (htarn : ∀ s i x, p (State.setTarn s i x) = p s) (hjobs : ∀ (s : State) (j : Jobs), p { s with jobs := j } = p s)
    (hkept : ∀ s, p (State.chipKept s) = p s) (hbegun : ∀ s, p (State.powerBegun s) = p s) (s : State) (l : Nat) : p (s.levelTaken l) = p s := by
  have hchip : ∀ t, p (State.chipReset t) = p t := fun t => (State.chipReset_keeps t hreg hland).trans (hkept t)
  unfold State.levelTaken
  refine keeps_ite p ?_ (keeps_ite p ?_ (keeps_ite p ?_ rfl))
  · rw [State.powerReset_keeps s hreg hpwr hclear, hchip, hbegun]
  · rw [State.restartLoop_keeps _ hreg hpwr, hchip]
  · exact State.beginL2_keeps (fun s _ _ v => hreg s _ v) htarn hjobs s

section Levels
variable (s : State) (l : Nat)

theorem State.fuses_levelTaken : (s.levelTaken l).fuses = s.fuses :=
  State.levelTaken_keeps (p := State.fuses) (fun _ _ _ => rfl) (fun _ _ _ => rfl) (fun _ _ => rfl) (fun _ _ => rfl) (fun _ _ _ => rfl) (fun _ _ => rfl)
    (fun _ => rfl) (fun _ => rfl) s l

theorem State.flash_levelTaken : (s.levelTaken l).flash = s.flash :=
  State.levelTaken_keeps (p := State.flash) (fun _ _ _ => rfl) (fun _ _ _ => rfl) (fun _ _ => rfl) (fun _ _ => rfl) (fun _ _ _ => rfl) (fun _ _ => rfl)
    (fun _ => rfl) (fun _ => rfl) s l

theorem State.pending_levelTaken : (s.levelTaken l).pending = s.pending :=
  State.levelTaken_keeps (p := State.pending) (fun _ _ _ => rfl) (fun _ _ _ => rfl) (fun _ _ => rfl) (fun _ _ => rfl) (fun _ _ _ => rfl) (fun _ _ => rfl)
    (fun _ => rfl) (fun _ => rfl) s l

theorem State.cause_levelTaken : (s.levelTaken l).reg R.RST_CAUSE = s.reg R.RST_CAUSE := by
  unfold State.levelTaken
  refine keeps_ite (fun t => t.reg R.RST_CAUSE) s.cause_powerReset (keeps_ite (fun t => t.reg R.RST_CAUSE) ?_ (keeps_ite (fun t => t.reg R.RST_CAUSE) ?_ rfl))
  · rw [State.reg_restartLoop _ (by decide) (by decide), State.reg_chipReset _ (by decide) (by decide) (by decide) (by decide) (by decide)]
    rfl
  · refine State.beginL2_keeps (p := fun t => t.reg R.RST_CAUSE) (fun s n k v => State.reg_setReg_ne _ _ _ _ ?_) (fun _ _ _ => (rfl)) (fun _ _ => (rfl)) s
    simp only [R.RST_CAUSE, R.RST_BASE, R.TARN_BASE]
    omega

/-- A part of the reset record is after a chip or power-on reset as the chip reset keeps it. -/
theorem State.levelTaken_eq_of_chip {β : Type} {p : State → β} {x : β} (hreg : ∀ s o v, p (State.setReg s o v) = p s)
    (hland : ∀ s i v, p (State.setLand s i v) = p s) (hpwr : ∀ (s : State) (x : Pwr), p { s with pwr := x } = p s)
    (hclear : ∀ s t, p (State.powerCleared s t) = p t) (hkept : ∀ s, p (State.chipKept s) = x) (hl : l ≤ 1) : p (s.levelTaken l) = x := by
  have hchip : ∀ t, p (State.chipReset t) = x := fun t => (State.chipReset_keeps t hreg hland).trans (hkept t)
  obtain rfl | rfl : l = 0 ∨ l = 1 := by omega
  · rw [State.levelTaken, if_pos rfl, State.powerReset_keeps s hreg hpwr hclear, hchip]
  · rw [State.levelTaken, if_neg (by decide), if_pos rfl, State.restartLoop_keeps _ hreg hpwr, hchip]

theorem State.heldReset_levelTaken (hl : l ≤ 1) : (s.levelTaken l).rst.heldReset = none :=
  s.levelTaken_eq_of_chip l (p := fun s => s.rst.heldReset) (fun _ _ _ => rfl) (fun _ _ _ => rfl) (fun _ _ => rfl) (fun _ _ => rfl) (fun _ => rfl) hl

theorem State.burning_levelTaken (hl : l ≤ 1) : (s.levelTaken l).rst.burning = false :=
  s.levelTaken_eq_of_chip l (p := fun s => s.rst.burning) (fun _ _ _ => rfl) (fun _ _ _ => rfl) (fun _ _ => rfl) (fun _ _ => rfl) (fun _ => rfl) hl

theorem State.levelTaken_two : s.levelTaken 2 = s.beginL2 := rfl

theorem State.pool_beginL2 : s.beginL2.pool = s.pool := s.beginL2_keeps (p := State.pool) (fun _ _ _ _ => rfl) (fun _ _ _ => rfl) (fun _ _ => rfl)
theorem State.xlat_beginL2 : s.beginL2.xlat = s.xlat := s.beginL2_keeps (p := State.xlat) (fun _ _ _ _ => rfl) (fun _ _ _ => rfl) (fun _ _ => rfl)
theorem State.kv_beginL2 : s.beginL2.kv = s.kv := s.beginL2_keeps (p := State.kv) (fun _ _ _ _ => rfl) (fun _ _ _ => rfl) (fun _ _ => rfl)
theorem State.shadow_beginL2 : s.beginL2.shadow = s.shadow := s.beginL2_keeps (p := State.shadow) (fun _ _ _ _ => rfl) (fun _ _ _ => rfl) (fun _ _ => rfl)

end Levels

section Taken
variable (s : State) (l src : Nat)

theorem State.active_takeReset : (s.takeReset l src).rst.active = some (l, src) := by rw [State.rst_takeReset]

theorem State.l2_takeReset : (s.takeReset l src).rst.l2 = if l = 2 then 1 else 0 := by rw [State.rst_takeReset]

theorem State.fuses_takeReset : (s.takeReset l src).fuses = s.fuses :=
  (s.takeReset_keeps l src (p := State.fuses) (fun _ _ => rfl) (fun _ _ => rfl) (fun _ _ => rfl)).trans (s.fuses_levelTaken l)

theorem State.flash_takeReset : (s.takeReset l src).flash = s.flash :=
  (s.takeReset_keeps l src (p := State.flash) (fun _ _ => rfl) (fun _ _ => rfl) (fun _ _ => rfl)).trans (s.flash_levelTaken l)

theorem State.pending_takeReset : (s.takeReset l src).pending = s.pending :=
  (s.takeReset_keeps l src (p := State.pending) (fun _ _ => rfl) (fun _ _ => rfl) (fun _ _ => rfl)).trans (s.pending_levelTaken l)

theorem State.reg_takeReset {o : Nat} (h : o ≠ R.RST_LAST) : (s.takeReset l src).reg o = (s.levelTaken l).reg o :=
  s.takeReset_keeps l src (p := fun t => t.reg o) (fun _ _ => State.reg_setReg_ne _ _ _ _ h) (fun _ _ => (rfl)) (fun _ _ => (rfl))

theorem State.cause_takeReset : (s.takeReset l src).get R.RST_CAUSE F.RST_CAUSE_CAUSE = s.get R.RST_CAUSE F.RST_CAUSE_CAUSE := by
  rw [State.get, State.reg_takeReset _ _ _ (by decide), State.cause_levelTaken, ← State.get]

theorem State.keeps_dataReset {β : Type} {p : State → β} (hreg : ∀ s v, p (State.setReg s R.RST_LAST v) = p s) (hsend : ∀ s x, p (State.send s x) = p s)
    (hrst : ∀ (s : State) (r : Rst), p { s with rst := r } = p s) : p (s.takeReset 2 src) = p s.beginL2 := s.takeReset_keeps 2 src hreg hsend hrst

theorem State.enable_takeReset {n : Nat} (hn : n < 100) : (s.takeReset 2 src).flag (R.TARN_CTRL n) F.TARN_CTRL_ENABLE = false := by
  have hne : R.TARN_CTRL n ≠ R.RST_LAST := by
    simp only [R.TARN_CTRL, R.TARN_BASE, R.RST_LAST, R.RST_BASE]
    omega
  rw [State.flag, State.get, State.reg_takeReset _ _ _ hne, State.levelTaken_two, ← State.get, ← State.flag, State.enable_beginL2 _ hn]

end Taken

/-! ### The rows of the sources (R494, R503) -/

theorem State.reg_resetPcie (s : State) (o : Nat) :
    s.resetPcie.reg o = if R.GLOB_BASE + 0x8000 ≤ o ∧ o < R.GLOB_BASE + 0x9008 then State.reset.reg o else s.reg o := by
  have h := State.reg_clearRegs s (fun o => R.GLOB_BASE + 0x8000 ≤ o && o < R.GLOB_BASE + 0x8000 + 0x1008) o
  refine Eq.trans h ?_
  simp only [Bool.and_eq_true, decide_eq_true_eq]
  rfl

theorem State.get_kick {s : State} (h : s.rst.wdog = true) :
    s.kick.get R.RST_WDOG F.RST_WDOG_REMAIN_MS = s.get R.RST_WDOG F.RST_WDOG_TIMEOUT_MS % 2 ^ F.RST_WDOG_REMAIN_MS.w := by
  rw [State.kick, if_pos h, State.get_put_same _ _ _ _ (by decide)]

theorem State.reg_kick (s : State) {o : Nat} (h : o ≠ R.RST_WDOG) : s.kick.reg o = s.reg o :=
  keeps_ite (fun t => t.reg o) (State.reg_put_ne _ _ _ _ _ h) rfl

/-! ### The end of a held pulse (R497) -/

/-- The pulse over, and how long a held request waited. -/
def State.pulseOver (s : State) (us : Nat) : State :=
  let t : State := { s with rst := { s.rst with burning := false, heldReset := none }, sec := { s.sec with pulseSvn := false } }
  if s.rst.heldReset.isSome ∧ t.get R.RST_DELAY F.RST_DELAY_LONGEST_US < us then t.put R.RST_DELAY F.RST_DELAY_LONGEST_US us else t

theorem exec_resetHoldEnd_held {s : State} {us : BitVec 32} {l src : Nat} (hb : s.rst.burning = true) (hh : s.rst.heldReset = some (l, src)) :
    exec (.resetHoldEnd us) s = .next ((if l ≤ 1 then s.pulseOver us.toNat
      else (s.pulseOver us.toNat).sec.burning.elim (s.pulseOver us.toNat) (s.pulseOver us.toNat).chunkReady).takeReset l src) := by
  have hopen : exec (.resetHoldEnd us) s = match s.rst.heldReset with
      | some (l, src) => if l ≤ 1 then .next ((s.pulseOver us.toNat).takeReset l src)
        else .next (((s.pulseOver us.toNat).sec.burning.elim (s.pulseOver us.toNat) (s.pulseOver us.toNat).chunkReady).takeReset l src)
      | none => .next ((s.pulseOver us.toNat).sec.burning.elim (s.pulseOver us.toNat) (s.pulseOver us.toNat).chunkReady) := by
    show execResetHoldEnd us s = _
    unfold execResetHoldEnd
    refine (if_neg (by simp [hb])).trans ?_
    rfl
  rw [hopen, hh]
  simp only
  split <;> rfl

theorem exec_resetHoldEnd_free {s : State} {us : BitVec 32} (hb : s.rst.burning = true) (hh : s.rst.heldReset = none) (hc : s.sec.burning = none) :
    exec (.resetHoldEnd us) s = .next { s with rst := { s.rst with burning := false, heldReset := none }, sec := { s.sec with pulseSvn := false } } := by
  show execResetHoldEnd us s = _
  unfold execResetHoldEnd
  refine (if_neg (by simp [hb])).trans ?_
  rw [hh]
  simp only [Option.isSome_none, Bool.false_eq_true, false_and, if_false, hc, Option.elim_none]

theorem State.flash_pulseOver (s : State) (us : Nat) : (s.pulseOver us).flash = s.flash := keeps_ite State.flash (State.flash_apart.put _ _ _ _) rfl

/-! ### The fuse load (R502) -/

/-- The shadow loaded, with the fields and lands that it gives. -/
def State.fusesLoaded (s : State) : State :=
  let t : State := { s with shadow := s.fuses, rst := { s.rst with fused := true } }
  t.loadShadow.fuseLands (List.range 31)

/-- The feeds' first window over. -/
def State.windowOver (s : State) : State := { s with pwr := { s.pwr with feedWindow := false } }

/-- The power-cap loop decides once the feeds' first window is over. -/
def State.windowEnds (s : State) : State :=
  let both : Bool := s.flag R.PWR_FEED_STATUS F.PWR_FEED_STATUS_A_OK && s.flag R.PWR_FEED_STATUS F.PWR_FEED_STATUS_B_OK
  if s.pwr.feedWindow && !both then s.windowOver.restartLoop else s.windowOver

theorem exec_fuseLoadDone {s : State} (h : s.rst.fused = false) : exec .fuseLoadDone s = .next s.fusesLoaded.windowEnds := by
  show execFuseLoadDone s = _
  unfold execFuseLoadDone
  refine (if_neg (by simp [h])).trans ?_
  rfl

section Fuse
variable (s : State)

theorem State.windowEnds_keeps {β : Type} {p : State → β} (hreg : ∀ s o v, p (State.setReg s o v) = p s)
    (hpwr : ∀ (s : State) (x : Pwr), p { s with pwr := x } = p s) : p s.windowEnds = p s := by
  unfold State.windowEnds
  extract_lets both
  have ht : p s.windowOver = p s := hpwr _ _
  exact keeps_ite p ((State.restartLoop_keeps _ hreg hpwr).trans ht) ht

theorem State.fusesLoaded_keeps {β : Type} {p : State → β} (hreg : ∀ s o v, p (State.setReg s o v) = p s)
    (hland : ∀ s i v, p (State.setLand s i v) = p s) :
    p s.fusesLoaded = p { s with shadow := s.fuses, rst := { s.rst with fused := true } } :=
  (State.fuseLands_keeps _ hland _).trans (State.loadShadow_keeps _ hreg)

theorem State.levelMap_fusesLoaded : s.fusesLoaded.reg R.RST_LEVELMAP = BitVec.ofNat 64 (fixedMap s.fuses.levelMap) :=
  (State.fuseLands_keeps (p := fun t => t.reg R.RST_LEVELMAP) _ (fun _ _ _ => State.reg_setLand _ _ _ _) _).trans (State.levelMap_loadShadow _)

theorem State.reg_windowOver (o : Nat) : s.windowOver.reg o = s.reg o := (rfl)

theorem State.levelMap_windowEnds : s.windowEnds.reg R.RST_LEVELMAP = s.reg R.RST_LEVELMAP := by
  unfold State.windowEnds
  extract_lets both
  have ht : s.windowOver.reg R.RST_LEVELMAP = s.reg R.RST_LEVELMAP := s.reg_windowOver _
  exact keeps_ite (fun t => t.reg R.RST_LEVELMAP) ((State.reg_restartLoop _ (by decide) (by decide)).trans ht) ht

theorem State.shadow_setLand (i v : Nat) : (s.setLand i v).shadow = s.shadow := (rfl)

/-- Every land that is listed takes the state that the shadow gives it. -/
theorem State.land_fuseLands {l : List Nat} {k : Nat} (hk : k ∈ l) :
    Tbl.get (fun _ => 0) (s.fuseLands l).rst.lands k = Tbl.get walsynLand (s.fuseLands l).shadow.lands k := by
  refine foldl_establishes (P := fun t : State => Tbl.get (fun _ => 0) t.rst.lands k = Tbl.get walsynLand t.shadow.lands k) hk s (fun t => ?_) (fun t i _ ht => ?_)
  · rw [State.setLand_land, if_pos rfl, State.shadow_setLand]
  · rw [State.setLand_land, State.shadow_setLand]
    split
    · next h => rw [h]
    · exact ht

theorem State.shadow_fusesLoaded : s.fusesLoaded.shadow = s.fuses := s.fusesLoaded_keeps (p := State.shadow) (fun _ _ _ => rfl) (fun _ _ _ => rfl)

theorem State.land_fusesLoaded {k : Nat} (hk : k < 31) : Tbl.get (fun _ => 0) s.fusesLoaded.rst.lands k = Tbl.get walsynLand s.fuses.lands k := by
  have h := State.land_fuseLands (State.loadShadow { s with shadow := s.fuses, rst := { s.rst with fused := true } }) (List.mem_range.mpr hk)
  exact h.trans (by rw [← State.fusesLoaded, s.shadow_fusesLoaded])

theorem State.fused_fusesLoaded : s.fusesLoaded.rst.fused = true := s.fusesLoaded_keeps (p := fun t => t.rst.fused) (fun _ _ _ => rfl) (fun _ _ _ => rfl)

theorem State.pool_fusesLoaded : s.fusesLoaded.pool = s.pool := s.fusesLoaded_keeps (p := State.pool) (fun _ _ _ => rfl) (fun _ _ _ => rfl)

theorem State.rst_windowEnds : s.windowEnds.rst = s.rst := s.windowEnds_keeps (p := State.rst) (fun _ _ _ => rfl) (fun _ _ => rfl)
theorem State.shadow_windowEnds : s.windowEnds.shadow = s.shadow := s.windowEnds_keeps (p := State.shadow) (fun _ _ _ => rfl) (fun _ _ => rfl)
theorem State.pool_windowEnds : s.windowEnds.pool = s.pool := s.windowEnds_keeps (p := State.pool) (fun _ _ _ => rfl) (fun _ _ => rfl)

end Fuse

/-- Settles O57: each level's reset keeps what its stages keep; a data-plane reset goes through every Tarn and job. -/
theorem resetSourcesAndLevels : Obligations.ResetSourcesAndLevels := by
  unfold Obligations.ResetSourcesAndLevels
  refine ⟨?raises, ?records, ?levels, ?takes, ?chip, ?inputs, ?software, ?watchdog, ?heldEnd, ?freeEnd, ?deassert, ?fuses⟩
  case raises =>
    intro src level s t
    refine ⟨fun h => ?_, fun l h hcov => ?_, fun l h hcov hb => ?_, fun l h hcov hb => ?_⟩ <;> subst h
    · exact State.raiseAt_none
    · exact State.raiseAt_covered hcov
    · exact State.raiseAt_taken hcov hb
    · intro kept
      have hkept : worstOf l src t.rst.heldReset = kept := by
        unfold kept
        cases t.rst.heldReset <;> rfl
      rw [State.raiseAt_held hcov hb, State.held_holdRequest, State.pool_holdRequest]
      exact ⟨congrArg some hkept, State.pool_recordCause⟩
  case records => exact fun src s h => ⟨s.cause_recordCause h, fun o ho => s.reg_recordCause src ho⟩
  case levels =>
    intro s
    refine ⟨rfl, fun v hv => ?_⟩
    have hbits : ∀ src, bitsOf (s.reg R.RST_LEVELMAP).toNat (2 * src) 2 = bitsOf (fixedMap v) (2 * src) 2 := fun src => by rw [hv, toNat_fixedMap]
    exact ⟨State.levelFor_of_bits (by decide) (Or.inl rfl) ((hbits 4).trans (bits_fixedMap_four v)),
      State.levelFor_of_bits (by decide) (Or.inr rfl) ((hbits 5).trans (bits_fixedMap_five v)),
      State.levelFor_of_bits (by decide) (Or.inl rfl) ((hbits 7).trans (bits_fixedMap_seven v)),
      State.levelFor_of_bits (by decide) (Or.inl rfl) ((hbits 9).trans (bits_fixedMap_nine v))⟩
  case takes =>
    intro l src s hl hs t
    refine ⟨s.lastLevel_takeReset l src hl, s.lastSource_takeReset l src hs, s.active_takeReset l src, s.l2_takeReset l src, s.cause_takeReset l src,
      s.fuses_takeReset l src, s.flash_takeReset l src, s.pending_takeReset l src, fun h => ?_⟩
    subst h
    exact ⟨(s.keeps_dataReset src (p := State.pool) (fun _ _ => rfl) (fun _ _ => rfl) (fun _ _ => rfl)).trans s.pool_beginL2,
      (s.keeps_dataReset src (p := State.xlat) (fun _ _ => rfl) (fun _ _ => rfl) (fun _ _ => rfl)).trans s.xlat_beginL2,
      (s.keeps_dataReset src (p := State.kv) (fun _ _ => rfl) (fun _ _ => rfl) (fun _ _ => rfl)).trans s.kv_beginL2,
      (s.keeps_dataReset src (p := State.shadow) (fun _ _ => rfl) (fun _ _ => rfl) (fun _ _ => rfl)).trans s.shadow_beginL2,
      fun n hn => s.enable_takeReset src hn⟩
  case chip =>
    intro s t
    have hkept : ∀ o, keepsL1 o = true → _ → _ → _ → _ → _ → s.chipReset.reg o = s.reg o := fun o hk h hs hp hc hpair =>
      (s.reg_chipReset h hs hp hc hpair).trans (if_pos hk)
    exact ⟨s.chipReset_keeps (p := State.pool) (fun _ _ _ => rfl) (fun _ _ _ => rfl), s.chipReset_keeps (p := State.home) (fun _ _ _ => rfl) (fun _ _ _ => rfl),
      s.chipReset_keeps (p := State.jobs) (fun _ _ _ => rfl) (fun _ _ _ => rfl), s.chipReset_keeps (p := State.kv) (fun _ _ _ => rfl) (fun _ _ _ => rfl),
      s.chipReset_keeps (p := State.xlat) (fun _ _ _ => rfl) (fun _ _ _ => rfl), s.chipReset_keeps (p := State.mgmt) (fun _ _ _ => rfl) (fun _ _ _ => rfl),
      s.chipReset_keeps (p := State.shadow) (fun _ _ _ => rfl) (fun _ _ _ => rfl), s.chipReset_keeps (p := State.fuses) (fun _ _ _ => rfl) (fun _ _ _ => rfl),
      s.chipReset_keeps (p := State.flash) (fun _ _ _ => rfl) (fun _ _ _ => rfl),
      hkept _ rfl (by decide) (by decide) (by decide) (by decide) (by decide), hkept _ rfl (by decide) (by decide) (by decide) (by decide) (by decide),
      hkept _ rfl (by decide) (by decide) (by decide) (by decide) (by decide), s.latch_chipReset, s.open_chipReset, s.phase_chipReset,
      fun i => s.chipReset_keeps (p := fun t => t.core i) (fun _ _ _ => (rfl)) (fun _ _ _ => (rfl))⟩
  case inputs =>
    intro s r
    exact ⟨rfl, ⟨_, rfl, State.driveOxbow_pool _ _, State.driveOxbow_keeps State.regs (fun _ _ => (rfl)) _ _,
      State.driveOxbow_keeps State.fuses (fun _ _ => (rfl)) _ _, State.driveOxbow_keeps State.flash (fun _ _ => (rfl)) _ _,
      State.driveOxbow_keeps (fun t => t.rst.fused) (fun _ _ => (rfl)) _ _, State.driveOxbow_keeps State.pending (fun _ _ => (rfl)) _ _⟩, rfl, rfl, rfl, rfl, s.reg_resetPcie, rfl⟩
  case software =>
    intro confirm s
    exact ⟨fun h => ⟨if_pos h, if_pos h⟩, fun h => ⟨if_neg h, if_neg h⟩⟩
  case watchdog =>
    intro s
    refine ⟨fun hw he => if_pos (by rw [hw, he]; rfl), fun he => if_neg (by simp [he]), fun hw => ⟨_, rfl, State.get_kick hw, fun o ho => s.reg_kick ho⟩,
      fun source h => if_pos h, fun h => if_pos h, fun h => if_neg (by simp [State.jtagAccepts, State.secFlag, h])⟩
  case heldEnd =>
    intro us l src s hb hh hl hs
    refine ⟨_, exec_resetHoldEnd_held hb hh, State.active_takeReset _ _ _, State.lastSource_takeReset _ _ _ hs, fun h => ?_⟩
    rw [if_pos h]
    refine ⟨(State.flash_takeReset _ _ _).trans (s.flash_pulseOver _), ?_, ?_⟩
    · rw [State.rst_takeReset]
      exact State.heldReset_levelTaken _ _ h
    · rw [State.rst_takeReset]
      exact State.burning_levelTaken _ _ h
  case freeEnd => exact fun us s hb hh hc => exec_resetHoldEnd_free hb hh hc
  case deassert =>
    intro input s
    refine ⟨_, rfl, rfl, rfl, ?_⟩
    fin_cases input <;> simp
  case fuses =>
    intro s h
    refine ⟨_, exec_fuseLoadDone h, ?_, ?_, ?_, ?_, fun k hk => ?_⟩
    · rw [State.shadow_windowEnds, State.shadow_fusesLoaded]
    · rw [State.rst_windowEnds, State.fused_fusesLoaded]
    · rw [State.pool_windowEnds, State.pool_fusesLoaded]
    · rw [State.levelMap_windowEnds, State.levelMap_fusesLoaded]
    · rw [State.rst_windowEnds, State.land_fusesLoaded _ hk]

end Sys2Proof.Machine
end

section
/-!
The mailbox, event reports, snapshots, the rack management ring, fatal errors and the dump (R530 to R555).
-/
namespace Sys2Proof.Machine

/-! ### A function level reset (R530) -/

/-- The registers that a function level reset clears. -/
def flrClears (o : Nat) : Bool := (R.GLOB_BASE + 0x8000 ≤ o && o < R.GLOB_BASE + 0x8000 + 0x1008) || o == R.MGMT_CMD_PTR || o == R.MGMT_EVT_PTR

/-- The queues that a function level reset empties: unread records, and responses that wait. -/
def State.flrDrops (s : State) : State :=
  { s with mgmt := { s.mgmt with unread := [] }, pair := { s.pair with held := s.pair.held.filter (fun h => h.mail.isNone) } }

/-- The state after a function level reset. -/
def State.flrDone (s : State) : State :=
  ((s.clearRegs flrClears).flrDrops.putFlag R.MGMT_CTRL F.MGMT_CTRL_MBX_EN false).putFlag R.MGMT_STATUS F.MGMT_STATUS_MBX_BUSY false

theorem exec_flr (s : State) : exec .flr s = .next s.flrDone := rfl

theorem State.reg_flrDrops (s : State) (o : Nat) : s.flrDrops.reg o = s.reg o := (rfl)

/-- The mailbox pointers after a function level reset. -/
theorem State.reg_flrDone (s : State) {o : Nat} (hc : flrClears o = true) (h1 : o ≠ R.MGMT_CTRL) (h2 : o ≠ R.MGMT_STATUS) :
    s.flrDone.reg o = regReset o := by
  rw [State.flrDone, State.reg_putFlag_ne _ _ _ _ _ h2, State.reg_putFlag_ne _ _ _ _ _ h1, State.reg_flrDrops, State.reg_clearRegs, if_pos hc]

/-! ### The mailbox (R533 to R537) -/

/-- The command at HEAD taken, in the state that has read it. -/
def State.mailTaken (s : State) (head : Nat) : State :=
  (s.put R.MGMT_CMD_PTR F.MGMT_CMD_PTR_HEAD (head + 1)).putFlag R.MGMT_STATUS F.MGMT_STATUS_MBX_BUSY true

/-- A command that its row takes, outside a fatal error and recovery, is answered as the row runs it. -/
theorem State.mailRow_runs {s : State} {op : Nat} {run : List Byte → State → Option (State × Nat × Nat)} {t u : State}
    {e : List Byte} {status result : Nat} (hruns : s.mailRuns = true) (hne : s.get R.MGMT_CMD_PTR F.MGMT_CMD_PTR_HEAD ≠ s.get R.MGMT_CMD_PTR F.MGMT_CMD_PTR_TAIL)
    (hread : s.readMail (64 * (s.get R.MGMT_CMD_PTR F.MGMT_CMD_PTR_HEAD % 256)) 64 = (t, true, e)) (hfatal : s.isFatal = false)
    (hrec : s.rst.recovery = false) (hop : (e.getD 0 0).toNat = op)
    (hrun : run e (t.mailTaken (s.get R.MGMT_CMD_PTR F.MGMT_CMD_PTR_HEAD)) = some (u, status, result)) :
    s.mailRow op run = .next (u.respondMail (t.mailTaken (s.get R.MGMT_CMD_PTR F.MGMT_CMD_PTR_HEAD)).pair.nextMirror
      (leNat ((e.drop 4).take 4)) status result) := by
  have hnot : ¬ (e.getD 0 0).toNat ≠ op := not_not.mpr hop
  unfold State.mailRow
  extract_lets head
  rw [if_neg (by simp [hruns, head, hne]), show s.readMail (64 * (head % 256)) 64 = (t, true, e) from hread]
  dsimp only
  rw [if_neg (by rw [hop]; simp), if_neg (by decide), if_neg hnot, if_neg (by simp [hfatal]), if_neg (by simp [hrec]),
    show run e ((t.put R.MGMT_CMD_PTR F.MGMT_CMD_PTR_HEAD (head + 1)).putFlag R.MGMT_STATUS F.MGMT_STATUS_MBX_BUSY true) = some (u, status, result) from hrun]
  rfl

section Bulk
variable {s : State} {w : Bool} {core : Nat} {ans : List SnoopAnswer} {e : List Byte}

/-- The arguments of a bulk transfer lie within R537's bounds. -/
def bulkBounds (e : List Byte) : Prop :=
  cmdArg e 16 8 % 64 = 0 ∧ cmdArg e 24 4 % 64 = 0 ∧ 0x100000 ≤ cmdArg e 24 4 ∧
    cmdArg e 28 4 % 64 = 0 ∧ 64 ≤ cmdArg e 28 4 ∧ cmdArg e 28 4 ≤ 2 ^ 20 ∧ cmdArg e 24 4 + cmdArg e 28 4 ≤ 0x1000000

theorem State.mailBulk_out (h : ¬ bulkBounds e) : State.mailBulk w core ans e s = some (s, 2, 0) := by
  unfold State.mailBulk
  refine if_pos (by_contra fun hno => h ?_)
  simp only [not_or, not_not, not_lt, inMailbox, Bool.not_eq_true', decide_eq_false_iff_not, not_le] at hno
  exact hno

/-- Nothing that a bulk transfer could reach is on the move. -/
theorem State.onTheMove_none (hb : ∀ b ∈ s.basins, b.2.moving = false) (hu : s.ras.movingUnit = none) (f : Found) : s.onTheMove f = false := by
  have hbasin : (s.basin f.basin).elim false (·.moving) = false := by
    cases h : s.basin f.basin with
    | none => rfl
    | some b =>
      rcases Tbl.get_eq_default_or_mem (fun _ => none) s.xlat.basins f.basin with hd | hm
      · exact absurd (h.symm.trans hd) (by simp)
      · have hmem : (f.basin, b) ∈ s.basins := by
          refine List.mem_filterMap.mpr ⟨_, hm, ?_⟩
          rw [show Tbl.get (fun _ => none) s.xlat.basins f.basin = some b from h]
          rfl
        exact hb _ hmem
  rw [State.onTheMove, hbasin, hu]
  rfl

theorem State.mailBulk_runs (h : bulkBounds e) (hb : ∀ b ∈ s.basins, b.2.moving = false) (hu : s.ras.movingUnit = none) :
    State.mailBulk w core ans e s = some (s.hostBulk w core (cmdArg e 8 1) (cmdArg e 16 8) (cmdArg e 24 4) 0 (cmdArg e 28 4) ans 257) := by
  obtain ⟨h1, h2, h3, h4, h5, h6, h7⟩ := h
  unfold State.mailBulk
  extract_lets t tpa buf len moving unitMoves
  have hmoving : moving = false := List.any_eq_false.mpr (fun b hm => by simp [hb b hm])
  have hunit : unitMoves = false := List.any_eq_false.mpr (fun a _ => by
    split
    · rw [State.onTheMove_none hb hu]
      decide
    · decide)
  rw [if_neg ?_, hmoving, hunit]
  · rfl
  · simp only [not_or, not_not, not_lt, inMailbox, Bool.not_eq_true', decide_eq_false_iff_not, not_le]
    exact ⟨h1, h2, h3, h4, h5, h6, h7⟩

end Bulk

/-- What PING's row runs. -/
def runPing (_ : List Byte) (t : State) : Option (State × Nat × Nat) := some (t, 0, (t.reg R.WELL_MCYCLE).toNat)

/-- What PARAM_GET's row runs. -/
def runParamGet (e : List Byte) (t : State) : Option (State × Nat × Nat) :=
  if 1 ≤ cmdArg e 8 2 ∧ cmdArg e 8 2 ≤ 8 then some (t, 0, t.param (cmdArg e 8 2)) else some (t, 2, 0)

/-- A parameter's value waits for the next management cycle. -/
def State.paramWaits (s : State) (p v : Nat) : State :=
  { s with mgmt := { s.mgmt with newParams := (p, v) :: s.mgmt.newParams.filter (fun x => x.1 != p) } }

/-- What PARAM_SET's row runs. -/
def runParamSet (e : List Byte) (t : State) : Option (State × Nat × Nat) :=
  if t.paramOk (cmdArg e 8 2) (cmdArg e 16 8) then some (t.paramWaits (cmdArg e 8 2) (cmdArg e 16 8), 0, 0) else some (t, 2, 0)

section Params
variable {e : List Byte} {t : State}

theorem runParamGet_listed (h : 1 ≤ cmdArg e 8 2 ∧ cmdArg e 8 2 ≤ 8) : runParamGet e t = some (t, 0, t.param (cmdArg e 8 2)) := if_pos h

theorem runParamGet_unlisted (h : ¬ (1 ≤ cmdArg e 8 2 ∧ cmdArg e 8 2 ≤ 8)) : runParamGet e t = some (t, 2, 0) := if_neg h

theorem runParamSet_inRange (h : t.paramOk (cmdArg e 8 2) (cmdArg e 16 8) = true) :
    runParamSet e t = some (t.paramWaits (cmdArg e 8 2) (cmdArg e 16 8), 0, 0) := if_pos h

theorem runParamSet_outOfRange (h : ¬ t.paramOk (cmdArg e 8 2) (cmdArg e 16 8) = true) : runParamSet e t = some (t, 2, 0) := if_neg h

end Params

theorem exec_ping (s : State) : exec .ping s = s.mailRow 6 runPing := rfl

theorem exec_paramGet (s : State) : exec .paramGet s = s.mailRow 2 runParamGet := rfl

theorem exec_paramSet (s : State) : exec .paramSet s = s.mailRow 1 runParamSet := rfl

section Flash
variable {s : State} {readsBack hold : Bool} {e : List Byte}

/-- What a firmware slot is to hold: the bytes of the mailbox read at a command's arguments. -/
def flashImage (e : List Byte) (r : LineRead) : List Byte := (r.data.drop (cmdArg e 24 4 % 64)).take (cmdArg e 28 4)

/-- A slot written, read back and preferred. -/
def State.slotWritten (s : State) (hold : Bool) (slot : Nat) (img : List Byte) : State :=
  let s : State := { s with rst := { s.rst with burning := s.rst.burning || hold } }
  { s with flash := { s.flash.setSlot slot img with preferred := slot, magicOk := true, lastSlot := if s.flash.magicOk then s.flash.lastSlot else 0 } }

theorem Flash.slot_setSlot (f : Flash) {n : Nat} (img : List Byte) : (f.setSlot n img).slot n = img := by
  unfold Flash.slot Flash.setSlot
  split <;> rfl

theorem State.slot_slotWritten (slot : Nat) (img : List Byte) : (s.slotWritten hold slot img).flash.slot slot = img := s.flash.slot_setSlot img

theorem State.flashWrite_out (h : 2 ≤ cmdArg e 8 1 ∨ 32 * 2 ^ 20 < cmdArg e 24 4 + cmdArg e 28 4 ∨ 8 * 2 ^ 20 < cmdArg e 28 4) :
    State.flashWrite readsBack hold e s = some (s, 2, 0) := if_pos h

section Within
variable {t u : State} {r : LineRead} (hslot : cmdArg e 8 1 < 2) (hend : cmdArg e 24 4 + cmdArg e 28 4 ≤ 32 * 2 ^ 20) (hlen : cmdArg e 28 4 ≤ 8 * 2 ^ 20)
  (hread : s.readBar2 (cmdArg e 24 4 / 64 * 64) ((cmdArg e 24 4 % 64 + cmdArg e 28 4 + 63) / 64) = (t, r)) (hclean : r.poison = false) (hok : r.stat = .ok)
include hslot hend hlen hread hclean hok

theorem State.flashWrite_refused (hv : t.verifyFw (flashImage e r) = (u, none)) : State.flashWrite readsBack hold e s = some (u, 7, 0) := by
  unfold State.flashWrite
  extract_lets slot buf len
  rw [if_neg (by omega), show s.readBar2 (buf / 64 * 64) ((buf % 64 + len + 63) / 64) = (t, r) from hread]
  dsimp only
  rw [if_neg (by simp [hclean, hok]), show t.verifyFw ((r.data.drop (buf % 64)).take len) = (u, none) from hv]

theorem State.flashWrite_written {x : FwImage} (hv : t.verifyFw (flashImage e r) = (u, some x)) :
    State.flashWrite true hold e s = some (u.slotWritten hold (cmdArg e 8 1) (flashImage e r), 0, 0) := by
  unfold State.flashWrite
  extract_lets slot buf len
  rw [if_neg (by omega), show s.readBar2 (buf / 64 * 64) ((buf % 64 + len + 63) / 64) = (t, r) from hread]
  dsimp only
  rw [if_neg (by simp [hclean, hok]), show t.verifyFw ((r.data.drop (buf % 64)).take len) = (u, some x) from hv]
  rfl

end Within
end Flash

/-! ### Event reports (R541 to R543) -/

/-- A unit's oldest message taken out of its queue. -/
def State.reportTaken (s : State) (a : Nat) (rest : List (Nat × EvMsg)) : State :=
  s.setEvUnit a (EvUnit.pumpAlarms { s.evUnit a with queue := rest } a)

theorem State.stewardUp_reportTaken (s : State) (a q : Nat) (l : List (Nat × EvMsg)) : (s.reportTaken a l).stewardUp q = s.stewardUp q := (rfl)

/-- A report as its unit's message. -/
def reportMsg (r : Report) : EvMsg :=
  { kind := r.kind, sev := r.sev, code := r.code.toNat, count := if r.kind.val = 0 then 1 else 0, cycles := r.cycles.toNat, data := r.data }

section Events
variable {source : BitVec 16} {s : State} (hpath : reports source.toNat = true)
include hpath

theorem exec_event_alarm {r : Report} (hk : r.kind = 0) (hc : r.code.toNat < 64) :
    exec (.event source (some r)) s = .next (s.queueReport source.toNat source.toNat (reportMsg r)) := by
  show execEvent source (some r) s = _
  unfold execEvent
  extract_lets a q
  rw [if_neg (by simp [a, hpath])]
  dsimp only
  rw [if_pos (by simp [hk]), if_pos hc]
  rfl

theorem exec_event_sent {r : Report} (hk : r.kind ≠ 0) (hmask : r.kind = 2 → bitOf (s.get R.MGMT_TRACE F.MGMT_TRACE_MASK) r.trace = true) :
    exec (.event source (some r)) s = .next (if (s.stormPass source.toNat r.code.toNat).2
      then (s.stormPass source.toNat r.code.toNat).1.queueReport source.toNat source.toNat (reportMsg r) else (s.stormPass source.toNat r.code.toNat).1) := by
  show execEvent source (some r) s = _
  unfold execEvent
  extract_lets a q
  rw [if_neg (by simp [a, hpath])]
  dsimp only
  rw [if_neg (fun h : r.kind.val = 0 => hk (Fin.ext h)), if_neg (fun h : r.kind.val = 2 ∧ _ => by
    have := hmask (Fin.ext h.1)
    simp [this] at h)]
  show (match s.stormPass a r.code.toNat with | (s, false) => _ | (s, true) => _) = _
  generalize s.stormPass source.toNat r.code.toNat = x
  obtain ⟨t, b⟩ := x
  cases b <;> rfl

theorem exec_event_masked {r : Report} (hk : r.kind = 2) (hmask : bitOf (s.get R.MGMT_TRACE F.MGMT_TRACE_MASK) r.trace = false) :
    exec (.event source (some r)) s = .next s := by
  show execEvent source (some r) s = _
  unfold execEvent
  extract_lets a q
  rw [if_neg (by simp [a, hpath])]
  dsimp only
  rw [if_neg (by simp [hk]), if_pos (by simp [hk, hmask])]

section Hop
variable {src : Nat} {m : EvMsg} {rest : List (Nat × EvMsg)} (hq : (s.evUnit source.toNat).queue = (src, m) :: rest)
include hq

theorem execEvent_hop : execEvent source none s =
    let t := s.reportTaken source.toNat rest
    let q := quadOfAddr source.toNat
    if isSteward source.toNat || !t.stewardUp q then
      .next (State.raiseWell (t.takeReport src
        { m with stamp := m.stamp.or (if isSteward source.toNat then some (t.core (4 + q)).mcycle else none) }) 3)
    else .next ((t.queueReport (coreAddr (4 + q)) src m).raiseIrq (stewardCore q) 3) := by
  unfold execEvent
  extract_lets a q
  rw [if_neg (by simp [a, hpath])]
  dsimp only
  have h : (s.evUnit a).queue = (src, m) :: rest := hq
  rw [h]
  rfl

end Hop
end Events

/-! ### Snapshots (R546) -/

section Snapshot
variable {s : State}

theorem exec_start_busy (h : s.mgmt.snap ≠ none) : exec .start s = .next (s.setErr R.MGMT_ERR F.MGMT_ERR_SNAP_REFUSED) :=
  if_pos (Option.isSome_iff_ne_none.mpr h)

/-- The snapshot that the next epoch begins. -/
def State.nextSnap (s : State) : Snap :=
  { epoch := (s.get R.MGMT_SNAP F.MGMT_SNAP_EPOCH + 1) % 2 ^ 32, done := [], start := (s.reg R.WELL_MCYCLE).toNat, incomplete := false }

theorem exec_start_begins (h : s.mgmt.snap = none) :
    ∃ u : State, exec .start s = .next { u with mgmt := { u.mgmt with snap := some s.nextSnap } } :=
  ⟨_, if_neg (by simp [h])⟩

theorem exec_marker {unit : Fin 504} {lost : Bool} {x : Snap} (h : s.mgmt.snap = some x) :
    exec (.marker unit lost) s = .next ((s.latchUnit unit lost).send (.result "MARKER" [unit, x.epoch])) := by
  show execMarker unit lost s = _
  unfold execMarker
  rw [h]

end Snapshot

/-! ### The dump (R553 to R555) -/

/-- A fatal error shown (R553). -/
def State.fatalShown (s : State) (c : Nat) : State :=
  (State.interruptIf s (((if c = 2 then s.setErr R.WELL_ERR F.WELL_ERR_SRAM_UE else s).putFlag R.GLOB_STATUS F.GLOB_STATUS_FATAL true).put
    R.GLOB_STATUS F.GLOB_STATUS_FATAL_CAUSE c) 2).setPhase 5

/-- Steps 1 and 2 of R498 taken before the dump. -/
def State.fatalStopped (s : State) : State :=
  (List.range 396).foldl (fun s u => s.endTests u) ((List.range 8).foldl (fun s p => s.restartPort p) s).closeInlets.ackMirror.answerHomes

/-- INFO of a fatal error. -/
def State.fatalInfo (s : State) (cause : BitVec 8) (info : Word) : Nat :=
  if cause.toNat = 1 then ((List.range 4).find? (fun i => (s.core i).st == .stopped)).elim 0 (fun k => (s.core k).eval) else info.toNat

/-- What a fatal error keeps of the moment it comes in. -/
def State.fatalRecord (s : State) (c i core : Nat) : Fatal :=
  { cause := c, info := i, core := core, mcycle := (s.reg R.WELL_MCYCLE).toNat, resets := (s.reg R.RST_CAUSE).toNat }

def State.setFatal (s : State) (f : Fatal) : State := { s with mgmt := { s.mgmt with fatal := some f } }

theorem exec_fatalError {cause : BitVec 8} {info : Word} {s : State} {core : Nat} (hcore : s.dumpCore = some core) (hfatal : s.isFatal = false)
    (hcause : s.fatalCause cause.toNat = true) (hruns : s.wellRuns = true) : ∃ t : State,
      exec (.fatalError cause info) s = .next ((t.fatalStopped.setFatal (t.fatalRecord cause.toNat (s.fatalInfo cause info) core)).dumpHeader 0 0 []) := by
  refine ⟨(s.fatalShown cause.toNat).sendGoodbye 1 cause.toNat (s.fatalInfo cause info), ?_⟩
  show execFatalError cause info s = _
  unfold execFatalError
  split
  · next h => rw [hcore] at h; cases h
  · next c h =>
    obtain rfl : core = c := Option.some_inj.mp (hcore.symm.trans h)
    rw [if_neg (by simp [hfatal, hcause, hruns])]
    dsimp only [State.fatalStopped, State.setFatal, State.fatalRecord, State.fatalInfo, State.fatalShown]

theorem State.fatal_spared : Spared (fun _ => True) (fun s => s.mgmt.fatal) where
  covers _ _ := trivial
  setReg _ _ _ _ := rfl
  send _ _ := rfl
  tick _ := rfl
  setCore _ _ _ := rfl
  setChan _ _ _ := rfl
  pool _ _ := rfl
  mgmt _ _ h := h
  fab _ _ := rfl
  pair _ _ := rfl
  ras _ _ := rfl
  xlat _ _ := rfl

theorem Spared.writeBar2 {loud : Nat → Prop} {β : Type} {p : State → β} (hp : Spared loud p) (s : State) (o : Nat) (bs : List Byte) :
    p (s.writeBar2 o bs) = p s := foldl_keeps p _ _ (fun _ _ _ => hp.writeLine _ _ _ _ _ _ _)

theorem Spared.dumpHeader {loud : Nat → Prop} {β : Type} {p : State → β} (hp : Spared loud p) (s : State)
    (flags queue : Nat) (cut : List (Nat × Nat)) : p (s.dumpHeader flags queue cut) = p s := by
  unfold State.dumpHeader
  split
  · rfl
  · exact hp.writeBar2 _ _ _

/-- The dump finished: DUMP_VALID, and vector 2. -/
def State.dumpEnds (s : State) : State := (s.putFlag R.GLOB_STATUS F.GLOB_STATUS_DUMP_VALID true).interrupt 2

theorem not_noisy_globStatus : ¬ noisy R.GLOB_STATUS := by
  unfold noisy
  decide

theorem State.dumpValid_dumpEnds (s : State) : s.dumpEnds.flag R.GLOB_STATUS F.GLOB_STATUS_DUMP_VALID = true :=
  (State.flag_congr ((State.reg_spared not_noisy_globStatus).interrupt _ _) _).trans (State.flag_putFlag_same _ _ _ _ (by decide) (by decide))

theorem exec_dumpDone {queue : BitVec 26} {cut : List (Fin 8 × BitVec 26)} {s : State} (hfatal : s.mgmt.fatal ≠ none)
    (hvalid : s.flag R.GLOB_STATUS F.GLOB_STATUS_DUMP_VALID = false) (hcore : s.dumpCore ≠ none) :
    ∃ t : State, exec (.dumpDone queue cut) s = .next t.dumpEnds :=
  ⟨_, if_neg (by simp [hfatal, hvalid, hcore])⟩

/-! ### Frames of the rack management ring (R550, R551) -/

section Frames
variable {ring : Fin 2} {f : List Byte} {s : State}

/-- A heartbeat of the partner has arrived on a ring. -/
def State.heard (s : State) (ring : Fin 2) : State :=
  { s with mgmt := if ring = 0 then { s.mgmt with hb0 := some 0 } else { s.mgmt with hb1 := some 0 } }

/-- What a heartbeat's STATE byte tells of the partner. -/
def State.toldExposed (s : State) (st : Nat) : State := if st = 2 ∨ st = 3 then { s with pair := { s.pair with partnerExposed := st == 3 } } else s

theorem exec_heartbeat_partner (ht : s.takes f = true) (htype : frameAt f 2 = 1)
    (hsrc : frameAt f 1 = s.get R.MGMT_RING_CFG F.MGMT_RING_CFG_PARTNER) (hgood : s.pair.goodbye = false) :
    exec (.heartbeatFrame ring f) s = .next ((((s.bump R.MGMT_CNT_RING_RX).heard ring).showSeen.toldExposed (frameAt f 12)).setRingOk true) := by
  show execHeartbeatFrame ring f s = _
  unfold execHeartbeatFrame
  rw [if_neg (by simp [ht, htype])]
  have hpartner : (s.bump R.MGMT_CNT_RING_RX).get R.MGMT_RING_CFG F.MGMT_RING_CFG_PARTNER = s.get R.MGMT_RING_CFG F.MGMT_RING_CFG_PARTNER :=
    State.get_bump_ne _ _ _ _ _ (by decide)
  rw [if_neg (by rw [hpartner, not_not]; exact hsrc)]
  show Host.Outcome.next (if ((((s.bump R.MGMT_CNT_RING_RX).heard ring).showSeen).toldExposed (frameAt f 12)).pair.goodbye then _ else _) = _
  have hbye : ((((s.bump R.MGMT_CNT_RING_RX).heard ring).showSeen).toldExposed (frameAt f 12)).pair.goodbye = false :=
    keeps_ite (fun t => t.pair.goodbye) hgood hgood
  rw [if_neg (by rw [hbye]; decide)]
  rfl

theorem exec_heartbeat_other (ht : s.takes f = true) (htype : frameAt f 2 = 1)
    (hsrc : frameAt f 1 ≠ s.get R.MGMT_RING_CFG F.MGMT_RING_CFG_PARTNER) : exec (.heartbeatFrame ring f) s = .next (s.bump R.MGMT_CNT_RING_RX) := by
  show execHeartbeatFrame ring f s = _
  unfold execHeartbeatFrame
  rw [if_neg (by simp [ht, htype])]
  refine if_pos ?_
  rw [State.get_bump_ne _ _ _ _ _ (by decide)]
  exact hsrc

/-- With no write kept there is none to serve. -/
theorem State.serveKept_of_noneKept (h : s.pair.kept = []) : s.serveKept = s := by
  have hpair : { s.pair with kept := [] } = s.pair := by rw [← h]
  unfold State.serveKept
  rw [h, hpair]
  exact ite_self s

/-- The state that a heartbeat of the partner leaves where no shadow write is kept. -/
def State.heartbeatTaken (s : State) (ring : Fin 2) (st : Nat) : State :=
  (((s.bump R.MGMT_CNT_RING_RX).heard ring).showSeen.toldExposed st).putFlag R.PAIR_STATUS F.PAIR_STATUS_RING_OK true

section Heard
variable {st : Nat}

theorem State.toldExposed_keeps {β : Type} {p : State → β} (hpair : ∀ (s : State) q, p { s with pair := q } = p s) : p (s.toldExposed st) = p s :=
  keeps_ite p (hpair _ _) rfl

theorem State.setRingOk_heard (h : s.pair.kept = []) :
    ((((s.bump R.MGMT_CNT_RING_RX).heard ring).showSeen).toldExposed st).setRingOk true = s.heartbeatTaken ring st :=
  State.serveKept_of_noneKept (keeps_ite (fun t : State => t.pair.kept) h h)

theorem State.ringOk_heartbeatTaken : (s.heartbeatTaken ring st).ringOk = true := State.flag_putFlag_same _ _ _ _ (by decide) (by decide)

theorem State.mgmt_heartbeatTaken : (s.heartbeatTaken ring st).mgmt = (s.heard ring).mgmt :=
  (State.putFlag_mgmt _ _ _ _).trans (State.toldExposed_keeps (p := State.mgmt) (fun _ _ => rfl))

theorem State.pool_heartbeatTaken : (s.heartbeatTaken ring st).pool = s.pool :=
  (State.putFlag_pool _ _ _ _).trans (State.toldExposed_keeps (p := State.pool) (fun _ _ => rfl))

theorem State.exposed_heartbeatTaken :
    (s.heartbeatTaken ring st).pair.partnerExposed = if st = 2 ∨ st = 3 then st == 3 else s.pair.partnerExposed := by
  rw [State.heartbeatTaken, State.putFlag_pair, State.toldExposed]
  split <;> rfl

theorem State.ringMiss_heartbeatTaken : (s.heartbeatTaken ring st).get R.PAIR_CFG F.PAIR_CFG_RING_MISS = s.get R.PAIR_CFG F.PAIR_CFG_RING_MISS := by
  have htold : ∀ t : State, (t.toldExposed st).get R.PAIR_CFG F.PAIR_CFG_RING_MISS = t.get R.PAIR_CFG F.PAIR_CFG_RING_MISS :=
    fun t => State.toldExposed_keeps (p := fun t => t.get R.PAIR_CFG F.PAIR_CFG_RING_MISS) (fun _ _ => rfl)
  have hheard : ∀ t : State, (t.heard ring).get R.PAIR_CFG F.PAIR_CFG_RING_MISS = t.get R.PAIR_CFG F.PAIR_CFG_RING_MISS := fun _ => rfl
  rw [State.heartbeatTaken, State.putFlag, State.get_put_ne _ _ _ _ _ _ (by decide), htold, State.showSeen, State.get_put_ne _ _ _ _ _ _ (by decide), hheard,
    State.get_bump_ne _ _ _ _ _ (by decide)]

theorem State.hb_heartbeatTaken :
    (if ring = 0 then (s.heartbeatTaken ring st).mgmt.hb0 else (s.heartbeatTaken ring st).mgmt.hb1) = some 0 := by
  rw [State.mgmt_heartbeatTaken, State.heard]
  split <;> rfl

theorem State.seenOn_heartbeatTaken :
    (s.heartbeatTaken ring st).seenOn (if ring = 0 then (s.heartbeatTaken ring st).mgmt.hb0 else (s.heartbeatTaken ring st).mgmt.hb1) =
      decide (0 < s.get R.PAIR_CFG F.PAIR_CFG_RING_MISS) := by
  rw [State.hb_heartbeatTaken, State.seenOn, State.ringMiss_heartbeatTaken]
  rfl

end Heard

/-- The configuration of the ring and of the levels stands while a frame is counted. -/
theorem State.reg_ringRx {o : Nat} (h : o ≠ R.MGMT_CNT_RING_RX) : (s.bump R.MGMT_CNT_RING_RX).reg o = s.reg o := State.reg_bump_ne _ _ _ _ h

section Reset
variable (ht : s.takes f = true) (htype : frameAt f 2 = 3)
include ht htype

/-- A frame asks for a reset here, with the code set here. -/
def State.resetMine (s : State) (f : List Byte) : Prop :=
  frameAt f 0 = s.station ∧ leNat ((f.drop 4).take 2) = s.get R.MGMT_RING_CFG F.MGMT_RING_CFG_RSTCODE ∧
    s.get R.MGMT_RING_CFG F.MGMT_RING_CFG_RSTCODE ≠ 0

theorem exec_resetFrame_mine (hmine : s.resetMine f) : exec (.resetFrame ring f) s = .next ((s.bump R.MGMT_CNT_RING_RX).raiseAt 10
    (if frameAt f 6 = 2 ∧ s.levelFor 10 = some 1 then some 2 else s.levelFor 10)) := by
  have hlevel : (s.bump R.MGMT_CNT_RING_RX).levelFor 10 = s.levelFor 10 := by
    rw [State.levelFor, State.reg_ringRx (by decide)]
    rfl
  refine (if_neg (by simp [ht, htype])).trans ((if_pos ?_).trans ?_)
  · simp only [State.station, State.get, State.reg_ringRx (s := s) (o := R.MGMT_RING_CFG) (by decide)]
    exact hmine
  · simp only [hlevel]

theorem exec_resetFrame_refused (hmine : ¬ s.resetMine f) :
    exec (.resetFrame ring f) s = .next ((s.bump R.MGMT_CNT_RING_RX).setErr R.MGMT_ERR F.MGMT_ERR_RING_RESET_REFUSED) := by
  refine (if_neg (by simp [ht, htype])).trans (if_neg ?_)
  simp only [State.station, State.get, State.reg_ringRx (s := s) (o := R.MGMT_RING_CFG) (by decide)]
  exact hmine

end Reset

section Forward
variable (hopen : s.bypassOpen = true)
include hopen

theorem exec_forward_badCrc (h : frameOk f = false) : exec (.ringFrameForward ring f) s = .next (s.bump R.MGMT_CNT_RING_CRC) :=
  (if_neg (by simp [hopen])).trans (if_pos (by simp [h]))

/-- A frame with one hop fewer, its CRC made again. -/
def frameOn (f : List Byte) : List Byte :=
  let b := f.take 3 ++ leBytes (frameAt f 3 - 1) 1 ++ (f.drop 4).take 56
  b ++ leBytes (crc32 b) 4

variable (hok : frameOk f = true) (htakes : s.takes f = false)
include hok htakes

theorem execRingFrameForward_of_untaken : execRingFrameForward ring f s =
    if frameAt f 1 = s.station ∨ frameAt f 0 = s.station ∨ frameAt f 3 ≤ 1 then .next s else .next (s.send (.ring ring (frameOn f))) := by
  have htaken : ¬ (s.takes f = true ∧ (!([1, 2, 3].contains (frameAt f 2))) = true) := by simp [htakes]
  unfold execRingFrameForward
  rw [if_neg (by simp [hopen]), if_neg (by simp [hok]), if_neg htaken]
  rfl

theorem exec_forward_on (h1 : frameAt f 1 ≠ s.station) (h0 : frameAt f 0 ≠ s.station) (hhops : 1 < frameAt f 3) :
    exec (.ringFrameForward ring f) s = .next (s.send (.ring ring (frameOn f))) :=
  (execRingFrameForward_of_untaken hopen hok htakes).trans (if_neg (by omega))

theorem exec_forward_ends (h : frameAt f 1 = s.station ∨ frameAt f 3 ≤ 1) : exec (.ringFrameForward ring f) s = .next s :=
  (execRingFrameForward_of_untaken hopen hok htakes).trans (if_pos (by omega))

end Forward

end Frames

/-! ### The statement -/

/-- Settles O59: a clause for a function level reset, each row of the mailbox, event reports, snapshots, the ring's frames, fatal errors and the dump, each by the
lemmas of its command. -/
theorem mailboxEventsRingAndDump : Obligations.MailboxEventsRingAndDump := by
  unfold Obligations.MailboxEventsRingAndDump
  refine ⟨?flr, ?tail, ?rows, ?bulk, ?flash, ?head, ?report, ?toSteward, ?toWell, ?start, ?marker, ?frames, ?forward, ?sync, ?fatal, ?dump, ?steward⟩
  case flr =>
    intro s
    exact ⟨_, exec_flr s, (State.flag_putFlag_ne _ _ _ _ (by decide)).trans (State.flag_putFlag_same _ _ _ _ (by decide) (by decide)), (rfl), (rfl),
      State.reg_flrDone s (by decide) (by decide) (by decide), State.reg_flrDone s (by decide) (by decide) (by decide), (rfl), (rfl)⟩
  case tail =>
    intro tail staged s t ahead
    exact ⟨fun h => if_pos h, fun h => if_neg (Nat.not_lt.mpr h)⟩
  case rows =>
    intro s e head rd hruns hne hok he hfatal hrec t done p
    have hread : s.readMail (64 * (head % 256)) 64 = (rd.1, true, e) := Prod.ext rfl (Prod.ext hok he)
    have hrow : ∀ (n : Nat) {op : BitVec 8} {run : List Byte → State → Option (State × Nat × Nat)} {u : State} {status result : Nat},
        op.toNat = n → e.getD 0 0 = op → run e t = some (u, status, result) → s.mailRow n run = done u status result :=
      fun n op _ _ _ _ hn hop => State.mailRow_runs hruns hne hread hfatal hrec ((congrArg BitVec.toNat hop).trans hn)
    refine ⟨fun hop => (exec_ping s).trans (hrow 6 rfl hop rfl), fun hop => (exec_paramGet s).trans ?get, fun hop => (exec_paramSet s).trans ?set,
      fun core ans u status result => ⟨fun hop => hrow 3 rfl hop, fun hop => hrow 4 rfl hop⟩, fun readsBack hold u status result hop => hrow 5 rfl hop⟩
    case get =>
      split
      · next h => exact hrow 2 rfl hop (runParamGet_listed h)
      · next h => exact hrow 2 rfl hop (runParamGet_unlisted h)
    case set =>
      split
      · next h => exact hrow 1 rfl hop (runParamSet_inRange h)
      · next h => exact hrow 1 rfl hop (runParamSet_outOfRange h)
  case bulk =>
    intro w core ans e s tpa buf len
    exact ⟨fun h => State.mailBulk_out fun ⟨h1, h2, h3, h4, h5, h6, h7⟩ => by omega,
      fun h1 h2 h3 h4 h5 h6 h7 => State.mailBulk_runs ⟨h1, h2, h3, h4, h5, h6, h7⟩⟩
  case flash =>
    intro hold readsBack e s slot buf len rd img
    refine ⟨State.flashWrite_out, fun h1 h2 h3 hp hs => ⟨fun hv => ?_, fun hv => ?_⟩⟩
    · exact State.flashWrite_refused h1 h2 h3 (Prod.ext rfl rfl) hp hs (Prod.ext rfl hv)
    · obtain ⟨x, hx⟩ := Option.ne_none_iff_exists'.mp hv
      exact ⟨_, State.flashWrite_written h1 h2 h3 (Prod.ext rfl rfl) hp hs (Prod.ext rfl hx), State.slot_slotWritten _ _, rfl, rfl, rfl⟩
  case head =>
    intro head s d
    exact ⟨fun h => if_pos h, fun h => if_neg (Nat.not_lt.mpr h)⟩
  case report =>
    intro source r s hpath a m p
    exact ⟨exec_event_alarm hpath, exec_event_sent hpath, exec_event_masked hpath⟩
  case toSteward =>
    intro source src m rest s hpath hsteward hq hup u t
    exact (execEvent_hop hpath hq).trans (if_neg (by rw [State.stewardUp_reportTaken, hsteward, hup]; decide))
  case toWell =>
    intro source src m rest s hpath hq hlost t stamp
    refine (execEvent_hop hpath hq).trans (if_pos ?_)
    rw [State.stewardUp_reportTaken]
    simpa using hlost
  case start =>
    intro s
    refine ⟨exec_start_busy, fun h => ?_⟩
    obtain ⟨u, hu⟩ := exec_start_begins h
    exact ⟨_, hu, _, rfl, rfl, rfl, rfl⟩
  case marker =>
    intro unit lost s x h
    exact exec_marker h
  case frames =>
    intro ring f s ht t code mine
    refine ⟨fun htype hsrc hgood => ⟨_, exec_heartbeat_partner ht htype hsrc hgood, fun hk => ?_⟩, exec_heartbeat_other ht,
      exec_resetFrame_mine ht, exec_resetFrame_refused ht⟩
    rw [State.setRingOk_heard hk]
    exact ⟨State.ringOk_heartbeatTaken, by rw [State.seenOn_heartbeatTaken]; simp, State.exposed_heartbeatTaken, State.pool_heartbeatTaken⟩
  case forward =>
    intro ring f s hopen
    exact ⟨exec_forward_badCrc hopen, exec_forward_on hopen, exec_forward_ends hopen⟩
  case sync =>
    intro ring s
    exact ⟨fun h => if_pos h, rfl⟩
  case fatal =>
    intro cause info s hcore hfatal hcause hruns
    obtain ⟨core, hc⟩ := Option.ne_none_iff_exists'.mp hcore
    obtain ⟨t, ht⟩ := exec_fatalError (info := info) hc hfatal hcause hruns
    exact ⟨_, ht, _, State.fatal_spared.dumpHeader _ _ _ _, rfl, hc⟩
  case dump =>
    intro queue cut s hfatal hvalid hcore
    obtain ⟨t, ht⟩ := exec_dumpDone (queue := queue) (cut := cut) hfatal hvalid hcore
    exact ⟨_, ht, t.dumpValid_dumpEnds⟩
  case steward =>
    intro q s hmisses hup t
    refine if_neg ?_
    rw [not_or, hup]
    exact ⟨not_lt.mpr hmisses, by decide⟩

end Sys2Proof.Machine
end
